-- ==== Sys2Proof/Word.lean ====
section
/-! DEFINITION. Bytes and words: byte strings, little-endian numbers (R4), two's complement (R5), rounding, and the two
cyclic codes that the spec writes out (R255, R630). -/

namespace Sys2Proof

/-- One byte of a frame, a page or a dictionary value. -/
abbrev Byte := BitVec 8

/-- A byte string, first byte first. -/
abbrev Octets := List Byte

/-- The `n` little-endian bytes of `v` (R4). -/
def leBytes : Nat → Nat → Octets
  | 0, _ => []
  | n + 1, v => BitVec.ofNat 8 v :: leBytes n (v / 256)

/-- The number that little-endian bytes spell (R4). -/
def leNat : Octets → Nat
  | [] => 0
  | b :: bs => b.toNat + 256 * leNat bs

/-- The number that big-endian bytes spell. -/
def beNat (bs : Octets) : Nat := leNat bs.reverse

/-- The `n` big-endian bytes of `v`. -/
def beBytes (n v : Nat) : Octets := (leBytes n v).reverse

/-- `n` bytes from `off` on. -/
def slice (off n : Nat) (bs : Octets) : Octets := (bs.drop off).take n

/-- `bs` cut or filled with 0x00 to exactly `n` bytes. -/
def padTo (n : Nat) (bs : Octets) : Octets := (bs ++ List.replicate n 0).take n

/-- Byte `i`, 0x00 beyond the end. -/
def byteAt (bs : Octets) (i : Nat) : Nat := (bs.getD i 0).toNat

/-- The U16 at byte `i` (R4). -/
def u16At (bs : Octets) (i : Nat) : Nat := byteAt bs i + 256 * byteAt bs (i + 1)

/-- `bs` with the bytes from `off` on replaced by `v` (`off + v.length` within `bs`). -/
def splice (off : Nat) (v bs : Octets) : Octets := bs.take off ++ v ++ bs.drop (off + v.length)

/-- One byte. -/
def u8 (v : Nat) : Octets := leBytes 1 v
/-- Two little-endian bytes. -/
def u16 (v : Nat) : Octets := leBytes 2 v
/-- Four little-endian bytes. -/
def u32 (v : Nat) : Octets := leBytes 4 v
/-- Eight little-endian bytes. -/
def u64 (v : Nat) : Octets := leBytes 8 v

/-- Signed reading of a `w`-bit number (R5). -/
def toSigned (w v : Nat) : Int :=
  if v % 2 ^ w < 2 ^ (w - 1) then ((v % 2 ^ w : Nat) : Int) else ((v % 2 ^ w : Nat) : Int) - ((2 ^ w : Nat) : Int)

/-- The `w`-bit two's complement of `i` (R5). -/
def ofSigned (w : Nat) (i : Int) : Nat := (i % ((2 ^ w : Nat) : Int)).toNat

/-- Division rounding up; 0 for a zero divisor. -/
def ceilDiv (a b : Nat) : Nat := (a + b - 1) / b

/-- `num / den` rounded to nearest, halves away from zero. -/
def roundAway (num : Int) (den : Nat) : Int :=
  if 0 ≤ num then (2 * num + den) / (2 * (den : Int)) else -((2 * (-num) + den) / (2 * (den : Int)))

/-- `num / den` truncated toward zero. -/
def truncDiv (num : Int) (den : Nat) : Int := Int.tdiv num den

/-- `v` held between `lo` and `hi`. -/
def clamp (lo hi v : Int) : Int := if v < lo then lo else if hi < v then hi else v

/-- Increment that stops at `top`. -/
def satInc (top v : Nat) : Nat := if v < top then v + 1 else v

/-- One bit of the reflected CRC register of R630. -/
def crc16Bit (c : Nat) : Nat := if c % 2 = 1 then (c / 2) ^^^ 0x8408 else c / 2

/-- One byte into the register, bit 0 first (R630). -/
def crc16Byte (c : Nat) (b : Byte) : Nat :=
  crc16Bit (crc16Bit (crc16Bit (crc16Bit (crc16Bit (crc16Bit (crc16Bit (crc16Bit (c ^^^ b.toNat))))))))

/-- The line and host-port CRC-16 of R630: reflected 0x8408, preset 0xFFFF, no final inversion. -/
def crc16 (bs : Octets) : Nat := bs.foldl crc16Byte 0xFFFF

/-- The CRC-16 of ISO/IEC 15693-3 (R175): the same register, inverted at the end. -/
def crc15693 (bs : Octets) : Nat := crc16 bs ^^^ 0xFFFF

/-- CRC_A of ISO/IEC 14443-3 (R116): preset 0x6363. -/
def crcA (bs : Octets) : Nat := bs.foldl crc16Byte 0x6363

/-- One bit of the CRC-8 of R255, polynomial 0x07, most significant bit first. -/
def crc8Bit (c : Nat) : Nat := if 128 ≤ c then ((c * 2) % 256) ^^^ 0x07 else c * 2

/-- One byte into the CRC-8 register. -/
def crc8Byte (c : Nat) (b : Byte) : Nat :=
  crc8Bit (crc8Bit (crc8Bit (crc8Bit (crc8Bit (crc8Bit (crc8Bit (crc8Bit (c ^^^ b.toNat))))))))

/-- The cue word's CRC-8 (R255): initial value 0x00, no final inversion. -/
def crc8 (bs : Octets) : Nat := bs.foldl crc8Byte 0

/-- Square root rounded up: the least `r` with `r * r ≥ n`. -/
def sqrtUp (n : Nat) : Nat := bisect n 64 0 (2 ^ (Nat.log2 n / 2 + 1))
where
  /-- Bisection between `lo` (too small, or 0) and `hi` (large enough). -/
  bisect (n : Nat) : Nat → Nat → Nat → Nat
    | 0, _, hi => hi
    | f + 1, lo, hi => if n ≤ lo * lo then lo else if hi ≤ lo + 1 then hi
        else if n ≤ ((lo + hi) / 2) * ((lo + hi) / 2) then bisect n f lo ((lo + hi) / 2)
        else bisect n f ((lo + hi) / 2) hi

end Sys2Proof
end

