-- ==== Sys2Proof/Syntax.lean ====
section
/-! DEFINITION. The commands of the block: one constructor for each row of spec/opcode_table.json, with what its
surroundings supply (a measured value, received bytes, the resource concerned). Rows that execute a dictionary request
take the tenant whose command queue (R377) they serve: the request itself, with its object and value, stands at the head
of that queue in the state. -/

namespace Sys2Proof

/-- A tenant T0–T7 (R1). -/
abbrev Tenant := Fin 8
/-- A voice V0–V3 (R1). -/
abbrev VoiceId := Fin 4
/-- An antenna channel A00–A63 (R1). -/
abbrev Channel := Fin 64
/-- A metronome M0–M15 (R1). -/
abbrev MetroId := Fin 16
/-- A score slot S00–S31. -/
abbrev ScoreId := Fin 32

/-- The satellite dies, in the order of their die codes (Table 20-1). -/
inductive Die where
  | field | air | line | pocket
deriving DecidableEq, Repr

/-- The transports of dictionary requests (Table 13-4). -/
inductive Transport where
  | mesh | line | host | pocket
deriving DecidableEq, Repr

/-- One sample of a voice's receive chain, in counts at the range in force: the two axes (R84). -/
structure Sample where
  i : Int
  q : Int
deriving DecidableEq, Repr

/-- The samples of one bit cell of a reply, by its two half-cells (R86). -/
structure Cell where
  first  : List Sample
  second : List Sample
deriving DecidableEq, Repr

/-- The delimiters of a tag frame as they came (Table 5-3). `lead`: the SOF of a 15693 reply and the start bit of Type A at 106 kbit/s in
cells, the phase reference above 106 kbit/s in subcarrier cycles, TR1 of Type B in 0.01 µs. `low` and `high`: the parts of a Type B SOF
in etu; `high` also the start bit of Type A above 106 kbit/s in cells. `tail`: the EOF in cells or etu, for Type A the unmodulated cells
at the end. `guards`: the guard times between Type B characters in etu. -/
structure Delims where
  lead   : Nat
  low    : Nat
  high   : Nat
  tail   : Nat
  guards : List Nat
deriving DecidableEq, Repr

/-- A tag frame as it reaches the converter: the bit cells between its delimiters, for Type A with the parity cells, for Type B without
start and stop bits, and the delimiters. -/
structure TagFrame where
  cells  : List Cell
  delims : Delims
deriving DecidableEq, Repr

/-- What one run of a tuning measured (Table 8-1): the quantities it sets, in the order of the row, each in the unit of
its dictionary object, and whether each lay in the range of the row where the range is not a bound on the number. -/
structure Run where
  values  : List Int
  inRange : Bool
deriving DecidableEq, Repr

/-- A level on the air as the converter gives it: the power there and the gain of the on-die LNA, both in 0.25 dB (R243). -/
structure Energy where
  power : Int
  lna   : Int
deriving DecidableEq, Repr

/-- An IEEE 802.15.4 address: short or extended. -/
inductive Addr where
  | short (a : Nat) | ext (a : Nat)
deriving DecidableEq, Repr

/-- A frame as the air receiver recovered it (R266, R267): the PHR's mode switch bit, whether its FCS type is the 2-octet one, and the
octets of the PSDU, whitening taken off. -/
structure AirIn where
  modeSwitch : Bool
  shortFcs   : Bool
  psdu       : Octets
deriving DecidableEq, Repr

/-- What the receiver measured over an air frame (R242, R243): mean power over the SFD at the converter (0.25 dBm), the
on-die LNA gain (0.25 dB), the frequency offset (100 Hz), the mean symbol error measure, and the largest sample magnitude. -/
structure AirSignal where
  power  : Int
  lna    : Int
  offset : Int
  lqi    : Nat
  peak   : Nat
deriving DecidableEq, Repr

/-- A frame as the line receiver recovered it (R312, R313): its bytes, whether every cell before the end delimiter was a
valid Manchester cell, and the rate code recognised from its preamble (R309). -/
structure LineIn where
  bytes : Octets
  valid : Bool
  rate  : Nat
deriving DecidableEq, Repr

/-- What a walk saw for one address (R331): the address, whether it sank after its probe, and the tally slots with a sink. -/
structure WalkSeen where
  address : Nat
  sank    : Bool
  slots   : List Nat
deriving DecidableEq, Repr

/-- The commands, one for each row of spec/opcode_table.json, in its order: first those with operands, then those
without (the compiler numbers the former up to 244). -/
inductive Instr where
  /-- POWER_ON (R586). -/
  | powerOn (vbat vline : Nat)
  /-- BROWNOUT (R559). -/
  | brownout (vbat vline : Nat)
  /-- RESET_N_LOW (R525). -/
  | resetNLow (low : Nat)
  /-- RESET_RELEASE (R521). -/
  | resetRelease (highFor : Nat)
  /-- CONDUCTOR_START (R526). -/
  | conductorStart (lineUp : Bool)
  /-- RESET_REQUEST_TENANT (R517). -/
  | resetRequestTenant (t : Tenant)
  /-- RESET_REQUEST_FIELD (R517). -/
  | resetRequestField (t : Tenant)
  /-- RESET_REQUEST_AIR (R517). -/
  | resetRequestAir (t : Tenant)
  /-- RESET_REQUEST_LINE (R517). -/
  | resetRequestLine (t : Tenant)
  /-- RESET_REQUEST_POCKET (R517). -/
  | resetRequestPocket (t : Tenant)
  /-- RESET_REQUEST_CONDUCTOR (R515). -/
  | resetRequestConductor (t : Tenant)
  /-- RESET_REQUEST_WARM (R517). -/
  | resetRequestWarm (t : Tenant)
  /-- RESET_REQUEST_CHIP (R517). -/
  | resetRequestChip (t : Tenant)
  /-- BLOCK_RESET_BITS_WRITE (R530). -/
  | blockResetBitsWrite (t : Tenant)
  /-- VLINE_PRESENT (R554). -/
  | vlinePresent (mv : Nat)
  /-- VLINE_LOST (R554). -/
  | vlineLost (mv : Nat)
  /-- VIO_PRESENT (R587). -/
  | vioPresent (mv : Nat)
  /-- VIO_LOST (R555). -/
  | vioLost (mv : Nat)
  /-- VBAT_SAMPLE (R557). -/
  | vbatSample (mv : Nat)
  /-- SHED_END (R558). -/
  | shedEnd (mv : Nat)
  /-- WAKE (R563). -/
  | wake (source : Nat)
  /-- ENERGY_HOURLY_UPDATE (R568). -/
  | energyHourlyUpdate (vbat vline : Nat)
  /-- NEW_PACK (R569). -/
  | newPack (t : Tenant)
  /-- TEMPERATURE_READING (R37). -/
  | temperatureReading (tenths : Int)
  /-- TEMPERATURE_TERM_WRITE (R37). -/
  | temperatureTermWrite (t : Tenant)
  /-- DISCIPLINE_SETTING_WRITE (R49). -/
  | disciplineSettingWrite (t : Tenant)
  /-- FIELD_WINDOW_COMPLETE (R38). -/
  | fieldWindowComplete (cycles : Nat)
  /-- TEMPO_MEASUREMENT (R42). -/
  | tempoMeasurement (laps : Nat)
  /-- SCORE_TRIGGER (R153). -/
  | scoreTrigger (score : ScoreId)
  /-- SCORE_START_COMMAND (R153). -/
  | scoreStartCommand (t : Tenant)
  /-- SCORE_STOP_COMMAND (R153). -/
  | scoreStopCommand (t : Tenant)
  /-- STEP_RECORD_WRITE (R161). -/
  | stepRecordWrite (t : Tenant)
  /-- VOICE_GRANT (R157). -/
  | voiceGrant (v : VoiceId)
  /-- STEP_DEADLINE_EXPIRED (R158). -/
  | stepDeadlineExpired (score : ScoreId) (stepNo : Nat)
  /-- WAIT_STEP_ELAPSED (R154). -/
  | waitStepElapsed (score : ScoreId) (stepNo : Nat)
  /-- CHANNEL_SELECTED (R54). -/
  | channelSelected (v : VoiceId)
  /-- BOOST_READY (R63). -/
  | boostReady (mv : Nat)
  /-- BOOST_STOP_DONE (R64). -/
  | boostStopDone (mv : Nat)
  /-- VFLD_OVERVOLTAGE (R66). -/
  | vfldOvervoltage (mv : Nat)
  /-- VFLD_UNDERVOLTAGE (R66). -/
  | vfldUndervoltage (mv : Nat)
  /-- RAMP_UP_DONE (R69). -/
  | rampUpDone (v : VoiceId)
  /-- SETTLE_ELAPSED (R69). -/
  | settleElapsed (v : VoiceId) (measured : Nat)
  /-- SLEW_DONE (R70). -/
  | slewDone (v : VoiceId)
  /-- RAMP_DOWN_DONE (R69). -/
  | rampDownDone (v : VoiceId) (energy : Nat)
  /-- FLOOR_DWELL_ELAPSED (R71). -/
  | floorDwellElapsed (v : VoiceId)
  /-- VOICE_OVERCURRENT (R75). -/
  | voiceOvercurrent (v : VoiceId) (energy : Nat)
  /-- VOICE_ENABLE_WRITE (R76). -/
  | voiceEnableWrite (t : Tenant)
  /-- COUPLING_MAP_WRITE (R82). -/
  | couplingMapWrite (t : Tenant)
  /-- REQUEST_FRAME_START (R108). -/
  | requestFrameStart (v : VoiceId)
  /-- REQUEST_FRAME_END (R110). -/
  | requestFrameEnd (v : VoiceId)
  /-- SEPARATE_EOF_DUE (R114). -/
  | separateEofDue (v : VoiceId)
  /-- REPLY_START (R110). -/
  | replyStart (v : VoiceId) (offset : Nat) (before : List Sample) (lead sof : List Cell)
  /-- RESPONSE_WINDOW_CLOSE (R111). -/
  | responseWindowClose (v : VoiceId)
  /-- REPLY_FRAME_END (R128). -/
  | replyFrameEnd (v : VoiceId) (frame : TagFrame)
  /-- WTX_BUDGET_EXPIRED (R122). -/
  | wtxBudgetExpired (v : VoiceId)
  /-- CARD_PROBE (R135). -/
  | cardProbe (ch : Channel) (amplitude : Nat)
  /-- KEY_SUSPENSION_END (R189). -/
  | keySuspensionEnd (slot : Nat)
  /-- TUNING_START (R201). -/
  | tuningStart (t : Tenant)
  /-- TUNING_REVERT (R201). -/
  | tuningRevert (t : Tenant)
  /-- TUNING_ABORT (R223). -/
  | tuningAbort (t : Tenant)
  /-- TUNING_FIRST_RUN_DONE (R203). -/
  | tuningFirstRunDone (run : Run)
  /-- TUNING_REPEAT_DONE (R203). -/
  | tuningRepeatDone (run : Run)
  /-- AUTO_TUNING_START (R207). -/
  | autoTuningStart (kind target : Nat)
  /-- ANT_BACKGROUND_WINDOW (R214). -/
  | antBackgroundWindow (ch : Channel)
  /-- OFFSET_BACKGROUND_WINDOW (R215). -/
  | offsetBackgroundWindow (ch : Channel) (run : Run)
  /-- IQ_BACKGROUND_WINDOW (R216). -/
  | iqBackgroundWindow (v : VoiceId) (run : Run)
  /-- GAIN_BACKGROUND_WINDOW (R216). -/
  | gainBackgroundWindow (v : VoiceId) (run : Run)
  /-- SLICE_BACKGROUND_WINDOW (R217). -/
  | sliceBackgroundWindow (run : Run)
  /-- SLICE_RETIREMENT (R217). -/
  | sliceRetirement (slice : Fin 12)
  /-- REF_EDGE_TIMEOUT (R220). -/
  | refEdgeTimeout (t : Tenant)
  /-- REF_GATE_END (R220). -/
  | refGateEnd (cycles : Nat) (steady : Bool)
  /-- AIR_CLOCK_CHECK (R230). -/
  | airClockCheck (count : Nat)
  /-- AIR_SFD_FOUND (R241). -/
  | airSfdFound (peaks : List Nat)
  /-- PREAMBLE_TIMEOUT (R241). -/
  | preambleTimeout (peaks : List Nat)
  /-- AIR_RX_FRAME_END (R243). -/
  | airRxFrameEnd (frame : AirIn) (signal : AirSignal)
  /-- SEAL_REQUEST (R231). -/
  | sealRequest (t : Tenant)
  /-- SEAL_CONFIRM (R231). -/
  | sealConfirm (t : Tenant)
  /-- SEAL_WRITE_DONE (R232). -/
  | sealWriteDone (ok : Bool)
  /-- SYN_ENTRY_RUN_DONE (R246). -/
  | synEntryRunDone (run : Run)
  /-- PA_GAIN_WRITE (R251). -/
  | paGainWrite (t : Tenant)
  /-- CUE_LISTEN (R254). -/
  | cueListen (level : Int)
  /-- CUE_WORD_RECEIVED (R256). -/
  | cueWordReceived (word : Octets)
  /-- LBT_LISTEN_END (R281). -/
  | lbtListenEnd (energy : Energy)
  /-- HOME_CHANNEL_CHANGE_REQUEST (R288). -/
  | homeChannelChangeRequest (t : Tenant)
  /-- INDIRECT_EXPIRED (R290). -/
  | indirectExpired (id : Nat)
  /-- CHILD_EXPIRED (R290). -/
  | childExpired (child : Nat)
  /-- CUE_DELAY_EXPIRED (R291). -/
  | cueDelayExpired (id : Nat)
  /-- CUE_RETRY_DUE (R291). -/
  | cueRetryDue (id : Nat)
  /-- ROUTE_LAPSE (R295). -/
  | routeLapse (dest : Nat)
  /-- MESH_DUP_LAPSE (R295). -/
  | meshDupLapse (pair : Nat)
  /-- REPORT_RETRY_DUE (R283). -/
  | reportRetryDue (t : Tenant)
  /-- MESH_ADDRESS_RELEASE (R270). -/
  | meshAddressRelease (t : Tenant)
  /-- LINE_POLL_RECEIVED (R315). -/
  | linePollReceived (frame : LineIn)
  /-- LINE_EMPTY_RECEIVED (R315). -/
  | lineEmptyReceived (frame : LineIn)
  /-- LINE_DATA_RECEIVED (R315). -/
  | lineDataReceived (frame : LineIn)
  /-- LINE_ACK_RECEIVED (R315). -/
  | lineAckReceived (frame : LineIn)
  /-- LINE_NAK_RECEIVED (R315). -/
  | lineNakReceived (frame : LineIn)
  /-- LINE_TIME_RECEIVED (R325). -/
  | lineTimeReceived (frame : LineIn)
  /-- LINE_PRESENCE_RECEIVED (R326). -/
  | linePresenceReceived (frame : LineIn)
  /-- SEARCH_START_RECEIVED (R327). -/
  | searchStartReceived (frame : LineIn)
  /-- SEARCH_PASS_RECEIVED (R328). -/
  | searchPassReceived (frame : LineIn)
  /-- HEAD_SEARCH_PASS (R330). -/
  | headSearchPass (samples : List (Bool × Bool))
  /-- SEARCH_END_RECEIVED (R327). -/
  | searchEndReceived (frame : LineIn)
  /-- ASSIGN_RECEIVED (R329). -/
  | assignReceived (frame : LineIn)
  /-- HEAD_WALK (R331). -/
  | headWalk (seen : List WalkSeen)
  /-- WALK_PROBE_RECEIVED (R331). -/
  | walkProbeReceived (frame : LineIn) (rise : Nat)
  /-- WALK_TALLY_RECEIVED (R331). -/
  | walkTallyReceived (frame : LineIn)
  /-- ISOLATE_RECEIVED (R324). -/
  | isolateReceived (frame : LineIn)
  /-- RECONNECT_RECEIVED (R324). -/
  | reconnectReceived (frame : LineIn)
  /-- LINE_OVERCURRENT (R323). -/
  | lineOvercurrent (current : Nat)
  /-- SEARCH_NOW (R330). -/
  | searchNow (t : Tenant)
  /-- WALK_NOW (R331). -/
  | walkNow (t : Tenant)
  /-- ISOLATE_COMMAND (R324). -/
  | isolateCommand (t : Tenant)
  /-- RECONNECT_COMMAND (R324). -/
  | reconnectCommand (t : Tenant)
  /-- LINE_ADDRESS_RELEASE (R320). -/
  | lineAddressRelease (t : Tenant)
  /-- POCKET_HARVEST_READY (R340). -/
  | pocketHarvestReady (mv : Nat)
  /-- POCKET_VST_RESET (R340). -/
  | pocketVstReset (mv : Nat)
  /-- POCKET_REQA (R341). -/
  | pocketReqa (wupa : Bool)
  /-- POCKET_SELECT (R341). -/
  | pocketSelect (uid : Octets)
  /-- SELECT_BY_NAME (R342). -/
  | selectByName (apdu : Octets)
  /-- GET_INFO (R358). -/
  | getInfo (apdu : Octets) (vst : Nat)
  /-- READ (R359). -/
  | read (apdu : Octets)
  /-- READ_RAW (R346). -/
  | readRaw (apdu : Octets)
  /-- WRITE (R348). -/
  | write (apdu : Octets) (vst : Nat)
  /-- POCKET_COMMIT_DONE (R344). -/
  | pocketCommitDone (ok : Bool)
  /-- AUTH_BEGIN (R355). -/
  | authBegin (apdu : Octets) (present : Nat)
  /-- AUTH_FINISH (R356). -/
  | authFinish (apdu : Octets) (vst : Nat)
  /-- GET_CERT (R435). -/
  | getCert (apdu : Octets)
  /-- KEY_EXCHANGE_AGREE (R435). -/
  | keyExchangeAgree (apdu : Octets)
  /-- KEY_EXCHANGE_CONFIRM (R435). -/
  | keyExchangeConfirm (apdu : Octets) (vst : Nat)
  /-- DICT_READ (R360). -/
  | dictRead (apdu : Octets)
  /-- DICT_WRITE (R360). -/
  | dictWrite (apdu : Octets)
  /-- RESET_REQUEST (R361). -/
  | resetRequest (apdu : Octets)
  /-- END_SESSION (R353). -/
  | endSession (apdu : Octets)
  /-- SERVICE_READ (R380). -/
  | serviceRead (t : Tenant)
  /-- SERVICE_WRITE (R380). -/
  | serviceWrite (t : Tenant)
  /-- BLOCK_OPEN (R389). -/
  | blockOpen (t : Tenant)
  /-- BLOCK_DATA (R390). -/
  | blockData (t : Tenant)
  /-- BLOCK_CLOSE (R390). -/
  | blockClose (t : Tenant)
  /-- SUBSCRIBE (R392). -/
  | subscribe (t : Tenant)
  /-- UNSUBSCRIBE (R392). -/
  | unsubscribe (t : Tenant)
  /-- DESCRIBE (R380). -/
  | describe (t : Tenant)
  /-- NEXT (R380). -/
  | next (t : Tenant)
  /-- NVA_COMMIT_DONE (R374). -/
  | nvaCommitDone (ok : Bool) (page : Nat)
  /-- BLOCK_LAPSE (R389). -/
  | blockLapse (t : Tenant)
  /-- SUBSCRIPTION_INTERVAL_END (R393). -/
  | subscriptionIntervalEnd (t : Tenant) (entry : Nat)
  /-- SUBMIT (R386). -/
  | submit (sent : Octets)
  /-- FETCH_REPLY (R387). -/
  | fetchReply (sent : Octets)
  /-- FETCH_EVENT (R387). -/
  | fetchEvent (sent : Octets)
  /-- STATUS (R386). -/
  | status (sent : Octets)
  /-- TENANT_CREATE (R409). -/
  | tenantCreate (t : Tenant)
  /-- TENANT_DELETE (R412). -/
  | tenantDelete (t : Tenant)
  /-- TENANT_DELETION_COMPLETE (R412). -/
  | tenantDeletionComplete (t : Tenant)
  /-- TENANT_RESET (R410). -/
  | tenantReset (t : Tenant)
  /-- TENANT_RESET_COMPLETE (R410). -/
  | tenantResetComplete (t : Tenant)
  /-- ALLOTMENT_WRITE (R413). -/
  | allotmentWrite (t : Tenant)
  /-- KEY_IMPORT (R430). -/
  | keyImport (t : Tenant)
  /-- KEY_ERASE (R433). -/
  | keyErase (t : Tenant)
  /-- IMAGE_BEGIN (R438). -/
  | imageBegin (t : Tenant)
  /-- IMAGE_WINDOW_WRITE (R438). -/
  | imageWindowWrite (t : Tenant)
  /-- IMAGE_VERIFY (R439). -/
  | imageVerify (t : Tenant)
  /-- IMAGE_ACTIVATE (R440). -/
  | imageActivate (t : Tenant)
  /-- IMAGE_CONFIRM (R442). -/
  | imageConfirm (t : Tenant)
  /-- IMAGE_ABORT (R443). -/
  | imageAbort (t : Tenant)
  /-- IMAGE_REVERT (R443). -/
  | imageRevert (t : Tenant)
  /-- METRONOME_START (R458). -/
  | metronomeStart (t : Tenant)
  /-- METRONOME_STOP (R458). -/
  | metronomeStop (t : Tenant)
  /-- METRONOME_RESTART (R458). -/
  | metronomeRestart (t : Tenant)
  /-- METRONOME_START_INSTANT (R458). -/
  | metronomeStartInstant (m : MetroId)
  /-- METRONOME_COMPARE (R456). -/
  | metronomeCompare (m : MetroId)
  /-- METRONOME_ZERO (R452). -/
  | metronomeZero (m : MetroId)
  /-- METRONOME_TOP (R452). -/
  | metronomeTop (m : MetroId)
  /-- PERIOD_BUFFER_WRITE (R454). -/
  | periodBufferWrite (t : Tenant)
  /-- COMPARE_WRITE (R456). -/
  | compareWrite (t : Tenant)
  /-- STRIDE_WRITE (R457). -/
  | strideWrite (t : Tenant)
  /-- FAULT_RAISE (R490). -/
  | faultRaise (source : Nat) (domain : Tenant) (detail : Nat)
  /-- FAULT_ACKNOWLEDGE (R497). -/
  | faultAcknowledge (t : Tenant)
  /-- HANDLING_WINDOW_EXPIRED (R497). -/
  | handlingWindowExpired (t : Tenant)
  /-- FAULT_CLEAR (R501). -/
  | faultClear (t : Tenant)
  /-- REACTION_WRITE (R495). -/
  | reactionWrite (t : Tenant)
  /-- LINK_REQUEST (R539). -/
  | linkRequest (die : Die) (header : Nat) (payload : Octets)
  /-- LINK_REPLY (R539). -/
  | linkReply (die : Die) (header : Nat) (payload : Octets)
  /-- LINK_REJECT (R539). -/
  | linkReject (die : Die) (header : Nat)
  /-- LINK_NOTIFY (R539). -/
  | linkNotify (die : Die) (header : Nat) (payload : Octets)
  /-- ALIVE (R542). -/
  | alive (die : Die) (epoch : Nat)
  /-- LINK_START_WORK_DONE (R543). -/
  | linkStartWorkDone (die : Die)
  /-- ALIVE_TIMEOUT (R544). -/
  | aliveTimeout (die : Die)
  /-- LINK_WORD_TIMEOUT (R547). -/
  | linkWordTimeout (die : Die)
  /-- RESYNC_INTERVAL (R548). -/
  | resyncInterval (die : Die)
  /-- RESYNC (R548). -/
  | resync (die : Die) (epoch : Nat)
  /-- GP_CONFIG_WRITE (R587). -/
  | gpConfigWrite (t : Tenant)
  /-- RESPONSE_WINDOW_OPEN (R110). -/
  | responseWindowOpen (v : VoiceId)
  /-- SOURCE_ELIGIBILITY_LAPSE (R38). -/
  | sourceEligibilityLapse (source : Fin 3)
  /-- SUPPLY_LOSS (R560). -/
  | supplyLoss
  /-- RESET_APPLY (R518). -/
  | resetApply
  /-- POCKET_DIE_RELEASE (R526). -/
  | pocketDieRelease
  /-- AIR_DIE_RELEASE (R526). -/
  | airDieRelease
  /-- LINE_DIE_RELEASE (R526). -/
  | lineDieRelease
  /-- FIELD_DIE_RELEASE (R526). -/
  | fieldDieRelease
  /-- START_UP_COMPLETE (R526). -/
  | startUpComplete
  /-- START_TIMEOUT (R528). -/
  | startTimeout
  /-- VBAT_MINUTE_END (R557). -/
  | vbatMinuteEnd
  /-- REST_ENTRY (R562). -/
  | restEntry
  /-- OSC27_RESTART_DONE (R561). -/
  | osc27RestartDone
  /-- ENERGY_REPORT (R570). -/
  | energyReport
  /-- CHECKPOINT_DUE (R41). -/
  | checkpointDue
  /-- NETWORK_OFFSET_LAPSE (R40). -/
  | networkOffsetLapse
  /-- BOOST_START_TIMEOUT (R63). -/
  | boostStartTimeout
  /-- BOOST_SLEW_TIMEOUT (R63). -/
  | boostSlewTimeout
  /-- BOOST_HOLD_OFF_EXPIRED (R64). -/
  | boostHoldOffExpired
  /-- CRYPTO_JOB_DONE (R197). -/
  | cryptoJobDone
  /-- CUE_HOURLY_CHECK (R218). -/
  | cueHourlyCheck
  /-- AIR_START_REQUEST (R230). -/
  | airStartRequest
  /-- AIR_READY (R230). -/
  | airReady
  /-- AIR_STOP_REQUEST (R263). -/
  | airStopRequest
  /-- AIR_ENERGY_DETECT (R241). -/
  | airEnergyDetect
  /-- AIR_TX_REQUEST (R260). -/
  | airTxRequest
  /-- PA_SUPPLY_SETTLED (R252). -/
  | paSupplySettled
  /-- BIAS_SETTLED (R252). -/
  | biasSettled
  /-- SYN_LOCK_DONE (R245). -/
  | synLockDone
  /-- SYN_LOCK_TIMEOUT (R245). -/
  | synLockTimeout
  /-- PA_RAMP_UP_DONE (R250). -/
  | paRampUpDone
  /-- AIR_TX_LAST_BIT (R250). -/
  | airTxLastBit
  /-- PA_RAMP_DOWN_DONE (R252). -/
  | paRampDownDone
  /-- XPA_EN_OFF_DUE (R252). -/
  | xpaEnOffDue
  /-- DISCHARGE_ELAPSED (R252). -/
  | dischargeElapsed
  /-- OFF_SEQUENCE_COMPLETE (R252). -/
  | offSequenceComplete
  /-- SYN_HOLD_EXPIRED (R245). -/
  | synHoldExpired
  /-- SEAL_WINDOW_EXPIRED (R231). -/
  | sealWindowExpired
  /-- LEDGER_BIN_ROLLOVER (R236). -/
  | ledgerBinRollover
  /-- AUTO_SYN_RETUNE (R247). -/
  | autoSynRetune
  /-- CUE_GIVE_UP (R254). -/
  | cueGiveUp
  /-- CUE_STOP_DONE (R258). -/
  | cueStopDone
  /-- MAC_FRAME_SEND (R281). -/
  | macFrameSend
  /-- BACKOFF_EXPIRED (R281). -/
  | backoffExpired
  /-- IMM_ACK_DUE (R282). -/
  | immAckDue
  /-- IMM_ACK_RECEIVED (R282). -/
  | immAckReceived
  /-- ACK_WAIT_CLOSED (R282). -/
  | ackWaitClosed
  /-- MAC_FRAME_RECEIVED (R278). -/
  | macFrameReceived
  /-- POLL (R290). -/
  | poll
  /-- TIME (R292). -/
  | time
  /-- JOIN_REQUEST (R271). -/
  | joinRequest
  /-- JOIN_ACCEPT (R271). -/
  | joinAccept
  /-- JOIN_DENY (R271). -/
  | joinDeny
  /-- MESH (R295). -/
  | mesh
  /-- JOIN_SCAN_END (R271). -/
  | joinScanEnd
  /-- JOIN_TIMEOUT (R271). -/
  | joinTimeout
  /-- JOIN_RETRY (R271). -/
  | joinRetry
  /-- COORDINATOR_CONFLICT_LAPSE (R274). -/
  | coordinatorConflictLapse
  /-- SLOT_BOUNDARY (R285). -/
  | slotBoundary
  /-- TIME_BROADCAST_DUE (R287). -/
  | timeBroadcastDue
  /-- UNSYNCHRONISED (R286). -/
  | unsynchronised
  /-- UNSYNC_SCAN_TIMEOUT (R286). -/
  | unsyncScanTimeout
  /-- HOME_CHANNEL_SWITCH (R288). -/
  | homeChannelSwitch
  /-- POLL_INTERVAL_EXPIRED (R289). -/
  | pollIntervalExpired
  /-- PENDING_WAIT_EXPIRED (R289). -/
  | pendingWaitExpired
  /-- SYNC_TIME_INSERT (R290). -/
  | syncTimeInsert
  /-- HEAD_POLL_CYCLE (R317). -/
  | headPollCycle
  /-- LINE_REPLY_DUE (R314). -/
  | lineReplyDue
  /-- LINE_REPLY_WINDOW_CLOSE (R314). -/
  | lineReplyWindowClose
  /-- LINE_TIME_DUE (R325). -/
  | lineTimeDue
  /-- PRESENCE_DUE (R326). -/
  | presenceDue
  /-- PRESENCE_SEEN (R326). -/
  | presenceSeen
  /-- BYPASS_OPEN_DUE (R324). -/
  | bypassOpenDue
  /-- ADDRESS_HOLD_EXPIRED (R321). -/
  | addressHoldExpired
  /-- FOREIGN_DIP (R322). -/
  | foreignDip
  /-- HEAD_CONFLICT_LAPSE (R322). -/
  | headConflictLapse
  /-- LINE_OFF_HOLD_END (R323). -/
  | lineOffHoldEnd
  /-- FIELD_ON (R340). -/
  | fieldOn
  /-- FIELD_OFF (R353). -/
  | fieldOff
  /-- POCKET_HLTA (R341). -/
  | pocketHlta
  /-- POCKET_RATS (R341). -/
  | pocketRats
  /-- POCKET_PPS (R341). -/
  | pocketPps
  /-- POCKET_DESELECT (R353). -/
  | pocketDeselect
  /-- POCKET_IDLE_TIMEOUT (R353). -/
  | pocketIdleTimeout
  /-- BRIDGE_WTX_DUE (R362). -/
  | bridgeWtxDue
  /-- BRIDGE_TIMEOUT (R362). -/
  | bridgeTimeout
  /-- SERVICE_REQUEST_ARRIVAL (R377). -/
  | serviceRequestArrival
  /-- NVA_COMMIT_RETRY (R376). -/
  | nvaCommitRetry
  /-- HOST_PORT_SELECT (R388). -/
  | hostPortSelect
  /-- IMAGE_VERIFY_DONE (R439). -/
  | imageVerifyDone
  /-- ACTIVATE_QUIESCED (R441). -/
  | activateQuiesced
  /-- TRIAL_WINDOW_EXPIRED (R442). -/
  | trialWindowExpired
  /-- TRIAL_AIR_READY_TIMEOUT (R442). -/
  | trialAirReadyTimeout
  /-- FAULT_COPY_REFRESH (R508). -/
  | faultCopyRefresh
  /-- XPA_EN_ON_DUE (R252). -/
  | xpaEnOnDue
  /-- LINE_OVERCURRENT_LAPSE (R323). -/
  | lineOvercurrentLapse
deriving DecidableEq, Repr

end Sys2Proof
end

