-- ==== Sys2Proof/Decode.lean ====
section
/-! DEFINITION. The command words. The rows of the command table carry no bit fields, so no word spells a command. -/

namespace Sys2Proof

/-- The command that a word of the table's bits spells: none, for the table gives no row any bits. -/
def decodeTableWord (_nbits _w : Nat) : Option Instr := none

end Sys2Proof
end

