-- ==== Sys2Proof/Config.lean ====
section
/-! DEFINITION. What one part fixes and the spec leaves to it, and the free values: every constant here has no body, so
nothing can be proved of its value. The assumption log says which open point each one stands for (entries 2, 3, 4, 5). -/

namespace Sys2Proof

/-- The values "factory" of the Default column (R373, R631), by dictionary key; bounded where they are read. -/
opaque Config.factory : Nat → Nat

/-- The values "identity" of the Default column (R373, R427), by dictionary key. -/
opaque Config.identity : Nat → Nat

/-- The n-th value that the spec leaves open (an unstated result); applied to the counter `State.free`. -/
opaque Config.freeValue : Nat → Nat

/-- What a counter holds after it passes the top of its type where the spec states no saturation, by dictionary key and
old value. -/
opaque Config.overflow : Nat → Nat → Nat

/-- The n-th draw of the random bit generators (challenges, backoffs, random UIDs). -/
opaque Config.random : Nat → Nat

/-- The certification authority's signature over the first 192 bytes of a device certificate (R427), as a number. -/
opaque Config.certSignature : Octets → Nat

/-- AES encryption of one 16-byte block under a key, as a number (FIPS 197; the spec names the cipher and gives no tables of it). -/
opaque Config.aes : Octets → Octets → Nat

/-- AES-CMAC of a message under a key (R383, R355), as a number. -/
opaque Config.cmac : Octets → Octets → Nat

/-- The ECDH shared secret of a private key of this part and a public point; `none` where the point is not valid
(R430, R435). -/
opaque Config.ecdh : Nat → Octets → Option Octets

/-- The commissioning code on the lid label (R435), 12 bytes as a number. -/
opaque Config.commissioningCode : Nat

/-- Whether an ECDSA signature checks (R439): verification key, message, signature. -/
opaque Config.ecdsaOk : Octets → Octets → Octets → Bool

/-- The extended address of a node known by its short address alone: PAN and short address (the nonce of R276 needs it before the
neighbour table has it). -/
opaque Config.extendedOf : Nat → Nat → Nat

/-- SHA-256 (R430, R439), as a number. -/
opaque Config.sha256 : Octets → Nat

/-- AES key unwrap: the key bytes, or `none` where the integrity check fails (R430). -/
opaque Config.unwrap : Octets → Octets → Option Octets

/-- AES decryption and check of an ISO/IEC 29167-10 response (R185): key, method, stage, the challenges sent in the step, the last one
first, response; `none` where a check fails, else the custom data (TAM2) or the tag challenge (MAM1). -/
opaque Config.authCheck : Octets → Nat → Nat → List Octets → Octets → Option Octets

/-- The payload of an ISO/IEC 29167-10 AUTHENTICATE or CHALLENGE message (R183 to R185): key, method, stage, key identifier, the
challenges sent in the step with the fresh one first, the tag's challenge (MAM2), further parameters. -/
opaque Config.authMessage : Octets → Nat → Nat → Nat → List Octets → Octets → Octets → Octets

/-- The bit of a Manchester cell neither half of which reaches the decision threshold, of which R86 says nothing; by the samples of the
cell. -/
opaque Config.faintBit : List (Int × Int) → Bool

/-- The level of R94 of an amplitude of nothing at all, which has no decibels; by the gain. -/
opaque Config.levelOfNothing : Nat → Nat

/-- The sub-bands of a factory-sealed XC profile (R234, Table 9-2's columns): low and high edge in kHz, power in 0.1 dBm, DC
cap in µs, LBT cap in µs where there is one, maximum on-time in µs. -/
opaque Config.xcBands : List (Nat × Nat × Int × Nat × Option Nat × Nat)

/-- The channels of a factory-sealed XC profile: centre in Hz, spacing in kHz, mode mask. -/
opaque Config.xcPlan : List (Nat × Nat × Nat)

/-- The LBT threshold (0.25 dBm) and minimum listen (µs) of a factory-sealed XC profile, and its cue channel in kHz. -/
opaque Config.xcLbt : Int × Nat × Nat

/-- The HF limits of a factory-sealed XC profile (Table 3-3): per-voice and all-voice ceilings in mW, minimum ramp in µs. -/
opaque Config.xcHf : Nat × Nat × Nat

end Sys2Proof
end

