-- ==== Sys2Proof/Machine/Dict.lean ====
section
/-! DEFINITION. The object dictionary as the spec's dictionary tables give it: for every index its rows, each with the
subindexes it covers, its type (Table 13-1), its access class and tenant mask (Table 13-2, R8), its default (R373), the
values a write may carry and whether every tenant holds its own copy (R372). One definition per index family; the rows
follow the tables of chapters 0 to 22, whose numbers are in notes/FILES.md. -/

namespace Sys2Proof.Machine

/-- Types of Table 13-1. `q` and `uq` carry m and n. -/
inductive Ty where
  | bool | u8 | u16 | u32 | u64 | i8 | i16 | i32 | i64 | time
  | q (m n : Nat) | uq (m n : Nat) | octets (n : Nat) | text (n : Nat)
deriving DecidableEq, Repr

/-- Access classes of Table 13-2. -/
inductive Access where
  | const | ro | rw | wo | rwp
deriving DecidableEq, Repr

/-- Tenant masks (R8): all tenants, a fixed mask, or a mask that follows an allotment: [A] R77, [M] R463, [S] chapter 6,
[T] chapter 14, [K] R446. -/
inductive Mask where
  | all | fixed (m : Nat) | channel | metronome | score | scoreHead | status | key
deriving DecidableEq, Repr

/-- Default column entries (R373): a value, a factory value (R631), an identity value, a live measurement (no default) or
a value that its table gives by a formula over the index (`Dict.special`). -/
inductive Dflt where
  | val (v : Nat) | factory | identity | live | special
deriving DecidableEq, Repr

/-- The values a write may carry, as the Meaning column gives them: any value of the type, an unsigned range, one value
or a range, a signed range. Bounds that depend on the state are in `Service.valueStatus`. -/
inductive Chk where
  | any | rng (lo hi : Nat) | rngOr (x lo hi : Nat) | srng (lo hi : Int)
deriving DecidableEq, Repr

/-- One row of a dictionary table: the subindexes `sub` to `last`. -/
structure Row where
  sub  : Nat
  last : Nat
  ty   : Ty
  acc  : Access
  mask : Mask
  dflt : Dflt
  chk  : Chk
  per  : Bool
deriving DecidableEq, Repr

/-- The rows of the indexes `lo` to `hi`. -/
structure Family where
  lo   : Nat
  hi   : Nat
  rows : List Row
deriving DecidableEq, Repr

namespace Dict

/-- 0x1001, Table 0-4. -/
def rows1001 : List Row := [
  ⟨0x00, 0x00, .u8, .const, .all, .val 0x06, .any, false⟩,
  ⟨0x01, 0x01, .u8, .const, .all, .val 0xB0, .any, false⟩,
  ⟨0x02, 0x02, .u8, .const, .all, .val 0xB0, .any, false⟩,
  ⟨0x03, 0x03, .u8, .const, .all, .val 0xA2, .any, false⟩,
  ⟨0x04, 0x04, .u8, .const, .all, .val 0xB1, .any, false⟩,
  ⟨0x05, 0x05, .u8, .const, .all, .val 0xA1, .any, false⟩,
  ⟨0x06, 0x06, .u8, .const, .all, .val 0xA0, .any, false⟩]

/-- 0x1010, Table 1-6. -/
def rows1010 : List Row := [
  ⟨0x00, 0x00, .u8, .const, .all, .val 0x06, .any, false⟩,
  ⟨0x01, 0x01, .u8, .rwp, .fixed 0x01, .val 0x00, .rng 0 2, false⟩,
  ⟨0x02, 0x02, .u8, .ro, .all, .val 0x00, .any, false⟩,
  ⟨0x03, 0x03, .u8, .rwp, .fixed 0x01, .val 0x00, .rng 0 1, false⟩,
  ⟨0x04, 0x04, .u8, .ro, .all, .val 0x00, .any, false⟩,
  ⟨0x05, 0x05, .time, .ro, .all, .val 0, .any, false⟩,
  ⟨0x06, 0x06, .u8, .ro, .all, .val 0x00, .any, false⟩]

/-- 0x1020, Table 1-9. -/
def rows1020 : List Row := [
  ⟨0x00, 0x00, .u8, .const, .all, .val 0x03, .any, false⟩,
  ⟨0x01, 0x01, .u8, .ro, .all, .val 0x00, .any, false⟩,
  ⟨0x02, 0x02, .time, .ro, .all, .val 0, .any, false⟩,
  ⟨0x03, 0x03, .bool, .rwp, .fixed 0x01, .val 1, .rng 0 1, false⟩]

/-- 0x1030, Table 1-3. -/
def rows1030 : List Row := [
  ⟨0x00, 0x00, .u8, .const, .all, .val 0x08, .any, false⟩,
  ⟨0x01, 0x01, .u8, .rwp, .fixed 0x01, .val 0x03, .rng 0 7, false⟩,
  ⟨0x02, 0x02, .u8, .rwp, .fixed 0x03, .val 0x03, .rng 0 7, false⟩,
  ⟨0x03, 0x03, .u8, .rwp, .fixed 0x05, .val 0x03, .rng 0 7, false⟩,
  ⟨0x04, 0x04, .u8, .rwp, .fixed 0x09, .val 0x03, .rng 0 7, false⟩,
  ⟨0x05, 0x05, .u8, .rwp, .fixed 0x11, .val 0x03, .rng 0 7, false⟩,
  ⟨0x06, 0x06, .u8, .rwp, .fixed 0x21, .val 0x03, .rng 0 7, false⟩,
  ⟨0x07, 0x07, .u8, .rwp, .fixed 0x41, .val 0x03, .rng 0 7, false⟩,
  ⟨0x08, 0x08, .u8, .rwp, .fixed 0x81, .val 0x03, .rng 0 7, false⟩]

/-- 0x1034, Table 13-13. -/
def rows1034 : List Row := [
  ⟨0x00, 0x00, .u8, .const, .all, .val 0x04, .any, true⟩,
  ⟨0x01, 0x01, .u16, .rwp, .all, .val 0x0000, .any, true⟩,
  ⟨0x02, 0x02, .u8, .rwp, .all, .val 0x00, .any, true⟩,
  ⟨0x03, 0x03, .u32, .ro, .all, .val 0, .any, true⟩,
  ⟨0x04, 0x04, .u32, .ro, .all, .val 0, .any, true⟩]

/-- 0x1035, Table 13-14. -/
def rows1035 : List Row := [
  ⟨0x00, 0x00, .u8, .const, .all, .val 0x08, .any, false⟩,
  ⟨0x01, 0x01, .u8, .rwp, .fixed 0x01, .val 0x0F, .rng 12 15, false⟩,
  ⟨0x02, 0x08, .u8, .rwp, .fixed 0x01, .val 0x0B, .rng 0 15, false⟩]

/-- 0x1040, Table 13-15. -/
def rows1040 : List Row := [
  ⟨0x00, 0x00, .u8, .const, .all, .val 0x09, .any, true⟩,
  ⟨0x01, 0x01, .u32, .ro, .all, .val 0, .any, true⟩,
  ⟨0x02, 0x02, .u32, .ro, .all, .val 0, .any, true⟩,
  ⟨0x03, 0x03, .u32, .ro, .all, .val 0, .any, true⟩,
  ⟨0x04, 0x04, .u32, .ro, .all, .val 0, .any, true⟩,
  ⟨0x05, 0x05, .u32, .ro, .all, .val 0, .any, true⟩,
  ⟨0x06, 0x06, .u32, .ro, .all, .val 0, .any, true⟩,
  ⟨0x07, 0x07, .u8, .ro, .all, .val 0x00, .any, true⟩,
  ⟨0x08, 0x08, .u32, .rwp, .all, .val 30000000, .rng 1000000 300000000, true⟩,
  ⟨0x09, 0x09, .u8, .ro, .all, .val 0, .any, true⟩]

/-- 0x1041, Table 13-16. -/
def rows1041 : List Row := [
  ⟨0x00, 0x00, .u8, .const, .all, .val 0x10, .any, true⟩,
  ⟨0x01, 0x10, .octets 16, .ro, .all, .val 0, .any, true⟩]

/-- 0x1050, Table 15-10. -/
def rows1050 : List Row := [
  ⟨0x00, 0x00, .u8, .const, .all, .val 0x06, .any, false⟩,
  ⟨0x01, 0x01, .u64, .const, .all, .identity, .any, false⟩,
  ⟨0x02, 0x02, .text 16, .const, .all, .identity, .any, false⟩,
  ⟨0x03, 0x03, .octets 256, .const, .all, .identity, .any, false⟩,
  ⟨0x04, 0x04, .u8, .ro, .all, .val 0x00, .any, false⟩,
  ⟨0x05, 0x05, .octets 64, .const, .all, .factory, .any, false⟩,
  ⟨0x06, 0x06, .u32, .const, .all, .factory, .any, false⟩]

/-- 0x1060, Table 21-6. -/
def rows1060 : List Row := [
  ⟨0x00, 0x00, .u8, .const, .all, .val 0x08, .any, false⟩,
  ⟨0x01, 0x01, .u8, .ro, .all, .val 0x01, .any, false⟩,
  ⟨0x02, 0x02, .u16, .ro, .all, .live, .any, false⟩,
  ⟨0x03, 0x03, .u16, .ro, .all, .live, .any, false⟩,
  ⟨0x04, 0x04, .u16, .ro, .all, .live, .any, false⟩,
  ⟨0x05, 0x05, .u16, .ro, .all, .live, .any, false⟩,
  ⟨0x06, 0x06, .bool, .ro, .all, .val 0, .any, false⟩,
  ⟨0x07, 0x07, .u8, .rwp, .fixed 0x01, .val 0x01, .rng 1 2, false⟩,
  ⟨0x08, 0x08, .u32, .ro, .fixed 0x01, .val 0, .any, false⟩]

/-- 0x1061, Table 21-6. -/
def rows1061 : List Row := [
  ⟨0x00, 0x00, .u8, .const, .all, .val 0x02, .any, false⟩,
  ⟨0x01, 0x01, .u16, .rwp, .fixed 0x01, .val 3100, .rng 2800 3600, false⟩,
  ⟨0x02, 0x02, .u16, .rwp, .fixed 0x01, .val 2750, .rng 2650 3000, false⟩]

/-- 0x1070, Table 21-8. -/
def rows1070 : List Row := [
  ⟨0x00, 0x00, .u8, .const, .all, .val 0x11, .any, false⟩,
  ⟨0x01, 0x01, .u64, .ro, .all, .val 0, .any, false⟩,
  ⟨0x02, 0x02, .u64, .ro, .all, .val 0, .any, false⟩,
  ⟨0x03, 0x03, .u64, .ro, .all, .val 0, .any, false⟩,
  ⟨0x04, 0x04, .u64, .ro, .all, .val 0, .any, false⟩,
  ⟨0x05, 0x07, .u64, .ro, .all, .val 0, .any, false⟩,
  ⟨0x08, 0x08, .u32, .ro, .all, .val 0, .any, false⟩,
  ⟨0x09, 0x09, .u32, .ro, .all, .val 0, .any, false⟩,
  ⟨0x0A, 0x0A, .u32, .rwp, .fixed 0x01, .val 0, .any, false⟩,
  ⟨0x0B, 0x0B, .u16, .rwp, .fixed 0x01, .val 100, .rng 0 1000, false⟩,
  ⟨0x0C, 0x0C, .u8, .rwp, .fixed 0x01, .val 90, .rng 50 100, false⟩,
  ⟨0x0D, 0x0D, .u32, .ro, .all, .val 0xFFFFFFFF, .any, false⟩,
  ⟨0x0E, 0x0E, .u32, .ro, .all, .val 0xFFFFFFFF, .any, false⟩,
  ⟨0x0F, 0x0F, .u32, .rwp, .fixed 0x01, .val 86400, .rngOr 0 3600 2592000, false⟩,
  ⟨0x10, 0x10, .u8, .wo, .fixed 0x01, .live, .rng 1 1, false⟩,
  ⟨0x11, 0x11, .time, .ro, .all, .val 0, .any, false⟩]

/-- 0x1071, Table 21-9. -/
def rows1071 : List Row := [
  ⟨0x00, 0x00, .u8, .const, .all, .val 0x02, .any, true⟩,
  ⟨0x01, 0x01, .u64, .ro, .all, .val 0, .any, true⟩,
  ⟨0x02, 0x02, .u64, .ro, .all, .val 0, .any, true⟩]

/-- 0x1080, Table 21-7. -/
def rows1080 : List Row := [
  ⟨0x00, 0x00, .u8, .const, .all, .val 0x05, .any, false⟩,
  ⟨0x01, 0x01, .u32, .rwp, .fixed 0x01, .val 5000, .rng 1000 1000000, false⟩,
  ⟨0x02, 0x02, .u32, .rwp, .fixed 0x01, .val 2000, .rng 0 100000, false⟩,
  ⟨0x03, 0x03, .u32, .ro, .all, .val 0, .any, false⟩,
  ⟨0x04, 0x04, .u8, .ro, .all, .val 0x00, .any, false⟩,
  ⟨0x05, 0x05, .time, .ro, .all, .val 0, .any, false⟩]

/-- 0x109g, Table 22-6. -/
def rows109g : List Row := [
  ⟨0x00, 0x00, .u8, .const, .all, .val 0x08, .any, false⟩,
  ⟨0x01, 0x01, .u8, .rwp, .fixed 0x01, .val 0x00, .rng 0 3, false⟩,
  ⟨0x02, 0x02, .bool, .rwp, .fixed 0x01, .val 0, .rng 0 1, false⟩,
  ⟨0x03, 0x03, .u8, .rwp, .fixed 0x01, .val 0x00, .rng 0 2, false⟩,
  ⟨0x04, 0x04, .u8, .rwp, .fixed 0x01, .val 0x01, .rng 0 2, false⟩,
  ⟨0x05, 0x05, .bool, .ro, .all, .live, .any, false⟩,
  ⟨0x06, 0x06, .u8, .rwp, .fixed 0x01, .val 0xFF, .rngOr 255 0 15, false⟩,
  ⟨0x07, 0x07, .u8, .rwp, .fixed 0x01, .val 0x00, .rng 0 1, false⟩,
  ⟨0x08, 0x08, .bool, .ro, .all, .val 0, .any, false⟩]

/-- 0x1100, Table 2-2. -/
def rows1100 : List Row := [
  ⟨0x00, 0x00, .u8, .const, .all, .val 0x11, .any, false⟩,
  ⟨0x01, 0x01, .time, .ro, .all, .live, .any, false⟩,
  ⟨0x02, 0x02, .u32, .ro, .all, .val 512000000, .any, false⟩,
  ⟨0x03, 0x03, .i32, .ro, .all, .val 0, .any, false⟩,
  ⟨0x04, 0x04, .i32, .ro, .all, .val 0, .any, false⟩,
  ⟨0x05, 0x05, .u16, .rwp, .fixed 0x01, .val 34, .rng 0 100, false⟩,
  ⟨0x06, 0x06, .i8, .rwp, .fixed 0x01, .val 25, .srng (-10) (50), false⟩,
  ⟨0x07, 0x07, .u8, .rwp, .fixed 0x01, .val 0x07, .rng 0 7, false⟩,
  ⟨0x08, 0x08, .u8, .ro, .all, .val 0x00, .any, false⟩,
  ⟨0x09, 0x09, .u16, .rwp, .fixed 0x01, .val 32768, .rng 4096 65535, false⟩,
  ⟨0x0A, 0x0A, .u8, .rwp, .fixed 0x01, .val 2, .rng 0 6, false⟩,
  ⟨0x0B, 0x0B, .i32, .ro, .all, .factory, .any, false⟩,
  ⟨0x0C, 0x0C, .u32, .rwp, .fixed 0x01, .val 3600, .rng 60 86400, false⟩,
  ⟨0x0D, 0x0D, .u16, .ro, .all, .val 0, .any, false⟩,
  ⟨0x0E, 0x0E, .time, .ro, .all, .val 0, .any, false⟩,
  ⟨0x0F, 0x0F, .i64, .ro, .all, .val 0, .any, false⟩,
  ⟨0x10, 0x10, .bool, .ro, .all, .val 0, .any, false⟩,
  ⟨0x11, 0x11, .u16, .ro, .all, .val 0, .any, false⟩]

/-- 0x1110, Table 2-3. -/
def rows1110 : List Row := [
  ⟨0x00, 0x00, .u8, .const, .all, .val 0x08, .any, false⟩,
  ⟨0x01, 0x01, .uq 4 12, .ro, .all, .live, .any, false⟩,
  ⟨0x02, 0x02, .u16, .ro, .all, .live, .any, false⟩,
  ⟨0x03, 0x03, .u16, .const, .all, .factory, .any, false⟩,
  ⟨0x04, 0x04, .time, .ro, .all, .val 0, .any, false⟩,
  ⟨0x05, 0x05, .uq 4 12, .rwp, .fixed 0x01, .val 0x1400, .rng 4096 12288, false⟩,
  ⟨0x06, 0x06, .u16, .ro, .all, .live, .any, false⟩,
  ⟨0x07, 0x07, .u32, .ro, .all, .val 0, .any, false⟩,
  ⟨0x08, 0x08, .uq 4 12, .ro, .all, .val 0xFFFF, .any, false⟩]

/-- 0x200n, Table 3-5. -/
def rows200n : List Row := [
  ⟨0x00, 0x00, .u8, .const, .all, .val 0x0D, .any, false⟩,
  ⟨0x01, 0x01, .u8, .ro, .all, .val 0x00, .any, false⟩,
  ⟨0x02, 0x02, .u8, .ro, .fixed 0x01, .val 0xFF, .any, false⟩,
  ⟨0x03, 0x03, .bool, .rwp, .fixed 0x01, .val 1, .rng 0 1, false⟩,
  ⟨0x04, 0x04, .u8, .rwp, .fixed 0x01, .special, .rng 0 15, false⟩,
  ⟨0x05, 0x05, .u16, .rwp, .fixed 0x01, .val 0, .rng 0 10000, false⟩,
  ⟨0x06, 0x06, .u16, .ro, .all, .val 0, .any, false⟩,
  ⟨0x07, 0x07, .u16, .ro, .all, .val 0, .any, false⟩,
  ⟨0x08, 0x08, .u8, .ro, .fixed 0x01, .val 0xFF, .any, false⟩,
  ⟨0x09, 0x09, .u32, .ro, .all, .val 0, .any, false⟩,
  ⟨0x0A, 0x0A, .u32, .ro, .all, .val 0, .any, false⟩,
  ⟨0x0B, 0x0B, .u32, .ro, .all, .val 0, .any, false⟩,
  ⟨0x0C, 0x0C, .u16, .ro, .all, .val 0, .any, false⟩,
  ⟨0x0D, 0x0D, .u64, .ro, .all, .val 0, .any, false⟩]

/-- 0x2010, Table 3-7. -/
def rows2010 : List Row := [
  ⟨0x00, 0x00, .u8, .const, .all, .val 0x0A, .any, false⟩,
  ⟨0x01, 0x01, .u8, .ro, .all, .val 0x00, .any, false⟩,
  ⟨0x02, 0x02, .u16, .ro, .all, .val 0, .any, false⟩,
  ⟨0x03, 0x03, .u16, .ro, .all, .live, .any, false⟩,
  ⟨0x04, 0x04, .u16, .rwp, .fixed 0x01, .val 500, .rng 200 2000, false⟩,
  ⟨0x05, 0x05, .u16, .rwp, .fixed 0x01, .val 12000, .rng 5000 12000, false⟩,
  ⟨0x06, 0x06, .u32, .rwp, .fixed 0x01, .val 2000, .rng 0 60000000, false⟩,
  ⟨0x07, 0x07, .u32, .ro, .all, .val 0, .any, false⟩,
  ⟨0x08, 0x08, .u16, .ro, .all, .val 0, .any, false⟩,
  ⟨0x09, 0x09, .u8, .ro, .all, .val 0x00, .any, false⟩,
  ⟨0x0A, 0x0A, .u8, .ro, .all, .val 0x00, .any, false⟩]

/-- 0x2020, Table 3-8. -/
def rows2020 : List Row := [
  ⟨0x00, 0x00, .u8, .const, .all, .val 0x40, .any, false⟩,
  ⟨0x01, 0x40, .u64, .rwp, .fixed 0x01, .val 0, .any, false⟩]

/-- 0x2030, Table 3-8. -/
def rows2030 : List Row := [
  ⟨0x00, 0x00, .u8, .const, .all, .val 0x05, .any, false⟩,
  ⟨0x01, 0x01, .u8, .ro, .all, .val 0x00, .any, false⟩,
  ⟨0x02, 0x02, .u16, .ro, .all, .val 0, .any, false⟩,
  ⟨0x03, 0x03, .u16, .ro, .all, .val 0, .any, false⟩,
  ⟨0x04, 0x04, .u16, .ro, .all, .val 0, .any, false⟩,
  ⟨0x05, 0x05, .bool, .ro, .all, .val 0, .any, false⟩]

/-- 0x21nn, Table 3-6. -/
def rows21nn : List Row := [
  ⟨0x00, 0x00, .u8, .const, .all, .val 0x0C, .any, false⟩,
  ⟨0x01, 0x01, .u8, .ro, .channel, .val 0xFF, .any, false⟩,
  ⟨0x02, 0x02, .bool, .rwp, .channel, .val 1, .rng 0 1, false⟩,
  ⟨0x03, 0x03, .u8, .ro, .channel, .val 0x01, .any, false⟩,
  ⟨0x04, 0x04, .q 1 15, .rw, .channel, .special, .any, false⟩,
  ⟨0x05, 0x05, .q 1 15, .rwp, .channel, .val 0x4000, .any, false⟩,
  ⟨0x06, 0x06, .u16, .rwp, .channel, .val 1100, .rng 800 3000, false⟩,
  ⟨0x07, 0x07, .u8, .rwp, .channel, .val 0, .rng 0 3, false⟩,
  ⟨0x08, 0x08, .u16, .rwp, .channel, .val 250, .any, false⟩,
  ⟨0x09, 0x09, .u16, .rwp, .channel, .val 300, .rng 0 10000, false⟩,
  ⟨0x0A, 0x0A, .u16, .ro, .channel, .val 0, .any, false⟩,
  ⟨0x0B, 0x0B, .u64, .ro, .channel, .val 0, .any, false⟩,
  ⟨0x0C, 0x0C, .time, .ro, .channel, .val 0, .any, false⟩]

/-- 0x22nn, Table 4-5. -/
def rows22nn : List Row := [
  ⟨0x00, 0x00, .u8, .const, .all, .val 0x08, .any, false⟩,
  ⟨0x01, 0x01, .u8, .rwp, .channel, .val 0x04, .rng 0 4, false⟩,
  ⟨0x02, 0x02, .u8, .rwp, .channel, .val 0x00, .rng 0 1, false⟩,
  ⟨0x03, 0x03, .u8, .ro, .channel, .val 0x02, .any, false⟩,
  ⟨0x04, 0x04, .octets 16, .ro, .channel, .val 0, .any, false⟩,
  ⟨0x05, 0x05, .time, .ro, .channel, .val 0, .any, false⟩,
  ⟨0x06, 0x06, .u32, .ro, .channel, .val 0, .any, false⟩,
  ⟨0x07, 0x07, .u32, .ro, .channel, .val 0, .any, false⟩,
  ⟨0x08, 0x08, .u32, .ro, .channel, .val 0, .any, false⟩]

/-- 0x228n, Table 4-6. -/
def rows228n : List Row := [
  ⟨0x00, 0x00, .u8, .const, .all, .val 0x09, .any, false⟩,
  ⟨0x01, 0x01, .u16, .rwp, .fixed 0x01, .val 1900, .rng 1024 2040, false⟩,
  ⟨0x02, 0x02, .u16, .rwp, .fixed 0x01, .val 380, .rng 64 512, false⟩,
  ⟨0x03, 0x03, .u8, .rwp, .fixed 0x01, .val 8, .rng 8 32, false⟩,
  ⟨0x04, 0x04, .u8, .rwp, .fixed 0x01, .val 3, .rng 1 7, false⟩,
  ⟨0x05, 0x08, .u16, .ro, .all, .factory, .any, false⟩,
  ⟨0x09, 0x09, .u32, .ro, .fixed 0x01, .val 0, .any, false⟩]

/-- 0x2400, Table 5-7. -/
def rows2400 : List Row := [
  ⟨0x00, 0x00, .u8, .const, .all, .val 0x0B, .any, false⟩,
  ⟨0x01, 0x01, .u32, .rwp, .fixed 0x01, .val 5000, .rng 500 100000, false⟩,
  ⟨0x02, 0x02, .u8, .rwp, .fixed 0x01, .val 2, .rng 0 4, false⟩,
  ⟨0x03, 0x03, .u32, .rwp, .fixed 0x01, .val 5000000, .rng 100000 30000000, false⟩,
  ⟨0x04, 0x04, .u8, .rwp, .fixed 0x01, .val 8, .rng 2 8, false⟩,
  ⟨0x05, 0x05, .u16, .rwp, .fixed 0x01, .val 1024, .rng 16 4096, false⟩,
  ⟨0x06, 0x06, .u8, .rwp, .fixed 0x01, .val 0x00, .any, false⟩,
  ⟨0x07, 0x07, .u8, .rwp, .fixed 0x01, .val 0x01, .rng 0 1, false⟩,
  ⟨0x08, 0x08, .u8, .rwp, .fixed 0x01, .val 0x00, .rng 0 3, false⟩,
  ⟨0x09, 0x09, .u8, .rwp, .fixed 0x01, .val 0x00, .rng 0 1, false⟩,
  ⟨0x0A, 0x0A, .bool, .rwp, .fixed 0x01, .val 0, .rng 0 1, false⟩,
  ⟨0x0B, 0x0B, .u8, .rwp, .fixed 0x01, .val 0x03, .rng 0 3, false⟩]

/-- 0x248n, Table 5-8. -/
def rows248n : List Row := [
  ⟨0x00, 0x00, .u8, .const, .all, .val 0x07, .any, false⟩,
  ⟨0x01, 0x01, .u32, .ro, .all, .val 0, .any, false⟩,
  ⟨0x02, 0x02, .u32, .ro, .all, .val 0, .any, false⟩,
  ⟨0x03, 0x03, .u32, .ro, .all, .val 0, .any, false⟩,
  ⟨0x04, 0x04, .u32, .ro, .all, .val 0, .any, false⟩,
  ⟨0x05, 0x05, .u32, .ro, .all, .val 0, .any, false⟩,
  ⟨0x06, 0x06, .u32, .ro, .all, .val 0, .any, false⟩,
  ⟨0x07, 0x07, .u32, .ro, .all, .val 0, .any, false⟩]

/-- 0x25nn, Table 6-1. -/
def rows25nn : List Row := [
  ⟨0x00, 0x00, .u8, .const, .all, .val 0x07, .any, false⟩,
  ⟨0x01, 0x01, .bool, .rwp, .channel, .val 0, .rng 0 1, false⟩,
  ⟨0x02, 0x02, .u16, .rwp, .channel, .val 500, .rng 50 60000, false⟩,
  ⟨0x03, 0x03, .u16, .rwp, .channel, .val 40, .rng 5 500, false⟩,
  ⟨0x04, 0x04, .u16, .ro, .channel, .val 0, .any, false⟩,
  ⟨0x05, 0x05, .u8, .rwp, .channel, .val 4, .rng 0 8, false⟩,
  ⟨0x06, 0x06, .u8, .ro, .channel, .val 0x00, .any, false⟩,
  ⟨0x07, 0x07, .u16, .ro, .channel, .val 0, .any, false⟩]

/-- 0x3000, Table 6-4. -/
def rows3000 : List Row := [
  ⟨0x00, 0x00, .u8, .const, .all, .val 0x04, .any, false⟩,
  ⟨0x01, 0x01, .u16, .ro, .fixed 0x01, .val 0, .any, false⟩,
  ⟨0x02, 0x02, .u16, .ro, .all, .val 0, .any, true⟩,
  ⟨0x03, 0x03, .u8, .rwp, .all, .val 3, .rng 1 255, true⟩,
  ⟨0x04, 0x04, .u8, .rwp, .all, .val 16, .rng 1 64, true⟩]

/-- 0x3020, Table 6-4. -/
def rows3020 : List Row := [
  ⟨0x00, 0x00, .u8, .const, .all, .val 0x03, .any, true⟩,
  ⟨0x01, 0x01, .u16, .rw, .all, .val 0xFFFF, .any, true⟩,
  ⟨0x02, 0x02, .octets 32, .ro, .all, .val 0, .any, true⟩,
  ⟨0x03, 0x03, .u16, .ro, .all, .val 0xFFFF, .any, true⟩]

/-- 0x3100, Table 7-7. -/
def rows3100 : List Row := [
  ⟨0x00, 0x00, .u8, .const, .all, .val 0x08, .any, true⟩,
  ⟨0x01, 0x01, .u16, .rwp, .all, .val 80, .rng 20 200, true⟩,
  ⟨0x02, 0x02, .u8, .rwp, .all, .val 30, .rng 5 90, true⟩,
  ⟨0x03, 0x03, .i16, .rwp, .all, .val 65296, .srng (-400) (0), true⟩,
  ⟨0x04, 0x04, .u16, .rwp, .all, .val 10000, .rng 1000 20000, true⟩,
  ⟨0x05, 0x05, .u16, .rwp, .all, .val 10000, .rng 1000 20000, true⟩,
  ⟨0x06, 0x06, .u16, .rwp, .all, .val 5000, .rng 300 20000, true⟩,
  ⟨0x07, 0x07, .u8, .rwp, .all, .val 1, .rng 0 3, true⟩,
  ⟨0x08, 0x08, .u8, .rwp, .all, .val 5, .rng 1 20, true⟩]

/-- 0x3180, Table 7-7. -/
def rows3180 : List Row := [
  ⟨0x00, 0x00, .u8, .const, .all, .val 0x07, .any, true⟩,
  ⟨0x01, 0x01, .u32, .ro, .all, .val 0, .any, true⟩,
  ⟨0x02, 0x02, .u32, .ro, .all, .val 0, .any, true⟩,
  ⟨0x03, 0x03, .u32, .ro, .all, .val 0, .any, true⟩,
  ⟨0x04, 0x04, .u32, .ro, .all, .val 0, .any, true⟩,
  ⟨0x05, 0x05, .u32, .ro, .all, .val 0, .any, true⟩,
  ⟨0x06, 0x06, .u32, .ro, .all, .val 0, .any, true⟩,
  ⟨0x07, 0x07, .u16, .ro, .all, .val 0, .any, true⟩]

/-- 0x4000, Table 9-9. -/
def rows4000 : List Row := [
  ⟨0x00, 0x00, .u8, .const, .all, .val 0x06, .any, false⟩,
  ⟨0x01, 0x01, .u8, .ro, .all, .val 0x00, .any, false⟩,
  ⟨0x02, 0x02, .u8, .wo, .fixed 0x01, .live, .rng 1 2, false⟩,
  ⟨0x03, 0x03, .u8, .wo, .fixed 0x01, .live, .any, false⟩,
  ⟨0x04, 0x04, .u8, .ro, .all, .val 0x00, .any, false⟩,
  ⟨0x05, 0x05, .time, .ro, .all, .val 0, .any, false⟩,
  ⟨0x06, 0x06, .u8, .ro, .all, .val 0, .any, false⟩]

/-- 0x4001, Table 9-9. -/
def rows4001 : List Row := [
  ⟨0x00, 0x00, .u8, .const, .all, .val 5, .any, false⟩,
  ⟨0x01, 0x01, .u8, .rw, .all, .val 0x00, .any, false⟩,
  ⟨0x02, 0x02, .octets 24, .ro, .all, .live, .any, false⟩,
  ⟨0x03, 0x03, .u32, .ro, .all, .val 0, .any, false⟩,
  ⟨0x04, 0x04, .u32, .ro, .all, .val 0, .any, false⟩,
  ⟨0x05, 0x05, .u32, .ro, .all, .val 0, .any, false⟩]

/-- 0x4010, Table 9-10. -/
def rows4010 : List Row := [
  ⟨0x00, 0x00, .u8, .const, .all, .val 3, .any, false⟩,
  ⟨0x01, 0x01, .u16, .rw, .all, .val 0x0000, .any, false⟩,
  ⟨0x02, 0x02, .octets 8, .ro, .all, .live, .any, false⟩,
  ⟨0x03, 0x03, .u16, .ro, .all, .val 0, .any, false⟩]

/-- 0x4020, Table 9-10. -/
def rows4020 : List Row := [
  ⟨0x00, 0x00, .u8, .const, .all, .val 5, .any, false⟩,
  ⟨0x01, 0x01, .u16, .rw, .all, .val 0x0000, .rng 0 511, false⟩,
  ⟨0x02, 0x02, .octets 8, .ro, .all, .val 0, .any, false⟩,
  ⟨0x03, 0x03, .u16, .ro, .all, .val 0, .any, false⟩,
  ⟨0x04, 0x04, .u32, .ro, .all, .val 0, .any, false⟩,
  ⟨0x05, 0x05, .u16, .ro, .all, .val 0, .any, false⟩]

/-- 0x4030, Table 9-11. -/
def rows4030 : List Row := [
  ⟨0x00, 0x00, .u8, .const, .all, .val 0x0D, .any, false⟩,
  ⟨0x01, 0x01, .bool, .rwp, .fixed 0x01, .val 0, .rng 0 1, false⟩,
  ⟨0x02, 0x02, .i16, .rwp, .fixed 0x01, .val 300, .srng (0) (300), false⟩,
  ⟨0x03, 0x03, .i16, .rwp, .fixed 0x01, .val 0, .srng (-60) (0), false⟩,
  ⟨0x04, 0x04, .i16, .rwp, .fixed 0x01, .val 0, .srng (0) (250), false⟩,
  ⟨0x05, 0x05, .u16, .rwp, .fixed 0x01, .val 20, .rng 2 200, false⟩,
  ⟨0x06, 0x06, .u16, .rwp, .fixed 0x01, .val 5, .rng 1 50, false⟩,
  ⟨0x07, 0x07, .u16, .rwp, .fixed 0x01, .val 10, .rng 1 200, false⟩,
  ⟨0x08, 0x08, .u8, .ro, .all, .val 0x00, .any, false⟩,
  ⟨0x09, 0x09, .u32, .ro, .all, .val 0, .any, false⟩,
  ⟨0x0A, 0x0A, .octets 128, .const, .all, .factory, .any, false⟩,
  ⟨0x0B, 0x0B, .octets 128, .const, .all, .factory, .any, false⟩,
  ⟨0x0C, 0x0C, .u8, .ro, .all, .val 0, .any, false⟩,
  ⟨0x0D, 0x0D, .i16, .ro, .all, .val 0, .any, false⟩]

/-- 0x4040, Table 9-12. -/
def rows4040 : List Row := [
  ⟨0x00, 0x00, .u8, .const, .all, .val 10, .any, false⟩,
  ⟨0x01, 0x01, .bool, .rwp, .fixed 0x01, .val 1, .rng 0 1, false⟩,
  ⟨0x02, 0x02, .u16, .rwp, .fixed 0x01, .val 32, .rng 8 1024, false⟩,
  ⟨0x03, 0x03, .u16, .rwp, .fixed 0x01, .val 0xFFFF, .any, false⟩,
  ⟨0x04, 0x04, .u8, .rwp, .fixed 0x01, .val 0x00, .rng 0 254, false⟩,
  ⟨0x05, 0x05, .u32, .ro, .all, .val 0, .any, false⟩,
  ⟨0x06, 0x06, .u32, .ro, .all, .val 0, .any, false⟩,
  ⟨0x07, 0x07, .u32, .ro, .all, .val 0, .any, false⟩,
  ⟨0x08, 0x08, .u32, .ro, .all, .val 0, .any, false⟩,
  ⟨0x09, 0x09, .time, .ro, .all, .val 0, .any, false⟩,
  ⟨0x0A, 0x0A, .u32, .rwp, .fixed 0x01, .val 869850000, .any, false⟩]

/-- 0x4050, Table 9-12. -/
def rows4050 : List Row := [
  ⟨0x00, 0x00, .u8, .const, .all, .val 8, .any, false⟩,
  ⟨0x01, 0x01, .u8, .rwp, .fixed 0x01, .val 0x00, .rng 0 1, false⟩,
  ⟨0x02, 0x02, .u16, .rwp, .fixed 0x01, .val 1200, .rng 200 5000, false⟩,
  ⟨0x03, 0x03, .u8, .rwp, .fixed 0x01, .val 0, .rng 0 7, false⟩,
  ⟨0x04, 0x04, .u8, .ro, .all, .val 0x00, .any, false⟩,
  ⟨0x05, 0x05, .u16, .rwp, .fixed 0x01, .val 2000, .rng 500 20000, false⟩,
  ⟨0x06, 0x06, .u32, .ro, .all, .val 0, .any, false⟩,
  ⟨0x07, 0x07, .u32, .ro, .all, .val 0, .any, false⟩,
  ⟨0x08, 0x08, .u32, .ro, .all, .val 0, .any, false⟩]

/-- 0x4100, Table 10-6. -/
def rows4100 : List Row := [
  ⟨0x00, 0x00, .u8, .const, .all, .val 0x10, .any, false⟩,
  ⟨0x01, 0x01, .u16, .rwp, .fixed 0x01, .val 0xFFFF, .any, false⟩,
  ⟨0x02, 0x02, .u64, .ro, .all, .identity, .any, false⟩,
  ⟨0x03, 0x03, .u16, .ro, .all, .val 0xFFFE, .any, false⟩,
  ⟨0x04, 0x04, .u16, .ro, .all, .val 0xFFFE, .any, false⟩,
  ⟨0x05, 0x05, .u8, .ro, .all, .val 0xFF, .any, false⟩,
  ⟨0x06, 0x06, .u8, .ro, .all, .val 0x00, .any, false⟩,
  ⟨0x07, 0x07, .u8, .rwp, .fixed 0x01, .val 1, .rng 1 3, false⟩,
  ⟨0x08, 0x08, .u8, .rwp, .fixed 0x01, .val 6, .rng 5 7, false⟩,
  ⟨0x09, 0x09, .u8, .rwp, .fixed 0x01, .val 3, .rng 0 7, false⟩,
  ⟨0x0A, 0x0A, .u8, .rwp, .fixed 0x01, .val 3, .rng 0 6, false⟩,
  ⟨0x0B, 0x0B, .u8, .rwp, .fixed 0x01, .val 5, .any, false⟩,
  ⟨0x0C, 0x0C, .u8, .rwp, .fixed 0x01, .val 4, .rng 0 8, false⟩,
  ⟨0x0D, 0x0D, .u8, .rwp, .fixed 0x01, .val 6, .rng 1 8, false⟩,
  ⟨0x0E, 0x0E, .bool, .rwp, .fixed 0x01, .val 1, .rng 0 1, false⟩,
  ⟨0x0F, 0x0F, .u16, .wo, .fixed 0x01, .live, .any, false⟩,
  ⟨0x10, 0x10, .u8, .rwp, .fixed 0x01, .val 8, .rng 4 24, false⟩]

/-- 0x4110, Table 10-7. -/
def rows4110 : List Row := [
  ⟨0x00, 0x00, .u8, .const, .all, .val 11, .any, false⟩,
  ⟨0x01, 0x01, .u16, .rwp, .fixed 0x01, .val 30, .rng 1 3600, false⟩,
  ⟨0x02, 0x02, .u16, .rwp, .fixed 0x01, .val 20000, .rng 5000 60000, false⟩,
  ⟨0x03, 0x03, .u16, .rwp, .fixed 0x01, .val 60, .rng 10 3600, false⟩,
  ⟨0x04, 0x04, .u16, .rwp, .fixed 0x01, .val 600, .rng 60 3600, false⟩,
  ⟨0x05, 0x05, .u32, .rwp, .fixed 0x01, .val 0, .any, false⟩,
  ⟨0x06, 0x06, .u32, .rwp, .fixed 0x01, .val 30000000, .any, false⟩,
  ⟨0x07, 0x07, .i32, .ro, .all, .val 0, .any, false⟩,
  ⟨0x08, 0x08, .u32, .ro, .all, .val 0, .any, false⟩,
  ⟨0x09, 0x09, .u16, .ro, .all, .val 0, .any, false⟩,
  ⟨0x0A, 0x0A, .time, .ro, .all, .val 0, .any, false⟩,
  ⟨0x0B, 0x0B, .u8, .rwp, .fixed 0x01, .val 4, .rng 1 16, false⟩]

/-- 0x4120, Table 10-7. -/
def rows4120 : List Row := [
  ⟨0x00, 0x00, .u8, .const, .all, .val 8, .any, false⟩,
  ⟨0x01, 0x01, .u16, .rwp, .fixed 0x01, .val 0xFFFF, .any, false⟩,
  ⟨0x02, 0x02, .u16, .ro, .all, .val 0xFFFF, .any, false⟩,
  ⟨0x03, 0x03, .time, .ro, .all, .val 0, .any, false⟩,
  ⟨0x04, 0x04, .u16, .wo, .fixed 0x01, .live, .any, false⟩,
  ⟨0x05, 0x05, .u8, .rwp, .fixed 0x01, .val 63, .rng 51 63, false⟩,
  ⟨0x06, 0x06, .octets 64, .rwp, .fixed 0x01, .special, .any, false⟩,
  ⟨0x07, 0x07, .u32, .const, .all, .val 100000, .any, false⟩,
  ⟨0x08, 0x08, .i16, .rwp, .fixed 0x01, .val 65216, .srng (-400) (-240), false⟩]

/-- 0x4130, Table 10-8. -/
def rows4130 : List Row := [
  ⟨0x00, 0x00, .u8, .const, .all, .val 0x0E, .any, false⟩,
  ⟨0x01, 0x02, .u32, .ro, .all, .val 0, .any, false⟩,
  ⟨0x03, 0x03, .u32, .ro, .all, .val 0, .any, false⟩,
  ⟨0x04, 0x04, .u32, .ro, .all, .val 0, .any, false⟩,
  ⟨0x05, 0x05, .u32, .ro, .all, .val 0, .any, false⟩,
  ⟨0x06, 0x06, .u32, .ro, .all, .val 0, .any, false⟩,
  ⟨0x07, 0x07, .u32, .ro, .all, .val 0, .any, false⟩,
  ⟨0x08, 0x08, .u32, .ro, .all, .val 0, .any, false⟩,
  ⟨0x09, 0x09, .u32, .ro, .all, .val 0, .any, false⟩,
  ⟨0x0A, 0x0A, .u32, .ro, .all, .val 0, .any, false⟩,
  ⟨0x0B, 0x0B, .u32, .ro, .all, .val 0, .any, false⟩,
  ⟨0x0C, 0x0C, .u32, .ro, .all, .val 0, .any, false⟩,
  ⟨0x0D, 0x0D, .u32, .ro, .all, .val 0, .any, false⟩,
  ⟨0x0E, 0x0E, .u32, .ro, .all, .val 0, .any, false⟩]

/-- 0x4140, Table 10-8. -/
def rows4140 : List Row := [
  ⟨0x00, 0x00, .u8, .const, .all, .val 3, .any, false⟩,
  ⟨0x01, 0x01, .u8, .rw, .all, .val 0, .rng 0 47, false⟩,
  ⟨0x02, 0x02, .octets 32, .ro, .all, .val 0, .any, false⟩,
  ⟨0x03, 0x03, .u8, .ro, .all, .val 0, .any, false⟩]

/-- 0x5000, Table 11-8. -/
def rows5000 : List Row := [
  ⟨0x00, 0x00, .u8, .const, .all, .val 0x08, .any, false⟩,
  ⟨0x01, 0x01, .u8, .ro, .all, .val 0xFF, .any, false⟩,
  ⟨0x02, 0x02, .u64, .ro, .all, .identity, .any, false⟩,
  ⟨0x03, 0x03, .u8, .ro, .all, .val 0x00, .any, false⟩,
  ⟨0x04, 0x04, .u8, .ro, .all, .val 0xFF, .any, false⟩,
  ⟨0x05, 0x05, .u8, .ro, .all, .val 0, .any, false⟩,
  ⟨0x06, 0x06, .time, .ro, .all, .val 0, .any, false⟩,
  ⟨0x07, 0x07, .bool, .ro, .all, .val 0, .any, false⟩,
  ⟨0x08, 0x08, .u16, .ro, .all, .live, .any, false⟩]

/-- 0x5010, Table 11-8. -/
def rows5010 : List Row := [
  ⟨0x00, 0x00, .u8, .const, .all, .val 0x03, .any, false⟩,
  ⟨0x01, 0x01, .u8, .rwp, .fixed 0x01, .val 10, .rng 2 25, false⟩,
  ⟨0x02, 0x02, .u16, .ro, .all, .val 0, .any, false⟩,
  ⟨0x03, 0x03, .u32, .rwp, .fixed 0x01, .val 10000000, .rng 2000000 600000000, false⟩]

/-- 0x5020, Table 11-9. -/
def rows5020 : List Row := [
  ⟨0x00, 0x00, .u8, .const, .all, .val 0x0C, .any, false⟩,
  ⟨0x01, 0x01, .u8, .rwp, .fixed 0x01, .val 0x00, .rng 0 3, false⟩,
  ⟨0x02, 0x02, .u16, .rwp, .fixed 0x01, .val 4000, .rng 3000 6000, false⟩,
  ⟨0x03, 0x03, .u32, .rwp, .fixed 0x01, .val 1000000, .rng 100000 60000000, false⟩,
  ⟨0x04, 0x04, .u32, .rwp, .fixed 0x01, .val 5000000, .rng 1000000 600000000, false⟩,
  ⟨0x05, 0x05, .u8, .rwp, .fixed 0x01, .val 3, .rng 1 16, false⟩,
  ⟨0x06, 0x06, .u16, .rwp, .fixed 0x01, .val 60, .rng 10 3600, false⟩,
  ⟨0x07, 0x07, .u16, .rwp, .fixed 0x01, .val 1000, .rng 100 1000, false⟩,
  ⟨0x08, 0x08, .bool, .rwp, .fixed 0x01, .val 1, .rng 0 1, false⟩,
  ⟨0x09, 0x09, .u8, .wo, .fixed 0x01, .live, .rng 1 4, false⟩,
  ⟨0x0A, 0x0A, .u8, .rw, .fixed 0x01, .val 0x01, .any, false⟩,
  ⟨0x0B, 0x0B, .u8, .rwp, .fixed 0x01, .val 64, .rng 8 255, false⟩,
  ⟨0x0C, 0x0C, .u8, .wo, .fixed 0x01, .live, .any, false⟩]

/-- 0x5030, Table 11-10. -/
def rows5030 : List Row := [
  ⟨0x00, 0x00, .u8, .const, .all, .val 0x08, .any, false⟩,
  ⟨0x01, 0x01, .u32, .ro, .all, .val 0, .any, false⟩,
  ⟨0x02, 0x02, .u32, .ro, .all, .val 0, .any, false⟩,
  ⟨0x03, 0x03, .u32, .ro, .all, .val 0, .any, false⟩,
  ⟨0x04, 0x04, .u32, .ro, .all, .val 0, .any, false⟩,
  ⟨0x05, 0x05, .u32, .ro, .all, .val 0, .any, false⟩,
  ⟨0x06, 0x06, .u32, .ro, .all, .val 0, .any, false⟩,
  ⟨0x07, 0x07, .u32, .ro, .all, .val 0, .any, false⟩,
  ⟨0x08, 0x08, .u32, .ro, .all, .val 0, .any, false⟩]

/-- 0x5040, Table 11-9. -/
def rows5040 : List Row := [
  ⟨0x00, 0x00, .u8, .const, .all, .val 3, .any, false⟩,
  ⟨0x01, 0x01, .u8, .rw, .fixed 0x01, .val 0x01, .rng 1 31, false⟩,
  ⟨0x02, 0x02, .octets 24, .ro, .fixed 0x01, .val 0, .any, false⟩,
  ⟨0x03, 0x03, .u8, .ro, .fixed 0x01, .val 0, .any, false⟩]

/-- 0x5050, Table 11-10. -/
def rows5050 : List Row := [
  ⟨0x00, 0x00, .u8, .const, .all, .val 0x04, .any, false⟩,
  ⟨0x01, 0x01, .i32, .ro, .all, .val 0, .any, false⟩,
  ⟨0x02, 0x02, .u32, .ro, .all, .val 0, .any, false⟩,
  ⟨0x03, 0x03, .u16, .ro, .all, .val 0, .any, false⟩,
  ⟨0x04, 0x04, .time, .ro, .all, .val 0, .any, false⟩]

/-- 0x5400, Table 12-9. -/
def rows5400 : List Row := [
  ⟨0x00, 0x00, .u8, .const, .all, .val 0x0F, .any, false⟩,
  ⟨0x01, 0x01, .bool, .ro, .all, .val 0, .any, false⟩,
  ⟨0x02, 0x02, .u8, .ro, .all, .val 0x00, .any, false⟩,
  ⟨0x03, 0x03, .u8, .ro, .fixed 0x01, .val 0xFF, .any, false⟩,
  ⟨0x04, 0x04, .u16, .ro, .all, .live, .any, false⟩,
  ⟨0x05, 0x05, .u8, .ro, .all, .val 0x01, .any, false⟩,
  ⟨0x06, 0x06, .u16, .rwp, .fixed 0x01, .val 2500, .rng 2200 3000, false⟩,
  ⟨0x07, 0x07, .u8, .rwp, .fixed 0x01, .val 0x0F, .rng 0 15, false⟩,
  ⟨0x08, 0x08, .u32, .ro, .fixed 0x01, .val 0, .any, false⟩,
  ⟨0x09, 0x09, .u32, .ro, .fixed 0x01, .val 0, .any, false⟩,
  ⟨0x0A, 0x0A, .u8, .ro, .fixed 0x01, .val 0, .any, false⟩,
  ⟨0x0B, 0x0B, .u32, .ro, .fixed 0x01, .val 0, .any, false⟩,
  ⟨0x0C, 0x0C, .u32, .ro, .fixed 0x01, .val 0, .any, false⟩,
  ⟨0x0D, 0x0D, .u32, .ro, .fixed 0x01, .val 0, .any, false⟩,
  ⟨0x0E, 0x0E, .u32, .ro, .fixed 0x01, .val 0, .any, false⟩,
  ⟨0x0F, 0x0F, .u32, .rwp, .fixed 0x01, .val 5000000, .rng 1000000 60000000, false⟩]

/-- 0x5410, Table 12-9. -/
def rows5410 : List Row := [
  ⟨0x00, 0x00, .u8, .const, .all, .val 0x02, .any, false⟩,
  ⟨0x01, 0x01, .u8, .rw, .fixed 0x01, .val 0x00, .rng 0 239, false⟩,
  ⟨0x02, 0x02, .octets 64, .ro, .fixed 0x01, .live, .any, false⟩]

/-- 0x6000, Table 8-7. -/
def rows6000 : List Row := [
  ⟨0x00, 0x00, .u8, .const, .all, .val 0x07, .any, true⟩,
  ⟨0x01, 0x01, .u8, .rw, .all, .val 0x00, .any, true⟩,
  ⟨0x02, 0x02, .u16, .rw, .all, .val 0xFFFF, .any, true⟩,
  ⟨0x03, 0x03, .u8, .rw, .all, .val 0x01, .rng 1 2, true⟩,
  ⟨0x04, 0x04, .u8, .wo, .all, .live, .rng 1 3, true⟩,
  ⟨0x05, 0x05, .u8, .ro, .all, .val 0x00, .any, true⟩,
  ⟨0x06, 0x06, .u8, .ro, .all, .val 0x00, .any, true⟩,
  ⟨0x07, 0x07, .time, .ro, .all, .val 0, .any, true⟩]

/-- 0x6010, Table 8-9. -/
def rows6010 : List Row := [
  ⟨0x00, 0x00, .u8, .const, .all, .val 0x07, .any, false⟩,
  ⟨0x01, 0x01, .u8, .rwp, .fixed 0x01, .val 15, .rng 0 15, false⟩,
  ⟨0x02, 0x02, .u32, .rwp, .fixed 0x01, .val 1, .rng 1 10000000, false⟩,
  ⟨0x03, 0x03, .i32, .rwp, .fixed 0x01, .val 0, .srng (-100000) 100000, false⟩,
  ⟨0x04, 0x04, .u16, .rwp, .fixed 0x01, .val 10, .rng 1 600, false⟩,
  ⟨0x05, 0x05, .u8, .rwp, .fixed 0x01, .val 15, .rngOr 0 5 50, false⟩,
  ⟨0x06, 0x06, .u16, .rwp, .fixed 0x01, .val 64, .rng 16 1024, false⟩,
  ⟨0x07, 0x07, .u8, .rwp, .fixed 0x01, .val 16, .rng 1 64, false⟩]

/-- 0x61nn, Table 8-10. -/
def rows61nn : List Row := [
  ⟨0x00, 0x00, .u8, .const, .all, .val 0x0C, .any, false⟩,
  ⟨0x01, 0x01, .u8, .ro, .channel, .val 0x80, .any, false⟩,
  ⟨0x02, 0x02, .u8, .ro, .channel, .val 0x80, .any, false⟩,
  ⟨0x03, 0x03, .u8, .ro, .channel, .val 0x00, .any, false⟩,
  ⟨0x04, 0x04, .i16, .ro, .channel, .val 0, .any, false⟩,
  ⟨0x05, 0x05, .u8, .ro, .channel, .val 0x80, .any, false⟩,
  ⟨0x06, 0x06, .i8, .ro, .channel, .val 0, .any, false⟩,
  ⟨0x07, 0x07, .bool, .rwp, .channel, .val 1, .rng 0 1, false⟩,
  ⟨0x08, 0x08, .i16, .ro, .channel, .val 0, .any, false⟩,
  ⟨0x09, 0x09, .i16, .ro, .channel, .val 0, .any, false⟩,
  ⟨0x0A, 0x0A, .u32, .ro, .channel, .val 0, .any, false⟩,
  ⟨0x0B, 0x0B, .u32, .ro, .channel, .val 0, .any, false⟩,
  ⟨0x0C, 0x0C, .time, .ro, .channel, .val 0, .any, false⟩]

/-- 0x618n, Table 8-11. -/
def rows618n : List Row := [
  ⟨0x00, 0x00, .u8, .const, .all, .val 0x07, .any, false⟩,
  ⟨0x01, 0x01, .i16, .ro, .all, .factory, .any, false⟩,
  ⟨0x02, 0x02, .i16, .ro, .all, .factory, .any, false⟩,
  ⟨0x03, 0x03, .u8, .ro, .all, .factory, .any, false⟩,
  ⟨0x04, 0x04, .u8, .ro, .all, .factory, .any, false⟩,
  ⟨0x05, 0x05, .bool, .rwp, .fixed 0x01, .val 1, .rng 0 1, false⟩,
  ⟨0x06, 0x06, .i8, .ro, .all, .val 25, .any, false⟩,
  ⟨0x07, 0x07, .u8, .ro, .all, .val 0x00, .any, false⟩]

/-- 0x6200, Table 8-12. -/
def rows6200 : List Row := [
  ⟨0x00, 0x00, .u8, .const, .all, .val 0x09, .any, false⟩,
  ⟨0x01, 0x01, .u16, .ro, .all, .factory, .any, false⟩,
  ⟨0x02, 0x02, .u16, .ro, .all, .val 0x0000, .any, false⟩,
  ⟨0x03, 0x03, .u8, .ro, .all, .val 0x00, .any, false⟩,
  ⟨0x04, 0x04, .octets 24, .ro, .all, .factory, .any, false⟩,
  ⟨0x05, 0x05, .octets 24, .ro, .all, .factory, .any, false⟩,
  ⟨0x06, 0x06, .octets 24, .ro, .all, .factory, .any, false⟩,
  ⟨0x07, 0x07, .bool, .rwp, .fixed 0x01, .val 1, .rng 0 1, false⟩,
  ⟨0x08, 0x08, .i8, .ro, .all, .factory, .any, false⟩,
  ⟨0x09, 0x09, .u8, .ro, .all, .factory, .any, false⟩]

/-- 0x6210, Table 8-12. -/
def rows6210 : List Row := [
  ⟨0x00, 0x00, .u8, .const, .all, .val 0x04, .any, false⟩,
  ⟨0x01, 0x01, .i32, .ro, .all, .factory, .any, false⟩,
  ⟨0x02, 0x02, .i32, .ro, .all, .factory, .any, false⟩,
  ⟨0x03, 0x03, .time, .ro, .all, .val 0, .any, false⟩,
  ⟨0x04, 0x04, .time, .ro, .all, .val 0, .any, false⟩]

/-- 0x63kk, Table 8-13. -/
def rows63kk : List Row := [
  ⟨0x00, 0x00, .u8, .const, .all, .val 0x08, .any, false⟩,
  ⟨0x01, 0x01, .u32, .ro, .fixed 0x01, .val 0, .any, false⟩,
  ⟨0x02, 0x02, .u32, .ro, .fixed 0x01, .val 0, .any, false⟩,
  ⟨0x03, 0x03, .u32, .ro, .fixed 0x01, .val 0, .any, false⟩,
  ⟨0x04, 0x04, .u32, .ro, .fixed 0x01, .val 0, .any, false⟩,
  ⟨0x05, 0x05, .time, .ro, .fixed 0x01, .val 0, .any, false⟩,
  ⟨0x06, 0x06, .time, .ro, .fixed 0x01, .val 0, .any, false⟩,
  ⟨0x07, 0x07, .u16, .ro, .fixed 0x01, .val 0xFFFF, .any, false⟩,
  ⟨0x08, 0x08, .u8, .ro, .fixed 0x01, .val 0x00, .any, false⟩]

/-- 0x7000, Table 18-7. -/
def rows7000 : List Row := [
  ⟨0x00, 0x00, .u8, .const, .all, .val 0x09, .any, false⟩,
  ⟨0x01, 0x01, .bool, .ro, .all, .val 0, .any, false⟩,
  ⟨0x02, 0x02, .bool, .ro, .all, .val 0, .any, false⟩,
  ⟨0x03, 0x03, .u8, .ro, .fixed 0x01, .val 0, .any, false⟩,
  ⟨0x04, 0x04, .u32, .ro, .fixed 0x01, .val 0, .any, false⟩,
  ⟨0x05, 0x05, .u32, .rwp, .fixed 0x01, .val 100000, .rng 10000 10000000, false⟩,
  ⟨0x06, 0x06, .u8, .rwp, .fixed 0x01, .val 3, .rng 1 16, false⟩,
  ⟨0x07, 0x07, .u32, .rwp, .fixed 0x01, .val 60000000, .rng 10000000 3600000000, false⟩,
  ⟨0x08, 0x08, .u32, .ro, .fixed 0x01, .val 0, .any, false⟩,
  ⟨0x09, 0x09, .u16, .ro, .fixed 0x01, .val 0xFFFF, .any, false⟩]

/-- 0x7010, Table 18-7. -/
def rows7010 : List Row := [
  ⟨0x00, 0x00, .u8, .const, .all, .val 0x06, .any, true⟩,
  ⟨0x01, 0x01, .octets 24, .ro, .all, .val 0, .any, true⟩,
  ⟨0x02, 0x02, .octets 24, .ro, .all, .val 0, .any, true⟩,
  ⟨0x03, 0x03, .u8, .wo, .all, .live, .any, true⟩,
  ⟨0x04, 0x04, .u8, .wo, .all, .live, .rng 1 1, true⟩,
  ⟨0x05, 0x05, .u16, .ro, .all, .val 0xFFFF, .any, true⟩,
  ⟨0x06, 0x06, .u8, .ro, .all, .val 0, .any, true⟩]

/-- 0x7020, Table 18-7. -/
def rows7020 : List Row := [
  ⟨0x00, 0x00, .u8, .const, .all, .val 0x03, .any, true⟩,
  ⟨0x01, 0x01, .u16, .rw, .all, .val 0xFFFF, .any, true⟩,
  ⟨0x02, 0x02, .octets 64, .ro, .all, .val 0, .any, true⟩,
  ⟨0x03, 0x03, .u16, .ro, .all, .val 0xFFFF, .any, true⟩]

/-- 0x71ff, Table 18-8. -/
def rows71ff : List Row := [
  ⟨0x00, 0x00, .u8, .const, .all, .val 0x09, .any, false⟩,
  ⟨0x01, 0x01, .u8, .const, .all, .special, .any, false⟩,
  ⟨0x02, 0x02, .u8, .const, .all, .special, .any, false⟩,
  ⟨0x03, 0x03, .u8, .rwp, .fixed 0x01, .special, .rng 0 31, false⟩,
  ⟨0x04, 0x04, .u8, .ro, .fixed 0x01, .val 0x00, .any, false⟩,
  ⟨0x05, 0x05, .u8, .ro, .fixed 0x01, .val 0x00, .any, false⟩,
  ⟨0x06, 0x06, .u32, .ro, .fixed 0x01, .val 0, .any, false⟩,
  ⟨0x07, 0x07, .time, .ro, .fixed 0x01, .val 0, .any, false⟩,
  ⟨0x08, 0x08, .u32, .ro, .fixed 0x01, .val 0, .any, false⟩,
  ⟨0x09, 0x09, .u8, .ro, .fixed 0x01, .val 0, .any, false⟩]

/-- 0x7200, Table 19-6. -/
def rows7200 : List Row := [
  ⟨0x00, 0x00, .u8, .const, .all, .val 0x02, .any, true⟩,
  ⟨0x01, 0x01, .u8, .wo, .all, .live, .rng 1 8, true⟩,
  ⟨0x02, 0x02, .u8, .wo, .fixed 0x01, .live, .rng 1 15, true⟩]

/-- 0x7210, Table 19-7. -/
def rows7210 : List Row := [
  ⟨0x00, 0x00, .u8, .const, .all, .val 0x0B, .any, false⟩,
  ⟨0x01, 0x01, .u8, .ro, .all, .val 0x00, .any, false⟩,
  ⟨0x02, 0x02, .u8, .ro, .all, .val 0x08, .any, false⟩,
  ⟨0x03, 0x03, .u8, .ro, .fixed 0x01, .val 0xFF, .any, false⟩,
  ⟨0x04, 0x04, .u16, .ro, .fixed 0x01, .val 0, .any, false⟩,
  ⟨0x05, 0x05, .time, .ro, .all, .val 0, .any, false⟩,
  ⟨0x06, 0x06, .u16, .ro, .all, .val 0x0001, .any, false⟩,
  ⟨0x07, 0x07, .u16, .wo, .fixed 0x01, .live, .rng 0 1023, false⟩,
  ⟨0x08, 0x08, .u8, .rwp, .fixed 0x01, .val 0x01, .rng 0 7, false⟩,
  ⟨0x09, 0x09, .u32, .rwp, .fixed 0x01, .val 1000, .rng 100 100000, false⟩,
  ⟨0x0A, 0x0A, .u32, .ro, .all, .val 0, .any, false⟩,
  ⟨0x0B, 0x0B, .u8, .ro, .all, .val 0, .any, false⟩]

/-- 0x7220, Table 19-7. -/
def rows7220 : List Row := [
  ⟨0x00, 0x00, .u8, .const, .all, .val 0x04, .any, false⟩,
  ⟨0x01, 0x04, .octets 16, .ro, .fixed 0x01, .val 0, .any, false⟩]

/-- 0x7400, Table 17-5. -/
def rows7400 : List Row := [
  ⟨0x00, 0x00, .u8, .const, .all, .val 0x0A, .any, true⟩,
  ⟨0x01, 0x01, .octets 160, .rwp, .all, .val 0, .any, true⟩,
  ⟨0x02, 0x02, .octets 160, .rwp, .all, .val 0, .any, true⟩,
  ⟨0x03, 0x03, .u8, .rwp, .all, .val 0x00, .rng 0 1, true⟩,
  ⟨0x04, 0x04, .u8, .ro, .all, .val 0, .any, true⟩,
  ⟨0x05, 0x05, .u32, .ro, .all, .val 0, .any, true⟩,
  ⟨0x06, 0x06, .u32, .ro, .all, .val 0, .any, true⟩,
  ⟨0x07, 0x07, .u32, .ro, .all, .val 0, .any, true⟩,
  ⟨0x08, 0x08, .u32, .ro, .all, .val 0, .any, true⟩,
  ⟨0x09, 0x09, .u16, .ro, .all, .val 0, .any, true⟩,
  ⟨0x0A, 0x0A, .time, .ro, .all, .val 0, .any, true⟩]

/-- 0x7410, Table 17-5. -/
def rows7410 : List Row := [
  ⟨0x00, 0x00, .u8, .const, .all, .val 0x02, .any, false⟩,
  ⟨0x01, 0x01, .u16, .rw, .all, .val 0, .rng 0 1279, true⟩,
  ⟨0x02, 0x02, .octets 8, .ro, .all, .live, .any, true⟩]

/-- 0x7500, Table 20-3. -/
def rows7500 : List Row := [
  ⟨0x00, 0x00, .u8, .const, .all, .val 0x04, .any, false⟩,
  ⟨0x01, 0x01, .u8, .ro, .all, .val 0x01, .any, false⟩,
  ⟨0x02, 0x02, .u16, .rwp, .fixed 0x01, .val 100, .rng 20 1000, false⟩,
  ⟨0x03, 0x03, .u32, .rwp, .fixed 0x01, .val 1000, .rng 500 100000, false⟩,
  ⟨0x04, 0x04, .u8, .ro, .all, .val 0x00, .any, false⟩]

/-- 0x750d, Table 20-4. -/
def rows750d : List Row := [
  ⟨0x00, 0x00, .u8, .const, .all, .val 0x0C, .any, false⟩,
  ⟨0x01, 0x01, .u8, .ro, .all, .val 0x00, .any, false⟩,
  ⟨0x02, 0x02, .u8, .ro, .all, .val 0x01, .any, false⟩,
  ⟨0x03, 0x03, .time, .ro, .all, .val 0, .any, false⟩,
  ⟨0x04, 0x04, .u8, .ro, .fixed 0x01, .val 0, .any, false⟩,
  ⟨0x05, 0x05, .u32, .ro, .fixed 0x01, .val 0, .any, false⟩,
  ⟨0x06, 0x06, .u32, .ro, .fixed 0x01, .val 0, .any, false⟩,
  ⟨0x07, 0x07, .u32, .ro, .fixed 0x01, .val 0, .any, false⟩,
  ⟨0x08, 0x08, .u32, .ro, .fixed 0x01, .val 0, .any, false⟩,
  ⟨0x09, 0x09, .u32, .ro, .fixed 0x01, .val 0, .any, false⟩,
  ⟨0x0A, 0x0A, .u16, .ro, .fixed 0x01, .val 0, .any, false⟩,
  ⟨0x0B, 0x0B, .u16, .ro, .fixed 0x01, .val 0, .any, false⟩,
  ⟨0x0C, 0x0C, .u32, .ro, .fixed 0x01, .val 0, .any, false⟩]

/-- 0x80kk, Table 16-3. -/
def rows80kk : List Row := [
  ⟨0x00, 0x00, .u8, .const, .all, .val 0x11, .any, false⟩,
  ⟨0x01, 0x01, .u8, .ro, .metronome, .val 0x00, .any, false⟩,
  ⟨0x02, 0x02, .u8, .rwp, .metronome, .val 0x00, .rng 0 2, false⟩,
  ⟨0x03, 0x03, .u8, .rwp, .metronome, .val 0x00, .rng 0 1, false⟩,
  ⟨0x04, 0x04, .u32, .rwp, .metronome, .val 1000000, .any, false⟩,
  ⟨0x05, 0x05, .u32, .ro, .metronome, .val 0, .any, false⟩,
  ⟨0x06, 0x06, .u32, .ro, .metronome, .val 0, .any, false⟩,
  ⟨0x07, 0x07, .u8, .ro, .metronome, .val 0x00, .any, false⟩,
  ⟨0x08, 0x08, .u32, .rwp, .metronome, .val 0, .any, false⟩,
  ⟨0x09, 0x09, .u32, .rwp, .metronome, .val 0, .any, false⟩,
  ⟨0x0A, 0x0A, .u32, .ro, .metronome, .val 0, .any, false⟩,
  ⟨0x0B, 0x0B, .time, .rwp, .metronome, .val 0, .any, false⟩,
  ⟨0x0C, 0x0C, .u16, .rwp, .metronome, .val 0xFFFF, .rngOr 65535 0 1279, false⟩,
  ⟨0x0D, 0x0D, .u8, .rwp, .metronome, .val 0x00, .rng 0 1, false⟩,
  ⟨0x0E, 0x0E, .u8, .wo, .metronome, .live, .rng 1 3, false⟩,
  ⟨0x0F, 0x0F, .bool, .rwp, .metronome, .val 0, .rng 0 1, false⟩,
  ⟨0x10, 0x10, .time, .ro, .metronome, .val 0, .any, false⟩,
  ⟨0x11, 0x11, .u32, .ro, .metronome, .val 0, .any, false⟩]

/-- 0x9000, Table 14-3. -/
def rows9000 : List Row := [
  ⟨0x00, 0x00, .u8, .const, .all, .val 0x06, .any, false⟩,
  ⟨0x01, 0x01, .u8, .wo, .fixed 0x01, .live, .rng 1 3, false⟩,
  ⟨0x02, 0x02, .u8, .rw, .fixed 0x01, .val 0x01, .rng 0 7, false⟩,
  ⟨0x03, 0x03, .u8, .ro, .fixed 0x01, .val 0x00, .any, false⟩,
  ⟨0x04, 0x04, .u8, .ro, .fixed 0x01, .val 0x01, .any, false⟩,
  ⟨0x05, 0x05, .u32, .const, .all, .val 262144, .any, false⟩,
  ⟨0x06, 0x06, .u16, .ro, .fixed 0x01, .val 1024, .any, false⟩]

/-- 0x901n, Table 14-3. -/
def rows901n : List Row := [
  ⟨0x00, 0x00, .u8, .const, .all, .val 0x08, .any, false⟩,
  ⟨0x01, 0x01, .u64, .rwp, .fixed 0x01, .val 0, .any, false⟩,
  ⟨0x02, 0x02, .u16, .rwp, .fixed 0x01, .val 0, .any, false⟩,
  ⟨0x03, 0x03, .u32, .rwp, .fixed 0x01, .val 0, .any, false⟩,
  ⟨0x04, 0x04, .u16, .rwp, .fixed 0x01, .special, .any, false⟩,
  ⟨0x05, 0x05, .u32, .rwp, .fixed 0x01, .special, .any, false⟩,
  ⟨0x06, 0x06, .u32, .rwp, .fixed 0x01, .special, .any, false⟩,
  ⟨0x07, 0x07, .i16, .rwp, .fixed 0x01, .val 270, .srng (-200) (270), false⟩,
  ⟨0x08, 0x08, .u8, .rwp, .fixed 0x01, .val 3, .rng 0 3, false⟩]

/-- 0x902n, Table 14-4. -/
def rows902n : List Row := [
  ⟨0x00, 0x00, .u8, .const, .all, .val 0x0B, .any, false⟩,
  ⟨0x01, 0x01, .u8, .ro, .status, .special, .any, false⟩,
  ⟨0x02, 0x02, .time, .ro, .status, .val 0, .any, false⟩,
  ⟨0x03, 0x03, .u32, .ro, .status, .val 0, .any, false⟩,
  ⟨0x04, 0x04, .time, .ro, .status, .val 0, .any, false⟩,
  ⟨0x05, 0x05, .u32, .ro, .status, .val 0, .any, false⟩,
  ⟨0x06, 0x06, .u32, .ro, .status, .val 0, .any, false⟩,
  ⟨0x07, 0x07, .u32, .ro, .status, .val 0, .any, false⟩,
  ⟨0x08, 0x08, .u32, .ro, .status, .val 0, .any, false⟩,
  ⟨0x09, 0x09, .u32, .ro, .status, .val 0, .any, false⟩,
  ⟨0x0A, 0x0A, .u64, .ro, .status, .val 0, .any, false⟩,
  ⟨0x0B, 0x0B, .u8, .ro, .status, .val 0, .any, false⟩]

/-- 0x91cc, Table 15-10. -/
def rows91cc : List Row := [
  ⟨0x00, 0x00, .u8, .const, .all, .val 0x05, .any, false⟩,
  ⟨0x01, 0x01, .u8, .ro, .key, .special, .any, false⟩,
  ⟨0x02, 0x02, .u8, .ro, .key, .val 0x00, .any, false⟩,
  ⟨0x03, 0x03, .octets 3, .ro, .key, .val 0, .any, false⟩,
  ⟨0x04, 0x04, .time, .ro, .key, .val 0, .any, false⟩,
  ⟨0x05, 0x05, .u8, .ro, .key, .val 0, .any, false⟩]

/-- 0x9160, Table 15-10. -/
def rows9160 : List Row := [
  ⟨0x00, 0x00, .u8, .const, .all, .val 0x01, .any, false⟩,
  ⟨0x01, 0x01, .u8, .rwp, .fixed 0x01, .val 1, .rng 1 2, false⟩]

/-- 0x9200, Table 15-10. -/
def rows9200 : List Row := [
  ⟨0x00, 0x00, .u8, .const, .all, .val 0x06, .any, true⟩,
  ⟨0x01, 0x01, .u8, .rw, .all, .val 0xFF, .any, true⟩,
  ⟨0x02, 0x02, .octets 64, .rw, .all, .val 0, .any, true⟩,
  ⟨0x03, 0x03, .octets 40, .rw, .all, .val 0, .any, true⟩,
  ⟨0x04, 0x04, .u8, .wo, .all, .live, .rng 1 2, true⟩,
  ⟨0x05, 0x05, .u8, .ro, .all, .val 0x00, .any, true⟩,
  ⟨0x06, 0x06, .u8, .rw, .all, .val 16, .rngOr 32 16 16, true⟩]

/-- 0x9300, Table 15-11. -/
def rows9300 : List Row := [
  ⟨0x00, 0x00, .u8, .const, .all, .val 0x08, .any, false⟩,
  ⟨0x01, 0x01, .u8, .wo, .fixed 0x01, .live, .rng 1 6, false⟩,
  ⟨0x02, 0x02, .u8, .rw, .fixed 0x01, .val 0x01, .rng 1 2, false⟩,
  ⟨0x03, 0x03, .u8, .ro, .fixed 0x01, .val 0x00, .any, false⟩,
  ⟨0x04, 0x04, .u32, .rw, .fixed 0x01, .val 0, .any, false⟩,
  ⟨0x05, 0x05, .u32, .ro, .fixed 0x01, .val 0, .any, false⟩,
  ⟨0x06, 0x06, .u8, .ro, .fixed 0x01, .val 0x00, .any, false⟩,
  ⟨0x07, 0x07, .u32, .rwp, .fixed 0x01, .val 900000000, .rng 60000000 3600000000, false⟩,
  ⟨0x08, 0x08, .time, .ro, .fixed 0x01, .val 0, .any, false⟩]

/-- 0x9310, Table 15-11. -/
def rows9310 : List Row := [
  ⟨0x00, 0x00, .octets 4096, .wo, .fixed 0x01, .live, .any, false⟩]

/-- 0x932t, Table 15-11. -/
def rows932t : List Row := [
  ⟨0x00, 0x00, .u8, .const, .all, .val 0x09, .any, false⟩,
  ⟨0x01, 0x01, .u8, .ro, .all, .val 0x00, .any, false⟩,
  ⟨0x02, 0x02, .u8, .ro, .all, .factory, .any, false⟩,
  ⟨0x03, 0x03, .u32, .ro, .all, .factory, .any, false⟩,
  ⟨0x04, 0x04, .u16, .ro, .all, .factory, .any, false⟩,
  ⟨0x05, 0x05, .u8, .ro, .all, .val 0, .any, false⟩,
  ⟨0x06, 0x06, .u32, .ro, .all, .val 0, .any, false⟩,
  ⟨0x07, 0x07, .u16, .ro, .all, .val 0, .any, false⟩,
  ⟨0x08, 0x08, .u16, .ro, .all, .factory, .any, false⟩,
  ⟨0x09, 0x09, .u32, .ro, .all, .val 0, .any, false⟩]

/-- 0xA0ss, Table 6-10. -/
def rowsA0ss : List Row := [
  ⟨0x00, 0x00, .u8, .const, .all, .val 0x0A, .any, false⟩,
  ⟨0x01, 0x01, .u8, .ro, .scoreHead, .val 0xFF, .any, false⟩,
  ⟨0x02, 0x02, .u8, .ro, .scoreHead, .val 0x00, .any, false⟩,
  ⟨0x03, 0x03, .u8, .rwp, .score, .val 0x00, .rng 0 1, false⟩,
  ⟨0x04, 0x04, .u16, .rwp, .score, .val 0, .rng 0 1279, false⟩,
  ⟨0x05, 0x05, .u8, .wo, .score, .live, .rng 1 2, false⟩,
  ⟨0x06, 0x06, .u8, .ro, .score, .val 0, .any, false⟩,
  ⟨0x07, 0x07, .u32, .ro, .score, .val 0, .any, false⟩,
  ⟨0x08, 0x08, .time, .ro, .score, .val 0, .any, false⟩,
  ⟨0x09, 0x09, .u32, .ro, .score, .val 0, .any, false⟩,
  ⟨0x0A, 0x0A, .bool, .rwp, .score, .val 1, .rng 0 1, false⟩]

/-- 0xA1ss, Table 6-10. -/
def rowsA1ss : List Row := [
  ⟨0x00, 0x00, .u8, .const, .all, .val 0x80, .any, false⟩,
  ⟨0x01, 0x80, .octets 32, .rwp, .score, .val 0, .any, false⟩]

/-- 0xA2ss, Table 6-10. -/
def rowsA2ss : List Row := [
  ⟨0x00, 0x00, .octets 4096, .rw, .score, .val 0, .any, false⟩]

/-- 0xF000, Table 13-19. -/
def rowsF000 : List Row := [
  ⟨0x00, 0x00, .u8, .const, .all, .val 0x04, .any, false⟩,
  ⟨0x01, 0x01, .text 32, .const, .all, .val 0x73746e656d757274736e4920766f6e74657653, .any, false⟩,
  ⟨0x02, 0x02, .text 32, .const, .all, .val 0x3034365856206f6e726f73786f56, .any, false⟩,
  ⟨0x03, 0x03, .u32, .const, .all, .val 0x00064000, .any, false⟩,
  ⟨0x04, 0x04, .u32, .const, .all, .identity, .any, false⟩]

/-- The index map (Table 13-17): every index that exists, in rising order. -/
def families : List Family :=
  [⟨0x1001, 0x1001, rows1001⟩, ⟨0x1010, 0x1010, rows1010⟩, ⟨0x1020, 0x1020, rows1020⟩, ⟨0x1030, 0x1030, rows1030⟩, ⟨0x1034, 0x1034, rows1034⟩, ⟨0x1035, 0x1035, rows1035⟩, ⟨0x1040, 0x1040, rows1040⟩, ⟨0x1041, 0x1041, rows1041⟩, ⟨0x1050, 0x1050, rows1050⟩, ⟨0x1060, 0x1060, rows1060⟩, ⟨0x1061, 0x1061, rows1061⟩, ⟨0x1070, 0x1070, rows1070⟩, ⟨0x1071, 0x1071, rows1071⟩, ⟨0x1080, 0x1080, rows1080⟩, ⟨0x1090, 0x109F, rows109g⟩, ⟨0x1100, 0x1100, rows1100⟩, ⟨0x1110, 0x1110, rows1110⟩, ⟨0x2000, 0x2003, rows200n⟩, ⟨0x2010, 0x2010, rows2010⟩, ⟨0x2020, 0x2020, rows2020⟩, ⟨0x2030, 0x2030, rows2030⟩, ⟨0x2100, 0x213F, rows21nn⟩, ⟨0x2200, 0x223F, rows22nn⟩, ⟨0x2280, 0x2283, rows228n⟩] ++
  [⟨0x2400, 0x2400, rows2400⟩, ⟨0x2480, 0x2483, rows248n⟩, ⟨0x2500, 0x253F, rows25nn⟩, ⟨0x3000, 0x3000, rows3000⟩, ⟨0x3020, 0x3020, rows3020⟩, ⟨0x3100, 0x3100, rows3100⟩, ⟨0x3180, 0x3180, rows3180⟩, ⟨0x4000, 0x4000, rows4000⟩, ⟨0x4001, 0x4001, rows4001⟩, ⟨0x4010, 0x4010, rows4010⟩, ⟨0x4020, 0x4020, rows4020⟩, ⟨0x4030, 0x4030, rows4030⟩, ⟨0x4040, 0x4040, rows4040⟩, ⟨0x4050, 0x4050, rows4050⟩, ⟨0x4100, 0x4100, rows4100⟩, ⟨0x4110, 0x4110, rows4110⟩, ⟨0x4120, 0x4120, rows4120⟩, ⟨0x4130, 0x4130, rows4130⟩, ⟨0x4140, 0x4140, rows4140⟩, ⟨0x5000, 0x5000, rows5000⟩, ⟨0x5010, 0x5010, rows5010⟩, ⟨0x5020, 0x5020, rows5020⟩, ⟨0x5030, 0x5030, rows5030⟩, ⟨0x5040, 0x5040, rows5040⟩] ++
  [⟨0x5050, 0x5050, rows5050⟩, ⟨0x5400, 0x5400, rows5400⟩, ⟨0x5410, 0x5410, rows5410⟩, ⟨0x6000, 0x6000, rows6000⟩, ⟨0x6010, 0x6010, rows6010⟩, ⟨0x6100, 0x613F, rows61nn⟩, ⟨0x6180, 0x6183, rows618n⟩, ⟨0x6200, 0x6200, rows6200⟩, ⟨0x6210, 0x6210, rows6210⟩, ⟨0x6301, 0x630B, rows63kk⟩, ⟨0x7000, 0x7000, rows7000⟩, ⟨0x7010, 0x7010, rows7010⟩, ⟨0x7020, 0x7020, rows7020⟩, ⟨0x7100, 0x7103, rows71ff⟩, ⟨0x7110, 0x7115, rows71ff⟩, ⟨0x7120, 0x7124, rows71ff⟩, ⟨0x7140, 0x7141, rows71ff⟩, ⟨0x7150, 0x7151, rows71ff⟩, ⟨0x7160, 0x7160, rows71ff⟩, ⟨0x7170, 0x7170, rows71ff⟩, ⟨0x7180, 0x7183, rows71ff⟩, ⟨0x7190, 0x7191, rows71ff⟩, ⟨0x7200, 0x7200, rows7200⟩, ⟨0x7210, 0x7210, rows7210⟩] ++
  [⟨0x7220, 0x7220, rows7220⟩, ⟨0x7400, 0x7400, rows7400⟩, ⟨0x7410, 0x7410, rows7410⟩, ⟨0x7500, 0x7500, rows7500⟩, ⟨0x7501, 0x7504, rows750d⟩, ⟨0x8000, 0x800F, rows80kk⟩, ⟨0x9000, 0x9000, rows9000⟩, ⟨0x9010, 0x9017, rows901n⟩, ⟨0x9020, 0x9027, rows902n⟩, ⟨0x9100, 0x914F, rows91cc⟩, ⟨0x9151, 0x9152, rows91cc⟩, ⟨0x9160, 0x9160, rows9160⟩, ⟨0x9200, 0x9200, rows9200⟩, ⟨0x9300, 0x9300, rows9300⟩, ⟨0x9310, 0x9310, rows9310⟩, ⟨0x9321, 0x9322, rows932t⟩, ⟨0xA000, 0xA01F, rowsA0ss⟩, ⟨0xA100, 0xA11F, rowsA1ss⟩, ⟨0xA200, 0xA21F, rowsA2ss⟩, ⟨0xF000, 0xF000, rowsF000⟩]

end Dict

end Sys2Proof.Machine
end

