-- ==== Sys2Proof/Machine/Lookup.lean ====
section
/-! DEFINITION. Finding a row of the dictionary (R367, R368), the keys under which values are held, the width of a
value (Table 13-1) and what an object reads before anything has written it (R373, R631). -/

namespace Sys2Proof.Machine

/-- The rows of an index, empty where the index does not exist (R401). -/
def Dict.rowsOf (i : Nat) : List Row :=
  match Dict.families.find? (fun f => decide (f.lo ≤ i) && decide (i ≤ f.hi)) with
  | some f => f.rows
  | none => []

/-- The row of an object, if it exists and is not reserved. -/
def Dict.row? (i sub : Nat) : Option Row :=
  (Dict.rowsOf i).find? (fun r => decide (r.sub ≤ sub) && decide (sub ≤ r.last))

/-- The highest subindex an index has. -/
def Dict.highest (i : Nat) : Nat := (Dict.rowsOf i).foldl (fun m r => max m r.last) 0

/-- A VAR holds its one value at subindex 0x00 (R367): the image window and the payload stores. -/
def Dict.isVar (i : Nat) : Bool := i == 0x9310 || (decide (0xA200 ≤ i) && decide (i ≤ 0xA21F))

/-- A reserved subindex: at or below the record's highest, with no row (R368). -/
def Dict.reserved (i sub : Nat) : Bool :=
  (Dict.rowsOf i).length != 0 && (Dict.row? i sub).isNone && decide (sub ≤ Dict.highest i)

/-- Bytes of a type (Table 13-1). -/
def Ty.bytes : Ty → Nat
  | .bool | .u8 | .i8 => 1
  | .u16 | .i16 => 2
  | .u32 | .i32 => 4
  | .u64 | .i64 | .time => 8
  | .q m n | .uq m n => (m + n) / 8
  | .octets n | .text n => n

/-- Type code of Table 13-1. -/
def Ty.code : Ty → Nat
  | .bool => 0x01 | .u8 => 0x02 | .u16 => 0x03 | .u32 => 0x04 | .u64 => 0x05
  | .i8 => 0x06 | .i16 => 0x07 | .i32 => 0x08 | .i64 => 0x09
  | .q _ _ => 0x0A | .uq _ _ => 0x0B | .time => 0x0C | .octets _ => 0x0D | .text _ => 0x0E

/-- The types whose values are numbers (R392, R393). -/
def Ty.numeric : Ty → Bool
  | .octets _ | .text _ => false
  | _ => true

/-- Access code of Table 13-2. -/
def Access.code : Access → Nat
  | .const => 0 | .ro => 1 | .rw => 2 | .wo => 3 | .rwp => 4

/-- The key of a shared object. -/
def ob (i sub : Nat) : Nat := (i * 256 + sub) * 8

/-- The key of tenant `t`'s copy of a per-tenant object (R372). -/
def obT (i sub : Nat) (t : Fin 8) : Nat := ob i sub + t.val

/-- Index of a key. -/
def keyIndex (k : Nat) : Nat := k / 2048
/-- Subindex of a key. -/
def keySub (k : Nat) : Nat := k / 8 % 256

/-- The fault sources of Table 18-1: number, class code (Table 18-2), block code. -/
def faultSources : List (Nat × Nat × Nat) :=
  [(0, 1, 0), (1, 2, 0), (2, 3, 0), (3, 3, 0), (16, 4, 1), (17, 4, 1), (18, 4, 1), (19, 4, 1), (20, 4, 1), (21, 3, 1),
   (32, 4, 2), (33, 4, 2), (34, 4, 2), (35, 3, 2), (36, 5, 2), (64, 6, 0), (65, 6, 0), (80, 6, 3), (81, 6, 3),
   (96, 2, 4), (112, 7, 0), (128, 8, 1), (129, 8, 2), (130, 8, 3), (131, 8, 4), (144, 9, 0), (145, 9, 0)]

/-- Class of a source, 0 where the number is reserved. -/
def faultClass (f : Nat) : Nat := ((faultSources.find? (fun e => e.1 == f)).map (fun e => e.2.1)).getD 0
/-- Block code of a source: 0 none, 1 field, 2 air, 3 line, 4 pocket. -/
def faultBlock (f : Nat) : Nat := ((faultSources.find? (fun e => e.1 == f)).map (fun e => e.2.2)).getD 0

/-- Default reaction byte of a class (Table 18-2). -/
def classReaction : Nat → Nat
  | 3 => 0x01
  | 5 => 0x07
  | _ => 0x03

/-- The kind of a key slot by its code (Table 15-2). -/
def slotKind (c : Nat) : Nat :=
  if c ≤ 0x3F then 0x01 else if c ≤ 0x47 then 0x02 else if c ≤ 0x4F then 0x03
  else if c = 0x51 ∨ c = 0x52 then 0x04 else 0

/-- Defaults that a table gives by a formula (R373). -/
def Dict.special (i sub : Nat) : Nat :=
  if 0x2000 ≤ i ∧ i ≤ 0x2003 then 4 * (i - 0x2000)                           -- carrier phase, 4 × n
  else if 0x2100 ≤ i ∧ i ≤ 0x213F then 0x4000                                -- live drive level, from .05
  else if 0x9010 ≤ i ∧ i ≤ 0x9017 then
    if i = 0x9010 then (if sub = 0x04 then 1024 else if sub = 0x05 then 65536 else 0xFFFFFFFF) else 0
  else if 0x9020 ≤ i ∧ i ≤ 0x9027 then (if i = 0x9020 then 1 else 0)         -- state, ACTIVE for T0
  else if 0x7100 ≤ i ∧ i ≤ 0x71BF then
    if sub = 0x01 then faultClass (i - 0x7100) else if sub = 0x02 then faultBlock (i - 0x7100)
    else classReaction (faultClass (i - 0x7100))
  else if 0x9100 ≤ i ∧ i ≤ 0x9152 then slotKind (i - 0x9100)
  else if i = 0x4120 then leNat ((List.range 64).map (fun n => BitVec.ofNat 8 (if n < 63 then 2 * n else 0)))
  else 0

/-- Identity text: `n` printable bytes drawn from the identity value (R369). -/
def identityText : Nat → Nat → Octets
  | 0, _ => []
  | n + 1, v => BitVec.ofNat 8 (0x20 + v % 95) :: identityText n (v / 95)

/-- PA levels of one part, 64 × I16 in 0.1 dBm (R248): from −20.0 dBm to +14.0 dBm in steps of 0.4 dB to 0.7 dB, each level up to 0.1 dB
above the even course, and the whole within 2.0 dB of it. (UNVERIFIED for the width, log entry 2.) -/
def paLevels (x : Nat) : Nat :=
  leNat ((List.range 64).flatMap (fun p =>
    u16 (ofSigned 16 ((340 * p / 63 + (x.testBit p).toNat + x / 2 ^ 64 % 41 : Nat) - (220 : Int)))))

/-- A factory value within the bounds of R631 and of the quantity's own table. (UNVERIFIED, log entry 2.) -/
def Dict.factory (i sub : Nat) : Nat :=
  let x := Config.factory (ob i sub)
  if 0x2280 ≤ i ∧ i ≤ 0x2283 then (if sub = 0x05 then 0 else 1200 * (sub - 5) - 150 + x % 301)
  else if i = 0x1110 then 1280 + x % 513
  else if (i = 0x1100 ∧ sub = 0x0B) ∨ (i = 0x6210 ∧ sub = 0x01) then
    ofSigned 32 ((Config.factory (ob 0x1100 0x0B) % 100001 : Nat) - (50000 : Int))
  else if i = 0x6210 then ofSigned 32 ((x % 100001 : Nat) - (50000 : Int))
  else if 0x6180 ≤ i ∧ i ≤ 0x6183 then
    if sub = 0x01 then ofSigned 16 ((x % 2001 : Nat) - (1000 : Int))
    else if sub = 0x02 then ofSigned 16 ((x % 1001 : Nat) - (500 : Int))
    else if sub = 0x03 then x % 32 else 35 + x % 221
  else if i = 0x6200 then
    if sub = 0x01 then 0xFFF - 2 ^ (x % 12) - 2 ^ ((x % 12 + 1 + x / 12 % 11) % 12)
    else if sub = 0x08 then ofSigned 8 ((x % 127 : Nat) - (63 : Int))
    else if sub = 0x09 then x % 32 else x % 2 ^ 192
  else if i = 0x4030 then paLevels x
  else if 0x9321 ≤ i ∧ i ≤ 0x9322 then
    if sub = 0x02 then 0x05 else if sub = 0x03 then x % 2 ^ 32 else x % 2 ^ 16
  else if i = 0x1050 then (if sub = 0x05 then x % 2 ^ 512 else x % 2 ^ 32)
  else x % 2 ^ 16

/-- The extended address of the part. -/
def extendedAddress : Nat := Config.identity (ob 0x1050 0x01) % 2 ^ 64

/-- The serial number's text. -/
def serialText : Octets := identityText 16 (Config.identity (ob 0x1050 0x02))

/-- Bytes 0 to 191 of the device certificate (Table 15-1): both public keys, the instant of issue and the authority's key are the part's. -/
def certBody : Octets :=
  let x := Config.identity (ob 0x1050 0x03)
  [0x56, 0x43, 0x01, 0x00] ++ leBytes 8 extendedAddress ++ serialText ++ leBytes 128 x ++ leBytes 8 (x / 2 ^ 1024) ++ List.replicate 28 0

/-- An identity value (R427). (UNVERIFIED, log entry 2.) -/
def Dict.identity (i sub : Nat) : Nat :=
  if i = 0x1050 ∧ sub = 0x02 then leNat serialText
  else if i = 0x1050 ∧ sub = 0x03 then leNat (certBody ++ leBytes 64 (Config.certSignature certBody))
  else if i = 0xF000 then Config.identity (ob 0xF000 0x04) % 2 ^ 32
  else extendedAddress

/-- What an object reads before anything has written it: the Default column; for a live measurement 0, and for the core voltage its
least value (log entry 6). -/
def Dict.dflt (k : Nat) : Nat :=
  match Dict.row? (keyIndex k) (keySub k) with
  | none => 0
  | some r =>
    match r.dflt with
    | .val v => v
    | .factory => Dict.factory (keyIndex k) (keySub k)
    | .identity => Dict.identity (keyIndex k) (keySub k)
    | .live => if k = ob 0x1110 0x06 then 500 else 0
    | .special => Dict.special (keyIndex k) (keySub k)

/-- Bits of the value at a key; 0 where no such object exists. -/
def Dict.bits (k : Nat) : Nat :=
  match Dict.row? (keyIndex k) (keySub k) with
  | none => 0
  | some r => 8 * r.ty.bytes

end Sys2Proof.Machine
end

