-- ==== Sys2Proof/Machine/Mem.lean ====
section
/-! DEFINITION. Memory as (address, byte) pairs in one canonical form: addresses strictly rising, and no entry equal to what
an unlisted address reads as. It holds the mailbox array and its descriptors (R343), whose erased bytes read 0xFF. -/

namespace Sys2Proof.Machine

/-- A memory of bytes. -/
abbrev Mem := List Host.Cell

/-- What an unlisted address reads as: the erased byte (chapter 12, "An erased byte reads 0xFF"). -/
def Mem.erased : Byte := 0xFF

/-- The byte at `a`. -/
def Mem.read : Mem → Nat → Byte
  | [], _ => Mem.erased
  | (b, v) :: m, a => if b = a then v else Mem.read m a

/-- The memory with `a` erased. -/
def Mem.erase1 : Mem → Nat → Mem
  | [], _ => []
  | (b, v) :: m, a => if b = a then Mem.erase1 m a else (b, v) :: Mem.erase1 m a

/-- A cell put in before the first larger address. -/
def Mem.ins : Mem → Nat → Byte → Mem
  | [], a, v => [(a, v)]
  | (b, w) :: m, a, v => if a < b then (a, v) :: (b, w) :: m else (b, w) :: Mem.ins m a v

/-- The memory with `a` holding `v`. -/
def Mem.store (m : Mem) (a : Nat) (v : Byte) : Mem :=
  if v = Mem.erased then Mem.erase1 m a else Mem.ins (Mem.erase1 m a) a v

/-- Programming only clears bits. -/
def Mem.program (m : Mem) (a : Nat) (v : Byte) : Mem := Mem.store m a (Mem.read m a &&& v)

/-- `bs` programmed from `a` on. -/
def Mem.programAll : Mem → Nat → Octets → Mem
  | m, _, [] => m
  | m, a, b :: bs => Mem.programAll (Mem.program m a b) (a + 1) bs

/-- `n` bytes erased from `a` on. -/
def Mem.eraseAll (m : Mem) (a n : Nat) : Mem := m.filter (fun c => decide (c.1 < a) || decide (a + n ≤ c.1))

/-- `n` bytes read from `a` on. -/
def Mem.bytes (m : Mem) (a n : Nat) : Octets := (List.range n).map (fun i => Mem.read m (a + i))

/-- Addresses strictly rising from above `lo`, no erased byte listed. -/
def Mem.wfFrom : Option Nat → Mem → Bool
  | _, [] => true
  | lo, (a, v) :: m => (match lo with | none => true | some b => decide (b < a)) && decide (v ≠ Mem.erased) &&
      Mem.wfFrom (some a) m

/-- The canonical form. -/
def Mem.wf (m : Mem) : Bool := Mem.wfFrom none m

end Sys2Proof.Machine
end

