-- ==== Sys2Proof/Machine/Tab.lean ====
section
/-! DEFINITION. A sparse table of numbers in one canonical form: keys strictly rising, and no entry equal to what an
unlisted key reads as, so that equal tables are equal data. The dictionary's values and the NVA's committed values are
two such tables; what an unlisted key reads as is the argument `d`. -/

namespace Sys2Proof.Machine

/-- A sparse table: (key, value) pairs. -/
abbrev Tab := List (Nat × Nat)

/-- The value listed for `k`, if any. -/
def Tab.find : Tab → Nat → Option Nat
  | [], _ => none
  | (a, v) :: t, k => if a = k then some v else Tab.find t k

/-- The value at `k`: the listed one, else the default. -/
def Tab.get (d : Nat → Nat) (t : Tab) (k : Nat) : Nat := (Tab.find t k).getD (d k)

/-- The table without `k`. -/
def Tab.del : Tab → Nat → Tab
  | [], _ => []
  | (a, v) :: t, k => if a = k then Tab.del t k else (a, v) :: Tab.del t k

/-- `k` put in before the first larger key. -/
def Tab.ins : Tab → Nat → Nat → Tab
  | [], k, v => [(k, v)]
  | (a, w) :: t, k, v => if k < a then (k, v) :: (a, w) :: t else (a, w) :: Tab.ins t k v

/-- The table with `k` reading `v`, canonical again: a value equal to the default leaves no entry. -/
def Tab.set (d : Nat → Nat) (t : Tab) (k v : Nat) : Tab :=
  if v = d k then Tab.del t k else Tab.ins (Tab.del t k) k v

/-- Keys strictly rising from above `lo`, and no entry equal to its default. -/
def Tab.wfFrom (d : Nat → Nat) : Option Nat → Tab → Bool
  | _, [] => true
  | lo, (k, v) :: t => (match lo with | none => true | some a => decide (a < k)) && decide (v ≠ d k) &&
      Tab.wfFrom d (some k) t

/-- The canonical form. -/
def Tab.wf (d : Nat → Nat) (t : Tab) : Bool := Tab.wfFrom d none t

end Sys2Proof.Machine
end

