-- ==== Sys2Proof/Machine/State.lean ====
section
/-! DEFINITION. The state of the VX640 as plain data: the dictionary's values, and beside them the state of its engines
that no dictionary object shows. Every value a dictionary object shows is held in `objs` alone (log entry 1), but for the
few objects that `State.live` computes. -/

namespace Sys2Proof.Machine

/-- Faults: the commands that the spec gives no effect. -/
inductive Fault where
  /-- Raised by a supply command whose voltage lies above the absolute maximum of Table 23-1 (R609): the spec gives the
  part no behaviour there. Safe: the model stops where the hardware may be damaged. -/
  | beyondRatings
deriving DecidableEq, Repr

/-- Refusals. -/
inductive Refusal where
  /-- A command whose meaning is not modelled yet, by its mnemonic. Safe: nothing follows from it. -/
  | notModelled (mnemonic : String)
deriving DecidableEq, Repr

/-! ### Time -/

/-- The time base (R33 to R37): the 64-bit count with its 24-bit fraction, the 27.12 MHz cycles since the last tick and
the part of a cycle left over at it (in 1/256 cycle), the 27.12 MHz oscillator restarting (R35), the temperature last read in
whole °C (R37), the ticks of the FIELD window and whether the field island has run since the last tick (R38), the instants of the
last FIELD, MESH and LINE measurements, the core voltage to restore (R43), whether a supply loss awaits its start (R41), the ticks
counted so far and the one at whose edge the tempo measurement under way or to come ends (R42). -/
structure TimeBase where
  count   : Nat
  cycles  : Nat
  phase   : Nat
  restart : Bool
  temp    : Int
  winTicks  : Nat
  fieldRan  : Bool
  lastFrom  : Option Nat × Option Nat × Option Nat
  resumeMv : Nat
  lost     : Bool
  ticks    : Nat
  gate     : Option Nat
deriving DecidableEq, Repr

/-- What a timer is for; most answer a command of the same name. -/
inductive Timer where
  | vbatSample | minute | shed | osc27 | hourly | energyReport | rest | temperature | checkpoint | netOffset
  | source (n : Fin 3) | startTimeout | stretch | startHold | quiesce
  | deadline (ss : ScoreId) (step : Nat) | wait (ss : ScoreId) (step : Nat)
  | select (v : VoiceId) | rampUp (v : VoiceId) | settle (v : VoiceId) | slew (v : VoiceId) | rampDown (v : VoiceId)
  | dwell (v : VoiceId) | frameEnd (v : VoiceId) | windowOpen (v : VoiceId) | eof (v : VoiceId) | close (v : VoiceId)
  | wtx (v : VoiceId)
  | boostStart | boostSlew | boostHold | boostStop
  | probe (c : Channel) | suspension (slot : Nat)
  | firstRun (t : Tenant) | repeatRun (t : Tenant) | refEdge (t : Tenant) | refGate (t : Tenant) | cueHour
  | sealWindow | sealWrite | airClock | airBin | preamble | xpaEnOn | paSupply | bias | synLock | paUp | paDown | xpaEnOff
  | discharge | offDone | synHold | synRun | cueListen | cueGiveUp | cueStop | txEnd
  | lbt | backoff | immAck | ackWait | joinScan | join | joinRetry | foreignCoord | slot | timeBroadcast | unsync
  | unsyncScan | homeSwitch | poll | pendingWait | sync (child : Nat) | indirect (frame : Nat) | child (addr : Nat)
  | cueDelay (child : Nat) | cueRetry (child : Nat) | route (dest : Nat) | dup (key : Nat) | reportRetry (t : Tenant)
  | linePoll | lineReply | lineWindow | lineTime | presence | bypass | addressHold | foreignDip | lineOff
  | lineOvercurrent
  | pocketIdle | bridgeWtx | bridgeTimeout
  | blockLapse (t : Tenant)
  | trial | trialAir | handling (domain : Tenant) | copy | alive (d : Die) | resync (d : Die) | resetWait (id : Nat)
  | airStart
deriving DecidableEq, Repr

/-! ### Dictionary service -/

/-- The operations of Table 13-3 with their bodies; `bad` is a unit that is none of them (R380). -/
inductive Op where
  | read (i sub off cnt : Nat)
  | write (i sub off : Nat) (value : Octets)
  | blockOpenRead (i sub : Nat)
  | blockOpenWrite (total : Nat)
  | blockData (off : Nat) (rest : Octets)
  | blockClose (action : Nat)
  | subscribe (i sub kind event interval deadband : Nat)
  | unsubscribe (entry : Nat)
  | describe (i sub : Nat)
  | next (i sub : Nat)
  | bad
deriving DecidableEq, Repr

/-- A request in a tenant's command queue (R377): what carried it, whom the reply goes to, the envelope's counter, the
key that verified it (R447), the unit's operation code and tag, and the operation. -/
structure Request where
  transport : Transport
  peer      : Nat
  counter   : Nat
  key       : Octets
  code      : Nat
  tag       : Nat
  op        : Op
deriving DecidableEq, Repr

/-- Where a queued request stands: waiting to execute, executed and waiting for its commit (with the reply data it will
carry), or replied to and waiting for the reply to be handed over. -/
inductive Phase where
  | waiting | committing (data : Octets) | replied
deriving DecidableEq, Repr

/-- A queued request with its number. -/
structure Job where
  id    : Nat
  req   : Request
  phase : Phase
deriving DecidableEq, Repr

/-- A completed reply not handed over yet, in order of completion (R385, R387). -/
structure Reply where
  id     : Nat
  tenant : Tenant
  req    : Request
  status : Nat
  data   : Octets
deriving DecidableEq, Repr

/-- A unit a transport has brought, before its arrival checks (R378). `mac` is the envelope's own MAC, which mesh and line units carry (R383). -/
structure Arrival where
  transport : Transport
  peer      : Nat
  tenant    : Tenant
  counter   : Nat
  mac       : Octets
  unit      : Octets
deriving DecidableEq, Repr

/-- A tenant's open block (R389 to R391). -/
structure Block where
  write  : Bool
  total  : Nat
  staged : Octets
  last   : Nat
  obj    : Nat × Nat
deriving DecidableEq, Repr

/-- The service's hidden state: command queues, the tenant last served, the next request number, units not yet arrived,
replies, open blocks, and what the NVA holds of the counter floors (R384) and of the ends of the report counters' blocks (R396). -/
structure Service where
  queues   : Vector (List Job) 8
  turn     : Tenant
  nextId   : Nat
  inbound  : List Arrival
  replies  : List Reply
  blocks   : Vector (Option Block) 8
  floorEnd : Vector Nat 8
  reportEnd : Vector Nat 8
deriving DecidableEq, Repr

/-- The host port (R386 to R388): whether it is selected, LAST_SUBMIT_ERROR, RESET_SEEN, and the bytes of the
last transaction. -/
structure HostPort where
  selected  : Bool
  lastError : Bool
  resetSeen : Bool
  sent      : Octets
deriving DecidableEq, Repr

/-! ### The NVA -/

/-- One page commit (R374, R407): what it makes permanent. `dict` is a tenant's request with the object values it
commits; `own` is a conductor's own commit of object values. -/
inductive Commit where
  | checkpoint (count : Nat)
  | fault (page : Nat)
  | counters | tags | tunings
  | dict (t : Tenant) (id : Nat) (writes : List (Nat × Nat))
  | own (writes : List (Nat × Nat))
  | deletion (t : Tenant)
  | key (slot : Nat) (bytes : Option Octets) (t : Tenant) (id : Nat)
deriving DecidableEq, Repr

/-- The last committed checkpoint (R41): which of its 16 NVA pages holds it, the count, the checkpoint-persisted object values, the
hourly energy bins (R567) and the stored incoming counters as (extended address, by key index 1, by key index 2) (R279); and whether
a checkpoint's commit has failed since. -/
structure Checkpoint where
  page  : Nat
  failed : Bool
  count : Nat
  objs  : Tab
  bins  : List Nat
  counters : List (Nat × Nat × Nat)
deriving DecidableEq, Repr

/-! ### Events -/

/-- A queued event (R472, R477, R20): its number once assigned, stamp, data, the routes that have not accepted it yet
(bits of Table 1-4) and whether a unit of it has been handed out. -/
structure QEvent where
  seq     : Option Nat
  event   : Nat
  stamp   : Nat
  data    : Octets
  routes  : Nat
  touched : Bool
deriving DecidableEq, Repr

/-- An open EVENTS_LOST marker (R479). -/
structure Marker where
  first  : Nat
  since  : Nat
  count  : Nat
  last   : Nat
deriving DecidableEq, Repr

/-- A subscription entry (R392, R393). -/
structure Sub where
  entry    : Nat
  index    : Nat
  sub      : Nat
  kind     : Nat
  event    : Nat
  interval : Nat
  deadband : Nat
  count    : Nat
  seen     : Option Nat
  told     : Option Nat
  toldAt   : Nat
  held     : Bool
deriving DecidableEq, Repr

/-- A tenant's side of the event router (R472 to R479) with the counters of 0x7400. -/
structure Mailbox where
  queue     : List QEvent
  marker    : Option Marker
  nextSeq   : Nat
  seqEnd    : Nat
  reserving : Bool
  queued    : Nat
  masked    : Nat
  coalesced : Nat
  lost      : Nat
  subs      : List Sub
deriving DecidableEq, Repr

/-- An event held until CONDUCTOR_STARTED is queued (R484). -/
structure Held where
  event : Nat
  dests : List Tenant
  data  : Octets
  stamp : Nat
deriving DecidableEq, Repr

/-- The event router. -/
structure Router where
  boxes : Vector Mailbox 8
  held  : List Held
deriving DecidableEq, Repr

/-! ### Faults -/

/-- A fault record (Table 18-5), with what handling needs beside it: whether its tenant acknowledged, and the resets it
asked for that are not released yet (bit 0 to 3 the blocks, bit 4 the chip). -/
structure FaultRecord where
  num       : Nat
  source    : Nat
  domain    : Tenant
  state     : Nat
  reactions : Nat
  flags     : Nat
  raisedAt  : Nat
  detail    : Nat
  merged    : Nat
  mergedAt  : Nat
  clearedAt : Nat
  bitmap    : Nat
  acked     : Bool
  resets    : Nat
  asked     : Nat
deriving DecidableEq, Repr

/-- The collector and its latch (R490, R491): pending and present causes as (source, domain); the causes of CAL_DISAGREE
and CAL_RANGE by kind and target (R204); the ring of 256 pages with what the NVA holds of it; raises not formed into
records yet (R509); reset reactions of the last hour as (source, instant), and as the newest record commit has them (R500); the pocket
copy (R508). -/
structure Faults where
  pending  : List (Nat × Nat)
  causes   : List (Nat × Nat × Nat)
  ring     : List (Nat × FaultRecord)
  stored   : List (Nat × FaultRecord)
  latched  : List (Nat × Nat × Nat × Nat)
  nextNum  : Nat
  resets   : List (Nat × Nat)
  nvaResets : List (Nat × Nat)
  copyAt   : Nat
  copyDirty : Bool
deriving DecidableEq, Repr

/-! ### Reset, links, supplies, pins -/

/-- The dies and pins a reset reaches (Table 19-1). -/
structure Reach where
  conductor : Bool
  field     : Bool
  air       : Bool
  line      : Bool
  pocket    : Bool
  chip      : Bool
deriving DecidableEq, Repr

/-- A reset that has fallen due and waits to be applied (R518, R519): its reach, cause (Table 19-2), kind, requester,
detail, and the reply it waits for. -/
structure Pending where
  id        : Nat
  reach     : Reach
  cause     : Nat
  kind      : Nat
  requester : Nat
  detail    : Nat
  reply     : Option Nat
deriving DecidableEq, Repr

/-- What the conductor is doing: held in reset, starting, or running. -/
inductive Conductor where
  | held | starting | running
deriving DecidableEq, Repr

/-- The reset controller; `quiet` says that what a conductor reset waits for has ended (R515), `imageRestart` the target whose bank the
next restart of its die loads. -/
structure ResetCtl where
  asserted  : Bool
  reach     : Reach
  since     : Nat
  drive     : Bool
  nLow      : Bool
  brown     : Bool
  conductor : Conductor
  toRelease : Reach
  waiting   : List Pending
  nextId    : Nat
  quiescing : Option Pending
  quiet     : Bool
  imageRestart : Option Nat
deriving DecidableEq, Repr

/-- One die link (R536 to R548): the satellite's own epoch, whether the satellite runs, the tags outstanding, the headers of the
requests waiting for a tag (R537), and whether the reload of R542 is under way. -/
structure Link where
  epoch   : Nat
  up      : Bool
  tags    : List Nat
  waiting : List Nat
  reload  : Bool
deriving DecidableEq, Repr

/-- The supplies (R554 to R560) beside their objects: whether the part is powered and VLINE present, the lowest sample of the minute under
way, whether load is shed and has been below the threshold (R558), since when a supply has been good (R559), when the running state was
entered, the hourly energy bins, newest first, and the energy at the start of the hour (R567). -/
structure Power where
  powered   : Bool
  lineHere  : Bool
  minuteMin : Option Nat
  shedding  : Bool
  goodSince : Option Nat
  enteredAt : Nat
  bins      : List Nat
  binBase   : Int
deriving DecidableEq, Repr

/-- The signal pins the block drives (Tables 19-4 and 22-4) beside those that follow a register (LHD_EN follows the
line die's driver): whether VFLD_EN, the discharge switch and RESET_N as the part drives it are asserted, whether the general pins are
held, and the five balls of the external front end (R252). -/
structure Pins where
  vfldEn    : Bool
  discharge : Bool
  resetLow  : Bool
  gpHeld    : Bool
  xpaEn     : Bool
  xpaOn     : Bool
  xswTx     : Bool
  xlnaEn    : Bool
  xbyp      : Bool
deriving DecidableEq, Repr

/-! ### Voices, scores and tags -/

/-- The ISO/IEC 15693 and 14443 settings a step runs under, latched at its dispatch (R129, R130). -/
structure Settings where
  mode    : Nat
  coding  : Nat
  ask     : Nat
  rate    : Nat
  aWait   : Nat
  retries : Nat
  budget  : Nat
  fsdi    : Nat
  ndefMax : Nat
  afiB    : Nat
  useCid  : Bool
deriving DecidableEq, Repr

/-- A step of a score, dispatched: its slot, step number, tenant, channel, record, its priority under the tenant's ceiling
(R416), when it became due (R157), and whether it waits under R68 and has said so. A `tuning` step is a REFERENCE tuning of a
kind and target that holds the voice like a step (R202). -/
structure DueStep where
  score    : Nat
  step     : Nat
  tenant   : Tenant
  channel  : Nat
  record   : Octets
  dueAt    : Nat
  settings : Settings
  tuning   : Option (Nat × Nat)
  prio     : Nat
  waiting  : Bool
  told     : Bool
deriving DecidableEq, Repr

/-- A step granted on a voice, with what the grant fixed (R56, R58, R59, R61, R69, R74, R82), and whether the key slot of an AUTH step has
been erased since (R196). -/
structure Grant where
  step    : DueStep
  drive   : Nat
  askLow  : Nat
  damping : Nat
  ramp    : Nat
  settle  : Nat
  vreq    : Nat
  limited : Bool
  since   : Nat
  denied  : Bool
deriving DecidableEq, Repr

/-- Which response window a request opens (Table 5-4, R173, R174), with its latest start where a row computes it, in
units of 0.01 µs. -/
inductive Window where
  | none | iso15 | iso15Write | aFdt (one : Bool) | aOther (latest : Nat) | bReq | bFwt (latest : Nat)
  | block (typeB : Bool) (latest : Nat)
deriving DecidableEq, Repr

/-- What the checks of R115, R116 and R119 expect of a reply: an ISO/IEC 15693 reply of a length (none: any), an ATQA,
an anticollision frame after so many known bits, a SAK, an ATS, a Type A answer of a length (without one, to a command given by a step,
also an ACK), an ACK, an ATQB, a Type B answer, or a block of the block transport. -/
inductive Expect where
  | nothing | iso15 (len : Option Nat) | atqa | anticoll (known : Nat) | sak | ats | aData (len : Option Nat) | aAck
  | atqb | b (len : Option Nat) | block
deriving DecidableEq, Repr

/-- A request frame in the transmit buffer (R108): its bytes with their CRC, the bits of the last byte when not whole,
its coding, its window (that it would have, where it expects no reply), its expectation, the wait before a separate EOF (R114), and for
a request without any window the gap after its end (R184). -/
structure Frame where
  bytes    : Octets
  lastBits : Nat
  typeB    : Bool
  iso15    : Bool
  short    : Bool
  eofOnly  : Bool
  window   : Window
  expect   : Expect
  eof      : Option Nat
  idle     : Nat
deriving DecidableEq, Repr

/-- An ISO/IEC 15693 inventory in progress (R139 to R143). -/
structure Inv15 where
  wide    : Bool
  mask    : Nat
  len     : Nat
  slot    : Nat
  queue   : List (Nat × Nat)
  rounds  : Nat
  lost    : Nat
  found   : Nat
  quiet   : List Octets
deriving DecidableEq, Repr

/-- A Type A inventory in progress (R144): cascade level, bits known of it, UID so far. -/
structure InvA where
  level  : Nat
  known  : List Bool
  uid    : Octets
  rounds : Nat
  found  : Nat
  sak    : Nat
deriving DecidableEq, Repr

/-- A Type B inventory in progress (R145). -/
structure InvB where
  n      : Nat
  slot   : Nat
  bad    : Nat
  any    : Bool
  rounds : Nat
  found  : Nat
deriving DecidableEq, Repr

/-- A block-transport exchange (R120 to R125): command bytes not sent yet, response so far, the last block sent, retries,
S(WTX) time and count, the temporary FWT and the end of the S(WTX) response whose next frame is awaited (R122), whether a chain is being
received, and the ending under way. -/
structure BlockEx where
  left    : Octets
  got     : Octets
  sent    : Octets
  retries : Nat
  wtxSum  : Nat
  wtxN    : Nat
  temp    : Option Nat
  wtxFrom : Option Nat
  rxChain : Bool
  txChain : Bool
  ending  : Option (Nat × Nat)
deriving DecidableEq, Repr

/-- A tag session on a voice: a block-transport session (R125) with its frame size, FWT, block number and rate, and an
authenticated session (R186) with its handle, slot and method. -/
structure TagSession where
  blockOn  : Bool
  typeB    : Bool
  fsc      : Nat
  fwi      : Nat
  number   : Nat
  cid      : Bool
  rate     : Nat
  tenant   : Tenant
  channel  : Nat
  selected : Nat
  auth     : Option (Nat × Nat × Nat)
  challenge : Option Octets
deriving DecidableEq, Repr

/-- A tear-safe or plain write in progress (R177 to R181): the write report's fields (Table 7-3), the reads still to make as
(first block, count), the blocks read, the phase (0 reading, 1 writing, 2 verifying, 3 flag write, 4 flag read), the block
being written and the rewrites of each block. -/
structure WriteJob where
  stage    : Nat
  copy     : Nat
  source   : Nat
  gen      : Nat
  written  : Nat
  rewrites : Nat
  flagRead : Octets
  after    : Nat
  phase    : Nat
  plan     : List (Nat × Nat)
  mem      : List (Nat × Octets)
  block    : Nat
  tries    : List (Nat × Nat)
deriving DecidableEq, Repr

/-- What the protocol sequencer of a voice is in the middle of. -/
inductive Prog where
  | idle
  | inv15 (p : Inv15) | quiet15 (p : Inv15)
  | invAReq (p : InvA) | invAColl (p : InvA) | invASel (p : InvA) | invAHalt (p : InvA)
  | invBSlot (p : InvB) | invBHalt (p : InvB)
  | command
  | wakeA (level : Nat) (thenDo : Nat) | wakeB | actRats | actPps (ats : Octets) | actAttrib (rate : Nat) (fwi fsci : Nat)
  | apdu (p : BlockEx)
  | ndef2 (pos : Nat) (cc got : Octets)
  | ndef5 (pos size : Nat) (cc got : Octets)
  | ndef4 (stage off left : Nat) (cc got : Octets) (p : BlockEx)
  | writing (p : WriteJob)
  | auth (stage : Nat) (challenge : List Octets)
  | authCrypto (stage : Nat) (challenge : List Octets) (reply : Octets)
  | deselect (outcome status detail : Nat) (data : Octets)
deriving DecidableEq, Repr

/-- Where a voice's exchange stands: frame in the buffer, frame on air, waiting for the separate EOF, waiting for the
window, window open (with the range at opening and the acquisition steps), receiving, waiting for the crypto engine. -/
inductive OnAir where
  | none | ready | sending | eofWait | windowWait | open | receiving | crypto
deriving DecidableEq, Repr

/-- What the receive chain found in the start-of-frame pattern of a reply (R85, R86): the directions of the modulation vector of the
subcarrier, or of both tones, in parts of 10^6; the summed amplitude of its modulated half-cells in 10^-6 counts and their number; its
overrange samples and its largest magnitude. -/
structure Reception where
  dir1   : Int × Int
  dir2   : Int × Int
  sum    : Nat
  halves : Nat
  full   : Nat
  peak   : Nat
deriving DecidableEq, Repr

/-- The exchange of a voice's step: sequencer, frame, stage, instants in 0.01 µs of device time for windows and gaps,
quality figures under way, the receive settings latched when the window opened (R100, R103: high and low threshold, hold-off,
change limit, range control, the gains of G0 to G3), and what the result record will carry. -/
structure Exchange where
  prog     : Prog
  frame    : Frame
  air      : OnAir
  ref      : Nat
  gap      : Nat
  range    : Nat
  opened   : Nat
  acq      : Nat
  phase    : Nat
  noise    : Option Int
  shortNoise : Bool
  rx       : Reception
  quality  : Octets
  status   : Nat
  detail   : Nat
  stamp    : Nat
  count    : Nat
  rounds   : Nat
  full     : Bool
  marginOk : Bool
  refreshed : List Nat
  modulated : Bool
  latch     : List Nat
deriving DecidableEq, Repr

/-- The elements of one tuning bank that are switched in (R208): primary and duplicate elements by binary weight, thermometer
elements by number. -/
structure Elements where
  primary   : Nat
  duplicate : Nat
  therm     : Nat
deriving DecidableEq, Repr

/-- What a channel's tuning bank holds (R54, R59): the elements of CP and CS and the damping. -/
structure TuningBank where
  cp      : Elements
  cs      : Elements
  damping : Nat
deriving DecidableEq, Repr

/-- A voice (chapter 3), beside its dictionary objects: the grant it serves, the grant deferred to after the down-ramp
(R71), whether its step was abandoned while a frame was on air (R27), the channel it emits on and its tenant, the channels whose
grants are over but which it holds until FLOOR (R55), the ramp under way (start, duration, steps, the amplitudes at its ends) and
the drive, the carrier phase it took at its last up-ramp from FLOOR (R60), how it modulates (R58: the index of ASK low, or ASK100),
a disable waiting for the step's end (R76), the tenant last granted (R157), the exchange and the tag session, the start of the
emission in progress, the earliest start of its next request in 0.01 µs (R112), the end of the probe under way in its group (R135), and
the tuning banks of its sixteen channels. -/
structure Voice where
  grant     : Option Grant
  deferred  : Option Grant
  abandoned : Bool
  held      : Option Nat
  also      : List Nat
  owner     : Option Tenant
  selecting : Bool
  rampAt    : Nat
  rampTime  : Nat
  rampSteps : Nat
  rampFrom  : Nat
  rampTo    : Nat
  drive     : Nat
  phase     : Nat
  ask       : Option Nat
  disable   : Bool
  lastTenant : Tenant
  exchange  : Option Exchange
  session   : Option TagSession
  emitAt    : Option Nat
  gap       : Nat
  probeEnd  : Nat
  banks     : Vector TuningBank 16
deriving DecidableEq, Repr

/-- A score slot beside its objects (R153, R154): triggers delivered and not acted on, steps of the group in progress
that have not ended, the step the run takes next, the lowest step of the group that failed with its branch, and whether an END
step was met in the group. -/
structure Score where
  triggers : Nat
  open_    : List Nat
  next     : Nat
  failed   : Option (Nat × Nat)
  ending   : Bool
deriving DecidableEq, Repr

/-- A tag table entry (Table 6-3). -/
structure Tag where
  owner    : Tenant
  channel  : Nat
  proto    : Nat
  state    : Nat
  uid      : Octets
  miss     : Nat
  typ      : Nat
  lastSeen : Nat
  firstSeen : Nat
deriving DecidableEq, Repr

/-- A job of the crypto engine (R197, Table 14-2): the reply of the AUTH step that a voice was granted at an instant, an import, a
verification. -/
inductive CryptoJob where
  | auth (v : VoiceId) (granted : Nat)
  | import_ (t : Tenant) (id : Nat)
  | verify
deriving DecidableEq, Repr

/-- The crypto engine: jobs by tenant, the job in progress, the tenant last served. -/
structure Crypto where
  queues  : Vector (List CryptoJob) 8
  running : Option (Tenant × CryptoJob)
  turn    : Tenant
  draws   : Nat
deriving DecidableEq, Repr

/-- A tuning under way or waiting (R201 to R203): who started it, kind, target, method, whether it is automatic (R207), its
stage (0 waiting, 1 first run, 2 repeat run, 3 the ramp down after it, 4 applying), its first and its repeat run once made, the voice it
holds or waits for, and of SYN_ENTRY the status of the last entry that failed (R219). -/
structure Tuning where
  tenant : Tenant
  kind   : Nat
  target : Nat
  method : Nat
  auto   : Bool
  stage  : Nat
  first  : Option Run
  last   : Option Run
  voice  : Option VoiceId
  status : Nat
deriving DecidableEq, Repr

/-- What an application point puts in force (Table 8-3): one background increment, an accepted result whole, or the factory values of a
revert (R200). -/
inductive ApplyForm where
  | step | whole | revert
deriving DecidableEq, Repr

/-- Something that waits for its application point (R205, R228). -/
structure Ready where
  kind   : Nat
  target : Nat
  form   : ApplyForm
  values : List Int
deriving DecidableEq, Repr

/-- The phase windows of one channel (R213, R214): the sum and the number of deviations of the window in progress, those of
the window before it, and whether a DRIFT_LIMIT has stopped the tracking. -/
structure Track where
  sum     : Int
  count   : Nat
  prev    : Option (Int × Nat)
  stopped : Bool
deriving DecidableEq, Repr

/-- Calibration beside its objects: waiting and running tunings, user-value flags as kind × 65,536 + target with the ones the NVA
holds (R200, R206), phase anchors by tag handle, antenna tracks by channel, the last window of the other background kinds and
what has been counted toward the next one (both by kind × 65,536 + target), results and increments waiting for their
application points (R205, R228), the temperatures of the last accepted references with those of the NVA, automatic tunings that have
fallen due (R207), the hour's false wakes, whether the cue receiver has listened in the hour, and the wakes of the hour before (R218), the
kinds and targets accepted or reverted since the last commit of tunings, and the synthesiser store as the NVA holds it (R206). -/
structure Cal where
  queue   : List Tuning
  running : List Tuning
  user    : List Nat
  nvaUser : List Nat
  anchors : List (Nat × Nat)
  tracks  : List (Nat × Track)
  windows : List (Nat × List Int)
  counts  : Tab
  ready   : List Ready
  temps   : List (Nat × Int)
  nvaTemps : List (Nat × Int)
  autos   : List (Nat × Nat)
  wakes   : Nat
  heard   : Bool
  hour    : Option Nat
  dirty   : List (Nat × Nat)
  nvaStore : List (Nat × Octets)
deriving DecidableEq, Repr

/-! ### Keys and images -/

/-- Key slots that hold a key, and the image session. -/
structure Keys where
  slots   : List (Nat × Octets)
  banks   : Vector Octets 4
  imageTarget : Nat
  imageBank : Nat
  trialFrom : Option (Nat × Nat)
deriving DecidableEq, Repr

/-! ### Metronomes -/

/-- A metronome beside its objects (chapter 16): the counter `base` at instant `since` in the present direction, the start
instant while ARMED and the pending wrap d (R457). -/
structure Metro where
  base  : Nat
  since : Nat
  armed : Nat
  wrap  : Option Int
deriving DecidableEq, Repr

/-! ### The air die -/

/-- What an air transmission is for: the frame under CSMA; an Imm-Ack of a sequence number, with its frame pending bit and the instant of
its first preamble bit (R282); or a cue pattern for a child (or for all, `none`) with its preamble in ticks (R255, R291). -/
inductive TxUse where
  | data | ack (seq : Nat) (more : Bool) (start : Nat) | cue (child : Option Nat) (preamble : Nat)
deriving DecidableEq, Repr

/-- A transmit request (R260): its use, the tenant charged and whether check 7 applies (R417), the channel-list index and
operating mode, the requested power in 0.1 dBm, the emission time in µs without the ramps, the end of a listen that meets
R236, and what acceptance fixed: HOP or not, path (0 internal, 1 PA, 2 bypass), code, output and on-time. -/
structure TxReq where
  use     : TxUse
  tenant  : Tenant
  quota   : Bool
  index   : Nat
  mode    : Nat
  power   : Int
  time    : Nat
  listen  : Option Nat
  hop     : Bool
  path    : Nat
  code    : Nat
  out     : Int
  on      : Nat
deriving DecidableEq, Repr

/-- The air die beside its objects: fuse record slots as (profile, seal word intact) (R231, R232), the pending seal
request as (code, status before it), the ledger entries as (sub-band, bin number, µs) (R236), dwell entries as (list
index, start, end) with the end of the time in which every dwell ledger starts full (R237, R238), refusals by sub-band,
the active hop set, attenuator code and changes (R241), the receive channel of the last NCO word, the one before it and the word's
instant (R239), the store (R244), the synthesiser's entry
and progress (R245), entries whose last lock failed, the transmission and those waiting, a waiting stop (R263), the
instant of the up-ramp, the octets of the frame on air or of the last one (R267), the cue receiver (R254, R258), SYN_ENTRY work (R246),
and the instant of the last SFD end. -/
structure Air where
  slots     : List (Nat × Bool)
  sealing   : Option (Nat × Nat)
  dc        : List (Nat × Nat × Nat)
  lbt       : List (Nat × Nat × Nat)
  dwell     : List (Nat × Nat × Nat)
  dwellFull : Nat
  refusals  : Tab
  hopSet    : List Nat
  atten     : Nat
  changes   : Nat
  channel   : Nat
  before    : Nat
  tunedAt   : Nat
  store     : List (Nat × Octets)
  synEntry  : Option Nat
  synLocked : Bool
  biasDone  : Bool
  synFailed : List Nat
  tx        : Option TxReq
  requests  : List TxReq
  counted   : Bool
  stop      : Bool
  rampAt    : Nat
  onAir     : Octets
  cueState  : Nat
  cueAgain  : Bool
  retune    : List Nat
  first     : Option Run
  sfdAt     : Nat
  tenantAir : List (Nat × Nat × Nat)
  quotaTold : List (Nat × Nat)
deriving DecidableEq, Repr

/-! ### The mesh MAC -/

/-- A MAC frame taken apart (R268, R276): whether the FCS is good, the frame type (0 beacon, 1 data, 2 Imm-Ack, 3 MAC command, 7 none of
IEEE 802.15.4's own of these versions), the header fields, and for a secured frame the key identifier mode, key index, level and counter,
the authenticated header, the payload as it came and the MIC. -/
structure MacIn where
  fcsOk    : Bool
  ftype    : Nat
  seq      : Nat
  pan      : Nat
  ackReq   : Bool
  more     : Bool
  dst      : Addr
  src      : Addr
  secured  : Bool
  keyMode  : Nat
  keyIndex : Nat
  level    : Nat
  counter  : Nat
  header   : Octets
  payload  : Octets
  mic      : Octets
deriving DecidableEq, Repr

/-- A received frame with its quality record (Table 9-5) and the instant its SFD ended. -/
structure RxFrame where
  frame   : MacIn
  quality : Octets
  sfdAt   : Nat
  endAt   : Nat
  index   : Nat
deriving DecidableEq, Repr

/-- A decrypted message delivered by the checks of R278: sender, payload from the dispatch octet on, quality, SFD instant,
frame pending bit. -/
structure Delivered where
  src     : Addr
  payload : Octets
  quality : Octets
  sfdAt   : Nat
  more    : Bool
deriving DecidableEq, Repr

/-- What a pending frame is: its place in R284 and what its end is reported to. `report` names the event's sequence
number, the offset of its unit and whether it is the last one. -/
inductive OutKind where
  | join | forward | timeCast | poll | reply (t : Tenant) (id : Nat) | report (t : Tenant) (seq off : Nat) (last : Bool)
  | indirect (id : Nat)
deriving DecidableEq, Repr

/-- A data frame waiting for transmission: destination, payload, once numbered its sequence number, counter and key index, and once sent
its PSDU, which every retransmission repeats (R268). -/
structure OutFrame where
  kind    : OutKind
  dest    : Addr
  payload : Octets
  numbers : Option (Nat × Nat × Nat)
  psdu    : Octets
deriving DecidableEq, Repr

/-- The stages of R281: listening, waiting a backoff (then listening), waiting for the air die, waiting for the ack. -/
inductive CsmaStage where
  | listen | backoff | air | ackWait
deriving DecidableEq, Repr

/-- The procedure of R281 in progress. -/
structure Csma where
  frame   : OutFrame
  attempt : Nat
  nb      : Nat
  be      : Nat
  stage   : CsmaStage
deriving DecidableEq, Repr

/-- A frame in a child's indirect queue (R290, R291), with what its end is reported to. -/
structure Indirect where
  id      : Nat
  child   : Nat
  payload : Octets
  since   : Nat
  tries   : Nat
  cues    : Nat
  numbers : Option (Nat × Nat × Nat)
  psdu    : Octets
  origin  : OutKind
deriving DecidableEq, Repr

/-- A neighbour entry (0x4140.02); `group` is the child's cue group. -/
structure Neighbour where
  short    : Nat
  ext      : Nat
  relation : Nat
  depth    : Nat
  lqi      : Nat
  rssi     : Nat
  seq      : Nat
  counter1 : Nat
  counter2 : Nat
  heard    : Nat
  poll     : Nat
  cue      : Nat
  group    : Nat
deriving DecidableEq, Repr

/-- A candidate parent heard in a scan (R273): short address, depth, link quality, the coordinator's extended address, and the message. -/
structure Candidate where
  short  : Nat
  depth  : Nat
  lqi    : Nat
  coord  : Nat
  heard  : Delivered
deriving DecidableEq, Repr

/-- A join scan (R271, R272, R274): channels left to listen on, the channel listened on, candidates, whether it is the scan
of a coordinator role request, a conflict heard, and whether every ALLOWED channel follows it (R275). -/
structure Scan where
  left      : List Nat
  channel   : Nat
  found     : List Candidate
  asCoord   : Bool
  conflict  : Bool
  again     : Bool
deriving DecidableEq, Repr

/-- The MAC beside its objects; `ack` is the Imm-Ack to send, as sequence number, frame pending bit and instant; `joiners` are the nodes whose join it relays, as (extended address, role, poll interval), `groups` the
next cue group by parent (R291), `asCoord` whether the last conductor start took up a coordinator's role that no conflict has
taken away (R22, R274). -/
structure Mac where
  rx         : List RxFrame
  inbox      : List Delivered
  ack        : Option (Nat × Bool × Nat)
  csma       : Option Csma
  out        : List OutFrame
  indirect   : List Indirect
  nextId     : Nat
  neighbours : List Neighbour
  routes     : List (Nat × Nat)
  dups       : List Nat
  addresses  : List (Nat × Nat)
  nvaAddresses : List (Nat × Nat)
  seq        : Nat
  meshSeq    : Nat
  ends       : Nat × Nat
  reserving  : Bool × Bool
  lowTold    : Bool × Bool
  point      : Option (Nat × Nat × Nat)
  scan       : Option Scan
  target     : Option Candidate
  noAck      : Nat
  turn       : Tenant
  groups     : Tab
  joiners    : List (Nat × Nat × Nat)
  listening  : Bool
  held       : List Tenant
  asCoord    : Bool
deriving DecidableEq, Repr

/-! ### The Garlys Line -/

/-- A DATA frame waiting on the line: destination, source, payload, sequence number, attempts made, and the report it
carries (tenant, event sequence, offset, last unit), or the number of the request that it answers. -/
structure LineMsg where
  dest    : Nat
  src     : Nat
  payload : Octets
  seq     : Nat
  tries   : Nat
  report  : Option (Tenant × Nat × Nat × Bool)
  tenant  : Option Tenant
  answers : Option Nat
deriving DecidableEq, Repr

/-- What the head awaits a reply to (R314). -/
inductive LineAsk where
  | poll (a : Nat) | data (m : LineMsg) | isolate (a : Nat) | presence | assign (ident addr tries : Nat)
deriving DecidableEq, Repr

/-- A node table entry of the head (0x5040.02). -/
structure Node where
  state  : Nat
  ident  : Nat
  pos    : Nat
  misses : Nat
  heard  : Nat
deriving DecidableEq, Repr

/-- A search of the head (R330): number, stack of paths as (bits known, prefix), passes made, whether an address was
assigned. -/
structure Search where
  number   : Nat
  stack    : List (Nat × Nat)
  passes   : Nat
  assigned : Bool
deriving DecidableEq, Repr

/-- The line die beside its objects: the head's driver and the rate of its poll cycle, the frame last put on the line, the reply a
member owes and the slot of the last pulse it gave, what the head awaits, the member's outgoing buffer and the incoming one, sequence
numbers by peer (next, last accepted), the addresses left in the cycle and whether one is under way, DATA already tried in this
exchange, the head's node table with what the NVA holds of it, its queue and commands, whether a PRESENCE, a search or a walk is owed,
the search under way and its number, the member isolated; a member's part in a search and in its pass, its walk flags, whether LINE_LATE
has been raised, whether head frames were decoded in the address hold, and the TIME point. -/
structure Line where
  driver    : Bool
  rate      : Nat
  sent      : Octets
  reply     : Option Octets
  pulse     : Option Nat
  ask       : Option LineAsk
  outBuf    : Option LineMsg
  inBuf     : Option (Nat × Octets)
  nextSeq   : List (Nat × Nat)
  lastSeq   : List (Nat × Nat)
  cycle     : List Nat
  inCycle   : Bool
  skipData  : Bool
  table     : List (Nat × Node)
  nvaTable  : List (Nat × Node)
  queue     : List LineMsg
  cmds      : List (Nat × Nat)
  presence  : Bool
  wanted    : Bool
  walk      : Bool
  search    : Option Search
  number    : Nat
  isolated  : Option Nat
  part      : Option Nat
  passing   : Bool
  passLen   : Nat
  passBits  : Nat
  flags     : List Nat
  lateTold  : Bool
  decoded   : Bool
  point     : Option (Nat × Nat × Nat)
deriving DecidableEq, Repr

/-! ### The pocket die -/

/-- The layer-3 state of the port's card emulation (R341). -/
inductive Card where
  | off | idle | ready | active | iso | halted
deriving DecidableEq, Repr

/-- A mailbox page commit (R344): logical page, its 64 bytes, whether the wand asked for it, the instant its programming began, the
descriptors whose scrub comes first (R347), and the shadow once chosen. -/
structure PageCommit where
  page  : Nat
  data  : Octets
  wand  : Bool
  since : Nat
  scrub : List Nat
  phys  : Option Nat
deriving DecidableEq, Repr

/-- A wand command that has arrived: its APDU, the store voltage and the time the field has been present that came with it, and the
instant of its arrival. -/
structure HeldApdu where
  bytes   : Octets
  vst     : Nat
  present : Nat
  since   : Nat
deriving DecidableEq, Repr

/-- The pocket die beside its objects: card level, UID, slot and secrets of the session (R355), command counter, persisted failure
count, the mailbox array and descriptors (R343: unlisted bytes read 0xFF), erase counts, scrub due (R347), commits in order, the
bridge request outstanding as (number, instant), commissioning values (R435: PK0', Kc and QW.x), the last response, the page of a fault to raise
at the next start (R345), its counters, whether the inbox is being applied, the class of the wand command that waits for its commit, and a
wand command that waits for a conductor's commit (R364). -/
structure Pocket where
  running  : Bool
  field    : Bool
  card     : Card
  uid      : Octets
  slot     : Nat
  rndW     : Octets
  rndP     : Octets
  kenc     : Octets
  kmac     : Octets
  sid      : Octets
  counter  : Nat
  fails    : Nat
  mail     : Mem
  desc     : Mem
  erases   : Tab
  scrub    : Bool
  commits  : List PageCommit
  bridge   : Option (Nat × Nat)
  kx       : Option (Octets × Octets × Octets)
  resp     : Octets
  nvmFault : Option Nat
  sessions : Nat
  failures : Nat
  refusals : Nat
  scrubbed : Nat
  done     : Nat
  inbox    : Bool
  answer   : Option Nat
  held     : Option HeldApdu
  closing  : Bool
deriving DecidableEq, Repr

/-- The whole state. `free` counts the free values drawn (the model's own field), `pending` is the queue of commands; `order` is the NVA
order with the commit in progress first, `retried` whether that one is on its second page, `again` the failed internal commits with the
instants at which they are made again (R376). -/
structure State where
  pending : List Instr
  free    : Nat
  power   : Power
  time    : TimeBase
  timers  : List (Timer × Nat)
  objs    : Tab
  nvaObjs : Tab
  charges : List (Nat × Tenant)
  ckpt    : Checkpoint
  order   : List Commit
  retried : Bool
  again   : List (Nat × Commit)
  nvaTags : List (Nat × Tag)
  rst     : ResetCtl
  links   : Vector Link 4
  svc     : Service
  host    : HostPort
  router  : Router
  faults  : Faults
  pins    : Pins
  voices  : Vector Voice 4
  dues    : List DueStep
  scores  : Vector Score 32
  tags    : List (Nat × Tag)
  crypto  : Crypto
  keys    : Keys
  cal     : Cal
  metros  : Vector Metro 16
  air     : Air
  mac     : Mac
  line    : Line
  pocket  : Pocket
deriving DecidableEq, Repr

/-- No die reached. -/
def Reach.none : Reach := ⟨false, false, false, false, false, false⟩

/-- A voice after reset, its channels parked with the default codes of Table 8-10: park code 0x00 and CS code 0x80, which eight
thermometer elements realise (R54, R208). (DESIGN CHOICE for `lastTenant`, log entry 10.) -/
def Voice.reset : Voice :=
  { grant := .none, deferred := .none, abandoned := false, held := .none, also := [], owner := .none, selecting := false, rampAt := 0,
    rampTime := 0, rampSteps := 0, rampFrom := 0, rampTo := 0, drive := 0, phase := 0, ask := .none, disable := false, lastTenant := 7,
    exchange := .none, session := .none, emitAt := .none, gap := 0, probeEnd := 0,
    banks := Vector.replicate 16 { cp := ⟨0, 0, 0⟩, cs := ⟨0, 0, 0xFF⟩, damping := 0 } }

/-- A tenant's mailbox after reset. -/
def Mailbox.reset : Mailbox :=
  { queue := [], marker := .none, nextSeq := 0, seqEnd := 0, reserving := false, queued := 0, masked := 0,
    coalesced := 0, lost := 0, subs := [] }

/-- The air die of a new part: unsealed, in OFF, nothing in any ledger entry but the full start of R238. -/
def Air.reset : Air :=
  { slots := [], sealing := .none, dc := [], lbt := [], dwell := [], dwellFull := 20000000, refusals := [], hopSet := [],
    atten := 0, changes := 0, channel := 0, before := 0, tunedAt := 0, store := [], synEntry := .none, synLocked := false,
    biasDone := false, synFailed := [], tx := .none, requests := [], counted := false, stop := false, rampAt := 0, onAir := [],
    cueState := 0, cueAgain := false, retune := [], first := .none, sfdAt := 0,
    tenantAir := [], quotaTold := [] }

/-- The MAC after reset: nothing known, nothing pending. -/
def Mac.reset : Mac :=
  { rx := [], inbox := [], ack := .none, csma := .none, out := [], indirect := [], nextId := 0, neighbours := [],
    routes := [], dups := [], addresses := [], nvaAddresses := [], seq := 0, meshSeq := 0, ends := (0, 0),
    reserving := (false, false), lowTold := (false, false), point := .none, scan := .none, target := .none, noAck := 0,
    turn := 7, groups := [], joiners := [], listening := false, held := [], asCoord := false }

/-- The line die after reset. -/
def Line.reset : Line :=
  { driver := false, rate := 0, sent := [], reply := .none, pulse := .none, ask := .none, outBuf := .none, inBuf := .none,
    nextSeq := [], lastSeq := [], cycle := [], inCycle := false, skipData := false, table := [], nvaTable := [], queue := [],
    cmds := [], presence := false, wanted := false, walk := false, search := .none, number := 0, isolated := .none,
    part := .none, passing := false, passLen := 0, passBits := 0, flags := [], lateTold := false, decoded := false,
    point := .none }

/-- The pocket die of a new part: an erased mailbox (every byte 0xFF) and no session. -/
def Pocket.reset : Pocket :=
  { running := true, field := false, card := .off, uid := [0x08, 0, 0, 0], slot := 0, rndW := [], rndP := [],
    kenc := [], kmac := [], sid := [], counter := 0, fails := 0, mail := [], desc := [], erases := [], scrub := true,
    commits := [], bridge := .none, kx := .none, resp := [], nvmFault := .none, sessions := 0, failures := 0,
    refusals := 0, scrubbed := 0, done := 0, inbox := false, answer := .none, held := .none, closing := false }

/-- Timers of the always-on domain as they run from a power-up: VBAT samples (R557), the whole minute, the temperature sensor (R37), the
checkpoint at its default interval (R41), the hourly work (R218, R567), the ledger bins (R236) and the energy report (R570). -/
def bootTimers : List (Timer × Nat) :=
  [(.vbatSample, 100), (.minute, 60000000), (.temperature, 60000000), (.checkpoint, 3600000000), (.hourly, 3600000000),
    (.cueHour, 3600000000), (.airBin, 60000000), (.energyReport, 86400000000)]

/-- The machine right after a POWER_ON reset of a new part has been released (R526): every object at its default, every
engine idle, the conductor waiting for its start. (log entries 6 and 14.) -/
def State.reset : State :=
  { pending := [], free := 0,
    power := { powered := true, lineHere := false, minuteMin := .none, shedding := false, goodSince := .none, enteredAt := 0,
               bins := [], binBase := 0 },
    time := { count := 0, cycles := 0, phase := 0, restart := false, temp := 25, winTicks := 0, fieldRan := false,
              lastFrom := (.none, .none, .none), resumeMv := 500, lost := false, ticks := 0, gate := .none },
    timers := bootTimers, objs := [], nvaObjs := [], charges := [], ckpt := { page := 0, failed := false, count := 0, objs := [], bins := [], counters := [] }, order := [], retried := false, again := [],
    nvaTags := [],
    rst := { asserted := false, reach := ⟨true, true, true, true, true, true⟩, since := 0, drive := false, nLow := false, brown := false,
             conductor := .held, toRelease := ⟨true, true, true, true, true, true⟩, waiting := [], nextId := 0,
             quiescing := .none, quiet := false, imageRestart := .none },
    links := Vector.replicate 4 { epoch := 1, up := false, tags := [], waiting := [], reload := false },
    svc := { queues := Vector.replicate 8 [], turn := 7, nextId := 0, inbound := [], replies := [],
             blocks := Vector.replicate 8 .none, floorEnd := Vector.replicate 8 0,
             reportEnd := Vector.replicate 8 0 },
    host := { selected := false, lastError := false, resetSeen := true, sent := [] },
    router := { boxes := Vector.replicate 8 Mailbox.reset, held := [] },
    faults := { pending := [], causes := [], ring := [], stored := [], latched := [], nextNum := 0, resets := [],
                nvaResets := [], copyAt := 0, copyDirty := false },
    pins := { vfldEn := false, discharge := false, resetLow := false, gpHeld := true,
              xpaEn := false, xpaOn := false, xswTx := false, xlnaEn := false, xbyp := true },
    voices := Vector.replicate 4 Voice.reset, dues := [],
    scores := Vector.replicate 32 { triggers := 0, open_ := [], next := 1, failed := .none, ending := false },
    tags := [], crypto := { queues := Vector.replicate 8 [], running := .none, turn := 7, draws := 0 },
    keys := { slots := [], banks := Vector.replicate 4 [], imageTarget := 0, imageBank := 0, trialFrom := .none },
    cal := { queue := [], running := [], user := [], nvaUser := [], anchors := [], tracks := [], windows := [], counts := [],
             ready := [], temps := [], nvaTemps := [], autos := [], wakes := 0, heard := false, hour := .none, dirty := [], nvaStore := [] },
    metros := Vector.replicate 16 { base := 0, since := 0, armed := 0, wrap := .none },
    air := Air.reset, mac := Mac.reset, line := Line.reset, pocket := Pocket.reset }

end Sys2Proof.Machine
end

