-- ==== Sys2Proof/Machine/Ops.lean ====
section
/-! DEFINITION. The named operations over the state that every family uses: object values, device time (R33 to R36), timers,
free and random values, and the NVA's order of commits (R374, R407). -/

namespace Sys2Proof

/-! ### Dies -/

/-- Number of a die: its place among the satellite links. -/
def Die.link : Die → Fin 4
  | .field => 0 | .air => 1 | .line => 2 | .pocket => 3

/-- Die code of Table 20-1. -/
def Die.code (d : Die) : Nat := d.link.val + 1

/-- The die of a code. -/
def Die.ofCode : Nat → Option Die
  | 1 => some .field | 2 => some .air | 3 => some .line | 4 => some .pocket
  | _ => none

/-- The satellite dies. -/
def Die.all : List Die := [.field, .air, .line, .pocket]

/-- The index of a die's link objects, 0x7500 + d. -/
def Die.index (d : Die) : Nat := 0x7500 + d.code

end Sys2Proof

namespace Sys2Proof.Machine

/-! ### Outcomes -/

/-- The outcome of a command. -/
abbrev Result := Host.Outcome State Fault Refusal

/-! ### Object values -/

/-- The stored value at a key. -/
def State.rd (s : State) (k : Nat) : Nat := Tab.get Dict.dflt s.objs k

/-- The state with `v` stored at a key. -/
def State.wr (s : State) (k v : Nat) : State := { s with objs := Tab.set Dict.dflt s.objs k v }

/-- The stored value as a flag. -/
def State.isOn (s : State) (k : Nat) : Bool := s.rd k != 0

/-- Several values stored in order. -/
def State.wrAll (s : State) (l : List (Nat × Nat)) : State := l.foldl (fun s p => s.wr p.1 p.2) s

/-- A signed object's value (R5). -/
def State.rdInt (s : State) (k : Nat) : Int := toSigned (Dict.bits k) (s.rd k)

/-- A signed value stored (R5). -/
def State.wrInt (s : State) (k : Nat) (v : Int) : State := s.wr k (ofSigned (Dict.bits k) v)

/-- `n` added to a counter. Past the top of its type the spec states no value: a free one (log entry 7). -/
def State.add (s : State) (k n : Nat) : State :=
  if s.rd k + n < 2 ^ Dict.bits k then s.wr k (s.rd k + n)
  else s.wr k (Config.overflow k (s.rd k) % 2 ^ Dict.bits k)

/-- A computed value stored; one past the top of its type the spec does not state: a free one (log entry 7). -/
def State.wrFit (s : State) (k v : Nat) : State :=
  s.wr k (if v < 2 ^ Dict.bits k then v else Config.overflow k v % 2 ^ Dict.bits k)

/-- A counter incremented. -/
def State.inc (s : State) (k : Nat) : State := s.add k 1

/-- A counter incremented that the spec lets saturate. -/
def State.incSat (s : State) (k : Nat) : State := s.wr k (satInc (2 ^ Dict.bits k - 1) (s.rd k))

/-- A key back at its default. -/
def State.reset1 (s : State) (k : Nat) : State := s.wr k (Dict.dflt k)

/-! ### Device time -/

/-- Whole microseconds of the count (R34). -/
def TimeBase.whole (tb : TimeBase) : Nat := tb.count / 2 ^ 24

/-- The increment of the next tick (R33). -/
def State.increment (s : State) : Nat :=
  (512000000 + roundAway (512 * s.rdInt (ob 0x1100 0x03)) 1000).toNat

/-- The running state, 0x1020.01 (Table 1-8). -/
def State.runState (s : State) : Nat := s.rd (ob 0x1020 0x01)

/-- Whether the device time is interpolated between ticks (R35). R35 names Running, Dozing and Rest; in Starting, which it does not
name, the device time is the count of the last tick. (DESIGN CHOICE for Starting, log entry 51.) -/
def State.interpolates (s : State) : Bool := s.runState == 1 && !s.time.restart

/-- The device time read now (R35): interpolated in Running, never reaching the count of the next tick. -/
def State.now (s : State) : Nat :=
  if s.interpolates then
    min ((s.time.count + s.time.cycles * 100 * 2 ^ 24 / 2712) / 2 ^ 24)
      ((s.time.count + s.increment) / 2 ^ 24 - 1)
  else s.time.whole

/-- Whether the field island runs: its die serves, and some voice is at work (neither FLOOR, HALTED nor DISABLED in Table 3-1) or
selecting a channel, which the island times (R54), or OSC_27 is being tuned (R220). -/
def State.fieldIsland (s : State) : Bool :=
  s.rd (ob 0x7501 0x01) == 2 && s.runState == 1 &&
    ((List.finRange 4).any (fun v => decide (1 ≤ s.rd (ob (0x2000 + v.val) 0x01) ∧ s.rd (ob (0x2000 + v.val) 0x01) ≤ 6) ||
      s.voices[v].selecting) || s.cal.running.any (fun u => u.kind == 0x0A))

/-- Whether the air island runs: the air die is out of OFF (Table 9-1), or OSC_40 is being tuned (R220). -/
def State.airIsland (s : State) : Bool := s.rd (ob 0x4050 0x04) != 0 || s.cal.running.any (fun u => u.kind == 0x0B)

/-- A tick during which the field island does not run throughout is not counted (R38, R48): noted where work of the island ends. -/
def State.fieldStopped (s : State) : State :=
  { s with time := { s.time with fieldRan := s.time.fieldRan && s.fieldIsland } }

/-- A FIELD window counted up to now discarded (R48, R49). -/
def State.dropWindow (s : State) : State := { s with time := { s.time with fieldRan := false, winTicks := 0 } }

/-- One tick of the time base (R33), counted for the FIELD window when the field island ran through all of it (R38). -/
def State.tick (s : State) : State :=
  { s with time := { s.time with
      count := (s.time.count + s.increment) % 2 ^ 88, cycles := 0, ticks := s.time.ticks + 1, fieldRan := s.fieldIsland,
      winTicks := if s.time.fieldRan && s.fieldIsland && decide (s.time.winTicks < s.rd (ob 0x1100 0x09))
        then s.time.winTicks + 1 else s.time.winTicks } }

/-- The passage of time on an empty queue (log entry 8): in interpolated Running one cycle of the 27.12 MHz oscillator, with a
tick after every 211,875/256 cycles; otherwise one whole tick; without a supply nothing. -/
def State.pass (s : State) : State :=
  if !s.power.powered then s
  else if s.interpolates then
    if 211875 ≤ 256 * (s.time.cycles + 1) + s.time.phase then
      let s' := s.tick
      { s' with time := { s'.time with phase := 256 * (s.time.cycles + 1) + s.time.phase - 211875 } }
    else { s with time := { s.time with cycles := s.time.cycles + 1 } }
  else { s.tick with time := { s.tick.time with phase := 0 } }

/-! ### Timers -/

/-- Remove a timer. -/
def State.cancel (s : State) (tm : Timer) : State := { s with timers := s.timers.filter (fun p => p.1 != tm) }

/-- A timer set to an instant of device time, replacing an earlier setting. -/
def State.arm (s : State) (tm : Timer) (due : Nat) : State :=
  { s with timers := (tm, due) :: s.timers.filter (fun p => p.1 != tm) }

/-- A timer set `us` microseconds from now. -/
def State.armIn (s : State) (tm : Timer) (us : Nat) : State := s.arm tm (s.now + us)

/-- The instant a timer is set to. -/
def State.dueAt (s : State) (tm : Timer) : Option Nat := (s.timers.find? (fun p => p.1 == tm)).map (·.2)

/-- Whether a timer is set. -/
def State.isArmed (s : State) (tm : Timer) : Bool := (s.dueAt tm).isSome

/-- Whether a timer's instant has come (R36). -/
def State.isDue (s : State) (tm : Timer) : Bool :=
  match s.dueAt tm with
  | some d => decide (d ≤ s.now)
  | none => false

/-- Timers that satisfy `p` removed. -/
def State.cancelAll (s : State) (p : Timer → Bool) : State := { s with timers := s.timers.filter (fun x => !p x.1) }

/-! ### Free and random values -/

/-- A value the spec leaves open, below `n` (log entry 3). -/
def State.free1 (s : State) (n : Nat) : Nat × State :=
  (Config.freeValue s.free % n, { s with free := s.free + 1 })

/-- A uniform random value below `n` (R281). (log entry 4.) -/
def State.random (s : State) (n : Nat) : Nat × State :=
  (Config.random s.crypto.draws % n, { s with crypto := { s.crypto with draws := s.crypto.draws + 1 } })

/-- `n` random bytes. -/
def State.randomBytes (s : State) (n : Nat) : Octets × State :=
  (leBytes n (Config.random s.crypto.draws % 256 ^ n),
   { s with crypto := { s.crypto with draws := s.crypto.draws + 1 } })

/-! ### Resources -/

/-- One voice changed. -/
def State.setVoice (s : State) (v : VoiceId) (f : Voice → Voice) : State :=
  { s with voices := s.voices.set v (f s.voices[v]) }

/-- One score slot changed. -/
def State.setScore (s : State) (i : ScoreId) (f : Score → Score) : State :=
  { s with scores := s.scores.set i (f s.scores[i]) }

/-- One metronome changed. -/
def State.setMetro (s : State) (m : MetroId) (f : Metro → Metro) : State :=
  { s with metros := s.metros.set m (f s.metros[m]) }

/-- One tenant's mailbox changed. -/
def State.setBox (s : State) (t : Tenant) (f : Mailbox → Mailbox) : State :=
  { s with router := { s.router with boxes := s.router.boxes.set t (f s.router.boxes[t]) } }

/-- One tenant's command queue changed. -/
def State.setQueue (s : State) (t : Tenant) (f : List Job → List Job) : State :=
  { s with svc := { s.svc with queues := s.svc.queues.set t (f s.svc.queues[t]) } }

/-- One link changed. -/
def State.setLink (s : State) (d : Die) (f : Link → Link) : State :=
  { s with links := s.links.set d.link (f s.links[d.link]) }

/-- The state of a die's link (Table 20-2). -/
def State.linkState (s : State) (d : Die) : Nat := s.rd (ob d.index 0x01)

/-- Whether a die's link carries requests. -/
def State.linkReady (s : State) (d : Die) : Bool := s.linkState d == 2

/-- Every tenant, every channel, every metronome, every score slot, every voice. -/
def tenants : List Tenant := List.finRange 8
/-- The antenna channels. -/
def channels : List Channel := List.finRange 64
/-- The metronomes. -/
def metronomes : List MetroId := List.finRange 16
/-- The score slots. -/
def scoreIds : List ScoreId := List.finRange 32
/-- The voices. -/
def voiceIds : List VoiceId := List.finRange 4

/-- The tenant of a number. -/
def tenant? (n : Nat) : Option Tenant := if h : n < 8 then some ⟨n, h⟩ else none

/-- The voice that serves a channel (R2): sixteen channels each. -/
def voiceOf (ch : Nat) : VoiceId := ⟨ch / 16 % 4, Nat.mod_lt _ (by decide)⟩

/-- State of a tenant, 0x902n.01 (Table 14-1). -/
def State.tenantState (s : State) (t : Tenant) : Nat := s.rd (ob (0x9020 + t.val) 0x01)

/-- Whether a tenant is ACTIVE. -/
def State.active (s : State) (t : Tenant) : Bool := s.tenantState t == 1

/-- The ACTIVE tenants. -/
def State.actives (s : State) : List Tenant := tenants.filter s.active

/-- The tenant whose allotment record holds bit `b` of subindex `sub` (R413). -/
def State.allottee (s : State) (sub b : Nat) : Option Tenant :=
  tenants.find? (fun t => (s.rd (ob (0x9010 + t.val) sub)).testBit b)

/-- The tenant a metronome is allotted to. -/
def State.metroTenant (s : State) (m : MetroId) : Option Tenant := s.allottee 0x02 m.val

/-- The tenant a channel's allotment in effect names, 0x21nn.01 (R81). -/
def State.channelTenant (s : State) (ch : Nat) : Option Tenant := tenant? (s.rd (ob (0x2100 + ch) 0x01))

/-- The tenant that holds a score slot. -/
def State.scoreTenant (s : State) (i : ScoreId) : Option Tenant := tenant? (s.rd (ob (0xA000 + i.val) 0x01))

/-- Whether the conductor has completed its start (R527). -/
def State.up (s : State) : Bool := s.rst.conductor == .running

/-! ### The NVA order -/

/-- The kind of an internal commit, each of which holds at most one place (R407). -/
def Commit.kind : Commit → Nat
  | .checkpoint _ => 1 | .counters => 2 | .tags => 3 | .tunings => 4
  | _ => 0

/-- Whether a commit is a checkpoint. -/
def Commit.isCheckpoint : Commit → Bool
  | .checkpoint _ => true
  | _ => false

/-- Whether a waiting commit outlives a reset of the conductor: a checkpoint (R41, R51), and the user values of accepted tunings, which no
reset changes (R206, R227). -/
def Commit.survives : Commit → Bool
  | .checkpoint _ | .tunings => true
  | _ => false

/-- Whether a commit is a fault record's. -/
def Commit.isFault : Commit → Bool
  | .fault _ => true
  | _ => false

/-- The waiting commits with `c` put in: checkpoints before all, then fault records, then arrival order; an internal kind
already waiting is joined (R407, R494). (DEDUCED, log entry 22.) -/
def queueCommit (c : Commit) (l : List Commit) : List Commit :=
  if c.kind != 0 && l.any (fun d => d.kind == c.kind) then
    l.map (fun d => if d.kind == c.kind then c else d)
  else if c.isCheckpoint then c :: l
  else if c.isFault then
    if l.contains c then l
    else l.takeWhile (fun d => d.isCheckpoint || d.isFault) ++ c :: l.dropWhile (fun d => d.isCheckpoint || d.isFault)
  else l ++ [c]

/-- A commit entered in the NVA order, behind the one in progress (R374, R407). -/
def State.commit (s : State) (c : Commit) : State :=
  match s.order with
  | [] => { s with order := [c] }
  | h :: l => { s with order := h :: queueCommit c l }

/-- The NVA's value at a key: the committed one, else the default. -/
def State.nva (s : State) (k : Nat) : Nat := Tab.get Dict.dflt s.nvaObjs k

/-- Values made permanent. -/
def State.keep (s : State) (l : List (Nat × Nat)) : State :=
  { s with nvaObjs := l.foldl (fun t p => Tab.set Dict.dflt t p.1 p.2) s.nvaObjs }

/-- Values stored and entered for commit by the conductor itself. -/
def State.wrKeep (s : State) (l : List (Nat × Nat)) : State := (s.wrAll l).commit (.own l)

end Sys2Proof.Machine
end

