-- ==== Sys2Proof/Machine/Region.lean ====
section
/-! DEFINITION. The sealed region profiles (R231, R234, R235): sub-bands, channel plans, LBT parameters and cue channels of
Tables 9-2 to 9-4 and 10-4. -/

namespace Sys2Proof.Machine

/-- A sub-band (Table 9-2): edges in kHz, power in 0.1 dBm, caps and on-time in µs. -/
structure SubBand where
  low   : Nat
  high  : Nat
  power : Int
  dc    : Nat
  lbt   : Option Nat
  on    : Nat
deriving DecidableEq, Repr

/-- An entry of a channel plan (Table 9-4): centre in Hz, spacing in kHz, operating modes as a mask. -/
structure PlanEntry where
  centre  : Nat
  spacing : Nat
  modes   : Nat
deriving DecidableEq, Repr

/-- Table 9-2. (log entry 40.) -/
def bandsEU1 : List SubBand := [
  ⟨863000, 865000, 140, 3600000, some 100000000, 1000000⟩,
  ⟨865000, 868000, 140, 36000000, some 100000000, 1000000⟩,
  ⟨868000, 868600, 140, 36000000, none, 1000000⟩,
  ⟨868700, 869200, 140, 3600000, none, 1000000⟩,
  ⟨869400, 869650, 270, 360000000, none, 1000000⟩,
  ⟨869700, 870000, 140, 36000000, none, 1000000⟩]

/-- The sub-bands of a profile code. US1 has the one range of Table 9-3, whose dwell rules stand in the place of ledgers. -/
def subBands : Nat → List SubBand
  | 1 => bandsEU1
  | 2 => [⟨902000, 928000, 270, 0, none, 0⟩]
  | 3 => Config.xcBands.map (fun b => ⟨b.1, b.2.1, min b.2.2.1 270, b.2.2.2.1, b.2.2.2.2.1, b.2.2.2.2.2⟩)
  | _ => []

/-- The channel plan of a profile code (Table 9-4). -/
def plan : Nat → List PlanEntry
  | 1 => (List.range 35).map (fun n => ⟨863125000 + 200000 * n, 200, 2⟩) ++
         (List.range 17).map (fun n => ⟨863225000 + 400000 * n, 400, 12⟩)
  | 2 => (List.range 129).map (fun n => ⟨902200000 + 200000 * n, 200, 2⟩) ++
         (List.range 64).map (fun n => ⟨902400000 + 400000 * n, 400, 12⟩)
  | 3 => (Config.xcPlan.take 512).map (fun c => ⟨c.1, c.2.1, c.2.2⟩)
  | _ => []

/-- The sub-band that wholly contains a channel's centre ± half its spacing (R235), by its index. -/
def bandOf (profile : Nat) (e : PlanEntry) : Option Nat :=
  (subBands profile).findIdx? (fun b => decide (2 * b.low * 1000 + e.spacing * 1000 ≤ 2 * e.centre) &&
    decide (2 * e.centre + e.spacing * 1000 ≤ 2 * b.high * 1000))

/-- The sealed profile, 0x4000.01. -/
def State.profile (s : State) : Nat := s.rd (ob 0x4000 0x01)

/-- The plan entry of a list index under the sealed profile. -/
def State.planEntry (s : State) (k : Nat) : Option PlanEntry := (plan s.profile)[k]?

/-- The sub-band index of a list index; none where the channel is DENIED (R235). -/
def State.bandIdx (s : State) (k : Nat) : Option Nat := (s.planEntry k).bind (bandOf s.profile)

/-- Whether a list index is ALLOWED and of an operating mode (R235). -/
def State.allowed (s : State) (k mode : Nat) : Bool :=
  match s.planEntry k with
  | some e => e.modes.testBit mode && (bandOf s.profile e).isSome
  | none => false

/-- The ALLOWED list indexes of a mode, in list order (R272). -/
def State.allowedList (s : State) (mode : Nat) : List Nat :=
  (List.range (plan s.profile).length).filter (fun k => s.allowed k mode)

/-- The sub-band of an index. -/
def State.band (s : State) (b : Nat) : Option SubBand := (subBands s.profile)[b]?

/-- Whether the sub-band of a list index has an LBT cap. -/
def State.hasLbt (s : State) (k : Nat) : Bool :=
  match (s.bandIdx k).bind s.band with
  | some b => b.lbt.isSome
  | none => false

/-- The sealed LBT threshold in 0.25 dBm and minimum listen in µs; none under US1 (Tables 9-2, 10-4). -/
def State.sealedLbt (s : State) : Option (Int × Nat) :=
  if s.profile = 1 then some (-340, 5000)
  else if s.profile = 3 then some (Config.xcLbt.1, Config.xcLbt.2.1) else none

/-- The cue channel in Hz: the sealed one, or 0x4040.0A while unsealed (R233). -/
def State.cueChannel (s : State) : Nat :=
  match s.profile with
  | 1 => 869850000
  | 2 => 915000000
  | 3 => Config.xcLbt.2.2 * 1000
  | _ => s.rd (ob 0x4040 0x0A)

/-- The list entry as 0x4010.02 shows it (Table 9-10). -/
def State.listEntry (s : State) (k : Nat) : Octets :=
  match s.planEntry k with
  | none => List.replicate 8 0
  | some e =>
    u32 e.centre ++ u8 e.modes ++
      (match bandOf s.profile e with | some b => u8 b ++ u8 0 | none => u8 0xFF ++ u8 1) ++ u8 0

/-- The sub-band record as 0x4001.02 shows it (Table 9-9). -/
def State.bandRecord (s : State) (b : Nat) : Octets :=
  match s.band b with
  | none => List.replicate 24 0
  | some x =>
    u32 x.low ++ u32 x.high ++ leBytes 2 (ofSigned 16 x.power) ++ u32 (x.dc / 1000) ++
      u32 (match x.lbt with | some l => l / 1000 | none => 0xFFFFFFFF) ++ u32 x.on ++ u16 0

/-- The ledger bin of an instant (R236, R417). -/
def binOf (t : Nat) : Nat := t / 60000000

/-- Sum over the current bin and the 59 before it of the entries of key `k` (R236). -/
def ledgerSum (l : List (Nat × Nat × Nat)) (k now : Nat) : Nat :=
  l.foldl (fun n e => if e.1 = k ∧ binOf now < e.2.1 + 60 ∧ e.2.1 ≤ binOf now then n + e.2.2 else n) 0

/-- `us` entered in the bin of `now` for key `k`. -/
def ledgerAdd (l : List (Nat × Nat × Nat)) (k now us : Nat) : List (Nat × Nat × Nat) :=
  match l.find? (fun e => e.1 == k && e.2.1 == binOf now) with
  | some _ => l.map (fun e => if e.1 = k ∧ e.2.1 = binOf now then (e.1, e.2.1, e.2.2 + us) else e)
  | none => (k, binOf now, us) :: l

/-- Bins that have left every rolling sum removed. -/
def ledgerTrim (l : List (Nat × Nat × Nat)) (now : Nat) : List (Nat × Nat × Nat) :=
  l.filter (fun e => decide (binOf now < e.2.1 + 60))

end Sys2Proof.Machine
end

