-- ==== Sys2Proof/Machine/AirBase.lean ====
section
/-! DEFINITION. What chapters 8 to 10 share of the air die: its states (R229), the node's roles, the front-end balls (R252), network time
(R292, R293), and the channel that the receiver is on (R239, R280, R285). -/

namespace Sys2Proof.Machine

/-! ### Network roles and states -/

/-- The active mesh role: 0 sleepy end node, 1 router, 2 coordinator (Table 1-6). -/
def State.role (s : State) : Nat := s.rd (ob 0x1010 0x02)

/-- Whether the node is a sleepy end node. -/
def State.sleepy (s : State) : Bool := s.role == 0

/-- The join state (Table 10-6). -/
def State.joinState (s : State) : Nat := s.rd (ob 0x4100 0x06)

/-- The air die's state (Table 9-1). -/
def State.airState (s : State) : Nat := s.rd (ob 0x4050 0x04)

/-- The air die's state set. -/
def State.setAir (s : State) (n : Nat) : State := s.wr (ob 0x4050 0x04) n

/-- Whether the air die serves its link. -/
def State.airServes (s : State) : Bool := s.links[Die.air.link].up

/-! ### The front end's balls (R252) -/

/-- Whether a front end is declared. -/
def State.frontEnd (s : State) : Bool := s.isOn (ob 0x4030 0x01)

/-- The balls XPA_EN, XPA_ON, XSW_TX, XLNA_EN and XBYP; all low without a front end. -/
def State.fePins (s : State) (en on sw lna byp : Bool) : State :=
  let f := s.frontEnd
  { s with pins := { s.pins with xpaEn := f && en, xpaOn := f && on, xswTx := f && sw, xlnaEn := f && lna, xbyp := f && byp } }

/-- The balls as the state of the air die has them outside the sequences: in reset, where XBYP is high whatever 0x4030.01 says (Table
22-4), receiving, or in OFF. -/
def State.restPins (s : State) : State :=
  if !s.airServes then
    { s with pins := { s.pins with xpaEn := false, xpaOn := false, xswTx := false, xlnaEn := false, xbyp := true } }
  else if s.airState = 2 ∨ s.airState = 3 ∨ s.airState = 4 then s.fePins false false false true false
  else s.fePins false false false false true

/-- 0x4030.01 written: the balls follow at once, but those of a sequence under way, which keep what it has given them (R252). (DEDUCED,
log entry 41.) -/
def State.frontEndWrite (s : State) (x : Nat) : State :=
  let s := s.wr (ob 0x4030 0x01) x
  if x = 0 then (if s.airServes then s.fePins false false false false false else s)
  else if 5 ≤ s.airState ∧ s.airState ≤ 7 then s
  else s.restPins

/-! ### Network time (R292, R293) -/

/-- Network time at an instant of device time: the coordinator's device time, else the prediction of R293. -/
def State.netTime (s : State) (t : Nat) : Nat :=
  if s.role = 2 then t
  else ((t : Int) + s.rdInt (ob 0x1100 0x0F) +
    truncDiv (s.rdInt (ob 0x4110 0x07) * ((t : Int) - (s.rd (ob 0x4110 0x0A) : Int))) 1000000000).toNat

/-- The device time of an instant of network time, as now predicted. -/
def State.deviceAt (s : State) (n : Nat) : Nat := ((n : Int) - ((s.netTime s.now : Int) - (s.now : Int))).toNat

/-! ### Channels and slots (R280, R285, R286) -/

/-- Whether the network hops. -/
def State.hops (s : State) : Bool := s.profile == 2

/-- Channels in the hop set. -/
def State.hopN (s : State) : Nat := s.rd (ob 0x4120 0x05)

/-- The list index at a position of the hop set. -/
def State.hopAt (s : State) (k : Nat) : Nat := byteAt (leBytes 64 (s.rd (ob 0x4120 0x06))) k

/-- The slot of network time. -/
def State.slot (s : State) : Nat := s.netTime s.now / 100000

/-- The list index of a slot (R285). -/
def State.slotChannel (s : State) (slot : Nat) : Nat :=
  s.hopAt (if s.hopN = 0 then 0 else (23 * slot + s.rd (ob 0x4100 0x01) % s.hopN) % s.hopN)

/-- The list index the MAC works on. -/
def State.workChannel (s : State) : Nat := if s.hops then s.slotChannel s.slot else s.rd (ob 0x4120 0x01)

/-- The list index that the node's work has the receiver on: a scan's channel, hop-set position 0 while unsynchronised, else the MAC's own. -/
def State.listenChannel (s : State) : Nat :=
  match s.mac.scan with
  | some x => x.channel
  | none => if s.joinState = 4 then s.hopAt 0 else s.workChannel

/-- The list index that the receiver is on: a change takes effect 2 µs after its NCO word (R239). -/
def State.rxChannel (s : State) : Nat := if s.now < s.air.tunedAt + 2 then s.air.before else s.air.channel

/-- The NCO word of a channel written: only in LISTEN (R239). -/
def State.tune (s : State) (k : Nat) : State :=
  if s.airState = 2 ∧ k ≠ s.air.channel then
    { s with air := { s.air with channel := k, before := s.rxChannel, tunedAt := s.now } }
  else s

/-- The receiver's channel settled where energy is found: a word that has not taken effect yet is withdrawn (R239). (DESIGN CHOICE, log entry 41.) -/
def State.settleChannel (s : State) : State := { s with air := { s.air with channel := s.rxChannel, tunedAt := 0 } }

/-- The guard g of R286 in µs. -/
def State.guard (s : State) : Nat :=
  if s.role = 2 then 1000
  else 1000 + (s.now - s.rd (ob 0x4110 0x0A)) * (if s.rd (ob 0x4110 0x08) < 2 then 20 else 2) / 1000000

/-- Whether an exchange of so many µs fits the slot now (R286). -/
def State.fitsSlot (s : State) (dur : Nat) : Bool :=
  let at_ := s.netTime s.now % 100000
  !s.hops || (s.guard ≤ at_ && at_ + dur + s.guard ≤ 100000)

/-- The listen of Table 10-4 on a channel: threshold (0.25 dBm), least time, whether a random part follows, backoff unit. -/
def State.lbtOf (s : State) (k : Nat) : Int × Nat × Bool × Nat :=
  match s.profile, s.sealedLbt with
  | 1, some (t, n) => (t, n, true, 1000)
  | 3, some (t, n) => if s.hasLbt k then (t, n, true, 1000) else (s.rdInt (ob 0x4120 0x08), 160, false, 320)
  | _, _ => (s.rdInt (ob 0x4120 0x08), 160, false, 320)

end Sys2Proof.Machine
end

