-- ==== Sys2Proof/Machine/Carrier.lean ====
section
/-! DEFINITION. The carrier of a voice between its instants (R58, R69, R70): the ramp shape, the amplitude at a ramp step and under
modulation; and the tuning banks of the channels (R54, R59, R208): which elements realise a code, and what a selected and a parked
channel's bank holds. -/

namespace Sys2Proof.Machine

/-! ### Ramps (R69, R70) -/

/-- cos(πj/128) in parts of 10^9, for j from 0 to 64. -/
def cosTable : List Int :=
  [1000000000, 999698819, 998795456, 997290457, 995184727, 992479535, 989176510, 985277642, 980785280, 975702130, 970031253, 963776066,
    956940336, 949528181, 941544065, 932992799, 923879533, 914209756, 903989293, 893224301, 881921264, 870086991, 857728610] ++
  [844853565, 831469612, 817584813, 803207531, 788346428, 773010453, 757208847, 740951125, 724247083, 707106781, 689540545, 671558955,
    653172843, 634393284, 615231591, 595699304, 575808191, 555570233, 534997620, 514102744, 492898192] ++
  [471396737, 449611330, 427555093, 405241314, 382683432, 359895037, 336889853, 313681740, 290284677, 266712757, 242980180, 219101240,
    195090322, 170961889, 146730474, 122410675, 98017140, 73564564, 49067674, 24541229, 0]

/-- The cosine of a turn's 256th parts, in parts of 10^9. -/
def cosTurn (k : Nat) : Int :=
  let k := k % 256
  let j := if k ≤ 128 then k else 256 - k
  if j ≤ 64 then cosTable.getD j 0 else -cosTable.getD (128 - j) 0

/-- The up-ramp's shape after j of its 64 steps, (1 − cos(πj/64)) / 2 in parts of 10^9 (R69). -/
def upShape (j : Nat) : Nat := ((1000000000 - cosTurn (2 * min 64 j)) / 2).toNat

/-- The amplitude L that delivers a power, as its square root: the power in 1/32,768 W, the amplitude in 10^-4 of the root of that. -/
def amplitudeOf (p : Nat) : Nat := sqrtUp (p * 100000000)

/-- The steps of the ramp under way that are complete at an instant. -/
def Voice.stepsDone (x : Voice) (now : Nat) : Nat :=
  if x.rampTime = 0 then x.rampSteps else min x.rampSteps ((now - x.rampAt) * 64 / x.rampTime)

/-- The amplitude of a ramp after j of its steps (R69, R70): from the amplitude at which it began to the one at which it ends, by the
up-ramp's shape; for a fall to 0 that is the down-ramp's shape. A reversed climb takes the last steps of the shape (R72). -/
def Voice.rampAmplitude (x : Voice) (j : Nat) : Nat :=
  ((x.rampFrom : Int) + ((x.rampTo : Int) - x.rampFrom) * upShape (64 - x.rampSteps + j) / 1000000000).toNat

/-- The amplitude of a voice now: on a ramp by its completed steps, at level L, else none. -/
def State.amplitude (s : State) (v : VoiceId) : Nat :=
  let st := s.rd (ob (0x2000 + v.val) 0x01)
  let x := s.voices[v]
  if st = 2 ∨ st = 5 then x.rampAmplitude (x.stepsDone s.now)
  else if st = 3 ∨ st = 4 then amplitudeOf x.drive else 0

/-- The amplitude b during a pulse of ASK low at index m in 0.01 %: m = (a − b) / (a + b) (R58). -/
def lowAmplitude (a m : Nat) : Nat := a * (10000 - m) / (10000 + m)

/-! ### Tuning banks (R54, R59, R208) -/

/-- Whether the elements of a binary weight 2^i have both failed (Table 8-4). -/
def weightGone (health i : Nat) : Bool := health.testBit (2 * i) && health.testBit (2 * i + 1)

/-- The healthy thermometer elements, lowest number first. -/
def thermsLeft (health : Nat) : List Nat := (List.range 17).filter (fun j => !health.testBit (8 + j))

/-- Whether the healthy elements realise a code. -/
def codeRealised (health k : Nat) : Bool :=
  (List.range 4).all (fun i => !k.testBit i || !weightGone health i) && decide (k / 16 ≤ (thermsLeft health).length)

/-- How far apart two codes lie. -/
def codeGap (a b : Nat) : Nat := if a ≤ b then b - a else a - b

/-- The code that a bank realises for K (R208): K, or with a degraded bank the nearest one that its healthy elements allow; of two as
near, the lower. (DESIGN CHOICE for the tie, log entry 38.) -/
def nearestCode (health k : Nat) : Nat :=
  (List.range 256).foldl (fun b c => if codeRealised health c && decide (codeGap c k < codeGap b k) then c else b) 0

/-- The elements that realise a code (R208): the primary of each weight unless it has failed, then its duplicate, and the
lowest-numbered healthy thermometer elements. -/
def realise (health k : Nat) : Elements :=
  let c := nearestCode health k
  { primary := (List.range 4).foldl (fun n i => if c.testBit i && !health.testBit (2 * i) then n + 2 ^ i else n) 0
    duplicate := (List.range 4).foldl (fun n i => if c.testBit i && health.testBit (2 * i) then n + 2 ^ i else n) 0
    therm := ((thermsLeft health).take (c / 16)).foldl (fun n j => n + 2 ^ j) 0 }

/-- A channel's bank with other contents. -/
def State.setBank1 (s : State) (ch : Nat) (b : TuningBank) : State :=
  s.setVoice (voiceOf ch) (fun x => { x with banks := x.banks.set (ch % 16) b (Nat.mod_lt _ (by decide)) })

/-- The bank load of a selection: the effective codes, and the grant's damping (R54, R59, R208). -/
def State.loadBank (s : State) (ch damping : Nat) : State :=
  let i := 0x6100 + ch
  s.setBank1 ch { cp := realise (s.rd (ob i 0x0A)) (s.rd (ob i 0x01)), cs := realise (s.rd (ob i 0x0B)) (s.rd (ob i 0x02)),
                  damping := damping }

/-- A channel parked: its bank holds the park setting of 0x61nn.03 (R54, R211). (DEDUCED for CS and damping, log entry 33.) -/
def State.park (s : State) (ch : Nat) : State :=
  let i := 0x6100 + ch
  s.setBank1 ch { cp := realise (s.rd (ob i 0x0A)) (s.rd (ob i 0x03)), cs := realise (s.rd (ob i 0x0B)) (s.rd (ob i 0x02)),
                  damping := 0 }

/-- The old connection of a voice broken (R54): the channel it had selected is parked and none is selected. -/
def State.unselect (s : State) (v : VoiceId) : State :=
  let c := s.rd (ob (0x2000 + v.val) 0x02)
  let s := s.wr (ob (0x2000 + v.val) 0x02) 0xFF
  if c < 64 then s.park c else s

/-- The new connection made (R54): the channel is selected and its bank loaded. -/
def State.select (s : State) (v : VoiceId) (ch damping : Nat) : State :=
  (s.wr (ob (0x2000 + v.val) 0x02) ch).loadBank ch damping

end Sys2Proof.Machine
end

