-- ==== Sys2Proof/Machine/Receive.lean ====
section
/-! DEFINITION. The receive chain of a voice (chapter 4): levels in decibels, acquisition and phase estimate, the boundary rule of the gain
ranges, and the decision of the bits of a reply from its samples. Amplitudes are in 10^-6 counts at the range in which the window
opened, directions in 10^-6: the spec gives the chain no word length. (DESIGN CHOICE, log entry 59.) -/

namespace Sys2Proof

/-! ### Samples (R84) -/

/-- A sample as the 12-bit converter gives it. -/
def Sample.held (x : Sample) : Sample := ⟨clamp (-2047) 2047 x.i, clamp (-2047) 2047 x.q⟩

/-- The larger magnitude of a sample on its axes. -/
def Sample.peak (x : Sample) : Nat := max x.held.i.natAbs x.held.q.natAbs

/-- Whether a sample is an overrange sample. -/
def Sample.full (x : Sample) : Bool := x.peak == 2047

/-- Every sample of a cell. -/
def Cell.all (c : Cell) : List Sample := c.first ++ c.second

/-- The largest magnitude among samples. -/
def peakOf (l : List Sample) : Nat := l.foldl (fun m x => max m x.peak) 0

/-- How many samples are overrange. -/
def fullOf (l : List Sample) : Nat := (l.filter Sample.full).length

/-- A sample in 10^-6 counts of the range in which the window opened. -/
def Sample.scaled (x : Sample) (factor : Nat) : Int × Int := (x.held.i * factor / 1000000, x.held.q * factor / 1000000)

end Sys2Proof

namespace Sys2Proof.Machine

/-! ### Decibels (R90, R94) -/

/-- 10^(2^j/4000) in parts of 10^12, for j from 0 to 17. -/
def decadeTable : List Nat :=
  [1000575811989, 1001151955538, 1002305238077, 1004615790278, 1009252886076, 1018591388054, 1037528415818, 1076465213629,
    1158777356155, 1342764961137, 1803017740859, 3250872973854, 10568175092136, 111686324778056, 12473835142429430] ++
  [155596563160507441011, 24210290467361781340496844271, 586138164514028740767069345550483179459155837]

/-- 10^(n/4000) in parts of 10^12, by the bits of n. -/
def decadeUp (n : Nat) : Nat :=
  (List.range 18).foldl (fun a j => if n.testBit j then a * decadeTable.getD j 0 / 1000000000000 else a) 1000000000000

/-- 10^(m/4000) in parts of 10^12. -/
def decade (m : Int) : Nat := if 0 ≤ m then decadeUp m.toNat else 1000000000000000000000000 / decadeUp (-m).toNat

/-- The factor of R90 between two calibrated gains in 0.01 dB, in parts of 10^12. -/
def rescale (old new : Nat) : Nat := decade (2 * ((old : Int) - new))

/-- The amplitude, times 10^12, at which the level of R94 at a gain becomes `l`. -/
def levelEdge (gain : Nat) (l : Int) : Nat := 2047000000 * decade (25 * (2 * l - 1) + 2 * gain)

/-- The highest level from `lo` to below `hi` that an amplitude reaches. -/
def levelIn (a gain : Nat) : Nat → Int → Int → Int
  | 0, lo, _ => lo
  | f + 1, lo, hi =>
    if levelEdge gain ((lo + hi) / 2) ≤ a * 1000000000000 then levelIn a gain f ((lo + hi) / 2) hi
    else levelIn a gain f lo ((lo + hi) / 2)

/-- The level of an amplitude at a gain, referred to G0, in 0.25 dBFS0 rounded to nearest (R94). Of no amplitude at all the spec states
no level: a free value. (DESIGN CHOICE, log entry 59.) -/
def level (a gain : Nat) : Int :=
  if a = 0 then toSigned 16 (Config.levelOfNothing gain) else levelIn a gain 11 (-1024) 1024

/-! ### Subcarriers and directions (R85, Table 5-3) -/

/-- How a tag codes its replies: Manchester or BPSK, on two tones, a modulated first half for a 1, and the samples of a subcarrier
period. -/
structure TagCoding where
  manchester : Bool
  dual       : Bool
  oneFirst   : Bool
  period     : Nat
deriving DecidableEq, Repr

/-- The coding of the replies to a frame at a 15693 reply mode and an A/B receive rate (Table 5-3). Which half of a Manchester cell says 1
is the standards'. (PRESUMED, log entry 59.) -/
def Frame.tagCoding (f : Frame) (mode rate : Nat) : TagCoding :=
  if f.iso15 then ⟨true, mode % 2 == 1, false, 16⟩ else ⟨!f.typeB && rate == 0, false, true, 8⟩

/-- The subcarrier as the chain correlates with it: a square wave of a period. (DESIGN CHOICE, log entry 59.) -/
def carrierSign (period n : Nat) : Int := if n % period < period / 2 then 1 else -1

/-- Scaled samples correlated with a subcarrier from its `n`-th sample on; excluded samples are passed over. -/
def correlate (period : Nat) : Nat → List (Option (Int × Int)) → Int × Int
  | _, [] => (0, 0)
  | n, none :: l => correlate period (n + 1) l
  | n, some x :: l => (carrierSign period n * x.1 + (correlate period (n + 1) l).1, carrierSign period n * x.2 + (correlate period (n + 1) l).2)

/-- The product of two vectors. -/
def dot (a b : Int × Int) : Int := a.1 * b.1 + a.2 * b.2

/-- The direction of a vector in parts of 10^6. -/
def direction (p : Int × Int) : Int × Int :=
  let r := sqrtUp ((dot p p).toNat * 1000000)
  if r = 0 then (0, 0) else (Int.tdiv (p.1 * 1000000000) r, Int.tdiv (p.2 * 1000000000) r)

/-- Vectors summed as one modulation vector, whichever way each of them points. -/
def vectorOf (l : List (Int × Int)) : Int × Int :=
  l.foldl (fun a v => if dot a v < 0 then (a.1 - v.1, a.2 - v.2) else (a.1 + v.1, a.2 + v.2)) (0, 0)

/-- The phase of a vector in units of 1.40625°, the nearest (R85). -/
def phaseOf (p : Int × Int) : Nat :=
  (List.range 256).foldl (fun b k => if dot p (cosTurn b, cosTurn (b + 192)) < dot p (cosTurn k, cosTurn (k + 192)) then k else b) 0

/-- The projected amplitude per sample of a correlation. -/
def projected (dir v : Int × Int) (n : Nat) : Int := if n = 0 then 0 else Int.tdiv (dot v dir) (n * 1000000)

/-- A half-cell: its amplitudes along both directions. -/
structure Half where
  tone1 : Int
  tone2 : Int
deriving DecidableEq, Repr

/-- The amplitude of a half-cell that counts as modulated. -/
def Half.amplitude (c : TagCoding) (h : Half) : Nat :=
  if c.manchester then (max h.tone1 (if c.dual then h.tone2 else h.tone1)).toNat else h.tone1.natAbs

/-- A half-cell from its scaled samples, the `n`-th of the cell on. Manchester halves are correlated each from its own start. -/
def halfOf (c : TagCoding) (r : Reception) (n : Nat) (l : List (Option (Int × Int))) : Half :=
  let k := if c.manchester then 0 else n
  let m := (l.filter Option.isSome).length
  { tone1 := projected r.dir1 (correlate c.period k l) m
    tone2 := if c.dual then projected r.dir2 (correlate 14 k l) m else 0 }

/-! ### Acquisition (R88) and the noise window (R95) -/

/-- Acquisition under way: the range, the samples since its last step, the samples still excluded, and the steps made. -/
structure Acquisition where
  range : Nat
  since : Nat
  skip  : Nat
  steps : Nat
deriving DecidableEq, Repr

/-- One sample of acquisition, scaled from its range; none where it is excluded. A step needs 2 µs, 14 samples, since the last one, and
excludes the 3 samples of the settle time, 0.40 µs. (DESIGN CHOICE for the maximum of Table 4-2, log entry 59.) -/
def Acquisition.next (gains : List Nat) (start : Nat) (auto : Bool) (a : Acquisition) (x : Sample) :
    Acquisition × Option (Int × Int) :=
  let y := if a.skip = 0 then some (x.scaled (rescale (gains.getD start 0) (gains.getD a.range 0))) else none
  let a := { a with since := a.since + 1, skip := a.skip - 1 }
  if auto && x.full && decide (0 < a.range) && decide (14 ≤ a.since) then
    ({ range := a.range - 1, since := 0, skip := 3, steps := a.steps + 1 }, y)
  else (a, y)

/-- Acquisition over samples. -/
def acquire (gains : List Nat) (start : Nat) (auto : Bool) : Acquisition → List Sample → Acquisition × List (Option (Int × Int))
  | a, [] => (a, [])
  | a, x :: l =>
    let (a, y) := a.next gains start auto x
    let (b, ys) := acquire gains start auto a l
    (b, y :: ys)

/-- Acquisition over the cells of the start-of-frame pattern, each half by itself. -/
def acquireCells (gains : List Nat) (start : Nat) (auto : Bool) :
    Acquisition → List Cell → Acquisition × List (List (Option (Int × Int)) × List (Option (Int × Int)))
  | a, [] => (a, [])
  | a, c :: l =>
    let (a, f) := acquire gains start auto a c.first
    let (a, g) := acquire gains start auto a c.second
    let (b, r) := acquireCells gains start auto a l
    (b, (f, g) :: r)

/-- The samples of the noise window (R95): from 2 µs after the window's opening to 2 µs before the reply start, the last 64 µs of that. -/
def noiseWindow (l : List (Option (Int × Int))) : List (Int × Int) :=
  let n := l.length
  let from_ := max 14 (n - 447)
  ((l.drop from_).take (n - 13 - from_)).filterMap id

/-- The RMS of projected samples. -/
def rms (dir : Int × Int) (l : List (Int × Int)) : Nat :=
  if l.isEmpty then 0
  else sqrtUp ((l.foldl (fun n x => n + (dot x dir / 1000000).natAbs * (dot x dir / 1000000).natAbs) 0) / l.length)

/-- What acquisition gives at the recognition of the start-of-frame pattern: the steps, the phase, the noise level and the samples it was
taken from, and the reception of the frame (R85, R86, R88, R95). -/
structure Heard where
  steps : Nat
  phase : Nat
  noise : Option Int
  count : Nat
  rx    : Reception
deriving DecidableEq, Repr

/-- No reception yet. -/
def Reception.blank : Reception := { dir1 := (0, 0), dir2 := (0, 0), sum := 0, halves := 0, full := 0, peak := 0 }

/-- The chain from the opening of the window to the recognition of the start-of-frame pattern. The mean amplitude starts from the
half-cells of the pattern that have at least half its largest one. (DESIGN CHOICE, log entry 59.) -/
def hear (c : TagCoding) (latch : List Nat) (range : Nat) (before : List Sample) (sof : List Cell) : Heard :=
  let gains := latch.drop 5
  let auto := latch.getD 4 0 != 1
  let (a, pre) := acquire gains range auto { range := range, since := 14, skip := 0, steps := 0 } before
  let (a, cells) := acquireCells gains range auto a sof
  let vec := fun (period : Nat) => vectorOf (cells.flatMap (fun p =>
    [correlate period 0 p.1, correlate period (if c.manchester then 0 else p.1.length) p.2]))
  let v1 := vec c.period
  let rx := { Reception.blank with dir1 := direction v1, dir2 := if c.dual then direction (vec 14) else (0, 0) }
  let amps := cells.flatMap (fun p => [(halfOf c rx 0 p.1).amplitude c, (halfOf c rx p.1.length p.2).amplitude c])
  let loud := amps.filter (fun m => decide (amps.foldl max 0 ≤ 2 * m))
  let noise := noiseWindow pre
  let all := sof.flatMap Cell.all
  { steps := a.steps, phase := phaseOf v1, count := noise.length
    noise := if noise.isEmpty then none else some (level (rms rx.dir1 noise) (gains.getD range 0))
    rx := { rx with sum := loud.foldl (· + ·) 0, halves := loud.length, full := fullOf all, peak := peakOf all } }

/-! ### The boundary rule (R89 to R92) -/

/-- The progress of the boundary rule over a frame. -/
structure CellRun where
  range   : Nat
  since   : Nat
  changes : Nat
  quiet   : Nat
  locked  : Bool
  clipped : Bool
  odd     : List Nat
deriving DecidableEq, Repr

/-- The boundary after a cell (R89 to R92): `odd` takes the number of the next one, whose first half a change discards; `last` is the
boundary that begins the end-of-frame pattern. The up condition needs H quiet cells of this frame. (DEDUCED for a frame of fewer cells,
log entry 35.) -/
def CellRun.next (high low h limit idx : Nat) (last : Bool) (r : CellRun) (peak : Nat) : CellRun :=
  let since := r.since + 1
  let quiet := if peak ≤ low then r.quiet + 1 else 0
  let r := { r with since := since, quiet := quiet }
  let down := high ≤ peak && 0 < r.range
  let up := h ≤ quiet && r.range < 3
  let free := h ≤ since && r.changes < limit
  if r.locked then r
  else if down then
    if free && !last then { r with range := r.range - 1, since := 0, changes := r.changes + 1, odd := r.odd ++ [idx + 1] }
    else if free then r
    else { r with locked := true, clipped := true }
  else if up && free && !last then
    { r with range := r.range + 1, since := 0, changes := r.changes + 1, odd := r.odd ++ [idx + 1] }
  else r

/-! ### The decision of bits (R86, R91, R117, R118) -/

/-- A frame being decided: the boundary rule, the amplitudes of its modulated half-cells, its bits, the first collision's cell, how many
cells in a row gave nothing, where it broke off, and the smallest distance from the threshold. -/
structure Decoding where
  run       : CellRun
  sum       : Nat
  halves    : Nat
  bits      : List Bool
  collision : Option Nat
  faint     : Nat
  truncated : Option Nat
  margin    : Option Nat
  full      : Nat
deriving DecidableEq, Repr

/-- The decision threshold: half the running mean modulated amplitude, from the start-of-frame pattern on. -/
def Decoding.threshold (r : Reception) (x : Decoding) : Nat := (r.sum + x.sum) / (2 * (r.halves + x.halves))

/-- The bit of a cell from its halves; with the first half discarded, from the second alone (R91). Of a Manchester cell neither half of
which reaches the threshold the spec gives no bit: a free value. (DESIGN CHOICE, log entry 59.) -/
def bitOf (c : TagCoding) (th : Nat) (cell : Cell) (first : Option Half) (second : Half) : Bool :=
  let on := fun (h : Half) => decide ((th : Int) ≤ h.tone1)
  if c.manchester then
    match first with
    | some f => if on f then c.oneFirst else if on second then !c.oneFirst
        else Config.faintBit (cell.all.map (fun x => (x.i, x.q)))
    | none => on second != c.oneFirst
  else decide (0 ≤ (match first with | some f => f.tone1 | none => 0) + second.tone1)

/-- Whether a half-cell lies below the threshold. -/
def Half.below (c : TagCoding) (th : Nat) (h : Half) : Bool := decide (h.amplitude c < th)

/-- How far a half-cell lies from the threshold. -/
def Half.distance (c : TagCoding) (th : Nat) (h : Half) : Nat :=
  if th ≤ h.amplitude c then h.amplitude c - th else th - h.amplitude c

/-- One data cell decided (R86, R89 to R92, R117, R118): the cell's samples come scaled from the range it was received in, and its first
half not at all where the range has just changed. -/
def Decoding.cell (c : TagCoding) (r : Reception) (latch : List Nat) (start idx : Nat) (last : Bool) (x : Decoding) (cell : Cell) : Decoding :=
  if x.truncated.isSome then x
  else
    let gains := latch.drop 5
    let k := rescale (gains.getD start 0) (gains.getD x.run.range 0)
    let scale := fun (l : List Sample) => l.map (fun y => some (y.scaled k))
    let th := x.threshold r
    let first := if x.run.odd.getLast? = some idx then none else some (halfOf c r 0 (scale cell.first))
    let second := halfOf c r cell.first.length (scale cell.second)
    let hs := first.toList ++ [second]
    let loud := hs.filter (fun h => !h.below c th)
    let faint := if hs.length = 2 ∧ loud = [] then x.faint + 1 else 0
    let both := c.manchester && (match first with | some f => decide ((th : Int) ≤ f.tone1) && decide ((th : Int) ≤ second.tone1) | none => false)
    let run := if latch.getD 4 0 = 1 then
        { x.run with clipped := x.run.clipped || decide (latch.getD 0 1900 ≤ peakOf cell.all) }
      else x.run.next (latch.getD 0 1900) (latch.getD 1 380) (latch.getD 2 8) (latch.getD 3 3) idx last (peakOf cell.all)
    { run := run
      sum := x.sum + loud.foldl (fun n h => n + h.amplitude c) 0
      halves := x.halves + loud.length
      bits := x.bits ++ [bitOf c th cell first second]
      collision := x.collision.or (if both then some idx else none)
      faint := faint
      truncated := if faint = 2 then some (idx - 1) else none
      margin := hs.foldl (fun m h => some (match m with | some a => min a (h.distance c th) | none => h.distance c th)) x.margin
      full := x.full + fullOf cell.all }

/-- The cells of a frame decided in turn. -/
def decodeCells (c : TagCoding) (r : Reception) (latch : List Nat) (start : Nat) : Nat → List Cell → Decoding → Decoding
  | _, [], x => x
  | idx, cell :: l, x => decodeCells c r latch start (idx + 1) l (x.cell c r latch start idx l.isEmpty cell)

/-- A frame decided under the settings latched at its window, from the range `start` of the window and the range in which its start-of-frame
pattern was recognised; in FIXED the start-of-frame pattern may clip too (R92). -/
def decode (c : TagCoding) (r : Reception) (latch : List Nat) (start range : Nat) (cells : List Cell) : Decoding :=
  decodeCells c r latch start 0 cells
    { run := { range := range, since := latch.getD 2 8, changes := 0, quiet := 0, locked := false,
               clipped := latch.getD 4 0 == 1 && decide (latch.getD 0 1900 ≤ r.peak), odd := [] }
      sum := 0, halves := 0, bits := [], collision := none, faint := 0, truncated := none, margin := none, full := 0 }

/-- The mean modulated amplitude of a frame (R94). -/
def Decoding.mean (x : Decoding) : Nat := x.sum / x.halves

/-- The decision margin (Table 4-3): the smallest distance of a cell from its threshold in % of the mean modulated amplitude. -/
def Decoding.marginPercent (x : Decoding) : Nat := min 100 ((x.margin.getD 0) * 100 / x.mean)

end Sys2Proof.Machine
end

