-- ==== Sys2Proof/Machine/Views.lean ====
section
/-! DEFINITION. What a read of an object returns: the stored value, or for the objects that are views of an engine's state
the value computed from it (R377: whole at one instant). -/

namespace Sys2Proof.Machine

/-! ### Records -/

/-- A tag table entry (Table 6-3). -/
def Tag.record (h : Nat) (e : Tag) : Octets :=
  u16 h ++ u8 e.owner.val ++ u8 e.channel ++ u8 e.proto ++ u8 e.state ++ u8 e.uid.length ++ u8 e.miss ++
    padTo 10 e.uid ++ u8 e.typ ++ u8 0 ++ u64 e.lastSeen ++ u32 e.firstSeen

/-- The bitmap of 24 bytes with the given sources set (Table 18-5). -/
def sourceBitmap (l : List Nat) : Nat := l.foldl (fun n f => n ||| 2 ^ f) 0

/-- A fault record (Table 18-5). -/
def FaultRecord.record (r : FaultRecord) : Octets :=
  u16 r.num ++ u8 r.source ++ u8 r.domain.val ++ u8 (faultClass r.source) ++ u8 r.state ++ u8 r.reactions ++ u8 r.flags ++
    u64 r.raisedAt ++ u32 r.detail ++ u16 r.merged ++ u16 0 ++ u64 r.mergedAt ++ u64 r.clearedAt ++ leBytes 24 r.bitmap

/-- A neighbour entry (0x4140.02). -/
def Neighbour.record (n : Neighbour) : Octets :=
  u16 n.short ++ u64 n.ext ++ u8 n.relation ++ u8 n.depth ++ u8 n.lqi ++ u16 n.rssi ++ u8 n.seq ++ u32 n.counter1 ++
    u32 n.counter2 ++ u32 n.heard ++ u16 n.poll ++ u16 n.cue

/-- A node table entry (0x5040.02). -/
def Node.record (a : Nat) (n : Node) : Octets :=
  u8 a ++ u8 n.state ++ u64 n.ident ++ u8 n.pos ++ u8 n.misses ++ u64 n.heard ++ u32 0

/-- A subscription entry (Table 13-16). -/
def Sub.record (e : Sub) : Octets :=
  u16 e.index ++ u8 e.sub ++ u8 e.kind ++ u16 e.event ++ u16 e.interval ++ u32 e.deadband ++ u32 e.count

/-! ### Metronome counters -/

/-- Microseconds per unit of a metronome, 0x80kk.03. -/
def State.metroUnit (s : State) (m : MetroId) : Nat := if s.rd (ob (0x8000 + m.val) 0x03) = 1 then 1000 else 1

/-- Whether a metronome counts up. -/
def State.metroUp (s : State) (m : MetroId) : Bool := s.rd (ob (0x8000 + m.val) 0x07) == 1

/-- A TRIANGLE of period `p`, `x` counts after a start of its upward pass (R452). -/
def triangle (p x : Nat) : Nat := let y := x % (2 * p); if y ≤ p then y else 2 * p - y

/-- The counter at an instant (R451, R452): from the last known value, one count per unit, over every reload and turn on the way; at a zero
instant of DOWN it reads P. -/
def State.metroCount (s : State) (m : MetroId) (t : Nat) : Nat :=
  let i := 0x8000 + m.val
  let b := s.metros[m].base
  let e := (t - s.metros[m].since) / s.metroUnit m
  if s.rd (ob i 0x01) = 2 then
    if s.metroUp m then (if b + e ≤ s.rd (ob i 0x05) then b + e else triangle (s.rd (ob i 0x05)) (b + e))
    else if e < b then b - e
    else match s.rd (ob i 0x02) with
      | 0 => s.rd (ob i 0x04) - (e - b) % s.rd (ob i 0x04)
      | 1 => 0
      | _ => triangle (s.rd (ob i 0x05)) (e - b)
  else b

/-! ### Faults seen by a tenant -/

/-- Whether tenant `t` sees domain `d` (R507): its own, and every domain for T0. -/
def sees (t d : Tenant) : Bool := t.val == 0 || t == d

/-- Sources pending in the domains `t` sees. -/
def State.pendingFor (s : State) (t : Tenant) : List Nat :=
  (s.faults.pending.filter (fun p => t.val == 0 || p.2 == t.val)).map (·.1)

/-- Sources whose cause is present in the domains `t` sees. -/
def State.causesFor (s : State) (t : Tenant) : List Nat :=
  (s.faults.causes.filter (fun p => t.val == 0 || p.2.1 == t.val)).map (·.1)

/-- Records newer first by number from the newest one back. -/
def State.recordsFor (s : State) (t : Tenant) : List FaultRecord := (s.faults.ring.map (·.2)).filter (fun r => sees t r.domain)

/-- Age of a record number: how many records were made after it. -/
def State.recordAge (s : State) (n : Nat) : Nat := (s.faults.nextNum + 65536 - 1 - n) % 65536

/-- The youngest of the records older than age `a`. -/
def State.nextRecord (s : State) (t : Tenant) (a : Option Nat) : Nat :=
  let older := (s.recordsFor t).filter (fun r => match a with | none => true | some x => decide (x < s.recordAge r.num))
  match older.foldl (fun (b : Option FaultRecord) r => match b with
      | none => some r
      | some q => if s.recordAge r.num < s.recordAge q.num then some r else some q) none with
  | some r => r.num
  | none => 0xFFFF

/-- Whether ERR_N is asserted (R495). -/
def State.errN (s : State) : Bool :=
  s.faults.pending.any (fun p => (s.rd (ob (0x7100 + p.1) 0x03)).testBit 1)

/-- Whether TRAP_N is asserted (R496). -/
def State.trapN (s : State) : Bool :=
  s.faults.ring.any (fun p => p.2.state == 0 &&
    faultSources.any (fun f => p.2.bitmap.testBit f.1 && (s.rd (ob (0x7100 + f.1) 0x03)).testBit 2))

/-- The OPEN record of a domain. -/
def State.openRecord (s : State) (d : Tenant) : Option (Nat × FaultRecord) :=
  s.faults.ring.find? (fun p => p.2.state == 0 && p.2.domain == d)

/-! ### Events seen by a tenant -/

/-- Events that are never coalesced (Table 17-4). -/
def neverCoalesced (e : Nat) : Bool :=
  (e < 768 && (e % 12 == 1 || e % 12 == 2 || e % 12 == 3)) || (1200 ≤ e && e ≤ 1203) || e == 1224 || e == 1225 ||
    (1136 ≤ e && e ≤ 1145) || (1210 ≤ e && e ≤ 1214)

/-- Block of Table 17-1 by its row, from 0. -/
def eventBlock (e : Nat) : Nat :=
  if e < 768 then (if e % 12 = 0 ∨ e % 12 = 6 then 0 else if 9 ≤ e % 12 then 2 else 1)
  else if e < 816 then (if e % 12 = 7 ∨ e % 12 = 8 then 4 else if e % 12 = 11 then 5 else 3)
  else if e < 821 then 6 else if e < 826 then 7 else if e < 832 then 8
  else if e < 848 ∨ (944 ≤ e ∧ e < 948) then 9 else if e < 960 then 10
  else if e < 977 then 11 else if e < 1024 then 12 else if e < 1041 then 13 else if e < 1056 then 14
  else if e < 1067 then 15 else if e < 1072 then 16 else if e < 1136 then 17 else if e < 1146 then 18
  else if e < 1200 then 19 else 20

/-- Whether a number is defined in Tables 17-1 and 17-2. -/
def eventDefined (e : Nat) : Bool :=
  decide (e < 1280) && !([2, 5, 8, 10, 12, 14, 16, 19].contains (eventBlock e)) &&
    !((1205 ≤ e && e ≤ 1209) || (1215 ≤ e && e ≤ 1219) || e == 1222 || e == 1223 || (1227 ≤ e && e ≤ 1231) ||
      (1240 ≤ e && e ≤ 1247) || (1254 ≤ e && e ≤ 1279))

/-- Data length of an event, 0xFFFF where it varies (Table 17-3). -/
def eventLength (e : Nat) : Nat :=
  if e < 768 then
    (if e % 12 = 0 ∨ e % 12 = 6 then 4 else if e % 12 = 1 then 0xFFFF else if e % 12 = 2 then 32
     else if e % 12 = 5 then 4 else 2)
  else if e < 816 then 3
  else if 821 ≤ e ∧ e < 826 then 4 else if 944 ≤ e ∧ e < 948 then 4
  else if e = 835 ∨ e = 836 ∨ e = 837 ∨ e = 838 ∨ e = 840 then 4
  else if e = 965 then 4 else if e = 1040 then 3 else if e = 1030 ∨ e = 1031 ∨ e = 1032 ∨ e = 1033 then 9
  else if e = 1058 ∨ e = 1059 then 1 else if 1072 ≤ e ∧ e < 1136 then 5
  else if 1136 ≤ e ∧ e ≤ 1139 then 2 else if 1141 ≤ e ∧ e ≤ 1145 then 3
  else if 1210 ≤ e ∧ e ≤ 1214 then 1 else if 1200 ≤ e ∧ e ≤ 1202 then 64 else if e = 1203 then 1
  else if e = 1224 then 0xFFFF else if e = 1225 then 20 else if e = 1226 then 6
  else if 1232 ≤ e ∧ e ≤ 1239 then 2 else if e = 1248 then 1 else 0

/-- Events whose delivery set names the tenant on whose behalf a frame was sent. -/
def frameEvent (e : Nat) : Bool :=
  e == 835 || e == 836 || e == 837 || e == 838 || e == 840 || e == 845 || e == 965 || e == 1040

/-- Whether `t` could be in the delivery set of an instance raised now (R482). -/
def State.couldReceive (s : State) (t : Tenant) (e : Nat) : Bool :=
  eventDefined e && s.active t &&
    (if e < 768 then
      (match s.channelTenant (e / 12) with
       | some a => a == t
       | none => t.val == 0 && (e % 12 == 0 || e % 12 == 6))
     else if e < 816 then
      (t.val == 0 && (e % 12 == 7 || e % 12 == 8)) ||
        channels.any (fun c => (voiceOf c.val).val == (e - 768) / 12 && s.channelTenant c.val == some t)
     else if frameEvent e then true
     else if 821 ≤ e ∧ e < 826 ∨ 944 ≤ e ∧ e < 948 then true
     else if 1072 ≤ e ∧ e < 1136 then
      (match s.allottee 0x02 ((e - 1072) / 4) with
       | some a => a == t
       | none => t.val == 0)
     else if 1136 ≤ e ∧ e ≤ 1139 then true
     else if e = 1058 ∨ e = 1059 then t.val == 0 || s.rd (ob 0x5400 0x03) == t.val
     else if (1200 ≤ e ∧ e ≤ 1203) ∨ (1210 ≤ e ∧ e ≤ 1214 ∧ e ≠ 1211) ∨ e = 1220 ∨ (1224 ≤ e ∧ e ≤ 1226) ∨
        (1232 ≤ e ∧ e ≤ 1235) then true
     else t.val == 0)

/-- The catalogue entry (Table 17-5). -/
def State.catalogue (s : State) (t : Tenant) (e : Nat) : Octets :=
  u16 e ++ u8 (eventBlock e) ++ u8 (if eventDefined e then 1 else 0) ++
    u16 (if eventDefined e then eventLength e else 0) ++
    u8 ((if eventDefined e && !neverCoalesced e then 1 else 0) + (if s.couldReceive t e then 2 else 0)) ++ u8 0

/-! ### The mailbox (R343) -/

/-- A byte of a physical page's descriptor. -/
def Pocket.descByte (p : Pocket) (phys n : Nat) : Nat := (Mem.read p.desc (4 * phys + n)).toNat

/-- Whether a descriptor is well formed. -/
def Pocket.wellFormed (p : Pocket) (phys : Nat) : Bool := p.descByte phys 2 == (p.descByte phys 0) ^^^ 0xFF

/-- Whether generation `g` is newer than `h`. -/
def newerGen (g h : Nat) : Bool := 1 ≤ (g + 256 - h) % 256 && (g + 256 - h) % 256 ≤ 127

/-- The physical page of a logical page's committed copy. -/
def Pocket.copyOf (p : Pocket) (page : Nat) : Option Nat :=
  ((List.range 256).filter (fun q => p.wellFormed q && p.descByte q 3 == 0x3F && p.descByte q 0 == page)).foldl
    (fun (b : Option Nat) q => match b with
      | none => some q
      | some r => if newerGen (p.descByte q 1) (p.descByte r 1) then some q else some r) none

/-- The mailbox's committed view of a logical page, all 0xFF where there is none. -/
def State.mailPage (s : State) (page : Nat) : Octets :=
  match s.pocket.copyOf page with
  | some q => Mem.bytes s.pocket.mail (64 * q) 64
  | none => List.replicate 64 0xFF

/-! ### The views -/

/-- Handles of the tag table owned by `t`. -/
def State.ownTags (s : State) (t : Tenant) : List (Nat × Tag) :=
  s.tags.filter (fun p => p.2.owner == t && p.2.state != 0)

/-- The least of a list, or a default. -/
def leastOr (d : Nat) (l : List Nat) : Nat :=
  l.foldl (fun m x => if x < m then x else m) d

/-- Air views (Tables 9-9, 9-10). -/
def State.airView (s : State) (i sub : Nat) : Option Nat :=
  let b := s.rd (ob 0x4001 0x01)
  match i, sub with
  | 0x4001, 2 => some (leNat (s.bandRecord b))
  | 0x4001, 3 => some (ledgerSum s.air.dc b s.now % 2 ^ 32)
  | 0x4001, 4 => some (ledgerSum s.air.lbt b s.now % 2 ^ 32)
  | 0x4001, 5 => some (Tab.get (fun _ => 0) s.air.refusals b)
  | 0x4000, 6 => some s.air.slots.length
  | 0x4010, 2 => some (leNat (s.listEntry (s.rd (ob 0x4010 0x01))))
  | 0x4010, 3 => some (plan s.profile).length
  | 0x4020, 2 => some (match s.air.store.find? (fun p => p.1 == s.rd (ob 0x4020 0x01)) with
      | some p => leNat p.2 | none => 0)
  | 0x4020, 3 => some (s.air.store.filter (fun p => (byteAt p.2 5) % 2 == 1)).length
  | 0x4140, 2 => some (match s.mac.neighbours[s.rd (ob 0x4140 0x01)]? with
      | some n => leNat n.record | none => 0)
  | 0x4140, 3 => some s.mac.neighbours.length
  | _, _ => none

/-- Line and pocket views (Tables 11-9, 12-9). -/
def State.portView (s : State) (i sub : Nat) : Option Nat :=
  match i, sub with
  | 0x5040, 2 => some (match s.line.table.find? (fun p => p.1 == s.rd (ob 0x5040 0x01)) with
      | some p => leNat (Node.record p.1 p.2) | none => 0)
  | 0x5040, 3 => some (s.line.table.filter (fun p => p.2.state == 1)).length
  | 0x5400, 8 => some s.pocket.sessions
  | 0x5400, 9 => some s.pocket.failures
  | 0x5400, 0x0A => some s.pocket.fails
  | 0x5400, 0x0B => some s.pocket.refusals
  | 0x5400, 0x0C => some s.pocket.scrubbed
  | 0x5400, 0x0D => some s.pocket.done
  | 0x5400, 0x0E => some (s.pocket.erases.foldl (fun m p => max m p.2) 0)
  | _, _ => none

/-- Collector and router views of a tenant (Tables 17-5, 18-7, 18-8, 13-15, 13-16). -/
def State.ownView (s : State) (t : Tenant) (i sub : Nat) : Option Nat :=
  let box := s.router.boxes[t]
  match i, sub with
  | 0x1040, 1 => some (s.charges.foldl (fun n p => if p.2 = t then n + Dict.bits p.1 / 8 + 4 else n) 0)
  | 0x1040, 2 => some (s.rd (ob (0x9010 + t.val) 0x05))
  | 0x1040, 7 => some (match s.svc.blocks[t] with | none => 0 | some b => if b.write then 2 else 1)
  | 0x3000, 1 => some (s.tags.filter (fun p => p.2.state != 0)).length
  | 0x3000, 2 => some (s.ownTags t).length
  | 0x3020, 2 => some (match (s.ownTags t).find? (fun p => p.1 == s.rd (obT 0x3020 0x01 t)) with
      | some p => leNat (Tag.record p.1 p.2) | none => 0)
  | 0x3020, 3 => some (let c := s.rd (obT 0x3020 0x01 t)
      leastOr 0xFFFF (((s.ownTags t).filter (fun p => decide (c < p.1))).map (·.1)))
  | 0x7010, 1 => some (sourceBitmap (s.pendingFor t))
  | 0x7010, 2 => some (sourceBitmap (s.causesFor t))
  | 0x7010, 5 => some (match s.openRecord t with | some p => p.2.num | none => 0xFFFF)
  | 0x7010, 6 => some (s.pendingFor t).eraseDups.length
  | 0x7020, 2 => some (match (s.recordsFor t).find? (fun r => r.num == s.rd (obT 0x7020 0x01 t)) with
      | some r => leNat r.record | none => 0)
  | 0x7020, 3 => some (let c := s.rd (obT 0x7020 0x01 t)
      s.nextRecord t (if c = 0xFFFF then none else some (s.recordAge c)))
  | 0x7400, 4 => some box.queue.length
  | 0x7400, 5 => some box.queued
  | 0x7400, 6 => some box.masked
  | 0x7400, 7 => some box.coalesced
  | 0x7400, 8 => some box.lost
  | 0x7400, 9 => some box.nextSeq
  | 0x7400, 0x0A => some (match box.queue with | [] => 0 | q :: _ => q.stamp)
  | 0x7410, 2 => some (leNat (s.catalogue t (s.rd (obT 0x7410 0x01 t))))
  | 0x1041, n => if n = 0 then none else
      some (match box.subs.find? (fun e => e.entry + 1 == n) with | some e => leNat e.record | none => 0)
  | _, _ => none

/-- Channel status (Table 3-6): the highest code that applies. -/
def State.channelStatus (s : State) (ch : Nat) : Nat :=
  let vs := s.rd (ob (0x2000 + ch / 16) 0x01)
  if (s.channelTenant ch).isNone then 4
  else if !s.isOn (ob (0x2100 + ch) 0x02) then 3
  else if vs = 7 ∨ vs = 8 ∨ s.isOn (ob (0x2000 + ch / 16) 0x03) = false then 2
  else if s.rd (ob (0x2100 + ch) 0x0A) = 0 then 1 else 0

/-- Whole-machine views. -/
def State.sharedView (s : State) (i sub : Nat) : Option Nat :=
  match i, sub with
  | 0x1100, 1 => some s.now
  | 0x1100, 2 => some s.increment
  | 0x1010, 6 => some (if 2 ≤ s.rd (ob 0x1010 0x06) then s.rd (ob 0x1010 0x06)
      else if s.rd (ob 0x1010 0x01) = s.rd (ob 0x1010 0x02) ∧
        (s.rd (ob 0x1010 0x03) = s.rd (ob 0x1010 0x04) ∨
          (s.rd (ob 0x1010 0x04) = 2 ∧ s.rd (ob 0x1010 0x03) = 0)) ∧ s.mac.scan.all (fun x => !x.asCoord) then 0 else 1)
  | 0x7000, 1 => some (if s.errN then 1 else 0)
  | 0x7000, 2 => some (if s.trapN then 1 else 0)
  | 0x7000, 3 => some (s.faults.ring.filter (fun p => p.2.state == 0)).length
  | 0x7500, 4 => some (Die.all.foldl (fun n d => if s.linkReady d then n + 2 ^ d.link.val else n) 0)
  | 0x9000, 4 => some (tenants.foldl (fun n t => if s.tenantState t = 0 then n else n + 2 ^ t.val) 0)
  | 0x9000, 6 => some (tenants.foldl (fun n t => n + s.rd (ob (0x9010 + t.val) 0x04)) 0)
  | _, _ =>
    if 0x8000 ≤ i ∧ i ≤ 0x800F ∧ sub = 6 then
      some (s.metroCount ⟨(i - 0x8000) % 16, Nat.mod_lt _ (by decide)⟩ s.now % 2 ^ 32)
    else if 0x2100 ≤ i ∧ i ≤ 0x213F ∧ sub = 3 then some (s.channelStatus (i - 0x2100))
    else if 0x7101 ≤ i + 1 ∧ i ≤ 0x71BF ∧ sub = 4 then
      some (s.faults.pending.foldl (fun n p => if p.1 = i - 0x7100 then n ||| 2 ^ p.2 else n) 0)
    else if 0x7101 ≤ i + 1 ∧ i ≤ 0x71BF ∧ sub = 5 then
      some (s.faults.causes.foldl (fun n p => if p.1 = i - 0x7100 then n ||| 2 ^ p.2.1 else n) 0)
    else if 0x7101 ≤ i + 1 ∧ i ≤ 0x71BF ∧ sub = 9 then
      some (s.faults.resets.filter (fun p => p.1 == i - 0x7100 && decide (s.now < p.2 + 3600000000))).length
    else if 0x9020 ≤ i ∧ i ≤ 0x9027 ∧ sub = 6 then some (ledgerSum s.air.tenantAir (i - 0x9020) s.now)
    else if 0x9020 ≤ i ∧ i ≤ 0x9027 ∧ sub = 0x0A then
      some (channels.foldl (fun n c => if s.rd (ob (0x2100 + c.val) 0x01) = i - 0x9020 then n + 2 ^ c.val else n) 0)
    else if 0x9020 ≤ i ∧ i ≤ 0x9027 ∧ sub = 0x0B then
      some (s.router.boxes[(⟨(i - 0x9020) % 8, Nat.mod_lt _ (by decide)⟩ : Tenant)].queue.length)
    else if 0x7501 ≤ i ∧ i ≤ 0x7504 ∧ sub = 4 then
      some (s.links[(⟨(i - 0x7501) % 4, Nat.mod_lt _ (by decide)⟩ : Fin 4)].tags.length)
    else none

/-- The key under which tenant `t` reaches an object (R372). -/
def keyFor (t : Tenant) (i sub : Nat) : Nat :=
  match Dict.row? i sub with
  | some r => if r.per then obT i sub t else ob i sub
  | none => ob i sub

/-- The value of an object as tenant `t` reads it. -/
def State.live (s : State) (t : Tenant) (i sub : Nat) : Nat :=
  match s.sharedView i sub with
  | some v => v
  | none =>
    match s.ownView t i sub with
    | some v => v
    | none =>
      match s.airView i sub with
      | some v => v
      | none =>
        match s.portView i sub with
        | some v => v
        | none => s.rd (keyFor t i sub)

/-- The bytes of an object as tenant `t` reads it (R4, R369). -/
def State.valueBytes (s : State) (t : Tenant) (i sub : Nat) : Octets :=
  match Dict.row? i sub with
  | none => if Dict.reserved i sub then [0] else []
  | some r => if i = 0x5410 ∧ sub = 2 then s.mailPage (s.rd (ob 0x5410 0x01)) else leBytes r.ty.bytes (s.live t i sub)

end Sys2Proof.Machine
end

