-- ==== Sys2Proof/Machine/Events.lean ====
section
/-! DEFINITION. The event router (chapter 17): delivery to ACTIVE tenants, score triggers and start links, masking,
coalescing, overflow, sequence numbers, ON_EVENT and ON_CHANGE notifications. An event touches the router, the score
triggers, the metronomes it starts and the NVA order (a sequence reservation), and nothing else. -/

namespace Sys2Proof.Machine

/-! ### Starting a metronome (R458) -/

/-- The instant S of a START at write instant `w` (R458): now, the start time, or its grid. -/
def State.startInstant (s : State) (m : MetroId) (w : Nat) : Nat :=
  let st := s.rd (ob (0x8000 + m.val) 0x0B)
  let p := s.rd (ob (0x8000 + m.val) 0x04) * s.metroUnit m
  if st = 0 then w else if w ≤ st then st else st + ceilDiv (w - st) p * p

/-- The start of a metronome at S (R452, R456, R458). -/
def State.metroRun (s : State) (m : MetroId) (at_ : Nat) : State :=
  let i := 0x8000 + m.val
  let p := s.rd (ob i 0x04)
  let up := s.rd (ob i 0x02) == 2
  let s := s.wrAll [(ob i 0x01, 2), (ob i 0x05, p), (ob i 0x07, if up then 1 else 0), (ob i 0x0A, s.rd (ob i 0x08))]
  s.setMetro m (fun x => { x with base := if up then 0 else p, since := at_, wrap := none })

/-- Whether a stride forbids starting: TRIANGLE with a stride that is not 0 (R457). -/
def State.strideBlocks (s : State) (m : MetroId) : Bool :=
  s.rd (ob (0x8000 + m.val) 0x02) == 2 && s.rd (ob (0x8000 + m.val) 0x09) != 0

/-- START from STOPPED with write instant `w`; `aligned` is whether the start time counts (R458). -/
def State.metroArm (s : State) (m : MetroId) (w : Nat) (aligned : Bool) : State :=
  let i := 0x8000 + m.val
  let si := if aligned then s.startInstant m w else w
  if s.strideBlocks m then s
  else if w < si then
    (s.wrAll [(ob i 0x01, 1), (ob i 0x0A, s.rd (ob i 0x08))]).setMetro m (fun x => { x with armed := si, wrap := none })
  else s.metroRun m si

/-- START: no effect unless STOPPED. -/
def State.metroStart (s : State) (m : MetroId) (w : Nat) : State :=
  if s.rd (ob (0x8000 + m.val) 0x01) = 0 then s.metroArm m w true else s

/-- RESTART: a start at the write instant (R458). -/
def State.metroRestart (s : State) (m : MetroId) (w : Nat) : State :=
  if s.strideBlocks m then s else s.metroRun m w

/-- STOP: the counter holds its value, a pending wrap is discarded. -/
def State.metroStop (s : State) (m : MetroId) (w : Nat) : State :=
  let i := 0x8000 + m.val
  if s.rd (ob i 0x01) = 0 then s
  else
    let c := s.metroCount m w
    (s.wr (ob i 0x01) 0).setMetro m (fun x => { x with base := c, since := w, wrap := none })

/-- A metronome stopped and back at its defaults (R466). -/
def State.metroDefaults (s : State) (m : MetroId) : State :=
  let i := 0x8000 + m.val
  (((List.range 0x11).map (· + 1)).foldl (fun s n => if n = 0x0E then s else s.reset1 (ob i n)) s).setMetro m
    (fun _ => { base := 0, since := 0, armed := 0, wrap := none })

/-- Start links of tenant `t` on event `e` (R459): a metronome source acts at its scheduled instant, any other at the write
instant. -/
def State.links1 (s : State) (t : Tenant) (e stamp : Nat) : State :=
  metronomes.foldl (fun s m =>
    if s.metroTenant m == some t && s.rd (ob (0x8000 + m.val) 0x0C) == e then
      let w := if 1072 ≤ e ∧ e < 1136 then stamp else s.now
      if s.rd (ob (0x8000 + m.val) 0x0D) = 1 then s.metroRestart m w else s.metroStart m w
    else s) s

/-! ### Queueing -/

/-- Numbers left in the committed block (R472). -/
def Mailbox.left (b : Mailbox) : Nat := (b.seqEnd + 65536 - b.nextSeq) % 65536

/-- The tenant's routes when an event is queued (R20, R32). -/
def State.routes (s : State) (t : Tenant) : Nat := s.rd (ob 0x1030 (t.val + 1)) % 8

/-- The next sequence number where the block has one left. -/
def Mailbox.number (b : Mailbox) : Option Nat × Mailbox :=
  if b.left = 0 then (none, b) else (some b.nextSeq, { b with nextSeq := (b.nextSeq + 1) % 65536 })

/-- An event lost to overflow: counted, and recorded in the marker (R478, R479). -/
def Mailbox.lose (b : Mailbox) (e stamp : Nat) : Mailbox :=
  { b with
    lost := b.lost + 1
    marker := some (match b.marker with
      | none => { first := e, since := stamp, count := 1, last := stamp }
      | some m => { m with count := satInc 0xFFFF m.count, last := stamp }) }

/-- An event put at the tail with its number; an event that no route takes leaves at once but keeps its number (R20). While the block of
numbers is used up and its next one is not committed (R472), such an event leaves at once without a number and uses none: R20 and R472
do not say which of them gives way. (DESIGN CHOICE, log entry 52.) -/
def Mailbox.append (b : Mailbox) (e stamp : Nat) (data : Octets) (routes : Nat) : Mailbox :=
  let (n, b) := b.number
  let b := { b with queued := b.queued + 1 }
  if routes = 0 then b
  else { b with queue := b.queue ++ [{ seq := n, event := e, stamp := stamp, data := data, routes := routes,
                                       touched := false }] }

/-- The bit of an event in a bitmap object. -/
def State.eventBit (s : State) (t : Tenant) (sub e : Nat) : Bool := (s.rd (obT 0x7400 sub t)).testBit e

/-- Tenant `t`'s mailbox after the event is offered to it (R476 to R479), and whether it was queued. (DEDUCED, log entry 52.) -/
def State.offer (s : State) (t : Tenant) (e stamp : Nat) (data : Octets) : Mailbox × Bool :=
  let b := s.router.boxes[t]
  if s.eventBit t 0x01 e then ({ b with masked := b.masked + 1 }, false)
  else if s.eventBit t 0x02 e && b.queue.any (fun q => q.event == e && !q.touched) then
    ({ b with coalesced := b.coalesced + 1,
              queue := b.queue.map (fun q => if q.event == e && !q.touched then { q with stamp := stamp, data := data } else q) },
      true)
  else if 64 ≤ b.queue.length then
    if s.rd (obT 0x7400 0x03 t) = 1 then
      match b.queue with
      | [] => (b.append e stamp data (s.routes t), true)
      | q :: r => (({ b with queue := r }.lose q.event q.stamp).append e stamp data (s.routes t), true)
    else (b.lose e stamp, false)
  else (b.append e stamp data (s.routes t), true)

/-- A reservation entered in the NVA order when an event waits for a number (R472). -/
def State.reserve (s : State) (t : Tenant) : State :=
  if s.router.boxes[t].left = 0 && !s.router.boxes[t].reserving then
    (s.setBox t (fun b => { b with reserving := true })).commit .counters
  else s

/-- The event offered to a tenant's queue. -/
def State.enqueue (s : State) (t : Tenant) (e stamp : Nat) (data : Octets) : State × Bool :=
  let (b, q) := s.offer t e stamp data
  ((s.setBox t (fun _ => b)).reserve t, q)

/-- The notification of an entry (R394): E1224 with entry, object and value; its count in the entry. -/
def State.notify (s : State) (t : Tenant) (e : Sub) (stamp : Nat) : State :=
  let v := s.valueBytes t e.index e.sub
  let s := s.setBox t (fun b => { b with subs := b.subs.map (fun x => if x.entry = e.entry then
    { x with count := (x.count + 1) % 2 ^ 32, told := some (leNat v), toldAt := s.now, held := false } else x) })
  (s.enqueue t 1224 stamp (u8 e.entry ++ u16 e.index ++ u8 e.sub ++ v)).1

/-- Score triggers of tenant `t` on event `e` (R153, R471): the score starts or counts an overrun when it is acted on. -/
def State.triggers (s : State) (t : Tenant) (e : Nat) : State :=
  scoreIds.foldl (fun s i =>
    if s.scoreTenant i == some t && s.rd (ob (0xA000 + i.val) 0x03) == 1 && s.rd (ob (0xA000 + i.val) 0x04) == e then
      s.setScore i (fun x => { x with triggers := x.triggers + 1 })
    else s) s

/-- ON_EVENT entries of tenant `t` on an event just queued (R394). -/
def State.onEvent (s : State) (t : Tenant) (e stamp : Nat) : State :=
  (s.router.boxes[t].subs.filter (fun x => x.kind == 2 && x.event == e)).foldl (fun s x => s.notify t x stamp) s

/-- One tenant's share of an event whose links have acted: triggers, queue, ON_EVENT entries (R394, R469 to R471). -/
def State.deliverQueue (s : State) (t : Tenant) (e stamp : Nat) (data : Octets) : State :=
  let (s, q) := (s.triggers t e).enqueue t e stamp data
  if q then s.onEvent t e stamp else s

/-- One tenant's share of an event: its start links, then the rest. -/
def State.deliver (s : State) (t : Tenant) (e stamp : Nat) (data : Octets) : State :=
  (s.links1 t e stamp).deliverQueue t e stamp data

/-- An event of stamp `stamp` to a delivery set: to its ACTIVE members in ascending order, or held until the conductor's
start is complete (R469, R484). -/
def State.raiseAt (s : State) (e : Nat) (to_ : List Tenant) (data : Octets) (stamp : Nat) : State :=
  let set := tenants.filter (fun t => to_.contains t && s.active t)
  if s.up then set.foldl (fun s t => s.deliver t e stamp data) s
  else { s with router := { s.router with held := s.router.held ++ [{ event := e, dests := set, data := data, stamp := stamp }] } }

/-- An event raised now. -/
def State.raise (s : State) (e : Nat) (to_ : List Tenant) (data : Octets) : State := s.raiseAt e to_ data s.now

/-- The house tenant. -/
def t0 : Tenant := 0

/-- T0 and another tenant. -/
def withT0 (t : Tenant) : List Tenant := [t0, t]

/-- T0 and perhaps another tenant. -/
def andT0 : Option Tenant → List Tenant
  | some t => [t0, t]
  | none => [t0]

/-! ### ON_CHANGE entries (R393) -/

/-- Whether a value meets the deadband against the last notified one. -/
def Sub.meets (e : Sub) (v : Nat) : Bool :=
  match e.told with
  | none => true
  | some p =>
    match Dict.row? e.index e.sub with
    | none => true
    | some r =>
      if r.ty.numeric then
        match r.ty with
        | .i8 | .i16 | .i32 | .i64 | .q _ _ =>
          decide (e.deadband ≤ (toSigned (8 * r.ty.bytes) v - toSigned (8 * r.ty.bytes) p).natAbs)
        | _ => decide (e.deadband ≤ (if p ≤ v then v - p else p - v))
      else true

/-- One entry judged against the value now in force: a change that meets the deadband is notified, or held within the
interval. (DEDUCED, log entry 52.) -/
def State.judge (s : State) (t : Tenant) (e : Sub) : State :=
  let v := s.live t e.index e.sub
  if e.kind = 1 ∧ e.seen ≠ some v then
    let s' := s.setBox t (fun b => { b with subs := b.subs.map (fun x => if x.entry = e.entry then
      { x with seen := some v } else x) })
    if e.told.isSome && decide (s.now < e.toldAt + e.interval * 1000000) then
      let s' := s'.setBox t (fun b => { b with subs := b.subs.map (fun x => if x.entry = e.entry then
        { x with held := true } else x) })
      s'
    else if e.meets v then s'.notify t { e with seen := some v } s.now
    else s'
  else s

/-- Every ON_CHANGE entry judged after a command; nothing is judged before the start is complete. -/
def State.settle (s : State) : State :=
  if s.up then
    tenants.foldl (fun s t => s.router.boxes[t].subs.foldl (fun s e => s.judge t e) s) s
  else s

/-- The end of a command's effect: subscriptions are judged and the next state answered. -/
def done (s : State) : Result := .next s.settle

/-! ### Leaving the queue -/

/-- An entry freed by acceptance or fetch takes the open marker, on which ON_EVENT entries act as on any queued event (R394, R479). -/
def State.freed (s : State) (t : Tenant) : State :=
  match s.router.boxes[t].marker with
  | none => s
  | some m =>
    (((s.setBox t (fun b => { b with marker := none }.append 1225 s.now
      (u16 m.count ++ u16 m.first ++ u64 m.since ++ u64 m.last) (s.routes t)))).reserve t).onEvent t 1225 s.now

/-- A route (bit of Table 1-4) has accepted the event of a sequence number; the event leaves when every selected route has
(R20). -/
def State.accept (s : State) (t : Tenant) (seq route : Nat) : State :=
  let n := s.router.boxes[t].queue.length
  let s := s.setBox t (fun b => { b with queue := (b.queue.map (fun q => if q.seq = some seq then
      { q with routes := if q.routes.testBit route then q.routes - 2 ^ route else q.routes } else q)).filter (fun q => q.routes != 0) })
  if s.router.boxes[t].queue.length < n then s.freed t else s

/-- An event read by the driver leaves the queue (R20, R387). -/
def State.readEvent (s : State) (t : Tenant) (seq : Nat) : State :=
  (s.setBox t (fun b => { b with queue := b.queue.filter (fun q => q.seq != some seq) })).freed t

end Sys2Proof.Machine
end

