-- ==== Sys2Proof/Machine/FaultOps.lean ====
section
/-! DEFINITION. The fault collector's shared operations (chapter 18): raising and merging, records and their ring, leaving
OPEN, causes, and clearing; and the wake that a raise gives (Table 21-3). -/

namespace Sys2Proof.Machine

/-! ### Running states -/

/-- Entry to a running state (R561, R562, R567): the time spent in the last one is added to its object. -/
def State.setRun (s : State) (n : Nat) : State :=
  let last := s.runState
  let s := if 1 ≤ last ∧ last ≤ 3 then s.add (ob 0x1070 (0x04 + last)) (s.now - s.power.enteredAt) else s
  let w := s.now
  let s := s.wrAll [(ob 0x1020 0x01, n), (ob 0x1020 0x02, w)]
  let s := { s with power := { s.power with enteredAt := w } }
  s.raise 1248 [t0] (u8 n)

/-- Whether any channel has card detection enabled. -/
def State.detecting (s : State) : Bool := channels.any (fun c => s.isOn (ob (0x2500 + c.val) 0x01))

/-- Whether the 27.12 MHz oscillator is stopped (R561). -/
def State.osc27Stopped (s : State) : Bool := s.runState == 3 || (s.runState == 2 && !s.detecting)

/-- The tempo meter at an entry to Running (R42): the first measurement takes the first whole tick that begins after it. -/
def State.openGate (s : State) : State := { s with time := { s.time with gate := some (s.time.ticks + 2) } }

/-- A wake source takes the block to Running (R563): the core voltage returns to its value when Running was last left (R43),
a stopped oscillator restarts within 500 µs (R35), and the tempo is measured after the entry (R42). -/
def State.wakeBy (s : State) (source : Nat) : State :=
  if s.runState = 2 ∨ s.runState = 3 then
    let s := if s.osc27Stopped then
        { s with time := { s.time with restart := true } }.armIn .osc27 500 else s
    let s := s.wrAll [(ob 0x1080 0x04, source), (ob 0x1080 0x05, s.now), (ob 0x1110 0x06, s.time.resumeMv)]
    (s.setRun 1).openGate
  else s

/-! ### Causes -/

/-- Whether a source's cause is present in a domain. -/
def State.causeIn (s : State) (f : Nat) (d : Tenant) : Bool := s.faults.causes.any (fun c => c.1 == f && c.2.1 == d.val)

/-- A cause gone, in every domain. -/
def State.causeEnd (s : State) (f : Nat) : State :=
  { s with faults := { s.faults with causes := s.faults.causes.filter (fun c => c.1 != f) } }

/-- A cause of one key (kind and target of R204) gone. -/
def State.causeEndKey (s : State) (f key : Nat) : State :=
  { s with faults := { s.faults with causes := s.faults.causes.filter (fun c => !(c.1 == f && c.2.2 == key)) } }

/-- A cause present. -/
def State.causeBegin (s : State) (f : Nat) (d : Tenant) (key : Nat) : State :=
  { s with faults := { s.faults with causes := (f, d.val, key) :: s.faults.causes.filter (· != (f, d.val, key)) } }

/-- Whether a source is pending in a domain. -/
def State.isPending (s : State) (f : Nat) (d : Tenant) : Bool := s.faults.pending.contains (f, d.val)

/-! ### Records -/

/-- The reaction byte of a source. -/
def State.reaction (s : State) (f : Nat) : Nat := s.rd (ob (0x7100 + f) 0x03)

/-- One record changed on its page. -/
def State.setRecord (s : State) (page : Nat) (f : FaultRecord → FaultRecord) : State :=
  { s with faults := { s.faults with ring := s.faults.ring.map (fun p => if p.1 = page then (p.1, f p.2) else p) } }

/-- The oldest page among records of a state. -/
def State.oldestPage (s : State) (st : Nat) : Option Nat :=
  ((s.faults.ring.filter (fun p => p.2.state == st)).foldl (fun (b : Option (Nat × FaultRecord)) p => match b with
    | none => some p
    | some q => if s.recordAge q.2.num < s.recordAge p.2.num then some p else some q) none).map (·.1)

/-- The page a new record takes (R504), and whether a PENDING record is overwritten. -/
def State.newPage (s : State) : Nat × Bool :=
  match (List.range 256).find? (fun p => !s.faults.ring.any (fun q => q.1 == p)) with
  | some p => (p, false)
  | none =>
    match s.oldestPage 2 with
    | some p => (p, false)
    | none =>
      match s.oldestPage 1 with
      | some p => (p, true)
      | none => (0, true)

/-- Reset bits (0 to 3 the blocks, 4 the chip) that a raise of `f` in domain `d` takes, and whether a limit suppressed them
(R493, R499, R500); `ever` are the bits the open record has taken. -/
def State.resetBits (s : State) (f : Nat) (d : Tenant) (ever : Nat) : Nat × Bool :=
  let r := s.reaction f
  if d.val ≠ 0 then (0, false)
  else
    let want := if r.testBit 4 then (if ever.testBit 4 then 0 else 16)
      else if r.testBit 3 ∧ faultBlock f ≠ 0 then
        (if ever.testBit 4 || ever.testBit (faultBlock f - 1) then 0 else 2 ^ (faultBlock f - 1))
      else 0
    if want = 0 then (0, false)
    else
      let n := (s.faults.resets.filter (fun p => p.1 == f && decide (s.now < p.2 + 3600000000))).length
      if s.rd (ob 0x7000 0x06) ≤ n then (0, true) else (want, false)

/-- A taken reset counted (R500). -/
def State.countReset (s : State) (f bits : Nat) : State :=
  if bits = 0 then s
  else { s with faults := { s.faults with resets := (f, s.now) :: s.faults.resets.filter (fun p => decide (s.now < p.2 + 3600000000)) } }

/-- Reactions of a raise as byte 6 records them: the IRQ, ERR and TRAP bits, and the reset bit that was taken. -/
def takenBits (reaction bits : Nat) : Nat :=
  reaction % 8 + (if bits = 0 then 0 else if bits = 16 then 16 else 8)

/-- Delivery set of fault events: T0 and the domain's tenant (Table 17-2). -/
def faultSet (d : Tenant) : List Tenant := withT0 d

/-- The record of a raise formed or merged (R494, R498, R499); `stamp` is the instant of the first assertion. (DEDUCED, log entry 27.) -/
def State.formRecord (s : State) (f : Nat) (d : Tenant) (detail stamp : Nat) : State :=
  match s.openRecord d with
  | none =>
    let (bits, supp) := s.resetBits f d 0
    let (page, lost) := s.newPage
    let r : FaultRecord :=
      { num := s.faults.nextNum, source := f, domain := d, state := 0, reactions := takenBits (s.reaction f) bits,
        flags := if supp then 2 else 0, raisedAt := stamp, detail := detail, merged := 0, mergedAt := 0, clearedAt := 0,
        bitmap := 2 ^ f, acked := false, resets := bits, asked := 0 }
    let s := if lost then s.inc (ob 0x7000 0x08) else s
    let s := { s with faults := { s.faults with ring := (page, r) :: s.faults.ring.filter (fun p => p.1 != page),
                                                nextNum := (s.faults.nextNum + 1) % 65536 } }
    let s := ((s.inc (ob 0x7000 0x04)).wr (ob 0x7000 0x09) r.num).countReset f bits
    let s := (s.arm (.handling d) (stamp + s.rd (ob 0x7000 0x05))).commit (.fault page)
    if (s.reaction f).testBit 0 then s.raise 1200 (faultSet d) r.record else s
  | some (page, r) =>
    let (bits, supp) := s.resetBits f d (r.asked ||| r.resets)
    let r' := { r with bitmap := r.bitmap ||| 2 ^ f, merged := satInc 0xFFFF r.merged, mergedAt := s.now,
                       reactions := r.reactions ||| takenBits (s.reaction f) bits,
                       flags := if supp then r.flags ||| 2 else r.flags, resets := r.resets ||| bits }
    let s := (s.setRecord page (fun _ => r')).countReset f bits
    let s := if bits = 0 then s else s.commit (.fault page)
    if (s.reaction f).testBit 0 then s.raise 1201 (faultSet d) r'.record else s

/-- Sources whose cause is never present after the raise (Table 18-1). -/
def momentary (f : Nat) : Bool := f == 1 || f == 96

/-- A source's cause becomes present in a domain (R490): a repeat is only counted; a raise is latched, and its record formed
at once or, before the conductor's start is complete, after it (R509). `key` is the kind and target of R204, else 0. -/
def State.faultKeyed (s : State) (f : Nat) (d : Tenant) (detail key : Nat) : State :=
  let s := (s.inc (ob (0x7100 + f) 0x06)).wr (ob (0x7100 + f) 0x08) detail
  let s := if momentary f then s else s.causeBegin f d key
  if s.isPending f d then s
  else
    let s := s.wr (ob (0x7100 + f) 0x07) s.now
    let s := { s with faults := { s.faults with pending := s.faults.pending ++ [(f, d.val)] } }
    let s := s.wakeBy 8
    if s.up then s.formRecord f d detail s.now
    else { s with faults := { s.faults with latched := s.faults.latched ++ [(f, d.val, detail, s.now)] } }

/-- A fault in T0's domain (R489). -/
def State.fault (s : State) (f detail : Nat) : State := s.faultKeyed f t0 detail 0

/-- Raises latched during a reset or start formed into records (R509). (DEDUCED, log entry 27.) -/
def State.formLatched (s : State) : State :=
  let l := s.faults.latched
  l.foldl (fun s x => match tenant? x.2.1 with
    | some d => s.formRecord x.1 d x.2.2.1 x.2.2.2
    | none => s) { s with faults := { s.faults with latched := [] } }

/-! ### Leaving OPEN and clearing -/

/-- Whether any source of a record is still pending in its domain. -/
def State.recordLive (s : State) (r : FaultRecord) : Bool :=
  s.faults.pending.any (fun p => p.2 == r.domain.val && r.bitmap.testBit p.1)

/-- A record becomes CLEARED, is committed and, if its first source has IRQ, announced (R501). -/
def State.clearRecord (s : State) (page : Nat) (r : FaultRecord) : State :=
  let r' := { r with state := 2, clearedAt := s.now }
  let s := (s.setRecord page (fun _ => r')).commit (.fault page)
  if (s.reaction r.source).testBit 0 then s.raise 1202 (faultSet r.domain) r'.record else s

/-- The OPEN record of a domain leaves OPEN once its resets are released and it is acknowledged (R497, R501). -/
def State.leaveOpen (s : State) (d : Tenant) : State :=
  match s.openRecord d with
  | none => s
  | some (page, r) =>
    if r.resets = 0 ∧ r.acked = true then
      if s.recordLive r then (s.setRecord page (fun r => { r with state := 1 })).commit (.fault page)
      else s.clearRecord page r
    else s

/-- PENDING records without a pending source become CLEARED (R501). -/
def State.clearRecords (s : State) : State :=
  s.faults.ring.foldl (fun s p => if p.2.state = 1 ∧ s.recordLive p.2 = false then s.clearRecord p.1 p.2 else s) s

/-- A reset of block bits `bits` (bit 4 the chip) has been released (R497). -/
def State.resetReleased (s : State) (bits : Nat) : State :=
  let s := { s with faults := { s.faults with ring := s.faults.ring.map (fun p =>
    (p.1, { p.2 with resets := if bits.testBit 4 then 0 else p.2.resets - (p.2.resets &&& bits) })) } }
  tenants.foldl (fun s d => s.leaveOpen d) s

/-- Sources named by a clear: one, or every one (R501). -/
def clearList (n : Nat) : List Nat := if n = 0xFF then faultSources.map (·.1) else [n]

/-- Whether a source was raised in a domain in this very microsecond: a clear then takes effect before the raise (R511). -/
def State.raisedNow (s : State) (p : Nat × Nat) : Bool :=
  s.rd (ob (0x7100 + p.1) 0x07) == s.now && decide (0 < s.now) &&
    (s.faults.ring.any (fun q => q.2.domain.val == p.2 && q.2.bitmap.testBit p.1 && q.2.state == 0 &&
        (q.2.raisedAt == s.now || q.2.mergedAt == s.now)) ||
      s.faults.latched.any (fun l => l.1 == p.1 && l.2.1 == p.2 && l.2.2.2 == s.now))

/-- Pending sources that a clear of `n` by tenant `t` acts on. -/
def State.clearNamed (s : State) (t : Tenant) (n : Nat) : List (Nat × Nat) :=
  s.faults.pending.filter (fun p => (clearList n).contains p.1 && (t.val == 0 || p.2 == t.val) && !s.raisedNow p)

/-- Whether a pending source may not be cleared: its cause is present, or for NVA_WRITE_FAULT a checkpoint's commit has failed and none
has succeeded since (R41). -/
def State.clearHeld (s : State) (p : Nat × Nat) : Bool :=
  s.faults.causes.any (fun c => c.1 == p.1 && c.2.1 == p.2) || (p.1 == 1 && s.ckpt.failed)

/-- Sources cleared by a clear of `n` by tenant `t` (R501, R511). -/
def State.clearable (s : State) (t : Tenant) (n : Nat) : List (Nat × Nat) :=
  (s.clearNamed t n).filter (fun p => !s.clearHeld p)

/-- Whether a clear leaves a named source pending: it then ends with CAUSE_PRESENT (R501). -/
def State.clearBlocked (s : State) (t : Tenant) (n : Nat) : Bool := (s.clearNamed t n).any s.clearHeld

/-- The clear itself (R501). -/
def State.clearSources (s : State) (t : Tenant) (n : Nat) : State :=
  let gone := s.clearable t n
  let s := { s with faults := { s.faults with pending := s.faults.pending.filter (fun p => !gone.contains p) } }
  s.clearRecords

end Sys2Proof.Machine
end

