-- ==== Sys2Proof/Machine/Flags.lean ====
section
/-! DEFINITION. Flag and pin computations: the host status byte (Table 13-6), the event-pending bitmap, HOST_IRQ_N (R387),
which routes are up (Table 1-4), and the air quality record's flags (Table 9-5). -/

namespace Sys2Proof.Machine

/-- Replies submitted over the host port and not yet fetched (R387). -/
def State.hostOutstanding (s : State) : Nat :=
  tenants.foldl (fun n t => n + (s.svc.queues[t].filter (fun j => j.req.transport == .host && j.phase != .replied)).length) 0 +
    (s.svc.replies.filter (fun r => r.req.transport == .host)).length + (s.svc.inbound.filter (fun a => a.transport == .host)).length

/-- The reply the next FETCH_REPLY takes (R387). -/
def State.hostReply (s : State) : Option Reply := s.svc.replies.find? (fun r => r.req.transport == .host)

/-- Events that the host may fetch: numbered, of a tenant whose HOST route bit is set (R387, R472). -/
def State.hostEvents (s : State) (t : Tenant) : List QEvent :=
  if (s.routes t).testBit 2 then s.router.boxes[t].queue.filter (fun q => q.seq.isSome) else []

/-- EVENT_PENDING bitmap (Table 13-5): bit n for Tn. -/
def State.eventBitmap (s : State) : Nat :=
  tenants.foldl (fun n t => if (s.hostEvents t).isEmpty then n else n + 2 ^ t.val) 0

/-- The status byte (Table 13-6): 0x00 until the conductor runs (R388). -/
def State.statusByte (s : State) : Nat :=
  if !s.up || s.runState != 1 then 0
  else 128 + (if s.host.resetSeen then 32 else 0) + (if s.errN then 16 else 0) + (if s.host.lastError then 8 else 0) +
    (if 4 ≤ s.hostOutstanding then 4 else 0) + (if s.eventBitmap = 0 then 0 else 2) +
    (if s.hostReply.isSome then 1 else 0)

/-- Whether HOST_IRQ_N is asserted (R387, Table 19-4): not while a reset reaches the conductor. -/
def State.hostIrq (s : State) : Bool :=
  s.up && s.isOn (ob 0x1060 0x06) && (s.eventBitmap != 0 || s.hostReply.isSome)

/-- Whether the MESH route is up (Table 1-4): joined to a parent or coordinator, receiver not stopped (R240). -/
def State.meshUp (s : State) : Bool :=
  (s.rd (ob 0x4100 0x06) == 3 || s.rd (ob 0x4100 0x06) == 5) && s.rd (ob 0x4050 0x04) != 8

/-- Whether the LINE route is up (Table 1-4): the line die powered and holding a node address. -/
def State.lineUp (s : State) : Bool := s.linkReady .line && s.rd (ob 0x5000 0x01) != 0xFF

/-- Whether the HOST route is up: VIO within range. -/
def State.hostUp (s : State) : Bool := s.isOn (ob 0x1060 0x06)

/-- Flags of the air quality record (Table 9-5). -/
def airFlags (clipped half lna : Bool) : Nat :=
  (if clipped then 1 else 0) + (if half then 2 else 0) + (if lna then 4 else 0)

end Sys2Proof.Machine
end

