-- ==== Sys2Proof/Machine/Operands.lean ====
section
/-! DEFINITION. Operand forms: the bytes that a command or a transport carries, taken apart by the spec's own tables — service
units (Table 13-3), envelopes (R383), host transactions (Table 13-5), line frames (Table 11-4), link headers (Table 20-1)
and pocket APDUs (R342, R357). -/

namespace Sys2Proof.Machine

/-! ### The ciphers' results as bytes -/

/-- An AES block, 16 bytes. -/
def aes (key block : Octets) : Octets := leBytes 16 (Config.aes key block)

/-- AES-CMAC, 16 bytes (R355, R383). -/
def cmac (key msg : Octets) : Octets := leBytes 16 (Config.cmac key msg)

/-- SHA-256, 32 bytes (R430, R439). -/
def sha256 (msg : Octets) : Octets := leBytes 32 (Config.sha256 msg)

/-! ### Service units (Table 13-3, R380) -/

/-- The operation of a unit's body; `bad` for any other code and any body of the wrong length. -/
def parseOp (code : Nat) (b : Octets) : Op :=
  match code with
  | 0x01 => if b.length = 7 then .read (u16At b 0) (byteAt b 2) (u16At b 3) (u16At b 5) else .bad
  | 0x02 => if 5 ≤ b.length then .write (u16At b 0) (byteAt b 2) (u16At b 3) (b.drop 5) else .bad
  | 0x03 =>
    if byteAt b 0 = 1 ∧ b.length = 4 then .blockOpenRead (u16At b 1) (byteAt b 3)
    else if byteAt b 0 = 2 ∧ b.length = 3 then .blockOpenWrite (u16At b 1) else .bad
  | 0x04 =>
    if b.length < 2 then .bad
    else .blockData (u16At b 0) (b.drop 2)
  | 0x05 => if b.length = 1 ∧ byteAt b 0 ≤ 1 then .blockClose (byteAt b 0) else .bad
  | 0x06 =>
    if b.length = 12 then
      .subscribe (u16At b 0) (byteAt b 2) (byteAt b 3) (u16At b 4) (u16At b 6) (leNat (slice 8 4 b)) else .bad
  | 0x07 => if b.length = 1 then .unsubscribe (byteAt b 0) else .bad
  | 0x08 => if b.length = 3 then .describe (u16At b 0) (byteAt b 2) else .bad
  | 0x09 => if b.length = 3 then .next (u16At b 0) (byteAt b 2) else .bad
  | _ => .bad

/-- A unit taken apart: operation code and tag with their defaults where it is too short (R378). -/
def parseUnit (transport : Transport) (peer counter : Nat) (key unit : Octets) : Request :=
  if unit.length < 3 then
    { transport := transport, peer := peer, counter := counter, key := key,
      code := if unit.length = 0 then 0x80 else (byteAt unit 0 + 0x80) % 256, tag := 0, op := .bad }
  else
    { transport := transport, peer := peer, counter := counter, key := key, code := (byteAt unit 0 + 0x80) % 256,
      tag := u16At unit 1, op := parseOp (byteAt unit 0) (unit.drop 3) }

/-- The reply unit (Table 13-3). -/
def replyUnit (r : Reply) : Octets := u8 r.req.code ++ u16 r.req.tag ++ u8 r.status ++ r.data

/-- Data chunk of a transport: read and write limits in bytes at a mesh security level (Table 13-4). -/
def chunk (tr : Transport) (level : Nat) (write : Bool) : Nat :=
  match tr with
  | .mesh => if level = 7 then 190 else 192
  | .line => 96
  | .host => 512
  | .pocket => if write then 196 else 200

/-- Bit of a transport in 0x1035 (Table 13-14). -/
def Transport_bit : Transport → Nat
  | .mesh => 0 | .line => 1 | .host => 2 | .pocket => 3

/-- What an envelope's MAC covers (R383): D, peer, tenant, counter, unit. -/
def envelopeMessage (d peer : Nat) (t : Nat) (counter : Nat) (unit : Octets) : Octets :=
  u8 d ++ u16 peer ++ u8 t ++ u32 counter ++ unit

/-- An envelope: tenant, counter, unit and the first 8 bytes of the MAC (R383). -/
def envelope (key : Octets) (d peer : Nat) (t counter : Nat) (unit : Octets) : Octets :=
  u8 t ++ u32 counter ++ unit ++ (cmac key (envelopeMessage d peer t counter unit)).take 8

/-- A received envelope taken apart: tenant, counter, unit, MAC. -/
def openEnvelope (b : Octets) : Option (Nat × Nat × Octets × Octets) :=
  if b.length < 13 then none
  else some (byteAt b 0, leNat (slice 1 4 b), slice 5 (b.length - 13) b, b.drop (b.length - 8))

/-! ### Line frames (Table 11-4) -/

/-- A frame's bytes with its CRC. -/
def lineFrame (dst src type seq : Nat) (reply : Bool) (payload : Octets) : Octets :=
  let b := u8 dst ++ u8 src ++ u8 (type + 16 * (seq % 8) + (if reply then 128 else 0)) ++ u8 payload.length ++ payload
  b ++ u16 (crc16 b)

/-- Duration of a frame of `n` bytes in cells (R312). -/
def lineCells (n : Nat) : Nat := 12 + 8 * n

/-- Duration of `n` cells at a rate code, in µs rounded up (Table 11-2). -/
def cellsUs (rate n : Nat) : Nat :=
  match rate with
  | 0 => ceilDiv (n * 1000000) 9600
  | 1 => ceilDiv (n * 1000000) 19200
  | 2 => n * 32
  | _ => n * 16

/-- What a received frame is after the checks of R313. -/
inductive LineCheck where
  | framing | crc | good (dst src type seq : Nat) (reply : Bool) (payload : Octets)
deriving DecidableEq, Repr

/-- The checks of R313 on a received frame. -/
def checkLine (f : LineIn) : LineCheck :=
  let b := f.bytes
  if !f.valid || decide (b.length < 6) || decide (120 < byteAt b 3) || b.length != byteAt b 3 + 6 then .framing
  else if u16At b (b.length - 2) ≠ crc16 (b.take (b.length - 2)) then .crc
  else .good (byteAt b 0) (byteAt b 1) (byteAt b 2 % 16) (byteAt b 2 / 16 % 8) (decide (128 ≤ byteAt b 2))
    (slice 4 (byteAt b 3) b)

/-! ### Link headers (Table 20-1) -/

/-- The fields of a link message header. -/
structure LinkHead where
  kind   : Nat
  die    : Nat
  toEp   : Nat
  fromEp : Nat
  tag    : Nat
  length : Nat
deriving DecidableEq, Repr

/-- A header word taken apart. -/
def parseHead (w : Nat) : LinkHead :=
  { kind := w / 2 ^ 30 % 4, die := w / 2 ^ 27 % 8, toEp := w / 2 ^ 19 % 256, fromEp := w / 2 ^ 11 % 256,
    tag := w / 2 ^ 7 % 16, length := w % 128 }

/-- A header word put together. -/
def LinkHead.word (h : LinkHead) : Nat :=
  h.kind * 2 ^ 30 + h.die * 2 ^ 27 + h.toEp * 2 ^ 19 + h.fromEp * 2 ^ 11 + h.tag * 2 ^ 7 + h.length

/-! ### Pocket APDUs (R342, R358) -/

/-- A short APDU: class, instruction, P1, P2, data. -/
structure Apdu where
  cla  : Nat
  ins  : Nat
  p1   : Nat
  p2   : Nat
  data : Octets
  lcOk : Bool
deriving DecidableEq, Repr

/-- An APDU taken apart: four header bytes, then Lc with its data and perhaps Le, or Le alone. -/
def parseApdu (b : Octets) : Apdu :=
  let body := b.drop 4
  let n := byteAt body 0
  { cla := byteAt b 0, ins := byteAt b 1, p1 := byteAt b 2, p2 := byteAt b 3,
    data := if body.length ≤ 1 then [] else slice 1 n body,
    lcOk := decide (4 ≤ b.length) && (decide (body.length ≤ 1) || body.length == n + 1 || body.length == n + 2) }

/-- A status word, high byte first (ISO/IEC 7816-4). -/
def sw (v : Nat) : Octets := [BitVec.ofNat 8 (v / 256), BitVec.ofNat 8 v]

end Sys2Proof.Machine
end

