-- ==== Sys2Proof/Machine/ServiceOps.lean ====
section
/-! DEFINITION. The dictionary service's shared operations (chapter 13): statuses and their order, command queues, replies,
and the commit that an RWP write waits for. -/

namespace Sys2Proof.Machine

/-! ### Statuses (Table 13-10, R378) -/

/-- OK. -/
def sOK : Nat := 0x00
/-- NO_OBJECT. -/
def sNoObject : Nat := 0x01
/-- READ_ONLY. -/
def sReadOnly : Nat := 0x02
/-- WRITE_ONLY. -/
def sWriteOnly : Nat := 0x03
/-- LENGTH. -/
def sLength : Nat := 0x04
/-- VALUE_RANGE. -/
def sRange : Nat := 0x05
/-- IN_USE. -/
def sInUse : Nat := 0x06
/-- REGION_LIMIT. -/
def sRegion : Nat := 0x07
/-- NVA_CEILING. -/
def sCeiling : Nat := 0x08
/-- NVA_FAULT. -/
def sNvaFault : Nat := 0x09
/-- QUEUE_FULL. -/
def sQueueFull : Nat := 0x0A
/-- LINK_RETIRED. -/
def sRetired : Nat := 0x0B
/-- CAUSE_PRESENT. -/
def sCause : Nat := 0x0C
/-- BAD_OP. -/
def sBadOp : Nat := 0x0D
/-- NO_BLOCK. -/
def sNoBlock : Nat := 0x0E
/-- BLOCK_BUSY. -/
def sBusy : Nat := 0x0F
/-- BLOCK_TOO_LONG. -/
def sBlockLong : Nat := 0x10
/-- BLOCK_SEQUENCE. -/
def sSequence : Nat := 0x11
/-- BLOCK_INCOMPLETE. -/
def sIncomplete : Nat := 0x12
/-- SUBSCRIPTIONS_FULL. -/
def sSubsFull : Nat := 0x13
/-- STALE_COUNTER. -/
def sStale : Nat := 0x14
/-- TRANSPORT_DENIED. -/
def sDenied : Nat := 0x15
/-- TOO_LONG. -/
def sTooLong : Nat := 0x16
/-- TENANT_INACTIVE. -/
def sInactive : Nat := 0x17

/-- Place of a status in the order of R378; OK last. -/
def statusRank (st : Nat) : Nat :=
  match st with
  | 0x0D => 1 | 0x01 => 2 | 0x15 => 3 | 0x0E => 4 | 0x0F => 4 | 0x02 => 5 | 0x03 => 5 | 0x04 => 6 | 0x16 => 7
  | 0x10 => 8 | 0x11 => 8 | 0x12 => 8 | 0x05 => 9 | 0x07 => 10 | 0x13 => 11 | 0x06 => 12 | 0x0C => 13 | 0x08 => 14
  | 0x09 => 15 | 0x0B => 16
  | _ => 99

/-- The status given when two apply: the first in the order of R378. -/
def firstOf (a b : Nat) : Nat := if statusRank a ≤ statusRank b then a else b

/-- The status given when several apply. -/
def firstStatus (l : List Nat) : Nat := l.foldl firstOf sOK

/-- A status when a condition holds, else OK. -/
def when (c : Bool) (st : Nat) : Nat := if c then st else sOK

/-! ### Queues (R377) -/

/-- Whether a job waits to execute. -/
def Job.waits (j : Job) : Bool := j.phase == .waiting

/-- Whether a job waits for its commit. -/
def Job.commits (j : Job) : Bool :=
  match j.phase with
  | .committing _ => true
  | _ => false

/-- Whether an operation may need a commit of its own. -/
def Op.writes : Op → Bool
  | .write .. => true
  | .blockClose _ => true
  | .subscribe .. => true
  | .unsubscribe _ => true
  | _ => false

/-- The oldest request of a tenant that waits to execute. -/
def State.oldest (s : State) (t : Tenant) : Option Job := s.svc.queues[t].find? Job.waits

/-- The request of a tenant that may execute now: the start is complete (R527), and a write of a tenant with a commit in the
order waits (R407). -/
def State.ready (s : State) (t : Tenant) : Option Job :=
  if !s.up then none
  else match s.oldest t with
    | none => none
    | some j => if j.req.op.writes && s.svc.queues[t].any Job.commits then none else some j

/-- The tenant whose turn it is: the first after the one last served that has a request to execute (R377). -/
def State.served (s : State) : Option Tenant :=
  ((List.range 8).map (fun n => s.svc.turn + ⟨(n + 1) % 8, Nat.mod_lt _ (by decide)⟩)).find? (fun t => (s.ready t).isSome)

/-- The request that executes if it is `t`'s turn. (DESIGN CHOICE for the first turn, log entries 10 and 15.) -/
def State.turn (s : State) (t : Tenant) : Option Job := if s.served = some t then s.ready t else none

/-- One job changed. -/
def State.setJob (s : State) (t : Tenant) (id : Nat) (f : Job → Job) : State :=
  s.setQueue t (fun q => q.map (fun j => if j.id = id then f j else j))

/-- A reply out of the service's hands: its request leaves the queue (R377). -/
def State.leaveQueue (s : State) (r : Reply) : State :=
  let s := s.setQueue r.tenant (fun q => q.filter (fun j => j.id != r.id))
  { s with svc := { s.svc with replies := s.svc.replies.filter (fun x => x.id != r.id) } }

/-- A reply at its requester, or given up: a reset that waited for it may begin (R518). -/
def State.replyOut (s : State) (id : Nat) : State :=
  { s with rst := { s.rst with
    waiting := s.rst.waiting.map (fun (p : Pending) => if p.reply = some id then { p with reply := none } else p) } }

/-- Both at once. -/
def State.handOver (s : State) (r : Reply) : State := (s.leaveQueue r).replyOut r.id

/-- SERVICE_COUNTER_LOW (R397): counter 1 the floor, 2 the report counter. -/
def State.serviceLow (s : State) (t : Tenant) (n v : Nat) : State := s.raise 1226 (withT0 t) (u8 t.val ++ u8 n ++ u32 v)

/-- SERVICE_COUNTER_LOW for the counter floor where it goes from at most 0xFFFFF000 to above it (R397). -/
def State.floorLow (s : State) (t : Tenant) (old new : Nat) : State :=
  if decide (old ≤ 0xFFFFF000) && decide (0xFFFFF000 < new) then s.serviceLow t 1 new else s

/-! ### Persisted bytes (R375) -/

/-- Bytes a value occupies when it differs from its default. -/
def persistedBytes (k v : Nat) : Nat := if v = Dict.dflt k then 0 else Dict.bits k / 8 + 4

/-- Bytes charged to a tenant, without a key's. -/
def State.charged (s : State) (t : Tenant) (k : Nat) : Nat :=
  s.charges.foldl (fun n p => if p.2 = t ∧ p.1 ≠ k then n + Dict.bits p.1 / 8 + 4 else n) 0

/-- Whether a commit of the order writes a key. -/
def State.inOrder (s : State) (k : Nat) : Bool :=
  s.order.any (fun c => match c with
    | .dict _ _ w => w.any (fun p => p.1 == k)
    | .own w => w.any (fun p => p.1 == k)
    | _ => false)

/-- Whether a write of `v` to an RWP key needs a commit: the committed value differs, or a commit ahead writes it (R374). -/
def State.needsCommit (s : State) (k v : Nat) : Bool := s.inOrder k || s.nva k != v

/-- NVA_CEILING where a commit would take the tenant above its ceiling (R375). -/
def State.ceilingStatus (s : State) (t : Tenant) (k v : Nat) : Nat :=
  when (s.needsCommit k v && v != Dict.dflt k &&
    decide (s.rd (ob (0x9010 + t.val) 0x05) < s.charged t k + persistedBytes k v)) sCeiling

/-- The charge of an RWP key moved to the tenant whose commit holds, or released at its default (R375). -/
def State.charge (s : State) (t : Tenant) (k v : Nat) : State :=
  if !(Dict.row? (keyIndex k) (keySub k)).any (fun r => r.acc == .rwp) then s
  else { s with charges := (if v = Dict.dflt k then [] else [(k, t)]) ++ s.charges.filter (fun p => p.1 != k) }

/-! ### Masks (R8, R371) -/

/-- The tenants that an object is visible to: its mask, which may follow an allotment. -/
def State.visibleRow (s : State) (t : Tenant) (i : Nat) (m : Mask) : Bool :=
  match m with
  | .all => true
  | .fixed b => b.testBit t.val
  | .channel => (match s.channelTenant (i % 64) with | some a => a == t | none => false) || t.val == 0
  | .metronome => t.val == 0 || s.allottee 0x02 (i % 16) == some t
  | .score => tenant? (s.rd (ob (0xA000 + i % 32) 0x01)) == some t
  | .scoreHead => t.val == 0 || tenant? (s.rd (ob (0xA000 + i % 32) 0x01)) == some t
  | .status => t.val == 0 || t.val == i % 8
  | .key => (let c := i - 0x9100
      if c ≤ 0x3F then t.val == c / 8
      else if c ≤ 0x4F then t.val == 0 || t.val == c % 8
      else t.val == 0)

/-- Whether an object, or a reserved subindex under the mask of its record, is visible to a tenant (R368, R371). -/
def State.visible (s : State) (t : Tenant) (i sub : Nat) : Bool :=
  match Dict.row? i sub with
  | some r => s.visibleRow t i r.mask
  | none => Dict.reserved i sub && (match Dict.row? i 0 with | some r => s.visibleRow t i r.mask | none => false)

/-- Whether a transport is enabled for a tenant (R385). -/
def State.transportOn (s : State) (t : Tenant) (tr : Transport) : Bool :=
  (s.rd (ob 0x1035 (t.val + 1))).testBit (Transport_bit tr)

/-- The die that a live measurement is read from, if a satellite owns it (Table 13-18). -/
def liveDie (i sub : Nat) : Option Die :=
  if i = 0x1070 ∧ sub = 3 then some .field
  else if 0x2000 ≤ i ∧ i ≤ 0x2003 ∧ sub = 6 then some .field
  else if i = 0x2010 ∧ (sub = 3 ∨ sub = 9) then some .field
  else if 0x2500 ≤ i ∧ i ≤ 0x253F ∧ (sub = 4 ∨ sub = 7) then some .field
  else if (i = 0x1070 ∧ sub = 4) ∨ (i = 0x4001 ∧ (sub = 3 ∨ sub = 4)) then some .air
  else if (i = 0x5000 ∧ sub = 8) ∨ (i = 0x5010 ∧ sub = 2) then some .line
  else if i = 0x5400 ∧ (sub = 1 ∨ sub = 4 ∨ sub = 5) then some .pocket
  else none

/-- Whether an object is a live measurement (Table 13-18). -/
def isLive (i sub : Nat) : Bool :=
  (liveDie i sub).isSome || (i == 0x1100 && sub == 1) || (decide (0x8000 ≤ i) && decide (i ≤ 0x800F) && sub == 6) ||
    (i == 0x1060 && decide (2 ≤ sub) && decide (sub ≤ 5)) ||
    (i == 0x1070 && (sub == 1 || sub == 2 || (decide (5 ≤ sub) && decide (sub ≤ 7)))) ||
    (decide (0x9020 ≤ i) && decide (i ≤ 0x9027) && sub == 6)

/-- LINK_RETIRED where an object needs the link of a die that is not ready (R379, R541). -/
def State.linkStatus (s : State) (i sub : Nat) : Nat :=
  match liveDie i sub with
  | some d => when (!s.linkReady d) sRetired
  | none => sOK

end Sys2Proof.Machine
end

