-- ==== Sys2Proof/Machine/Time.lean ====
section
/-! DEFINITION. Time (chapter 2): the rate correction and its sources (R37 to R40), the checkpoint (R41), tempo and the
governor (R42 to R44). -/

namespace Sys2Proof.Machine

/-! ### Rate correction -/

/-- The temperature term in ppb (R37). -/
def State.tempTerm (s : State) : Int :=
  (s.rd (ob 0x1100 0x05) : Int) * (s.time.temp - s.rdInt (ob 0x1100 0x06)) * (s.time.temp - s.rdInt (ob 0x1100 0x06))

/-- C recomputed from its two terms and clamped; it takes effect at the next tick (R33, R37). -/
def State.setRate (s : State) : State :=
  s.wrInt (ob 0x1100 0x03) (clamp (-200000) 200000 (s.tempTerm + s.rdInt (ob 0x1100 0x04)))

/-- A temperature reading, in whole °C (R37). -/
def State.setTemp (s : State) (t : Int) : State :=
  ({ s with time := { s.time with temp := t } } : State).setRate

/-- The last measurement of a source (0 FIELD, 1 MESH, 2 LINE). -/
def State.lastMeasured (s : State) (n : Nat) : Option Nat :=
  match n with
  | 0 => s.time.lastFrom.1
  | 1 => s.time.lastFrom.2.1
  | _ => s.time.lastFrom.2.2

/-- A measurement of a source recorded, and its eligibility lapse set (R38). -/
def State.markMeasured (s : State) (n : Fin 3) : State :=
  let l := s.time.lastFrom
  let l := if n = 0 then (some s.now, l.2.1, l.2.2) else if n = 1 then (l.1, some s.now, l.2.2) else (l.1, l.2.1, some s.now)
  ({ s with time := { s.time with lastFrom := l } } : State).armIn (.source n) 3600000000

/-- Whether a source may discipline the time base (R38): enabled, measured within the hour, and not this node's own
network. -/
def State.eligible (s : State) (n : Nat) : Bool :=
  (s.rd (ob 0x1100 0x07)).testBit n &&
    (match s.lastMeasured n with | some t => decide (s.now ≤ t + 3600000000) | none => false) &&
    !(n == 1 && s.rd (ob 0x1010 0x02) == 2) && !(n == 2 && s.rd (ob 0x1010 0x04) == 1)

/-- The active source chosen: LINE, then MESH, then FIELD (R38). (DEDUCED, log entry 51.) -/
def State.chooseSource (s : State) : State :=
  s.wr (ob 0x1100 0x08) (if s.eligible 2 then 3 else if s.eligible 1 then 2 else if s.eligible 0 then 1 else 0)

/-- A measurement Creq of a source (R38, R39). -/
def State.discipline (s : State) (n : Fin 3) (creq : Int) : State :=
  let s := (s.markMeasured n).chooseSource
  if s.rd (ob 0x1100 0x08) ≠ n.val + 1 then s
  else
    let residual := creq - s.tempTerm
    if 100000 < residual.natAbs then (s.incSat (ob 0x1100 0x11)).raise 1221 [t0] []
    else
      let d := s.rdInt (ob 0x1100 0x04)
      (s.wrInt (ob 0x1100 0x04) (d + truncDiv (residual - d) (2 ^ s.rd (ob 0x1100 0x0A)))).setRate

/-- Creq of a FIELD window of `w` ticks in which `cycles` were counted (R38); N is w × 211,875 / 256. -/
def fieldCreq (w cycles : Nat) (eref : Int) : Int :=
  let num : Int := (cycles : Int) * 256 * 1000000000 - (w : Int) * 211875 * (1000000000 + eref)
  let den : Nat := w * 211875 * ((1000000000 + eref).toNat)
  roundAway (num * 1000000000) den

/-- Whether a time frame of a network (2 mesh, 3 line) is of the active network source (R40): the other network is not the active source
of 0x1100.08, which before the first measurement names neither. (DEDUCED, log entry 51.) -/
def State.ofNetwork (s : State) (src : Nat) : Bool := s.rd (ob 0x1100 0x08) == src || decide (s.rd (ob 0x1100 0x08) < 2)

/-- The network offset set by a time frame of the active network source (R40). -/
def State.setOffset (s : State) (src : Nat) (network : Int) : State :=
  if s.ofNetwork src then
    ((s.wrInt (ob 0x1100 0x0F) (network - (s.now : Int))).wr (ob 0x1100 0x10) 1).armIn .netOffset 3600000000
  else s

/-- FIELD_WINDOW_COMPLETE (R38, R39): the accumulated ticks have reached W; `cycles` is the count of the window. (DEDUCED, log entry 51.) -/
def execFieldWindowComplete (cycles : Nat) (s : State) : Result :=
  let w := s.rd (ob 0x1100 0x09)
  if s.time.winTicks < w ∨ w = 0 then done s
  else
    let c := fieldCreq w cycles (s.rdInt (ob 0x1100 0x0B))
    done (({ s with time := { s.time with winTicks := 0 } } : State).discipline 0 c)

/-- SOURCE_ELIGIBILITY_LAPSE (R38): the active source is chosen anew; D holds (R49). -/
def execSourceEligibilityLapse (source : Fin 3) (s : State) : Result :=
  if s.isDue (.source source) then done (s.cancel (.source source)).chooseSource else done s

/-- NETWORK_OFFSET_LAPSE (R40). -/
def execNetworkOffsetLapse (s : State) : Result :=
  if s.isDue .netOffset then done ((s.cancel .netOffset).wr (ob 0x1100 0x10) 0) else done s

/-! ### Checkpoint (R41) -/

/-- The objects persisted with each checkpoint (R41, R567, R634), with the time of the last reading per channel (R30) and the carrier
time of each voice, which Table 3-5 counts since manufacture. (DEDUCED for the last, log entry 25.) -/
def checkpointKeys : List Nat :=
  [ob 0x1100 0x03, ob 0x1100 0x04, ob 0x1100 0x0D, ob 0x1100 0x0E] ++ ((List.range 9).map (fun n => ob 0x1070 (n + 1))) ++
    tenants.flatMap (fun t => [obT 0x1071 0x01 t, obT 0x1071 0x02 t, ob (0x9020 + t.val) 0x05, ob (0x9020 + t.val) 0x07,
      ob (0x9020 + t.val) 0x09]) ++ channels.map (fun c => ob (0x2200 + c.val) 0x05) ++
    (List.range 4).map (fun v => ob (0x2000 + v) 0x0D)

/-- A checkpoint of a count as its commit writes it: on the next of the 16 pages, with the newest values of what is persisted with it
(R41, R407). -/
def State.checkpointOf (s : State) (count : Nat) : Checkpoint :=
  { page := (s.ckpt.page + 1) % 16
    failed := false
    count := count
    objs := checkpointKeys.foldl (fun t k => Tab.set Dict.dflt t k (s.rd k)) []
    bins := s.power.bins
    counters := s.mac.neighbours.map (fun n => (n.ext, n.counter1, n.counter2)) }

/-- The interval in µs, 0x1100.0C. -/
def State.checkpointUs (s : State) : Nat := s.rd (ob 0x1100 0x0C) * 1000000

/-- CHECKPOINT_DUE (R41): the count at the due tick goes into the NVA order; the next falls due one interval after that tick. -/
def execCheckpointDue (s : State) : Result :=
  match s.dueAt .checkpoint with
  | none => done s
  | some d =>
    if s.time.whole < d then done s
    else done ((s.commit (.checkpoint s.time.whole)).arm .checkpoint (s.time.whole + s.checkpointUs))

/-- TIME_DISCONTINUITY (R41): after a supply loss the time base resumes one interval and 6,000 µs past the last committed
checkpoint, which is counted, announced and entered for commit before anything else (log entry 9). Intervals under way since the
power-up keep their length. -/
def State.resumeTime (s : State) : State :=
  let r := s.ckpt.count + s.checkpointUs + 6000
  let jump := r - s.time.whole
  let s : State := { s with
    time := { s.time with count := r * 2 ^ 24, cycles := 0, phase := 0, lost := false }
    timers := s.timers.map (fun p => (p.1, p.2 + jump))
    pocket := { s.pocket with commits := s.pocket.commits.map (fun c => { c with since := c.since + jump }) } }
  let s := (s.incSat (ob 0x1100 0x0D)).wr (ob 0x1100 0x0E) r
  let s := s.raiseAt 1220 tenants [] r
  (s.commit (.checkpoint r)).arm .checkpoint (r + s.checkpointUs)

/-! ### Tempo (R42 to R44) -/

/-- Tempo of a lap count (R42), which the governor and the floor check compare; its object takes it as UQ4.12. -/
def State.tempoOf (s : State) (laps : Nat) : Nat := 4096 * laps / s.rd (ob 0x1110 0x03)

/-- The governor after a measurement (R43). -/
def State.govern (s : State) (tempo : Nat) : State :=
  let v := s.rd (ob 0x1110 0x06)
  let target := s.rd (ob 0x1110 0x05)
  if tempo < target then s.wr (ob 0x1110 0x06) (min 900 (v + 10))
  else if target + 0x0400 < tempo then s.wr (ob 0x1110 0x06) (max 500 (v - 10))
  else s

/-- The floor check (R44): TEMPO_FLOOR is F000. -/
def State.tempoFloor (s : State) (tempo : Nat) : State :=
  if tempo < 0x1000 then (s.inc (ob 0x1110 0x07)).fault 0 tempo else s.causeEnd 0

/-- Whether the edge that ends a tempo measurement has come (R42). -/
def State.gateDue (s : State) : Bool := s.time.gate.any (fun g => decide (g ≤ s.time.ticks))

/-- The next measurement of the tempo meter (R42): it begins, and so ends, 256 ticks after the last one. -/
def State.nextGate (s : State) : State := { s with time := { s.time with gate := s.time.gate.map (· + 256) } }

/-- TEMPO_MEASUREMENT (R42, R43, R44): a whole tick's laps, in Running; the next follows 256 ticks after. A tempo of 16.0 or more, or
more laps than 0x1110.02 holds, does not fit the object (log entry 7), but the governor sees it whole. -/
def execTempoMeasurement (laps : Nat) (s : State) : Result :=
  if s.gateDue = true ∧ s.runState = 1 then
    let t := s.tempoOf laps
    let low := min t (s.rd (ob 0x1110 0x08))
    let s := (s.wrFit (ob 0x1110 0x01) t).wrFit (ob 0x1110 0x02) laps
    let s := s.wrAll [(ob 0x1110 0x04, s.now), (ob 0x1110 0x08, low)]
    done ((s.govern t).tempoFloor t).nextGate
  else done s

/-! ### Writes -/

/-- The effect of a write to 0x1100 (R37, R49): a temperature setting recomputes C at once; a discipline setting discards the
partial FIELD window. -/
def State.timeWrite (s : State) (sub : Nat) : State :=
  if sub = 5 ∨ sub = 6 then s.setRate
  else if sub = 7 then s.dropWindow.chooseSource
  else if sub = 9 ∨ sub = 0x0A then s.dropWindow
  else s

end Sys2Proof.Machine
end

