-- ==== Sys2Proof/Machine/VoiceOps.lean ====
section
/-! DEFINITION. Voices and the boost (chapter 3): the HF limits, the VFLD requirement, held channels and the coupling map, the
boost's sequence, ramps, and reaching the floor. -/

namespace Sys2Proof.Machine

/-- Index of a voice's objects. -/
def vi (v : VoiceId) : Nat := 0x2000 + v.val

/-- The state of a voice (Table 3-1). -/
def State.voiceState (s : State) (v : VoiceId) : Nat := s.rd (ob (vi v) 0x01)

/-- A voice's state set. -/
def State.setVoiceState (s : State) (v : VoiceId) (st : Nat) : State := s.wr (ob (vi v) 0x01) st

/-- Whether a voice is emitting: RAMP_UP, SETTLE, AT_LEVEL or RAMP_DOWN. -/
def State.emitting (s : State) (v : VoiceId) : Bool := 2 ≤ s.voiceState v && s.voiceState v ≤ 5

/-! ### HF limits (R73, R74, Table 3-3) -/

/-- Per-voice ceiling and all-voice ceiling in mW and minimum ramp time in µs of a profile code. -/
def hfLimits : Nat → Nat × Nat × Nat
  | 1 => (1000, 2400, 100)
  | 2 => (1000, 2000, 100)
  | 3 => (min 1000 Config.xcHf.1, min 4000 Config.xcHf.2.1, max 50 Config.xcHf.2.2)
  | _ => (0, 0, 0)

/-- The conductor's copy of the limits, 0x2030.01 to .04, as of the sealed profile (R73). -/
def State.copyLimits (s : State) : State :=
  let l := hfLimits s.profile
  s.wrAll [(ob 0x2030 0x01, s.profile), (ob 0x2030 0x02, l.1), (ob 0x2030 0x03, l.2.1), (ob 0x2030 0x04, l.2.2)]

/-- Whether the conductor's copy shows a sealed profile. -/
def State.hfSealed (s : State) : Bool := s.rd (ob 0x2030 0x01) != 0

/-- HF_LIMITS_LOAD: the serving field die takes the sealed limits from the conductor (R73). -/
def State.loadLimits (s : State) : State :=
  if s.hfSealed && !s.isOn (ob 0x2030 0x05) then (s.wr (ob 0x2030 0x05) 1).raise 820 [t0] [] else s

/-- The power of a drive level in 1/32,768 W; 0x7FFF is exactly 1 W (R56). -/
def drivePower (d : Nat) : Nat := if d = 0x7FFF then 32768 else d

/-- The same in mW, rounded down. -/
def milliwatts (p : Nat) : Nat := p * 1000 / 32768

/-- A drive level held to the per-voice ceiling (R74). -/
def State.cappedPower (s : State) (d : Nat) : Nat :=
  if s.hfSealed then min (drivePower d) (s.rd (ob 0x2030 0x02) * 32768 / 1000) else drivePower d

/-- The minimum ramp time in force. -/
def State.minRamp (s : State) : Nat := s.rd (ob 0x2030 0x04)

/-! ### VFLD requirement (R61) -/

/-- H + sqrt(P × Rload × π²/8) in mV rounded up to 100 mV, before clamping; `p` in 1/32,768 W, `load` in 0.1 Ω, with
π² = 9.869604401089358. -/
def vreqRaw (h p load : Nat) : Nat :=
  ceilDiv (h + sqrtUp (ceilDiv (p * load * 9869604401089358) (8 * 10 * 32768 * 1000000000))) 100 * 100

/-- The requirement of a step and whether it is limited by the VFLD maximum (R61, R65). -/
def State.vreq (s : State) (ch p : Nat) : Nat × Bool :=
  let top := s.rd (ob 0x2010 0x05)
  let load := s.rd (ob (0x2100 + ch) 0x0A)
  if load = 0 then (top, false)
  else
    let r := vreqRaw (s.rd (ob 0x2010 0x04)) p load
    (min top (max 5000 r), decide (top < r))

/-! ### Channels held (R55, R67, R68) -/

/-- Whether a due step emits: every score step does, and the tunings that R202 names. -/
def DueStep.emits (d : DueStep) : Bool :=
  match d.tuning with
  | some (k, _) => k == 0x01 || k == 0x02 || k == 0x03
  | none => true

/-- The channels that a grant holds: its step's, or none where it emits nothing (R55, R202). -/
def Grant.channels (g : Grant) : List Nat := if g.step.emits then [g.step.channel] else []

/-- The channels a voice holds (R55): the one of its grant or its down-ramp, the one of a deferred grant, and those whose grant ended
before the voice has come to FLOOR. -/
def Voice.channels (v : Voice) : List Nat :=
  v.held.toList ++ v.also ++ (match v.deferred with | some g => g.channels | none => [])

/-- A deferred grant taken back: its channel stays held until the voice is at FLOOR (R55). -/
def Voice.undefer (v : Voice) : Voice :=
  { v with deferred := none, also := v.also ++ (match v.deferred with | some g => g.channels | none => []) }

/-- Every held channel. -/
def State.heldChannels (s : State) : List Nat := voiceIds.flatMap (fun v => s.voices[v].channels)

/-- Whether two channels form a forbidden pair (R67). -/
def State.forbidden (s : State) (a b : Nat) : Bool :=
  a / 16 != b / 16 && ((s.rd (ob 0x2020 (a + 1))).testBit b || (s.rd (ob 0x2020 (b + 1))).testBit a)

/-- Whether card detection pauses on a channel (R55, R166): it is selected or held, or a channel paired with it is held. A voice at
floor with no grant has no channel selected. -/
def State.detBlocked (s : State) (ch : Nat) : Bool :=
  s.rd (ob (vi (voiceOf ch)) 0x02) == ch || s.heldChannels.any (fun c => c == ch || s.forbidden c ch)

/-- Detectors whose pause begins (R55). -/
def State.pauseDetection (s : State) : State :=
  channels.foldl (fun s c =>
    if s.isOn (ob (0x2500 + c.val) 0x01) && s.detBlocked c.val then s.wr (ob (0x2500 + c.val) 0x06) 2 else s) s

/-- The power a voice counts for in the all-voice check: its present one or the one it will ramp to. -/
def Voice.level (v : Voice) : Nat :=
  max v.drive (match v.deferred with | some g => g.drive | none => 0)

/-- Whether a grant of power `p` on voice `v` would exceed the all-voice ceiling (R74). -/
def State.overCeiling (s : State) (v : VoiceId) (p : Nat) : Bool :=
  let others := (voiceIds.filter (· != v)).foldl (fun n w => n + s.voices[w].level) 0
  s.hfSealed && decide (s.rd (ob 0x2030 0x03) * 32768 < (others + max p s.voices[v].drive) * 1000)

/-! ### Events of a voice (Table 3-9, R474) -/

/-- An event of a voice: channel and drive in mW (Table 17-3). -/
def State.voiceEvent (s : State) (v : VoiceId) (k : Nat) (to_ : List Tenant) (ch p : Nat) : State :=
  s.raise (768 + 12 * v.val + k) to_ (u8 ch ++ u16 (milliwatts p))

/-- An event of one of the channels. -/
def State.channelEvent (s : State) (ch k : Nat) (to_ : List Tenant) (data : Octets) : State :=
  s.raise (12 * ch + k) to_ data

/-! ### The boost (R62 to R66) -/

/-- The boost's state. -/
def State.boost (s : State) : Nat := s.rd (ob 0x2010 0x01)

/-- The highest requirement among the voices that hold a channel. -/
def State.vfldWanted (s : State) : Nat := voiceIds.foldl (fun m v => max m (s.rd (ob (vi v) 0x07))) 0

/-- A new setpoint. The VFLD_ADJ code that the loop settles at depends on the boost outside: a free value. (DEDUCED, log entry 33.) -/
def State.setpoint (s : State) (mv : Nat) : State :=
  let (c, s) := s.free1 256
  s.wrAll [(ob 0x2010 0x02, mv), (ob 0x2010 0x09, c)]

/-- A start of the boost from OFF (Table 3-2), not begun while load is shed (R558). -/
def State.boostStart (s : State) : State :=
  if s.power.shedding then s
  else
    let s := ((s.setpoint s.vfldWanted).wr (ob 0x2010 0x01) 1).inc (ob 0x2010 0x07)
    let s : State := { s with pins := { s.pins with vfldEn := true } }
    (s.cancel .boostHold).armIn .boostStart 2000

/-- Whether a voice is in RAMP_UP or RAMP_DOWN. -/
def State.ramping (s : State) : Bool := voiceIds.any (fun v => s.voiceState v == 2 || s.voiceState v == 5)

/-- The boost follows the highest requirement (R62): a rise at once, a fall only while no voice ramps. With no voice holding a channel
there is no highest requirement, R62 does not say what the setpoint then is, and 0x2010.02 keeps its value. (DESIGN CHOICE for that,
log entry 33.) -/
def State.boostFollow (s : State) : State :=
  let w := s.vfldWanted
  let sp := s.rd (ob 0x2010 0x02)
  if w = 0 then s
  else match s.boost with
    | 0 => s.boostStart
    | 1 => if sp < w ∨ (w < sp ∧ s.ramping = false) then s.setpoint w else s
    | 2 => if sp < w then ((s.setpoint w).wr (ob 0x2010 0x01) 3).armIn .boostSlew 1000
           else if w < sp ∧ s.ramping = false then (s.setpoint w).wr (ob 0x2010 0x01) 3 else s
    | 3 => if sp < w then (s.setpoint w).armIn .boostSlew 1000
           else if w < sp ∧ s.ramping = false then (s.setpoint w).cancel .boostSlew else s
    | _ => s

/-- Whether a voice may begin its up-ramp: the boost is READY, or slews with VFLD at or above the voice's requirement. -/
def State.vfldReady (s : State) (v : VoiceId) : Bool :=
  s.boost == 2 || (s.boost == 3 && s.rd (ob (vi v) 0x07) ≤ s.rd (ob 0x2010 0x03))

/-- Whether every voice is at FLOOR or DISABLED. -/
def State.voicesQuiet (s : State) : Bool := voiceIds.all (fun v => s.voiceState v == 0 || s.voiceState v == 8)

/-- The boost taken down at once: VFLD_EN low, its sequence abandoned (R79). FAILED persists until its fault is cleared. -/
def State.boostCut (s : State) : State :=
  let s := (((s.cancel .boostStart).cancel .boostSlew).cancel .boostHold).cancel .boostStop
  let s : State := { s with pins := { s.pins with vfldEn := false, discharge := false } }
  if s.boost = 5 then s else s.wr (ob 0x2010 0x01) 0

/-- The hold-off runs from the instant at which every voice is quiet (R64). While the field die does not serve, VFLD_EN goes low as soon as no voice emits
(R79). (DEDUCED, log entry 33.) -/
def State.boostIdle (s : State) : State :=
  if !s.linkReady .field then (if voiceIds.any s.emitting then s else s.boostCut)
  else if s.voicesQuiet && (s.boost == 1 || s.boost == 2 || s.boost == 3) && s.vfldWanted == 0 then
    (if s.isArmed .boostHold then s else s.armIn .boostHold (s.rd (ob 0x2010 0x06)))
  else s.cancel .boostHold

/-! ### Selection and ramps (R54, R69 to R72) -/

/-- The up-ramp of a voice whose channel is selected and whose VFLD is ready (R69). -/
def State.rampUp (s : State) (v : VoiceId) (g : Grant) : State :=
  let s := (s.setVoiceState v 2).setVoice v (fun x =>
    { x with
        rampAt := s.now, rampTime := g.ramp, rampSteps := 64, rampFrom := 0, rampTo := amplitudeOf g.drive,
        phase := s.rd (ob (vi v) 0x04),
        emitAt := x.emitAt.or (some s.now) })
  let s := s.armIn (.rampUp v) g.ramp
  if g.limited then (s.inc (ob (vi v) 0x0B)).voiceEvent v 6 [g.step.tenant] g.step.channel g.drive else s

/-- A voice with a grant and its channel selected goes on to its ramp, or waits for VFLD (R62). -/
def State.raiseCarrier (s : State) (v : VoiceId) : State :=
  match s.voices[v].grant with
  | none => s
  | some g =>
    if s.voices[v].selecting then s
    else if s.voiceState v = 0 ∨ s.voiceState v = 1 then
      if s.vfldReady v then s.rampUp v g else s.setVoiceState v 1
    else s

/-- The reversal instant of a down-ramp: the completed steps at the next boundary (R72). -/
def State.downSteps (s : State) (v : VoiceId) : Nat :=
  let x := s.voices[v]
  if x.rampTime = 0 then 64 else ceilDiv ((s.now - x.rampAt) * 64) x.rampTime

/-- A down-ramp begun with a ramp time, from the present amplitude (R66, R69, R79). -/
def State.rampDown (s : State) (v : VoiceId) (ramp : Nat) : State :=
  let s := s.cancelAll (fun tm => tm == .rampUp v || tm == .settle v || tm == .slew v || tm == .frameEnd v ||
    tm == .windowOpen v || tm == .eof v || tm == .close v || tm == .wtx v)
  let a := s.amplitude v
  ((s.setVoiceState v 5).setVoice v (fun x => { x with
      rampAt := s.now, rampTime := ramp, rampSteps := 64, rampFrom := a, rampTo := 0,
      exchange := none })).armIn (.rampDown v) ramp

/-- The carrier time of an emission that has ended, added to the voice and the channel (Tables 3-5 and 3-6). -/
def State.countCarrier (s : State) (v : VoiceId) : State :=
  match s.voices[v].emitAt, s.voices[v].held with
  | some at_, some ch =>
    let s := (s.add (ob (vi v) 0x0D) (s.now - at_)).add (ob (0x2100 + ch) 0x0B) (s.now - at_)
    (s.wr (ob (0x2100 + ch) 0x0C) s.now).setVoice v (fun x => { x with emitAt := none })
  | _, _ => s

/-! ### Allotment of a channel (R81, R102, R164, R57) -/

/-- The tenant that the allotment records give a channel. -/
def State.recordTenant (s : State) (ch : Nat) : Nat := match s.allottee 0x01 ch with | some t => t.val | none => 0xFF

/-- A channel's receive objects and live drive level at its change of allotment (R57, R102); what the NVA holds of the former tenant's
receive history leaves it too. -/
def State.channelFresh (s : State) (ch : Nat) : State :=
  let i := 0x2200 + ch
  let s := [1, 2, 3, 4, 5, 6, 7, 8].foldl (fun s n => s.reset1 (ob i n)) s
  let s := s.wr (ob (0x2100 + ch) 0x04) (s.rd (ob (0x2100 + ch) 0x05))
  let old := [ob i 0x01, ob i 0x02].any (fun k => s.nva k != Dict.dflt k) || Tab.get Dict.dflt s.ckpt.objs (ob i 0x05) != 0
  if old then s.commit (.own [(ob i 0x01, Dict.dflt (ob i 0x01)), (ob i 0x02, Dict.dflt (ob i 0x02)), (ob i 0x05, 0)]) else s

/-- ALLOTMENT_TAKES_EFFECT: the record's tenant becomes the channel's; its tag entries become FREE, without an event (R164),
its phase anchors are discarded (R225). -/
def State.allotNow (s : State) (ch : Nat) : State :=
  let t := s.recordTenant ch
  if s.rd (ob (0x2100 + ch) 0x01) = t then s
  else
    let gone := (s.tags.filter (fun p => p.2.channel == ch)).map (·.1)
    let s : State := { s with
        tags := s.tags.filter (fun p => p.2.channel != ch),
                              cal := { s.cal with anchors := s.cal.anchors.filter (fun a => !gone.contains a.1) } }
    let s := (s.wr (ob (0x2100 + ch) 0x01) t).channelFresh ch
    if gone.isEmpty then s else s.commit .tags

/-- A change of the records takes effect on a channel unless it is held (R81). -/
def State.allot (s : State) (ch : Nat) : State := if s.heldChannels.contains ch then s else s.allotNow ch

/-- The channels that a voice lets go at FLOOR: allotment changes that waited for it take effect (R81). -/
def State.letGo (s : State) (l : List Nat) : State := l.foldl (fun s c => s.allot c) s

/-! ### Reaching the floor -/

/-- A grant taken up at floor: the hold of the channels before it ends (R55, R81), the boost follows, the channel is selected if it is not
yet, the old connection broken first (R54), and the ramp begins when both are ready. The bank of a channel that stays selected takes the
grant's damping (R59). -/
def State.takeUp (s : State) (v : VoiceId) (g : Grant) : State :=
  let need := decide (s.rd (ob (vi v) 0x02) ≠ g.step.channel)
  let old := s.voices[v].held.toList ++ s.voices[v].also
  let s := s.setVoice v (fun x => { x with
      grant := some g, deferred := none, held := some g.step.channel, also := [],
      owner := some g.step.tenant, drive := g.drive, selecting := need })
  let s := s.wrAll [(ob (vi v) 0x07, g.vreq), (ob (vi v) 0x08, g.step.tenant.val), (ob (vi v) 0x01, 0)]
  let s := if need then s.unselect v else s.loadBank g.step.channel g.damping
  let s := (((s.letGo old).cancel .boostHold).boostFollow).pauseDetection
  if need then s.armIn (.select v) 15 else s.raiseCarrier v

/-- A grant that emits nothing taken up: the voice stays at FLOOR with no channel selected (R202), and the holds before it end. -/
def State.takeQuiet (s : State) (v : VoiceId) (g : Grant) : State :=
  let old := s.voices[v].held.toList ++ s.voices[v].also
  let s := (s.unselect v).setVoice v (fun x => { x with
      grant := some g, deferred := none, held := none, also := [], owner := some g.step.tenant, drive := 0, selecting := false })
  let s := s.wrAll [(ob (vi v) 0x01, 0), (ob (vi v) 0x07, 0), (ob (vi v) 0x08, g.step.tenant.val)]
  (s.letGo old).boostFollow

/-- The voice has reached FLOOR with no grant: DISABLED where it is switched off, its selection, session and holds over, any allotment
change of its channels in force, the hold-off begun (R55, R76, R81, R125, R186). (DEDUCED, log entry 33.) -/
def State.reachFloor (s : State) (v : VoiceId) : State :=
  let old := s.voices[v].channels
  let off := s.rd (ob (vi v) 0x03) == 0
  let s := (s.unselect v).setVoice v (fun x => { x with
      grant := none, deferred := none, held := none, also := [], owner := none, drive := 0,
      session := none, exchange := none, selecting := false, disable := false, emitAt := none })
  let s := s.wrAll [(ob (vi v) 0x01, if off then 8 else 0), (ob (vi v) 0x06, 0), (ob (vi v) 0x07, 0), (ob (vi v) 0x08, 0xFF)]
  (s.fieldStopped.letGo old).boostFollow.boostIdle

/-! ### Due steps -/

/-- A due step as a place in the order of R68: earlier due first, then the lower score slot. -/
def DueStep.before (a b : DueStep) : Bool := a.dueAt < b.dueAt || (a.dueAt == b.dueAt && a.score < b.score)

/-- Whether two due steps are the same step of the same run. -/
def DueStep.same (a b : DueStep) : Bool := a.score == b.score && a.step == b.step && a.tuning == b.tuning

/-- Whether an earlier step that waits under R68 holds this one back. -/
def State.heldBack (s : State) (d : DueStep) : Bool :=
  s.dues.any (fun w => w.waiting && w.before d && !w.same d &&
    (voiceOf w.channel == voiceOf d.channel || (d.emits && s.forbidden w.channel d.channel)))

/-- The drive level of a due step as it would be granted (R56, R74): its own or the channel's live one. -/
def State.duePower (s : State) (d : DueStep) : Nat :=
  match d.tuning with
  | some (k, _) =>
    if k = 0x01 ∨ k = 0x02 then 328
    else if k = 0x03 then s.cappedPower (s.rd (ob (0x2100 + d.channel) 0x05)) else 0
  | none =>
    if (byteAt d.record 2).testBit 2 then s.cappedPower (u16At d.record 4)
    else s.cappedPower (s.rd (ob (0x2100 + d.channel) 0x04))

/-- Why a step would wait under R68: 1 coupling, 2 ceiling, 0 neither. -/
def State.waitReason (s : State) (v : VoiceId) (d : DueStep) : Nat :=
  if !d.emits then 0
  else if s.heldChannels.any (fun c => s.forbidden c d.channel) then 1
  else if s.overCeiling v (s.duePower d) then 2 else 0

/-- The order in which the due steps of a voice are considered (R157): waiting ones as they became due, then priority, then
tenant turns, then due time and slot. -/
def State.ahead (s : State) (v : VoiceId) (a b : DueStep) : Bool :=
  if a.waiting != b.waiting then a.waiting
  else if a.waiting then a.before b
  else if a.prio != b.prio then b.prio < a.prio
  else
    let last := s.voices[v].lastTenant.val
    let ta := (a.tenant.val + 7 - last) % 8
    let tb := (b.tenant.val + 7 - last) % 8
    if ta != tb then ta < tb else a.before b

/-- The due steps of a voice in that order, by insertion. Of two steps of one score that became due in the same microsecond R157 says nothing,
and the one listed later goes first. (DESIGN CHOICE, log entry 34.) -/
def State.dueOrder (s : State) (v : VoiceId) : List DueStep :=
  (s.dues.filter (fun d => voiceOf d.channel == v)).foldl (fun l d =>
    l.takeWhile (fun x => s.ahead v x d) ++ d :: l.dropWhile (fun x => s.ahead v x d)) []

/-- A due step marked as waiting under R68, which it says once (R68, R160). -/
def State.markWaiting (s : State) (v : VoiceId) (d : DueStep) (why : Nat) : State :=
  let s : State := { s with dues := s.dues.map (fun x => if x.same d then { x with waiting := true, told := true } else x) }
  if d.told || d.waiting then s
  else
    let s := s.voiceEvent v (if why = 1 then 2 else 3) [d.tenant] d.channel (s.duePower d)
    if d.tuning.isSome then s else s.channelEvent d.channel 7 [d.tenant] (u8 d.score ++ u8 d.step)

/-- Whether an earlier step that waits under R68 on a paired channel holds this one back, which then waits too, as the worked case of
chapter 3 has it. -/
def State.pairWaits (s : State) (d : DueStep) : Bool :=
  d.emits && s.dues.any (fun w => w.waiting && w.before d && !w.same d && s.forbidden w.channel d.channel)

/-- The step to grant on a voice, with the steps found to wait on the way marked so (R68, R157). (DEDUCED, log entry 34.) -/
def State.choose (s : State) (v : VoiceId) : List DueStep → Option DueStep × State
  | [] => (none, s)
  | d :: l =>
    if s.heldBack d then (if s.pairWaits d then s.markWaiting v d 1 else s).choose v l
    else match s.waitReason v d with
      | 0 => (some d, s)
      | why => (s.markWaiting v d why).choose v l

/-- The bit rate code of a step's frames (Table 5-11): an ACTIVATE's own setting, the open session's for what runs in it, else
106 kbit/s. -/
def State.stepRate (s : State) (d : DueStep) : Nat :=
  if byteAt d.record 0 = 6 then d.settings.rate
  else match s.voices[voiceOf d.channel].session with
    | some z => if z.blockOn && z.tenant == d.tenant && z.channel == d.channel then z.rate else 0
    | none => 0

/-- The damping of a step (R59): the channel's, at 424 and 848 kbit/s no less than 2. -/
def State.stepDamping (s : State) (d : DueStep) : Nat :=
  let q := s.rd (ob (0x2100 + d.channel) 0x07)
  if d.tuning.isNone && decide (2 ≤ s.stepRate d) then max q 2 else q

/-- What a grant fixes of a due step (R56, R58, R59, R61, R69, R74, R82). -/
def State.grantOf (s : State) (d : DueStep) : Grant :=
  let p := s.duePower d
  let (vr, lim) := s.vreq d.channel p
  let fl := if d.tuning.isSome then 0 else byteAt d.record 2
  let ramp := if fl.testBit 3 then u16At d.record 6 else s.rd (ob (0x2100 + d.channel) 0x08)
  { step := d, drive := p, askLow := s.rd (ob (0x2100 + d.channel) 0x06), damping := s.stepDamping d, ramp := max ramp s.minRamp,
    settle := if fl.testBit 4 then u16At d.record 8 else s.rd (ob (0x2100 + d.channel) 0x09),
    vreq := if d.emits then vr else 0, limited := lim && d.emits, since := s.now, denied := false }

/-- Whether keep-warm applies to a step on a voice that still emits (R72). -/
def State.keepWarm (s : State) (v : VoiceId) (d : DueStep) : Bool :=
  d.tuning.isNone && (byteAt d.record 2).testBit 0 && s.voices[v].held == some d.channel &&
    s.voices[v].owner == some d.tenant && s.voices[v].deferred.isNone &&
    !s.dues.any (fun w => w.waiting && !w.same d && (voiceOf w.channel == v || s.forbidden w.channel d.channel))

/-- A due step taken off the list at its grant: the turn passes to its tenant and its wait is measured (R157, R416). -/
def State.takeDue (s : State) (v : VoiceId) (d : DueStep) : State :=
  let s : State := { s with dues := s.dues.filter (fun x => !x.same d) }
  let s := s.cancel (.deadline ⟨d.score % 32, Nat.mod_lt _ (by decide)⟩ d.step)
  let k := ob (0x9020 + d.tenant.val) 0x08
  let s := s.wr k (max (s.rd k) (s.now - d.dueAt))
  s.setVoice v (fun x => { x with
      lastTenant := d.tenant,
      session := match x.session with
      | some z => if z.tenant = d.tenant then some z else some { z with auth := none, challenge := none }
      | none => none })

end Sys2Proof.Machine
end

