-- ==== Sys2Proof/Machine/TagOps.lean ====
section
/-! DEFINITION. Tag frames (chapters 4 and 5): durations, response windows, frame checks, the quality record; and the tag table (chapter 6). Times on the air are in units of 0.01 µs. -/

namespace Sys2Proof.Machine

/-! ### Durations (Tables 5-2 and 5-3) -/

/-- `n` cells of 128/fc at a rate code 0 to 3 (106 to 848 kbit/s). -/
def abCells (rate n : Nat) : Nat := ceilDiv (n * 1280000) (1356 * 2 ^ rate)

/-- Duration of a request frame at a coding (15693) or rate (Types A and B). -/
def Frame.duration (f : Frame) (coding rate : Nat) : Nat :=
  if f.iso15 then
    if f.eofOnly then 3776 else 11328 + (if coding = 1 then 483328 else 30208) * f.bytes.length
  else if f.typeB then abCells rate (22 + 10 * f.bytes.length)
  else if f.short then abCells 0 10
  else if f.lastBits = 0 then abCells rate (3 + 9 * f.bytes.length)
  else abCells rate (3 + 9 * (f.bytes.length - 1) + f.lastBits)

/-- The tag SOF of a 15693 reply mode (Table 5-3). -/
def tagSof : Nat → Nat
  | 0 => 15104
  | 1 => 14985
  | 2 => 60416
  | _ => 59940

/-- FWT of an FWI (R113): (4,096/fc) × 2^FWI. -/
def fwt (fwi : Nat) : Nat := 40960000 * 2 ^ (if fwi = 15 then 4 else fwi) / 1356

/-- ΔFWT (R113). -/
def dFwt : Nat := 362478

/-- SFGT (R120). -/
def sfgt (sfgi : Nat) : Nat := if 1 ≤ sfgi ∧ sfgi ≤ 14 then 40960000 * 2 ^ sfgi / 1356 else 0

/-! ### Response windows (Table 5-4) -/

/-- When the window opens after its reference. -/
def Window.opens : Window → Nat
  | .iso15 | .iso15Write => 10000
  | _ => 2000

/-- Earliest accepted start. -/
def Window.earliest : Window → Nat
  | .iso15 | .iso15Write => 30442
  | .aFdt one => (if one then 9115 else 8643) - 40
  | .aOther _ => 8603
  | .bReq | .bFwt _ => 7434
  | .block typeB _ => if typeB then 7434 else 6000
  | .none => 0

/-- Latest accepted start. -/
def Window.latest : Window → Nat
  | .iso15 => 32802
  | .iso15Write => 32802 + 30206 * 65
  | .aFdt one => (if one then 9115 else 8643) + 80
  | .aOther l | .bFwt l | .block _ l => l
  | .bReq => 56637
  | .none => 0

/-- When the window closes without a reply start, at a 15693 reply mode and an A/B receive rate. -/
def Window.closes (w : Window) (mode rate : Nat) : Nat :=
  match w with
  | .iso15 => w.latest + tagSof mode
  | .iso15Write => 2000000
  | .aFdt _ | .aOther _ => w.latest + abCells 0 1
  | .bReq | .bFwt _ => w.latest + abCells rate 2
  | .block typeB _ => w.latest + abCells rate (if typeB then 2 else 1)
  | .none => 0

/-- Whether a start falls in a sub-window of a 15693 write (R173). -/
def inSubWindow (offset : Nat) : Bool :=
  30442 ≤ offset && (offset - 30442) % 30206 ≤ 2360 && (offset - 30442) / 30206 ≤ 65

/-- The minimum gap after a received frame (Table 5-5). -/
def replyGap (f : Frame) : Nat := if f.iso15 then 30914 else if f.typeB then 13215 else 8643

/-! ### Quality record (Table 4-3) -/

/-- The 16 bytes of a received frame (R94): signal and noise level, margin and phase as the chain found them, the ranges, the counts and
the flags. -/
def qualityRecord (x : Exchange) (f : Decoding) (collision : Bool) : Octets :=
  let noise : Int := match x.noise with | some n => n | none => -32768
  let signal := level f.mean (x.latch.getD (5 + x.range) 0)
  let recognised := x.range - x.acq
  leBytes 2 (ofSigned 16 signal) ++ leBytes 2 (ofSigned 16 noise) ++ u8 f.marginPercent ++ u8 x.phase ++
    u8 (x.range + 4 * recognised + 16 * f.run.range) ++ u8 f.run.changes ++
    u16 (min 0xFFFF (f.run.odd.filter (fun k => decide (k < f.bits.length))).length) ++
    u16 (min 0xFFFF (x.rx.full + f.full)) ++ u16 (min 0xFFFF f.bits.length) ++
    u8 ((if f.run.clipped then 1 else 0) + (if f.run.locked then 2 else 0) + (if x.modulated then 4 else 0) +
      (if decide (signal - noise < 40) then 8 else 0) + (if x.shortNoise then 16 else 0) + (if collision then 32 else 0)) ++
    u8 x.acq

/-- The margin check of R171 on a quality record, against a tenant's limits. -/
def marginMet (q : Octets) (snr margin : Nat) (level : Int) : Bool :=
  let signal := toSigned 16 (u16At q 0)
  let noise := if u16At q 2 = 0x8000 then (-512 : Int) else toSigned 16 (u16At q 2)
  decide ((snr : Int) ≤ signal - noise) && decide (margin ≤ byteAt q 4) && decide (level ≤ signal)

/-! ### Frame checks (R107, R115 to R119, R128) -/

/-- Bits packed into bytes, first bit lowest. -/
def packBits : Nat → List Bool → Octets
  | 0, _ => []
  | f + 1, l => if l.isEmpty then [] else
      u8 ((l.take 8).foldr (fun b n => (if b then 1 else 0) + 2 * n) 0) ++ packBits f (l.drop 8)

/-- The bits of bytes, lowest first. -/
def unpackBits (b : Octets) (n : Nat) : List Bool := (List.range n).map (fun i => (byteAt b (i / 8)).testBit (i % 8))

/-- A reply as the checks see it: its data bits packed into bytes, their number, and what is wrong with it (R107, R116 to R118). -/
structure TagReply where
  bytes     : Octets
  bits      : Nat
  truncated : Option Nat
  framing   : Bool
  collision : Option Nat
  parity    : Option Nat
deriving DecidableEq, Repr

/-- Bits of a Type A standard frame as characters, each with its parity bit where it has come: the first has `w` bits, the others 8. -/
def charsA : Nat → Nat → List Bool → List (List Bool × Option Bool)
  | 0, _, _ => []
  | f + 1, w, l => if l.isEmpty then [] else (l.take w, l[w]?) :: charsA f 8 (l.drop (w + 1))

/-- Bits in the first character of a Type A reply: what is left of the byte in which an anticollision frame was split (R144). -/
def firstWidth (e : Expect) : Nat := match e with | .anticoll n => 8 - n % 8 | _ => 8

/-- The data bits of a Type A reply before its cell `c`: parity cells do not count (R117). -/
def dataBefore (w c : Nat) : Nat := if c ≤ w then c else c - ((c - w - 1) / 9 + 1)

/-- Whether the delimiters of a reply lie in the ranges of Table 5-3 (R107). Those of a frame that broke off have no end. -/
def delimsOk (f : Frame) (rate : Nat) (d : Delims) (whole : Bool) : Bool :=
  if f.iso15 then d.lead == 4 && (!whole || d.tail == 4)
  else if f.typeB then
    decide (9440 ≤ d.lead) && decide (d.lead ≤ 23599) && (d.low == 10 || d.low == 11) && (d.high == 2 || d.high == 3) &&
      d.guards.all (fun g => decide (g ≤ 2)) && (!whole || d.tail == 10 || d.tail == 11)
  else (if rate = 0 then d.lead == 1 else d.lead == 32 && d.high == 1) && (!whole || d.tail == 1)

/-- A decided frame as a reply: characters and parity for Type A, whole bytes else; a cell decided from one half in an anticollision frame
is a collision too (R91, R117). -/
def Decoding.reply (x : Decoding) (f : Frame) (rate : Nat) (d : Delims) : TagReply :=
  let bits := match x.truncated with | some n => x.bits.take n | none => x.bits
  let anti := match f.expect with | .anticoll _ => true | _ => false
  let w := firstWidth f.expect
  let typeA := !f.iso15 && !f.typeB
  let coll := match x.collision, (if anti then x.run.odd.head? else none) with
    | some a, some b => some (min a b)
    | some a, none => some a
    | none, b => b
  let chars := charsA bits.length w bits
  let data := if typeA && (anti || decide (8 < bits.length)) then chars.flatMap (·.1) else bits
  let bad := fun (p : List Bool × Option Bool) => p.1.length == 8 && (match p.2 with
    | some b => p.1.foldl (fun a c => a != c) b == false
    | none => false)
  { bytes := packBits data.length data, bits := data.length, truncated := x.truncated
    framing := !delimsOk f rate d x.truncated.isNone
    collision := coll.map (fun c => if typeA then dataBefore w c else c)
    parity := if typeA && decide (8 < bits.length) then chars.findIdx? bad else none }

/-- How long a reply lasts from its reply start to its end (Table 5-3), in 0.01 µs: the EOF of Type A is silence and does not count. -/
def replyLength (f : Frame) (mode rate : Nat) (d : Delims) (cells : Nat) (whole : Bool) : Nat :=
  if f.iso15 then
    let cell := match mode with | 0 => 3776 | 1 => 3746 | 2 => 15104 | _ => 14985
    d.lead * tagSof mode / 4 + cells * cell + (if whole then d.tail * tagSof mode / 4 else 0)
  else if f.typeB then
    d.lead + abCells rate (d.low + d.high + (if cells = 0 then 0 else 2 * ((cells + 7) / 8)) + cells +
      d.guards.foldl (· + ·) 0 + (if whole then d.tail else 0))
  else if rate = 0 then abCells 0 (d.lead + cells)
  else abCells 0 (d.lead / 8) + abCells rate (d.high + cells)

/-- The lower code of two statuses, 0 being no status. -/
def lowerStatus (a b : Nat × Nat) : Nat × Nat := if a.1 = 0 then b else if b.1 = 0 then a else if a.1 ≤ b.1 then a else b

/-- Whether a reply's CRC is wrong; true of a reply too short to hold one. -/
def crcBad (iso : Bool) (typeB : Bool) (b : Octets) : Bool :=
  b.length < 3 || u16At b (b.length - 2) != (if iso || typeB then crc15693 (b.take (b.length - 2)) else crcA (b.take (b.length - 2)))

/-- Whether a reply's length does not fit what is expected (R119). An ATS names its own length, an ATQB has 12 bytes or, extended, 13.
(PRESUMED for the ATQB, log entry 35.) -/
def lengthBad (e : Expect) (f : TagReply) : Bool :=
  let n := f.bytes.length
  match e with
  | .nothing => false
  | .iso15 len => f.bits % 8 != 0 || (if (byteAt f.bytes 0) % 2 = 1 then n != 4 else match len with | some k => n != k | none => n < 3)
  | .atqa => f.bits != 16
  | .anticoll known => f.bits + known != 40
  | .sak => f.bits != 24
  | .ats => f.bits % 8 != 0 || n != byteAt f.bytes 0 + 2
  | .aData len => f.bits % 8 != 0 || (match len with | some k => n != k | none => n < 3)
  | .aAck => f.bits != 4
  | .atqb => n != 14 && n != 15
  | .b len => (match len with | some k => n != k | none => n < 3)
  | .block => f.bits % 8 != 0 || n < 3

/-- Whether a CRC is checked on a reply of more than 4 bits (R115, R116). -/
def crcChecked (e : Expect) (f : TagReply) : Bool :=
  match e with
  | .nothing | .atqa | .anticoll _ => false
  | .sak => !(byteAt f.bytes 0).testBit 2
  | _ => true

/-- Whether 0xA in 4 bits answers what was asked; to a command that expects data it is NAK like any other value (R116). -/
def ackAllowed (e : Expect) : Bool := match e with | .aAck | .aData none => true | _ => false

/-- Status and detail of a received frame (R128: the lowest non-zero code). (DEDUCED, log entry 35.) -/
def frameStatus (e : Expect) (typeB : Bool) (f : TagReply) : Nat × Nat :=
  let iso := match e with | .iso15 _ => true | _ => false
  let four := !iso && !typeB && f.bits == 4
  let base : List (Nat × Nat) :=
    [match f.truncated with | some n => (0x03, min 255 n) | none => (0, 0),
     if f.framing then (0x04, 0) else (0, 0),
     if typeB then (0, 0) else match f.collision with | some p => (0x05, min 255 p) | none => (0, 0),
     if iso || typeB then (0, 0) else match f.parity with | some p => (0x06, p) | none => (0, 0)]
  let rest : List (Nat × Nat) :=
    if four then
      (if ackAllowed e && byteAt f.bytes 0 % 16 == 0x0A then [] else [(0x0A, byteAt f.bytes 0 % 16)])
    else
      [if crcChecked e f && crcBad iso typeB f.bytes then (0x07, 0) else (0, 0),
       if lengthBad e f then (0x08, min 255 f.bytes.length) else (0, 0),
       if iso && (byteAt f.bytes 0) % 2 == 1 then (0x09, byteAt f.bytes 1) else (0, 0)]
  (base ++ rest).foldl lowerStatus (0, 0)

/-! ### Request frames -/

/-- No frame. -/
def Frame.blank : Frame :=
  { bytes := [], lastBits := 0, typeB := false, iso15 := false, short := false, eofOnly := false, window := .none,
    expect := .nothing, eof := none, idle := 0 }

/-- A 15693 request with its CRC. -/
def frame15 (b : Octets) (w : Window) (e : Expect) (eof : Option Nat) : Frame :=
  { Frame.blank with bytes := b ++ u16 (crc15693 b), iso15 := true, window := w, expect := e, eof := eof }

/-- The EOF alone that opens the next inventory slot (R141). -/
def frameEof : Frame := { Frame.blank with iso15 := true, eofOnly := true, window := .iso15, expect := .iso15 (some 12) }

/-- The last bit of a Type A frame as FDT takes it: the last data bit of a short frame, else the parity or last bit. -/
def lastBitOne (b : Octets) (lastBits : Nat) (short : Bool) : Bool :=
  let l := byteAt b (b.length - 1)
  if short then l.testBit 6
  else if lastBits ≠ 0 then l.testBit (lastBits - 1)
  else (List.range 8).foldl (fun (p : Bool) i => if l.testBit i then !p else p) true

/-- A Type A short frame of 7 bits. -/
def frameShort (c : Nat) : Frame :=
  { Frame.blank with
    bytes := u8 c, short := true, window := .aFdt (lastBitOne (u8 c) 0 true), expect := .atqa }

/-- A Type A standard frame with CRC_A. -/
def frameA (b : Octets) (w : Window) (e : Expect) : Frame :=
  { Frame.blank with bytes := b ++ u16 (crcA b), window := w, expect := e }

/-- A Type A frame with CRC_A answered at FDT. -/
def frameFdt (b : Octets) (e : Expect) : Frame :=
  let full := b ++ u16 (crcA b)
  { Frame.blank with bytes := full, window := .aFdt (lastBitOne full 0 false), expect := e }

/-- A Type B frame with CRC_B. -/
def frameB (b : Octets) (w : Window) (e : Expect) : Frame :=
  { Frame.blank with bytes := b ++ u16 (crc15693 b), typeB := true, window := w, expect := e }

/-- An anticollision frame at a cascade level with the bits known (R144). -/
def frameColl (level : Nat) (known : List Bool) : Frame :=
  let n := known.length
  let b := u8 (0x93 + 2 * level) ++ u8 (0x20 + 16 * (n / 8) + n % 8) ++ packBits 5 known
  { Frame.blank with
    bytes := b, lastBits := n % 8, window := .aFdt (lastBitOne b (n % 8) false), expect := .anticoll n }

/-- SELECT of a complete UID CLn (R144). -/
def frameSelect (level : Nat) (cl : Octets) : Frame :=
  frameFdt (u8 (0x93 + 2 * level) ++ u8 0x70 ++ cl ++ u8 (cl.foldl (fun n b => n ^^^ b.toNat) 0)) .sak

/-- The UID CLn of a cascade level of a whole UID. -/
def uidLevel (uid : Octets) (level : Nat) : Octets :=
  let left := uid.drop (3 * level)
  if left.length ≤ 4 then left.take 4 else u8 0x88 ++ left.take 3

/-- The 15693 request flags of a reply mode (R141; ISO/IEC 15693-3). -/
def flags15 (mode : Nat) : Nat :=
  match mode with
  | 0 => 0x02
  | 1 => 0x03
  | 2 => 0x00
  | _ => 0x01

/-- An inventory request (R141): AFI and mask, 1 or 16 slots. -/
def frameInv15 (mode afi : Nat) (wide : Bool) (mask len : Nat) : Frame :=
  let fl := flags15 mode + 0x04 + (if afi = 0 then 0 else 0x10) + (if wide then 0 else 0x20)
  frame15 (u8 fl ++ u8 0x01 ++ (if afi = 0 then [] else u8 afi) ++ u8 len ++ leBytes ((len + 7) / 8) mask) .iso15
    (.iso15 (some 12)) none

/-- STAY QUIET to a UID (R143); no reply. -/
def frameQuiet (mode : Nat) (uid : Octets) : Frame :=
  { frame15 (u8 (flags15 mode + 0x20) ++ u8 0x02 ++ uid) .none .nothing none with idle := 32802 + tagSof mode }

/-- An addressed 15693 request: flags, command, UID, parameters. -/
def request15 (mode cmd : Nat) (uid params : Octets) (option : Bool) : Octets :=
  u8 (flags15 mode + 0x20 + (if option then 0x40 else 0)) ++ u8 cmd ++ uid ++ params

/-- Whether a 15693 command is write-alike (R173): the write, lock, AFI and DSFID commands and their extended forms. -/
def writeAlike (cmd : Nat) : Bool := [0x21, 0x22, 0x24, 0x27, 0x28, 0x29, 0x2A, 0x31, 0x32, 0x34].contains cmd

/-! ### The tag table (R148 to R151, R164) -/

/-- The entry of a tenant, channel, protocol and UID. -/
def State.findTag (s : State) (t : Tenant) (ch proto : Nat) (uid : Octets) : Option (Nat × Tag) :=
  s.tags.find? (fun p => p.2.owner == t && p.2.channel == ch && p.2.proto == proto && p.2.uid == uid)

/-- The PRESENT entry of a tenant that a handle names. -/
def State.tagOf (s : State) (t : Tenant) (h : Nat) : Option Tag :=
  match s.tags.find? (fun p => p.1 == h) with
  | some (_, e) => if e.owner = t ∧ e.state = 1 then some e else none
  | none => none

/-- The ceiling of a tenant's entries, 0x901n.04 (R149). -/
def State.tagCeiling (s : State) (t : Tenant) : Nat := s.rd (ob (0x9010 + t.val) 0x04)

/-- The least handle that is free. -/
def State.freeHandle (s : State) : Option Nat := (List.range 8192).find? (fun h => !s.tags.any (fun p => p.1 == h))

/-- An entry set. -/
def State.setTag (s : State) (h : Nat) (e : Tag) : State := { s with tags := (h, e) :: s.tags.filter (fun p => p.1 != h) }

/-- The LOST entry of a tenant with the oldest last-seen time (R149). -/
def State.oldestLost (s : State) (t : Tenant) : Option Nat :=
  ((s.tags.filter (fun p => p.2.owner == t && p.2.state == 2)).foldl (fun (b : Option (Nat × Tag)) p => match b with
    | none => some p
    | some q => if p.2.lastSeen < q.2.lastSeen then some p else some q) none).map (·.1)

/-- A SINGLE outcome (R148, R149): the entry created or refreshed, with its handle; `none` when the table is full for the
tenant, which raises TABLE_FULL. -/
def State.single (s : State) (d : DueStep) (proto : Nat) (uid : Octets) (typ stamp : Nat) : State × Option Nat :=
  match s.findTag d.tenant d.channel proto uid with
  | some (h, e) =>
    let e' := { e with miss := 0, lastSeen := stamp, state := 1, typ := typ }
    let s' := s.setTag h e'
    if e.state = 2 then ((s'.commit .tags).channelEvent d.channel 2 [d.tenant] (e'.record h), some h) else (s', some h)
  | none =>
    let full := decide (s.tagCeiling d.tenant ≤ (s.tags.filter (fun p => p.2.owner == d.tenant)).length)
    let slot : Option (Nat × State) :=
      if full then
        match s.oldestLost d.tenant with
        | some h => some (h, { s with tags := s.tags.filter (fun p => p.1 != h) })
        | none => none
      else s.freeHandle.map (fun h => (h, s))
    match slot with
    | none => (s.channelEvent d.channel 4 [d.tenant] (u8 d.score ++ u8 d.step), none)
    | some (h, s) =>
      let e : Tag := { owner := d.tenant, channel := d.channel, proto := proto, state := 1, uid := uid, miss := 0,
                       typ := typ, lastSeen := stamp, firstSeen := s.now / 1000000 }
      (((s.setTag h e).commit .tags).channelEvent d.channel 2 [d.tenant] (e.record h), some h)

/-- Misses after a COMPLETE inventory (R150): entries not refreshed count one, and may become LOST. -/
def State.countMisses (s : State) (d : DueStep) (proto : Nat) (seen : List Nat) : State :=
  s.tags.foldl (fun s p =>
    if p.2.owner = d.tenant ∧ p.2.channel = d.channel ∧ p.2.proto = proto ∧ p.2.state = 1 ∧ seen.contains p.1 = false then
      let n := p.2.miss + 1
      if s.rd (obT 0x3000 0x03 d.tenant) ≤ n then
        ((s.setTag p.1 { p.2 with miss := n, state := 2 }).commit .tags).channelEvent d.channel 3 [d.tenant] (u16 p.1)
      else s.setTag p.1 { p.2 with miss := n }
    else s) s

end Sys2Proof.Machine
end

