-- ==== Sys2Proof/Machine/Sequencers.lean ====
section
/-! DEFINITION. The protocol sequencers (chapters 5 to 7): what each kind of step sends first, and what it does with each reply —
inventory (R138 to R145), commands, activation (R120, R121), the block transport (R122 to R125), NDEF reads (R126, R127), writes
(R168 to R182) and authentication (R183 to R189). -/

namespace Sys2Proof.Machine

/-- How a step ends: outcome (Table 13-11), frame status and detail (Table 5-6), result data. -/
structure End where
  outcome : Nat
  status  : Nat
  detail  : Nat
  data    : Octets
deriving DecidableEq, Repr

/-- One turn of a sequencer: the state, the exchange, and the step's end if it has come. -/
abbrev Turn := State × Exchange × Option End

/-- The next frame handed to the voice (R108). -/
def send (s : State) (x : Exchange) (p : Prog) (f : Frame) : Turn := (s, { x with prog := p, frame := f, air := .ready }, none)

/-- The step ends. -/
def stop (s : State) (x : Exchange) (outcome status detail : Nat) (data : Octets) : Turn :=
  (s, { x with air := .none }, some ⟨outcome, status, detail, data⟩)

/-- The step ends with its last frame's status and no other outcome. -/
def stopFrame (s : State) (x : Exchange) (data : Octets) : Turn := stop s x 0 x.status x.detail data

/-! ### Sessions (R125, R186) -/

/-- A session in which nothing is open. -/
def TagSession.blank (d : DueStep) : TagSession :=
  { blockOn := false, typeB := false, fsc := 256, fwi := 4, number := 0, cid := false, rate := 0, tenant := d.tenant,
    channel := d.channel, selected := 0xFFFF, auth := none, challenge := none }

/-- The session of a voice for a step, a blank one where there is none of its tenant and channel. -/
def State.session (s : State) (v : VoiceId) (d : DueStep) : TagSession :=
  match s.voices[v].session with
  | some z => if z.tenant = d.tenant ∧ z.channel = d.channel then z else TagSession.blank d
  | none => TagSession.blank d

/-- The session changed. -/
def State.setSession (s : State) (v : VoiceId) (d : DueStep) (f : TagSession → TagSession) : State :=
  let z := f (s.session v d)
  s.setVoice v (fun x => { x with session := some z })

/-! ### ISO/IEC 15693 inventory (R139 to R143) -/

/-- The next queued round, or the end of the step (R139). -/
def inv15Next (s : State) (d : DueStep) (x : Exchange) (p : Inv15) : Turn :=
  match p.queue with
  | [] => stop s x 1 x.status x.detail []
  | (m, l) :: q =>
    if s.rd (obT 0x3000 0x04 d.tenant) ≤ p.rounds then
      stop s { x with count := p.queue.length + p.lost } 2 x.status x.detail []
    else
      let p := { p with wide := true, mask := m, len := l, slot := 0, queue := q }
      send s x (.inv15 p) (frameInv15 d.settings.mode (byteAt d.record 13) true m l)

/-- After a round: STAY QUIET to each tag of it where the step asks (R143), then the next round. -/
def inv15Quiet (s : State) (d : DueStep) (x : Exchange) (p : Inv15) : Turn :=
  match p.quiet with
  | [] => inv15Next s d x p
  | u :: l => send s x (.quiet15 { p with quiet := l }) (frameQuiet d.settings.mode u)

/-- A slot's outcome (R138, R142, R143). (DEDUCED, log entry 36.) -/
def inv15Slot (s : State) (d : DueStep) (x : Exchange) (p : Inv15) (b : Octets) : Turn :=
  let (s, x, p) :=
    if x.status = 0 then
      let (s', h) := s.single d 1 (slice 2 8 b) (byteAt b 1) x.stamp
      let x := { x with count := x.count + 1, full := x.full || h.isNone, refreshed := h.toList ++ x.refreshed }
      (s', x, if byteAt d.record 23 = 1 then { p with quiet := p.quiet ++ [slice 2 8 b] } else p)
    else if x.status = 2 then (s, x, p)
    else if !p.wide then (s, x, { p with queue := p.queue ++ [(p.mask, p.len)] })
    else if 60 < p.len + 4 then (s, x, { p with lost := p.lost + 1 })
    else (s, x, { p with queue := p.queue ++ [(p.mask + p.slot * 2 ^ p.len, p.len + 4)] })
  if p.wide && p.slot < 15 then send s x (.inv15 { p with slot := p.slot + 1 }) frameEof
  else inv15Quiet s d { x with rounds := p.rounds + 1 } { p with rounds := p.rounds + 1 }

/-! ### Type A inventory (R144) -/

/-- A round begun with REQA or WUPA. -/
def invARound (s : State) (d : DueStep) (x : Exchange) (p : InvA) : Turn :=
  send s x (.invAReq { p with level := 0, known := [], uid := [] })
    (frameShort (if byteAt d.record 12 = 1 then 0x52 else 0x26))

/-- The end of a round: `bad` where its slot was CORRUPT. -/
def invAEnd (s : State) (d : DueStep) (x : Exchange) (p : InvA) (bad : Bool) : Turn :=
  let x := { x with rounds := x.rounds + 1 }
  if s.rd (obT 0x3000 0x04 d.tenant) ≤ x.rounds then
    if bad then stop s { x with count := 1 } 2 x.status x.detail [] else stop s x 1 x.status x.detail []
  else invARound s d x { p with rounds := x.rounds }

/-- HLTA; no reply, so the gap is that of its window (Table 5-5). -/
def frameHlta (timeout : Nat) : Frame := frameA (u8 0x50 ++ u8 0x00) (.aOther (timeout * 100)) .nothing

/-- A reply to one stage of a Type A round. A missing one leaves the slot EMPTY (R138, R147), every other failure CORRUPT. A UID CLn whose
BCC is wrong takes the frame status CRC_ERROR, as Table 5-6 has none for it. (DESIGN CHOICE, log entry 36.) -/
def invAReply (s : State) (d : DueStep) (x : Exchange) (prog : Prog) (b : Octets) (bits : Nat) : Turn :=
  match prog with
  | .invAReq p =>
    if x.status = 2 then stop s { x with rounds := x.rounds + 1 } 1 x.status x.detail []
    else if x.status = 0 ∨ x.status = 5 then send s x (.invAColl p) (frameColl 0 [])
    else invAEnd s d x p true
  | .invAColl p =>
    if x.status = 0 then
      let all := p.known ++ unpackBits b bits
      let cl := packBits 5 all
      if (cl.take 4).foldl (fun n c => n ^^^ c.toNat) 0 = byteAt cl 4 then
        send s x (.invASel { p with known := all }) (frameSelect p.level (cl.take 4))
      else invAEnd s d { x with status := 0x07, detail := 0 } p true
    else if x.status = 5 then
      let known := p.known ++ unpackBits b x.detail ++ [true]
      if 32 < known.length then invAEnd s d x p true
      else send s x (.invAColl { p with known := known }) (frameColl p.level known)
    else invAEnd s d x p (x.status != 2)
  | .invASel p =>
    let cl := packBits 4 (p.known.take 32)
    if x.status ≠ 0 then invAEnd s d x p (x.status != 2)
    else if (byteAt b 0).testBit 2 then
      if p.level < 2 then
        send s x (.invAColl { p with level := p.level + 1, known := [], uid := p.uid ++ cl.drop 1 }) (frameColl (p.level + 1) [])
      else invAEnd s d x p true
    else
      let (s, h) := s.single d 2 (p.uid ++ cl) (byteAt b 0) x.stamp
      let x := { x with count := x.count + 1, full := x.full || h.isNone, refreshed := h.toList ++ x.refreshed }
      if byteAt d.record 13 = 1 then send s x (.invAHalt p) (frameHlta d.settings.aWait) else invAEnd s d x p false
  | .invAHalt p => invAEnd s d x p false
  | _ => stopFrame s x []

/-! ### Type B inventory (R145) -/

/-- The AFI of a Type B inventory: the step's (R145, Table 6-7). -/
def afiB (d : DueStep) : Nat := byteAt d.record 13

/-- REQB, or WUPB, with an AFI and an N code; its bit 4 offers the extended ATQB (Table 5-1). (PRESUMED for the place of the bits,
log entry 36.) -/
def frameReqB (afi code : Nat) (wup : Bool) : Frame :=
  frameB (u8 0x05 ++ u8 afi ++ u8 (0x10 + (if wup then 8 else 0) + code)) .bReq .atqb

/-- The N code of REQB. -/
def slotsCode (n : Nat) : Nat := if n = 1 then 0 else if n = 2 then 1 else if n = 4 then 2 else if n = 8 then 3 else 4

/-- A round begun with REQB or WUPB. -/
def invBRound (s : State) (d : DueStep) (x : Exchange) (p : InvB) : Turn :=
  send s x (.invBSlot { p with slot := 0, bad := 0, any := false })
    (frameReqB (afiB d) (slotsCode p.n) (byteAt d.record 14 == 1))

/-- The next slot of a round, or the round's end. -/
def invBNext (s : State) (d : DueStep) (x : Exchange) (p : InvB) : Turn :=
  if p.slot + 1 < p.n then
    send s x (.invBSlot { p with slot := p.slot + 1 }) (frameB (u8 ((p.slot + 1) * 16 + 5)) .bReq .atqb)
  else
    let x := { x with rounds := x.rounds + 1 }
    if !p.any then stop s x 1 x.status x.detail []
    else if s.rd (obT 0x3000 0x04 d.tenant) ≤ x.rounds then
      if p.bad = 0 then stop s x 1 x.status x.detail [] else stop s { x with count := p.bad } 2 x.status x.detail []
    else invBRound s d x { p with n := if p.bad = 0 then p.n else min 16 (2 * p.n) }

/-- A reply in a Type B round: a SINGLE ATQB is halted at once. -/
def invBReply (s : State) (d : DueStep) (x : Exchange) (prog : Prog) (b : Octets) : Turn :=
  match prog with
  | .invBSlot p =>
    if x.status = 2 then invBNext s d x p
    else if x.status = 0 ∧ byteAt b 0 = 0x50 ∧ 14 ≤ b.length then
      let (s, h) := s.single d 3 (slice 1 4 b) (byteAt b 9) x.stamp
      let x := { x with count := x.count + 1, full := x.full || h.isNone, refreshed := h.toList ++ x.refreshed }
      send s x (.invBHalt { p with any := true })
        (frameB (u8 0x50 ++ slice 1 4 b) (.bFwt (fwt (byteAt b 11 / 16) + dFwt)) (.b (some 3)))
    else invBNext s d x { p with any := true, bad := p.bad + 1 }
  | .invBHalt p => invBNext s d x p
  | _ => stopFrame s x []

/-! ### Block transport (R120 to R125) -/

/-- A command to exchange. -/
def BlockEx.start (cmd : Octets) : BlockEx :=
  { left := cmd, got := [], sent := [], retries := 0, wtxSum := 0, wtxN := 0, temp := none, wtxFrom := none, rxChain := false,
    txChain := false, ending := none }

/-- A block with its CID and CRC; its window is FWT, or the temporary one (R122). -/
def blockFrame (z : TagSession) (temp : Option Nat) (pcb : Nat) (inf : Octets) : Frame :=
  let b := u8 (pcb + (if z.cid then 8 else 0)) ++ (if z.cid then u8 0 else []) ++ inf
  let w := Window.block z.typeB ((match temp with | some t => t | none => fwt z.fwi) + dFwt)
  if z.typeB then frameB b w .block else frameA b w .block

/-- The next I-block of the command (R124). -/
def blockNext (z : TagSession) (p : BlockEx) : Frame × BlockEx :=
  let room := z.fsc - 3 - (if z.cid then 1 else 0)
  let part := p.left.take room
  let more := decide (room < p.left.length)
  let f := blockFrame z none (0x02 + z.number + (if more then 0x10 else 0)) part
  (f, { p with left := p.left.drop room, sent := f.bytes, txChain := more, retries := 0, temp := none })

/-- What a block exchange answers: another turn, or the complete response. -/
inductive BlockOut where
  | turn (t : Turn)
  | done (s : State) (x : Exchange) (resp : Octets)

/-- S(DESELECT) sent before the step ends (R122 to R125), at the session's rates; the session ends with it. -/
def deselect (s : State) (v : VoiceId) (d : DueStep) (x : Exchange) (e : End) : Turn :=
  send (s.cancel (.wtx v)) x (.deselect e.outcome e.status e.detail e.data) (blockFrame (s.session v d) none 0xC2 [])

/-- The block-transport session over. -/
def State.closeSession (s : State) (v : VoiceId) (d : DueStep) : State :=
  s.setSession v d (fun z => { z with blockOn := false, selected := 0xFFFF })

/-- A failed frame of an exchange (R123): R(NAK), or R(ACK) while a chain comes in, up to the limit; then S(DESELECT). -/
def blockFail (s : State) (v : VoiceId) (d : DueStep) (x : Exchange) (p : BlockEx) (wrap : BlockEx → Prog) : Turn :=
  let z := s.session v d
  if p.retries < d.settings.retries then
    send (s.inc (ob (0x2480 + v.val) 0x05)) x (wrap { p with retries := p.retries + 1, temp := none })
      (blockFrame z none ((if p.rxChain then 0xA2 else 0xB2) + z.number) [])
  else if x.status = 0x02 then deselect s v d x ⟨0, 0x0B, p.retries, []⟩
  else deselect s v d x ⟨0, x.status, x.detail, []⟩

/-- PROTOCOL_ERROR (R122, R123): the frame is not accepted (R93). The session stays open and no S(DESELECT) follows, of which R123 says
nothing. (DESIGN CHOICE, log entry 37.) -/
def blockWrong (s : State) (x : Exchange) (detail : Nat) : Turn :=
  stop s { x with status := 0x0C, detail := detail } 0 0x0C detail []

/-- A reply in a block exchange. -/
def blockReply (s : State) (v : VoiceId) (d : DueStep) (x : Exchange) (p : BlockEx) (wrap : BlockEx → Prog) (b : Octets) : BlockOut :=
  let z := s.session v d
  let p := { p with temp := none }
  if (2 ≤ x.status ∧ x.status ≤ 4) ∨ (6 ≤ x.status ∧ x.status ≤ 8) then .turn (blockFail s v d x p wrap)
  else if x.status ≠ 0 then .turn (stopFrame s x [])
  else
    let pcb := byteAt b 0
    let hdr := if pcb.testBit 3 then 2 else 1
    let inf := slice hdr (b.length - 2 - hdr) b
    let kind := pcb / 64
    if pcb &&& 0xF7 = 0xF2 then
      let m := byteAt inf 0 % 64
      let s := s.inc (ob (0x2480 + v.val) 0x06)
      if m = 0 ∨ 59 < m then .turn (blockWrong s x 0)
      else
        let t := min 494900000 (fwt z.fwi * m)
        .turn (send s x (wrap { p with temp := some t, wtxN := p.wtxN + 1 }) (blockFrame z (some t) 0xF2 (u8 (byteAt inf 0))))
    else if kind = 0 ∧ pcb.testBit 1 = true then
      if pcb % 2 ≠ z.number ∨ p.txChain = true then .turn (blockWrong s x pcb)
      else
        let s := s.setSession v d (fun z => { z with number := 1 - z.number })
        let z := s.session v d
        let got := p.got ++ inf
        if 1026 < got.length then .turn (deselect s v d x ⟨0, 0x08, 255, []⟩)
        else if pcb.testBit 4 then
          .turn (send s x (wrap { p with got := got, rxChain := true, retries := 0 }) (blockFrame z none (0xA2 + z.number) []))
        else .done s x got
    else if pcb &&& 0xF6 = 0xA2 then
      if pcb % 2 = z.number ∧ p.txChain = true then
        let s := s.setSession v d (fun z => { z with number := 1 - z.number })
        let (f, p) := blockNext (s.session v d) p
        .turn (send s x (wrap p) f)
      else .turn (blockWrong s x pcb)
    else .turn (blockWrong s x pcb)

/-- A command begun on an open session. -/
def blockStart (s : State) (v : VoiceId) (d : DueStep) (x : Exchange) (cmd : Octets) (wrap : BlockEx → Prog) : Turn :=
  let (f, p) := blockNext (s.session v d) (BlockEx.start cmd)
  send s x (wrap p) f

/-! ### Activation (R120, R121) -/

/-- The highest rate up to `top` that three rate bits declare (bit 0 for 212, 1 for 424, 2 for 848 kbit/s). -/
def bestRate (bits top : Nat) : Nat :=
  if 3 ≤ top ∧ bits.testBit 2 = true then 3 else if 2 ≤ top ∧ bits.testBit 1 = true then 2
  else if 1 ≤ top ∧ bits.testBit 0 = true then 1 else 0

/-- The rates proposed from a rate byte (TA(1) or the ATQB's): to the tag in bits 2:0, from it in bits 6:4, bit 7 the same in
both. The answer is reader-to-tag plus four times tag-to-reader. -/
def proposeRate (ta top : Nat) : Nat :=
  if ta.testBit 7 then (let r := bestRate ((ta % 8) &&& (ta / 16 % 8)) top; r + 4 * r)
  else bestRate (ta % 8) top + 4 * bestRate (ta / 16 % 8) top

/-- FSC of an FSCI (R120). -/
def fscOf (fsci : Nat) : Nat :=
  match fsci with
  | 0 => 16 | 1 => 24 | 2 => 32 | 3 => 40 | 4 => 48 | 5 => 64 | 6 => 96 | 7 => 128
  | _ => 256

/-- An ATS taken apart: FSCI, FWI, SFGI, TA(1) and CID support, with the defaults of R120. -/
def parseAts (b : Octets) : Nat × Nat × Nat × Nat × Bool :=
  let t0 := if 2 ≤ b.length ∧ 1 < byteAt b 0 then byteAt b 1 else 0x02
  let hasA := t0.testBit 4
  let hasB := t0.testBit 5
  let hasC := t0.testBit 6
  let ib := 2 + (if hasA then 1 else 0)
  let ic := ib + (if hasB then 1 else 0)
  (t0 % 16, if hasB then byteAt b ib / 16 else 4, if hasB then byteAt b ib % 16 else 0, if hasA then byteAt b 2 else 0,
   hasC && (byteAt b ic).testBit 1)

/-- RATS (R120). Of Table 5-4's rows it takes that of the other layer-3 frames, which come before the session. (DESIGN CHOICE, log
entry 37.) -/
def sendRats (s : State) (d : DueStep) (x : Exchange) : Turn :=
  send s x .actRats (frameA (u8 0xE0 ++ u8 (d.settings.fsdi * 16)) (.aOther (d.settings.aWait * 100)) .ats)

/-- Activation of a selected Type A tag goes on after its ATS: the session opens; PPS where a higher rate is proposed (R121). Of Table 5-4's
rows PPS takes that of the block-transport frames, which the session's FWT times. (DESIGN CHOICE, log entry 37.) -/
def afterAts (s : State) (v : VoiceId) (d : DueStep) (x : Exchange) (b : Octets) : Turn :=
  let ats := b.take (b.length - 2)
  let (fsci, fwi, sfgi, ta, cid) := parseAts ats
  let rate := proposeRate ta d.settings.rate
  let s := s.setSession v d (fun z => { z with
      blockOn := true, typeB := false, fsc := fscOf fsci,
      fwi := (if fwi = 15 then 4 else fwi), number := 0, cid := d.settings.useCid && cid, rate := 0 })
  let x := { x with gap := x.gap + (sfgt sfgi - 8643) }
  if rate = 0 then stop s x 0 0 0 ats
  else send s x (.actPps ats) (frameA (u8 0xD0 ++ u8 0x11 ++ u8 (rate % 4 + 4 * (rate / 4))) (.block false (fwt fwi + dFwt)) (.aData (some 3)))

/-- A reply during activation. -/
def actReply (s : State) (v : VoiceId) (d : DueStep) (x : Exchange) (prog : Prog) (b : Octets) : Turn :=
  match prog with
  | .actRats => if x.status = 0 then afterAts s v d x b else stopFrame s x []
  | .actPps ats =>
    let (_, _, _, ta, _) := parseAts ats
    let s := if x.status = 0 ∧ byteAt b 0 = 0xD0 then s.setSession v d (fun z => { z with rate := proposeRate ta d.settings.rate }) else s
    stop s x 0 0 0 ats
  | .wakeB =>
    match s.tagOf d.tenant (u16At d.record 12) with
    | none => stop s x 0x18 0xFF 0 []
    | some e =>
      if x.status ≠ 0 then stopFrame s x []
      else if slice 1 4 b ≠ e.uid then stop s x 0x18 0xFF 0 []
      else
        let rate := proposeRate (byteAt b 9) d.settings.rate
        let fwi := byteAt b 11 / 16
        let s := s.setSession v d (fun z => { z with cid := d.settings.useCid && (byteAt b 11).testBit 0 })
        send s x (.actAttrib rate fwi (byteAt b 10 / 16))
          (frameB (u8 0x1D ++ e.uid ++ u8 0 ++ u8 (d.settings.fsdi + 16 * (rate % 4) + 64 * (rate / 4)) ++ u8 1 ++ u8 0)
            (.bFwt (fwt fwi + dFwt)) (.b (some 3)))
  | .actAttrib rate fwi fsci =>
    if x.status = 0 then
      let s := s.setSession v d (fun z => { z with
          blockOn := true, typeB := true, fsc := fscOf fsci,
          fwi := (if fwi = 15 then 4 else fwi), number := 0, rate := rate })
      stop s x 0 0 0 (b.take (b.length - 2))
    else stopFrame s x []
  | _ => stopFrame s x []

/-! ### NDEF (R126, R127) -/

/-- What the TLVs read so far say: so many bytes of the data area are needed, no NDEF TLV, too long, or the message. -/
inductive Tlv where
  | need (n : Nat) | absent | tooLong | message (b : Octets)
deriving DecidableEq, Repr

/-- `n` bytes from `pos` on, skipping reserved areas given as absolute (start, length); `base` is the address of position 0. -/
def collect (data : Octets) (base : Nat) (resv : List (Nat × Nat)) : Nat → Nat → Nat → Octets → Tlv
  | 0, pos, _, _ => .need (pos + 1)
  | f + 1, pos, n, got =>
    if n = 0 then .message got
    else if resv.any (fun r => r.1 ≤ base + pos && base + pos < r.1 + r.2) then collect data base resv f (pos + 1) n got
    else if data.length ≤ pos then .need (pos + n)
    else collect data base resv f (pos + 1) (n - 1) (got ++ slice pos 1 data)

/-- The reserved area of a Lock Control or Memory Control TLV: byte address and length (NFC Forum Type 2). -/
def reservedArea (lock : Bool) (a b c : Nat) : Nat × Nat :=
  let size := if b = 0 then 256 else b
  (a / 16 * 2 ^ (c % 16) + a % 16, if lock then (size + 7) / 8 else size)

/-- The TLVs of a data area parsed (R126); reserved areas are skipped only on a Type 2 tag. -/
def parseTlv (type2 : Bool) (data : Octets) (base area top : Nat) : Nat → Nat → List (Nat × Nat) → Tlv
  | 0, _, _ => .absent
  | f + 1, pos, resv =>
    if area ≤ pos then .absent
    else if data.length ≤ pos then .need (pos + 1)
    else
      let t := byteAt data pos
      if t = 0 then parseTlv type2 data base area top f (pos + 1) resv
      else if t = 0xFE then .absent
      else if area < pos + 2 then .absent
      else if data.length < pos + 2 then .need (pos + 2)
      else if byteAt data (pos + 1) = 0xFF ∧ data.length < pos + 4 then .need (pos + 4)
      else
        let long := byteAt data (pos + 1) == 0xFF
        let l := if long then byteAt data (pos + 2) * 256 + byteAt data (pos + 3) else byteAt data (pos + 1)
        let v := pos + (if long then 4 else 2)
        if t = 3 then if top < l then .tooLong else collect data base resv (area + l + 4096) v l []
        else if type2 = true ∧ (t = 1 ∨ t = 2) ∧ l = 3 then
          if data.length < v + 3 then .need (v + 3)
          else parseTlv type2 data base area top f (v + 3)
            (reservedArea (t == 1) (byteAt data v) (byteAt data (v + 1)) (byteAt data (v + 2)) :: resv)
        else parseTlv type2 data base area top f (v + l) resv

/-- READ of four Type 2 blocks. -/
def read2 (d : DueStep) (block : Nat) : Frame :=
  frameA (u8 0x30 ++ u8 block) (.aOther (d.settings.aWait * 100)) (.aData (some 18))

/-- A Type 2 read goes on (R126): READ by READ until the message is there. Block 0xFF is the last one that the procedure reaches. -/
def ndef2Step (s : State) (d : DueStep) (x : Exchange) (pos : Nat) (cc got : Octets) : Turn :=
  let got := got.take 1008
  match parseTlv true got 16 (8 * byteAt cc 2) d.settings.ndefMax (8 * 256 + 16) 0 [] with
  | .absent => stop s x 0 0x11 0 []
  | .tooLong => stop s x 0 0x12 0 []
  | .message m => stop s x 0 0 0 m
  | .need n => if 1008 < n ∨ 0xFF < pos then stop s x 0 0x0F 0 [] else send s x (.ndef2 (pos + 4) cc got) (read2 d pos)

/-- A reply of a Type 2 read; the first one, from block 3, holds the CC. -/
def ndef2Reply (s : State) (d : DueStep) (x : Exchange) (pos : Nat) (cc got b : Octets) : Turn :=
  let data := b.take 16
  if x.status ≠ 0 then stopFrame s x []
  else if cc.isEmpty then
    if byteAt data 0 ≠ 0xE1 ∨ byteAt data 1 / 16 ≠ 1 then stop s x 0 0x10 (byteAt data 0) []
    else ndef2Step s d x 7 (data.take 4) (data.drop 4)
  else ndef2Step s d x pos cc (got ++ data)

/-- The block address of a Type 5 request and whether the extended commands are in use (CC byte 0 is 0xE2). -/
def read5 (d : DueStep) (uid : Octets) (cc : Octets) (pos n size : Nat) : Frame :=
  let ext := byteAt cc 0 == 0xE2
  let addr := if ext then u16 pos else u8 pos
  if (byteAt cc 3).testBit 0 && decide (1 < n) then
    frame15 (request15 d.settings.mode (if ext then 0x33 else 0x23) uid (addr ++ (if ext then u16 (n - 1) else u8 (n - 1))) false)
      .iso15 (.iso15 (some (3 + n * size))) none
  else
    frame15 (request15 d.settings.mode (if ext then 0x30 else 0x20) uid addr false) .iso15
      (.iso15 (if size = 0 then none else some (3 + size))) none

/-- A Type 5 read goes on: the blocks that the parse still needs, up to 16 at a time where the tag takes multiple reads. -/
def ndef5Step (s : State) (d : DueStep) (x : Exchange) (uid : Octets) (pos size : Nat) (cc got : Octets) : Turn :=
  let ccLen := if byteAt cc 2 = 0 then 8 else 4
  if got.length < ccLen then send s x (.ndef5 pos size cc got) (read5 d uid cc pos 1 size)
  else
    let area := 8 * (if ccLen = 8 then byteAt got 6 * 256 + byteAt got 7 else byteAt got 2)
    match parseTlv false (got.drop ccLen) ccLen area d.settings.ndefMax (area + 16) 0 [] with
    | .absent => stop s x 0 0x11 0 []
    | .tooLong => stop s x 0 0x12 0 []
    | .message m => stop s x 0 0 0 m
    | .need n =>
      let want := max 1 (min 16 (ceilDiv (ccLen + n - got.length) (max 1 size)))
      send s x (.ndef5 pos size cc got) (read5 d uid cc pos want size)

/-- A reply of a Type 5 read; the first one, of block 0, fixes the block size and the CC. R126 does not say which major version is
supported: 1. (DESIGN CHOICE, log entry 36.) -/
def ndef5Reply (s : State) (d : DueStep) (x : Exchange) (pos size : Nat) (cc got b : Octets) : Turn :=
  match s.tagOf d.tenant (u16At d.record 12) with
  | none => stop s x 0x18 0xFF 0 []
  | some e =>
    let data := slice 1 (b.length - 3) b
    if x.status ≠ 0 then stopFrame s x []
    else if cc.isEmpty then
      if (byteAt data 0 ≠ 0xE1 ∧ byteAt data 0 ≠ 0xE2) ∨ byteAt data 1 / 64 ≠ 1 then stop s x 0 0x10 (byteAt data 0) []
      else ndef5Step s d x e.uid 1 data.length (data.take 4) data
    else ndef5Step s d x e.uid (pos + data.length / max 1 size) size cc (got ++ data)

/-- READ BINARY. -/
def readBinary (off n : Nat) : Octets := u8 0x00 ++ u8 0xB0 ++ beBytes 2 off ++ u8 n

/-- SELECT of a file by its identifier. -/
def selectFile (b : Octets) : Octets := u8 0x00 ++ u8 0xA4 ++ u8 0x00 ++ u8 0x0C ++ u8 2 ++ b

/-- The SELECT of the NDEF application by name (R126). -/
def selectNdef : Octets := [0x00, 0xA4, 0x04, 0x00, 0x07, 0xD2, 0x76, 0x00, 0x00, 0x85, 0x01, 0x01, 0x00]

/-- The response of one stage of a Type 4 read (R126): 0 application, 1 CC file, 2 CC, 3 NDEF file, 4 length, 5 message. R126 does not say
which major versions are supported: 1 to 3. (DESIGN CHOICE, log entry 36.) -/
def ndef4Done (s : State) (v : VoiceId) (d : DueStep) (x : Exchange) (stage off left : Nat) (cc got resp : Octets) : Turn :=
  let ok := 2 ≤ resp.length && slice (resp.length - 2) 2 resp == [0x90, 0x00]
  let data := resp.take (resp.length - 2)
  let ext := byteAt cc 7 == 0x06
  let mle := max 1 (min 255 (byteAt cc 3 * 256 + byteAt cc 4))
  let next := fun (stage off left : Nat) (cc got cmd : Octets) =>
    blockStart s v d x cmd (fun p => .ndef4 stage off left cc got p)
  if !ok then stop s x 0 0x11 0 []
  else match stage with
    | 0 => next 1 0 0 [] [] (selectFile [0xE1, 0x03])
    | 1 => next 2 0 0 [] [] (readBinary 0 15)
    | 2 =>
      if byteAt data 2 / 16 < 1 ∨ 3 < byteAt data 2 / 16 then stop s x 0 0x10 (byteAt data 0) []
      else if byteAt data 7 ≠ 0x04 ∧ byteAt data 7 ≠ 0x06 then stop s x 0 0x11 0 []
      else next 3 0 0 data [] (selectFile (slice 9 2 data))
    | 3 => next 4 0 0 cc [] (readBinary 0 (if ext then 4 else 2))
    | 4 =>
      let l := beNat data
      if d.settings.ndefMax < l then stop s x 0 0x12 0 []
      else if l = 0 then stop s x 0 0 0 []
      else
        let o := if ext then 4 else 2
        next 5 o l cc [] (readBinary o (min mle l))
    | _ =>
      let got := got ++ data.take left
      let left' := left - data.length
      if left' = 0 then stop s x 0 0 0 got
      else if data.isEmpty then stop s x 0 0x11 0 []
      else next 5 (off + data.length) left' cc got (readBinary (off + data.length) (min mle left'))

/-! ### Writing (R168 to R182) -/

/-- A write step's parameters (Table 7-1). -/
structure WriteArgs where
  handle : Nat
  mode   : Nat
  size   : Nat
  copyA  : Nat
  copyB  : Nat
  flag   : Nat
  n      : Nat
  flags  : Nat
  pay    : Nat
deriving DecidableEq, Repr

/-- The parameters of a record. -/
def writeArgs (r : Octets) : WriteArgs :=
  { handle := u16At r 12, mode := byteAt r 14, size := byteAt r 15, copyA := u16At r 16, copyB := u16At r 18,
    flag := u16At r 20, n := byteAt r 22, flags := byteAt r 23, pay := u16At r 24 }

/-- The write report (Table 7-3). -/
def WriteJob.report (p : WriteJob) (mode : Nat) : Octets :=
  u8 mode ++ u8 p.stage ++ u8 p.copy ++ u8 p.source ++ u16 p.gen ++ u8 p.written ++ u8 (min 255 p.rewrites) ++
    padTo 4 p.flagRead ++ u8 p.after ++ [0, 0, 0]

/-- A write not begun. -/
def WriteJob.blank : WriteJob :=
  { stage := 0, copy := 0xFF, source := 0xFF, gen := 0, written := 0, rewrites := 0, flagRead := [], after := 0xFF,
    phase := 0, plan := [], mem := [], block := 0, tries := [] }

/-- Reads of single blocks, or of runs of blocks that lie together (R172). -/
def readPlan (multi : Bool) (l : List (Nat × Nat)) : List (Nat × Nat) :=
  if multi then
    l.foldl (fun (acc : List (Nat × Nat)) p => match acc.getLast? with
      | some q => if q.1 + q.2 = p.1 then acc.dropLast ++ [(q.1, q.2 + p.2)] else acc ++ [p]
      | none => [p]) []
  else l.flatMap (fun p => (List.range p.2).map (fun k => (p.1 + k, 1)))

/-- The bytes of `n` blocks from `a` on, as read. -/
def WriteJob.bytes (p : WriteJob) (a n : Nat) : Octets :=
  (List.range n).flatMap (fun k => match p.mem.find? (fun m => m.1 == a + k) with | some m => m.2 | none => [])

/-- Whether a copy is valid, with its generation (R175). -/
def copyGen (b : Octets) : Option Nat :=
  if b.length < 8 then none
  else if u16At b (b.length - 2) = crc15693 (b.take (b.length - 2)) then some (u16At b (b.length - 4)) else none

/-- The copy that a valid flag selects with its generation's low byte (R175). -/
def flagOf (b : Octets) : Option (Nat × Nat) :=
  if b.length < 4 then none
  else if (byteAt b 0 = 0xA5 ∨ byteAt b 0 = 0x5A) ∧ byteAt b 2 = (byteAt b 0 ^^^ 0xFF) ∧ byteAt b 3 = (byteAt b 1 ^^^ 0xFF) then
    some (if byteAt b 0 = 0xA5 then 0 else 1, byteAt b 1)
  else none

/-- The committed view (R176): the committed copy with its generation and the source; none where the record is empty. -/
def committedView (a b f : Octets) : Option (Nat × Nat) × Nat :=
  let ga := copyGen a
  let gb := copyGen b
  let byFlag : Option (Nat × Nat) :=
    match flagOf f with
    | some (0, g) => (match ga with | some x => if x % 256 = g then some (0, x) else none | none => none)
    | some (_, g) => (match gb with | some x => if x % 256 = g then some (1, x) else none | none => none)
    | none => none
  match byFlag, ga, gb with
  | some c, _, _ => (some c, 0)
  | none, some x, none => (some (0, x), 1)
  | none, none, some y => (some (1, y), 1)
  | none, some x, some y =>
    if 1 ≤ (y + 65536 - x) % 65536 ∧ (y + 65536 - x) % 65536 ≤ 32767 then (some (1, y), 1) else (some (0, x), 1)
  | none, none, none => (none, 2)

/-- A read frame of the tag (R168, R172). -/
def readBlocks (d : DueStep) (a : WriteArgs) (e : Tag) (start n : Nat) : Frame :=
  if e.proto = 2 then frameA (u8 0x30 ++ u8 start) (.aOther (d.settings.aWait * 100)) (.aData (some 18))
  else
    let ext := a.flags.testBit 2
    let addr := if ext then u16 start else u8 start
    if n = 1 then
      frame15 (request15 d.settings.mode (if ext then 0x30 else 0x20) e.uid addr false) .iso15 (.iso15 (some (3 + a.size))) none
    else
      frame15 (request15 d.settings.mode (if ext then 0x33 else 0x23) e.uid (addr ++ (if ext then u16 (n - 1) else u8 (n - 1))) false)
        .iso15 (.iso15 (some (3 + n * a.size))) none

/-- A write frame of one block (R168, R173, R174). -/
def writeBlock (s : State) (d : DueStep) (a : WriteArgs) (e : Tag) (block : Nat) (data : Octets) : Frame :=
  if e.proto = 2 then
    frameA (u8 0xA2 ++ u8 block ++ padTo 4 data) (.aOther (s.rd (obT 0x3100 0x05 d.tenant) * 100)) .aAck
  else
    let ext := a.flags.testBit 2
    let opt := a.flags.testBit 0
    let req := request15 d.settings.mode (if ext then 0x31 else 0x21) e.uid ((if ext then u16 block else u8 block) ++ data) opt
    if opt then frame15 req .iso15 (.iso15 (some 3)) (some (s.rd (obT 0x3100 0x04 d.tenant) * 100))
    else frame15 req .iso15Write (.iso15 (some 3)) none

/-- The payload store of a score slot. -/
def State.payload (s : State) (score : Nat) : Octets := leBytes 4096 (s.rd (ob (0xA200 + score) 0))

/-- The first block of the copy being written. -/
def WriteArgs.base (a : WriteArgs) (copy : Nat) : Nat := if a.mode = 1 ∧ copy = 1 then a.copyB else a.copyA

/-- The bytes a write puts on the tag: the payload alone, or with generation and CRC (R175). -/
def State.intended (s : State) (d : DueStep) (a : WriteArgs) (p : WriteJob) : Octets :=
  let n := a.n * a.size
  if a.mode = 0 then slice a.pay n (s.payload d.score)
  else
    let b := padTo (n - 4) (slice a.pay (n - 4) (s.payload d.score)) ++ u16 p.gen
    b ++ u16 (crc15693 b)

/-- The flag block that commits the copy written. -/
def flagBlock (a : WriteArgs) (p : WriteJob) : Octets :=
  let s := if p.copy = 0 then 0xA5 else 0x5A
  padTo a.size (u8 s ++ u8 p.gen ++ u8 (s ^^^ 0xFF) ++ u8 ((p.gen % 256) ^^^ 0xFF))

/-- The end of a write with its report. -/
def writeStop (s : State) (x : Exchange) (a : WriteArgs) (p : WriteJob) (outcome status detail : Nat) (more : Octets) : Turn :=
  stop s x outcome status detail (p.report a.mode ++ more)

/-- The next block to write, or the read-back once all are written; in phase 5 one block is written again. -/
def writeGo (s : State) (d : DueStep) (x : Exchange) (a : WriteArgs) (e : Tag) (p : WriteJob) : Turn :=
  if p.block < a.n then
    send s x (.writing { p with phase := if p.phase = 5 then 5 else 1 })
      (writeBlock s d a e (a.base p.copy + p.block) (slice (p.block * a.size) a.size (s.intended d a p)))
  else
    let plan := readPlan (a.flags.testBit 3 && e.proto != 2) [(a.base p.copy, a.n)]
    let p := { p with stage := max p.stage 4, phase := 2, plan := plan, mem := [] }
    match plan with
    | [] => writeStop s x a p 0 0 0 []
    | (b, n) :: _ => send s x (.writing p) (readBlocks d a e b n)

/-- The flag write (R177): the last write of the step. -/
def flagGo (s : State) (d : DueStep) (x : Exchange) (a : WriteArgs) (e : Tag) (p : WriteJob) : Turn :=
  send s x (.writing { p with phase := 3 }) (writeBlock s d a e a.flag (flagBlock a p))

/-- A write whose request frame has been sent (Table 7-2): with the last shadow block stage 0x03 is complete, with the flag stage 0x07. -/
def WriteJob.sent (a : WriteArgs) (p : WriteJob) : WriteJob :=
  if p.phase = 3 then { p with stage := 7 }
  else if p.phase = 1 ∧ a.mode = 1 ∧ p.block + 1 = a.n ∧ p.stage < 3 then { p with stage := 3 }
  else p

/-- What the end of a request frame changes in a sequencer. -/
def Prog.sent (r : Octets) (p : Prog) : Prog := match p with | .writing w => .writing (w.sent (writeArgs r)) | q => q

/-- Rewrites of a block so far. -/
def WriteJob.triesOf (p : WriteJob) (b : Nat) : Nat := match p.tries.find? (fun t => t.1 == b) with | some t => t.2 | none => 0

/-- One more rewrite of a block. -/
def WriteJob.again (p : WriteJob) (b : Nat) : WriteJob :=
  { p with rewrites := p.rewrites + 1, tries := (b, p.triesOf b + 1) :: p.tries.filter (fun t => t.1 != b) }

/-- After the read stage (R172, R176, R177, R180): TS_READ answers; the margin is checked; the write begins. -/
def writeRead (s : State) (d : DueStep) (x : Exchange) (a : WriteArgs) (e : Tag) (p : WriteJob) : Turn :=
  let p := { p with stage := 1 }
  if a.mode = 0 then
    if x.marginOk then writeGo s d x a e { p with stage := 2, copy := 0, block := 0 }
    else writeStop s x a p 0x20 x.status x.detail []
  else
    let fb := p.bytes a.flag 1
    let (view, src) := committedView (p.bytes a.copyA a.n) (p.bytes a.copyB a.n) fb
    let p := { p with source := src, flagRead := fb.take 4, after := match view with | some c => c.1 | none => 0xFF }
    if a.mode = 2 then
      match view with
      | some (c, g) =>
        writeStop s x a { p with gen := g } 0 0 0 ((p.bytes (if c = 0 then a.copyA else a.copyB) a.n).take (a.n * a.size - 4))
      | none => writeStop s x a p 0x27 0 0 []
    else if !x.marginOk then writeStop s x a p 0x20 x.status x.detail []
    else
      let (copy, gen) := match view with | some (c, g) => (1 - c, (g + 1) % 65536) | none => (0, 1)
      writeGo s d x a e { p with stage := 2, copy := copy, gen := gen, block := 0 }

/-- Whether a reply refuses a write for a locked block (R178). -/
def lockedReply (x : Exchange) (typeA : Bool) : Bool :=
  (x.status == 0x09 && (x.detail == 0x11 || x.detail == 0x12 || x.detail == 0x13)) || (typeA && x.status == 0x0A)

/-- The first block of a copy whose read-back differs. -/
def firstDiff (a : WriteArgs) (p : WriteJob) (want : Octets) : Option Nat :=
  (List.range a.n).find? (fun k => p.bytes (a.base p.copy + k) 1 != slice (k * a.size) a.size want)

/-- The read-back judged (R178): a block that differs is rewritten, it alone, and the copy read back again; or the write is
verified. (DEDUCED, log entry 37.) -/
def writeVerify (s : State) (d : DueStep) (x : Exchange) (a : WriteArgs) (e : Tag) (p : WriteJob) : Turn :=
  match firstDiff a p (s.intended d a p) with
  | some k =>
    if p.triesOf k < s.rd (obT 0x3100 0x07 d.tenant) then
      send s x (.writing { p.again k with phase := 5, block := k })
        (writeBlock s d a e (a.base p.copy + k) (slice (k * a.size) a.size (s.intended d a p)))
    else writeStop s x a p 0x23 x.status x.detail []
  | none =>
    let p := { p with stage := 5 }
    if a.mode = 0 then writeStop s x a p 0 0 0 []
    else if x.marginOk then flagGo s d x a e { p with stage := 6 }
    else writeStop s x a p 0x21 x.status x.detail []

/-- A reply of a write step. -/
def writeReply (s : State) (d : DueStep) (x : Exchange) (p : WriteJob) (b : Octets) : Turn :=
  let a := writeArgs d.record
  match s.tags.find? (fun q => q.1 == a.handle) with
  | none => writeStop s x a p 0x18 0xFF 0 []
  | some (_, e) =>
    let limit := s.rd (obT 0x3100 0x07 d.tenant)
    let blocks := fun (start n : Nat) =>
      let data := if e.proto = 2 then b.take 4 else slice 1 (b.length - 3) b
      (List.range n).map (fun k => (start + k, slice (k * a.size) a.size data))
    match p.phase with
    | 0 =>
      if x.status ≠ 0 then writeStop s x a p 0 x.status x.detail []
      else match p.plan with
        | [] => writeRead s d x a e p
        | (st, n) :: rest =>
          let p := { p with plan := rest, mem := p.mem ++ blocks st n }
          (match rest with
           | [] => writeRead s d x a e p
           | (st, n) :: _ => send s x (.writing p) (readBlocks d a e st n))
    | 1 | 5 =>
      if x.status = 0 then
        writeGo s d x a e { p with block := if p.phase = 5 then a.n else p.block + 1, written := max p.written (p.block + 1) }
      else if lockedReply x (e.proto == 2) then writeStop s x a p 0x24 x.status x.detail []
      else if p.triesOf p.block < limit then writeGo s d x a e (p.again p.block)
      else writeStop s x a p (if x.status = 0x09 then 0x25 else 0x22) x.status x.detail []
    | 2 =>
      if x.status ≠ 0 then writeStop s x a p 0x22 x.status x.detail []
      else match p.plan with
        | [] => writeVerify s d x a e p
        | (st, n) :: rest =>
          let p := { p with plan := rest, mem := p.mem ++ blocks st n }
          (match rest with
           | [] => writeVerify s d x a e p
           | (st, n) :: _ => send s x (.writing p) (readBlocks d a e st n))
    | 3 =>
      if x.status = 0 then send s x (.writing { p with phase := 4, after := 0xFF }) (readBlocks d a e a.flag 1)
      else if lockedReply x (e.proto == 2) then writeStop s x a p 0x24 x.status x.detail []
      else if p.triesOf 0x10000 < limit then flagGo s d x a e (p.again 0x10000)
      else if x.status = 0x09 then writeStop s x a p 0x25 x.status x.detail []
      else writeStop s x a { p with after := 0xFF } 0x26 x.status x.detail []
    | _ =>
      let fb := if e.proto = 2 then b.take 4 else slice 1 a.size b
      let p := if x.status = 0 then { p with flagRead := fb.take 4 } else p
      if x.status = 0 ∧ fb = flagBlock a p then
        writeStop s x a { p with stage := 8, after := p.copy } 0 0 0 []
      else if p.triesOf 0x10000 < limit then flagGo s d x a e (p.again 0x10000)
      else writeStop s x a p 0x26 x.status x.detail []

/-- The read stage begun. -/
def writeStart (s : State) (d : DueStep) (x : Exchange) : Turn :=
  let a := writeArgs d.record
  match s.tags.find? (fun q => q.1 == a.handle) with
  | none => writeStop s x a WriteJob.blank 0x18 0xFF 0 []
  | some (_, e) =>
    let plan := if a.mode = 0 then [(a.copyA, 1)]
      else readPlan (a.flags.testBit 3 && e.proto != 2) [(a.copyA, a.n), (a.copyB, a.n), (a.flag, 1)]
    match plan with
    | [] => stopFrame s x []
    | (st, n) :: _ => send s x (.writing { WriteJob.blank with plan := plan }) (readBlocks d a e st n)

/-! ### Selecting a known Type A tag (R169) -/

/-- WUPA and SELECT at each cascade level, then what the step is for: 0 activation, 1 a write, 2 an NDEF read. WUPA ends any selection. -/
def wakeStart (s : State) (v : VoiceId) (d : DueStep) (x : Exchange) (thenDo : Nat) : Turn :=
  send (s.setSession v d (fun z => { z with selected := 0xFFFF })) x (.wakeA 0 thenDo) (frameShort 0x52)

/-- What follows a selection. -/
def selected (s : State) (d : DueStep) (x : Exchange) (thenDo : Nat) : Turn :=
  match thenDo with
  | 0 => sendRats s d x
  | 1 => writeStart s d x
  | _ => send s x (.ndef2 3 [] []) (read2 d 3)

/-- A reply while a tag is being selected: `level` 0 awaits the ATQA, n + 1 the SAK of level n. -/
def wakeReply (s : State) (v : VoiceId) (d : DueStep) (x : Exchange) (level thenDo : Nat) (b : Octets) : Turn :=
  let h := u16At d.record 12
  let data := if byteAt d.record 0 = 9 then WriteJob.blank.report (byteAt d.record 14) else []
  match s.tagOf d.tenant h with
  | none => stop s x 0x18 0xFF 0 data
  | some e =>
    if level = 0 then
      if x.status = 0 ∨ x.status = 5 then send s x (.wakeA 1 thenDo) (frameSelect 0 (uidLevel e.uid 0))
      else stopFrame s x data
    else if x.status ≠ 0 then stopFrame s x data
    else if (byteAt b 0).testBit 2 ∧ 4 < (e.uid.drop (3 * (level - 1))).length then
      send s x (.wakeA (level + 1) thenDo) (frameSelect level (uidLevel e.uid level))
    else if byteAt b 0 ≠ e.typ then stop s x 0x18 0xFF 0 data
    else selected (s.setSession v d (fun z => { z with selected := h, blockOn := false })) d x thenDo

/-! ### Authentication (R183 to R189) -/

/-- The key of a slot code. -/
def State.slotKey (s : State) (c : Nat) : Octets := match s.keys.slots.find? (fun p => p.1 == c) with | some p => p.2 | none => []

/-- The crypto engine, when idle, takes the next job: tenant by tenant, oldest first (Table 14-2). -/
def State.cryptoNext (s : State) : State :=
  match s.crypto.running with
  | some _ => s
  | none =>
    match ((List.range 8).map (fun n => s.crypto.turn + ⟨(n + 1) % 8, Nat.mod_lt _ (by decide)⟩)).find?
        (fun t => !s.crypto.queues[t].isEmpty) with
    | none => s
    | some t =>
      match s.crypto.queues[t] with
      | [] => s
      | j :: l => { s with crypto := { s.crypto with queues := s.crypto.queues.set t l, running := some (t, j), turn := t } }

/-- A job put in a tenant's crypto queue (R197). -/
def State.cryptoJob (s : State) (t : Tenant) (j : CryptoJob) : State :=
  ({ s with crypto := { s.crypto with queues := s.crypto.queues.set t (s.crypto.queues[t] ++ [j]) } } : State).cryptoNext

/-- Whether the key slot of the AUTH step that a voice holds has been erased since its grant (R196). -/
def State.denied (s : State) (v : VoiceId) : Bool := s.voices[v].grant.any (·.denied)

/-- The end of an AUTH step whose key slot has been erased: its session ends too (R196). -/
def authDenied (s : State) (v : VoiceId) (d : DueStep) (x : Exchange) : Turn :=
  stop (s.setSession v d (fun z => { z with auth := none })) x 0x29 0xFF 0 []

/-- AUTHENTICATE, or CHALLENGE for method 3, with a fresh challenge before those that the step has sent already (R184, R185); `tag` is the
tag's challenge, which MAM2 answers. -/
def authSend (s : State) (d : DueStep) (x : Exchange) (method stage : Nat) (sent : List Octets) (tag params : Octets) : Turn :=
  let (c, s) := s.randomBytes 10
  let challenge := c :: sent
  let msg := Config.authMessage (s.slotKey (byteAt d.record 15)) method stage (byteAt d.record 16) challenge tag params
  let wait := s.rd (obT 0x3100 0x06 d.tenant) * 100
  let uid := match s.tagOf d.tenant (u16At d.record 12) with | some e => e.uid | none => []
  if method = 3 then
    send s x (.auth stage challenge)
      { frame15 (u8 (flags15 d.settings.mode) ++ u8 0x39 ++ u8 0x00 ++ msg) .none .nothing none with idle := wait }
  else
    send s x (.auth stage challenge)
      (frame15 (request15 d.settings.mode 0x35 uid (u8 0x00 ++ msg) true) .iso15 (.iso15 none) (some wait))

/-- An AUTH step begun at level. -/
def authStart (s : State) (v : VoiceId) (d : DueStep) (x : Exchange) : Turn :=
  let m := byteAt d.record 14
  let h := u16At d.record 12
  if s.denied v then authDenied s v d x
  else if h ≠ 0xFFFF ∧ (s.tagOf d.tenant h).isNone = true then stop s x 0x18 0xFF 0 []
  else if m = 4 then
    match (s.session v d).challenge with
    | some c =>
      let uid := match s.tagOf d.tenant h with | some e => e.uid | none => []
      send s x (.auth 0 [c]) (frame15 (request15 d.settings.mode 0x3A uid [] false) .iso15 (.iso15 none) none)
    | none => stop s x 0 0x0E 0 []
  else authSend s d x m 0 [] [] (slice 17 5 d.record)

/-- When the step that a voice serves was granted. -/
def State.grantedAt (s : State) (v : VoiceId) : Nat := match s.voices[v].grant with | some g => g.since | none => 0

/-- An AUTH outcome counted against its key slot (R189): a success resets the count, a failure may suspend the slot. -/
def State.authCount (s : State) (t : Tenant) (slot : Nat) (ok : Bool) : State :=
  let k := ob (0x9100 + slot) 0x05
  if ok then (s.wr k 0).inc (obT 0x3180 0x05 t)
  else
    let s := (s.inc k).inc (obT 0x3180 0x06 t)
    if s.rd (obT 0x3100 0x08 t) ≤ s.rd k ∧ s.rd (ob (0x9100 + slot) 0x02) ≠ 2 then
      let s := ((s.wr (ob (0x9100 + slot) 0x02) 2).armIn (.suspension slot) 60000000).inc (obT 0x3180 0x07 t)
      s.raise 1139 [t] (u8 slot ++ u8 (s.rd (obT 0x9200 0x06 t)))
    else s

/-- A reply of an AUTH step: it is checked by the crypto engine (R197). -/
def authReply (s : State) (v : VoiceId) (d : DueStep) (x : Exchange) (stage : Nat) (challenge : List Octets) (b : Octets) : Turn :=
  if s.denied v then authDenied s v d x
  else if byteAt d.record 14 = 3 then
    stop ((s.setSession v d (fun z => { z with challenge := challenge.head? })).inc (obT 0x3180 0x05 d.tenant)) x 0 0 0 []
  else if x.status = 0x09 then stop (s.authCount d.tenant (byteAt d.record 15) false) x 0x28 x.status x.detail []
  else if x.status ≠ 0 then stopFrame s x []
  else
    (s.cryptoJob d.tenant (.auth v (s.grantedAt v)),
      { x with prog := .authCrypto stage challenge (slice 1 (b.length - 3) b), air := .crypto }, none)

/-- The crypto engine's verdict on an AUTH reply (R185, R186, R187, R196). (DEDUCED, log entry 37.) -/
def authVerdict (s : State) (v : VoiceId) (d : DueStep) (x : Exchange) (stage : Nat) (challenge : List Octets) (reply : Octets) : Turn :=
  let slot := byteAt d.record 15
  let m := byteAt d.record 14
  if s.denied v then authDenied s v d x
  else match Config.authCheck (s.slotKey slot) m stage challenge reply with
    | none => stop (s.authCount d.tenant slot false) x 0x28 x.status x.detail []
    | some data =>
      if m = 2 ∧ stage = 0 then authSend s d x 2 1 challenge data (u8 (byteAt d.record 21))
      else
        let s := s.authCount d.tenant slot true
        let s := s.setSession v d (fun z => { z with auth := some (u16At d.record 12, slot, m), challenge := none })
        stop s x 0 0 0 (if m = 1 then data else [])

/-! ### The steps' first frames and replies -/

/-- The command frame of CMD_15693 (R155): addressed by a handle, or as given; a separate EOF under the option flag (R114), after the wait
of R184 for AUTHENTICATE and that of R174 else; the sub-windows of R173 for a write-alike command without it. -/
def command15 (s : State) (d : DueStep) (uid : Octets) : Frame :=
  let pay := slice (u16At d.record 14) (u16At d.record 16) (s.payload d.score)
  let fl := byteAt pay 0
  let cmd := byteAt pay 1
  let skip := if 0xA0 ≤ cmd then 3 else 2
  let req := if uid.isEmpty then pay else u8 (fl ||| 0x20) ++ (slice 1 (skip - 1) pay) ++ uid ++ pay.drop skip
  if cmd = 0x02 then { frame15 req .none .nothing none with idle := 32802 + tagSof d.settings.mode }
  else if cmd = 0x39 then { frame15 req .none .nothing none with idle := s.rd (obT 0x3100 0x06 d.tenant) * 100 }
  else if fl.testBit 6 then
    frame15 req .iso15 (.iso15 none)
      (some ((if cmd = 0x35 then s.rd (obT 0x3100 0x06 d.tenant) else s.rd (obT 0x3100 0x04 d.tenant)) * 100))
  else if writeAlike cmd then frame15 req .iso15Write (.iso15 none) none
  else frame15 req .iso15 (.iso15 none) none

/-- The command frame of CMD_A: the payload, with CRC_A where the step asks. The layer-3 commands of Table 5-4 that a payload may spell are
taken for what they are: REQA and WUPA in 7 bits, ANTICOLLISION with the bits of its NVB, SELECT, and HLTA, which expects no reply. -/
def commandA (s : State) (d : DueStep) : Frame :=
  let pay := slice (u16At d.record 14) (u16At d.record 16) (s.payload d.score)
  let crc := byteAt d.record 20 % 2 == 1
  let c := byteAt pay 0
  let nvb := byteAt pay 1
  let full := if crc then pay ++ u16 (crcA pay) else pay
  let last := nvb % 8
  let cl := c == 0x93 || c == 0x95 || c == 0x97
  if pay.length = 1 ∧ crc = false ∧ (c = 0x26 ∨ c = 0x52) then frameShort c
  else if cl = true ∧ nvb = 0x70 then { Frame.blank with bytes := full, window := .aFdt (lastBitOne full 0 false), expect := .sak }
  else if cl = true ∧ 0x20 ≤ nvb ∧ nvb < 0x70 ∧ crc = false then
    { Frame.blank with bytes := pay, lastBits := last, window := .aFdt (lastBitOne pay last false), expect := .anticoll (8 * (nvb / 16 - 2) + last) }
  else if c = 0x50 ∧ nvb = 0 ∧ pay.length = (if crc then 2 else 4) then
    { Frame.blank with bytes := full, window := .aOther (d.settings.aWait * 100), expect := .nothing }
  else { Frame.blank with bytes := full, window := .aOther (d.settings.aWait * 100), expect := .aData none }

/-- A step at level begins: its first frame (Table 6-7). -/
def beginStep (s : State) (v : VoiceId) (d : DueStep) (x : Exchange) : Turn :=
  let r := d.record
  match byteAt r 0 with
  | 0x01 =>
    let wide := byteAt r 12 == 0x10
    let len := byteAt r 14
    let mask := leNat (slice 15 8 r) % 2 ^ len
    send s x (.inv15 { wide := wide, mask := mask, len := len, slot := 0, queue := [], rounds := 0, lost := 0, found := 0, quiet := [] })
      (frameInv15 d.settings.mode (byteAt r 13) wide mask len)
  | 0x02 =>
    invARound (s.setSession v d (fun z => { z with selected := 0xFFFF })) d x { level := 0, known := [], uid := [], rounds := 0, found := 0, sak := 0 }
  | 0x03 => invBRound s d x { n := byteAt r 12, slot := 0, bad := 0, any := false, rounds := 0, found := 0 }
  | 0x04 =>
    if u16At r 12 = 0xFFFF then send s x .command (command15 s d [])
    else match s.tagOf d.tenant (u16At r 12) with
      | some e => send s x .command (command15 s d e.uid)
      | none => stop s x 0x18 0xFF 0 []
  | 0x05 =>
    if u16At r 12 ≠ 0xFFFF ∧ (s.tagOf d.tenant (u16At r 12)).isNone = true then stop s x 0x18 0xFF 0 []
    else
      let f := commandA s d
      let s := match f.expect with | .atqa | .sak | .anticoll _ | .nothing => s.setSession v d (fun z => { z with selected := 0xFFFF }) | _ => s
      send s x .command f
  | 0x06 =>
    match s.tagOf d.tenant (u16At r 12) with
    | none => stop s x 0x18 0xFF 0 []
    | some e =>
      if e.proto = 3 then send s x .wakeB (frameReqB d.settings.afiB 0 true)
      else if (s.session v d).selected = u16At r 12 then sendRats s d x
      else wakeStart s v d x 0
  | 0x07 => blockStart s v d x (slice (u16At r 14) (u16At r 16) (s.payload d.score)) (fun p => .apdu p)
  | 0x08 =>
    match s.tagOf d.tenant (u16At r 12) with
    | none => stop s x 0x18 0xFF 0 []
    | some e =>
      if e.proto = 1 then send s x (.ndef5 0 0 [] []) (read5 d e.uid [] 0 1 0)
      else if (s.session v d).blockOn then blockStart s v d x selectNdef (fun p => .ndef4 0 0 0 [] [] p)
      else if (s.session v d).selected = u16At r 12 then selected s d x 2
      else wakeStart s v d x 2
  | 0x09 =>
    match s.tagOf d.tenant (u16At r 12) with
    | none => stop s x 0x18 0xFF 0 (WriteJob.blank.report (byteAt r 14))
    | some e =>
      if e.proto = 2 ∧ (s.session v d).selected ≠ u16At r 12 then wakeStart s v d x 1 else writeStart s d x
  | _ => authStart s v d x

/-- What a step does with a reply, or with the lack of one: the status and detail stand in the exchange. -/
def react (s : State) (v : VoiceId) (d : DueStep) (x : Exchange) (b : Octets) (bits : Nat) : Turn :=
  match x.prog with
  | .idle => stopFrame s x []
  | .inv15 p => inv15Slot s d x p b
  | .quiet15 p => inv15Quiet s d x p
  | .invAReq p => invAReply s d x (.invAReq p) b bits
  | .invAColl p => invAReply s d x (.invAColl p) b bits
  | .invASel p => invAReply s d x (.invASel p) b bits
  | .invAHalt p => invAReply s d x (.invAHalt p) b bits
  | .invBSlot p => invBReply s d x (.invBSlot p) b
  | .invBHalt p => invBReply s d x (.invBHalt p) b
  | .command =>
    let crc := match x.frame.expect with | .atqa | .anticoll _ => false | _ => bits != 4
    if x.status = 0 ∧ x.frame.expect ≠ .nothing then stop s x 0 0 0 (if crc then b.take (b.length - 2) else b) else stopFrame s x []
  | .wakeA level thenDo => wakeReply s v d x level thenDo b
  | .wakeB => actReply s v d x .wakeB b
  | .actRats => actReply s v d x .actRats b
  | .actPps ats => actReply s v d x (.actPps ats) b
  | .actAttrib rate fwi fsci => actReply s v d x (.actAttrib rate fwi fsci) b
  | .apdu p =>
    (match blockReply s v d x p (fun q => .apdu q) b with
     | .turn t => t
     | .done s x resp => stop s x 0 0 0 resp)
  | .ndef2 pos cc got => ndef2Reply s d x pos cc got b
  | .ndef5 pos size cc got => ndef5Reply s d x pos size cc got b
  | .ndef4 stage off left cc got p =>
    (match blockReply s v d x p (fun q => .ndef4 stage off left cc got q) b with
     | .turn t => t
     | .done s x resp => ndef4Done s v d x stage off left cc got resp)
  | .writing p => writeReply s d x p b
  | .auth stage c => authReply s v d x stage c b
  | .authCrypto _ _ _ => (s, x, none)
  | .deselect o st dt data => stop (s.closeSession v d) x o st dt data

end Sys2Proof.Machine
end

