-- ==== Sys2Proof/Machine/ScoreOps.lean ====
section
/-! DEFINITION. Scores (chapter 6): runs and their groups (R154), dispatch and its checks (R105, R158, R188), result records
(R156, R159, R399), the end of a step, and the voice's continuation or down-ramp after it (R71, R72). -/

namespace Sys2Proof.Machine

/-! ### Scores' records -/

/-- A step record. -/
def State.stepRecord (s : State) (score k : Nat) : Octets := leBytes 32 (s.rd (ob (0xA100 + score) k))

/-- State of a score (Table 6-5). -/
def State.scoreState (s : State) (i : ScoreId) : Nat := s.rd (ob (0xA000 + i.val) 0x02)

/-- The settings a step runs under, its own or those of 0x2400 (R129, R130). -/
def State.settingsOf (s : State) (r : Octets) : Settings :=
  let own := (byteAt r 2).testBit 5
  let b := byteAt r 10
  { mode := if own then b % 4 else s.rd (ob 0x2400 0x08), coding := if own then b / 4 % 2 else s.rd (ob 0x2400 0x09),
    ask := if own then b / 8 % 2 else s.rd (ob 0x2400 0x07), rate := if own then b / 16 % 4 else s.rd (ob 0x2400 0x0B),
    aWait := s.rd (ob 0x2400 0x01), retries := s.rd (ob 0x2400 0x02), budget := s.rd (ob 0x2400 0x03),
    fsdi := s.rd (ob 0x2400 0x04), ndefMax := s.rd (ob 0x2400 0x05), afiB := s.rd (ob 0x2400 0x06),
    useCid := s.isOn (ob 0x2400 0x0A) }

/-! ### Result records -/

/-- The result offset of a step's data in the payload store (R156, Tables 6-7, 7-1 and 7-5). -/
def resultOffset (r : Octets) : Nat := if byteAt r 0 = 9 ∨ byteAt r 0 = 10 then u16At r 26 else u16At r 18

/-- Whether data of more than 192 bytes would pass byte 4,095 of the payload store (R156). -/
def End.past (d : DueStep) (e : End) : Bool :=
  decide (192 < e.data.length) && decide (4096 < resultOffset d.record + e.data.length)

/-- A result record of Table 6-8 with its data; data above 192 bytes goes to the payload store, or ends the step with
RESULT_OVERFLOW where it would pass byte 4,095 (R156). -/
def State.deliverResult (s : State) (d : DueStep) (e : End) (stamp count rounds : Nat) (quality : Octets) (full : Bool) : State :=
  let off := resultOffset d.record
  let long := decide (192 < e.data.length)
  let past := e.past d
  let outcome := if past then 0x19 else e.outcome
  let s := if long && !past then
      s.wr (ob (0xA200 + d.score) 0) (leNat (splice off e.data (s.payload d.score))) else s
  let rec_ := u8 d.score ++ u8 d.step ++ u8 d.channel ++ u8 (byteAt d.record 0) ++ u8 e.status ++ u8 e.detail ++ u8 outcome ++
    u8 count ++ u64 stamp ++ padTo 16 quality ++ u16 rounds ++ u8 ((if full then 1 else 0) + (if long && !past then 2 else 0)) ++
    u8 0 ++ u16 (if past then 0 else e.data.length) ++ List.replicate 10 0
  s.channelEvent d.channel 1 [d.tenant] (rec_ ++ (if long then [] else e.data))

/-- The counters of 0x3180 for a write step's outcome (Table 7-7). -/
def State.countWrite (s : State) (d : DueStep) (e : End) : State :=
  if byteAt d.record 0 ≠ 9 then s
  else match e.outcome with
    | 0x00 => if e.status = 0 ∧ byteAt d.record 14 ≠ 2 then s.inc (obT 0x3180 0x01 d.tenant) else s
    | 0x20 | 0x21 => s.inc (obT 0x3180 0x02 d.tenant)
    | 0x23 => s.inc (obT 0x3180 0x03 d.tenant)
    | 0x26 => s.inc (obT 0x3180 0x04 d.tenant)
    | _ => s

/-- Whether a step has succeeded for R154: outcome and frame status OK, or an inventory's COMPLETE; RESULT_OVERFLOW is a
failure (R156). -/
def End.ok (d : DueStep) (e : End) : Bool := (e.outcome == 1 || (e.outcome == 0 && e.status == 0)) && !e.past d

/-! ### Dispatch (R105, R158, R155, R169, R186, R188) -/

/-- An end with an outcome that carries no frame status (R399). -/
def noFrame (outcome : Nat) (data : Octets) : End := ⟨outcome, 0xFF, 0, data⟩

/-- Where the crypto suite and the message of a 15693 AUTHENTICATE or CHALLENGE stand in a payload: after flags, command and, where the
flags say addressed and the step inserts none, the UID. -/
def suiteAt (r pay : Octets) : Nat := if (byteAt pay 0).testBit 5 && u16At r 12 == 0xFFFF && byteAt pay 1 != 0x39 then 10 else 2

/-- Whether a CMD_15693 payload asks for what Table 5-1 does not support: another crypto suite than AES-128, or IAM (R104, R105).
(PRESUMED for the places in the message, log entry 36.) -/
def payload15Bad (r pay : Octets) : Bool :=
  (byteAt pay 1 == 0x35 || byteAt pay 1 == 0x39) &&
    (byteAt pay (suiteAt r pay) != 0 || byteAt pay (suiteAt r pay + 1) / 64 == 1)

/-- Whether a WRITE's addressing does not fit a Type A tag (Table 7-1, R170). -/
def writeABad (r : Octets) : Bool :=
  let a := writeArgs r
  a.size != 4 || decide (0x100 < a.copyA + a.n) || (a.mode != 0 && (decide (0x100 < a.copyB + a.n) || decide (0xFF < a.flag)))

/-- Why a step ends at dispatch or grant, if it does: allotment, channel, voice, region and boost first, then what the step
asks for. A session counts only for a step that keep-warm carries into it (R125, R186). (DEDUCED, log entry 34.) Of these ends the spec
does not name the status, and the model takes UNSUPPORTED: a command of more than 1,024 bytes (R124), a frame beyond the transmit buffer
(R108), a handle of a tag of another protocol for CMD_15693 and CMD_A (R155), a WRITE that names what a Type A tag has not (R170).
An NDEF_READ of a Type 4 tag with no open session ends SESSION_LOST (R126). (DESIGN CHOICE, log entry 36.) -/
def State.dispatchEnd (s : State) (d : DueStep) : Option End :=
  let r := d.record
  let op := byteAt r 0
  let v := voiceOf d.channel
  let wr := if op = 9 then WriteJob.blank.report (byteAt r 14) else []
  let h := u16At r 12
  let tag := s.tagOf d.tenant h
  let z := if s.keepWarm v d then s.session v d else TagSession.blank d
  let pay := slice (u16At r 14) (u16At r 16) (s.payload d.score)
  let slot := byteAt r 15
  if d.tuning.isSome then none
  else if s.channelTenant d.channel ≠ some d.tenant then some (noFrame 0x17 wr)
  else if !s.isOn (ob (0x2100 + d.channel) 0x02) then some (noFrame 0x10 wr)
  else if !s.isOn (ob (vi v) 0x03) then some (noFrame 0x11 wr)
  else if s.voiceState v = 7 then some (noFrame 0x12 wr)
  else if s.boost = 5 then some (noFrame 0x13 wr)
  else if !s.hfSealed then some (noFrame 0x14 wr)
  else match op with
    | 0x03 => if [1, 2, 4, 8, 16].contains (byteAt r 12) then none else some ⟨0, 0x0F, 0, []⟩
    | 0x04 => if h ≠ 0xFFFF ∧ tag.isNone = true then some (noFrame 0x18 [])
              else if (tag.map (·.proto)).getD 1 ≠ 1 ∨ payload15Bad r pay = true ∨
                272 < pay.length + (if h = 0xFFFF then 2 else 10) then some ⟨0, 0x0F, 0, []⟩ else none
    | 0x05 => if h ≠ 0xFFFF ∧ tag.isNone = true then some (noFrame 0x18 [])
              else if (tag.map (·.proto)).getD 2 ≠ 2 ∨ 272 < pay.length + (if byteAt r 20 % 2 = 1 then 2 else 0) then
                some ⟨0, 0x0F, 0, []⟩ else none
    | 0x06 => (match tag with
        | none => some (noFrame 0x18 [])
        | some e => if e.proto = 1 ∨ z.blockOn = true then some ⟨0, 0x0F, 0, []⟩ else none)
    | 0x07 => if !z.blockOn then some ⟨0, 0x0E, 0, []⟩ else if 1024 < u16At r 16 then some ⟨0, 0x0F, 0, []⟩ else none
    | 0x08 => (match tag with
        | none => some (noFrame 0x18 [])
        | some e => if e.proto = 3 ∧ z.blockOn = false then some ⟨0, 0x0E, 0, []⟩
                    else if e.proto = 2 ∧ e.typ.testBit 5 = true ∧ z.blockOn = false then some ⟨0, 0x0E, 0, []⟩ else none)
    | 0x09 => (match tag with
        | none => some (noFrame 0x18 wr)
        | some e =>
          if e.proto = 3 ∨ (z.blockOn = true ∧ z.selected = h) ∨ (e.proto = 2 ∧ writeABad r = true) then some ⟨0, 0x0F, 0, wr⟩
          else if (byteAt r 23).testBit 1 && (match z.auth with | some a => a.1 != h | none => true) then some ⟨0, 0x0E, 0, wr⟩
          else none)
    | 0x0A =>
      let own := decide (slot / 8 = d.tenant.val) && decide (slot < 0x40)
      if h ≠ 0xFFFF ∧ tag.isNone = true then some (noFrame 0x18 [])
      else if (tag.map (·.proto)).getD 1 ≠ 1 then some ⟨0, 0x0F, 0, []⟩
      else if h = 0xFFFF ∧ byteAt r 14 ≠ 3 then some (noFrame 0x18 [])
      else if !own || s.rd (ob (0x9100 + slot) 0x02) == 0 then some (noFrame 0x29 [])
      else if s.rd (ob (0x9100 + slot) 0x02) = 2 then some (noFrame 0x2A [])
      else if byteAt r 14 = 4 ∧ z.challenge.isNone = true then some ⟨0, 0x0E, 0, []⟩ else none
    | _ => none

/-! ### Runs (R153, R154) -/

/-- A score at rest: IDLE, or DISABLED where it is switched off. -/
def State.scoreRest (s : State) (i : ScoreId) : State :=
  (s.wrAll [(ob (0xA000 + i.val) 0x02, if s.isOn (ob (0xA000 + i.val) 0x0A) then 0 else 4), (ob (0xA000 + i.val) 0x06, 0)]).setScore i
    (fun x => { x with open_ := [], next := 1, failed := none, ending := false })

/-- A run that has ended (Table 6-10): counted unless it was stopped. -/
def State.runEnd (s : State) (i : ScoreId) : State :=
  let s := if s.scoreState i = 1 then s.inc (ob (0xA000 + i.val) 0x07) else s
  (s.wr (ob (0xA000 + i.val) 0x08) s.now).scoreRest i

/-- A run that ends in HALTED (R154): SCORE_HALTED on the step's channel. -/
def State.runHalt (s : State) (i : ScoreId) (k : Nat) (r : Octets) (t : Tenant) : State :=
  let s := (s.wrAll [(ob (0xA000 + i.val) 0x02, 3), (ob (0xA000 + i.val) 0x08, s.now)]).setScore i
    (fun x => { x with open_ := [], next := 1, failed := none, ending := false })
  s.channelEvent (byteAt r 1 % 64) 8 [t] (u8 i.val ++ u8 k)

/-- A step of a group that has ended: its failure is kept if it is the lowest one (R154). -/
def Score.closed (x : Score) (k : Nat) (ok : Bool) (branch : Nat) : Score :=
  { x with
      open_ := x.open_.filter (· != k),
           failed := if ok || branch == 0 then x.failed else
             match x.failed with | some (j, b) => if j < k then some (j, b) else some (k, branch) | none => some (k, branch) }

/-- The steps of one group from step `k` on entered in the run: a WAIT sets its timer, an END ends the run after the group, a
step becomes due or ends at dispatch (R154, R157, R158). -/
def State.groupStep (s : State) (i : ScoreId) (t : Tenant) : Nat → Nat → State
  | 0, _ => s
  | f + 1, k =>
    if 128 < k then s.setScore i (fun x => { x with ending := true })
    else
      let r := s.stepRecord i.val k
      let op := byteAt r 0
      let more := fun (s : State) => if (byteAt r 2).testBit 6 then s.groupStep i t f (k + 1) else s.setScore i (fun x => { x with next := k + 1 })
      if 0x0B < op then s.runHalt i k r t
      else if op = 0 then s.setScore i (fun x => { x with ending := true })
      else if op = 0x0B then
        more ((s.setScore i (fun x => { x with open_ := x.open_ ++ [k] })).armIn (.wait i k) (leNat (slice 12 4 r)))
      else
        let d : DueStep :=
          { score := i.val, step := k, tenant := t, channel := byteAt r 1 % 64, record := r, dueAt := s.now,
            settings := s.settingsOf r, tuning := none, prio := min (byteAt r 3) (s.rd (ob (0x9010 + t.val) 0x08)),
            waiting := false, told := false }
        match s.dispatchEnd d with
        | some e =>
          more (((s.deliverResult d e s.now 0 0 [] false).countWrite d e).setScore i (fun x => x.closed k (e.ok d) (byteAt r 30)))
        | none =>
          let s : State := { s with dues := s.dues ++ [d] }
          let s := s.setScore i (fun x => { x with open_ := x.open_ ++ [k] })
          let dl := u16At r 28
          more (if dl = 0 then s else s.armIn (.deadline i k) (dl * 100))

/-- The run goes on while no step of its group is open: to the branch of a failed step, to the next step, or to its end
(R154). A run takes at most so many groups in one command; it goes on in its next SCORE_TRIGGER. -/
def State.advance (s : State) (i : ScoreId) : Nat → State
  | 0 => s
  | f + 1 =>
    let x := s.scores[i]
    if s.scoreState i ≠ 1 ∧ s.scoreState i ≠ 2 then s
    else if !x.open_.isEmpty then s
    else if s.scoreState i = 2 ∨ (x.ending = true ∧ x.failed.isNone = true) then s.runEnd i
    else match s.scoreTenant i with
      | none => s.runEnd i
      | some t =>
        match x.failed with
        | some (k, b) =>
          if 128 < b then s.runHalt i k (s.stepRecord i.val k) t
          else
            let s := (s.setScore i (fun x => { x with failed := none, ending := false })).wr (ob (0xA000 + i.val) 0x06) b
            (s.groupStep i t 129 b).advance i f
        | none =>
          let s := s.wr (ob (0xA000 + i.val) 0x06) (min 255 x.next)
          (s.groupStep i t 129 x.next).advance i f

/-- How many groups a run may take in one command. (DESIGN CHOICE, log entry 34.) -/
def groupsPerCommand : Nat := 256

/-- A run started at step 1 (R153, R154). -/
def State.runStart (s : State) (i : ScoreId) : State :=
  ((s.wr (ob (0xA000 + i.val) 0x02) 1).setScore i (fun x => { x with open_ := [], next := 1, failed := none, ending := false })).advance i
    groupsPerCommand

/-- A step of a score has ended: the run goes on when its group is over. -/
def State.stepEnded (s : State) (d : DueStep) (ok : Bool) : State :=
  if d.tuning.isSome then s
  else
    let i : ScoreId := ⟨d.score % 32, Nat.mod_lt _ (by decide)⟩
    if s.scores[i].open_.contains d.step then
      (s.setScore i (fun x => x.closed d.step ok (byteAt d.record 30))).advance i groupsPerCommand
    else s

/-- A due step that ends without a grant. -/
def State.endDue (s : State) (d : DueStep) (e : End) : State :=
  let s : State := { s with dues := s.dues.filter (fun x => !x.same d) }
  let i : ScoreId := ⟨d.score % 32, Nat.mod_lt _ (by decide)⟩
  let s := ((s.cancel (.deadline i d.step)).deliverResult d e s.now 0 0 [] false).countWrite d e
  s.stepEnded d (e.ok d)

/-! ### Steps on a voice -/

/-- An exchange not begun. -/
def Exchange.blank : Exchange :=
  { prog := .idle, frame := Frame.blank, air := .none, ref := 0, gap := 0, range := 0, opened := 0, acq := 0, phase := 0,
    noise := none, shortNoise := false, rx := Reception.blank, quality := [], status := 0, detail := 0, stamp := 0, count := 0, rounds := 0,
    full := false, marginOk := false, refreshed := [], modulated := false, latch := [] }

/-- The protocol code of an inventory opcode (Table 6-3). -/
def invProto (op : Nat) : Option Nat := if op = 1 then some 1 else if op = 2 then some 2 else if op = 3 then some 3 else none

/-- The result of the step that a voice holds, with what an inventory's end brings (R150, R159, R160): in ascending event
number, as events of one instant. -/
def State.stepResult (s : State) (g : Grant) (x : Exchange) (e : End) : State :=
  let d := g.step
  let stamp := if x.stamp = 0 then s.now else x.stamp
  let s := (s.deliverResult d e stamp x.count x.rounds x.quality x.full).countWrite d e
  match invProto (byteAt d.record 0) with
  | none => s
  | some p =>
    if e.outcome = 1 ∨ e.outcome = 2 then
      let s := if e.outcome = 1 then s.countMisses d p x.refreshed else s
      s.channelEvent d.channel 5 [d.tenant] (u8 d.score ++ u8 d.step ++ u8 e.outcome ++ u8 x.count)
    else s

/-- A new exchange for a step at level: its first frame may begin at once, but for a gap that the last exchange of the voice left (R112,
R174, R184). -/
def State.begin (s : State) (v : VoiceId) (g : Grant) : State × Option End :=
  let (s, x, e) := beginStep s v g.step { Exchange.blank with gap := max (s.now * 100) s.voices[v].gap }
  (s.setVoice v (fun y => { y with exchange := some x }), e)

/-- A slew or a stay at level under keep-warm (R70, R72); the slew reads RAMP_UP. -/
def State.continueAt (s : State) (v : VoiceId) (g : Grant) : State × Option End :=
  let before := s.voices[v].drive
  let s := (s.setVoice v (fun x => { x with grant := some g, owner := some g.step.tenant, drive := g.drive })).loadBank g.step.channel g.damping
  let s := s.wrAll [(ob (vi v) 0x07, g.vreq), (ob (vi v) 0x08, g.step.tenant.val)]
  let s := s.boostFollow
  let s := if g.limited then (s.inc (ob (vi v) 0x0B)).voiceEvent v 6 [g.step.tenant] g.step.channel g.drive else s
  if before = g.drive then s.begin v g
  else
    ((((s.setVoiceState v 2).setVoice v (fun x => { x with
        rampAt := s.now, rampTime := g.ramp, rampSteps := 64, rampFrom := amplitudeOf before, rampTo := amplitudeOf g.drive,
        drive := max before g.drive })).armIn (.slew v) g.ramp), none)

/-- The voice after a step has ended: the next keep-warm step goes on at level, else the down-ramp begins, or the voice that
had not emitted is at floor again (R71, R72, R76). -/
def State.afterStep (s : State) (v : VoiceId) (ramp : Nat) : Nat → State
  | 0 => s.rampDown v (max ramp s.minRamp)
  | f + 1 =>
    if s.voiceState v = 4 then
      let down := s.rampDown v (max ramp s.minRamp)
      if s.voices[v].disable || s.power.shedding || s.rst.quiescing.isSome then down
      else
        match s.choose v (s.dueOrder v) with
        | (none, s) => s.rampDown v (max ramp s.minRamp)
        | (some d, s) =>
          if s.keepWarm v d && (s.dispatchEnd d).isNone then
            let g := s.grantOf d
            let (s, e) := (s.takeDue v d).continueAt v g
            match e with
            | none => s
            | some e =>
              let s := s.stepResult g Exchange.blank e
              let s := s.setVoice v (fun x => { x with grant := none, exchange := none })
              ((s.wr (ob (vi v) 0x08) 0xFF).stepEnded g.step (e.ok g.step)).afterStep v g.ramp f
          else s.rampDown v (max ramp s.minRamp)
    else if s.emitting v then s.rampDown v (max ramp s.minRamp)
    else s.reachFloor v

/-- The step that a voice holds ends (R159): its result is delivered, its run goes on, and the voice continues or falls. -/
def State.endStep (s : State) (v : VoiceId) (e : End) : State :=
  match s.voices[v].grant with
  | none => s
  | some g =>
    let x := (s.voices[v].exchange).getD Exchange.blank
    let s := s.stepResult g x e
    let s := s.setVoice v (fun y => { y with grant := none, exchange := none, gap := x.gap })
    let s := (s.cancelAll (fun tm => tm == .frameEnd v || tm == .windowOpen v || tm == .eof v || tm == .close v || tm == .wtx v)).wr
      (ob (vi v) 0x08) 0xFF
    (s.stepEnded g.step (e.ok g.step)).afterStep v g.ramp 64

/-- The result data that a step cut short still carries: a write's report (R181). -/
def cutData (d : DueStep) (x : Option Exchange) : Octets :=
  if byteAt d.record 0 ≠ 9 then []
  else match x with
    | some y => (match y.prog with
        | .writing p => ({ p with after := if 7 ≤ p.stage then 0xFF else p.after } : WriteJob).report (byteAt d.record 14)
        | _ => WriteJob.blank.report (byteAt d.record 14))
    | none => WriteJob.blank.report (byteAt d.record 14)

/-- How a write that a voice trip or a boost failure cuts short ends once it writes (R182, Table 7-4): COMMIT_UNCERTAIN from the flag's
request on, WRITE_ABORTED before it. (DEDUCED against Table 3-4, log entry 53.) -/
def tornEnd (d : DueStep) (x : Exchange) (outcome : Nat) (data : Octets) : End :=
  match x.prog with
  | .writing p =>
    if (outcome ≠ 0x12 ∧ outcome ≠ 0x13) ∨ p.phase = 0 ∨ byteAt d.record 14 = 2 then noFrame outcome data
    else if 7 ≤ p.stage then ⟨0x26, x.status, x.detail, data⟩
    else ⟨0x22, x.status, x.detail, data⟩
  | _ => noFrame outcome data

/-- The step that a voice holds ends with an outcome of Table 3-4 or LINK_RETIRED, and the voice does not go on: every result
but the continuation, with what the step has found so far (R149, R159). -/
def State.cutStep (s : State) (v : VoiceId) (outcome : Nat) : State :=
  let one := fun (s : State) (p : Grant × Exchange) =>
    let (g, x) := p
    let e := tornEnd g.step x outcome (cutData g.step (some x))
    if g.step.tuning.isSome then s
    else (s.deliverResult g.step e (if x.stamp = 0 then s.now else x.stamp) x.count x.rounds x.quality x.full).countWrite g.step e
  let ps := s.voices[v].grant.toList.map (fun g => (g, (s.voices[v].exchange).getD Exchange.blank)) ++
    s.voices[v].deferred.toList.map (fun g => (g, Exchange.blank))
  let gs := if s.voices[v].abandoned then [] else ps.map Prod.fst
  let s := if s.voices[v].abandoned then s else ps.foldl one s
  let s := s.setVoice v (fun x => { x.undefer with grant := none, abandoned := false, exchange := none, session := none })
  let s := s.cancelAll (fun tm => tm == .frameEnd v || tm == .windowOpen v || tm == .eof v || tm == .close v || tm == .wtx v ||
    tm == .select v || tm == .dwell v)
  gs.foldl (fun s g => s.stepEnded g.step false) (s.wr (ob (vi v) 0x08) 0xFF)

/-- The step whose grant a voice has deferred to after its down-ramp ends with an outcome; its channel stays held until FLOOR (R55). -/
def State.cutDeferred (s : State) (v : VoiceId) (outcome : Nat) : State :=
  match s.voices[v].deferred with
  | none => s
  | some g =>
    let e := noFrame outcome (cutData g.step none)
    let s := s.setVoice v Voice.undefer
    let s := s.wr (ob (vi v) 0x08) (match s.voices[v].grant with | some h => h.step.tenant.val | none => 0xFF)
    if g.step.tuning.isSome then s
    else (((s.deliverResult g.step e s.now 0 0 [] false).countWrite g.step e).stepEnded g.step false)

/-- Every step that is due on a voice ends with an outcome. -/
def State.cutDues (s : State) (p : DueStep → Bool) (outcome : Nat) : State :=
  (s.dues.filter (fun d => p d && d.tuning.isNone)).foldl (fun s d => s.endDue d (noFrame outcome (cutData d none))) s

/-! ### Granting (R68, R71, R72, R157) -/

/-- Whether grants are being made: the field die serves with its limits, no shedding, no quiescing (R73, R515, R558). -/
def State.granting (s : State) : Bool :=
  s.up && s.linkReady .field && (s.isOn (ob 0x2030 0x05) || !s.hfSealed) && !s.power.shedding && s.rst.quiescing.isNone

/-- Whether a voice can take a grant: at floor, or falling with no grant deferred. -/
def State.voiceFree (s : State) (v : VoiceId) : Bool :=
  s.voices[v].grant.isNone && s.voices[v].deferred.isNone &&
    (s.voiceState v == 0 || (s.voiceState v == 5 && !s.voices[v].disable))

/-- A keep-warm reversal of a down-ramp (R72): at the next step boundary, then so many up steps of the new ramp time. -/
def State.reverse (s : State) (v : VoiceId) (g : Grant) (k : Nat) : State :=
  let old := s.voices[v].rampTime
  let at_ := s.voices[v].rampAt
  let s := s.cancel (.rampDown v)
  let s := s.setVoice v (fun x => { x with
    grant := some g, owner := some g.step.tenant, drive := g.drive, rampAt := at_ + ceilDiv (k * old) 64, rampTime := g.ramp, rampSteps := k,
    rampFrom := 0, rampTo := amplitudeOf g.drive })
  let s := s.loadBank g.step.channel g.damping
  let s := s.wrAll [(ob (vi v) 0x01, 2), (ob (vi v) 0x07, g.vreq), (ob (vi v) 0x08, g.step.tenant.val)]
  let s := (s.inc (ob (vi v) 0x0A)).voiceEvent v 5 [g.step.tenant] g.step.channel g.drive
  let s := s.boostFollow
  let s := if g.limited then (s.inc (ob (vi v) 0x0B)).voiceEvent v 6 [g.step.tenant] g.step.channel g.drive else s
  s.arm (.rampUp v) (at_ + ceilDiv (k * old + k * g.ramp) 64)

/-- A chosen step granted on a free voice: from floor, by a reversal, or deferred to after the down-ramp (R71, R72). -/
def State.grant (s : State) (v : VoiceId) (d : DueStep) : State :=
  let g := s.grantOf d
  let warm := s.keepWarm v d
  let s := s.takeDue v d
  if s.voiceState v = 5 then
    if warm then s.reverse v g (min 64 (s.downSteps v))
    else
      let s := s.setVoice v (fun x => { x with deferred := some g })
      let s := (s.inc (ob (vi v) 0x09)).voiceEvent v 4 [d.tenant] d.channel g.drive
      (s.wrAll [(ob (vi v) 0x07, max (s.rd (ob (vi v) 0x07)) g.vreq), (ob (vi v) 0x08, d.tenant.val)]).boostFollow.pauseDetection
  else if d.emits then s.takeUp v g
  else s.takeQuiet v g

end Sys2Proof.Machine
end

