-- ==== Sys2Proof/Machine/RunOps.lean ====
section
/-! DEFINITION. Running, Dozing and Rest (R26, R561, R562): what work is pending, and the entry to Dozing. -/

namespace Sys2Proof.Machine

/-- Conductor work pending or in flight: units, requests and replies, triggers and due steps, frames of the MAC, the host port
selected, events held for the start. -/
def State.conductorWork (s : State) : Bool :=
  !s.svc.inbound.isEmpty || tenants.any (fun t => s.svc.queues[t].any (fun j => j.phase != .replied)) ||
    scoreIds.any (fun i => s.scores[i].triggers != 0) || (!s.dues.isEmpty && !s.power.shedding) || !s.mac.rx.isEmpty ||
    !s.mac.inbox.isEmpty || s.mac.csma.isSome || !s.mac.out.isEmpty || s.host.selected || !s.router.held.isEmpty ||
    !s.rst.waiting.isEmpty || s.rst.quiescing.isSome || tenants.any (fun t => !s.crypto.queues[t].isEmpty)

/-- The other conditions of R561: voices, boost, air die, line and bridge exchanges, tunings and commits. -/
def State.islandWork (s : State) : Bool :=
  voiceIds.any (fun v => s.voiceState v != 0 && s.voiceState v != 7 && s.voiceState v != 8) || s.boost != 0 ||
    s.airIsland || s.line.reply.isSome || s.line.ask.isSome || s.pocket.bridge.isSome ||
    !s.cal.queue.isEmpty || !s.cal.running.isEmpty || !s.order.isEmpty

/-- Whether the block has work that keeps it Running. -/
def State.busy (s : State) : Bool := s.conductorWork || s.islandWork

/-- DOZING_ENTRY (R561): from Running with no work left. The core voltage at the exit is kept (R43), a tempo measurement in
progress is abandoned (R42), VBAT is sampled once a second (R557), and the rest threshold begins to run (R562). -/
def State.doze (s : State) : State :=
  if s.runState = 1 ∧ s.up = true ∧ s.busy = false ∧ s.time.restart = false then
    let s : State := { s with time := { s.time with resumeMv := s.rd (ob 0x1110 0x06), gate := none } }
    let s := s.fieldStopped
    let s := if s.isArmed .vbatSample then s.armIn .vbatSample 1000000 else s
    (s.setRun 2).armIn .rest (s.rd (ob 0x1080 0x01))
  else s

end Sys2Proof.Machine
end

