-- ==== Sys2Proof/Machine/CalOps.lean ====
section
/-! DEFINITION. Calibration (chapter 8): the tunings' quantities and tests (R199, R203), requests (R201), application (R205), user
values (R200, R206), automatic tunings (R207), the element health of a bank (R208) and the converter's slices (R217). -/

namespace Sys2Proof

/-- The n-th measured quantity of a run. -/
def Run.at_ (r : Run) (n : Nat) : Int := r.values.getD n 0

end Sys2Proof

namespace Sys2Proof.Machine

/-! ### Kinds and targets (Tables 8-1 and 8-8) -/

/-- A kind and a target as one number, as a fault's detail gives them (Table 18-1). -/
def calKey (kind target : Nat) : Nat := kind * 65536 + target

/-- Whether a kind takes a target and a method (Tables 8-1, 8-7, 8-8). -/
def kindTakes (kind target method : Nat) : Bool :=
  match kind with
  | 0x01 | 0x02 | 0x03 => target < 64 && method == 1
  | 0x04 | 0x05 | 0x06 => 0x100 ≤ target && target ≤ 0x103 && method == 1
  | 0x07 | 0x08 => target == 0x200 && method == 1
  | 0x09 => 0x400 ≤ target && target ≤ 0x600 && method == 1
  | 0x0A => target == 0x300 && method == 2
  | 0x0B => target == 0x301 && (method == 1 || method == 2)
  | _ => false

/-- Whether a kind is the air die's (R222). -/
def airKind (kind : Nat) : Bool := kind == 7 || kind == 8 || kind == 9 || kind == 0x0B

/-- The voice that a REFERENCE tuning of a target holds (R202). -/
def tuneVoice (kind target : Nat) : Option VoiceId :=
  if kind ≤ 3 then some (voiceOf target)
  else if kind ≤ 6 then some ⟨(target - 0x100) % 4, Nat.mod_lt _ (by decide)⟩ else none

/-- Whether a and b differ by at most `tol`. -/
def within (tol : Nat) (a b : Int) : Bool := decide ((a - b).natAbs ≤ tol)

/-- Whether a and b differ by at most `pct` percent of the repeat run's value (R203; the worked case of chapter 8). (DEDUCED, log entry 38.) -/
def withinPct (pct : Nat) (a b : Int) : Bool := decide ((a - b).natAbs * 100 ≤ pct * b.natAbs)

/-- Whether a value lies in a range. -/
def inRange (lo hi v : Int) : Bool := decide (lo ≤ v) && decide (v ≤ hi)

/-! ### The converter's slices (R217) -/

/-- The 36 slice corrections: offsets (1/16 LSB), gains (0.001 dB), skews (0.01 ps). -/
def State.sliceVals (s : State) : List Int :=
  [4, 5, 6].flatMap (fun sub => (List.range 12).map (fun i => toSigned 16 (u16At (leBytes 24 (s.rd (ob 0x6200 sub))) (2 * i))))

/-- The slice corrections stored. -/
def State.setSlices (s : State) (l : List Int) : State :=
  let pack := fun (n : Nat) => leNat ((List.range 12).flatMap (fun i => u16 (ofSigned 16 (l.getD (12 * n + i) 0))))
  s.wrAll [(ob 0x6200 0x04, pack 0), (ob 0x6200 0x05, pack 1), (ob 0x6200 0x06, pack 2)]

/-- Whether a slice's needed correction passes ±32 LSB, ±1.0 dB or ±10 ps (R217). -/
def sliceBad (l : List Int) (i : Nat) : Bool :=
  decide (512 < (l.getD i 0).natAbs) || decide (1000 < (l.getD (12 + i) 0).natAbs) || decide (1000 < (l.getD (24 + i) 0).natAbs)

/-- The slices of a run that must be retired. -/
def badSet (l : List Int) : Nat := (List.range 12).foldl (fun n i => if sliceBad l i then n + 2 ^ i else n) 0

/-- The slices of a set of 12 bits. -/
def slicesOf (n : Nat) : List Nat := (List.range 12).filter (fun i => n.testBit i)

/-! ### Ranges and tolerances (Table 8-1) -/

/-- Whether every quantity of a run lies in its range. -/
def runInRange (kind : Nat) (r : Run) : Bool :=
  r.inRange &&
  match kind with
  | 0x01 => inRange 0x02 0xFD (r.at_ 0) && inRange 0x02 0xFD (r.at_ 1) && inRange 100 2000 (r.at_ 2) && decide (50 ≤ r.at_ 4)
  | 0x03 => inRange (-511) 511 (r.at_ 0) && inRange (-511) 511 (r.at_ 1)
  | 0x04 => inRange (-1000) 1000 (r.at_ 0) && inRange (-500) 500 (r.at_ 1) && decide (35 ≤ r.at_ 2)
  | 0x05 => inRange 1050 1350 (r.at_ 0) && inRange 2250 2550 (r.at_ 1) && inRange 3450 3750 (r.at_ 2)
  | 0x06 => inRange 0 31 (r.at_ 0)
  | 0x07 => inRange (-63) 63 (r.at_ 0)
  | 0x09 => inRange 1 126 (r.at_ 0) && inRange 16 239 (r.at_ 1) && inRange 10 120 (r.at_ 2) && inRange 0 63 (r.at_ 3)
  | 0x0A | 0x0B => inRange (-50000) 50000 (r.at_ 0)
  | _ => true

/-- Whether two runs agree within the repeat tolerance. -/
def runsAgree (kind : Nat) (a b : Run) : Bool :=
  match kind with
  | 0x01 => within 2 (a.at_ 0) (b.at_ 0) && within 2 (a.at_ 1) (b.at_ 1) && withinPct 5 (a.at_ 2) (b.at_ 2) &&
      withinPct 10 (a.at_ 4) (b.at_ 4)
  | 0x02 => a.values == b.values
  | 0x03 => within 4 (a.at_ 0) (b.at_ 0) && within 4 (a.at_ 1) (b.at_ 1)
  | 0x04 => within 50 (a.at_ 0) (b.at_ 0) && within 20 (a.at_ 1) (b.at_ 1)
  | 0x05 => [0, 1, 2].all (fun n => within 10 (a.at_ n) (b.at_ n))
  | 0x06 => within 1 (a.at_ 0) (b.at_ 0)
  | 0x07 => within 2 (a.at_ 0) (b.at_ 0)
  | 0x08 => (List.range 12).all (fun i => within 16 (a.at_ i) (b.at_ i) && within 20 (a.at_ (12 + i)) (b.at_ (12 + i)) &&
      within 30 (a.at_ (24 + i)) (b.at_ (24 + i))) && badSet a.values == badSet b.values
  | 0x09 => a.at_ 0 == b.at_ 0 && within 3 (a.at_ 1) (b.at_ 1) && withinPct 10 (a.at_ 2) (b.at_ 2) && within 2 (a.at_ 3) (b.at_ 3)
  | 0x0A | 0x0B => within 20 (a.at_ 0) (b.at_ 0)
  | _ => false

/-- The status of two runs (R203, R211): PARK_UNREACHABLE where an ANT_TUNE found no park code (given as a negative one). -/
def judgeRuns (kind : Nat) (a b : Run) : Nat :=
  if kind = 1 ∧ (a.at_ 3 < 0 ∨ b.at_ 3 < 0) then 3
  else if !(runInRange kind a && runInRange kind b) then 2
  else if runsAgree kind a b then 0 else 1

/-! ### Events (R222) -/

/-- A calibration event: kind, target, status, to T0, the starting tenant and the channel's tenant. -/
def State.calEvent (s : State) (e kind target status : Nat) (t : Tenant) : State :=
  let ch := if target < 64 then (s.channelTenant target).toList else []
  s.raise e ([t0, t] ++ ch) (u8 kind ++ u16 target ++ u8 status)

/-! ### Receiver modes (R217, R240) -/

/-- The active set for a set of retired slices: the active ones that are healthy, then the lowest healthy ones. -/
def activeSlices (active retired n : Nat) : Nat :=
  let healthy := (List.range 12).filter (fun i => !retired.testBit i)
  let l := healthy.filter (fun i => active.testBit i) ++ healthy.filter (fun i => !active.testBit i)
  (l.take n).foldl (fun m i => m + 2 ^ i) 0

/-- The air die in LISTEN without five healthy slices is STOPPED, and listens again once it has them (Table 9-1). -/
def State.stopReceiver (s : State) : State :=
  if s.rd (ob 0x6200 0x03) = 2 then (if s.airState = 2 then (s.setAir 8).restPins else s)
  else if s.airState = 8 then ((s.setAir 2).restPins).tune (s.setAir 2).listenChannel else s

/-- The receiver arranged for a set of retired slices: FULL, HALF or STOPPED, with their faults and events. -/
def State.arrangeSlices (s : State) (retired : Nat) : State :=
  let healthy := ((List.range 12).filter (fun i => !retired.testBit i)).length
  let mode := if 10 ≤ healthy then 0 else if 5 ≤ healthy then 1 else 2
  let want := if mode = 0 then 10 else if mode = 1 then 5 else 0
  let old := s.rd (ob 0x6200 0x03)
  let s := s.wrAll [(ob 0x6200 0x01, activeSlices (s.rd (ob 0x6200 0x01)) retired want), (ob 0x6200 0x02, retired), (ob 0x6200 0x03, mode)]
  let s := if mode = 0 then s.causeEnd 35 else if old = 0 then s.fault 35 retired else s
  let s := if mode = 1 ∧ old ≠ 1 then s.calEvent 947 8 0x200 0 t0 else s
  let s := if mode = 2 then (if old = 2 then s else (s.fault 34 retired).raise 846 [t0] []) else s.causeEnd 34
  s.stopReceiver

/-- Whether the receiver is inside a frame, from preamble detection to frame end (Table 8-3). -/
def State.inAirFrame (s : State) : Bool := s.rd (ob 0x4050 0x04) == 3 || s.rd (ob 0x4050 0x04) == 4

/-! ### Banks (R208) -/

/-- Whether a bank with a health map is DEGRADED. -/
def bankDegraded (h : Nat) : Bool :=
  (List.range 4).any (fun i => h.testBit (2 * i) && h.testBit (2 * i + 1)) ||
    decide (2 < ((List.range 17).filter (fun j => h.testBit (8 + j))).length)

/-- The fault and event of a bank that has become DEGRADED. -/
def State.checkBank (s : State) (ch bank : Nat) (t : Tenant) : State :=
  if bankDegraded (s.rd (ob (0x6100 + ch) (0x0A + bank))) then
    if s.faults.causes.any (fun c => c.1 == 21 && c.2.2 == ch * 256 + bank) then s
    else (s.faultKeyed 21 t0 (ch * 256 + bank) (ch * 256 + bank)).calEvent 825 2 ch 0 t
  else s.causeEndKey 21 (ch * 256 + bank)

/-! ### Applying values (R205, Table 8-3) -/

/-- The phase anchors of a channel discarded (R213). -/
def State.dropAnchors (s : State) (ch : Nat) : State :=
  let on := (s.tags.filter (fun p => p.2.channel == ch)).map (·.1)
  { s with cal := { s.cal with anchors := s.cal.anchors.filter (fun a => !on.contains a.1) } }

/-- The slices that a set newly names announced as retired, each by an event (R217). -/
def State.sliceEvents (s : State) (fresh : Nat) : State := (slicesOf fresh).foldl (fun s _ => s.calEvent 946 8 0x200 0 t0) s

/-- The result of an ADC_SLICE reference: its corrections, and every slice that it finds bad retired. Nothing but a revert brings a retired
slice back (R217). (DEDUCED, log entry 38.) -/
def State.applySlices (s : State) (l : List Int) : State :=
  let old := s.rd (ob 0x6200 0x02)
  let bad := badSet l
  ((s.setSlices l).arrangeSlices (old ||| bad)).sliceEvents (bad &&& (0xFFF ^^^ old))

/-- An accepted result put in force whole (R205, R212). -/
def State.applyWhole (s : State) (kind target : Nat) (l : List Int) : State :=
  let i := 0x6100 + target
  let n := target - 0x100
  let at_ := fun (k : Nat) => l.getD k 0
  match kind with
  | 0x01 =>
    let s := s.wrAll [(ob i 0x01, (at_ 0).toNat), (ob i 0x02, (at_ 1).toNat), (ob (0x2100 + target) 0x0A, (at_ 2).toNat),
      (ob i 0x03, (at_ 3).toNat), (ob i 0x05, (at_ 0).toNat), (ob i 0x06, 0)]
    ((s.wrInt (ob i 0x04) (at_ 4)).dropAnchors target)
  | 0x02 => s.wrAll [(ob i 0x0A, (at_ 0).toNat), (ob i 0x0B, (at_ 1).toNat)]
  | 0x03 => (s.wrInt (ob i 0x08) (at_ 0)).wrInt (ob i 0x09) (at_ 1)
  | 0x04 =>
    ((s.wrInt (ob (0x6180 + n) 0x01) (at_ 0)).wrInt (ob (0x6180 + n) 0x02) (at_ 1)).wr (ob (0x6180 + n) 0x04) ((at_ 2).toNat % 256)
  | 0x05 => s.wrAll [(ob (0x2280 + n) 0x06, (at_ 0).toNat), (ob (0x2280 + n) 0x07, (at_ 1).toNat), (ob (0x2280 + n) 0x08, (at_ 2).toNat)]
  | 0x06 => s.wr (ob (0x6180 + n) 0x03) (at_ 0).toNat
  | 0x07 => s.wrInt (ob 0x6200 0x08) (at_ 0)
  | 0x08 => s.applySlices l
  | 0x09 =>
    let b := u8 (at_ 0).toNat ++ u8 (at_ 1).toNat ++ u8 (at_ 2).toNat ++ u8 (at_ 3).toNat ++ leBytes 1 (ofSigned 8 s.time.temp) ++ u8 1
    let e := b ++ u8 (b.foldl (fun n x => n ^^^ x.toNat) 0) ++ u8 0
    { s with air := { s.air with store := (target - 0x400, e) :: s.air.store.filter (fun p => p.1 != target - 0x400) } }
  | 0x0A => ((s.wrInt (ob 0x6210 0x01) (at_ 0)).wrInt (ob 0x1100 0x0B) (at_ 0)).dropWindow
  | 0x0B => s.wrInt (ob 0x6210 0x02) (at_ 0)
  | _ => s

/-- The factory values of a revert put in force (R200): with the converter's corrections the factory's active set, with the cue offset the
factory's threshold; a store entry is gone, a bank's elements are all healthy. -/
def State.applyRevert (s : State) (kind target : Nat) (l : List Int) : State :=
  match kind with
  | 0x02 => ((s.applyWhole 2 target l).causeEndKey 21 (target * 256)).causeEndKey 21 (target * 256 + 1)
  | 0x07 => (s.applyWhole 7 target l).wr (ob 0x6200 0x09) (Dict.dflt (ob 0x6200 0x09))
  | 0x08 => ((s.setSlices l).wr (ob 0x6200 0x01) (Dict.dflt (ob 0x6200 0x01))).arrangeSlices 0
  | 0x09 => { s with air := { s.air with store := s.air.store.filter (fun p => p.1 != target - 0x400) } }
  | k => s.applyWhole k target l

/-- One background increment put in force (R205), counted and, for the field die's kinds, announced (R222). -/
def State.applyStep (s : State) (kind target : Nat) (l : List Int) : State :=
  let i := 0x6100 + target
  let n := target - 0x100
  let at_ := fun (k : Nat) => l.getD k 0
  let move := fun (s : State) (k : Nat) (v : Int) => s.wrInt k (s.rdInt k + v)
  let s := match kind with
    | 0x01 => (move (s.wr (ob i 0x01) (clamp 0 255 ((s.rd (ob i 0x01) : Int) + at_ 0)).toNat) (ob i 0x06) (at_ 0)).dropAnchors target
    | 0x03 => move (move s (ob i 0x08) (at_ 0)) (ob i 0x09) (at_ 1)
    | 0x04 => move (move s (ob (0x6180 + n) 0x01) (at_ 0)) (ob (0x6180 + n) 0x02) (at_ 1)
    | 0x05 => [0, 1, 2].foldl (fun s k => s.wr (ob (0x2280 + n) (0x06 + k)) (((s.rd (ob (0x2280 + n) (0x06 + k)) : Int) + at_ k).toNat % 65536)) s
    | 0x07 => s.wr (ob 0x6200 0x09) (clamp 0 31 ((s.rd (ob 0x6200 0x09) : Int) + at_ 0)).toNat
    | 0x08 => s.setSlices ((List.range 36).map (fun k => s.sliceVals.getD k 0 + at_ k))
    | _ => s
  let s := s.inc (ob (0x6300 + kind) 0x04)
  if kind = 1 ∨ kind = 3 ∨ kind = 4 ∨ kind = 5 then s.calEvent 823 kind target 0 t0 else s

/-- One of them put in force. -/
def State.applyForm (s : State) (form : ApplyForm) (kind target : Nat) (l : List Int) : State :=
  match form with
  | .step => s.applyStep kind target l
  | .whole => s.applyWhole kind target l
  | .revert => s.applyRevert kind target l

/-- What is ready for an application point put in force and taken off the list (R228). -/
def State.applyReady (s : State) (p : Ready → Bool) : State :=
  let l := s.cal.ready.filter p
  let s : State := { s with cal := { s.cal with ready := s.cal.ready.filter (fun r => !p r) } }
  l.foldl (fun s r => s.applyForm r.form r.kind r.target r.values) s

/-- Whether a voice has a response window open (R100). -/
def State.windowOpen (s : State) (v : VoiceId) : Bool :=
  match s.voices[v].exchange with
  | some x => x.air == .open || x.air == .receiving
  | none => false

/-- Whether the application point of a kind and target stands open now (Table 8-3): those of CUE, of OSC_40 and of a channel's banks are
instants, which only their commands bring. -/
def State.pointOpen (s : State) (kind target : Nat) : Bool :=
  match kind with
  | 0x02 | 0x0A => true
  | 0x04 | 0x05 | 0x06 => (match tuneVoice kind target with | some v => !s.windowOpen v | none => true)
  | 0x08 => !s.inAirFrame
  | 0x09 => !(s.air.synEntry == some (target - 0x400) && (s.air.synLocked || s.air.tx.isSome))
  | _ => false

/-- A result, a revert or an increment put in force at once where its application point stands open, else kept for it. Of increments only
the latest pending one is kept (R228); a result or a revert takes the place of everything that waited before it. -/
def State.applyAt (s : State) (kind target : Nat) (form : ApplyForm) (l : List Int) : State :=
  let gone := fun (r : Ready) => r.kind == kind && r.target == target && (form != .step || r.form == .step)
  let s : State := { s with cal := { s.cal with ready := s.cal.ready.filter (fun r => !gone r) } }
  if s.pointOpen kind target then s.applyForm form kind target l
  else { s with cal := { s.cal with ready := s.cal.ready ++ [⟨kind, target, form, l⟩] } }

/-- The application point between frames of the air receiver (Table 8-3). -/
def State.airPoint (s : State) : State := s.applyReady (fun r => r.kind == 8)

/-- The application point at the start of a transmitted or received frame (Table 8-3). -/
def State.framePoint (s : State) : State := s.applyReady (fun r => r.kind == 0x0B)

/-! ### User values (R200, R206) -/

/-- The objects that an accepted tuning of a kind and target sets; a CUE reference sets the offset alone, and its revert the threshold
too. -/
def tunedKeys (kind target : Nat) (user : Bool) : List Nat :=
  let i := 0x6100 + target
  let n := target - 0x100
  match kind with
  | 0x01 => ob (0x2100 + target) 0x0A :: [1, 2, 3, 4, 5, 6, 0x0C].map (ob i)
  | 0x02 => [ob i 0x0A, ob i 0x0B]
  | 0x03 => [ob i 0x08, ob i 0x09]
  | 0x04 => [1, 2, 4, 6].map (ob (0x6180 + n))
  | 0x05 => ob (0x6180 + n) 0x06 :: [6, 7, 8].map (ob (0x2280 + n))
  | 0x06 => [3, 6].map (ob (0x6180 + n))
  | 0x07 => ob 0x6200 0x08 :: if user then [] else [ob 0x6200 0x09]
  | 0x08 => [1, 2, 3, 4, 5, 6].map (ob 0x6200)
  | 0x0A => [ob 0x6210 0x01, ob 0x6210 0x03, ob 0x1100 0x0B]
  | 0x0B => [ob 0x6210 0x02, ob 0x6210 0x04]
  | _ => []

/-- The objects that background correction of a kind and target moves (Table 8-3, R214, R217). -/
def trackedKeys (kind target : Nat) : List Nat :=
  let i := 0x6100 + target
  let n := target - 0x100
  match kind with
  | 0x01 => [ob i 0x01, ob i 0x06]
  | 0x03 => [ob i 0x08, ob i 0x09]
  | 0x04 => [1, 2].map (ob (0x6180 + n))
  | 0x05 => [6, 7, 8].map (ob (0x2280 + n))
  | 0x07 => [ob 0x6200 0x09]
  | 0x08 => [1, 2, 3, 4, 5, 6].map (ob 0x6200)
  | _ => []

/-- Every kind and target with background correction (Table 8-1). -/
def trackedPairs : List (Nat × Nat) :=
  (List.range 64).flatMap (fun c => [(1, c), (3, c)]) ++ (List.range 4).flatMap (fun n => [(4, 0x100 + n), (5, 0x100 + n)]) ++
    [(7, 0x200), (8, 0x200)]

/-- The state with every result and revert in force that waits for its application point. -/
def State.settled (s : State) : State :=
  s.cal.ready.foldl (fun s r => if r.form = .step then s else s.applyForm r.form r.kind r.target r.values) s

/-- An item of a list taken from another list. -/
def takeKey (k : Nat) (old new : List (Nat × Octets)) : List (Nat × Octets) :=
  new.filter (fun p => p.1 == k) ++ old.filter (fun p => p.1 != k)

/-- The values of what has been accepted or reverted made permanent, all of it in one page commit (R206). -/
def State.keepTunings (s : State) : State :=
  let full := s.settled
  let l := s.cal.dirty
  let keys := fun (d : Nat × Nat) => calKey d.1 d.2
  let mine := fun (k : Nat) => l.any (fun d => keys d == k)
  let s : State := { s with cal := { s.cal with
    dirty := []
    nvaUser := s.cal.user.filter mine ++ s.cal.nvaUser.filter (fun k => !mine k)
    nvaTemps := s.cal.temps.filter (fun p => mine p.1) ++ s.cal.nvaTemps.filter (fun p => !mine p.1)
    nvaStore := (l.filter (fun d => d.1 == 9)).foldl (fun st d => takeKey (d.2 - 0x400) st full.air.store) s.cal.nvaStore } }
  s.keep (l.flatMap (fun d => (tunedKeys d.1 d.2 (s.cal.user.contains (keys d))).map (fun k => (k, full.rd k))))

/-- Background corrections made permanent with a checkpoint (R206), but for kinds and targets whose own commit is still to come. -/
def State.keepTracked (s : State) : State :=
  let full := s.settled
  s.keep ((trackedPairs.filter (fun d => !s.cal.dirty.contains d)).flatMap (fun d => (trackedKeys d.1 d.2).map (fun k => (k, full.rd k))))

/-- A kind and target noted for the commit of tunings. -/
def State.dirtied (s : State) (kind target : Nat) : State :=
  ({ s with cal := { s.cal with dirty := (kind, target) :: s.cal.dirty.filter (fun d => d != (kind, target)) } } : State).commit .tunings

/-- The user-value bits of 0x618n.07. -/
def State.userBits (s : State) (n : Nat) : State :=
  s.wr (ob (0x6180 + n) 0x07)
    ((if s.cal.user.contains (calKey 4 (0x100 + n)) then 1 else 0) + (if s.cal.user.contains (calKey 5 (0x100 + n)) then 2 else 0) +
      (if s.cal.user.contains (calKey 6 (0x100 + n)) then 4 else 0))

/-- The valid flag of a kind and target. -/
def State.setUser (s : State) (kind target : Nat) (on : Bool) : State :=
  let rest := s.cal.user.filter (· != calKey kind target)
  let s : State := { s with cal := { s.cal with user := if on then calKey kind target :: rest else rest } }
  if 4 ≤ kind ∧ kind ≤ 6 then s.userBits (target - 0x100) else s

/-! ### Background (R213, R224) -/

/-- A track with its windows empty. -/
def Track.cleared (t : Track) : Track := { t with sum := 0, count := 0, prev := none }

/-- The partial windows of a target discarded, of every kind (R224). -/
def State.dropWindows (s : State) (target : Nat) : State :=
  { s with cal := { s.cal with
      tracks := s.cal.tracks.map (fun p => if p.1 = target then (p.1, p.2.cleared) else p)
      windows := s.cal.windows.filter (fun p => p.1 % 65536 != target)
      counts := s.cal.counts.filter (fun p => p.1 % 65536 != target)
      wakes := if target = 0x200 then 0 else s.cal.wakes
      hour := if target = 0x200 then none else s.cal.hour } }

/-- Whether a REFERENCE tuning of a target runs, so that its background correction is stopped (R224). -/
def State.referenceRuns (s : State) (target : Nat) : Bool :=
  s.cal.running.any (fun u => u.target == target && u.stage != 0)

/-- What has been counted toward a background window. -/
def State.windowCount (s : State) (key : Nat) : Nat := Tab.get (fun _ => 0) s.cal.counts key

/-- `n` more counted toward a background window. -/
def State.countWindow (s : State) (key n : Nat) : State :=
  { s with cal := { s.cal with counts := Tab.set (fun _ => 0) s.cal.counts key (s.windowCount key + n) } }

/-- A channel's track. -/
def State.track (s : State) (ch : Nat) : Track :=
  match s.cal.tracks.find? (fun p => p.1 == ch) with
  | some p => p.2
  | none => { sum := 0, count := 0, prev := none, stopped := false }

/-- A channel's track changed. -/
def State.setTrack (s : State) (ch : Nat) (t : Track) : State :=
  { s with cal := { s.cal with tracks := (ch, t) :: s.cal.tracks.filter (fun p => p.1 != ch) } }

/-! ### Starting and ending (R201 to R203) -/

/-- The tuning state of a tenant's request object; an automatic tuning shows in none. -/
def State.tuneState (s : State) (u : Tuning) (st : Nat) : State := if u.auto then s else s.wr (obT 0x6000 0x05 u.tenant) st

/-- The first run begins: background correction of the target stops (R224). -/
def State.firstRun (s : State) (u : Tuning) : State :=
  let s : State := { s with cal := { s.cal with running := s.cal.running.map (fun w => if w = u then { u with stage := 1 } else w) } }
  (s.dropWindows u.target).tuneState u 2

/-- The voice of a tuning is given back: a down-ramp where it emits, else FLOOR (R202, Table 8-5). -/
def State.releaseVoice (s : State) (v : VoiceId) : State :=
  let ramp := match s.voices[v].grant with | some g => g.ramp | none => s.minRamp
  let s := s.cancelAll (fun tm => tm == .select v || tm == .dwell v)
  let s := s.setVoice v (fun x => { x.undefer with grant := none, abandoned := false, exchange := none, session := none })
  let s := s.wr (ob (vi v) 0x08) 0xFF
  if s.voiceState v = 5 then s
  else if s.emitting v then s.rampDown v (max ramp s.minRamp)
  else s.reachFloor v

/-- Whether a tuning emits on its channel (R202). -/
def Tuning.emits (u : Tuning) : Bool := u.kind == 1 || u.kind == 2 || u.kind == 3

/-- Whether a voice serves a tuning. -/
def Voice.serves (x : Voice) (u : Tuning) : Bool :=
  (x.grant.toList ++ x.deferred.toList).any (fun g => g.step.tuning == some (u.kind, u.target) && g.step.tenant == u.tenant)

/-- A tuning over with a status: its voice is released, its records and request object are written, its event and fault raised
(R201 to R204, R222). -/
def State.endTuning (s : State) (u : Tuning) (status : Nat) : State :=
  let s : State := { s with
    cal := { s.cal with running := s.cal.running.filter (· != u), queue := s.cal.queue.filter (· != u) }
    dues := s.dues.filter (fun d => !(d.tuning == some (u.kind, u.target) && d.tenant == u.tenant)) }
  let s := match u.voice with
    | some v => if s.voices[v].serves u then s.releaseVoice v else s
    | none => s
  let s := (s.cancel (.refEdge u.tenant)).cancel (.refGate u.tenant)
  let s := if u.auto then s
    else s.wrAll [(obT 0x6000 0x05 u.tenant, 0), (obT 0x6000 0x06 u.tenant, status), (obT 0x6000 0x07 u.tenant, s.now)]
  let i := 0x6300 + u.kind
  let s := if status = 0 then (s.inc (ob i 0x02)).wr (ob i 0x05) s.now
    else (s.inc (ob i 0x03)).wrAll [(ob i 0x06, s.now), (ob i 0x07, u.target), (ob i 0x08, status)]
  let key := calKey u.kind u.target
  let s := if status = 0 then (s.causeEndKey 2 key).causeEndKey 3 key
    else if status = 1 then s.faultKeyed 2 u.tenant key key
    else if status = 2 then s.faultKeyed 3 u.tenant key key else s
  s.calEvent (if airKind u.kind then (if status = 0 then 944 else 945) else if status = 0 then 821 else 822) u.kind u.target status u.tenant

/-- A tuning accepted with the values of its repeat run (R203, R205, R206). -/
def State.acceptTuning (s : State) (u : Tuning) (l : List Int) : State :=
  let s := s.setUser u.kind u.target true
  let waits := fun (r : Ready) => r.kind == 1 && r.target == u.target
  let s := match u.kind with
    | 0x01 =>
      let s : State := { s with cal := { s.cal with ready := s.cal.ready.filter (fun r => !waits r) } }
      ((s.applyWhole 1 u.target l).wr (ob (0x6100 + u.target) 0x0C) s.now).setTrack u.target
        { sum := 0, count := 0, prev := none, stopped := false }
    | 0x02 =>
      let i := 0x6100 + u.target
      let s := s.wrAll [(ob i 0x0A, s.rd (ob i 0x0A) ||| (l.getD 0 0).toNat), (ob i 0x0B, s.rd (ob i 0x0B) ||| (l.getD 1 0).toNat)]
      (s.checkBank u.target 0 u.tenant).checkBank u.target 1 u.tenant
    | 0x0A => (s.applyAt 0x0A u.target .whole l).wr (ob 0x6210 0x03) s.now
    | 0x0B => (s.applyAt 0x0B u.target .whole l).wr (ob 0x6210 0x04) s.now
    | k => s.applyAt k u.target .whole l
  let s : State := { s with cal := { s.cal with
    temps := (calKey u.kind u.target, s.time.temp) :: s.cal.temps.filter (fun p => p.1 != calKey u.kind u.target) } }
  let s := if 4 ≤ u.kind ∧ u.kind ≤ 6 then s.wrInt (ob (0x6180 + (u.target - 0x100)) 0x06) s.time.temp else s
  (s.dirtied u.kind u.target).endTuning u 0

/-- Whether the air receiver is idle: in LISTEN. -/
def State.receiverIdle (s : State) : Bool := s.rd (ob 0x4050 0x04) == 2

/-- Whether a waiting tuning can be taken up now: a tuning of the receiver's slices waits for LISTEN, or for STOPPED, one of the cue
receiver for the end of a pattern (R202). -/
def State.canTune (s : State) (u : Tuning) : Bool :=
  if u.kind = 8 then s.receiverIdle || s.rd (ob 0x4050 0x04) == 8
  else if u.kind = 7 then s.air.cueState != 2 else true

/-- A waiting tuning taken up (R202, R207, R220, R246): a step on its voice, or its first run at once. -/
def State.takeTuning (s : State) (u : Tuning) : State :=
  let u' : Tuning := { u with voice := tuneVoice u.kind u.target }
  let s : State := { s with cal := { s.cal with queue := s.cal.queue.filter (· != u), running := s.cal.running ++ [u'] } }
  match tuneVoice u.kind u.target with
  | some _ =>
    if u.kind ≤ 3 ∨ s.linkReady .field then
      let d : DueStep :=
        { score := 32 + u.tenant.val, step := 0, tenant := u.tenant,
          channel := if u.kind ≤ 3 then u.target else 16 * (u.target - 0x100), record := [], dueAt := s.now,
          settings := s.settingsOf [], tuning := some (u.kind, u.target), prio := 3, waiting := false, told := false }
      { s with dues := s.dues ++ [d] }
    else
      let s : State := { s with cal := { s.cal with running := s.cal.running.map (fun w => if w = u' then { w with voice := none } else w) } }
      s.firstRun { u' with voice := none }
  | none =>
    if u.method = 2 then
      let g := s.rd (ob 0x6010 0x01)
      if s.rd (ob (0x1090 + g) 0x01) ≠ 1 then s.endTuning u' 4
      else (s.firstRun u').armIn (.refEdge u.tenant) (2000000 + ceilDiv 2000000 (s.rd (ob 0x6010 0x02)))
    else if u.kind = 9 then
      let l := if u.target = 0x600 then List.range (plan s.profile).length else [u.target - 0x400]
      let s := s.firstRun u'
      { s with air := { s.air with retune := l, first := none } }
    else s.firstRun u'

/-- Waiting tunings taken up, one at a time on a target, in the order of their start writes (R202). -/
def State.nextTunings (s : State) : State :=
  s.cal.queue.foldl (fun s u =>
    if s.cal.running.any (fun w => w.target == u.target || (w.kind == 9 && u.kind == 9)) || !s.canTune u then s
    else if (s.cal.queue.takeWhile (· != u)).any (fun w => w.target == u.target) then s
    else s.takeTuning u) s

/-- A tuning started (R201): it waits behind others of its target. -/
def State.startTuning (s : State) (u : Tuning) : State :=
  let s := (s.inc (ob (0x6300 + u.kind) 0x01)).tuneState u 1
  ({ s with cal := { s.cal with queue := s.cal.queue ++ [u] } } : State).nextTunings

/-- An automatic tuning as T0 (R207). -/
def autoTuning (kind target : Nat) : Tuning :=
  { tenant := t0, kind := kind, target := target, method := 1, auto := true, stage := 0, first := none, last := none, voice := none,
    status := 0 }

/-- The tunings that satisfy `p` aborted (R223). -/
def State.abortTunings (s : State) (p : Tuning → Bool) : State :=
  (((s.cal.running ++ s.cal.queue).filter p).foldl (fun s u => s.endTuning u 5) s).nextTunings

/-- The tuning that a voice serves aborted: what R66 and R75 do to a step, they do to a tuning that holds its voice (R202). -/
def State.abortOn (s : State) (v : VoiceId) : State :=
  s.abortTunings (fun u => s.voices[v].serves u || (u.stage == 3 && u.voice == some v))

/-! ### The request object (R201) -/

/-- A tenant's request: kind, target, method. -/
def State.tuneRequest (s : State) (t : Tenant) : Nat × Nat × Nat :=
  (s.rd (obT 0x6000 0x01 t), s.rd (obT 0x6000 0x02 t), s.rd (obT 0x6000 0x03 t))

/-- Status of a write of `v` to 0x6000.04. -/
def State.tuneCheck (s : State) (t : Tenant) (v : Nat) : Nat :=
  let (kind, target, method) := s.tuneRequest t
  if v = 3 then sOK
  else if v ≠ 1 ∧ v ≠ 2 then sRange
  else
    let range := !kindTakes kind target method ||
      (t.val != 0 && (if target < 64 then s.channelTenant target != some t else true)) ||
      (v == 1 && kind == 0x0B && method == 1 && !s.cal.user.contains (calKey 0x0A 0x300))
    firstOf (when range sRange) (when (s.rd (obT 0x6000 0x05 t) != 0) sInUse)

/-- What the factory values of a kind and target are, in the order of its quantities (R200). (DEDUCED, log entry 38.) -/
def factoryValues (kind target : Nat) : List Int :=
  let n := target - 0x100
  let sig := fun (w k : Nat) => toSigned w (Dict.dflt k)
  let slices := fun (sub : Nat) => (List.range 12).map (fun i => toSigned 16 (u16At (leBytes 24 (Dict.dflt (ob 0x6200 sub))) (2 * i)))
  match kind with
  | 0x01 => [0x80, 0x80, 0, 0, 0]
  | 0x02 => [0, 0]
  | 0x03 => [0, 0]
  | 0x04 => [sig 16 (ob (0x6180 + n) 0x01), sig 16 (ob (0x6180 + n) 0x02), (Dict.dflt (ob (0x6180 + n) 0x04) : Nat)]
  | 0x05 => [(Dict.dflt (ob (0x2280 + n) 0x06) : Nat), (Dict.dflt (ob (0x2280 + n) 0x07) : Nat), (Dict.dflt (ob (0x2280 + n) 0x08) : Nat)]
  | 0x06 => [(Dict.dflt (ob (0x6180 + n) 0x03) : Nat)]
  | 0x07 => [sig 8 (ob 0x6200 0x08)]
  | 0x08 => slices 4 ++ slices 5 ++ slices 6
  | 0x0A => [sig 32 (ob 0x6210 0x01)]
  | 0x0B => [sig 32 (ob 0x6210 0x02)]
  | _ => []

/-- A revert (R200, R204): the user values of one kind on one target are cleared. (DEDUCED, log entry 38.) -/
def State.revertTuning (s : State) (kind target : Nat) : State :=
  let key := calKey kind target
  let s := ((s.setUser kind target false).causeEndKey 2 key).causeEndKey 3 key
  let s := if kind = 9 then
      let l := if target = 0x600 then (s.air.store ++ s.cal.nvaStore).map (fun p => 0x400 + p.1) else [target]
      l.eraseDups.foldl (fun s e => ((s.setUser 9 e false).applyAt 9 e .revert []).dirtied 9 e) s
    else (s.applyAt kind target .revert (factoryValues kind target)).dirtied kind target
  s.commit .tunings

/-! ### Automatic tunings (R207) -/

/-- The temperature of the last accepted reference of a kind and target; 25 °C before one (0x618n.06's default). (DESIGN CHOICE, log entry 38.) -/
def State.refTemp (s : State) (kind target : Nat) : Int :=
  match s.cal.temps.find? (fun p => p.1 == calKey kind target) with
  | some p => p.2
  | none => 25

/-- An automatic tuning noted as due, unless it is already due or under way. -/
def State.noteAuto (s : State) (kind target : Nat) : State :=
  if s.cal.autos.contains (kind, target) || (s.cal.queue ++ s.cal.running).any (fun u => u.auto && u.kind == kind && u.target == target) then s
  else { s with cal := { s.cal with autos := s.cal.autos ++ [(kind, target)] } }

/-- The tunings that a temperature makes due: the voice kinds, and the slices. -/
def State.temperatureTrigger (s : State) : State :=
  let g := s.rd (ob 0x6010 0x05)
  if g = 0 then s
  else
    let l := (List.range 4).flatMap (fun n => [(6, 0x100 + n), (4, 0x100 + n), (5, 0x100 + n)]) ++ [(8, 0x200)]
    l.foldl (fun s p => if g ≤ (s.time.temp - s.refTemp p.1 p.2).natAbs then s.noteAuto p.1 p.2 else s) s

/-! ### Runs, and the test after them (R203, R210) -/

/-- A tuning's first run is made, and the repeat run begins. -/
def State.repeatRun (s : State) (u : Tuning) (r : Run) : State :=
  let s : State := { s with cal := { s.cal with running := s.cal.running.map (fun w => if w = u then { u with stage := 2, first := some r } else w) } }
  s.tuneState u 3

/-- The test of R203, once the repeat run is made. -/
def State.judgeTuning (s : State) (u : Tuning) (r : Run) : State :=
  let a := match u.first with | some a => a | none => r
  let st := judgeRuns u.kind a r
  (if st = 0 then s.acceptTuning u r.values else s.endTuning u st).nextTunings

/-- A running tuning changed. -/
def State.setTuning (s : State) (u w : Tuning) : State :=
  { s with cal := { s.cal with running := s.cal.running.map (fun x => if x = u then w else x) } }

/-- A voice has come to FLOOR: the tuning whose runs it made is APPLYING (Table 8-5). -/
def State.applying (s : State) (v : VoiceId) : State :=
  match s.cal.running.find? (fun u => u.stage == 3 && u.voice == some v) with
  | some u => (s.setTuning u { u with stage := 4 }).tuneState u 4
  | none => s

/-- The repeat run of a tuning that emits: its voice ramps down, and the test comes at FLOOR (Table 8-5). -/
def State.rampTuning (s : State) (u : Tuning) (v : VoiceId) (r : Run) : State :=
  let s := s.setTuning u { u with stage := 3, last := some r }
  let s := if s.voices[v].serves u then s.releaseVoice v else s
  if s.voiceState v = 5 then s else s.applying v

/-- Tunings that are APPLYING, tested: within 25 µs of FLOOR (Table 8-5), which the model takes as before time next passes. (DESIGN CHOICE,
log entry 38.) -/
def State.judgeApplying (s : State) : State :=
  (s.cal.running.filter (fun u => u.stage == 4)).foldl (fun s u => match u.last with | some r => s.judgeTuning u r | none => s) s

/-- What the block does with no command waiting (log entry 8): tunings that are APPLYING are tested, time passes, and without work it
dozes. -/
def State.idle (s : State) : State := s.judgeApplying.pass.doze

end Sys2Proof.Machine
end

