-- ==== Sys2Proof/Machine/Calibration.lean ====
section
/-! DEFINITION. Calibration's commands (chapter 8): the runs of a tuning, automatic tunings, background windows, slice retirement, the
cue threshold, the external reference, and the temperature reading (R37). -/

namespace Sys2Proof.Machine

/-! ### Runs (R203) -/

/-- The oldest tuning at a stage whose runs are reported as such: not an EXTERNAL one (R220), not SYN_ENTRY (R246). -/
def State.tuningAt (s : State) (stage : Nat) : Option Tuning :=
  s.cal.running.find? (fun u => u.stage == stage && u.method == 1 && u.kind != 9)

/-- The reference error that a count over a gate gives, in ppb (R220): `er` is the reference's own error. -/
def gateError (count : Nat) (er : Int) (nominal : Nat) : Int :=
  roundAway ((count : Int) * (1000000000 + er) - (nominal : Int) * 1000000000) nominal

/-- The nominal island count of a gate of G seconds. -/
def State.nominal (s : State) (kind : Nat) : Nat := (if kind = 0x0A then 27120000 else 40000000) * s.rd (ob 0x6010 0x04)

/-- A run as it is judged: the count of a REFERENCE OSC_40 becomes an error, corrected by the 27.12 MHz island's (R221). -/
def State.asRun (s : State) (u : Tuning) (r : Run) : Run :=
  if u.kind = 0x0B then { r with values := [gateError (r.at_ 0).toNat (s.rdInt (ob 0x1100 0x0B)) (s.nominal 0x0B)] } else r

/-- TUNING_FIRST_RUN_DONE (R203). -/
def execTuningFirstRunDone (run : Run) (s : State) : Result :=
  match s.tuningAt 1 with
  | some u => done (s.repeatRun u (s.asRun u run))
  | none => done s

/-- TUNING_REPEAT_DONE (R203): the accepted values are those of the repeat run. -/
def execTuningRepeatDone (run : Run) (s : State) : Result :=
  match s.tuningAt 2 with
  | some u =>
    let r := s.asRun u run
    match u.voice with
    | some v => done (if u.emits then s.rampTuning u v r else s.judgeTuning u r)
    | none => done (s.judgeTuning u r)
  | none => done s

/-- Whether the target of an automatic tuning is idle (R207). -/
def State.targetIdle (s : State) (kind target : Nat) : Bool :=
  match tuneVoice kind target with
  | some v => s.linkReady .field && s.voiceState v == 0 && s.voices[v].grant.isNone && s.voices[v].deferred.isNone &&
      !s.dues.any (fun d => voiceOf d.channel == v)
  | none => s.receiverIdle

/-- AUTO_TUNING_START (R207). -/
def execAutoTuningStart (kind target : Nat) (s : State) : Result :=
  if s.cal.autos.contains (kind, target) && s.targetIdle kind target then
    let s : State := { s with cal := { s.cal with autos := s.cal.autos.filter (· != (kind, target)) } }
    done (s.startTuning (autoTuning kind target))
  else done s

/-! ### Background windows (R213 to R217) -/

/-- The antenna decision on two windows (R214): the direction of a step, if one is made. `k` is the slope. -/
def antStep (k : Int) (a b : Int × Nat) : Int :=
  let big := fun (w : Int × Nat) => decide (1000 * k.natAbs * w.2 ≤ w.1.natAbs * 140625)
  let near := decide ((a.1 * b.2 - b.1 * a.2).natAbs * 140625 ≤ 1000 * k.natAbs * a.2 * b.2)
  let up := fun (w : Int × Nat) => decide (w.1 * k < 0)
  if k = 0 ∨ a.2 = 0 ∨ b.2 = 0 then 0
  else if big a && big b && up a == up b && near then (if up b then 1 else -1) else 0

/-- ANT_BACKGROUND_WINDOW (R213, R214). -/
def execAntBackgroundWindow (ch : Channel) (s : State) : Result :=
  let t := s.track ch.val
  let i := 0x6100 + ch.val
  if t.stopped || !s.isOn (ob i 0x07) || s.referenceRuns ch.val || decide (t.count < s.rd (ob 0x6010 0x06)) then done s
  else match t.prev with
    | none => done (s.setTrack ch.val { t with sum := 0, count := 0, prev := some (t.sum, t.count) })
    | some w =>
      let c := antStep (s.rdInt (ob i 0x04)) w (t.sum, t.count)
      let s := s.setTrack ch.val { t with sum := 0, count := 0, prev := none }
      if c = 0 then done s
      else if s.rd (ob 0x6010 0x07) < (s.rdInt (ob i 0x06) + c).natAbs then
        done ((s.setTrack ch.val { sum := 0, count := 0, prev := none, stopped := true }).calEvent 824 1 ch.val 0 t0)
      else done (s.applyAt 1 ch.val .step [c])

/-- Two consecutive windows judged: the increments where both agree within the tolerances and the later one asks for at least one
increment; `spec` gives (tolerance, least correction, increment) of each quantity. -/
def windowStep (spec : List (Nat × Nat × Nat)) (a b : List Int) : List Int :=
  let n := spec.length
  let ok := (List.range n).all (fun i => within (spec.getD i (0, 0, 0)).1 (a.getD i 0) (b.getD i 0))
  (List.range n).map (fun i =>
    let q := spec.getD i (0, 0, 0)
    let v := b.getD i 0
    if ok && decide (q.2.1 ≤ v.natAbs) then (if v < 0 then -((q.2.2 : Nat) : Int) else (q.2.2 : Nat)) else 0)

/-- A window of one of these kinds closed: it is kept, or judged with the one before it. After a correction both are discarded; else the
later one is kept for the next (R215, R216). -/
def State.closeWindow (s : State) (kind target : Nat) (spec : List (Nat × Nat × Nat)) (l : List Int) : State :=
  let key := calKey kind target
  let s : State := { s with cal := { s.cal with counts := s.cal.counts.filter (fun p => p.1 != key) } }
  let rest := s.cal.windows.filter (fun p => p.1 != key)
  let later : State := { s with cal := { s.cal with windows := (key, l) :: rest } }
  match s.cal.windows.find? (fun p => p.1 == key) with
  | none => later
  | some w =>
    let d := windowStep spec w.2 l
    if d.all (· == 0) then later
    else ({ s with cal := { s.cal with windows := rest } } : State).applyAt kind target .step d

/-- OFFSET_BACKGROUND_WINDOW (R215): the residuals of I and Q, in codes. -/
def execOffsetBackgroundWindow (ch : Channel) (run : Run) (s : State) : Result :=
  if s.isOn (ob (0x6100 + ch.val) 0x07) && !s.referenceRuns ch.val && decide (32 ≤ s.windowCount (calKey 3 ch.val)) then
    done (s.closeWindow 3 ch.val [(4, 1, 1), (4, 1, 1)] run.values)
  else done s

/-- IQ_BACKGROUND_WINDOW (R216): the corrections of gain ratio and skew that the statistics ask for. -/
def execIqBackgroundWindow (v : VoiceId) (run : Run) (s : State) : Result :=
  if s.isOn (ob (0x6180 + v.val) 0x05) && !s.referenceRuns (0x100 + v.val) && decide (4096 ≤ s.windowCount (calKey 4 (0x100 + v.val))) then
    done (s.closeWindow 4 (0x100 + v.val) [(50, 10, 10), (20, 5, 5)] run.values)
  else done s

/-- GAIN_BACKGROUND_WINDOW (R216): the corrections of G1 to G3. -/
def execGainBackgroundWindow (v : VoiceId) (run : Run) (s : State) : Result :=
  if s.isOn (ob (0x6180 + v.val) 0x05) && !s.referenceRuns (0x100 + v.val) && decide (32 ≤ s.windowCount (calKey 5 (0x100 + v.val))) then
    done (s.closeWindow 5 (0x100 + v.val) [(10, 5, 5), (10, 5, 5), (10, 5, 5)] run.values)
  else done s

/-- SLICE_BACKGROUND_WINDOW (R217): the needed corrections of the slices; the active ones move by at most one increment, and the
needed ones are kept for SLICE_RETIREMENT. -/
def execSliceBackgroundWindow (run : Run) (s : State) : Result :=
  if !s.isOn (ob 0x6200 0x07) || s.referenceRuns 0x200 || s.rd (ob 0x6200 0x03) = 2 then done s
  else
    let s : State := { s with cal := { s.cal with windows := (calKey 8 0x200, run.values) :: s.cal.windows.filter (fun p => p.1 != calKey 8 0x200) } }
    let act := s.rd (ob 0x6200 0x01)
    let now := s.sliceVals
    let d := (List.range 36).map (fun k =>
      if act.testBit (k % 12) then Int.sign (run.values.getD k 0 - now.getD k 0) else 0)
    done (if d.all (· == 0) then s else s.applyAt 8 0x200 .step d)

/-- SLICE_RETIREMENT (R217): an active slice whose needed correction passes a limit, between frames. -/
def execSliceRetirement (slice : Fin 12) (s : State) : Result :=
  match s.cal.windows.find? (fun p => p.1 == calKey 8 0x200) with
  | none => done s
  | some w =>
    if (s.rd (ob 0x6200 0x01)).testBit slice.val && sliceBad w.2 slice.val && !s.inAirFrame then
      let s := s.arrangeSlices (s.rd (ob 0x6200 0x02) ||| 2 ^ slice.val)
      done ((s.calEvent 946 8 0x200 0 t0).noteAuto 8 0x200)
    else done s

/-- CUE_HOURLY_CHECK (R218): an hour's false wakes judged with the hour before. An hour in which the cue receiver has not listened counts
nothing, as background correction runs only while its target is in use. -/
def execCueHourlyCheck (s : State) : Result :=
  if s.isDue .cueHour then
    let n := s.cal.wakes
    let last := s.cal.hour
    let used := s.cal.heard
    let s : State := { s with cal := { s.cal with wakes := 0, heard := false, hour := some n } }
    let s := s.armIn .cueHour 3600000000
    if !s.isOn (ob 0x6200 0x07) || !used || s.referenceRuns 0x200 then
      done { s with cal := { s.cal with hour := none } }
    else match last with
      | none => done s
      | some m =>
        if 4 < m ∧ 4 < n then done (s.applyAt 7 0x200 .step [1])
        else if m = 0 ∧ n = 0 then done (s.applyAt 7 0x200 .step [-1])
        else done s
  else done s

/-! ### The external reference (R220) -/

/-- The tuning that reads the reference pin. -/
def State.gated (s : State) : Option Tuning := s.cal.running.find? (fun u => u.method == 2 && u.stage != 0)

/-- REF_EDGE_TIMEOUT (R220). -/
def execRefEdgeTimeout (t : Tenant) (s : State) : Result :=
  if s.isDue (.refEdge t) then
    match s.cal.running.find? (fun u => u.method == 2 && u.tenant == t) with
    | some u => done (s.endTuning u 4).nextTunings
    | none => done (s.cancel (.refEdge t))
  else done s

/-- REF_GATE_END (R220): the cycles counted over a gate, and whether every reference period kept within ±1,000 ppm. -/
def execRefGateEnd (cycles : Nat) (steady : Bool) (s : State) : Result :=
  match s.gated with
  | none => done s
  | some u =>
    let s := s.cancel (.refEdge u.tenant)
    if !steady then done (s.endTuning u 4).nextTunings
    else
      let r : Run := { values := [gateError cycles (s.rdInt (ob 0x6010 0x03)) (s.nominal u.kind)], inRange := true }
      if u.stage = 1 then done (s.repeatRun u r) else done (s.judgeTuning u r)

/-! ### Temperature (R37, R207, R247) -/

/-- Store entries whose temperature has become stale (R247). -/
def State.markStale (s : State) : State :=
  let g := s.rd (ob 0x6010 0x05)
  if g = 0 then s
  else
    let mark := fun (b : Octets) =>
      if (byteAt b 5).testBit 0 && decide (g ≤ (s.time.temp - toSigned 8 (byteAt b 4)).natAbs) then
        let c := b.take 5 ++ u8 (byteAt b 5 ||| 2)
        c ++ u8 (c.foldl (fun n x => n ^^^ x.toNat) 0) ++ u8 0
      else b
    { s with air := { s.air with store := s.air.store.map (fun p => (p.1, mark p.2)) } }

/-- TEMPERATURE_READING (R37): every 60 s the conductor die's temperature, given in tenths of a degree, is read and C recomputed;
automatic tunings may fall due (R207) and store entries become stale (R247). -/
def execTemperatureReading (tenths : Int) (s : State) : Result :=
  if s.isDue .temperature then
    done (((s.setTemp (roundAway tenths 10)).armIn .temperature 60000000).temperatureTrigger).markStale
  else done s

end Sys2Proof.Machine
end

