-- ==== Sys2Proof/Machine/AirOps.lean ====
section
/-! DEFINITION. The air die's shared operations (chapter 9): start and stop (R230, R263), and the cue receiver (R254 to R258). -/

namespace Sys2Proof.Machine

/-! ### The cue receiver (R254, R258) -/

/-- Ticks of the time base up to an instant in µs. -/
def ticksAt (us : Nat) : Nat := us * 32768 / 1000000

/-- The microsecond in which a tick falls, rounded up. -/
def tickUs (n : Nat) : Nat := ceilDiv (n * 1000000) 32768

/-- The end of the next listen: the next interval boundary, and 2 ticks. -/
def State.nextListen (s : State) : Nat :=
  let i := max 1 (s.rd (ob 0x4040 0x02))
  tickUs ((ticksAt s.now / i + 1) * i + 2)

/-- Whether the cue receiver is to run: enabled, the air die in OFF and serving, a sleepy end node. -/
def State.cueWanted (s : State) : Bool := s.isOn (ob 0x4040 0x01) && s.airState == 0 && s.sleepy && s.airServes

/-- The cue receiver starts, or its re-enabling waits for the stop in progress. (DEDUCED, log entry 42.) -/
def State.cueStart (s : State) : State :=
  if !s.cueWanted then s
  else if s.air.cueState = 0 then
    ({ s with air := { s.air with cueState := 1 } } : State).arm .cueListen s.nextListen
  else if s.air.cueState = 3 && !s.air.cueAgain then
    ({ s with air := { s.air with cueAgain := true } } : State).inc (ob 0x4040 0x07)
  else s

/-- The cue receiver stops over two ticks; a pattern being read is abandoned. -/
def State.cueStop (s : State) : State :=
  if s.air.cueState = 1 ∨ s.air.cueState = 2 then
    let s := if s.air.cueState = 2 then s.inc (ob 0x4040 0x08) else s
    let s := (s.cancel .cueListen).cancel .cueGiveUp
    ({ s with air := { s.air with cueState := 3, cueAgain := false } } : State).armIn .cueStop 62
  else { s with air := { s.air with cueAgain := false } }

/-- The cue receiver after a change of what it runs under (R254). -/
def State.cueFollow (s : State) : State := if s.cueWanted then s.cueStart else s.cueStop

/-- A false wake (R254, R256). -/
def State.falseWake (s : State) : State :=
  let s := ((s.inc (ob 0x4040 0x06)).raise 843 [t0] []).cancel .cueGiveUp
  (({ s with air := { s.air with cueState := 1 }, cal := { s.cal with wakes := s.cal.wakes + 1 } } : State).arm .cueListen s.nextListen).nextTunings

/-! ### Starting and stopping (R230, R263) -/

/-- A start of the air die from OFF: its source starts, then the clock is counted over one tick. -/
def State.airStart (s : State) : State :=
  if s.airState = 0 ∧ s.airServes = true then
    (({ s.setAir 1 with air := { s.air with stop := false } } : State).cueStop).armIn .airStart (s.rd (ob 0x4050 0x02) + 31)
  else s

/-- The air die goes to OFF. -/
def State.airOff (s : State) : State :=
  let s := ((s.cancel .preamble).cancel .airStart).cancel .airClock
  let s : State := { s.setAir 0 with air := { s.air with stop := false, atten := s.rd (ob 0x4050 0x03) } }
  (s.restPins).cueStart

/-- A stop request: at once in LISTEN, else kept until the die is there again. -/
def State.airStop (s : State) : State :=
  if s.airState = 0 then s
  else if s.airState = 2 then s.airOff
  else { s with air := { s.air with stop := true } }

/-- The air die reaches LISTEN, or STOPPED without its slices; a stop that waits takes effect. -/
def State.toListen (s : State) : State :=
  let s : State := { s with air := { s.air with atten := s.rd (ob 0x4050 0x03) } }
  let s := (s.setAir (if s.rd (ob 0x6200 0x03) = 2 then 8 else 2)).restPins
  let s := (s.tune s.listenChannel).airPoint
  if s.airState = 2 ∧ s.air.stop = true then s.airOff else s.nextTunings

/-! ### Frame lengths (R266, R267) -/

/-- The operating mode. -/
def State.opMode (s : State) : Nat := s.rd (ob 0x4100 0x07)

/-- Duration of `n` octets in a mode, in µs rounded up (Table 10-1). -/
def octetUs (mode n : Nat) : Nat := ceilDiv (n * 160) mode

end Sys2Proof.Machine
end

