-- ==== Sys2Proof/Machine/Frames.lean ====
section
/-! DEFINITION. The mesh's frames as octets (R4, R267, R268, R276, R282): frame check sequences, MAC headers, CCM* over AES-128, the PSDU of
a data frame and of an Imm-Ack, the octets of a frame on air, and a received PSDU taken apart. What the spec takes from IEEE 802.15.4-2020
without writing it out (the SFD's octets, the frame control field, CCM*, the two FCS polynomials) is the standard's. (PRESUMED, log entry 43.) -/

namespace Sys2Proof.Machine

/-! ### Frame check sequences -/

/-- One bit of the 4-octet FCS's register. -/
def crc32Bit (c : Nat) : Nat := if c % 2 = 1 then (c / 2) ^^^ 0xEDB88320 else c / 2

/-- One octet into the register, bit 0 first. -/
def crc32Byte (c : Nat) (b : Byte) : Nat :=
  crc32Bit (crc32Bit (crc32Bit (crc32Bit (crc32Bit (crc32Bit (crc32Bit (crc32Bit (c ^^^ b.toNat))))))))

/-- The 4-octet FCS (FCS type 0). -/
def fcs4 (bs : Octets) : Octets := u32 (bs.foldl crc32Byte 0xFFFFFFFF ^^^ 0xFFFFFFFF)

/-- The 2-octet FCS (FCS type 1). -/
def fcs2 (bs : Octets) : Octets := u16 (bs.foldl crc16Byte 0)

/-! ### CCM* over AES-128 (R276) -/

/-- Byte strings combined bit by bit, as far as the shorter one goes. -/
def xorOctets (a b : Octets) : Octets := List.zipWith (fun x y => x ^^^ y) a b

/-- A byte string as blocks of 16, the last one filled with zeros. -/
def blocks16 (b : Octets) : List Octets := (List.range (ceilDiv b.length 16)).map (fun j => padTo 16 (slice (16 * j) 16 b))

/-- CBC-MAC of blocks. -/
def cbcMac (key : Octets) (l : List Octets) : Octets := l.foldl (fun x b => aes key (xorOctets x b)) (List.replicate 16 0)

/-- Key stream block `i` of a nonce of 13 octets. -/
def ccmStream (key nonce : Octets) (i : Nat) : Octets := aes key (u8 1 ++ nonce ++ beBytes 2 i)

/-- The tag of `n` octets over authenticated octets and a message. -/
def ccmMic (key nonce auth msg : Octets) (n : Nat) : Octets :=
  let b0 := u8 (0x40 + (n - 2) / 2 * 8 + 1) ++ nonce ++ beBytes 2 msg.length
  xorOctets ((cbcMac key (b0 :: blocks16 (beBytes 2 auth.length ++ auth) ++ blocks16 msg)).take n) (ccmStream key nonce 0)

/-- A message enciphered, or an enciphered one in clear. -/
def ccmCrypt (key nonce msg : Octets) : Octets :=
  xorOctets msg ((List.range (ceilDiv msg.length 16)).flatMap (fun i => ccmStream key nonce (i + 1)))

/-- MIC octets of a security level. -/
def micLen (level : Nat) : Nat := if level = 5 then 4 else if level = 6 then 8 else 16

/-- The nonce of R276: the sender's extended address, the counter and the level. -/
def nonce (ext counter level : Nat) : Octets := beBytes 8 ext ++ beBytes 4 counter ++ u8 level

/-! ### Frames built (R267, R268, R282) -/

/-- Addressing mode of an address. -/
def addrMode : Addr → Nat
  | .short _ => 2 | .ext _ => 3

/-- Octets of an address. -/
def addrOctets : Addr → Octets
  | .short a => u16 a | .ext x => u64 x

/-- MAC header of a data frame: frame version 0b01, security enabled, PAN ID compression. -/
def dataHeader (seq pan : Nat) (dst src : Addr) (ack more : Bool) : Octets :=
  u16 (1 + 8 + (if more then 16 else 0) + (if ack then 32 else 0) + 64 + 1024 * addrMode dst + 4096 + 16384 * addrMode src) ++
    u8 seq ++ u16 pan ++ addrOctets dst ++ addrOctets src

/-- Auxiliary security header: level, key identifier mode 1, counter, key index. -/
def auxHeader (level counter index : Nat) : Octets := u8 (level + 8) ++ u32 counter ++ u8 index

/-- PSDU of a data frame from its header, its security and its payload in clear. -/
def dataPsdu (key : Octets) (ext level counter index : Nat) (header payload : Octets) : Octets :=
  let auth := header ++ auxHeader level counter index
  let n := nonce ext counter level
  let body := auth ++ ccmCrypt key n payload ++ ccmMic key n auth payload (micLen level)
  body ++ fcs4 body

/-- PSDU of an Imm-Ack. -/
def ackPsdu (seq : Nat) (more : Bool) : Octets :=
  let body := u16 (2 + (if more then 16 else 0) + 4096) ++ u8 seq
  body ++ fcs4 body

/-- A frame on air: P octets of preamble, the SFD of uncoded frames, a PHR with a 4-octet FCS and whitening, and the PSDU before its
whitening. -/
def airFrame (p : Nat) (psdu : Octets) : Octets :=
  List.replicate p 0x55 ++ beBytes 2 0x904E ++ beBytes 2 (0x0800 + psdu.length) ++ psdu

/-! ### Frames taken apart -/

/-- Octets of an address of an addressing mode. -/
def modeOctets (m : Nat) : Nat := if m = 2 then 2 else if m = 3 then 8 else 0

/-- An address of an addressing mode at an octet; 0xFFFE where the frame has none. -/
def addrAt (b : Octets) (m at_ : Nat) : Addr :=
  if m = 2 then .short (u16At b at_) else if m = 3 then .ext (leNat (slice at_ 8 b)) else .short 0xFFFE

/-- Octets of the key identifier of a key identifier mode. -/
def keyIdOctets (m : Nat) : Nat := if m = 0 then 0 else if m = 1 then 1 else if m = 2 then 5 else 9

/-- MIC octets of any of the standard's levels. -/
def anyMicLen (level : Nat) : Nat := if level % 4 = 0 then 0 else 2 * 2 ^ (level % 4)

/-- A recovered PSDU taken apart. A frame of another version, with a reserved addressing mode, or shorter than its own header is of no
type that the VX640 takes. (DEDUCED, log entry 43.) -/
def parseMac (f : AirIn) : MacIn :=
  let n := if f.shortFcs then 2 else 4
  let b := f.psdu.take (f.psdu.length - n)
  let w := u16At b 0
  let dm := w / 1024 % 4
  let sm := w / 16384 % 4
  let type := w % 8
  let srcPan := sm != 0 && (!w.testBit 6 || dm == 0)
  let dstAt := if dm = 0 then 3 else 5
  let srcAt := dstAt + modeOctets dm + (if srcPan then 2 else 0)
  let aux := srcAt + modeOctets sm
  let c := byteAt b aux
  let ids := keyIdOctets (c / 8 % 4)
  let head := if type = 2 then 3 else if w.testBit 3 then aux + 5 + ids else aux
  let mic := if w.testBit 3 then anyMicLen (c % 8) else 0
  { fcsOk := decide (3 + n ≤ f.psdu.length) && f.psdu.drop (f.psdu.length - n) == (if f.shortFcs then fcs2 b else fcs4 b)
    ftype := if 2 ≤ w / 4096 % 4 ∨ dm = 1 ∨ sm = 1 ∨ b.length < head + (if type = 2 then 0 else mic) then 7 else type
    seq := byteAt b 2
    pan := u16At b 3
    ackReq := w.testBit 5, more := w.testBit 4
    dst := addrAt b dm dstAt, src := addrAt b sm srcAt
    secured := w.testBit 3, keyMode := c / 8 % 4, keyIndex := byteAt b (aux + 4 + ids), level := c % 8
    counter := leNat (slice (aux + 1) 4 b)
    header := b.take head
    payload := slice head (b.length - head - mic) b
    mic := b.drop (b.length - mic) }

end Sys2Proof.Machine
end

