-- ==== Sys2Proof/Machine/MacOps.lean ====
section
/-! DEFINITION. The mesh MAC's shared operations (chapter 10): addresses and neighbours, frames and their
numbers (R268, R276, R277), the pending frames and their order (R284), the procedure of R281, indirect queues (R290), reports (R283,
R395), joining (R271 to R275), and what follows the end of a frame. -/

namespace Sys2Proof.Machine

/-! ### Addresses and neighbours -/

/-- The node's short address. -/
def State.short (s : State) : Nat := s.rd (ob 0x4100 0x03)

/-- The node's extended address. -/
def State.ext (s : State) : Nat := s.rd (ob 0x4100 0x02)

/-- The parent's short address, 0xFFFE for none. -/
def State.parent (s : State) : Nat := s.rd (ob 0x4100 0x04)

/-- The neighbour entry of a short address. -/
def State.neighbour (s : State) (a : Nat) : Option Neighbour := s.mac.neighbours.find? (fun n => n.short == a)

/-- The neighbour entry of an address. -/
def State.neighbourOf (s : State) : Addr → Option Neighbour
  | .short a => s.neighbour a
  | .ext x => s.mac.neighbours.find? (fun n => n.ext == x)

/-- A neighbour entry changed. -/
def State.setNeighbour (s : State) (a : Nat) (f : Neighbour → Neighbour) : State :=
  { s with mac := { s.mac with neighbours := s.mac.neighbours.map (fun n => if n.short = a then f n else n) } }

/-- Whether a neighbour is a child. -/
def Neighbour.child (n : Neighbour) : Bool := n.relation == 1 || n.relation == 2

/-- An entry taken for a new neighbour: a free place, or that of the least recently heard one that is neither parent nor child. -/
def State.takeNeighbour (s : State) (n : Neighbour) : Option State :=
  let l := s.mac.neighbours
  if l.length < 48 then some { s with mac := { s.mac with neighbours := l ++ [n] } }
  else
    match (l.filter (fun m => m.relation == 3)).foldl (fun (b : Option Neighbour) m => match b with
        | none => some m
        | some x => if m.heard < x.heard then some m else some x) none with
    | none => none
    | some old => some { s with mac := { s.mac with neighbours := l.map (fun m => if m = old then n else m) } }

/-- A neighbour not heard before. -/
def newNeighbour (short ext heard : Nat) : Neighbour :=
  { short := short, ext := ext, relation := 3, depth := 0xFF, lqi := 0, rssi := 0, seq := 0, counter1 := 0, counter2 := 0,
    heard := heard, poll := 0, cue := 0, group := 0 }

/-- A neighbour's entry, made where there is none and a place can be had. -/
def State.ensure (s : State) (short ext : Nat) : State :=
  match s.neighbour short with
  | some _ => s
  | none => match s.takeNeighbour (newNeighbour short ext (s.now / 1000000)) with
    | some s' => s'
    | none => s

/-! ### Frames (R267, R268, R276, R277) -/

/-- Octets of an address beyond a short one's. -/
def addrExtra : Addr → Nat
  | .short _ => 0
  | .ext _ => 6

/-- Whether a payload is a JOIN_REQUEST, which carries an extended source address (R268). -/
def isJoinRequest (payload : Octets) : Bool := byteAt payload 0 == 3

/-- Octets of a data frame's PSDU. -/
def State.psdu (s : State) (f : OutFrame) : Nat :=
  9 + 6 + addrExtra f.dest + (if isJoinRequest f.payload then 6 else 0) + f.payload.length + micLen (s.rd (ob 0x4100 0x08)) + 4

/-- Emission of a PSDU of `l` octets in µs (R267). -/
def State.frameUs (s : State) (l : Nat) : Nat := octetUs s.opMode (s.rd (ob 0x4100 0x10) + 4 + l)

/-- Whether a frame is a broadcast. -/
def OutFrame.broadcast (f : OutFrame) : Bool := f.dest == .short 0xFFFF

/-- Whether a frame goes to the node's parent. -/
def State.toParent (s : State) (f : OutFrame) : Bool := f.dest == .short s.parent

/-- The active network key index (R434). -/
def State.netIndex (s : State) : Nat := s.rd (ob 0x9160 0x01)

/-- The network key of an index. -/
def State.netKey (s : State) (k : Nat) : Octets := s.slotKey (0x50 + k)

/-- Whether a network key is loaded. -/
def State.netKeyed (s : State) (k : Nat) : Bool := s.netKey k != []

/-- The outgoing counter of a key index. -/
def State.outCounter (s : State) (k : Nat) : Nat := s.rd (ob 0x4130 k)

/-- The committed end of the counter block of a key index. -/
def State.counterEnd (s : State) (k : Nat) : Nat := if k = 1 then s.mac.ends.1 else s.mac.ends.2

/-- A reservation of counters entered in the NVA order (R277). -/
def State.reserveCounters (s : State) (k : Nat) : State :=
  let r := s.mac.reserving
  if (if k = 1 then r.1 else r.2) then s
  else ({ s with mac := { s.mac with reserving := if k = 1 then (true, r.2) else (r.1, true) } } : State).commit .counters

/-- COUNTER_LOW, once (R277). -/
def State.counterLow (s : State) (k : Nat) : State :=
  let l := s.mac.lowTold
  if 0xFFFFF000 < s.outCounter k ∧ (if k = 1 then l.1 else l.2) = false then
    ({ s with mac := { s.mac with lowTold := if k = 1 then (true, l.2) else (l.1, true) } } : State).raise 970 [t0] []
  else s

/-- Sequence number, counter and key index of a new frame; none while the next block of counters is not committed. -/
def State.number (s : State) : Option (Nat × Nat × Nat) × State :=
  let k := s.netIndex
  let c := s.outCounter k
  if s.counterEnd k ≤ c then (none, s.reserveCounters k)
  else
    let s' := (s.wr (ob 0x4130 k) (c + 1)).counterLow k
    (some (s.mac.seq, c, k), { s' with mac := { s'.mac with seq := (s.mac.seq + 1) % 256 } })

/-! ### Pending frames (R284) -/

/-- A frame entered. -/
def State.sendMac (s : State) (kind : OutKind) (dest : Addr) (payload : Octets) : State :=
  { s with mac := { s.mac with out := s.mac.out ++ [{ kind := kind, dest := dest, payload := payload, numbers := none, psdu := [] }] } }

/-- The place of a frame in R284. -/
def OutKind.rank : OutKind → Nat
  | .indirect _ => 2 | .join => 3 | .forward => 4 | .timeCast => 5
  | _ => 6

/-- The tenant on whose behalf a frame is sent, if any. -/
def OutKind.tenant : OutKind → Option Tenant
  | .reply t _ => some t
  | .report t _ _ _ => some t
  | _ => none

/-- The first pending frame of the lowest place; among tenants the turn goes round. -/
def State.nextOut (s : State) : Option OutFrame :=
  let key := fun (f : OutFrame) =>
    f.kind.rank * 16 + (match f.kind.tenant with | some t => 1 + (t.val + 7 - s.mac.turn.val) % 8 | none => 0)
  s.mac.out.foldl (fun (b : Option OutFrame) f => match b with
    | none => some f
    | some g => if key f < key g then some f else some g) none

/-! ### TIME messages (R288, R292) -/

/-- Whether the node accepts children: a joined router or a coordinator that permits joining, below the depth limit. -/
def State.acceptsChildren (s : State) : Bool :=
  (s.joinState == 5 || (s.joinState == 3 && s.role == 1)) && s.rd (ob 0x4100 0x05) < s.rd (ob 0x4100 0x0D)

/-- Whether a home channel change is pending. -/
def State.changePending (s : State) : Bool := s.rd (ob 0x4120 0x02) != 0xFFFF

/-- The extended address of the network's coordinator, as far as the node knows it. -/
def State.coordExt (s : State) : Nat :=
  if s.role = 2 then s.ext else match s.mac.target with | some c => c.coord | none => 0

/-- A TIME message for an instant of device time. -/
def State.timeMessage (s : State) (at_ : Nat) : Octets :=
  u8 2 ++ u64 (s.netTime at_) ++ u8 (s.rd (ob 0x4100 0x05)) ++
    u8 ((if s.acceptsChildren then 1 else 0) + (if s.changePending then 2 else 0)) ++ u64 s.coordExt ++
    (if s.changePending then u16 (s.rd (ob 0x4120 0x02)) ++ u64 (s.rd (ob 0x4120 0x03)) else [])

/-! ### Indirect queues (R290, R291) -/

/-- The frames held for a child, in order. -/
def State.heldFor (s : State) (child : Nat) : List Indirect := s.mac.indirect.filter (fun f => f.child == child)

/-- The MAC status of a frame reported (R296): TX_FAILED where it is not OK. -/
def State.txFailed (s : State) (t : Option Tenant) (status detail dest : Nat) : State :=
  if status = 0 then s else s.raise 965 (andT0 t) (u8 status ++ u8 detail ++ u16 dest)

/-- A report held off after a failure (R283). -/
def State.holdReport (s : State) (t : Tenant) : State :=
  ({ s with mac := { s.mac with held := t :: s.mac.held.filter (· != t) } } : State).armIn (.reportRetry t) (s.rd (ob 0x4110 0x06))

/-- What the end of a frame brings that did not go out: a report is held off, a reply is over. -/
def State.kindFailed (s : State) : OutKind → State
  | .report t _ _ _ => s.holdReport t
  | .reply _ id => s.replyOut id
  | _ => s

/-- The preamble in ticks of a cue pattern for a child, or for all sleepy children (R291). -/
def State.cuePreamble (s : State) (child : Option Nat) : Nat :=
  (match child.bind s.neighbour with
    | some n => n.cue
    | none => (s.mac.neighbours.filter (fun n => n.relation == 2)).foldl (fun m n => max m n.cue) 0) + 4

/-- The chips of a cue word's byte, most significant bit first, each bit Manchester-coded (R255). -/
def cueByte (n : Nat) : List Bool := ((List.range 8).map (fun k => n.testBit (7 - k))).flatMap (fun b => [b, !b])

/-- The chips of a cue pattern (R255). -/
def cueChips (preamble code target : Nat) : List Bool :=
  let w := beBytes 2 code ++ u8 target
  (List.range (ceilDiv preamble 4)).map (fun n => n % 2 == 0) ++ [true, true, true, true, false, false, false, false] ++
    (w ++ u8 (crc8 w)).flatMap (fun b => cueByte b.toNat)

/-- Runs of on-chips in a pattern. -/
def onRuns : Bool → List Bool → Nat
  | _, [] => 0
  | last, c :: l => (if c && !last then 1 else 0) + onRuns c l

/-- The chips that a cue pattern for a child, or for all, sends now. -/
def State.cuePattern (s : State) (child : Option Nat) (preamble : Nat) : List Bool :=
  cueChips preamble (s.rd (ob 0x4040 0x03)) (match child.bind s.neighbour with | some n => n.group | none => 0xFF)

/-- A cue pattern for a child, or for all sleepy children, requested (R255, R291). -/
def State.cueTo (s : State) (child : Option Nat) : State :=
  let pre := s.cuePreamble child
  let r : TxReq := { use := .cue child pre, tenant := t0, quota := false, index := 0xFFFF, mode := 0, power := 0,
                     time := ceilDiv ((s.cuePattern child pre).length * 4 * 1000000) 32768, listen := none, hop := false,
                     path := 0, code := 0, out := 0, on := 0 }
  if s.air.requests.any (fun q => q.use == .cue child pre) then s
  else { s with air := { s.air with requests := s.air.requests ++ [r] } }

/-- A frame entered in a child's indirect queue; a TIME message goes to its head. -/
def State.holdFor (s : State) (origin : OutKind) (child : Nat) (payload : Octets) (urgent head : Bool) : State :=
  if 8 ≤ (s.heldFor child).length ∨ 64 ≤ s.mac.indirect.length then (s.kindFailed origin).txFailed origin.tenant 6 0 child
  else
    let id := s.mac.nextId
    let f : Indirect := { id := id, child := child, payload := payload, since := s.now, tries := 0, cues := 0, numbers := none, psdu := [],
                           origin := origin }
    let s : State := { s with mac := { s.mac with
      nextId := id + 1
      indirect := if head then f :: s.mac.indirect else s.mac.indirect ++ [f] } }
    let poll := match s.neighbour child with | some n => n.poll | none => 0
    let s := s.armIn (.indirect id) (4 * poll * 1000000)
    let cd := s.rd (ob 0x4110 0x05)
    let s := if cd = 0 then s else s.armIn (.cueDelay id) (cd * 1000)
    if urgent then ({ s with mac := { s.mac with indirect := s.mac.indirect.map (fun g => if g.id = id then { g with cues := 1 } else g) } } : State).cueTo (some child)
    else s

/-- An indirect frame gone from its queue, with its timers. -/
def State.dropIndirect (s : State) (id : Nat) : State :=
  let s := ((s.cancel (.indirect id)).cancel (.cueDelay id)).cancel (.cueRetry id)
  { s with mac := { s.mac with
      indirect := s.mac.indirect.filter (fun f => f.id != id)
      out := s.mac.out.filter (fun o => o.kind != .indirect id) } }

/-- Frames of the mesh MAC gone whose kind satisfies `p`; one with the air die completes. -/
def State.dropFrames (s : State) (p : OutKind → Bool) : State :=
  let gone := (s.mac.indirect.filter (fun f => p f.origin)).map Indirect.id
  let s := s.cancelAll (fun tm => match tm with | .indirect n | .cueDelay n | .cueRetry n => gone.contains n | _ => false)
  let s : State := { s with mac := { s.mac with
    indirect := s.mac.indirect.filter (fun f => !p f.origin)
    out := s.mac.out.filter (fun o => !p o.kind && !gone.any (fun n => o.kind == .indirect n)) } }
  match s.mac.csma with
  | some c =>
    if p c.frame.kind && (c.stage == .listen || c.stage == .backoff) then
      (({ s with mac := { s.mac with csma := none } } : State).cancel .lbt).cancel .backoff
    else s
  | none => s

/-- Whether a frame carries a report whose event is no longer queued: DROP_OLDEST removed it, or the driver has read it. -/
def State.unqueued (s : State) : OutKind → Bool
  | .report t seq _ _ => !s.router.boxes[t].queue.any (fun q => q.seq == some seq)
  | _ => false

/-- The reports abandoned whose events are no longer queued (R478). (DEDUCED for an event that the driver has read, log entry 52.) -/
def State.dropStale (s : State) : State := s.dropFrames s.unqueued

/-- A poll by a sleepy child: it is heard from, and its oldest frame is released (R290). -/
def State.polled (s : State) (child : Nat) : State :=
  let s := s.dropStale
  match s.neighbour child with
  | none => s
  | some n =>
    if n.relation ≠ 2 then s
    else
      let s := if n.poll = 0 then s else s.armIn (.child child) (4 * n.poll * 1000000)
      match s.heldFor child with
      | [] => s
      | f :: _ =>
        if s.mac.out.any (fun o => o.kind == .indirect f.id) || (match s.mac.csma with | some c => c.frame.kind == .indirect f.id | none => false) then s
        else
          let s := s.cancel (.cueRetry f.id)
          { s with mac := { s.mac with
              out := s.mac.out ++ [{ kind := .indirect f.id, dest := .short child, payload := f.payload, numbers := f.numbers, psdu := f.psdu }] } }

/-! ### Routing (R295) -/

/-- By the route table, else upward; none at a coordinator without a route. -/
def State.viaRoute (s : State) (dest : Nat) : Option Nat :=
  match s.mac.routes.find? (fun r => r.1 == dest) with
  | some r => if dest = 0 ∧ s.role ≠ 2 then some s.parent else some r.2
  | none => if s.role = 2 then none else some s.parent

/-- The next hop to a destination: a child or the parent itself, else as the routes say. -/
def State.nextHop (s : State) (dest : Nat) : Option Nat :=
  match s.neighbour dest with
  | some n => if n.child || n.relation == 0 then some dest else s.viaRoute dest
  | none => s.viaRoute dest

/-- A MESH message (Table 10-3). -/
def meshMessage (flags orig dest hops seq inner : Nat) (body : Octets) : Octets :=
  u8 0x40 ++ u8 flags ++ u16 orig ++ u16 dest ++ u8 hops ++ u8 seq ++ u8 inner ++ body

/-- A MESH message passed toward its destination: to the indirect queue of a sleepy child, else as a frame of its own; NO_ROUTE where
there is no next hop. -/
def State.passMesh (s : State) (kind : OutKind) (dest : Nat) (payload : Octets) : State :=
  match s.nextHop dest with
  | none => ((s.kindFailed kind).inc (ob 0x4130 0x0A)).txFailed kind.tenant 4 0 dest
  | some h =>
    match s.neighbour h with
    | some n => if n.relation = 2 then s.holdFor kind h payload ((byteAt payload 1).testBit 0) false else s.sendMac kind (.short h) payload
    | none => s.sendMac kind (.short h) payload

/-- A MESH message of the node's own. -/
def State.originate (s : State) (kind : OutKind) (dest inner : Nat) (urgent : Bool) (body : Octets) : State :=
  let m := meshMessage (if urgent then 1 else 0) s.short dest (2 * s.rd (ob 0x4100 0x0D)) s.mac.meshSeq inner body
  ({ s with mac := { s.mac with meshSeq := (s.mac.meshSeq + 1) % 256 } } : State).passMesh kind dest m

/-! ### Tenant reports (R283, R395, R396) -/

/-- Data capacity of a report unit on the mesh. -/
def State.meshCapacity (s : State) : Nat := if s.rd (ob 0x4100 0x08) = 7 then 182 else 190

/-- The report unit of an event from an offset (R395). -/
def reportUnit (q : QEvent) (off cap : Nat) : Octets :=
  u16 (q.seq.getD 0) ++ u16 q.event ++ u64 q.stamp ++ u16 q.data.length ++ u16 off ++ slice off cap q.data

/-- The service key of a tenant. -/
def State.serviceKey (s : State) (t : Tenant) : Octets := s.slotKey (0x40 + t.val)

/-- Whether a tenant's report counter stands in its committed block and below its end of all (R396, R397). -/
def State.mayReport (s : State) (t : Tenant) : Bool :=
  s.serviceKey t != [] && s.rd (obT 0x1034 0x03 t) < s.svc.reportEnd[t] && s.rd (obT 0x1034 0x03 t) < 0xFFFFFFFF

/-- The event that a tenant's route would send next. -/
def State.routeEvent (s : State) (t : Tenant) (route : Nat) : Option QEvent :=
  match s.router.boxes[t].queue.find? (fun q => q.routes.testBit route) with
  | some q => if q.seq.isSome then some q else none
  | none => none

/-- A report envelope of a tenant, its counter taken (R396). -/
def State.sealReport (s : State) (t : Tenant) (collector : Nat) (unit : Octets) : Octets × State :=
  let c := s.rd (obT 0x1034 0x03 t)
  (envelope (s.serviceKey t) 0x53 collector t.val c unit, s.wr (obT 0x1034 0x03 t) (c + 1))

/-- An event marked as handed out in part (R477). -/
def State.touch (s : State) (t : Tenant) (seq : Nat) : State :=
  s.setBox t (fun b => { b with queue := b.queue.map (fun q => if q.seq = some seq then { q with touched := true } else q) })

/-- One unit of a report entered as a frame. -/
def State.sendReport (s : State) (t : Tenant) (q : QEvent) (off : Nat) : State :=
  let cap := s.meshCapacity
  let coll := s.rd (obT 0x1034 0x01 t)
  let (e, s) := (s.touch t (q.seq.getD 0)).sealReport t coll (reportUnit q off cap)
  s.originate (.report t (q.seq.getD 0) off (decide (q.data.length ≤ off + cap))) coll 1 false e

/-- Whether a kind is a tenant's report. -/
def OutKind.reportOf (t : Tenant) : OutKind → Bool
  | .report u _ _ _ => u == t
  | _ => false

/-- Whether a report of a tenant is on its way already. -/
def State.reportPending (s : State) (t : Tenant) : Bool :=
  s.mac.out.any (fun o => o.kind.reportOf t) || s.mac.indirect.any (fun f => f.origin.reportOf t) ||
    (match s.mac.csma with | some c => c.frame.kind.reportOf t | none => false)

/-- The tenant, in turn, whose report goes next: not held off, its counter reserved. -/
def State.nextReport (s : State) : Option (Tenant × QEvent) :=
  if !s.meshUp then none
  else ((List.range 8).map (fun n => s.mac.turn + ⟨(n + 1) % 8, Nat.mod_lt _ (by decide)⟩)).findSome? (fun t =>
    if s.mac.held.contains t || !s.mayReport t || s.reportPending t then none else (s.routeEvent t 0).map (fun q => (t, q)))

/-- Whether a tenant has something to report and no value left in its block of report counters. -/
def State.reportDry (s : State) (t : Tenant) : Bool :=
  s.serviceKey t != [] && decide (s.svc.reportEnd[t] ≤ s.rd (obT 0x1034 0x03 t)) && decide (s.rd (obT 0x1034 0x03 t) < 0xFFFFFFFF) &&
    ((s.routeEvent t 0).isSome || (s.routeEvent t 1).isSome)

/-- Report counters whose block is used up enter a reservation (R396). -/
def State.reserveReports (s : State) : State := if tenants.any s.reportDry then s.commit .counters else s

/-! ### Joining (R270 to R275) -/

/-- The hop set loaded into the air die (R237, R285): HOP_SET_SHORT where it has fewer than 50 channels. -/
def State.loadHops (s : State) : State :=
  let l := (List.range s.hopN).map s.hopAt
  if !s.hops then s
  else
    let new := l != s.air.hopSet
    let s : State := { s with air := { s.air with hopSet := l } }
    if new && decide (l.eraseDups.length < 50) then s.raise 844 [t0] [] else s

/-- Whether a node may join (R270). (DEDUCED, log entry 44.) -/
def State.canJoin (s : State) : Bool :=
  s.rd (ob 0x4100 0x01) != 0xFFFF && s.profile != 0 && s.netKeyed s.netIndex

/-- The listen on one channel of a scan in µs (R271). -/
def State.scanUs (s : State) : Nat := if s.hops then 8 * s.hopN * 100000 else 2 * s.rd (ob 0x4110 0x03) * 1000000

/-- A scan over channels begun. -/
def State.scanOver (s : State) (l : List Nat) (asCoord again : Bool) : State :=
  let k := l.headD 0xFFFF
  let s : State := { s with mac := { s.mac with
    scan := some { left := l.drop 1, channel := k, found := [], asCoord := asCoord, conflict := false, again := again } } }
  ((s.tune k).airStart).armIn .joinScan s.scanUs

/-- Step 1 of R271: the channels to listen on. -/
def State.startScan (s : State) (asCoord again : Bool) : State :=
  let s := (s.wr (ob 0x4100 0x06) 1).loadHops
  let home := s.rd (ob 0x4120 0x01)
  if s.hops then s.scanOver [s.hopAt 0] asCoord false
  else if home = 0xFFFF then s.scanOver (s.allowedList s.opMode) asCoord false
  else s.scanOver [home] asCoord again

/-- The mesh role's first work, as soon as a node may join: a scan, as a coordinator where the conductor start took up that role
(R22, R23, R270, R271, R274). -/
def State.joinNow (s : State) : State :=
  if s.up && s.canJoin && s.joinState == 0 && s.mac.scan.isNone && !s.isArmed .joinRetry then
    s.startScan s.mac.asCoord false
  else s

/-- A join that has failed (R271): it is tried again after the hold-off. -/
def State.joinFailed (s : State) : State :=
  let s := (s.cancel .join).cancel .joinScan
  let s : State := { s with mac := { s.mac with scan := none, listening := false } }
  let s := ((s.wr (ob 0x4100 0x06) 0).raise 961 [t0] []).armIn .joinRetry (s.rd (ob 0x4110 0x06))
  if s.sleepy then s.airStop else s

/-- Whether one candidate is chosen before another (R273). -/
def Candidate.before (a b : Candidate) : Bool :=
  a.lqi > b.lqi || (a.lqi == b.lqi && (a.depth < b.depth || (a.depth == b.depth && a.short < b.short)))

/-- The parent chosen (R273). -/
def State.choice (s : State) (l : List Candidate) : Option Candidate :=
  (l.filter (fun c => c.depth < s.rd (ob 0x4100 0x0D))).foldl (fun (b : Option Candidate) c => match b with
    | none => some c
    | some x => if c.before x then some c else some x) none

/-- Steps 2 and 3 of R271. -/
def State.chooseParent (s : State) (l : List Candidate) : State :=
  match s.choice l with
  | none => s.joinFailed
  | some c =>
    let s : State := { s with mac := { s.mac with scan := none, target := some c, listening := true } }
    let s := (s.cancel .joinScan).wr (ob 0x4100 0x06) 2
    let poll := if s.sleepy then s.rd (ob 0x4110 0x01) else 0
    (s.sendMac .join (.short c.short) (u8 3 ++ u8 s.role ++ u16 poll)).armIn .join 5000000

/-- The parent is lost (R275). -/
def State.parentLost (s : State) : State :=
  let s : State := { s with mac := { s.mac with noAck := 0 } }
  (s.raise 962 [t0] []).startScan false true

/-! ### The end of a frame -/

/-- Whether nothing keeps a sleepy end node's receiver on. -/
def State.macIdle (s : State) : Bool :=
  s.mac.csma.isNone && s.mac.out.isEmpty && s.mac.ack.isNone && !s.mac.listening && s.air.requests.isEmpty && s.nextReport.isNone &&
    s.mac.rx.isEmpty && s.mac.inbox.isEmpty && s.mac.scan.isNone

/-- A sleepy end node that has joined stops its air die when it is idle (R289). -/
def State.sleepIdle (s : State) : State := if s.sleepy && s.joinState == 3 && s.macIdle then s.airStop else s

/-- The number of an address in an event. -/
def addrEvent : Addr → Nat
  | .short a => a
  | .ext _ => 0xFFFE

end Sys2Proof.Machine
end

