-- ==== Sys2Proof/Machine/MacFlow.lean ====
section
/-! DEFINITION. How a frame of the mesh MAC goes out and what follows its end (R281 to R284, R290, R291, R296, R302). -/

namespace Sys2Proof.Machine

/-! ### The listen and the backoff (R281, Table 10-4) -/

/-- The frame under transmission changed. -/
def State.setCsma (s : State) (c : Csma) : State := { s with mac := { s.mac with csma := some c } }

/-- A listen begun on the channel in use; none begins while shedding (R558). -/
def State.listenStart (s : State) (c : Csma) : State :=
  let (_, base, rand, _) := s.lbtOf s.workChannel
  let (r, s) := if rand then s.random 51 else (0, s)
  (s.setCsma { c with stage := .listen }).armIn .lbt (base + 100 * r)

/-- A backoff of random(0 … 2^BE − 1) units. -/
def State.backoff (s : State) (c : Csma) : State :=
  let (r, s) := s.random (2 ^ c.be)
  (s.setCsma { c with stage := .backoff }).armIn .backoff (r * (s.lbtOf s.workChannel).2.2.2)

/-! ### What the end of a frame brings -/

/-- The hold-off of a tenant's report over. -/
def State.freeReport (s : State) (t : Tenant) : State :=
  ({ s with mac := { s.mac with held := s.mac.held.filter (· != t) } } : State).cancel (.reportRetry t)

/-- A report unit that ended OK at the first hop: the next unit, or acceptance by the mesh route (R20, R283). -/
def State.reportSent (s : State) (t : Tenant) (seq off : Nat) (last : Bool) : State :=
  let s := s.freeReport t
  if last then s.accept t seq 0
  else match s.router.boxes[t].queue.find? (fun q => q.seq == some seq) with
    | some q => if s.mayReport t then s.sendReport t q (off + s.meshCapacity) else s
    | none => s

/-- What a kind of frame does at the end of its procedure, OK or not. -/
def State.kindEnded (s : State) (k : OutKind) (status : Nat) : State :=
  match k with
  | .report t seq off last => if status = 0 then s.reportSent t seq off last else s.kindFailed k
  | _ => s.kindFailed k

/-- Consecutive NO_ACKs to the parent counted (R275). -/
def State.countParent (s : State) (f : OutFrame) (status : Nat) : State :=
  if !(s.toParent f) || f.broadcast || s.role == 2 || s.joinState != 3 then s
  else if status = 0 then { s with mac := { s.mac with noAck := 0 } }
  else if status = 2 then
    let s : State := { s with mac := { s.mac with noAck := s.mac.noAck + 1 } }
    if s.rd (ob 0x4110 0x0B) ≤ s.mac.noAck then s.parentLost else s
  else s

/-- The end of an indirect frame's attempt (R290, R298, R302): removed when acknowledged or unacknowledged once too often, else kept at
the head as it is; one retired with the air die's epoch takes new numbers. -/
def State.indirectEnded (s : State) (id : Nat) (f : OutFrame) (status : Nat) : State :=
  match s.mac.indirect.find? (fun g => g.id == id) with
  | none => s
  | some g =>
    if status = 0 then (s.dropIndirect id).kindEnded g.origin 0
    else
      let tries := if status = 2 then g.tries + 1 else g.tries
      if status = 2 ∧ s.rd (ob 0x4100 0x09) + 1 ≤ tries then
        ((s.dropIndirect id).kindEnded g.origin 2).txFailed g.origin.tenant 2 tries g.child
      else { s with mac := { s.mac with
        indirect := s.mac.indirect.map (fun h => if h.id ≠ id then h
          else if status = 0x0E then { h with tries := tries, numbers := none, psdu := [] }
          else { h with tries := tries, numbers := f.numbers, psdu := f.psdu }) } }

/-- The procedure of R281 ends with a status and its detail octet (R296). -/
def State.endFrame (s : State) (status detail : Nat) : State :=
  match s.mac.csma with
  | none => s
  | some c =>
    let f := c.frame
    let s := ((s.cancel .lbt).cancel .backoff).cancel .ackWait
    let s : State := { s with mac := { s.mac with
      csma := none
      turn := match f.kind.tenant with | some t => t | none => s.mac.turn } }
    let s := match f.kind with
      | .indirect id => s.indirectEnded id f status
      | k => (s.kindEnded k status).txFailed k.tenant status detail (addrEvent f.dest)
    (s.countParent f status).sleepIdle

/-! ### The end of a transmission of the air die -/

/-- The wait for an Imm-Ack in µs after the frame's last bit (R282). -/
def State.ackWaitUs (s : State) : Nat := 1050 + octetUs s.opMode (s.rd (ob 0x4100 0x10) + 2)

/-- A cue pattern sent (R291): counted, announced, and its repeat set for the frames it was sent for. -/
def State.cueSent (s : State) (child : Option Nat) : State :=
  let s := (s.inc (ob 0x4130 0x0D)).raise 976 [t0] []
  (s.mac.indirect.filter (fun f => f.cues != 0 && (match child with | some c => f.child == c | none => true))).foldl
    (fun s f => s.armIn (.cueRetry f.id) 100000) s

/-- A transmit request of the air die has ended: sent, refused with a check number of R260, or retired with its epoch (9). -/
def State.txEnded (s : State) (r : TxReq) (status : Nat) : State :=
  let s := if status = 0 then (match r.use with | .cue .. => s | _ => s.inc (ob 0x4130 0x03)) else s
  match r.use with
  | .ack .. => s.sleepIdle
  | .cue child _ =>
    if status = 0 then s.cueSent child
    else s.txFailed none (if status = 9 then 0x0E else 0x0D) (if status = 9 then 0 else status) (child.getD 0xFFFF)
  | .data =>
    match s.mac.csma with
    | none => s
    | some c =>
      if status = 9 then s.endFrame 0x0E 0
      else if status ≠ 0 then s.endFrame 0x0D status
      else
        let s := if s.sleepy && s.toParent c.frame && s.joinState == 3 then s.armIn .poll (s.rd (ob 0x4110 0x01) * 1000000) else s
        if c.frame.broadcast then s.endFrame 0 (c.attempt + 1)
        else (s.setCsma { c with stage := .ackWait }).armIn .ackWait s.ackWaitUs

/-! ### POLL (R289, R301) -/

/-- A POLL wanted by a sleepy end node: a queued report serves in its place, and one POLL at most is pending. -/
def State.wantPoll (s : State) : State :=
  if s.sleepy && s.joinState == 3 && s.nextReport.isNone && !s.mac.out.any (fun o => o.kind == .poll) &&
      !(match s.mac.csma with | some c => s.toParent c.frame | none => false) then
    s.sendMac .poll (.short s.parent) (u8 1 ++ u16 (s.rd (ob 0x4110 0x01)))
  else s

end Sys2Proof.Machine
end

