-- ==== Sys2Proof/Machine/PocketOps.lean ====
section
/-! DEFINITION. The pocket die's shared operations (chapter 12): the mailbox's commits, scrubs and torn pages (R343 to R347), its
configuration and areas (R349, R350), the conductor's own pages (R13, R352), and the end of a session (R353). -/

namespace Sys2Proof.Machine

/-- An event of the pocket die: none while the part is unpowered (R363). -/
def State.pocketRaise (s : State) (e : Nat) (to_ : List Tenant) (data : Octets) : State :=
  if s.power.powered then s.raise e to_ data else s

/-- The pocket die changed. -/
def State.setPocket (s : State) (f : Pocket → Pocket) : State := { s with pocket := f s.pocket }

/-! ### The port configuration page (Table 12-4) -/

/-- Whether page 0x02 has ever committed. -/
def State.portKnown (s : State) : Bool := (s.pocket.copyOf 2).isSome

/-- The open read mask in force. -/
def State.openMask (s : State) : Nat := if s.portKnown then byteAt (s.mailPage 2) 0 else 0x0F

/-- The write threshold in force, in mV. -/
def State.writeMv (s : State) : Nat := if s.portKnown then u16At (s.mailPage 2) 1 else 2500

/-- The idle timeout in force, in µs. -/
def State.idleUs (s : State) : Nat := if s.portKnown then leNat (slice 3 4 (s.mailPage 2)) else 5000000

/-- Bit of the open read mask of a page's area; none for the inbox and for the configuration page, which is always open. -/
def areaBit (page : Nat) : Option Nat :=
  if page ≤ 1 then some 0 else if page = 3 then some 1 else if 4 ≤ page ∧ page ≤ 0x3F then some 2
  else if 0x80 ≤ page then some 3 else none

/-- Whether a page belongs to the inbox. -/
def isInbox (page : Nat) : Bool := decide (0x40 ≤ page) && decide (page ≤ 0x7F)

/-- The inbox state: byte 3 of its header (R351). -/
def State.inboxState (s : State) : Nat := byteAt (s.mailPage 0x40) 3

/-! ### Scrubbing (R347) -/

/-- Whether a scrub retires a descriptor: it reads WRITING, or COMMITTED and not well formed, or superseded. -/
def Pocket.stale (p : Pocket) (q : Nat) : Bool :=
  p.descByte q 3 == 0x7F ||
    (p.descByte q 3 == 0x3F && (!p.wellFormed q || p.copyOf (p.descByte q 0) != some q))

/-- A descriptor's state byte programmed. -/
def Pocket.state (p : Pocket) (q v : Nat) : Pocket := { p with desc := Mem.program p.desc (4 * q + 3) (BitVec.ofNat 8 v) }

/-- Descriptors set RETIRED. -/
def Pocket.retireAll (p : Pocket) (l : List Nat) : Pocket := l.foldl (fun p q => p.state q 0x1F) p

/-- The descriptors that a scrub retires. -/
def Pocket.stales (p : Pocket) : List Nat := (List.range 256).filter p.stale

/-- A scrub begun, of descriptors that are counted and announced. -/
def State.scrubBegun (s : State) (l : List Nat) : State :=
  let s := s.setPocket (fun p => { p with scrub := false, scrubbed := p.scrubbed + l.length })
  if l.isEmpty then s else s.pocketRaise 1065 [t0] []

/-- The scrub of a conductor start. -/
def State.scrub (s : State) : State :=
  let l := s.pocket.stales
  (s.scrubBegun l).setPocket (fun p => p.retireAll l)

/-! ### Commits through a shadow page (R344) -/

/-- Whether a physical page and its descriptor are blank. -/
def Pocket.blank (p : Pocket) (q : Nat) : Bool :=
  (Mem.bytes p.mail (64 * q) 64).all (· == 0xFF) && (Mem.bytes p.desc (4 * q) 4).all (· == 0xFF)

/-- Erase count of a physical page. -/
def Pocket.eraseCount (p : Pocket) (q : Nat) : Nat := Tab.get (fun _ => 0) p.erases q

/-- Whether page `q` comes before page `r` as a shadow: by its erase count, and of two with the same count a blank one before one that
is not. (DEDUCED from step 7 of chapter 12's worked case, log entry 31.) -/
def Pocket.sooner (p : Pocket) (q r : Nat) : Bool :=
  decide (p.eraseCount q < p.eraseCount r) || (p.eraseCount q == p.eraseCount r && p.blank q && !p.blank r)

/-- The shadow: the FREE or RETIRED page with the lowest erase count. -/
def Pocket.shadow (p : Pocket) : Option Nat :=
  ((List.range 256).filter (fun q => p.descByte q 3 == 0xFF || p.descByte q 3 == 0x1F)).foldl
    (fun (b : Option Nat) q => match b with
      | none => some q
      | some r => if p.sooner q r then some q else some r) none

/-- A physical page erased with its descriptor. -/
def Pocket.erase (p : Pocket) (q : Nat) : Pocket :=
  { p with
      mail := Mem.eraseAll p.mail (64 * q) 64, desc := Mem.eraseAll p.desc (4 * q) 4,
           erases := Tab.set (fun _ => 0) p.erases q (p.eraseCount q + 1) }

/-- The first three bytes of a commit's descriptor: page, generation after the committed copy's, complement. (DESIGN CHOICE for the first generation, log entry 31.) -/
def Pocket.newDesc (p : Pocket) (page : Nat) : Octets :=
  let g := match p.copyOf page with | some q => (p.descByte q 1 + 1) % 256 | none => 0
  u8 page ++ u8 g ++ u8 (page ^^^ 0xFF)

/-- The first commit of the order begun: the scrub that is due, then the shadow. -/
def State.beginCommit (s : State) : State :=
  match s.pocket.commits with
  | [] => s
  | c :: rest =>
    if c.phys.isSome || !s.pocket.running then s
    else
      let l := if s.pocket.scrub then s.pocket.stales else []
      let s := if s.pocket.scrub then s.scrubBegun l else s
      let c' : PageCommit := { c with since := s.now, scrub := l, phys := (s.pocket.retireAll l).shadow }
      s.setPocket (fun p => { p with commits := c' :: rest })

/-- A page commit entered in the order (R364); a waiting one of the conductor for the same page takes its place. -/
def State.mailCommit (s : State) (page : Nat) (data : Octets) (wand : Bool) : State :=
  let c : PageCommit := { page := page, data := padTo 64 data, wand := wand, since := s.now, scrub := [], phys := none }
  let same := fun (d : PageCommit) => d.page == page && d.phys.isNone && !d.wand
  let l := s.pocket.commits
  (s.setPocket (fun p => { p with
      commits :=
      if !wand && l.any same then l.map (fun d => if same d then c else d) else l ++ [c] })).beginCommit

/-- Duration of a commit in µs (Table 12-2, R347). -/
def Pocket.commitUs (p : Pocket) (c : PageCommit) : Nat :=
  2864 + 40 * c.scrub.length + (match c.phys with | some q => if p.blank q then 0 else 3000 | none => 0)

/-- The memory after a commit: committed and the old copy retired, or, after a read-back that differs, the new descriptor
RETIRED (R345). -/
def Pocket.finish (p : Pocket) (c : PageCommit) (ok : Bool) : Pocket :=
  match c.phys with
  | none => p
  | some q =>
    let p := p.retireAll c.scrub
    let old := p.copyOf c.page
    let d := p.newDesc c.page
    let p := if p.blank q then p else p.erase q
    let p : Pocket := { p with
        mail := Mem.programAll p.mail (64 * q) c.data,
        desc := Mem.programAll p.desc (4 * q) (d ++ u8 (if ok then 0x3F else 0x1F)) }
    if ok then (match old with | some r => p.state r 0x1F | none => p) else p

/-- A scrub cut off `e` µs into it: the descriptors reached are RETIRED, of the one in progress any bit may still be set. -/
def Pocket.halfScrubbed (p : Pocket) (l : List Nat) (e x : Nat) : Pocket :=
  let p := p.retireAll (l.take (e / 40))
  let p := match l[e / 40]? with
    | some q => p.state q (0x1F ||| x % 256)
    | none => p
  { p with scrubbed := p.scrubbed - (l.length - e / 40) }

/-- The memory after power failed `e` µs into a commit, with an indeterminate byte `x` (R346). -/
def Pocket.torn (p : Pocket) (c : PageCommit) (e x : Nat) : Pocket :=
  match c.phys with
  | none => p
  | some q =>
    if e < 40 * c.scrub.length then p.halfScrubbed c.scrub e x
    else
    let e := e - 40 * c.scrub.length
    let p := p.retireAll c.scrub
    let d := p.newDesc c.page
    if !p.blank q && decide (e < 3000) then (if x.testBit 0 then p.erase q else p)
    else
      let e := if p.blank q then e else e - 3000
      let p := if p.blank q then p else p.erase q
      let part := fun (b : Octets) (n : Nat) => b.take n ++ ((b.drop n).take 1).map (fun v => v ||| BitVec.ofNat 8 x)
      if e < 160 then { p with desc := Mem.programAll p.desc (4 * q) (if 120 ≤ e then d else part d (e / 40)) }
      else
        let p : Pocket := { p with desc := Mem.programAll p.desc (4 * q) (d ++ u8 0x7F) }
        if e < 2720 then { p with mail := Mem.programAll p.mail (64 * q) (part c.data ((e - 160) / 40)) }
        else
          let p : Pocket := { p with mail := Mem.programAll p.mail (64 * q) c.data }
          if e < 2824 then p else p.state q 0x3F

/-- The commit in progress torn by a loss of power: at the time it had reached, which a part without device time does not show. (DESIGN CHOICE, log entry 31.) -/
def State.tearCommit (s : State) : State :=
  match s.pocket.commits with
  | [] => s
  | c :: _ =>
    if c.phys.isNone then s.setPocket (fun p => { p with commits := [], answer := none })
    else
      let (x, s) := s.free1 (2 ^ 16)
      let (f, s) := s.free1 (s.pocket.commitUs c)
      let e := if s.power.powered then s.now - c.since else f
      s.setPocket (fun p => { p.torn c e x with commits := [], answer := none })

/-! ### The conductor's own pages -/

/-- Page 0x00 (Table 12-4). -/
def State.identityPage (s : State) : Octets :=
  (List.range 6).flatMap (fun n => u8 (s.rd (ob 0x1001 (n + 1)))) ++ u64 (s.rd (ob 0x4100 0x02)) ++ u8 (s.rd (ob 0x4000 0x01)) ++
    u16 (s.rd (ob 0x4100 0x03)) ++ u8 (s.rd (ob 0x5000 0x01)) ++ u64 s.now ++ List.replicate 38 0

/-- "Voxsorno VX640" in ASCII. -/
def productName : Octets := [0x56, 0x6F, 0x78, 0x73, 0x6F, 0x72, 0x6E, 0x6F, 0x20, 0x56, 0x58, 0x36, 0x34, 0x30]

/-- Page 0x01. -/
def State.productPage (s : State) : Octets :=
  padTo 32 productName ++ leBytes 16 (s.rd (ob 0x1050 0x02)) ++ List.replicate 16 0

/-- Page 0x02: the port configuration of 0x5400. -/
def State.portPage (s : State) : Octets :=
  u8 (s.rd (ob 0x5400 0x07)) ++ u16 (s.rd (ob 0x5400 0x06)) ++ u32 (s.rd (ob 0x5400 0x0F)) ++ List.replicate 57 0

/-- Whether a pocket key slot holds a key. -/
def State.pocketKeyed (s : State) (n : Nat) : Bool := s.keys.slots.any (fun p => p.1 == 0x48 + n)

/-- Page 0x03 with the commissioning state of now and the inbox outcome given: bytes 2 to 12 (Table 12-5). -/
def State.statePage (s : State) (outcome : Octets) : Octets :=
  u8 (if s.pocketKeyed 0 then (if s.rd (ob 0x4000 0x01) = 0 then 1 else 2) else 0) ++
    u8 ((List.range 8).foldl (fun m n => if s.pocketKeyed n then m + 2 ^ n else m) 0) ++ padTo 62 outcome

/-- Page 0x03 as it stands once the commits under way have succeeded, none where it was never written. -/
def State.statePageNow (s : State) : Option Octets :=
  match (s.pocket.commits.filter (fun c => c.page == 3)).getLast? with
  | some c => some c.data
  | none => if (s.pocket.copyOf 3).isSome then some (s.mailPage 3) else none

/-- The inbox outcome that page 0x03 holds, none where it was never written. -/
def State.inboxOutcome (s : State) : Octets :=
  match s.statePageNow with
  | some p => slice 2 11 p
  | none => [0, 0xFF, 0, 0, 0, 0, 0, 0, 0, 0, 0]

/-- Page 0x03 rewritten where it differs from the state of now. -/
def State.commissionPage (s : State) : State :=
  let p := s.statePage s.inboxOutcome
  if s.statePageNow = some p then s else s.mailCommit 3 p false

/-- Pages 0x00 and 0x01 rewritten where they differ from the conductor's copy, the time of the mirror apart (R13). -/
def State.mirror (s : State) : State :=
  let s := if (s.mailPage 0).take 18 = s.identityPage.take 18 then s else s.mailCommit 0 s.identityPage false
  if s.mailPage 1 = s.productPage then s else s.mailCommit 1 s.productPage false

/-- The inbox header with a state byte (R351, R352). -/
def State.inboxHeader (s : State) (st : Nat) : Octets := (s.mailPage 0x40).take 3 ++ u8 st ++ (s.mailPage 0x40).drop 4

/-- The application of a POSTED inbox begins, or of one that a supply loss interrupted: the header is committed as APPLYING (R352). -/
def State.inboxBegin (s : State) : State :=
  if (s.inboxState = 1 ∨ s.inboxState = 4) ∧ (s.pocket.copyOf 0x40).isSome = true ∧ s.pocket.inbox = false then
    (s.setPocket (fun p => { p with inbox := true })).mailCommit 0x40 (s.inboxHeader 4) false
  else s

/-- COMMISSIONED where the commissioning state of page 0x03 has left FACTORY, and 0x1050.04 brought up to date. -/
def State.noteCommissioned (s : State) : State :=
  let v := if (s.pocket.copyOf 3).isSome then byteAt (s.mailPage 3) 0 else 0
  let old := s.rd (ob 0x1050 0x04)
  if v = old then s
  else
    let s := s.wrKeep [(ob 0x1050 0x04, v)]
    if old = 0 then s.raise 1140 [t0] [] else s

/-! ### Responses (R357) -/

/-- A byte string combined with the AES-CTR key stream of a message with counter value `v`. -/
def ctrCrypt (kenc sid : Octets) (v : Nat) (b : Octets) : Octets :=
  let blocks := (List.range (b.length / 16 + 1)).flatMap (fun j => padTo 16 (aes kenc (sid ++ u32 v ++ u16 j ++ [0, 0])))
  List.zipWith (fun x y => x ^^^ y) b blocks

/-- A response of the pocket die: data and status word. -/
def State.respond (s : State) (data : Octets) (w : Nat) : State := s.setPocket (fun p => { p with resp := data ++ sw w })

/-- A secured response, after which the command counter increments. -/
def State.respondSecured (s : State) (data : Octets) (w : Nat) : State :=
  let p := s.pocket
  let v := 2 * p.counter + 1
  let ct := ctrCrypt p.kenc p.sid v data
  let mac := (cmac p.kmac (u32 v ++ ct ++ sw w)).take 8
  s.setPocket (fun p => { p with resp := ct ++ mac ++ sw w, counter := p.counter + 1 })

/-! ### Sessions (R353) -/

/-- The session state, 0x5400.02: 0 NONE, 1 SELECTED, 2 AUTH_PENDING, 3 SECURED. -/
def State.pocketSession (s : State) : Nat := s.rd (ob 0x5400 0x02)

/-- The session's tenant. -/
def State.pocketTenant (s : State) : Option Tenant := tenant? (s.rd (ob 0x5400 0x03))

/-- The session's secrets forgotten, in a session state. -/
def State.sessionTo (s : State) (n : Nat) : State :=
  ((s.wrAll [(ob 0x5400 0x02, n), (ob 0x5400 0x03, 0xFF)]).cancel .bridgeWtx).cancel .bridgeTimeout |>.setPocket
    (fun p => { p with kenc := [], kmac := [], sid := [], counter := 0, rndW := [], rndP := [], bridge := none, closing := false })

/-- The session ends: SESSION_CLOSED to T0 and its tenant; commissioning values are forgotten. -/
def State.pocketEnd (s : State) : State :=
  let s := s.setPocket (fun p => { p with kx := none })
  if s.pocketSession = 0 then s
  else
    let t := s.pocketTenant
    let d := u8 (s.rd (ob 0x5400 0x03))
    (((s.sessionTo 0).cancel .pocketIdle).pocketRaise 1059 (andT0 t) d)

/-- The session ended after the command in progress (R366): at once where none is. -/
def State.pocketClose (s : State) : State :=
  if s.pocket.bridge.isSome || s.pocket.answer.isSome then s.setPocket (fun p => { p with closing := true }) else s.pocketEnd

/-- The end of a session that waited for its command. -/
def State.closeDue (s : State) : State := if s.pocket.closing then s.pocketEnd else s

/-- The bridge command in progress answered (R360 to R362, R365). -/
def State.bridgeEnd (s : State) (data : Octets) (w : Nat) : State :=
  if s.pocket.bridge.isNone then s
  else ((((s.cancel .bridgeWtx).cancel .bridgeTimeout).setPocket (fun p => { p with bridge := none })).respondSecured data w).closeDue

/-- The session ended where it is a tenant's: its reset, or the erasure of its slot (R366). -/
def State.pocketLeave (s : State) (t : Tenant) : State := if s.pocketTenant = some t then s.pocketEnd else s

/-- The pocket die starts: a new random UID, the card layer idle where a field is present, a scrub due at its first commit. -/
def State.pocketStart (s : State) : State :=
  let (r, s) := s.randomBytes 3
  (s.setPocket (fun p => { p with
    running := true, uid := 0x08 :: r, card := if p.field then .idle else .off, scrub := true, resp := [] })).beginCommit

/-- The pocket die stops, by a reset or for want of its supply: the session ends, what was in progress stays as R346 gives. -/
def State.pocketStop (s : State) : State :=
  (s.pocketEnd).setPocket (fun p => { p with running := false, card := .off, answer := none, held := none, resp := [] })

end Sys2Proof.Machine
end

