-- ==== Sys2Proof/Machine/Air.lean ====
section
/-! DEFINITION. The air die's commands (chapter 9): start and stop, the receiver and its attenuator (R241 to R243), the transmit checks
(R260), power and path (R248, R249), the on and off sequences (R252, R253), the synthesiser and its store (R244 to R247), sealing (R231,
R232), and the cue receiver (R254 to R258). -/

namespace Sys2Proof.Machine

/-! ### Start and stop (R230, R263) -/

/-- AIR_START_REQUEST (R230). -/
def execAirStartRequest (s : State) : Result := done s.airStart

/-- AIR_CLOCK_CHECK (R230): the cycles of the 40 MHz island over one tick. -/
def execAirClockCheck (count : Nat) (s : State) : Result :=
  if s.airState = 1 ∧ s.isDue .airStart = true then
    let s := s.cancel .airStart
    if 1219 ≤ count ∧ count ≤ 1222 then done ((s.causeEnd 32).armIn .airClock 70)
    else done ((s.airOff.raise 847 [t0] []).fault 32 count)
  else done s

/-- Whether ADC_SLICE runs, for which receive and transmit requests wait (R203, R207). -/
def State.slicesTuned (s : State) : Bool := s.cal.running.any (fun u => u.kind == 8)

/-- The automatic tuning of the slices at the first start after a release (R207). -/
def State.firstSlices (s : State) : State :=
  if s.cal.autos.contains (8, 0x200) then
    ({ s with cal := { s.cal with autos := s.cal.autos.filter (· != (8, 0x200)) } } : State).startTuning (autoTuning 8 0x200)
  else s.nextTunings

/-- Reports whose hold-off has passed are free at a start of the air die (R283). -/
def State.freeReports (s : State) : State :=
  tenants.foldl (fun s t => if s.mac.held.contains t && s.isDue (.reportRetry t) then s.freeReport t else s) s

/-- AIR_READY (R230). -/
def execAirReady (s : State) : Result :=
  if s.airState = 1 ∧ s.isDue .airClock = true then
    let s := (s.cancel .airClock).toListen.raise 832 [t0] []
    done (s.freeReports.firstSlices)
  else done s

/-- AIR_STOP_REQUEST (R263). -/
def execAirStopRequest (s : State) : Result := done s.airStop

/-! ### The receiver (R241 to R243) -/

/-- AIR_ENERGY_DETECT (R241). -/
def execAirEnergyDetect (s : State) : Result :=
  if s.airState = 2 ∧ s.slicesTuned = false then
    let s := s.framePoint.settleChannel
    let s : State := { s.setAir 3 with air := { s.air with atten := s.rd (ob 0x4050 0x03), changes := 0 } }
    done (s.armIn .preamble (s.rd (ob 0x4050 0x05)))
  else done s

/-- The attenuator over the judged groups of four symbols, each given by its largest magnitude: code and changes (R241). -/
def attenWalk (idle : Nat) : Nat → Nat → List Nat → Nat × Nat
  | code, n, [] => (code, n)
  | code, n, p :: l =>
    if 6 ≤ n then (code, n)
    else if 511 ≤ p ∧ code < 7 then attenWalk idle (code + 1) (n + 1) l
    else if p ≤ 64 ∧ idle < code then attenWalk idle (code - 1) (n + 1) l
    else attenWalk idle code n l

/-- AIR_SFD_FOUND (R241): the groups judged since PREAMBLE began, and the code locks. -/
def execAirSfdFound (peaks : List Nat) (s : State) : Result :=
  if s.airState = 3 then
    let (c, n) := attenWalk (s.rd (ob 0x4050 0x03)) s.air.atten s.air.changes peaks
    let s : State := { (s.setAir 4).cancel .preamble with air := { s.air with atten := c, changes := n, sfdAt := s.now } }
    done (s.inc (ob 0x4050 0x06))
  else done s

/-- PREAMBLE_TIMEOUT (R241): the code returns to the idle code. -/
def execPreambleTimeout (_peaks : List Nat) (s : State) : Result :=
  if s.airState = 3 ∧ s.isDue .preamble = true then
    done (((s.cancel .preamble).inc (ob 0x4050 0x08)).toListen)
  else done s

/-- A level referred to the antenna side, in 0.25 dBm (R243): the converter power and the attenuation of a code, less the gains of the
on-die LNA and, where it is in the path, of the external one. -/
def State.atAntenna (s : State) (code : Nat) (power lna : Int) : Int :=
  power + 16 * code - lna - (if s.frontEnd then roundAway (4 * s.rdInt (ob 0x4030 0x04)) 10 else 0)

/-- RSSI in 0.25 dBm (R243). -/
def State.rssi (s : State) (x : AirSignal) : Int := s.atAntenna s.air.atten x.power x.lna

/-- The air quality record (Table 9-5). -/
def State.airQuality (s : State) (x : AirSignal) : Octets :=
  leBytes 2 (ofSigned 16 (s.rssi x)) ++ leBytes 2 (ofSigned 16 x.offset) ++ u8 s.air.atten ++ u8 x.lqi ++
    u8 (airFlags (decide (511 ≤ x.peak)) (s.rd (ob 0x6200 0x03) == 1) s.frontEnd) ++ u8 s.air.changes

/-- AIR_RX_FRAME_END (R242, R243, R266): the frame passes to the MAC with its record; a mode switch or a length beyond 255 is
discarded. -/
def execAirRxFrameEnd (frame : AirIn) (signal : AirSignal) (s : State) : Result :=
  if s.airState = 4 then
    let s1 := if 511 ≤ signal.peak then (s.inc (ob 0x4050 0x07)).raise 845 [t0] [] else s
    let s2 : State := if frame.modeSwitch || decide (255 < frame.psdu.length) then s1.inc (ob 0x4130 0x0E)
      else { s1 with mac := { s1.mac with
          rx := s1.mac.rx ++
          [{ frame := parseMac frame, quality := s.airQuality signal, sfdAt := s.air.sfdAt, endAt := s.now, index := s.air.channel }] } }
    done s2.toListen
  else done s

/-! ### Power (R248, R249) -/

/-- A PA code's level at a frequency in Hz, times 47,000,000, in 0.1 dBm (R248). -/
def State.paLevel (s : State) (f p : Nat) : Int :=
  let at_ := fun (k : Nat) => toSigned 16 (u16At (leBytes 128 (s.rd k)) (2 * p))
  let a := at_ (ob 0x4030 0x0A)
  let d : Int := clamp 868000000 915000000 f - 868000000
  a * 47000000 + (at_ (ob 0x4030 0x0B) - a) * d

/-- The highest code whose level at a frequency does not exceed `x` (0.1 dBm). -/
def State.paCode (s : State) (f : Nat) (x : Int) : Nat :=
  (List.range 64).foldl (fun c p => if s.paLevel f p ≤ x * 47000000 then p else c) 0

/-- Path, gain and code for a limit L at a frequency (R249); none under POWER_FLOOR. -/
def State.paPath (s : State) (f : Nat) (l : Int) : Option (Nat × Int × Nat) :=
  let fits := fun (g : Int) => decide (s.paLevel f 0 ≤ (l - g) * 47000000)
  let pa := s.rdInt (ob 0x4030 0x02)
  let by_ := s.rdInt (ob 0x4030 0x03)
  if !s.frontEnd then (if fits 0 then some (0, 0, s.paCode f l) else none)
  else if fits pa then some (1, pa, s.paCode f (l - pa))
  else if fits by_ then some (2, by_, s.paCode f (l - by_))
  else none

/-! ### The transmit checks (R260) -/

/-- Frequency in Hz and sub-band of a request's channel; none where it is DENIED (R235). -/
def State.txPlace (s : State) (r : TxReq) : Option (Nat × Nat) :=
  match r.use with
  | .cue .. =>
    let f := s.cueChannel
    ((subBands s.profile).findIdx? (fun b => decide (b.low * 1000 ≤ f) && decide (f ≤ b.high * 1000))).map (fun b => (f, b))
  | _ => if s.allowed r.index r.mode then (s.planEntry r.index).bind (fun e => (s.bandIdx r.index).map (fun b => (e.centre, b))) else none

/-- Whether a request is sent under HOP (Table 9-3, R237). -/
def State.isHop (s : State) (r : TxReq) : Bool :=
  s.profile == 2 && decide (50 ≤ s.air.hopSet.eraseDups.length) && s.air.hopSet.contains r.index &&
    (match r.use with | .cue .. => false | _ => true)

/-- The power limit of the frame's sub-band or US1 rule. -/
def State.rulePower (s : State) (r : TxReq) (b : Nat) : Int :=
  if s.profile = 2 then (if s.isHop r then 270 else -10) else match s.band b with | some x => x.power | none => 0

/-- On-time of a request in µs, ramps included; a cue pattern's on-chips with the edges around them (R236, R257). -/
def State.onTime (s : State) (r : TxReq) : Nat :=
  match r.use with
  | .cue child pre =>
    let l := s.cuePattern child pre
    ceilDiv ((l.filter (·)).length * 4 * 1000000) 32768 + 4 * onRuns false l
  | _ => r.time + 32

/-- Whether a store entry is valid (R244). -/
def State.synValid (s : State) (k : Nat) : Bool :=
  match s.air.store.find? (fun p => p.1 == k) with
  | some p => (byteAt p.2 5).testBit 0 && byteAt p.2 6 == (p.2.take 6).foldl (fun n x => n ^^^ x.toNat) 0
  | none => false

/-- Time for a lock on an index in µs (R245). (DEDUCED, log entry 41.) -/
def State.synUs (s : State) (k : Nat) : Nat :=
  if s.air.synLocked && s.air.synEntry == some k then 0 else if s.synValid k then 40 else 220

/-- The greatest time from acceptance to the up-ramp on a path: only the PA path has a supply and a bias to settle. (DEDUCED, log entry
41.) -/
def State.leadUs (s : State) (k path : Nat) : Nat :=
  max (s.synUs k) (if path = 1 then 1 + s.rd (ob 0x4030 0x05) + s.rd (ob 0x4030 0x06) else 0)

/-- The greatest time from acceptance to the up-ramp, whatever path is chosen. -/
def State.onSequence (s : State) (k : Nat) : Nat := s.leadUs k (if s.frontEnd then 1 else 0)

/-- Dwell on a channel in the last 20,000,000 µs (R237). -/
def State.dwellOf (s : State) (k : Nat) : Nat :=
  s.air.dwell.foldl (fun n e => if e.1 = k ∧ s.now < e.2.2 + 20000000 then n + (e.2.2 - max e.2.1 (s.now - 20000000)) else n) 0

/-- Whether a frame whose up-ramp begins at an instant counts as one after a listen (R236). -/
def State.listenedBy (s : State) (r : TxReq) (b start : Nat) : Bool :=
  (match s.band b with | some x => x.lbt.isSome | none => false) &&
  (match r.listen with | some e => decide (start ≤ e + 100) | none => false)

/-- Which ledger's cap a request is held to (R236): as predicted for its first emitted instant. (DEDUCED, log entry 41.) -/
def State.listened (s : State) (r : TxReq) (b path : Nat) : Bool :=
  s.airState == 2 && s.listenedBy r b (s.now + s.leadUs r.index path)

/-- DUTY_LIMIT (R236). -/
def State.dutyOver (s : State) (r : TxReq) (b path on : Nat) : Bool :=
  match s.band b with
  | none => true
  | some x =>
    if s.profile = 2 then false
    else if x.on < on then true
    else if s.listened r b path then (match x.lbt with | some cap => decide (cap < ledgerSum s.air.lbt b s.now + on) | none => true)
    else decide (x.dc < ledgerSum s.air.dc b s.now + on)

/-- DWELL_LIMIT (R237, R238). (DEDUCED, log entry 40.) -/
def State.dwellOver (s : State) (r : TxReq) (on : Nat) : Bool :=
  s.isHop r && (decide (s.now < s.air.dwellFull) || decide (400000 < s.dwellOf r.index + on))

/-- QUOTA_EXHAUSTED (R417). -/
def State.quotaOver (s : State) (r : TxReq) (on : Nat) : Bool :=
  let cap := s.rd (ob (0x9010 + r.tenant.val) 0x06)
  r.quota && cap != 0xFFFFFFFF && decide (cap < ledgerSum s.air.tenantAir r.tenant.val s.now + on)

/-- The checks of R260 in their order: the number of the first that fails, or the request with what acceptance fixes. (DEDUCED, log entry 39.) -/
def State.txCheck (s : State) (r : TxReq) : Nat ⊕ TxReq :=
  if s.profile = 0 then .inl 1
  else if s.airState = 8 then .inl 2
  else match s.txPlace r with
    | none => .inl 3
    | some (f, b) =>
      let l := min (s.rulePower r b) (s.rdInt (ob (0x9010 + r.tenant.val) 0x07))
      match s.paPath f l with
      | none => .inl 4
      | some (path, g, code) =>
        let on := s.onTime r
        if s.dwellOver r on then .inl 5
        else if s.dutyOver r b path on then .inl 6
        else if s.quotaOver r on then .inl 7
        else .inr { r with
          hop := s.isHop r, path := path, code := code, power := s.rulePower r b, on := on
          out := roundAway (s.paLevel f code) 47000000 + g }

/-- Data of a refused or capped frame's event (Table 17-3). -/
def TxReq.data (r : TxReq) (status : Nat) : Octets := u8 status ++ u16 r.index ++ u8 r.tenant.val

/-- A request refused: its event, its counts, and its end at the MAC. -/
def State.refuseTx (s : State) (r : TxReq) (code : Nat) : State :=
  let who := withT0 r.tenant
  let s := match code with
    | 3 => s.raise 837 who (r.data 3)
    | 5 => s.raise 836 who (r.data 5)
    | 6 =>
      let b := ((s.txPlace r).map Prod.snd).getD 0
      let s : State := { s with air := { s.air with refusals := Tab.set (fun _ => 0) s.air.refusals b (Tab.get (fun _ => 0) s.air.refusals b + 1) } }
      s.raise 835 who (r.data 6)
    | 7 =>
      let s := s.inc (ob (0x9020 + r.tenant.val) 0x07)
      if s.air.quotaTold.contains (r.tenant.val, binOf s.now) then s
      else ({ s with air := { s.air with quotaTold := (r.tenant.val, binOf s.now) :: s.air.quotaTold } } : State).raise 1213 who (u8 r.tenant.val)
    | 8 => s.raise 840 who (r.data 8)
    | _ => s
  s.txEnded r code

/-! ### The on sequence (R245, R252) -/

/-- Length of a transmission's first and last edge in µs: the ramps of a frame, the keying edges of a cue pattern (R250, R257). -/
def TxReq.edgeUs (r : TxReq) : Nat := match r.use with | .cue .. => 2 | _ => 16

/-- The instant of a transmission's first bit where its up-ramp may begin now: an Imm-Ack has its own (R282). -/
def State.firstBit (s : State) (r : TxReq) : Nat :=
  match r.use with
  | .ack _ _ start => max (s.now + 16) start
  | _ => s.now + r.edgeUs

/-- A data frame made up for its first transmission (R268, R276): a TIME message carries the instant its own SFD will end (R292); frame
pending is set where more is held for the child. -/
def State.composed (s : State) (f : OutFrame) (start : Nat) : OutFrame :=
  let n := f.numbers.getD (0, 0, 0)
  let payload := if byteAt f.payload 0 = 2 then
      splice 1 (u64 (s.netTime (start + octetUs s.opMode (s.rd (ob 0x4100 0x10) + 2)))) f.payload else f.payload
  let more := match f.kind with
    | .indirect id => s.mac.indirect.any (fun g => g.id != id && f.dest == .short g.child)
    | _ => false
  let header := dataHeader n.1 (s.rd (ob 0x4100 0x01)) f.dest (if isJoinRequest payload then .ext s.ext else .short s.short) (!f.broadcast) more
  { f with payload := payload, psdu := dataPsdu (s.netKey n.2.2) s.ext (s.rd (ob 0x4100 0x08)) n.2.1 n.2.2 header payload }

/-- The octets of a transmission whose first bit is at an instant (R267); a retransmission repeats its frame's own. -/
def State.compose (s : State) (r : TxReq) (start : Nat) : State :=
  let p := s.rd (ob 0x4100 0x10)
  match r.use with
  | .cue .. => { s with air := { s.air with onAir := [] } }
  | .ack seq more _ => { s with air := { s.air with onAir := airFrame p (ackPsdu seq more) } }
  | .data =>
    match s.mac.csma with
    | none => s
    | some c =>
      let f := if c.frame.psdu.isEmpty then s.composed c.frame start else c.frame
      let s : State := { s with air := { s.air with onAir := airFrame p f.psdu } }
      s.setCsma { c with frame := f }

/-- The up-ramp begins once the bias has settled and the synthesiser is locked. -/
def State.tryRamp (s : State) : State :=
  if s.airState = 5 && s.air.biasDone && s.air.synLocked && !s.isArmed .paUp then
    match s.air.tx with
    | some r =>
      let start := s.firstBit r
      let s : State := { s with air := { s.air with rampAt := start - r.edgeUs } }
      (((s.wr (ob 0x4030 0x0C) r.code).wrInt (ob 0x4030 0x0D) r.out).compose r start).arm .paUp start
    | none => s
  else s

/-- The on sequence begins for a request that has passed its checks. -/
def State.txBegin (s : State) (r : TxReq) : State :=
  let s := (s.cancel .synHold).setAir 5
  let s := if s.frontEnd then s.wr (ob 0x4030 0x08) 1 else s
  let held := s.air.synLocked && s.air.synEntry == some r.index
  let inl := !held && !s.synValid r.index
  let s : State := { s with air := { s.air with
    tx := some r, counted := false, biasDone := r.path != 1, synEntry := some r.index, synLocked := held } }
  let s := if held then s else s.armIn .synLock (if inl then 220 else 40)
  let s := if inl then (s.inc (ob 0x4020 0x04)).raise 839 [t0] [] else s
  let s := s.fePins false false true false (r.path == 2)
  let s := if r.path = 1 then s.armIn .xpaEnOn 1 else s
  let s := if r.out + 10 < r.power then s.raise 838 (withT0 r.tenant) (r.data 0) else s
  s.tryRamp

/-- The oldest request taken off the list. -/
def State.dropRequest (s : State) : State := { s with air := { s.air with requests := s.air.requests.drop 1 } }

/-- The energy of an air frame charged (R566); the spec states no value of the estimate. (DESIGN CHOICE for the energy, log entry 39.) -/
def State.chargeAir (s : State) (r : TxReq) : State :=
  let (e, s) := s.free1 (2 ^ 16)
  (s.add (ob 0x1070 0x04) e).add (obT 0x1071 0x02 r.tenant) e

/-- The request accepted in TX_OFF begins (R253); the frame before it is charged. -/
def State.beginDeferred (s : State) : State :=
  let s := match s.air.tx with | some r => s.chargeAir r | none => s
  match s.air.requests with
  | [] => { s with air := { s.air with counted := false } }
  | r :: _ => s.framePoint.dropRequest.txBegin r

/-- AIR_TX_REQUEST (R253, R260, R263): the oldest request is checked. In LISTEN it begins, in TX_OFF it is deferred; in OFF the die is
started first, and in any other state it waits. A SYN_ENTRY entry under way is finished first (R246). While the link is not READY it ends
with LINK_RETIRED (R541); none is accepted while a conductor restart quiesces (R441). -/
def execAirTxRequest (s : State) : Result :=
  match s.air.requests with
  | [] => done s
  | r :: l =>
    let st := s.airState
    if !s.airServes || !s.linkReady .air then done (s.dropRequest.txEnded r 9)
    else if s.slicesTuned || s.air.first.isSome || s.rst.quiescing.isSome then done s
    else if st = 0 then done s.airStart
    else if st = 2 ∨ st = 8 ∨ (st = 7 ∧ s.air.counted = false) then
      match s.txCheck r with
      | .inl code => done (s.dropRequest.refuseTx r code)
      | .inr r' =>
        if st = 2 then done (s.airPoint.framePoint.dropRequest.txBegin r')
        else
          let s : State := { s with air := { s.air with requests := r' :: l, counted := true } }
          done ((s.inc (ob 0x4030 0x09)).raise 841 [t0] [])
    else done s

/-- XPA_EN_ON_DUE (R252). -/
def execXpaEnOnDue (s : State) : Result :=
  if s.airState = 5 ∧ s.isDue .xpaEnOn = true then
    done (((s.cancel .xpaEnOn).fePins true false true false false).armIn .paSupply (s.rd (ob 0x4030 0x05)))
  else done s

/-- PA_SUPPLY_SETTLED (R252). -/
def execPaSupplySettled (s : State) : Result :=
  if s.airState = 5 ∧ s.isDue .paSupply = true then
    done (((s.cancel .paSupply).fePins true true true false false).armIn .bias (s.rd (ob 0x4030 0x06)))
  else done s

/-- BIAS_SETTLED (R252). -/
def execBiasSettled (s : State) : Result :=
  if s.airState = 5 ∧ s.isDue .bias = true then
    let s := s.cancel .bias
    done ({ s with air := { s.air with biasDone := true } } : State).tryRamp
  else done s

/-- SYN_LOCK_DONE (R245): the cause of SYN_LOCK_FAIL ends when a lock on the same entry succeeds. -/
def execSynLockDone (s : State) : Result :=
  if s.airState = 5 ∧ s.isArmed .synLock = true then
    let s := s.cancel .synLock
    let k := s.air.synEntry.getD 0
    let s : State := { s with air := { s.air with synLocked := true, synFailed := s.air.synFailed.filter (· != k) } }
    done (if s.air.synFailed.isEmpty then s.causeEnd 33 else s).tryRamp
  else done s

/-- What has begun of the front end's on sequence is undone (Table 9-7). -/
def State.feOff (s : State) : State :=
  let s := ((s.cancel .xpaEnOn).cancel .paSupply).cancel .bias
  if s.pins.xpaEn then (s.fePins true false true false false).armIn .xpaEnOff 2
  else (s.fePins false false false false s.pins.xbyp).armIn .offDone (if s.frontEnd then 1 else 0)

/-- SYN_LOCK_TIMEOUT (R245, R260): refused with SYN_UNLOCKED; nothing was emitted. -/
def execSynLockTimeout (s : State) : Result :=
  if s.airState = 5 ∧ s.isDue .synLock = true then
    match s.air.tx with
    | none => done s
    | some r =>
      let s := s.cancel .synLock
      let s : State := { s with air := { s.air with
        tx := none, synEntry := none, synLocked := false, synFailed := r.index :: s.air.synFailed.filter (· != r.index)
        store := s.air.store.filter (fun p => p.1 != r.index) } }
      let s := ((s.inc (ob 0x4020 0x05)).fault 33 r.index).setAir 7
      let s := (if s.frontEnd then s.wr (ob 0x4030 0x08) 3 else s).feOff
      done (s.refuseTx r 8)
  else done s

/-- PA_RAMP_UP_DONE (R250). -/
def execPaRampUpDone (s : State) : Result :=
  match s.air.tx with
  | none => done s
  | some r =>
    if s.airState = 5 ∧ s.isDue .paUp = true then
      let s := (s.cancel .paUp).setAir 6
      let s := if s.frontEnd then s.wr (ob 0x4030 0x08) 2 else s
      done (s.armIn .txEnd r.time)
    else done s

/-- AIR_TX_LAST_BIT (R250). -/
def execAirTxLastBit (s : State) : Result :=
  match s.air.tx with
  | none => done s
  | some r =>
    if s.airState = 6 ∧ s.isDue .txEnd = true then
      let s := (s.cancel .txEnd).setAir 7
      let s := if s.frontEnd then s.wr (ob 0x4030 0x08) 3 else s
      done ((s.armIn .paDown r.edgeUs).txEnded r 0)
    else done s

/-! ### The off sequence (R236, R252, R253) -/

/-- On-time of the first `us` µs of a cue pattern: its on-chips so far with the edges around them (R257). -/
def cueOnTime (l : List Bool) (us : Nat) : Nat :=
  let n := us * 32768 / 4000000
  let part := if l.getD n false then us - n * 4000000 / 32768 else 0
  ceilDiv (((l.take n).filter (·)).length * 4000000) 32768 + part + 4 * onRuns false (l.take (n + (if part = 0 then 0 else 1)))

/-- A transmission's on-time, whether it completed or was cut off (R236, R257). -/
def State.spentOn (s : State) (r : TxReq) : Nat :=
  match r.use with
  | .cue child pre => if r.time + 4 ≤ s.now - s.air.rampAt then r.on else cueOnTime (s.cuePattern child pre) (s.now - s.air.rampAt - 4)
  | _ => s.now - s.air.rampAt

/-- A transmission's on-time entered in its ledgers (R236, R237, R417). -/
def State.enterOnTime (s : State) (r : TxReq) : State :=
  let on := s.spentOn r
  let b := ((s.txPlace r).map Prod.snd).getD 0
  let a := s.air
  let a : Air := if r.hop then { a with dwell := (r.index, a.rampAt, s.now) :: a.dwell }
    else if s.profile = 2 then a
    else if s.listenedBy r b a.rampAt then { a with lbt := ledgerAdd a.lbt b s.now on } else { a with dc := ledgerAdd a.dc b s.now on }
  { s with air := { a with tenantAir := ledgerAdd a.tenantAir r.tenant.val s.now on } }

/-- PA_RAMP_DOWN_DONE (R252): a bypass-path frame has no supply to discharge, and without a front end the off sequence ends here. -/
def execPaRampDownDone (s : State) : Result :=
  match s.air.tx with
  | none => done s
  | some r =>
    if s.airState = 7 ∧ s.isDue .paDown = true then
      let s := (s.cancel .paDown).enterOnTime r
      if r.path = 1 then done ((s.fePins true false true false false).armIn .xpaEnOff 2)
      else if s.air.counted then done s.beginDeferred
      else done ((s.fePins false false false false (r.path == 2)).armIn .offDone (if s.frontEnd then 1 else 0))
    else done s

/-- XPA_EN_OFF_DUE (R252). -/
def execXpaEnOffDue (s : State) : Result :=
  if s.isDue .xpaEnOff then
    done (((s.cancel .xpaEnOff).fePins false false true false false).armIn .discharge (s.rd (ob 0x4030 0x07)))
  else done s

/-- DISCHARGE_ELAPSED (R252, R253): XSW_TX goes low; a deferred request begins from offset 0. -/
def execDischargeElapsed (s : State) : Result :=
  if s.isDue .discharge then
    let s := (s.cancel .discharge).fePins false false false false false
    done (if s.air.counted && s.airState == 7 then s.beginDeferred else s.armIn .offDone 1)
  else done s

/-- The off sequence of a frame is over: the synthesiser holds its lock for 200 µs, and the die listens, or stops where a stop waits or
a reset or a recovery has cut it (R261, R548). -/
def State.txOver (s : State) : State :=
  let s := match s.air.tx with | some r => s.chargeAir r | none => s
  let s : State := { s.wr (ob 0x4030 0x08) 0 with air := { s.air with tx := none } }
  let s := if s.air.synLocked then s.armIn .synHold 200 else s
  if s.airServes && s.linkReady .air then (s.setAir 2).toListen else s.airOff

/-- OFF_SEQUENCE_COMPLETE (R252). -/
def execOffSequenceComplete (s : State) : Result :=
  if s.airState = 7 ∧ s.isDue .offDone = true then
    let s := s.cancel .offDone
    done (if s.air.counted then s.beginDeferred else s.txOver)
  else done s

/-- SYN_HOLD_EXPIRED (R245). -/
def execSynHoldExpired (s : State) : Result :=
  if s.isDue .synHold then
    let s := s.cancel .synHold
    let s : State := { s with air := { s.air with synLocked := false, synEntry := none } }
    done (s.applyReady (fun r => r.kind == 9))
  else done s

/-! ### The store (R246, R247, R264) -/

/-- Whether the transmitter is idle with the air island running. -/
def State.txIdle (s : State) : Bool :=
  (s.airState == 2 || s.airState == 3 || s.airState == 4 || s.airState == 8) && s.air.requests.isEmpty

/-- Entries marked stale (R247). -/
def State.staleEntries (s : State) : List Nat :=
  ((s.air.store.filter (fun p => (byteAt p.2 5).testBit 1 && s.synValid p.1)).map (·.1)).mergeSort

/-- AUTO_SYN_RETUNE (R247, R264): as T0, every list entry after a seal, else the stale ones. -/
def execAutoSynRetune (s : State) : Result :=
  let busy := (s.cal.queue ++ s.cal.running).any (fun u => u.kind == 9)
  if !s.txIdle || busy || decide (5 ≤ s.rd (ob 0x4000 0x04)) then done s
  else if s.cal.autos.contains (9, 0x600) then
    done (({ s with cal := { s.cal with autos := s.cal.autos.filter (· != (9, 0x600)) } } : State).startTuning (autoTuning 9 0x600))
  else done (s.staleEntries.foldl (fun s k => s.startTuning (autoTuning 9 (0x400 + k))) s)

/-- One store entry accepted by itself (R219): its user value, applied and made permanent. -/
def State.acceptEntry (s : State) (k : Nat) (l : List Int) : State :=
  ((s.setUser 9 (0x400 + k) true).applyAt 9 (0x400 + k) .whole l).dirtied 9 (0x400 + k)

/-- SYN_ENTRY_RUN_DONE (R219, R246): one run of the entry in turn. Each entry is judged by itself; the tuning ends with the status of
the last entry that failed, or OK. -/
def execSynEntryRunDone (run : Run) (s : State) : Result :=
  match s.air.retune, s.cal.running.find? (fun u => u.kind == 9) with
  | k :: rest, some u =>
    if s.airState = 0 ∨ s.airState = 1 ∨ (5 ≤ s.airState ∧ s.airState ≤ 7) then done s
    else match s.air.first with
      | none =>
        let s : State := { s with air := { s.air with first := some run } }
        done (s.tuneState u 3)
      | some a =>
        let st := judgeRuns 9 a run
        let s := if st = 0 then s.acceptEntry k run.values else s
        let u' : Tuning := { u with status := if st = 0 then u.status else st }
        let s : State := { (s.setTuning u u') with air := { s.air with retune := rest, first := none } }
        if rest.isEmpty then done (s.endTuning u' u'.status).nextTunings else done (s.tuneState u' 2)
  | _, _ => done s

/-! ### Sealing (R231, R232) -/

/-- Status of a write to 0x4000.02 or 0x4000.03 (R231). A wrong confirm is refused and drops the request, which `sealRefused` does. -/
def State.sealCheck (s : State) (sub v : Nat) : Nat :=
  let st := s.rd (ob 0x4000 0x04)
  if st = 1 ∨ st = 4 then sRange
  else if st = 6 then sInUse
  else if sub = 2 then when (v != 1 && v != 2) sRange
  else match s.air.sealing with
    | none => sRange
    | some (code, _) => when (s.isDue .sealWindow && decide ((s.dueAt .sealWindow).getD 0 < s.now) || v != code ^^^ 0xFF) sRange

/-- The request dropped with SEAL_MISMATCH. -/
def State.sealDropped (s : State) : State :=
  (({ s with air := { s.air with sealing := none } } : State).cancel .sealWindow).wr (ob 0x4000 0x04) 2

/-- What a refused confirm does: one within its window that does not match drops the request (R231). -/
def State.sealRefused (s : State) (sub : Nat) : State :=
  if sub = 3 ∧ s.rd (ob 0x4000 0x04) = 5 then s.sealDropped else s

/-- The seal request and its confirm (R231). -/
def State.sealWrite (s : State) (sub v : Nat) : State :=
  if sub = 2 then
    let before := match s.air.sealing with | some x => x.2 | none => s.rd (ob 0x4000 0x04)
    (({ s with air := { s.air with sealing := some (v, before) } } : State).wr (ob 0x4000 0x04) 5).armIn .sealWindow 10000000
  else ((s.cancel .sealWindow).wr (ob 0x4000 0x04) 6).armIn .sealWrite 50000

/-- A pending request dropped by a reset: the status returns to what it was (R231). -/
def State.sealForget (s : State) : State :=
  match s.air.sealing with
  | some (_, before) =>
    if s.rd (ob 0x4000 0x04) = 5 then
      (({ s with air := { s.air with sealing := none } } : State).cancel .sealWindow).wr (ob 0x4000 0x04) before
    else s
  | none => s

/-- SEAL_WINDOW_EXPIRED (R231): the closing microsecond belongs to the window. -/
def execSealWindowExpired (s : State) : Result :=
  if s.isDue .sealWindow && decide ((s.dueAt .sealWindow).getD 0 < s.now) then done s.sealDropped else done s

/-- SEAL_WRITE_DONE (R231, R232, R247). -/
def execSealWriteDone (ok : Bool) (s : State) : Result :=
  match s.air.sealing with
  | none => done s
  | some (code, _) =>
    if s.rd (ob 0x4000 0x04) ≠ 6 then done s
    else
      let s := s.cancel .sealWrite
      let s : State := { s with air := { s.air with sealing := none, slots := s.air.slots ++ [(code, ok)] } }
      if ok then
        let s := s.wrAll [(ob 0x4000 0x01, code), (ob 0x4000 0x04, 1), (ob 0x4000 0x05, s.now)]
        let s := (s.raise 833 [t0] []).copyLimits
        let s := if s.linkReady .field then s.loadLimits else s
        done (s.noteAuto 9 0x600).commissionPage.joinNow
      else
        let s := s.raise 834 [t0] []
        if 3 ≤ s.air.slots.length then done ((s.wr (ob 0x4000 0x04) 4).fault 36 s.air.slots.length)
        else done (s.wr (ob 0x4000 0x04) 3)

/-! ### Ledgers -/

/-- LEDGER_BIN_ROLLOVER (R236, R417). -/
def execLedgerBinRollover (s : State) : Result :=
  if s.isDue .airBin then
    let n := s.now
    let s : State := { s with air := { s.air with
      dc := ledgerTrim s.air.dc n, lbt := ledgerTrim s.air.lbt n, tenantAir := ledgerTrim s.air.tenantAir n
      dwell := s.air.dwell.filter (fun e => decide (n < e.2.2 + 20000000))
      quotaTold := s.air.quotaTold.filter (fun e => decide (e.2 = binOf n)) } }
    done (s.arm .airBin ((binOf n + 1) * 60000000))
  else done s

/-! ### Writes of the declared gains (R251) -/

/-- Status of a write to 0x4030 beside its range: after sealing the path gains may not fall and the LNA gain may not rise. (DEDUCED, log entry 39.) -/
def State.gainCheck (s : State) (sub v : Nat) : Nat :=
  let old := s.rdInt (ob 0x4030 sub)
  let new := toSigned 16 v
  when (s.profile != 0 && ((sub == 2 || sub == 3) && decide (new < old) || sub == 4 && decide (old < new))) sRegion

/-! ### The cue receiver (R254 to R258) -/

/-- The threshold in 0.1 dBm (R254). -/
def State.cueThreshold (s : State) : Int := -960 + 15 * s.rd (ob 0x6200 0x09)

/-- CUE_LISTEN (R254): the envelope's highest level in 0.1 dBm over the two ticks. A CUE tuning has the receiver to itself (R203). -/
def execCueListen (level : Int) (s : State) : Result :=
  if s.air.cueState = 1 ∧ s.isDue .cueListen = true then
    let start := ticksAt ((s.dueAt .cueListen).getD 0) - 2
    let s := s.cancel .cueListen
    if s.cal.running.any (fun u => u.kind == 7) then done (s.arm .cueListen s.nextListen)
    else
    let s : State := { s with cal := { s.cal with heard := true } }
    let s := s.applyReady (fun r => r.kind == 7)
    if s.cueThreshold < level then
      let s : State := { s with air := { s.air with cueState := 2 } }
      done (s.arm .cueGiveUp (tickUs (start + s.rd (ob 0x4040 0x02) + 16)))
    else done (s.arm .cueListen s.nextListen)
  else done s

/-- CUE_GIVE_UP (R254). -/
def execCueGiveUp (s : State) : Result :=
  if s.air.cueState = 2 ∧ s.isDue .cueGiveUp = true then done s.falseWake else done s

/-- Whether a cue word matches (R256). (DEDUCED, log entry 42.) -/
def State.cueMatches (s : State) (w : Octets) : Bool :=
  let code := beNat (w.take 2)
  w.length == 4 && byteAt w 3 == crc8 (w.take 3) && code == s.rd (ob 0x4040 0x03) && code != 0xFFFF &&
    (byteAt w 2 == s.rd (ob 0x4040 0x04) || byteAt w 2 == 0xFF)

/-- CUE_WORD_RECEIVED (R256, R301). -/
def execCueWordReceived (word : Octets) (s : State) : Result :=
  if s.air.cueState ≠ 2 then done s
  else if s.cueMatches word then
    let s : State := { s.cancel .cueGiveUp with air := { s.air with cueState := 1 } }
    let s := ((s.inc (ob 0x4040 0x05)).wr (ob 0x4040 0x09) s.now).raise 842 [t0] []
    done ((s.wakeBy 2).wantPoll.airStart.nextTunings)
  else done s.falseWake

/-- CUE_STOP_DONE (R258). -/
def execCueStopDone (s : State) : Result :=
  if s.air.cueState = 3 ∧ s.isDue .cueStop = true then
    let s : State := { s.cancel .cueStop with air := { s.air with cueState := 0, cueAgain := false } }
    done (s.applyReady (fun r => r.kind == 7)).cueStart
  else done s

end Sys2Proof.Machine
end

