-- ==== Sys2Proof/Machine/Voices.lean ====
section
/-! DEFINITION. The commands of scores and voices (chapters 3 and 6): triggers, grants, deadlines, the boost, ramps, the floor dwell and
the protection. -/

namespace Sys2Proof.Machine

/-! ### Scores -/

/-- SCORE_TRIGGER (R153): one delivered trigger is acted on — an IDLE score starts, a RUNNING or STOPPING one counts an overrun. A run
that has more groups before it than one command takes goes on. -/
def execScoreTrigger (score : ScoreId) (s : State) : Result :=
  if s.scores[score].triggers = 0 then
    done (s.advance score groupsPerCommand)
  else
    let s := s.setScore score (fun x => { x with triggers := x.triggers - 1 })
    match s.scoreState score with
    | 0 => done (s.runStart score)
    | 1 | 2 => done (s.inc (ob (0xA000 + score.val) 0x09))
    | _ => done s

/-- STEP_DEADLINE_EXPIRED (R158). -/
def execStepDeadlineExpired (score : ScoreId) (stepNo : Nat) (s : State) : Result :=
  if s.isDue (.deadline score stepNo) then
    let s := s.cancel (.deadline score stepNo)
    match s.dues.find? (fun d => d.score == score.val && d.step == stepNo && d.tuning.isNone) with
    | some d => done (s.endDue d (noFrame 0x16 (cutData d none)))
    | none => done s
  else done s

/-- WAIT_STEP_ELAPSED (R154). -/
def execWaitStepElapsed (score : ScoreId) (stepNo : Nat) (s : State) : Result :=
  if s.isDue (.wait score stepNo) then
    let s := s.cancel (.wait score stepNo)
    if s.scores[score].open_.contains stepNo then
      done ((s.setScore score (fun x => x.closed stepNo true 0)).advance score groupsPerCommand)
    else done s
  else done s

/-! ### Grants -/

/-- The tuning that a voice's grant serves. -/
def State.tuningOn (s : State) (v : VoiceId) : Option Tuning := s.cal.running.find? (fun u => s.voices[v].serves u)

/-- The first run of a tuning whose voice stays at FLOOR begins (R202). -/
def State.quietRun (s : State) (v : VoiceId) : State := match s.tuningOn v with | some u => s.firstRun u | none => s

/-- Whether a due step must wait whatever the order says: a tuning that would emit with the boost FAILED or the part unsealed. -/
def State.tuningBlocked (s : State) (d : DueStep) : Bool := d.tuning.isSome && d.emits && (s.boost == 5 || !s.hfSealed)

/-- VOICE_GRANT (R157): the next due step of a free voice is granted, or ends where the checks of its dispatch now fail; the steps of
a HALTED or DISABLED voice end (R75, R76). -/
def execVoiceGrant (v : VoiceId) (s : State) : Result :=
  let s := if s.up && s.linkReady .field then s.loadLimits else s
  if s.voiceState v = 7 then done (s.cutDues (fun d => voiceOf d.channel == v) 0x12)
  else if s.voiceState v = 8 then done (s.cutDues (fun d => voiceOf d.channel == v) 0x11)
  else if s.granting && s.voiceFree v then
    match s.choose v ((s.dueOrder v).filter (fun d => !s.tuningBlocked d)) with
    | (none, s) => done s
    | (some d, s) =>
      match s.dispatchEnd d with
      | some e => done (s.endDue d e)
      | none =>
        let s := s.grant v d
        if d.emits || s.voices[v].grant.isNone then done s else done (s.quietRun v)
  else done s

/-- CHANNEL_SELECTED (R54): the matrix has selected the channel and loaded its bank, within 15 µs; the bank and offset codes that
waited for a selection are in force (Table 8-3). -/
def execChannelSelected (v : VoiceId) (s : State) : Result :=
  match s.voices[v].grant with
  | none => done s
  | some g =>
    if s.voices[v].selecting then
      let s := (s.cancel (.select v)).setVoice v (fun x => { x with selecting := false })
      let s := s.applyReady (fun r => (r.kind == 1 || (r.kind == 3 && r.form != .step)) && r.target == g.step.channel)
      let s := s.select v g.step.channel g.damping
      done (s.pauseDetection.raiseCarrier v)
    else done s

/-! ### The boost -/

/-- Every voice that waits for VFLD goes on if it can (R62). -/
def State.liftWaiting (s : State) : State := voiceIds.foldl (fun s v => if s.voiceState v = 1 then s.raiseCarrier v else s) s

/-- BOOST_READY (R63): VFLD has stayed within ±3 % of the setpoint for 20 µs. -/
def execBoostReady (mv : Nat) (s : State) : Result :=
  let sp := s.rd (ob 0x2010 0x02)
  let near := decide (100 * (if mv ≤ sp then sp - mv else mv - sp) ≤ 3 * sp)
  if (s.boost = 1 ∨ s.boost = 3) ∧ near = true then
    let s := (s.cancel .boostStart).cancel .boostSlew
    let s := (s.wrAll [(ob 0x2010 0x01, 2), (ob 0x2010 0x03, mv)]).raise 816 [t0] []
    done s.liftWaiting.boostFollow
  else done s

/-- A voice loses its step to an outcome and its carrier to a down-ramp in the region's minimum ramp time, as when the boost fails
(R66) or a reset comes (R79). -/
def State.dropVoice (s : State) (v : VoiceId) (outcome : Nat) : State :=
  let s := s.abortOn v
  let s := s.cutStep v outcome
  if s.emitting v then s.rampDown v s.minRamp
  else if s.voiceState v = 7 ∨ s.voiceState v = 8 then s
  else if s.voices[v].held.isSome || s.voiceState v = 6 || s.voiceState v = 1 then s.reachFloor v
  else s

/-- The boost FAILED (R63, R66) with a cause of Table 3-7; the cause of the fault stays present only while VFLD is too high. -/
def State.failBoost (s : State) (cause mv : Nat) : State :=
  let s := (((s.cancel .boostStart).cancel .boostSlew).cancel .boostHold).cancel .boostStop
  let s := (s.wrAll [(ob 0x2010 0x01, 5), (ob 0x2010 0x03, mv), (ob 0x2010 0x0A, cause)]).inc (ob 0x2010 0x08)
  let s : State := { s with pins := { s.pins with vfldEn := false, discharge := false } }
  let s := (s.fault 20 cause).raise 818 [t0] []
  let s := if cause = 3 then s else s.causeEnd 20
  voiceIds.foldl (fun s v => s.dropVoice v 0x13) s

/-- BOOST_START_TIMEOUT (R63). -/
def execBoostStartTimeout (s : State) : Result :=
  if s.isDue .boostStart = true ∧ s.boost = 1 then done (s.failBoost 1 (s.rd (ob 0x2010 0x03))) else done s

/-- BOOST_SLEW_TIMEOUT (R63). -/
def execBoostSlewTimeout (s : State) : Result :=
  if s.isDue .boostSlew = true ∧ s.boost = 3 then done (s.failBoost 2 (s.rd (ob 0x2010 0x03))) else done s

/-- BOOST_HOLD_OFF_EXPIRED (R64). -/
def execBoostHoldOffExpired (s : State) : Result :=
  if s.isDue .boostHold && s.voicesQuiet && (s.boost == 1 || s.boost == 2 || s.boost == 3) then
    let s := ((s.cancel .boostHold).cancel .boostStart).cancel .boostSlew
    let s : State := { s with pins := { s.pins with vfldEn := false, discharge := true } }
    done ((s.wr (ob 0x2010 0x01) 4).armIn .boostStop 3000)
  else done s

/-- BOOST_STOP_DONE (R64): VFLD below 3.0 V, or 3,000 µs gone; a grant that waits starts the boost again. -/
def execBoostStopDone (mv : Nat) (s : State) : Result :=
  if s.boost = 4 ∧ (mv < 3000 ∨ s.isDue .boostStop = true) then
    let s : State := { s with pins := { s.pins with discharge := false } }
    let s := ((s.cancel .boostStop).wrAll [(ob 0x2010 0x01, 0), (ob 0x2010 0x03, mv)]).raise 817 [t0] []
    done s.boostFollow
  else done s

/-- What a measurement of VFLD shows while the boost is FAILED: VFLD_FAULT's cause is present only while VFLD exceeds its maximum by
more than 600 mV (Table 18-1). (log entry 33.) -/
def State.vfldSeen (s : State) (mv : Nat) : State :=
  if s.boost = 5 then
    let s := s.wr (ob 0x2010 0x03) (mv % 65536)
    if mv ≤ s.rd (ob 0x2010 0x05) + 600 then s.causeEnd 20 else s
  else s

/-- VFLD_OVERVOLTAGE (R66): more than 600 mV above the maximum for 5 µs. -/
def execVfldOvervoltage (mv : Nat) (s : State) : Result :=
  if s.rd (ob 0x2010 0x05) + 600 < mv ∧ s.boost ≠ 5 then done (s.failBoost 3 mv) else done (s.vfldSeen mv)

/-- VFLD_UNDERVOLTAGE (R66): below 4.0 V for 20 µs while a voice emits. -/
def execVfldUndervoltage (mv : Nat) (s : State) : Result :=
  if mv < 4000 ∧ voiceIds.any s.emitting = true ∧ s.boost ≠ 5 then done (s.failBoost 4 mv) else done (s.vfldSeen mv)

/-- A clear of VFLD_FAULT returns the boost to OFF (R502). -/
def State.boostCleared (s : State) : State := if s.boost = 5 then (s.wr (ob 0x2010 0x01) 0).boostFollow else s

/-! ### Ramps -/

/-- RAMP_UP_DONE (R69). -/
def execRampUpDone (v : VoiceId) (s : State) : Result :=
  match s.voices[v].grant with
  | some g =>
    if s.voiceState v = 2 ∧ s.isDue (.rampUp v) = true then
      done (((s.cancel (.rampUp v)).setVoiceState v 3).armIn (.settle v) g.settle).boostFollow
    else done s
  | none => done s

/-- SETTLE_ELAPSED (R69): the voice is at level with its power measured; a step begins its first frame, a tuning its first run. -/
def execSettleElapsed (v : VoiceId) (measured : Nat) (s : State) : Result :=
  match s.voices[v].grant with
  | some g =>
    if s.voiceState v = 3 ∧ s.isDue (.settle v) = true then
      let s := ((s.cancel (.settle v)).setVoiceState v 4).wr (ob (vi v) 0x06) (measured % 65536)
      let s := s.voiceEvent v 0 [g.step.tenant] g.step.channel g.drive
      match s.tuningOn v with
      | some u => done (s.firstRun u)
      | none =>
        let (s, e) := s.begin v g
        match e with
        | some e => done (s.endStep v e)
        | none => done s
    else done s
  | none => done s

/-- SLEW_DONE (R70): settling follows at the new level. -/
def execSlewDone (v : VoiceId) (s : State) : Result :=
  match s.voices[v].grant with
  | some g =>
    if s.voiceState v = 2 ∧ s.isDue (.slew v) = true then
      let s := s.setVoice v (fun x => { x with drive := g.drive })
      done (((s.cancel (.slew v)).setVoiceState v 3).armIn (.settle v) g.settle).boostFollow
    else done s
  | none => done s

/-- AT_FLOOR, to the tenant of the step whose down-ramp ended, or to T0 (R474). -/
def State.atFloor (s : State) (v : VoiceId) : State :=
  let x := s.voices[v]
  s.voiceEvent v 1 (match x.owner with | some t => [t] | none => [t0]) (match x.held with | some c => c | none => 0xFF) x.drive

/-- The VFLD energy of an emission charged to its tenant (R565, R566). -/
def State.chargeEnergy (s : State) (v : VoiceId) (energy : Nat) : State :=
  let s := s.add (ob 0x1070 0x03) energy
  match s.voices[v].owner with
  | some t => s.add (obT 0x1071 0x01 t) energy
  | none => s

/-- RAMP_DOWN_DONE (R69): FLOOR, or FLOOR_DWELL before a deferred grant (R71), in which the channels stay held and selected (R54, R55);
`energy` is what the emission drew from VFLD. -/
def execRampDownDone (v : VoiceId) (energy : Nat) (s : State) : Result :=
  if s.voiceState v = 5 ∧ s.isDue (.rampDown v) = true then
    let s := ((s.cancel (.rampDown v)).countCarrier v).chargeEnergy v energy
    let s := (s.atFloor v).applying v
    match s.voices[v].deferred with
    | none => done (s.reachFloor v).doze
    | some g =>
      let s := s.setVoice v (fun x => { x with
        grant := none, session := none, exchange := none, drive := 0, emitAt := none })
      let s := s.wrAll [(ob (vi v) 0x01, 6), (ob (vi v) 0x06, 0), (ob (vi v) 0x07, g.vreq)]
      done (s.armIn (.dwell v) (s.rd (ob (vi v) 0x05))).boostFollow
  else done s

/-- FLOOR_DWELL_ELAPSED (R71). -/
def execFloorDwellElapsed (v : VoiceId) (s : State) : Result :=
  match s.voices[v].deferred with
  | some g =>
    if s.voiceState v = 6 ∧ s.isDue (.dwell v) = true then
      let s := s.cancel (.dwell v)
      done (if g.step.emits then s.takeUp v g else (s.takeQuiet v g).quietRun v)
    else done s
  | none => done s

/-! ### Protection (R75, R76) -/

/-- VOICE_OVERCURRENT (R75): the carrier stops unshaped and the voice is HALTED; its step and the steps due on its channels end with
VOICE_FAULT. The current ends with the carrier, so the fault's cause does too. -/
def execVoiceOvercurrent (v : VoiceId) (energy : Nat) (s : State) : Result :=
  if s.emitting v then
    let x := s.voices[v]
    let ch := match x.held with | some c => c | none => 0xFF
    let to_ := t0 :: (match x.grant with | some g => [g.step.tenant] | none => x.owner.toList)
    let s := (s.countCarrier v).chargeEnergy v energy
    let s := (s.incSat (ob (vi v) 0x0C)).voiceEvent v 7 to_ ch x.drive
    let s := (s.fault (16 + v.val) ch).causeEnd (16 + v.val)
    let s := (s.abortOn v).cutStep v 0x12
    let s := s.cancelAll (fun tm => tm == .rampUp v || tm == .settle v || tm == .slew v || tm == .rampDown v)
    let s := (s.reachFloor v).setVoiceState v 7
    done ((s.cutDues (fun d => voiceOf d.channel == v) 0x12).boostIdle)
  else done s

/-- A clear of VOICE_OVERCURRENT returns its voice to FLOOR (R502), or to DISABLED where it is switched off. -/
def State.voiceCleared (s : State) (v : VoiceId) : State :=
  if s.voiceState v = 7 then (s.setVoiceState v (if s.isOn (ob (vi v) 0x03) then 0 else 8)).boostIdle else s

/-- The effect of a write to 0x200n.03 (R76): an emitting voice finishes its step first, every other step on it ends VOICE_DISABLED (a
tuning that holds the voice is finished, log entry 33); VOICE_ENABLE_CHANGED goes to T0 and the
tenant of a step then holding the voice. -/
def State.enableVoice (s : State) (v : VoiceId) (on : Bool) : State :=
  let x := s.voices[v]
  let was := s.isOn (ob (vi v) 0x03)
  let s := s.wr (ob (vi v) 0x03) (if on then 1 else 0)
  let s := if was = on then s
    else s.voiceEvent v 8 (t0 :: (x.grant.toList.map (fun g => g.step.tenant))) (match x.held with | some c => c | none => 0xFF) x.drive
  let tuned := (x.grant.toList ++ x.deferred.toList).any (fun g => g.step.tuning.isSome)
  if on then
    let s := s.setVoice v (fun x => { x with disable := false })
    if s.voiceState v = 8 then s.setVoiceState v 0 else s
  else
    let s := s.cutDues (fun d => voiceOf d.channel == v) 0x11
    if s.voiceState v = 7 ∨ s.voiceState v = 8 then s
    else if s.emitting v || tuned then (s.cutDeferred v 0x11).setVoice v (fun x => { x with disable := true })
    else (s.cutStep v 0x11).reachFloor v

/-- The effect of a write to a coupling entry (R82): later grants obey it; COUPLING_MAP_CHANGED. -/
def State.coupling (s : State) (sub v : Nat) : State := (s.wr (ob 0x2020 sub) v).raise 819 [t0] []

end Sys2Proof.Machine
end

