-- ==== Sys2Proof/Machine/Protocols.lean ====
section
/-! DEFINITION. The commands of a tag exchange (chapters 4 to 6): request frames, separate EOFs, response windows, replies, the S(WTX)
budget, card probes, and the end of a key's suspension. Instants and offsets on the air are in 0.01 µs. -/

namespace Sys2Proof.Machine

/-! ### Turns -/

/-- Phase anchors of entries that are not PRESENT discarded (R213). -/
def State.pruneAnchors (s : State) : State :=
  { s with cal := { s.cal with anchors := s.cal.anchors.filter (fun a => s.tags.any (fun p => p.1 == a.1 && p.2.state == 1)) } }

/-- Whether a step that ends asks for S(DESELECT) first, with its session open (R125). -/
def State.deselects (s : State) (v : VoiceId) (d : DueStep) (x : Exchange) : Bool :=
  (byteAt d.record 2).testBit 1 && (s.session v d).blockOn && (match x.prog with | .deselect _ _ _ _ => false | _ => true)

/-- A turn of a voice's sequencer taken: the exchange goes on, or its step ends, after an S(DESELECT) where it asks for one. -/
def State.took (v : VoiceId) (t : Turn) : State :=
  let s := t.1.setVoice v (fun y => { y with exchange := some t.2.1 })
  match t.2.2, s.voices[v].grant with
  | some e, some g =>
    if s.deselects v g.step t.2.1 then
      let t := deselect s v g.step t.2.1 e
      t.1.setVoice v (fun y => { y with exchange := some t.2.1 })
    else (s.endStep v e).pruneAnchors
  | some e, none => (s.endStep v e).pruneAnchors
  | none, _ => s

/-- The exchange of a voice changed. -/
def State.setExchange (s : State) (v : VoiceId) (x : Exchange) : State := s.setVoice v (fun y => { y with exchange := some x })

/-- The application point of a voice's receive corrections: no response window is open (R100, Table 8-3). -/
def State.receivePoint (s : State) (v : VoiceId) : State :=
  s.applyReady (fun r => (r.kind == 3 && r.form == .step && voiceOf r.target == v) ||
    (decide (4 ≤ r.kind) && decide (r.kind ≤ 6) && tuneVoice r.kind r.target == some v))

/-- The block exchange that a sequencer is in the middle of. -/
def Prog.blockEx : Prog → Option BlockEx
  | .apdu p => some p
  | .ndef4 _ _ _ _ _ p => some p
  | _ => none

/-! ### Requests (R108, R110, R112, R114) -/

/-- Windows open on other voices are marked: this voice modulates (R99). -/
def State.modulating (s : State) (v : VoiceId) : State :=
  voiceIds.foldl (fun s w =>
    if w = v then s
    else if s.windowOpen w then
      s.setVoice w (fun y => { y with exchange := y.exchange.map (fun x => { x with modulated := true }) })
    else s) s

/-- The rates of a voice's session: reader to tag, tag to reader. -/
def State.rates (s : State) (v : VoiceId) (d : DueStep) : Nat × Nat :=
  let z := s.session v d
  if z.blockOn then (z.rate % 4, z.rate / 4) else (0, 0)

/-- Whether the frame in the buffer advances a slot, so that it begins at the earliest instant of R112 (R140). -/
def Exchange.advances (x : Exchange) : Bool :=
  x.frame.eofOnly || (match x.prog with | .invAReq p => decide (0 < p.rounds) | .invBSlot p => decide (0 < p.slot) | _ => false)

/-- How a request is modulated (R58, R106): a 15693 one as its step says, Type A by ASK100, Type B by ASK low; the index of ASK low, or none
for ASK100. -/
def Frame.modulation (f : Frame) (d : DueStep) (askLow : Nat) : Option Nat :=
  if f.iso15 then (if d.settings.ask = 1 then none else some askLow) else if f.typeB then some askLow else none

/-- REQUEST_FRAME_START (R106, R108, R112, R140): the frame in the buffer begins once the minimum gap has passed. -/
def execRequestFrameStart (v : VoiceId) (s : State) : Result :=
  match s.voices[v].grant, s.voices[v].exchange with
  | some g, some x =>
    if s.voiceState v = 4 ∧ x.air = .ready ∧ x.gap < 100 * (s.now + 1) ∧ s.linkReady .field = true then
      let d := g.step
      let start := if x.advances then x.gap else max x.gap (100 * s.now)
      let endAt := start + x.frame.duration d.settings.coding (s.rates v d).1
      let s := s.setExchange v { x with air := .sending, ref := endAt, opened := 0, modulated := false }
      let s := s.setVoice v (fun y => { y with ask := x.frame.modulation d g.askLow })
      let s := (s.modulating v).inc (ob (0x2480 + v.val) 0x01)
      done (s.arm (.frameEnd v) (endAt / 100))
    else done s
  | _, _ => done s

/-- The reference of Table 5-4 from the end of a request: for Type A frames that FDT times, the edge that ends the last pause. -/
def Frame.reference (f : Frame) (endAt : Nat) : Nat :=
  match f.window with
  | .aFdt _ | .aOther _ => endAt - (if lastBitOne f.bytes f.lastBits f.short then 2124 else 1652)
  | _ => endAt

/-- When the response window of an exchange closes without a reply start. -/
def State.closesAt (s : State) (v : VoiceId) (d : DueStep) (x : Exchange) : Nat :=
  x.ref + x.frame.window.closes d.settings.mode (s.rates v d).2

/-- A sequencer with its block exchange changed. -/
def Prog.setBlock (p : Prog) (f : BlockEx → BlockEx) : Prog :=
  match p with
  | .apdu b => .apdu (f b)
  | .ndef4 stage off left cc got b => .ndef4 stage off left cc got (f b)
  | q => q

/-- The response window of a request that has ended is set out (R110); the end of an S(WTX) response sets the instant at which the budget
of R122 runs out. -/
def State.awaitReply (s : State) (v : VoiceId) (d : DueStep) (x : Exchange) : State :=
  let end_ := x.ref
  let x := { x with air := .windowWait, ref := x.frame.reference x.ref }
  let s := s.arm (.windowOpen v) ((x.ref + x.frame.window.opens) / 100)
  let s := s.arm (.close v) (s.closesAt v d x / 100)
  match x.prog.blockEx with
  | some p =>
    if p.temp.isSome then
      (s.setExchange v { x with prog := x.prog.setBlock (fun p => { p with temp := none, wtxFrom := some end_ }) }).arm (.wtx v)
        ((end_ + d.settings.budget * 100 - p.wtxSum) / 100)
    else s.setExchange v x
  | none => s.setExchange v x

/-- REQUEST_FRAME_END (R27, R110, R112, R114): the frame of an abandoned step was the last; else the window follows, or the separate EOF,
or for a request without a reply the next turn, its gap being the close of the window it would have had. -/
def execRequestFrameEnd (v : VoiceId) (s : State) : Result :=
  match s.voices[v].grant, s.voices[v].exchange with
  | some g, some x =>
    if x.air = .sending ∧ s.isDue (.frameEnd v) = true then
      let s := s.cancel (.frameEnd v)
      if s.voices[v].abandoned then done (s.releaseVoice v) else
      let x := { x with prog := x.prog.sent g.step.record }
      match x.frame.eof with
      | some w => done ((s.setExchange v { x with air := .eofWait }).arm (.eof v) ((x.ref + w) / 100))
      | none =>
        if x.frame.expect = .nothing then
          let gap := if x.frame.window = .none then x.ref + x.frame.idle
            else s.closesAt v g.step { x with ref := x.frame.reference x.ref }
          let x := { x with air := .none, gap := gap, stamp := x.ref / 100 }
          done (State.took v (react s v g.step x [] 0))
        else done (s.awaitReply v g.step x)
    else done s
  | _, _ => done s

/-- SEPARATE_EOF_DUE (R114, R174, R184). -/
def execSeparateEofDue (v : VoiceId) (s : State) : Result :=
  match s.voices[v].exchange with
  | some x =>
    if x.air = .eofWait ∧ s.isDue (.eof v) = true then
      let endAt := x.ref + (x.frame.eof.getD 0) + 3776
      let f := { x.frame with bytes := [], eofOnly := true, eof := none }
      let s := ((s.cancel (.eof v)).setExchange v { x with air := .sending, ref := endAt, frame := f }).modulating v
      done (s.arm (.frameEnd v) (endAt / 100))
    else done s
  | none => done s

/-! ### Windows (R84, R87, R110, R111) -/

/-- RESPONSE_WINDOW_OPEN (R87, R88, R100, R103): the start range, the receive settings and the gains are latched. -/
def execResponseWindowOpen (v : VoiceId) (s : State) : Result :=
  match s.voices[v].grant, s.voices[v].exchange with
  | some g, some x =>
    if x.air = .windowWait ∧ s.isDue (.windowOpen v) = true then
      let i := 0x2200 + g.step.channel
      let r := 0x2280 + v.val
      let mode := s.rd (ob i 0x01)
      let range := if mode < 4 then mode else s.rd (ob i 0x03) % 4
      let busy := voiceIds.any (fun w => w != v && (match s.voices[w].exchange with | some y => y.air == .sending | none => false))
      done ((s.cancel (.windowOpen v)).setExchange v { x with
        air := .open, range := range, acq := 0, phase := 0, noise := none, shortNoise := false, rx := Reception.blank, modulated := busy,
        latch := [s.rd (ob r 0x01), s.rd (ob r 0x02), s.rd (ob r 0x03), s.rd (ob r 0x04), s.rd (ob i 0x02), s.rd (ob r 0x05),
          s.rd (ob r 0x06), s.rd (ob r 0x07), s.rd (ob r 0x08)] })
    else done s
  | _, _ => done s

/-- The counters of a frame status (Table 5-8). -/
def State.countStatus (s : State) (v : VoiceId) (st : Nat) : State :=
  let i := 0x2480 + v.val
  let s := if st = 1 then s.inc (ob i 0x07) else s
  if st = 2 then s.inc (ob i 0x02)
  else if st = 7 then s.inc (ob i 0x03)
  else if st = 1 ∨ (3 ≤ st ∧ st ≤ 6) ∨ st = 8 then s.inc (ob i 0x04) else s

/-- A window closed without a frame at an instant (R111, R173): the stamp is the microsecond in which it closed, and the next request may
follow at once (Table 5-5). (DEDUCED, log entry 35.) -/
def State.shutWindow (s : State) (v : VoiceId) (d : DueStep) (x : Exchange) (st closed : Nat) : State :=
  let s := (s.cancel (.close v)).countStatus v st
  let x := { x with air := .none, status := st, detail := 0, stamp := closed / 100, gap := closed }
  let s := (s.setExchange v x).receivePoint v
  State.took v (react s v d x [] 0)

/-- How a voice's exchange has its replies coded. -/
def replyCoding (s : State) (v : VoiceId) (d : DueStep) (x : Exchange) : TagCoding := x.frame.tagCoding d.settings.mode (s.rates v d).2

/-- The samples that the converter takes in a length of 0.01 µs (R84). -/
def samplesIn (len : Nat) : Nat := len * 678 / 10000

/-- The samples of a window up to a reply start at an offset, of those that the chain was given (R84). -/
def samplesBefore (x : Exchange) (offset : Nat) (before : List Sample) : List Sample :=
  before.take (samplesIn (offset - x.frame.window.opens))

/-- REPLY_START (R84, R85, R88, R95, R109, R110, R111, R122, R173): `offset` is the reply start after the reference; the chain has the
samples since the window opened and those of the start-of-frame pattern, whose first part is the phase reference or TR1 where the protocol
has one. The time of an S(WTX) is summed up to here. -/
def execReplyStart (v : VoiceId) (offset : Nat) (before : List Sample) (lead sof : List Cell) (s : State) : Result :=
  match s.voices[v].grant, s.voices[v].exchange with
  | some g, some x =>
    let w := x.frame.window
    if x.air ≠ .open ∨ 100 * (s.now + 1) ≤ x.ref + offset ∨ offset < w.opens ∨ w.latest < offset then done s
    else if offset < w.earliest then done (s.shutWindow v g.step x 1 (x.ref + offset))
    else if w = .iso15Write ∧ inSubWindow offset = false then done (s.shutWindow v g.step x 4 (x.ref + offset))
    else
      let len := offset - w.opens - 400
      let h := hear (replyCoding s v g.step x) x.latch x.range (samplesBefore x offset before) (lead ++ sof)
      let s := (s.cancel (.close v)).cancel (.wtx v)
      let prog := x.prog.setBlock (fun p => match p.wtxFrom with
        | some at_ => { p with wtxSum := p.wtxSum + (x.ref + offset - at_), wtxFrom := none }
        | none => p)
      let s := s.setExchange v { x with
        air := .receiving, prog := prog, opened := offset, acq := h.steps, phase := h.phase, noise := h.noise,
        shortNoise := decide (len < 800), rx := h.rx }
      done (s.countWindow (calKey 4 (0x100 + v.val)) h.count)
  | _, _ => done s

/-- RESPONSE_WINDOW_CLOSE (R111): no reply start has come. -/
def execResponseWindowClose (v : VoiceId) (s : State) : Result :=
  match s.voices[v].grant, s.voices[v].exchange with
  | some g, some x =>
    if x.air = .open ∧ s.isDue (.close v) = true then done (s.shutWindow v g.step x 2 (s.closesAt v g.step x)) else done s
  | _, _ => done s

/-! ### Reply frames -/

/-- A qualifying frame of a PRESENT entry (R213): the first one sets its anchor, each later one contributes its deviation. -/
def State.anchorFrame (s : State) (ch h phase : Nat) : State :=
  if !s.tags.any (fun p => p.1 == h && p.2.state == 1 && p.2.channel == ch) then s
  else match s.cal.anchors.find? (fun a => a.1 == h) with
    | none => { s with cal := { s.cal with anchors := (h, phase) :: s.cal.anchors } }
    | some a =>
      let t := s.track ch
      s.setTrack ch { t with sum := t.sum + toSigned 8 (phase + 256 - a.2), count := t.count + 1 }

/-- The entry that a frame comes from: the one the step names, or the one an inventory has just found. -/
def frameHandle (d : DueStep) (before after : List Nat) : Option Nat :=
  if byteAt d.record 0 ≤ 3 then (if before.length < after.length then after.head? else none)
  else if u16At d.record 12 = 0xFFFF then none else some (u16At d.record 12)

/-- What every received frame leaves in the objects of its channel and voice (R92, R98, Tables 4-5 and 4-6). The events of R92 come in the
step that ends the frame, as spec/95 has them. -/
def State.countFrame (s : State) (v : VoiceId) (g : Grant) (r : CellRun) : State :=
  let d := g.step
  let i := 0x2200 + d.channel
  let s := s.inc (ob i 0x06)
  let s := if r.clipped then s.inc (ob i 0x07) else s
  let s := s.add (ob i 0x08) r.changes
  let s := if r.locked then (s.inc (ob (0x2280 + v.val) 0x09)).voiceEvent v 9 [d.tenant] d.channel g.drive else s
  if r.clipped then s.voiceEvent v 10 [d.tenant] d.channel g.drive else s

/-- A frame judged by the checks and the sequencer: its status is counted (Table 5-8), and an accepted one, whose status is OK after both,
leaves its end range, its quality record and its stamp (R93, Table 4-5). -/
def State.judged (s : State) (v : VoiceId) (ch : Nat) (x : Exchange) (range : Nat) : State :=
  let i := 0x2200 + ch
  let s := s.countStatus v x.status
  if x.status = 0 then s.wrAll [(ob i 0x03, range), (ob i 0x04, leNat x.quality), (ob i 0x05, x.stamp)] else s

/-- When a frame being received ends, counted from its cells and delimiters. -/
def State.replyEnd (s : State) (v : VoiceId) (d : DueStep) (x : Exchange) (frame : TagFrame) (whole : Bool) : Nat :=
  x.ref + x.opened + replyLength x.frame d.settings.mode (s.rates v d).2 frame.delims frame.cells.length whole

/-- The cells of a frame being received decided. -/
def State.decoding (s : State) (v : VoiceId) (d : DueStep) (x : Exchange) (frame : TagFrame) : Decoding :=
  decode (replyCoding s v d x) x.rx x.latch x.range (x.range - x.acq) frame.cells

/-- REPLY_FRAME_END (R86, R89 to R94, R107, R112, R115 to R119, R128, R171): the frame is decided and judged, its quality recorded, and the
sequencer goes on. -/
def execReplyFrameEnd (v : VoiceId) (frame : TagFrame) (s : State) : Result :=
  match s.voices[v].grant, s.voices[v].exchange with
  | some g, some x =>
    let d := g.step
    let dec := s.decoding v d x frame
    let endAt := s.replyEnd v d x frame dec.truncated.isNone
    if x.air ≠ .receiving ∨ 100 * (s.now + 1) ≤ endAt then done s
    else
      let r := dec.run
      let reply := dec.reply x.frame (s.rates v d).2 frame.delims
      let st := frameStatus x.frame.expect x.frame.typeB reply
      let q := qualityRecord x dec (!x.frame.typeB && reply.collision.isSome)
      let t := d.tenant
      let x := { x with
        air := .none, status := st.1, detail := st.2, stamp := endAt / 100, gap := endAt + replyGap x.frame, quality := q,
        marginOk := if st.1 = 0 then
          marginMet q (s.rd (obT 0x3100 0x01 t)) (s.rd (obT 0x3100 0x02 t)) (s.rdInt (obT 0x3100 0x03 t)) && !g.limited
          else x.marginOk }
      let s := (s.countFrame v g r).setExchange v x
      let s := (s.countWindow (calKey 3 d.channel) 1).countWindow (calKey 5 (0x100 + v.val)) r.changes
      let s := s.receivePoint v
      let turn := react s v d x reply.bytes reply.bits
      let turn := (turn.1.judged v d.channel { turn.2.1 with quality := q, stamp := x.stamp } r.range, turn.2)
      let clean := (byteAt q 14 &&& 0x2F) == 0 && st.1 == 0 && s.isOn (ob (0x6100 + d.channel) 0x07) && !s.referenceRuns d.channel
      let s := match clean, frameHandle d x.refreshed turn.2.1.refreshed with
        | true, some h => turn.1.anchorFrame d.channel h x.phase
        | _, _ => turn.1
      done (State.took v (s, turn.2))
  | _, _ => done s

/-- WTX_BUDGET_EXPIRED (R122): S(DESELECT) at the instant the budget runs out, or at the end of a retry's frame then on air. -/
def execWtxBudgetExpired (v : VoiceId) (s : State) : Result :=
  match s.voices[v].grant, s.voices[v].exchange with
  | some g, some x =>
    match x.prog.blockEx with
    | some p =>
      if (x.air = .open ∨ x.air = .windowWait ∨ x.air = .ready) ∧ s.isDue (.wtx v) = true then
        let s := ((s.cancel (.wtx v)).cancel (.close v)).cancel (.windowOpen v)
        let x := { x with air := .none, status := 0x0D, detail := min 255 p.wtxN, stamp := s.now, gap := max x.gap (100 * s.now) }
        let s := (s.setExchange v x).receivePoint v
        done (State.took v (deselect s v g.step x ⟨0, 0x0D, min 255 p.wtxN, []⟩))
      else done s
    | none => done s
  | _, _ => done s

/-! ### Card detection (R135, R136) -/

/-- A detector event: the probe's amplitude and the baseline, to the channel's tenant or T0. -/
def State.cardEvent (s : State) (ch k a b : Nat) : State :=
  s.channelEvent ch k [(s.channelTenant ch).getD t0] (u16 a ++ u16 b)

/-- A probe judged (R136). (DEDUCED, log entry 36.) -/
def State.judgeProbe (s : State) (ch a : Nat) : State :=
  let i := 0x2500 + ch
  let b := s.rd (ob i 0x04)
  let th := s.rd (ob i 0x03)
  let drop : Int := (b : Int) - (a : Int)
  if s.rd (ob i 0x06) = 2 ∨ b = 0 then s.wrAll [(ob i 0x04, a), (ob i 0x06, 0)]
  else if s.rd (ob i 0x06) = 1 then
    if drop * 2000 < (th : Int) * b then ((s.wr (ob i 0x06) 0).wakeBy 6).cardEvent ch 6 a b else s
  else if (th : Int) * b ≤ drop * 1000 then ((s.wr (ob i 0x06) 1).wakeBy 6).cardEvent ch 0 a b
  else s.wr (ob i 0x04) ((b : Int) + truncDiv ((a : Int) - (b : Int)) (2 ^ s.rd (ob i 0x05))).toNat

/-- CARD_PROBE (R55, R135, R136): the detection interval has expired; a paused detector makes no probe, and one whose group is being probed
waits for the end of that probe. -/
def execCardProbe (ch : Channel) (amplitude : Nat) (s : State) : Result :=
  let i := 0x2500 + ch.val
  let v := voiceOf ch.val
  if s.isOn (ob i 0x01) && s.isDue (.probe ch) && s.linkReady .field then
    if s.detBlocked ch.val then done ((s.armIn (.probe ch) (s.rd (ob i 0x02) * 1000)).wr (ob i 0x06) 2)
    else if s.now < s.voices[v].probeEnd then done (s.arm (.probe ch) s.voices[v].probeEnd)
    else
      let a := amplitude % 65536
      let s := (s.armIn (.probe ch) (s.rd (ob i 0x02) * 1000)).setVoice v (fun x => { x with probeEnd := s.now + 10 })
      done ((s.judgeProbe ch.val a).wr (ob i 0x07) a)
  else done s

/-- The effect of a write to 0x25nn.01 and .02: detection begins with a fresh baseline, or stops. -/
def State.detectWrite (s : State) (ch sub v : Nat) : State :=
  let i := 0x2500 + ch
  let tm := Timer.probe ⟨ch % 64, Nat.mod_lt _ (by decide)⟩
  if sub = 1 then
    if v = 0 then (s.wrAll [(ob i 0x01, 0), (ob i 0x06, 0)]).cancel tm
    else if s.isOn (ob i 0x01) then s
    else
      let s := s.wrAll [(ob i 0x01, 1), (ob i 0x04, 0), (ob i 0x06, 0)]
      let s := if s.detBlocked ch then s.wr (ob i 0x06) 2 else s
      s.armIn tm (s.rd (ob i 0x02) * 1000)
  else s.wr (ob i sub) v

/-! ### The crypto engine's part (R185, R189, R197) -/

/-- A finished AUTH job: its verdict, or nothing where the step has ended. -/
def State.authJobDone (s : State) (v : VoiceId) : State :=
  match s.voices[v].grant, s.voices[v].exchange with
  | some g, some x =>
    (match x.prog with
     | .authCrypto stage c reply => if x.air = .crypto then State.took v (authVerdict s v g.step x stage c reply) else s
     | _ => s)
  | _, _ => s

/-- KEY_SUSPENSION_END (R189). -/
def execKeySuspensionEnd (slot : Nat) (s : State) : Result :=
  if s.isDue (.suspension slot) then
    let s := s.cancel (.suspension slot)
    if s.rd (ob (0x9100 + slot) 0x02) = 2 then done (s.wrAll [(ob (0x9100 + slot) 0x02, 1), (ob (0x9100 + slot) 0x05, 0)]) else done s
  else done s

end Sys2Proof.Machine
end

