-- ==== Sys2Proof/Machine/LineOps.lean ====
section
/-! DEFINITION. The Garlys Line's shared operations (chapter 11): frames out and in (R312 to R315), a member's buffers (R316), reports
(R319), the head's exchanges (R317, R318), its search (R326 to R330), and what a received DATA frame brings. -/

namespace Sys2Proof.Machine

/-! ### Roles -/

/-- Whether the node is the line head. -/
def State.head (s : State) : Bool := s.rd (ob 0x1010 0x04) == 1

/-- Whether the line die runs as a member. -/
def State.member (s : State) : Bool := !s.head && s.links[Die.line.link].up

/-- Whether the head drives the line. -/
def State.driving (s : State) : Bool := s.head && s.line.driver && s.links[Die.line.link].up

/-- The node's line address, 0xFF for none. -/
def State.lineAddr (s : State) : Nat := s.rd (ob 0x5000 0x01)

/-- The line state (Table 11-8). -/
def State.lineState (s : State) : Nat := s.rd (ob 0x5000 0x03)

/-- The line state set. -/
def State.setLine (s : State) (n : Nat) : State := s.wr (ob 0x5000 0x03) n

/-- The rate in use. -/
def State.lineRate (s : State) : Nat := if s.head then s.line.rate else s.rd (ob 0x5000 0x04)

/-! ### Frames in (R313) -/

/-- A frame of one type that passed the checks of R313, or the discard counted. A frame of another type than its command's is
not the command's and changes nothing. -/
def State.lineIn (s : State) (f : LineIn) (type : Nat) : State ⊕ (Nat × Nat × Nat × Bool × Octets × State) :=
  match checkLine f with
  | .framing => .inl (s.inc (ob 0x5030 0x04))
  | .crc => .inl (s.inc (ob 0x5030 0x03))
  | .good dst src ty seq reply payload =>
    if ty ≠ type then .inl s
    else .inr (dst, src, seq, reply, payload, s.inc (ob 0x5030 0x02))

/-- A frame of the head as a member decodes it: its rate is recognised, and it counts toward the address hold (R309, R321). -/
def State.decodedHead (s : State) (f : LineIn) : State :=
  ({ s with line := { s.line with decoded := true } } : State).wr (ob 0x5000 0x04) f.rate

/-- A frame for this member: at its address, at 0xFE while unaddressed, or broadcast (R304). -/
def State.lineForMe (s : State) (dst : Nat) : Bool :=
  dst == 0xFF || (dst != 0xFE && dst == s.lineAddr) || (dst == 0xFE && s.lineAddr == 0xFF)

/-! ### Frames out -/

/-- A member's reply owed: it begins 3 cells after the frame (R314). An empty one is a pulse. -/
def State.oweReply (s : State) (b : Octets) : State :=
  ({ s with line := { s.line with reply := some b } } : State).armIn .lineReply (cellsUs s.lineRate 3)

/-- The next sequence number toward a peer. -/
def State.nextLineSeq (s : State) (peer : Nat) : Nat := Tab.get (fun _ => 0) s.line.nextSeq peer

/-- A sequence number used up. -/
def State.bumpSeq (s : State) (peer : Nat) : State :=
  { s with line := { s.line with nextSeq := Tab.set (fun _ => 0) s.line.nextSeq peer ((s.nextLineSeq peer + 1) % 8) } }

/-- A frame of the head put on the line 4 cells from now, with its reply window where it asks for a reply (R314). (DEDUCED, log entry 46.) -/
def State.headSend (s : State) (dst type seq : Nat) (ask : Option LineAsk) (payload : Octets) (src : Nat) : State :=
  let b := lineFrame dst src type seq ask.isSome payload
  let s : State := { s with line := { s.line with sent := b, ask := ask } }
  let s := s.inc (ob 0x5030 0x01)
  if ask.isSome then s.armIn .lineWindow (cellsUs s.lineRate (4 + lineCells b.length + 8)) else s.cancel .lineWindow

/-! ### Reports and replies (R319, R395) -/

/-- Data capacity of a report unit on the line. -/
def lineCapacity : Nat := 90

/-- A line transmission's end reported (R332, R333). -/
def State.lineFailed (s : State) (t : Option Tenant) (status detail dest : Nat) : State :=
  if status = 0 then s else s.raise 1040 (andT0 t) (u8 status ++ u8 detail ++ u8 dest)

/-- A reset that waits for the reply that a DATA frame carries need wait no longer (R518). -/
def State.lineAnswered (s : State) (m : LineMsg) : State := match m.answers with | some id => s.replyOut id | none => s

/-- A DATA frame ended without acknowledgement. -/
def State.lineLost (s : State) (m : LineMsg) (status tries : Nat) : State := (s.lineAnswered m).lineFailed m.tenant status tries m.dest

/-- Whether a report of a tenant waits on the line already. -/
def State.lineReporting (s : State) (t : Tenant) : Bool :=
  (s.line.queue ++ s.line.outBuf.toList).any (fun m => match m.report with | some (u, _) => u == t | none => false)

/-- A report unit of a tenant as a DATA frame. -/
def State.lineReport (s : State) (t : Tenant) (q : QEvent) (off : Nat) : LineMsg × State :=
  let coll := s.rd (obT 0x1034 0x02 t)
  let seq := q.seq.getD 0
  let (e, s) := (s.touch t seq).sealReport t coll (reportUnit q off lineCapacity)
  let n := s.nextLineSeq coll
  ({ dest := coll, src := s.lineAddr, payload := u8 1 ++ e, seq := n, tries := 0
     report := some (t, seq, off, decide (q.data.length ≤ off + lineCapacity)), tenant := some t, answers := none }, s.bumpSeq coll)

/-- The report whose event is the oldest among the tenants that may report on the line. -/
def State.nextLineReport (s : State) : Option (Tenant × QEvent) :=
  tenants.foldl (fun (b : Option (Tenant × QEvent)) t =>
    if !s.mayReport t || s.lineReporting t then b
    else match s.routeEvent t 1, b with
      | none, b => b
      | some q, none => some (t, q)
      | some q, some (u, r) => if q.stamp < r.stamp then some (t, q) else some (u, r)) none

/-- The reports abandoned that wait for the line and whose events are no longer queued (R478). -/
def State.dropUnqueued (s : State) : State :=
  { s with line := { s.line with queue := s.line.queue.filter (fun m => match m.report with
      | some (t, seq, _) => s.router.boxes[t].queue.any (fun q => q.seq == some seq)
      | none => true) } }

/-- The outgoing buffer of a member filled by its conductor (R316): replies in arrival order, then reports. -/
def State.fillLine (s : State) : State :=
  let s := s.dropUnqueued
  if !s.up || !s.lineUp || s.line.outBuf.isSome then s
  else match s.line.queue with
    | m :: l => { s with line := { s.line with outBuf := some m, queue := l } }
    | [] =>
      let s := s.reserveReports
      match s.nextLineReport with
      | none => s
      | some (t, q) =>
        let (m, s) := s.lineReport t q 0
        { s with line := { s.line with outBuf := some m } }

/-- A DATA frame of this node acknowledged: a report's next unit follows, or its event is accepted by the LINE route. -/
def State.lineSent (s : State) (m : LineMsg) : State × Option LineMsg :=
  match m.report with
  | none => (s.lineAnswered m, none)
  | some (t, seq, off, last) =>
    if last then (s.accept t seq 1, none)
    else match s.router.boxes[t].queue.find? (fun q => q.seq == some seq) with
      | some q =>
        if s.mayReport t then
          let (m', s) := s.lineReport t q (off + lineCapacity)
          (s, some m')
        else (s, none)
      | none => (s, none)

/-! ### What a DATA frame brings -/

/-- The position that the head gives a member (R331): a WRITE of 0x5000.05 from address 0x00. -/
def positionWrite (src : Nat) (payload : Octets) : Option Nat :=
  if src = 0 ∧ byteAt payload 0 = 2 then
    match parseOp (byteAt payload 1) (payload.drop 4) with
    | .write 0x5000 0x05 0 [v] => some v.toNat
    | _ => none
  else none

/-- A DATA payload for this node taken by its conductor. (DEDUCED, log entry 46.) -/
def State.lineTake (s : State) (src : Nat) (payload : Octets) : State :=
  match positionWrite src payload with
  | some v => s.wr (ob 0x5000 0x05) v
  | none =>
    if byteAt payload 0 ≠ 2 then s
    else match openEnvelope (payload.drop 1) with
      | none => s
      | some (t, c, unit, mac) =>
        match tenant? t with
        | none => s
        | some t => { s with svc := { s.svc with
            inbound := s.svc.inbound ++
            [{ transport := .line, peer := src, tenant := t, counter := c, mac := mac, unit := unit }] } }

/-- The incoming buffer emptied by a running conductor (R316). -/
def State.drainLine (s : State) : State :=
  match s.line.inBuf with
  | none => s
  | some (src, p) => if s.up && s.linkReady .line then ({ s with line := { s.line with inBuf := none } } : State).lineTake src p else s

/-- A DATA frame accepted into the incoming buffer wakes the part (R316). -/
def State.lineDeliver (s : State) (src : Nat) (payload : Octets) : State :=
  (({ s with line := { s.line with inBuf := some (src, payload) } } : State).wakeBy 3).drainLine

/-- Whether a DATA frame repeats the last one accepted from its sender (R315). -/
def State.lineDup (s : State) (src seq : Nat) : Bool := s.line.lastSeq.any (fun p => p.1 == src && p.2 == seq)

/-- The last sequence number accepted from a sender. -/
def State.noteSeq (s : State) (src seq : Nat) : State :=
  { s with line := { s.line with lastSeq := (src, seq) :: s.line.lastSeq.filter (fun p => p.1 != src) } }

/-! ### The head's exchanges (R317, R318, R324) -/

/-- A node table entry. -/
def State.node (s : State) (a : Nat) : Option Node := (s.line.table.find? (fun p => p.1 == a)).map Prod.snd

/-- A node table entry changed. -/
def State.setNode (s : State) (a : Nat) (f : Node → Node) : State :=
  { s with line := { s.line with table := s.line.table.map (fun p => if p.1 = a then (p.1, f p.2) else p) } }

/-- Data of a node's event. -/
def State.nodeData (s : State) (a : Nat) : Octets := u8 a ++ u64 (match s.node a with | some n => n.ident | none => 0)

/-- The addresses of a cycle: every entry not VANISHED, none beyond an isolated member (R317, R324). -/
def State.cycleOf (s : State) : List Nat :=
  let limit := match s.line.isolated.bind s.node with | some n => n.pos | none => 0
  ((s.line.table.filter (fun p => p.2.state != 3 && (limit == 0 || p.2.pos == 0 || decide (p.2.pos ≤ limit)))).map Prod.fst).mergeSort

/-- A search begun (R326, R327). -/
def State.startSearch (s : State) : State :=
  let n := (s.line.number + 1) % 256
  let s : State := { s with line := { s.line with
    wanted := false, presence := false, number := n, search := some { number := n, stack := [(0, 0)], passes := 0, assigned := false } } }
  ((s.headSend 0xFF 7 0 none (u8 n) 0).inc (ob 0x5030 0x07)).raise 1028 [t0] []

/-- The head's next exchange: its commands, then the cycle, each member's DATA before its POLL; after the cycle a search that is
wanted. -/
def State.lineNext (s : State) : State :=
  if s.line.ask.isSome || !s.driving || s.line.search.isSome then s
  else match s.line.cmds with
    | (0xD, a) :: l => ({ s with line := { s.line with cmds := l } } : State).headSend a 0xD 0 (some (.isolate a)) [] 0
    | (c, a) :: l =>
      ({ s with line := { s.line with cmds := l, isolated := if s.line.isolated = some a then none else s.line.isolated } } : State).headSend a c 0 none [] 0
    | [] =>
      match s.line.cycle with
      | a :: l =>
        let s := s.dropUnqueued
        match s.line.queue.find? (fun m => m.dest == a) with
        | some m =>
          if s.line.skipData then
            ({ s with line := { s.line with cycle := l, skipData := false } } : State).headSend a 0 0 (some (.poll a)) [] 0
          else s.headSend a 2 m.seq (some (.data m)) m.payload m.src
        | none => ({ s with line := { s.line with cycle := l, skipData := false } } : State).headSend a 0 0 (some (.poll a)) [] 0
      | [] =>
        let s : State := { s with line := { s.line with inCycle := false } }
        if s.line.wanted then s.startSearch else s

/-- The reply window closed by a reply. -/
def State.answered (s : State) : State := ({ s with line := { s.line with ask := none } } : State).cancel .lineWindow

/-- A member has answered (R318). -/
def State.nodeHeard (s : State) (a : Nat) : State :=
  let was := match s.node a with | some n => n.state | none => 1
  let s := s.setNode a (fun n => { n with state := 1, misses := 0, heard := s.now })
  if was = 2 then s.raise 1033 [t0] (s.nodeData a) else s

/-- A poll missed (R318). -/
def State.nodeMissed (s : State) (a : Nat) : State :=
  match s.node a with
  | none => s
  | some n =>
    let m := satInc 255 n.misses
    let gone := n.state == 1 && decide (s.rd (ob 0x5020 0x05) ≤ m)
    let s := s.setNode a (fun n => { n with misses := m, state := if gone then 2 else n.state })
    if gone then s.raise 1032 [t0] (s.nodeData a) else s

/-- A DATA frame of the head not acknowledged: sent again at the next exchange, or NO_ACK after three attempts (R315). -/
def State.headUnacked (s : State) (m : LineMsg) : State :=
  let s : State := { s with line := { s.line with skipData := true } }
  if 2 ≤ m.tries then
    (({ s with line := { s.line with queue := s.line.queue.erase m } } : State).lineLost m 2 (m.tries + 1))
  else { s with line := { s.line with queue := s.line.queue.map (fun x => if x = m then { x with tries := x.tries + 1 } else x) } }

/-! ### The head's search (R329, R330) -/

/-- The end of a search (R326, R330, R331). -/
def State.endSearch (s : State) (x : Search) : State :=
  let s : State := { s with line := { s.line with
    search := none, presence := true, walk := s.line.walk || (x.assigned && s.isOn (ob 0x5020 0x08)) } }
  ((s.headSend 0xFF 9 0 none (u8 x.number) 0).raise 1029 [t0] []).lineNext

/-- After a path: the search goes on, or ends with an empty stack or at the pass limit. (DEDUCED, log entry 47.) -/
def State.searchOn (s : State) : State :=
  match s.line.search with
  | none => s
  | some x => if x.stack.isEmpty || decide (s.rd (ob 0x5020 0x0B) ≤ x.passes) then s.endSearch x else s

/-- A path lost (R329), with the address and identity as far as they are known (Table 17-3). -/
def State.vanished (s : State) (a ident : Nat) : State := (s.inc (ob 0x5030 0x08)).raise 1031 [t0] (u8 a ++ u64 ident)

/-- The triplets of a pass from bit `i` (R329): the identity named, if any, and the branches pushed, newest first. (DEDUCED, log entry 47.) -/
def triplets (i p : Nat) : Nat → List (Bool × Bool) → List (Nat × Nat) → Option Nat × List (Nat × Nat)
  | 0, _, st => (some p, st)
  | n + 1, samples, st =>
    match samples with
    | (true, false) :: l => triplets (i + 1) p n l st
    | (false, true) :: l => triplets (i + 1) (p + 2 ^ i) n l st
    | (true, true) :: l => triplets (i + 1) p n l ((i + 1, p + 2 ^ i) :: st)
    | _ => (none, st)

/-- The address a found identity gets: its entry's, else the lowest free one (R329). -/
def State.nodeFor (s : State) (ident : Nat) : Option Nat :=
  match s.line.table.find? (fun p => p.2.ident == ident) with
  | some p => some p.1
  | none => ((List.range 31).map (· + 1)).find? (fun a => (s.node a).isNone)

/-- ASSIGN sent to a found member (R329). -/
def State.sendAssign (s : State) (ident a tries : Nat) : State :=
  s.headSend 0xFE 0xA 0 (some (.assign ident a tries)) (u64 ident ++ u8 a) 0

/-- The member's ACK of its ASSIGN (R329). -/
def State.nodeAssigned (s : State) (ident a : Nat) : State :=
  let n : Node := match s.node a with
    | some n => { n with state := 1, misses := 0, heard := s.now }
    | none => { state := 1, ident := ident, pos := 0, misses := 0, heard := s.now }
  let s : State := { s with line := { s.line with
    table := (a, n) :: s.line.table.filter (fun p => p.1 != a)
    search := s.line.search.map (fun x => { x with assigned := true }) } }
  ((s.commit (.own [])).raise 1030 [t0] (u8 a ++ u64 ident)).searchOn

/-- ASSIGN without ACK: sent once more, then the path counts as VANISHED (R329). -/
def State.assignFailed (s : State) (ident a tries : Nat) : State :=
  if tries = 0 then s.sendAssign ident a 1
  else ((s.setNode a (fun n => if n.ident = ident then { n with state := 3 } else n)).vanished a ident).searchOn

end Sys2Proof.Machine
end

