-- ==== Sys2Proof/Machine/Line.lean ====
section
/-! DEFINITION. The Garlys Line's commands (chapter 11): the head's cycle and windows, a member's replies, time, presence and search,
the walk, isolation, conflicts and overcurrent. -/

namespace Sys2Proof.Machine

/-! ### The head's cycle and windows -/

/-- HEAD_POLL_CYCLE (R317, R339): a due cycle begins once the last one is over, at the rate then set. -/
def execHeadPollCycle (s : State) : Result :=
  if s.driving && s.isDue .linePoll && !s.line.inCycle && s.line.ask.isNone && s.line.search.isNone then
    let s : State := { s with line := { s.line with
      rate := s.rd (ob 0x5020 0x01), cycle := s.cycleOf, inCycle := true, skipData := false } }
    let s := s.armIn .linePoll (s.rd (ob 0x5020 0x03))
    let s := s.reserveReports
    let s := match s.nextLineReport with
      | some (t, q) =>
        let (m, s) := s.lineReport t q 0
        ({ s with line := { s.line with queue := s.line.queue ++ [m] } } : State)
      | none => s
    done s.lineNext
  else done s

/-- LINE_REPLY_DUE (R314 to R316): the member's reply, or its pulse. -/
def execLineReplyDue (s : State) : Result :=
  match s.line.reply with
  | none => done s
  | some b =>
    if s.member && s.isDue .lineReply then
      let s : State := { s.cancel .lineReply with line := { s.line with reply := none, sent := b, pulse := if b = [] then some 0 else s.line.pulse } }
      let s := if b = [] then s else s.inc (ob 0x5030 0x01)
      let s : State := if byteAt b 2 % 16 = 2 then
          { s with line := { s.line with outBuf := s.line.outBuf.map (fun m => { m with tries := m.tries + 1 }) } }
        else s
      done s
    else done s

/-- LINE_REPLY_WINDOW_CLOSE (R314, R315, R318, R326, R329): NO_REPLY. -/
def execLineReplyWindowClose (s : State) : Result :=
  match s.line.ask with
  | none => done s
  | some a =>
    if !s.isDue .lineWindow then done s
    else
      let s := s.answered.inc (ob 0x5030 0x05)
      match a with
      | .poll a => done (s.nodeMissed a).lineNext
      | .data m => done (s.headUnacked m).lineNext
      | .isolate a => done (s.lineFailed none 1 1 a).lineNext
      | .presence => done s.lineNext
      | .assign i a t => done (s.assignFailed i a t)

/-! ### DATA and its answers (R315, R317) -/

/-- LINE_POLL_RECEIVED (R315, R316, R321, R335): DATA from the outgoing buffer, or EMPTY. -/
def execLinePollReceived (frame : LineIn) (s : State) : Result :=
  match s.lineIn frame 0 with
  | .inl s => done s
  | .inr (dst, _, _, _, _, s) =>
    if !s.member then done s
    else
      let s := s.decodedHead frame
      let s : State := { s with line := { s.line with part := none, passing := false } }
      let s := if s.lineState = 2 then s.setLine 1 else s
      if dst ≠ s.lineAddr ∨ s.lineAddr = 0xFF then done s
      else
        let s := (s.wr (ob 0x5000 0x06) s.now).armIn .addressHold (s.rd (ob 0x5010 0x03))
        let s : State := { s with line := { s.line with decoded := false } }
        let s := match s.line.outBuf with
          | some m => if 3 ≤ m.tries then ({ s with line := { s.line with outBuf := none } } : State).lineLost m 2 m.tries else s
          | none => s
        let s := s.fillLine
        match s.line.outBuf with
        | some m => done (s.oweReply (lineFrame m.dest m.src 2 m.seq true m.payload))
        | none => done (s.oweReply (lineFrame 0 s.lineAddr 1 0 false []))

/-- LINE_EMPTY_RECEIVED (R315, R318). -/
def execLineEmptyReceived (frame : LineIn) (s : State) : Result :=
  match s.lineIn frame 1 with
  | .inl s => done s
  | .inr (_, src, _, _, _, s) =>
    if s.driving ∧ s.line.ask = some (.poll src) then done ((s.answered.nodeHeard src).lineNext) else done s

/-- DATA at the head (R315, R317): acknowledged or refused, and delivered or queued for another member. -/
def State.headData (s : State) (dst src seq : Nat) (payload : Octets) : State :=
  let s := s.answered.nodeHeard src
  if s.lineDup src seq then ((s.inc (ob 0x5030 0x06)).headSend src 3 seq none [] 0).lineNext
  else if dst = 0 then
    if s.line.inBuf.isSome then (s.headSend src 4 seq none [] 0).lineNext
    else (((s.headSend src 3 seq none [] 0).noteSeq src seq).lineDeliver src payload).lineNext
  else
    let m : LineMsg := { dest := dst, src := src, payload := payload, seq := s.nextLineSeq dst, tries := 0, report := none, tenant := none, answers := none }
    let s := (s.bumpSeq dst).headSend src 3 seq none [] 0
    (({ s with line := { s.line with queue := s.line.queue ++ [m] } } : State).noteSeq src seq).lineNext

/-- LINE_DATA_RECEIVED (R315, R316, R317). -/
def execLineDataReceived (frame : LineIn) (s : State) : Result :=
  match s.lineIn frame 2 with
  | .inl s => done s
  | .inr (dst, src, seq, reply, payload, s) =>
    if s.head then
      (match s.line.ask with
       | some (.poll a) => if s.driving then done (s.headData dst a seq payload) else done s
       | _ => done s)
    else if !s.member then done s
    else
      let s := s.decodedHead frame
      if dst ≠ s.lineAddr ∨ s.lineAddr = 0xFF then done s
      else if s.lineDup src seq then
        let s := s.inc (ob 0x5030 0x06)
        done (if reply then s.oweReply (lineFrame 0 s.lineAddr 3 seq false []) else s)
      else if s.line.inBuf.isSome then done (if reply then s.oweReply (lineFrame 0 s.lineAddr 4 seq false []) else s)
      else
        let s := if reply then s.oweReply (lineFrame 0 s.lineAddr 3 seq false []) else s
        done ((s.noteSeq src seq).lineDeliver src payload)

/-- LINE_ACK_RECEIVED (R315, R319, R324, R329). -/
def execLineAckReceived (frame : LineIn) (s : State) : Result :=
  match s.lineIn frame 3 with
  | .inl s => done s
  | .inr (dst, src, seq, _, _, s) =>
    if s.head then
      match s.line.ask with
      | some (.data m) =>
        if s.driving ∧ src = m.dest ∧ seq = m.seq % 8 then
          let s : State := { s.answered with line := { s.answered.line with queue := s.line.queue.erase m } }
          let (s, more) := (s.nodeHeard src).lineSent m
          done ({ s with line := { s.line with queue := s.line.queue ++ more.toList } } : State).lineNext
        else done s
      | some (.isolate a) =>
        if s.driving ∧ src = a then
          let s : State := { s.answered with line := { s.answered.line with isolated := some a } }
          done ({ s with line := { s.line with cycle := s.line.cycle.filter s.cycleOf.contains } } : State).lineNext
        else done s
      | some (.assign i a _) => if s.driving ∧ src = a then done (s.answered.nodeAssigned i a) else done s
      | _ => done s
    else if !s.member then done s
    else
      let s := s.decodedHead frame
      match s.line.outBuf with
      | some m =>
        if dst = s.lineAddr ∧ seq = m.seq % 8 ∧ m.tries ≠ 0 then
          let (s, more) := ({ s with line := { s.line with outBuf := none } } : State).lineSent m
          done ({ s with line := { s.line with outBuf := more } } : State)
        else done s
      | none => done s

/-- LINE_NAK_RECEIVED (R315): the frame is sent again at the next exchange. -/
def execLineNakReceived (frame : LineIn) (s : State) : Result :=
  match s.lineIn frame 4 with
  | .inl s => done s
  | .inr (_, src, seq, _, _, s) =>
    if s.head then
      match s.line.ask with
      | some (.data m) =>
        if s.driving ∧ src = m.dest ∧ seq = m.seq % 8 then done ((s.answered.nodeHeard src).headUnacked m).lineNext else done s
      | _ => done s
    else if s.member then done (s.decodedHead frame)
    else done s

/-! ### Time (R325) -/

/-- The measurement of the line's rate. -/
def State.lineMeasure (s : State) (d n : Nat) : State :=
  let c := s.rdInt (ob 0x1100 0x03)
  let next := fun (s : State) => ({ s with line := { s.line with point := some (d, n, s.rd (ob 0x1100 0x03)) } } : State)
  match s.line.point with
  | none => next s
  | some (d1, n1, c1) =>
    if d < d1 + 600000000 then s
    else
      let dd : Int := (d : Int) - d1
      let m := roundAway (1000000000 * (((n : Int) - n1) - dd)) dd.toNat
      if 200000 < m.natAbs then next ((s.inc (ob 0x5050 0x03)).raise 1036 [t0] [])
      else
        let mean := roundAway (toSigned 32 c1 + c) 2
        next (((s.wrInt (ob 0x5050 0x01) m).inc (ob 0x5050 0x02)).discipline 2 (mean + m))

/-- LINE_TIME_RECEIVED (R325): the stamp is the frame's mark, 8 cells a byte and the end delimiter before now. -/
def execLineTimeReceived (frame : LineIn) (s : State) : Result :=
  match s.lineIn frame 5 with
  | .inl s => done s
  | .inr (dst, _, _, _, payload, s) =>
    if !s.member then done s
    else
      let s := s.decodedHead frame
      if dst ≠ 0xFF ∨ payload.length ≠ 8 then done s
      else
        let d := s.now - cellsUs frame.rate (8 * frame.bytes.length + 2)
        let n := leNat payload
        done ((((s.wr (ob 0x5050 0x04) d).raise 1035 [t0] []).lineMeasure d n).setOffset 3 ((n : Int) - d + s.now))

/-- LINE_TIME_DUE (R325): the frame's mark falls 4 cells of gap and 10 cells of preamble and delimiter from now. -/
def execLineTimeDue (s : State) : Result :=
  if s.driving && s.isDue .lineTime && s.line.ask.isNone && s.line.search.isNone then
    let s := s.armIn .lineTime (s.rd (ob 0x5020 0x06) * 1000000)
    done (s.headSend 0xFF 5 0 none (u64 (s.now + cellsUs s.lineRate 14)) 0)
  else done s

/-! ### Presence and search (R326 to R330) -/

/-- PRESENCE_DUE (R326): after a cycle once the interval has passed, and after each search. -/
def execPresenceDue (s : State) : Result :=
  if s.driving && (s.line.presence || s.isDue .presence) && s.line.ask.isNone && s.line.search.isNone && !s.line.inCycle then
    let s : State := { s with line := { s.line with presence := false } }
    done ((s.headSend 0xFF 6 0 (some .presence) [] 0).armIn .presence (s.rd (ob 0x5020 0x04)))
  else done s

/-- LINE_PRESENCE_RECEIVED (R326): an UNADDRESSED member answers with a pulse. -/
def execLinePresenceReceived (frame : LineIn) (s : State) : Result :=
  match s.lineIn frame 6 with
  | .inl s => done s
  | .inr (_, _, _, _, _, s) =>
    if !s.member then done s
    else
      let s := s.decodedHead frame
      done (if s.lineState = 1 then s.oweReply [] else s)

/-- PRESENCE_SEEN (R326): a search starts. -/
def execPresenceSeen (s : State) : Result :=
  if s.driving ∧ s.line.ask = some .presence then done ((s.answered.raise 1027 [t0] []).startSearch) else done s

/-- SEARCH_START_RECEIVED (R327, R335): an earlier search left without its end is over. -/
def execSearchStartReceived (frame : LineIn) (s : State) : Result :=
  match s.lineIn frame 7 with
  | .inl s => done s
  | .inr (_, _, _, _, payload, s) =>
    if !s.member then done s
    else
      let s := s.decodedHead frame
      let s := if s.lineState = 2 then s.setLine 1 else s
      done (if s.lineState = 1 then
          { s with line := { s.line with part := some (byteAt payload 0), passing := false, lateTold := false } }
        else s)

/-- SEARCH_PASS_RECEIVED (R327, R328): a member of the search that matches the prefix takes part; one that did not decode its start is
LATE. -/
def execSearchPassReceived (frame : LineIn) (s : State) : Result :=
  match s.lineIn frame 8 with
  | .inl s => done s
  | .inr (_, _, _, _, payload, s) =>
    if !s.member then done s
    else
      let s := s.decodedHead frame
      let n := byteAt payload 1
      let p := leNat (slice 2 8 payload)
      if s.lineState = 1 ∧ s.line.part = some (byteAt payload 0) then
        done { s with line := { s.line with passing := s.rd (ob 0x5000 0x02) % 2 ^ n == p % 2 ^ n, passLen := n, passBits := p } }
      else if s.lineState = 1 then
        let s := s.setLine 2
        done (if s.line.lateTold then s else ({ s with line := { s.line with lateTold := true } } : State).raise 1026 [t0] [])
      else done s

/-- HEAD_SEARCH_PASS (R328 to R330): one pass; `samples` are what slots A and B of its triplets showed. -/
def execHeadSearchPass (samples : List (Bool × Bool)) (s : State) : Result :=
  match s.line.search with
  | none => done s
  | some x =>
    match x.stack with
    | [] => done s
    | (n, p) :: l =>
      if !s.driving || s.line.ask.isSome then done s
      else
        let s := s.headSend 0xFF 8 0 none (u8 x.number ++ u8 n ++ u64 p) 0
        let (found, stack) := triplets n p (64 - n) samples l
        let s : State := { s with line := { s.line with search := some { x with stack := stack, passes := x.passes + 1 } } }
        match found with
        | none => done (s.vanished 0 0).searchOn
        | some i =>
          match s.nodeFor i with
          | some a => done (s.sendAssign i a 0)
          | none => done (s.raise 1030 [t0] (u8 0xFF ++ u64 i)).searchOn

/-- SEARCH_END_RECEIVED (R327): LATE members become UNADDRESSED. -/
def execSearchEndReceived (frame : LineIn) (s : State) : Result :=
  match s.lineIn frame 9 with
  | .inl s => done s
  | .inr (_, _, _, _, _, s) =>
    if !s.member then done s
    else
      let s := s.decodedHead frame
      let s : State := { s with line := { s.line with part := none, passing := false, lateTold := false } }
      done (if s.lineState = 2 then s.setLine 1 else s)

/-- ASSIGN_RECEIVED (R329): the named member takes its address, persists it and answers ACK from it. -/
def execAssignReceived (frame : LineIn) (s : State) : Result :=
  match s.lineIn frame 0xA with
  | .inl s => done s
  | .inr (_, _, seq, _, payload, s) =>
    if !s.member then done s
    else
      let s := s.decodedHead frame
      let a := byteAt payload 8
      if leNat (payload.take 8) ≠ s.rd (ob 0x5000 0x02) ∨ payload.length ≠ 9 then done s
      else
        let new := s.lineAddr != a
        let s := if new then (s.wrKeep [(ob 0x5000 0x01, a)]).raise 1024 [t0] [] else s
        let s : State := { s.setLine 3 with line := { s.line with part := none, passing := false } }
        let s := s.armIn .addressHold (s.rd (ob 0x5010 0x03))
        done (s.oweReply (lineFrame 0 a 3 seq false []))

/-! ### The walk (R331) -/

/-- The position a walk shows for an address: one more than its slots with a sink, 0 where the probe saw no sink. -/
def walkPosition (seen : List WalkSeen) (a : Nat) : Nat :=
  match seen.find? (fun w => w.address == a) with
  | some w => if w.sank then 1 + w.slots.eraseDups.length else 0
  | none => 0

/-- HEAD_WALK (R331): every address of the table in ascending order; two members at one position, or one that did not sink, are
unknown. Each member is sent its position. -/
def execHeadWalk (seen : List WalkSeen) (s : State) : Result :=
  if s.driving && s.line.walk && s.line.ask.isNone && s.line.search.isNone && !s.line.inCycle then
    let addrs := (s.line.table.map Prod.fst).mergeSort
    let raw := addrs.map (fun a => (a, walkPosition seen a))
    let pos := raw.map (fun p => (p.1, if (raw.filter (fun q => q.2 == p.2)).length = 1 then p.2 else 0))
    let s : State := { s with line := { s.line with walk := false } }
    let s := addrs.foldl (fun s a => (s.headSend 0xFF 0xB 0 none (u8 a) 0).headSend 0xFF 0xC 0 none (u8 a) 0) s
    let s := pos.foldl (fun (s : State) p =>
      let s := s.setNode p.1 (fun n => { n with pos := p.2 })
      let m : LineMsg := { dest := p.1, src := 0, payload := u8 2 ++ u8 2 ++ u16 0 ++ u16 0x5000 ++ u8 5 ++ u16 0 ++ u8 p.2,
                           seq := s.nextLineSeq p.1, tries := 0, report := none, tenant := none, answers := none }
      let s := s.bumpSeq p.1
      ({ s with line := { s.line with queue := s.line.queue ++ [m] } } : State)) s
    done ((s.commit (.own [])).raise 1034 [t0] [])
  else done s

/-- The step of bypass current that a walk detects, in 0.1 mA (Table 11-3, typical). (DEDUCED, log entry 48.) -/
def walkStep : Nat := 60

/-- WALK_PROBE_RECEIVED (R331): the probed member sinks; the others note a rise of their bypass current, in 0.1 mA. -/
def execWalkProbeReceived (frame : LineIn) (rise : Nat) (s : State) : Result :=
  match s.lineIn frame 0xB with
  | .inl s => done s
  | .inr (_, _, _, _, payload, s) =>
    if !s.member then done s
    else
      let s := s.decodedHead frame
      let x := byteAt payload 0
      if x = s.lineAddr then done { s with line := { s.line with pulse := some 0 } }
      else
        let flags := s.line.flags.filter (· != x)
        done { s with line := { s.line with flags := if walkStep ≤ rise then x :: flags else flags } }

/-- WALK_TALLY_RECEIVED (R331): a member whose flag is set sinks in the slot of its address. -/
def execWalkTallyReceived (frame : LineIn) (s : State) : Result :=
  match s.lineIn frame 0xC with
  | .inl s => done s
  | .inr (_, _, _, _, payload, s) =>
    if !s.member then done s
    else
      let s := s.decodedHead frame
      if s.line.flags.contains (byteAt payload 0) ∧ s.lineAddr ≠ 0xFF then
        done { s with line := { s.line with pulse := some s.lineAddr } }
      else done s

/-! ### Isolation (R324) -/

/-- ISOLATE_RECEIVED (R324): ACK after 3 cells, and 4 cells after its end the bypass opens. -/
def execIsolateReceived (frame : LineIn) (s : State) : Result :=
  match s.lineIn frame 0xD with
  | .inl s => done s
  | .inr (dst, _, seq, _, _, s) =>
    if !s.member then done s
    else
      let s := s.decodedHead frame
      if dst ≠ s.lineAddr ∨ s.lineAddr = 0xFF then done s
      else
        let ack := lineFrame 0 s.lineAddr 3 seq false []
        done ((s.oweReply ack).armIn .bypass (cellsUs s.lineRate (3 + lineCells ack.length + 4)))

/-- BYPASS_OPEN_DUE (R324). -/
def execBypassOpenDue (s : State) : Result :=
  if s.isDue .bypass then done ((((s.cancel .bypass).wr (ob 0x5000 0x07) 1).setLine 4).raise 1039 [t0] []) else done s

/-- A member's bypass closes (R310, R324). -/
def State.closeBypass (s : State) : State :=
  let s := (s.cancel .bypass).wr (ob 0x5000 0x07) 0
  if s.lineState = 4 then s.setLine 3 else s

/-- RECONNECT_RECEIVED (R324). -/
def execReconnectReceived (frame : LineIn) (s : State) : Result :=
  match s.lineIn frame 0xE with
  | .inl s => done s
  | .inr (dst, _, seq, reply, _, s) =>
    if !s.member then done s
    else
      let s := s.decodedHead frame
      if !s.lineForMe dst then done s
      else done (if reply && dst != 0xFF then s.closeBypass.oweReply (lineFrame 0 s.lineAddr 3 seq false []) else s.closeBypass)

/-- ADDRESS_HOLD_EXPIRED (R321): only where head frames were decoded in the hold. -/
def execAddressHoldExpired (s : State) : Result :=
  if s.isDue .addressHold ∧ s.lineAddr ≠ 0xFF ∧ s.member = true then
    if s.line.decoded then
      let s : State := { s.cancel .addressHold with line := { s.line with decoded := false } }
      done ((((s.wrKeep [(ob 0x5000 0x01, 0xFF)]).closeBypass).setLine 1).raise 1025 [t0] [])
    else done (s.armIn .addressHold (s.rd (ob 0x5010 0x03)))
  else done s

/-! ### Conflict and overcurrent (R322, R323) -/

/-- FOREIGN_DIP (R322). -/
def execForeignDip (s : State) : Result :=
  if s.driving then done (((s.raise 1038 [t0] []).fault 80 0).armIn .foreignDip 60000000) else done s

/-- HEAD_CONFLICT_LAPSE (R322). -/
def execHeadConflictLapse (s : State) : Result :=
  if s.isDue .foreignDip then done ((s.cancel .foreignDip).causeEnd 80) else done s

/-- LINE_OVERCURRENT (R323): the driver's current in mA has exceeded the limit for 10,000 µs. -/
def execLineOvercurrent (current : Nat) (s : State) : Result :=
  if s.driving ∧ s.rd (ob 0x5020 0x07) < current then
    let s : State := { s.answered with line := { s.answered.line with driver := false, inCycle := false, cycle := [] } }
    let s := ((s.raise 1037 [t0] []).fault 81 current).cancel .lineOvercurrent
    done (s.armIn .lineOff 1000000)
  else done s

/-- LINE_OFF_HOLD_END (R323): the line rises again. -/
def execLineOffHoldEnd (s : State) : Result :=
  if s.isDue .lineOff then
    let s : State := { s.cancel .lineOff with line := { s.line with driver := s.head } }
    done ((s.armIn .lineOvercurrent 1000000).armIn .linePoll 0)
  else done s

/-- LINE_OVERCURRENT_LAPSE (R323). -/
def execLineOvercurrentLapse (s : State) : Result :=
  if s.isDue .lineOvercurrent then done ((s.cancel .lineOvercurrent).causeEnd 81) else done s

/-! ### The head's objects -/

/-- Status of a write to 0x5020.09 or 0x5020.0C beside its range: only a head has commands and a table. -/
def State.headCheck (s : State) (sub v : Nat) : Nat :=
  when (!s.head || (sub == 0x0C && (s.node v).isNone) ||
    (sub == 9 && (v == 3 || v == 4) && (s.node (s.rd (ob 0x5020 0x0A))).isNone)) sRange

/-- SEARCH_NOW: a search at the next place for one (R330). -/
def State.searchNow (s : State) : State := ({ s with line := { s.line with wanted := true } } : State).lineNext

/-- WALK_NOW (R331). -/
def State.walkNow (s : State) : State := { s with line := { s.line with walk := true } }

/-- ISOLATE or RECONNECT to the command target (R324). (DEDUCED, log entry 48.) -/
def State.bypassCommand (s : State) (type : Nat) : State :=
  ({ s with line := { s.line with cmds := s.line.cmds ++ [(type, s.rd (ob 0x5020 0x0A))] } } : State).lineNext

/-- A node table entry freed (R320). -/
def State.releaseNode (s : State) (a : Nat) : State :=
  ({ s with line := { s.line with
    table := s.line.table.filter (fun p => p.1 != a), cycle := s.line.cycle.filter (· != a) } } : State).commit (.own [])

end Sys2Proof.Machine
end

