-- ==== Sys2Proof/Machine/Mac.lean ====
section
/-! DEFINITION. The mesh MAC's commands (chapter 10): frames out (R281 to R284), frames in (R278), joining (R271 to R275), network time
(R292 to R294), hopping (R285 to R287), the home channel (R288), sleepy partners (R289 to R291) and forwarding (R295). -/

namespace Sys2Proof.Machine

/-! ### Frames out -/

/-- Whether a report goes before the pending frames of its place (R284, R289): always before a POLL, and in turn with replies. -/
def State.reportFirst (s : State) (t : Tenant) : Bool :=
  let off := fun (u : Tenant) => (u.val + 7 - s.mac.turn.val) % 8
  match s.nextOut with
  | none => true
  | some f => decide (f.kind.rank = 6) && (match f.kind.tenant with | some u => decide (off t < off u) | none => true)

/-- A queued report entered as a frame where its turn has come; a pending POLL is then not needed (R289). (DEDUCED, log entry 45.) -/
def State.pickReport (s : State) : State :=
  match s.nextReport with
  | none => s
  | some (t, q) =>
    if s.reportFirst t then
      let s : State := { s with mac := { s.mac with out := s.mac.out.filter (fun o => o.kind != .poll) } }
      s.sendReport t q 0
    else s

/-- Why a frame cannot go out now: MAC status and detail (R277, R286, R296); OK where it can. -/
def State.macBlock (s : State) (f : OutFrame) : Nat × Nat :=
  let k := s.netIndex
  if s.joinState = 4 then (9, 0)
  else if s.joinState ≠ 3 ∧ s.joinState ≠ 5 ∧ f.kind ≠ .join then (3, 0)
  else if 255 < s.psdu f then (7, 0)
  else if f.numbers = none ∧ 0xFFFFFFFF ≤ s.outCounter k then (8, k)
  else if s.airState = 8 then (0x0D, 2)
  else (0, 0)

/-- A frame taken off the list. -/
def State.takeOut (s : State) (f : OutFrame) : State :=
  { s with mac := { s.mac with out := s.mac.out.erase f } }

/-- A frame's procedure of R281 begun. -/
def State.csmaOf (s : State) (f : OutFrame) : Csma :=
  { frame := f, attempt := 0, nb := 0, be := s.rd (ob 0x4100 0x0A), stage := .listen }

/-- MAC_FRAME_SEND (R281, R284): the next pending frame begins; a frame that cannot go out ends at once. The air die is started first. -/
def execMacFrameSend (s : State) : Result :=
  let s := s.dropStale
  if s.mac.csma.isSome ∨ s.mac.ack.isSome ∨ s.power.shedding = true ∨ s.airServes = false ∨ s.linkReady .air = false then done s
  else if s.mac.out.isEmpty && s.nextReport.isNone then done s.sleepIdle
  else if s.airState = 0 then done s.airStart
  else if s.airState = 1 then done s
  else
    let s := (s.reserveReports).pickReport
    match s.nextOut with
    | none => done s
    | some f =>
      let (st, d) := s.macBlock f
      if st ≠ 0 then
        let s := (s.takeOut f).setCsma (s.csmaOf f)
        let s := s.endFrame st d
        done (if st = 8 then s.faultKeyed 65 t0 d d else s)
      else match f.numbers with
        | some _ => done ((s.takeOut f).listenStart (s.csmaOf f))
        | none =>
          match s.number with
          | (none, s') => done s'
          | (some n, s') => done ((s'.takeOut f).listenStart (s'.csmaOf { f with numbers := some n }))

/-- The payload that is to go on air: a TIME message not sent before is made up anew; it takes its instant with the up-ramp (R268, R292). -/
def State.stamped (s : State) (c : Csma) : Octets :=
  if byteAt c.frame.payload 0 = 2 ∧ c.frame.psdu = [] then s.timeMessage s.now else c.frame.payload

/-- Duration of the exchange of a frame in µs, its Imm-Ack included (R286). -/
def State.exchangeUs (s : State) (c : Csma) : Nat :=
  s.onSequence s.workChannel + 16 + s.frameUs (s.psdu c.frame) + (if c.frame.broadcast then 0 else 1000 + s.frameUs 7)

/-- The request that a clear listen makes of the air die. -/
def State.dataRequest (s : State) (c : Csma) : TxReq :=
  let k := s.workChannel
  let t := c.frame.kind.tenant
  { use := .data, tenant := t.getD t0, quota := t.isSome, index := k, mode := s.opMode, power := 0,
    time := s.frameUs (s.psdu c.frame), listen := if (s.lbtOf k).2.2.1 then some s.now else none, hop := false, path := 0, code := 0,
    out := 0, on := 0 }

/-- LBT_LISTEN_END (R243, R281, R286): the highest converter power over the listen and the on-die LNA gain, both in 0.25 dB; the
attenuator is at the idle code. -/
def execLbtListenEnd (energy : Energy) (s : State) : Result :=
  let s := s.dropStale
  match s.mac.csma with
  | none => done s
  | some c =>
    if c.stage ≠ .listen ∨ s.isDue .lbt = false then done s
    else
      let s := s.cancel .lbt
      if (s.lbtOf s.workChannel).1 ≤ s.atAntenna (s.rd (ob 0x4050 0x03)) energy.power energy.lna then
        let s := s.inc (ob 0x4130 0x05)
        if s.rd (ob 0x4100 0x0C) < c.nb + 1 then done (s.endFrame 1 c.attempt)
        else done (s.backoff { c with nb := c.nb + 1, be := min (c.be + 1) (s.rd (ob 0x4100 0x0B)) })
      else if !s.fitsSlot (s.exchangeUs c) then
        let n := (s.slot + 1) * 100000 + s.guard
        done ((s.setCsma { c with stage := .backoff }).arm .backoff (s.deviceAt n))
      else
        let c := { c with frame := { c.frame with payload := s.stamped c }, stage := .air }
        let s := s.setCsma c
        done ({ s with air := { s.air with requests := s.air.requests ++ [s.dataRequest c] } } : State)

/-- BACKOFF_EXPIRED (R281): the MAC listens again; not while shedding (R558). -/
def execBackoffExpired (s : State) : Result :=
  let s := s.dropStale
  match s.mac.csma with
  | none => done s
  | some c =>
    if c.stage = .backoff ∧ s.isDue .backoff = true ∧ s.power.shedding = false then done ((s.cancel .backoff).listenStart c)
    else done s

/-- IMM_ACK_DUE (R282). -/
def execImmAckDue (s : State) : Result :=
  match s.mac.ack with
  | none => done s
  | some (seq, more, start) =>
    if s.isDue .immAck then
      let r : TxReq := { use := .ack seq more start, tenant := t0, quota := false, index := s.air.channel, mode := s.opMode, power := 0,
                         time := s.frameUs 7, listen := none, hop := false, path := 0, code := 0, out := 0, on := 0 }
      let s : State := { s.cancel .immAck with mac := { s.mac with ack := none } }
      done ({ s with air := { s.air with requests := r :: s.air.requests } } : State)
    else done s

/-- The receiver of a sleepy end node kept on for its pending wait after an instant, or not (R289). -/
def State.pendingWait (s : State) (more : Bool) (from_ : Nat) : State :=
  if !s.sleepy then s
  else
    let s : State := { s with mac := { s.mac with listening := more || s.joinState != 3 } }
    if more then s.arm .pendingWait (from_ + s.rd (ob 0x4110 0x02)) else s.cancel .pendingWait

/-- IMM_ACK_RECEIVED (R282). -/
def execImmAckReceived (s : State) : Result :=
  match s.mac.rx, s.mac.csma with
  | r :: l, some c =>
    if c.stage = .ackWait ∧ r.frame.ftype = 2 ∧ r.frame.fcsOk = true ∧ (c.frame.numbers.map (fun n => n.1)) = some r.frame.seq then
      let s : State := { s with mac := { s.mac with rx := l } }
      let s := if s.toParent c.frame && s.joinState == 3 then s.pendingWait r.frame.more r.endAt else s
      done (s.endFrame 0 (c.attempt + 1))
    else done s
  | _, _ => done s

/-- Whether a frame whose SFD ended in time is still being received or judged. -/
def State.ackPossible (s : State) : Bool :=
  (s.airState == 4 && decide (s.air.sfdAt ≤ (s.dueAt .ackWait).getD 0)) || s.mac.rx.any (fun r => r.frame.ftype == 2)

/-- ACK_WAIT_CLOSED (R281, R282, R290): another attempt, or NO_ACK; an indirect frame has one attempt for each poll. -/
def execAckWaitClosed (s : State) : Result :=
  match s.mac.csma with
  | none => done s
  | some c =>
    if c.stage ≠ .ackWait ∨ s.isDue .ackWait = false ∨ s.ackPossible = true then done s
    else
      let s := (s.cancel .ackWait).inc (ob 0x4130 0x04)
      let n := c.attempt + 1
      let once := match c.frame.kind with | .indirect _ => true | _ => false
      if once || decide (s.rd (ob 0x4100 0x09) < n) then done (s.endFrame 2 n)
      else done (s.backoff { c with attempt := n, nb := 0, be := s.rd (ob 0x4100 0x0A) })

/-! ### Frames in (R268, R269, R276, R278) -/

/-- Shortest body of a known dispatch (Table 10-2), none for another dispatch. -/
def bodyLength (dispatch : Nat) : Option Nat :=
  match dispatch with
  | 1 => some 2 | 2 => some 18 | 3 => some 3 | 4 => some 13 | 5 => some 1 | 0x40 => some 8
  | _ => none

/-- Whether a decrypted payload is a message of Table 10-2. -/
def isMessage (p : Octets) : Bool :=
  match bodyLength (byteAt p 0) with
  | some n => decide (n + 1 ≤ p.length) &&
      !(byteAt p 0 == 2 && (byteAt p 10).testBit 1 && decide (p.length < 29)) && !(byteAt p 0 == 4 && decide (p.length < 14 + byteAt p 13))
  | none => false

/-- The address filter. -/
def State.forMe (s : State) (f : MacIn) : Bool :=
  f.pan == s.rd (ob 0x4100 0x01) &&
    (match f.dst with
     | .short a => a == 0xFFFF || (a == s.short && a != 0xFFFE)
     | .ext x => x == s.ext)

/-- Whether a frame is a unicast. -/
def isUnicast (f : MacIn) : Bool := f.dst != .short 0xFFFF

/-- The sender's extended address: its own, its neighbour entry's, or the one the part knows it by. (UNVERIFIED, log entry 43.) -/
def State.senderExt (s : State) (f : MacIn) : Nat :=
  match f.src with
  | .ext x => x
  | .short a => match s.neighbour a with | some n => n.ext | none => Config.extendedOf f.pan a

/-- Number of a neighbour as a sender has it. -/
def srcShort : Addr → Nat
  | .short a => a
  | .ext _ => 0xFFFE

/-- Whether R276 admits a data frame's security. -/
def State.securedWell (s : State) (f : MacIn) : Bool :=
  f.secured && f.keyMode == 1 && (f.keyIndex == 1 || f.keyIndex == 2) && s.netKeyed f.keyIndex &&
    decide (s.rd (ob 0x4100 0x08) ≤ f.level)

/-- What the counter check says of a frame (R278): 0 pass, 1 DUPLICATE, 2 REPLAY. -/
def counterCheck (n : Option Neighbour) (f : MacIn) : Nat :=
  match n with
  | none => 0
  | some n =>
    let c := if f.keyIndex = 1 then n.counter1 else n.counter2
    if c < f.counter then 0 else if f.counter = c ∧ f.seq = n.seq then 1 else 2

/-- The sender's entry after a frame that passed, made where there is none; none where no entry can be had. The counters of a node
known before a supply loss resume at their checkpointed values (R279). -/
def State.hear (s : State) (r : RxFrame) : Option State :=
  let f := r.frame
  let x := s.senderExt f
  let up := fun (n : Neighbour) => { n with
    seq := f.seq, lqi := byteAt r.quality 5, rssi := u16At r.quality 0, heard := r.endAt / 1000000
    counter1 := if f.keyIndex = 1 then f.counter else n.counter1, counter2 := if f.keyIndex = 2 then f.counter else n.counter2 }
  match s.neighbourOf f.src with
  | some n => some { s with mac := { s.mac with neighbours := s.mac.neighbours.map (fun m => if m = n then up n else m) } }
  | none =>
    let old := (s.ckpt.counters.find? (fun c => c.1 == x)).getD (x, 0, 0)
    s.takeNeighbour (up { newNeighbour (srcShort f.src) x (r.endAt / 1000000) with counter1 := old.2.1, counter2 := old.2.2 })

/-- The stored counters that the checkpoint kept for a sender without an entry (R279). -/
def State.checkpointed (s : State) (f : MacIn) : Option Neighbour :=
  match s.neighbourOf f.src with
  | some n => some n
  | none => (s.ckpt.counters.find? (fun c => c.1 == s.senderExt f)).map
      (fun c => { newNeighbour (srcShort f.src) c.1 0 with counter1 := c.2.1, counter2 := c.2.2, seq := 256 })

/-- The Imm-Ack of a frame (R282): pending where a frame is held for the sender, or a TIME message is due for it. -/
def State.ackFrame (s : State) (r : RxFrame) : State :=
  let f := r.frame
  if !f.ackReq || !isUnicast f || (match s.mac.csma with | some c => c.stage == .ackWait | none => false) then s
  else
    let more := !(s.heldFor (srcShort f.src)).isEmpty || s.isDue (.sync (srcShort f.src))
    ({ s with mac := { s.mac with ack := some (f.seq, more, r.endAt + 1000) } } : State).arm .immAck
      (r.endAt + 1000 - (s.onSequence s.air.channel + 16))

/-- Steps 4 to 6 of R278 on a data frame. (DEDUCED, log entry 43.) -/
def State.letIn (s : State) (r : RxFrame) : State :=
  let f := r.frame
  if !s.securedWell f then s.inc (ob 0x4130 0x08)
  else match counterCheck (s.checkpointed f) f with
    | 1 => s.inc (ob 0x4130 0x06)
    | 2 => (s.inc (ob 0x4130 0x07)).raise 967 [t0] []
    | _ =>
      let n := nonce (s.senderExt f) f.counter f.level
      let payload := ccmCrypt (s.netKey f.keyIndex) n f.payload
      if ccmMic (s.netKey f.keyIndex) n f.header payload (micLen f.level) ≠ f.mic then
        (s.inc (ob 0x4130 0x08)).raise 966 [t0] []
      else match s.hear r with
        | none => s.inc (ob 0x4130 0x0E)
        | some s =>
          if !isMessage payload then s.inc (ob 0x4130 0x0E)
          else
            let s : State := { s with mac := { s.mac with
                inbox := s.mac.inbox ++
                [{ src := f.src, payload := payload, quality := r.quality, sfdAt := r.sfdAt, more := f.more }] } }
            if isUnicast f && byteAt payload 0 != 1 then s.polled (srcShort f.src) else s

/-- MAC_FRAME_RECEIVED (R278): the oldest received frame passes the checks in their order. An Imm-Ack that nothing awaits is dropped. -/
def execMacFrameReceived (s : State) : Result :=
  match s.mac.rx with
  | [] => done s
  | r :: l =>
    let f := r.frame
    let s1 : State := { s with mac := { s.mac with rx := l } }
    if f.ftype = 2 then
      (match s.mac.csma with
       | some c => if c.stage = .ackWait ∧ f.fcsOk = true ∧ (c.frame.numbers.map (fun n => n.1)) = some f.seq then done s else done s1.sleepIdle
       | none => done s1.sleepIdle)
    else if !f.fcsOk then done s1.sleepIdle
    else if f.ftype ≠ 1 then done (s1.inc (ob 0x4130 0x0E)).sleepIdle
    else if !s1.forMe f then done s1.sleepIdle
    else
      let s2 := s1.ackFrame r
      let s3 := if isUnicast f && s2.mac.ack.isSome then s2.pendingWait f.more (r.endAt + 1000 + s2.frameUs 7) else s2
      done (s3.letIn r).sleepIdle

/-- The oldest delivered message of a dispatch, and the state without it. -/
def State.takeMessage (s : State) (dispatch : Nat) : Option (Delivered × State) :=
  match s.mac.inbox.find? (fun d => byteAt d.payload 0 == dispatch) with
  | none => none
  | some d => some (d, { s with mac := { s.mac with inbox := s.mac.inbox.erase d } })

/-- POLL (R290). -/
def execPoll (s : State) : Result :=
  match s.takeMessage 1 with
  | none => done s
  | some (d, s) =>
    let a := srcShort d.src
    done ((s.setNeighbour a (fun n => { n with poll := u16At d.payload 1 })).polled a).sleepIdle

/-! ### Network time (R292 to R294, R288) -/

/-- The measurement of R294 in ppb. -/
def meshRate (d1 n1 d2 n2 : Nat) : Int :=
  let dd : Int := (d2 : Int) - d1
  roundAway (1000000000 * (((n2 : Int) - n1) - dd)) dd.toNat

/-- A rate measurement made where two points are far enough apart. -/
def State.meshMeasure (s : State) (d n : Nat) : State :=
  let c := s.rdInt (ob 0x1100 0x03)
  let next := fun (s : State) => ({ s with mac := { s.mac with point := some (d, n, s.rd (ob 0x1100 0x03)) } } : State)
  match s.mac.point with
  | none => next s
  | some (d1, n1, c1) =>
    if d < d1 + 60000000 then s
    else
      let m := meshRate d1 n1 d n
      if 200000 < m.natAbs then next ((s.inc (ob 0x4110 0x09)).raise 969 [t0] [])
      else
        let mean := roundAway (toSigned 32 c1 + c) 2
        let s := (s.wrInt (ob 0x4110 0x07) m).inc (ob 0x4110 0x08)
        next (s.discipline 1 (mean + m))

/-- A pending home channel taken from a TIME message, and passed on to the sleepy children (R288, R303). -/
def State.takeChange (s : State) (p : Octets) : State :=
  if !(byteAt p 10).testBit 1 then s
  else
    let home := u16At p 19
    let at_ := leNat (slice 21 8 p)
    if s.rd (ob 0x4120 0x02) = home ∧ s.rd (ob 0x4120 0x03) = at_ then s
    else if s.rd (ob 0x4120 0x01) = home ∧ at_ ≤ s.netTime s.now then s
    else
      let s := s.wrAll [(ob 0x4120 0x02, home), (ob 0x4120 0x03, at_)]
      let s := (s.raise 972 [t0] []).arm .homeSwitch (s.deviceAt at_)
      (s.mac.neighbours.filter (fun n => n.relation == 2)).foldl
        (fun s n => s.holdFor .timeCast n.short (s.timeMessage s.now) false true) s

/-- The timer of the guard (R286): it passes 20,000 µs when e × Δ passes 19,000. -/
def State.armUnsync (s : State) : State :=
  if s.hops ∧ s.role ≠ 2 then s.arm .unsync (s.rd (ob 0x4110 0x0A) + (if s.rd (ob 0x4110 0x08) < 2 then 950000000 else 9500000000) + 1) else s

/-- A TIME message accepted (R292). -/
def State.acceptTime (s : State) (d : Delivered) : State :=
  let n := leNat (slice 1 8 d.payload)
  let s := ((s.wr (ob 0x4110 0x0A) d.sfdAt).raise 968 [t0] []).meshMeasure d.sfdAt n
  let s := s.setOffset 2 ((n : Int) - d.sfdAt + s.now)
  let s := if s.joinState = 3 ∨ s.joinState = 4 then s.wr (ob 0x4100 0x05) (byteAt d.payload 9 + 1) else s
  let s := if s.joinState = 4 then
      let s := ((s.wr (ob 0x4100 0x06) 3).cancel .unsyncScan).tune s.workChannel
      ({ s with mac := { s.mac with listening := false } } : State)
    else s
  (s.armUnsync).takeChange d.payload

/-- A TIME frame as a scan hears it (R271 to R274). -/
def State.scanHears (s : State) (d : Delivered) : State :=
  match s.mac.scan with
  | none => s
  | some x =>
    let depth := byteAt d.payload 9
    let coord := leNat (slice 11 8 d.payload)
    let takes := (byteAt d.payload 10).testBit 0
    let c : Candidate := { short := srcShort d.src, depth := if takes then depth else 0xFF, lqi := byteAt d.quality 5, coord := coord,
                           heard := d }
    let worse := fun (y : Candidate) => y.short == c.short && decide (y.lqi ≤ c.lqi)
    let found := if x.found.any (fun y => y.short == c.short && decide (c.lqi < y.lqi)) then x.found
      else c :: x.found.filter (fun y => !worse y)
    { s with mac := { s.mac with
      scan := some { x with found := found, conflict := x.conflict || (x.asCoord && depth == 0 && coord != s.ext) } } }

/-- TIME (R271, R274, R286, R292): heard by a scan, accepted from the parent or the chosen parent, or a foreign coordinator's. -/
def execTime (s : State) : Result :=
  match s.takeMessage 2 with
  | none => done s
  | some (d, s) =>
    let a := srcShort d.src
    let depth := byteAt d.payload 9
    let coord := leNat (slice 11 8 d.payload)
    let s := s.setNeighbour a (fun n => { n with depth := depth })
    let s := s.scanHears d
    if s.joinState = 5 then
      if depth = 0 ∧ coord ≠ s.ext then
        done (((s.raise 971 [t0] []).fault 64 (coord % 2 ^ 32)).armIn .foreignCoord 3600000000)
      else done s
    else if (s.joinState = 3 ∨ s.joinState = 4) ∧ a = s.parent then done (s.acceptTime d).sleepIdle
    else if s.joinState = 2 ∧ (s.mac.target.map (fun c => c.short)) = some a then done (s.acceptTime d).sleepIdle
    else done s.sleepIdle

/-! ### Joining -/

/-- What is relayed of a joining node: extended address, then the message (Table 10-3). -/
def relayed (ext : Nat) (message : Octets) : Octets := u64 ext ++ message

/-- A parent delivers the answer to a joining node's extended address. -/
def State.deliverAnswer (s : State) (ext : Nat) (message : Octets) : State :=
  let s := s.sendMac .join (.ext ext) message
  let j := (s.mac.joiners.find? (fun j => j.1 == ext)).getD (ext, 0, 0)
  let s : State := { s with mac := { s.mac with joiners := s.mac.joiners.filter (fun j => j.1 != ext) } }
  if byteAt message 0 ≠ 4 then s
  else
    let a := u16At message 1
    let sleepy := j.2.1 == 0
    let s : State := { s with mac := { s.mac with neighbours := s.mac.neighbours.filter (fun n => n.short != a || n.ext == ext) } }
    let s := match s.mac.neighbours.find? (fun n => n.ext == ext) with
      | some _ => s
      | none => (s.takeNeighbour (newNeighbour a ext (s.now / 1000000))).getD s
    let up := fun (n : Neighbour) => { n with
      short := a, relation := if sleepy then 2 else 1, depth := s.rd (ob 0x4100 0x05) + 1, poll := j.2.2
      cue := if sleepy then u16At message 7 else 0, group := byteAt message 6 }
    let s : State := { s with mac := { s.mac with neighbours := s.mac.neighbours.map (fun n => if n.ext = ext then up n else n) } }
    let s := s.raise 963 [t0] []
    if sleepy then
      let s := if j.2.2 = 0 then s else s.armIn (.child a) (4 * j.2.2 * 1000000)
      s.armIn (.sync a) (s.rd (ob 0x4110 0x04) * 1000000)
    else s

/-- The lowest free address of the coordinator's table, or the one an extended address has (R270). -/
def State.addressFor (s : State) (ext : Nat) : Option Nat :=
  match s.mac.addresses.find? (fun p => p.2 == ext) with
  | some p => some p.1
  | none => ((List.range 240).map (· + 1)).find? (fun a => !s.mac.addresses.any (fun p => p.1 == a))

/-- The JOIN_ACCEPT of a node under a parent (Table 10-2, R291). (DEDUCED, log entry 44.) -/
def State.joinAccept (s : State) (short group : Nat) : Octets :=
  let n := s.hopN
  u8 4 ++ u16 short ++ u8 (s.rd (ob 0x4100 0x08)) ++ u16 (s.rd (ob 0x4040 0x03)) ++ u8 group ++ u16 (s.rd (ob 0x4040 0x02)) ++
    u16 (s.rd (ob 0x4120 0x01)) ++ u16 (s.rd (ob 0x4110 0x03)) ++ u8 n ++ padTo n (leBytes 64 (s.rd (ob 0x4120 0x06)))

/-- The coordinator's answer to a node that joins under `parent` at a depth (R271 step 5): JOIN_DENY 1 table full, 2 not permitted, 3
too deep; else its address and the next cue group of the parent. -/
def State.joinAnswer (s : State) (ext parent depth : Nat) : Octets × State :=
  if !s.isOn (ob 0x4100 0x0E) then (u8 5 ++ u8 2, s)
  else if s.rd (ob 0x4100 0x0D) < depth then (u8 5 ++ u8 3, s)
  else match s.addressFor ext with
    | none => (u8 5 ++ u8 1, s)
    | some a =>
      let g := Tab.get (fun _ => 0) s.mac.groups parent
      let s : State := { s with mac := { s.mac with
        addresses := (a, ext) :: s.mac.addresses.filter (fun p => p.1 != a)
        groups := Tab.set (fun _ => 0) s.mac.groups parent ((g + 1) % 255) } }
      (s.joinAccept a g, s.commit (.own []))

/-- JOIN_REQUEST (R271): relayed to the coordinator, or answered by it. -/
def execJoinRequest (s : State) : Result :=
  match s.takeMessage 3 with
  | none => done s
  | some (d, s) =>
    match d.src with
    | .short _ => done (s.inc (ob 0x4130 0x0E))
    | .ext x =>
      let s : State := { s with mac := { s.mac with
        joiners := (x, byteAt d.payload 1, u16At d.payload 2) :: s.mac.joiners.filter (fun j => j.1 != x) } }
      if s.joinState = 5 then
        let (m, s) := s.joinAnswer x 0 1
        done (s.deliverAnswer x m)
      else if s.joinState = 3 ∧ s.role = 1 then done (s.originate .join 0 3 false (relayed x d.payload))
      else done s

/-- The objects that a JOIN_ACCEPT overwrites, in its order (R271 step 6). -/
def acceptWrites (p : Octets) : List (Nat × Nat) :=
  [(ob 0x4100 0x08, byteAt p 3), (ob 0x4040 0x03, u16At p 4), (ob 0x4040 0x04, byteAt p 6), (ob 0x4040 0x02, u16At p 7),
   (ob 0x4120 0x01, u16At p 9), (ob 0x4110 0x03, u16At p 11), (ob 0x4120 0x05, byteAt p 13),
   (ob 0x4120 0x06, leNat (slice 14 (byteAt p 13) p))]

/-- The next slot boundary (R285). -/
def State.armSlot (s : State) : State := if s.hops then s.arm .slot (s.deviceAt ((s.slot + 1) * 100000)) else s

/-- The next TIME broadcast of a router or coordinator (R287). (DESIGN CHOICE for the phase of the interval, log entry 45.) -/
def State.armBroadcast (s : State) : State :=
  if s.role = 0 then s
  else if s.hops then
    let (r, s) := s.random 20001
    s.arm .timeBroadcast (s.deviceAt (((s.slot / 8 + 1) * 8) * 100000 + r))
  else
    let (r, s) := s.random 1000001
    let every := max 1 (s.rd (ob 0x4110 0x03)) * 1000000
    s.arm .timeBroadcast ((s.now / every + 1) * every + r)

/-- What begins when a node has joined: its hop set, slots, broadcasts and polls. -/
def State.joinedWork (s : State) : State :=
  let s := (((s.loadHops).armSlot).armBroadcast).armUnsync
  let s := s.tune s.workChannel
  if s.sleepy then s.armIn .poll (s.rd (ob 0x4110 0x01) * 1000000) else s

/-- JOIN_ACCEPT (R271): from the chosen parent. -/
def execJoinAccept (s : State) : Result :=
  match s.takeMessage 4 with
  | none => done s
  | some (d, s) =>
    match s.mac.target with
    | none => done s
    | some c =>
      if s.joinState ≠ 2 ∨ srcShort d.src ≠ c.short then done s
      else
        let s := (s.cancel .join).cancel .joinRetry
        let s := s.wrKeep (acceptWrites d.payload)
        let s := s.wrAll [(ob 0x4100 0x03, u16At d.payload 1), (ob 0x4100 0x04, c.short), (ob 0x4100 0x05, c.depth + 1), (ob 0x4100 0x06, 3)]
        let s : State := { s with mac := { s.mac with
          listening := false, noAck := 0
          neighbours := s.mac.neighbours.map (fun n => { n with relation := if n.short = c.short then 0 else if n.relation = 0 then 3 else n.relation }) } }
        done ((s.raise 960 [t0] []).joinedWork).sleepIdle

/-- JOIN_DENY (R271). -/
def execJoinDeny (s : State) : Result :=
  match s.takeMessage 5 with
  | none => done s
  | some (d, s) =>
    if s.joinState = 2 ∧ (s.mac.target.map (fun c => c.short)) = some (srcShort d.src) then done s.joinFailed else done s

/-- The home channel of a coordinator without one (R272). (DEDUCED, log entry 44.) -/
def State.chooseHome (s : State) : State :=
  if s.hops ∨ s.rd (ob 0x4120 0x01) ≠ 0xFFFF then s
  else
    let l := s.allowedList s.opMode
    match (l.find? s.hasLbt).orElse (fun _ => l.head?) with
    | some k => s.wrKeep [(ob 0x4120 0x01, k)]
    | none => s

/-- The default hop set of a coordinator in modes 2 and 3 (R285); mode 1's is the object's default. -/
def State.defaultHops (s : State) : State :=
  let d := Dict.dflt (ob 0x4120 0x06)
  if s.opMode ≠ 1 ∧ s.rd (ob 0x4120 0x06) = d then
    s.wr (ob 0x4120 0x06) (leNat ((List.range s.hopN).flatMap (fun n => u8 (129 + n))))
  else s

/-- The node takes the coordinator's role after a scan without conflict (R270, R272, R274, R291). -/
def State.becomeCoordinator (s : State) : State :=
  let s : State := { s.cancel .joinScan with mac := { s.mac with scan := none, listening := false } }
  let s := s.wrAll [(ob 0x1010 0x02, 2), (ob 0x4100 0x03, 0), (ob 0x4100 0x04, 0xFFFE), (ob 0x4100 0x05, 0), (ob 0x4100 0x06, 5)]
  let s := (s.chooseHome).defaultHops
  let s := if s.rd (ob 0x4040 0x03) = 0xFFFF then
      let (r, s) := s.random 0xFFFF
      s.wrKeep [(ob 0x4040 0x03, r)]
    else s
  s.joinedWork

/-- A scan without conflict or candidate is over (R271 to R275). -/
def State.scanDone (s : State) (x : Scan) : State :=
  if x.asCoord ∧ x.conflict = false then s.becomeCoordinator
  else
    let s : State := if x.asCoord then { s.wrAll [(ob 0x1010 0x02, 1), (ob 0x1010 0x06, 3)] with mac := { s.mac with asCoord := false } } else s
    if x.again ∧ (s.choice x.found).isNone then s.scanOver (s.allowedList s.opMode) false false
    else match s.choice x.found with
      | none => s.chooseParent x.found
      | some c => (s.chooseParent x.found).acceptTime c.heard

/-- JOIN_SCAN_END (R271, R272): the next channel, or the end of the scan. -/
def execJoinScanEnd (s : State) : Result :=
  match s.mac.scan with
  | none => done s
  | some x =>
    if !s.isDue .joinScan then done s
    else match x.left with
      | k :: l =>
        if x.found.isEmpty then
          done ((({ s with mac := { s.mac with scan := some { x with left := l, channel := k } } } : State).tune k).armIn .joinScan s.scanUs)
        else done (s.scanDone x)
      | [] => done (s.scanDone x)

/-- JOIN_TIMEOUT (R271). -/
def execJoinTimeout (s : State) : Result :=
  if s.isDue .join ∧ s.joinState = 2 then done s.joinFailed else done s

/-- JOIN_RETRY (R271). -/
def execJoinRetry (s : State) : Result :=
  if s.isDue .joinRetry ∧ s.joinState = 0 then
    let s := s.cancel .joinRetry
    done (if s.canJoin then (s.wakeBy 1).startScan false false else s)
  else done s

/-- COORDINATOR_CONFLICT_LAPSE (R274). -/
def execCoordinatorConflictLapse (s : State) : Result :=
  if s.isDue .foreignCoord then done ((s.cancel .foreignCoord).causeEnd 64) else done s

/-! ### Hopping and broadcasts -/

/-- SLOT_BOUNDARY (R239, R285): in LISTEN the NCO moves to the slot's channel. -/
def execSlotBoundary (s : State) : Result :=
  if s.isDue .slot then
    if !s.hops then done (s.cancel .slot)
    else
      done (s.tune s.listenChannel).armSlot
  else done s

/-- TIME_BROADCAST_DUE (R287). -/
def execTimeBroadcastDue (s : State) : Result :=
  if s.isDue .timeBroadcast then
    let s := s.cancel .timeBroadcast
    if s.role = 0 ∨ (s.joinState ≠ 3 ∧ s.joinState ≠ 5) then done s
    else done ((s.sendMac .timeCast (.short 0xFFFF) (s.timeMessage s.now)).armBroadcast)
  else done s

/-- UNSYNCHRONISED (R286). -/
def execUnsynchronised (s : State) : Result :=
  if s.isDue .unsync ∧ s.joinState = 3 ∧ s.hops = true then
    let s := (s.cancel .unsync).wr (ob 0x4100 0x06) 4
    let s : State := { s.raise 974 [t0] [] with mac := { s.mac with listening := true } }
    done (((s.tune (s.hopAt 0)).airStart).armIn .unsyncScan (8 * s.hopN * 100000))
  else done s

/-- UNSYNC_SCAN_TIMEOUT (R275, R286). -/
def execUnsyncScanTimeout (s : State) : Result :=
  if s.isDue .unsyncScan ∧ s.joinState = 4 then done (s.cancel .unsyncScan).parentLost else done s

/-! ### The home channel (R288, R303) -/

/-- Status of a write to 0x4120.04. -/
def State.homeCheck (s : State) (v : Nat) : Nat := when (s.role != 2 || !s.allowed v s.opMode) sRange

/-- HOME_CHANNEL_CHANGE_REQUEST's effect (R288). -/
def State.homeRequest (s : State) (v : Nat) : State :=
  let at_ := s.netTime s.now + (2 * s.rd (ob 0x4110 0x04) + 60) * 1000000
  let s := s.wrAll [(ob 0x4120 0x02, v), (ob 0x4120 0x03, at_)]
  let s := (s.raise 972 [t0] []).arm .homeSwitch (s.deviceAt at_)
  (s.mac.neighbours.filter (fun n => n.relation == 2)).foldl
    (fun s n => s.holdFor .timeCast n.short (s.timeMessage s.now) false true) s

/-- HOME_CHANNEL_SWITCH (R288, R303). -/
def execHomeChannelSwitch (s : State) : Result :=
  let idle := (s.airState == 0 || s.airState == 2) && (match s.mac.csma with | some c => c.stage == .backoff | none => true)
  if s.isDue .homeSwitch ∧ s.changePending = true ∧ (s.joinState = 3 ∨ s.joinState = 5) ∧ idle = true then
    let k := s.rd (ob 0x4120 0x02)
    let s := ((s.cancel .homeSwitch).wrKeep [(ob 0x4120 0x01, k)]).wr (ob 0x4120 0x02) 0xFFFF
    done ((s.tune k).raise 973 [t0] [])
  else done s

/-! ### Sleepy partners (R289 to R291) -/

/-- POLL_INTERVAL_EXPIRED (R289, R301). -/
def execPollIntervalExpired (s : State) : Result :=
  if s.isDue .poll then
    if s.sleepy ∧ s.joinState = 3 then
      done (((s.wakeBy 1).armIn .poll (s.rd (ob 0x4110 0x01) * 1000000)).wantPoll.airStart)
    else done (s.cancel .poll)
  else done s

/-- PENDING_WAIT_EXPIRED (R289): not while a frame whose SFD ended in time is received. -/
def execPendingWaitExpired (s : State) : Result :=
  if s.isDue .pendingWait && !(s.airState == 4 && decide (s.air.sfdAt ≤ (s.dueAt .pendingWait).getD 0)) then
    done ({ s.cancel .pendingWait with mac := { s.mac with listening := false } } : State).sleepIdle
  else done s

/-- SYNC_TIME_INSERT (R290): for every sleepy child whose sync interval has passed. -/
def execSyncTimeInsert (s : State) : Result :=
  done (s.mac.neighbours.foldl (fun s n =>
    if n.relation = 2 ∧ s.isDue (.sync n.short) = true then
      (s.holdFor .timeCast n.short (s.timeMessage s.now) false true).armIn (.sync n.short) (s.rd (ob 0x4110 0x04) * 1000000)
    else s) s)

/-- Whether an indirect frame is being sent. (DEDUCED, log entry 45.) -/
def State.sendsIndirect (s : State) (id : Nat) : Bool :=
  match s.mac.csma with | some c => c.frame.kind == .indirect id | none => false

/-- INDIRECT_EXPIRED (R290). -/
def execIndirectExpired (id : Nat) (s : State) : Result :=
  match s.mac.indirect.find? (fun f => f.id == id) with
  | none => done s
  | some f =>
    if s.isDue (.indirect id) && !s.sendsIndirect id then
      let s := ((s.dropIndirect id).inc (ob 0x4130 0x0C)).raise 975 [t0] []
      done ((s.kindEnded f.origin 5).txFailed f.origin.tenant 5 0 f.child)
    else done s

/-- CHILD_EXPIRED (R290): the child leaves the table, and its queue with it. -/
def execChildExpired (child : Nat) (s : State) : Result :=
  if s.isDue (.child child) then
    let s := (s.cancel (.child child)).cancel (.sync child)
    let s := (s.heldFor child).foldl (fun s f => ((s.dropIndirect f.id).kindEnded f.origin 5).txFailed f.origin.tenant 5 0 child) s
    let s : State := { s with mac := { s.mac with neighbours := s.mac.neighbours.filter (fun n => !(n.short == child && n.child)) } }
    done (s.raise 964 [t0] [])
  else done s

/-- The cue pattern of an indirect frame: to all where the frame is a TIME message with CHANGE_PENDING (R291). -/
def State.cueFor (s : State) (f : Indirect) : State :=
  let s : State := { s with mac := { s.mac with indirect := s.mac.indirect.map (fun g => if g.id = f.id then { g with cues := g.cues + 1 } else g) } }
  s.cueTo (if byteAt f.payload 0 = 2 ∧ (byteAt f.payload 10).testBit 1 = true then none else some f.child)

/-- CUE_DELAY_EXPIRED (R291). -/
def execCueDelayExpired (id : Nat) (s : State) : Result :=
  match s.mac.indirect.find? (fun f => f.id == id) with
  | none => done (s.cancel (.cueDelay id))
  | some f =>
    if s.isDue (.cueDelay id) then done (if f.cues = 0 then (s.cancel (.cueDelay id)).cueFor f else s.cancel (.cueDelay id)) else done s

/-- CUE_RETRY_DUE (R291): at most three repeats for each frame. -/
def execCueRetryDue (id : Nat) (s : State) : Result :=
  match s.mac.indirect.find? (fun f => f.id == id) with
  | none => done (s.cancel (.cueRetry id))
  | some f =>
    if s.isDue (.cueRetry id) then done (if f.cues ≤ 3 then (s.cancel (.cueRetry id)).cueFor f else s.cancel (.cueRetry id)) else done s

/-! ### Forwarding (R295) -/

/-- A route recorded or refreshed. -/
def State.learnRoute (s : State) (x via : Nat) : State :=
  if s.role = 0 ∨ x = s.short ∨ 0xFFFE ≤ via then s
  else
    let others := s.mac.routes.filter (fun r => r.1 != x)
    if (if s.role = 2 then 240 else 128) ≤ others.length then s
    else ({ s with mac := { s.mac with routes := (x, via) :: others } } : State).armIn (.route x) 3600000000

/-- A (originator, mesh sequence) pair noted for 60 s; the oldest makes room. -/
def State.noteDup (s : State) (key : Nat) : State :=
  let (l, s) := if 64 ≤ s.mac.dups.length then (s.mac.dups.take 63, (s.mac.dups.drop 63).foldl (fun s k => s.cancel (.dup k)) s)
    else (s.mac.dups, s)
  ({ s with mac := { s.mac with dups := key :: l } } : State).armIn (.dup key) 60000000

/-- A MESH message for this node, by its inner type (Table 10-3). -/
def State.meshInner (s : State) (orig hops inner : Nat) (body : Octets) : State :=
  match inner with
  | 2 =>
    match openEnvelope body with
    | some (t, c, unit, mac) =>
      match tenant? t with
      | some t => { s with svc := { s.svc with
          inbound := s.svc.inbound ++
          [{ transport := .mesh, peer := orig, tenant := t, counter := c, mac := mac, unit := unit }] } }
      | none => s
    | none => s
  | 3 =>
    if s.joinState ≠ 5 then s
    else
      let x := leNat (body.take 8)
      let (m, s) := s.joinAnswer x orig (2 * s.rd (ob 0x4100 0x0D) + 2 - hops)
      s.originate .join orig 4 false (relayed x m)
  | 4 => s.deliverAnswer (leNat (body.take 8)) (body.drop 8)
  | _ => s

/-- MESH (R295). -/
def execMesh (s : State) : Result :=
  match s.takeMessage 0x40 with
  | none => done s
  | some (d, s) =>
    let p := d.payload
    let orig := u16At p 2
    let dest := u16At p 4
    let hops := byteAt p 6
    let key := orig * 256 + byteAt p 7
    let s := s.learnRoute orig (srcShort d.src)
    if s.mac.dups.contains key then done (s.inc (ob 0x4130 0x0B)).sleepIdle
    else
      let s := s.noteDup key
      if dest = s.short then done (s.meshInner orig hops (byteAt p 8) (p.drop 9)).sleepIdle
      else if s.role = 0 then done s.sleepIdle
      else if hops = 0 then done (s.inc (ob 0x4130 0x0A))
      else done ((s.inc (ob 0x4130 0x09)).passMesh .forward dest (splice 6 (u8 (hops - 1)) p))

/-- ROUTE_LAPSE (R295). -/
def execRouteLapse (dest : Nat) (s : State) : Result :=
  if s.isDue (.route dest) then
    done { s.cancel (.route dest) with mac := { s.mac with routes := s.mac.routes.filter (fun r => r.1 != dest) } }
  else done s

/-- MESH_DUP_LAPSE (R295). -/
def execMeshDupLapse (pair : Nat) (s : State) : Result :=
  if s.isDue (.dup pair) then
    done { s.cancel (.dup pair) with mac := { s.mac with dups := s.mac.dups.filter (· != pair) } }
  else done s

/-- REPORT_RETRY_DUE (R283): where the air die stops between frames, at its first start after the hold-off. -/
def execReportRetryDue (t : Tenant) (s : State) : Result :=
  if s.isDue (.reportRetry t) && !(s.sleepy && s.airState == 0) then done (s.freeReport t) else done s

/-! ### Releasing an address (R270) -/

/-- Status of a write to 0x4100.0F. -/
def State.releaseCheck (s : State) (v : Nat) : Nat := when (s.role != 2 || !s.mac.addresses.any (fun p => p.1 == v)) sRange

/-- The entry of a short address freed. -/
def State.releaseAddress (s : State) (v : Nat) : State :=
  ({ s with mac := { s.mac with addresses := s.mac.addresses.filter (fun p => p.1 != v) } } : State).commit (.own [])

end Sys2Proof.Machine
end

