-- ==== Sys2Proof/Machine/Metronomes.lean ====
section
/-! DEFINITION. Metronomes (chapter 16): the scheduled instants of their events, the compare and its stride, and the writes
that act on them. -/

namespace Sys2Proof.Machine

/-! ### Pins driven by a metronome (R588) -/

/-- Number of ZERO (1) or COMPARE (0) as a pin sees it: the pin toggles at ZERO, or goes high at ZERO and low at COMPARE. (DEDUCED, log entry 50.) -/
def State.drivePins (s : State) (m : MetroId) (j : Nat) : State :=
  if s.pins.gpHeld then s
  else (List.range 16).foldl (fun s g =>
    let i := 0x1090 + g
    if s.rd (ob i 0x01) = 3 ∧ s.rd (ob i 0x06) = m.val ∧ s.isOn (ob 0x1060 0x06) = true then
      if s.rd (ob i 0x07) = 1 then (if j = 1 then s.wr (ob i 0x08) 1 else if j = 0 then s.wr (ob i 0x08) 0 else s)
      else if j = 1 then s.wr (ob i 0x08) (1 - s.rd (ob i 0x08)) else s
    else s) s

/-! ### Raising (R461, R462, R464) -/

/-- An event of a metronome with its scheduled instant, counter and direction; while the conductor cannot take events a
previous instance merges into it, but start links from metronome sources act throughout (R464). An event that falls while
its tenant is RESETTING is only counted (R465). -/
def State.metroRaise (s : State) (m : MetroId) (j at_ count : Nat) (up : Bool) : State :=
  let e := 1072 + 4 * m.val + j
  let data := u32 count ++ u8 (if up then 1 else 0)
  let i := 0x8000 + m.val
  let s := (s.drivePins m j).wakeBy 1
  let own := s.metroTenant m
  if (match own with | some t => s.tenantState t == 2 | none => false) then s.inc (ob i 0x11)
  else
    let dest := [own.getD t0]
    if s.up then s.raiseAt e dest data at_
    else
      let s := match own with
        | some t => s.links1 t e at_
        | none => s
      if s.router.held.any (fun h => h.event == e) then
        ({ s with router := { s.router with held := s.router.held.map (fun (h : Held) =>
          if h.event = e then { h with stamp := at_, data := data } else h) } }).inc (ob i 0x11)
      else s.raiseAt e dest data at_

/-! ### Scheduled instants (R451) -/

/-- The instant at which counting reaches the live compare, if it does before the count turns or reloads (R456). -/
def State.compareAt (s : State) (m : MetroId) : Option Nat :=
  let i := 0x8000 + m.val
  let c := s.rd (ob i 0x0A)
  let b := s.metros[m].base
  if s.rd (ob i 0x01) ≠ 2 ∨ c = 0 then none
  else if s.metroUp m then
    if b < c ∧ c ≤ s.rd (ob i 0x05) then some (s.metros[m].since + (c - b) * s.metroUnit m) else none
  else if c < b then some (s.metros[m].since + (b - c) * s.metroUnit m) else none

/-- The instant at which counting down reaches 0. -/
def State.zeroAt (s : State) (m : MetroId) : Option Nat :=
  if s.rd (ob (0x8000 + m.val) 0x01) ≠ 2 ∨ s.metroUp m = true then none
  else some (s.metros[m].since + s.metros[m].base * s.metroUnit m)

/-- The instant at which counting up reaches P. -/
def State.topAt (s : State) (m : MetroId) : Option Nat :=
  if s.rd (ob (0x8000 + m.val) 0x01) ≠ 2 ∨ s.metroUp m = false then none
  else some (s.metros[m].since + (s.rd (ob (0x8000 + m.val) 0x05) - s.metros[m].base) * s.metroUnit m)

/-- Whether an instant has come and no match stands before it: events of one metronome in one microsecond are raised in
ascending number, COMPARE first (R461). -/
def State.metroDue (s : State) (m : MetroId) (at_ : Option Nat) : Option Nat :=
  match at_ with
  | none => none
  | some x =>
    if s.now < x then none
    else
      match s.compareAt m with
      | some c => if c ≤ x then none else some x
      | none => some x

/-! ### The events -/

/-- The live compare after a match at `c` (R457). -/
def State.applyStride (s : State) (m : MetroId) (c : Nat) : State :=
  let i := 0x8000 + m.val
  let st := s.rd (ob i 0x09)
  if st = 0 ∨ s.rd (ob i 0x02) = 2 then s
  else if st + 1 ≤ c then s.wr (ob i 0x0A) (c - st)
  else (s.wr (ob i 0x0A) 0).setMetro m (fun x => { x with wrap := some ((c : Int) - (st : Int)) })

/-- A match of the live compare that is due (R456, R457). -/
def State.metroMatch (s : State) (m : MetroId) : Option State :=
  match s.compareAt m with
  | none => none
  | some at_ =>
    if s.now < at_ then none
    else
      let c := s.rd (ob (0x8000 + m.val) 0x0A)
      let up := s.metroUp m
      let s := s.setMetro m (fun x => { x with base := c, since := at_ })
      some ((s.applyStride m c).metroRaise m 0 at_ c up)

/-- METRONOME_COMPARE (R456, R457). -/
def execMetronomeCompare (m : MetroId) (s : State) : Result := done ((s.metroMatch m).getD s)

/-- The zero of DOWN and ONE_SHOT: the buffer becomes P, a pending wrap moves by P (R452, R457). -/
def State.reload (s : State) (m : MetroId) (at_ : Nat) : State :=
  let i := 0x8000 + m.val
  if s.rd (ob i 0x02) = 1 then
    (s.wr (ob i 0x01) 0).setMetro m (fun x => { x with base := 0, since := at_, wrap := none })
  else
    let p := s.rd (ob i 0x04)
    let s := (s.wr (ob i 0x05) p).setMetro m (fun x => { x with base := p, since := at_ })
    match s.metros[m].wrap with
    | none => s
    | some d =>
      let d' := d + (p : Int)
      if 1 ≤ d' then (s.wr (ob i 0x0A) d'.toNat).setMetro m (fun x => { x with wrap := none })
      else s.setMetro m (fun x => { x with wrap := some d' })

/-- A zero that is due (R452): its data is the 0 that was counted to. (DEDUCED, log entry 50.) -/
def State.metroZero (s : State) (m : MetroId) : Option State :=
  match s.metroDue m (s.zeroAt m) with
  | none => none
  | some at_ =>
    let i := 0x8000 + m.val
    let s := s.wr (ob i 0x10) at_
    let s := if s.rd (ob i 0x02) = 2 then
        (s.wr (ob i 0x07) 1).setMetro m (fun x => { x with base := 0, since := at_ })
      else s.reload m at_
    some (s.metroRaise m 1 at_ 0 false)

/-- METRONOME_ZERO (R452). -/
def execMetronomeZero (m : MetroId) (s : State) : Result := done ((s.metroZero m).getD s)

/-- A turn at P that is due (R452). -/
def State.metroTurn (s : State) (m : MetroId) : Option State :=
  match s.metroDue m (s.topAt m) with
  | none => none
  | some at_ =>
    let i := 0x8000 + m.val
    let p := s.rd (ob i 0x05)
    let s := (s.wr (ob i 0x07) 0).setMetro m (fun x => { x with base := p, since := at_ })
    some (s.metroRaise m 2 at_ p true)

/-- METRONOME_TOP (R452). -/
def execMetronomeTop (m : MetroId) (s : State) : Result := done ((s.metroTurn m).getD s)

/-- A start instant that has come (R458): nothing is raised. -/
def State.metroBegin (s : State) (m : MetroId) : Option State :=
  if s.rd (ob (0x8000 + m.val) 0x01) = 1 ∧ s.metros[m].armed ≤ s.now then some ((s.metroRun m s.metros[m].armed).wakeBy 1) else none

/-- METRONOME_START_INSTANT (R458). -/
def execMetronomeStartInstant (m : MetroId) (s : State) : Result := done ((s.metroBegin m).getD s)

/-- The next happening of a metronome that is due. -/
def State.metroNext (s : State) (m : MetroId) : Option State :=
  (s.metroBegin m).orElse (fun _ => (s.metroMatch m).orElse (fun _ => (s.metroZero m).orElse (fun _ => s.metroTurn m)))

/-- At most `n` happenings of a metronome that are due. -/
def State.metroCatch : Nat → State → MetroId → State
  | 0, s, _ => s
  | n + 1, s, m => match s.metroNext m with | some t => State.metroCatch n t m | none => s

/-- Every happening of a metronome up to now: a write takes effect after them (R455, R466). Detection is at most 31 µs late and the least
period 50 µs (R36, R460), so few are due. -/
def State.metroCaught (s : State) (m : MetroId) : State := s.metroCatch 64 m

/-! ### Writes -/

/-- The command 0x80kk.0E (R458). (DEDUCED, log entry 50.) -/
def State.metroCommand (s : State) (m : MetroId) (v : Nat) : State :=
  let w := s.now
  match v with
  | 1 => s.metroStart m w
  | 2 => s.metroStop m w
  | 3 => if s.rd (ob (0x8000 + m.val) 0x01) = 2 then s.metroRestart m w else s.metroArm m w false
  | _ => s

/-- A write of the period buffer (R453, R454). -/
def State.periodWrite (s : State) (m : MetroId) (v : Nat) : State :=
  let i := 0x8000 + m.val
  let w := s.now
  let c := s.metroCount m w
  let s := s.wr (ob i 0x04) v
  if s.rd (ob i 0x02) = 2 then
    let s := s.wr (ob i 0x05) v
    if s.rd (ob i 0x01) = 2 ∧ s.metroUp m = true ∧ v ≤ c then
      ((s.wr (ob i 0x07) 0).setMetro m (fun x => { x with base := c, since := w })).metroRaise m 3 w c true
    else s
  else s

/-- The count of a RUNNING metronome at `w` taken as the value it counts on from, its scheduled instants unchanged (R451): matches are judged
from there. -/
def State.metroRebase (s : State) (m : MetroId) (w : Nat) : State :=
  if s.rd (ob (0x8000 + m.val) 0x01) = 2 then
    let c := if s.metroUp m then min (s.rd (ob (0x8000 + m.val) 0x05)) (s.metroCount m w) else s.metroCount m w
    s.setMetro m (fun x =>
      { x with base := c, since := x.since + (if x.base ≤ c then c - x.base else x.base - c) * s.metroUnit m })
  else s

/-- A write of the compare (R456): the live compare takes it, a pending wrap is cleared; it matches only where counting reaches it from the
present count on. -/
def State.compareWrite (s : State) (m : MetroId) (v : Nat) : State :=
  let i := 0x8000 + m.val
  ((s.metroRebase m s.now).wrAll [(ob i 0x08, v), (ob i 0x0A, v)]).setMetro m (fun x => { x with wrap := none })

/-- Status of a write to a metronome (R457, R459, R460): VALUE_RANGE 0x05, IN_USE 0x06, else 0. -/
def State.metroCheck (s : State) (m : MetroId) (sub v : Nat) : Nat :=
  let i := 0x8000 + m.val
  let stopped := s.rd (ob i 0x01) == 0
  let us := s.rd (ob i 0x03) == 0
  match sub with
  | 0x02 => if 2 < v then 5 else if !stopped then 6 else 0
  | 0x03 => if 1 < v then 5 else if !stopped then 6 else 0
  | 0x04 => if v = 0 ∨ (us = true ∧ v < 50) then 5 else 0
  | 0x09 => if (us = true ∧ 1 ≤ v ∧ v < 50) ∨ (v ≠ 0 ∧ s.rd (ob i 0x02) = 2 ∧ stopped = false) then 5 else 0
  | 0x0C =>
    if v = 0xFFFF then 0
    else match s.metroTenant m with
      | none => if 1072 ≤ v ∧ v < 1136 ∧ s.metroTenant ⟨(v - 1072) / 4 % 16, Nat.mod_lt _ (by decide)⟩ = none then 0 else 5
      | some t =>
        if 1072 ≤ v ∧ v < 1136 then
          (if s.metroTenant ⟨(v - 1072) / 4 % 16, Nat.mod_lt _ (by decide)⟩ = some t then 0 else 5)
        else if v < 768 ∧ eventDefined v = true ∧ s.channelTenant (v / 12) = some t then 0 else 5
  | 0x0D => if 1 < v then 5 else 0
  | 0x0E =>
    if v = 0 ∨ 3 < v then 5
    else if ((v = 1 ∧ stopped = true) ∨ v = 3) ∧ s.strideBlocks m = true then 5 else 0
  | _ => 0

end Sys2Proof.Machine
end

