-- ==== Sys2Proof/Machine/TenantOps.lean ====
section
/-! DEFINITION. What a tenant's reset and its deletion do (R27, R80, R299, R339, R372, R402, R410 to R412), and the clearing of what
leaves a tenant (R414, R466). -/

namespace Sys2Proof.Machine

/-! ### Objects back at their defaults -/

/-- Access class of a key's row. -/
def keyAccess (k : Nat) : Option Access := (Dict.row? (keyIndex k) (keySub k)).map Row.acc

/-- Whether a key is tenant `t`'s copy of a per-tenant object. -/
def ownCopy (t : Tenant) (k : Nat) : Bool :=
  k % 8 == t.val && (match Dict.row? (keyIndex k) (keySub k) with | some r => r.per | none => false)

/-- Listed values of keys that satisfy `p` gone, so that they read their defaults. -/
def State.forgetKeys (s : State) (p : Nat → Bool) : State := { s with objs := s.objs.filter (fun e => !p e.1) }

/-- A tenant's RW per-tenant copies at their defaults (R372). -/
def State.copiesBack (s : State) (t : Tenant) : State := s.forgetKeys (fun k => ownCopy t k && keyAccess k == some .rw)

/-! ### Tenant reset (R410) -/

/-- A voice leaves an abandoned step: a request frame on air completes first (R27), the down-ramp is the step's own. -/
def State.abandonVoice (s : State) (v : VoiceId) : State :=
  match s.voices[v].exchange with
  | some x =>
    if x.air == .sending then s.setVoice v (fun y => { y.undefer with abandoned := true }) else s.releaseVoice v
  | none => s.releaseVoice v

/-- Steps of a tenant that a voice holds or has deferred. -/
def Voice.stepsOf (x : Voice) (t : Tenant) : List Grant :=
  (x.grant.toList ++ x.deferred.toList).filter (fun g => g.step.tenant == t && g.step.tuning.isNone)

/-- The steps of a tenant abandoned (R27, R80): each granted one would have given a result, which is discarded and counted (R411); every
score of the tenant is IDLE (R163). -/
def State.abandonSteps (s : State) (t : Tenant) : State :=
  let s : State := { s with dues := s.dues.filter (fun d => d.tenant != t || d.tuning.isSome) }
  let s := voiceIds.foldl (fun s v =>
    let l := s.voices[v].stepsOf t
    if l.isEmpty || s.voices[v].abandoned then s
    else
      let s := s.add (ob (0x9020 + t.val) 0x05) l.length
      if s.voices[v].grant.any (fun g => g.step.tenant == t) then s.abandonVoice v
      else if s.voiceState v = 6 then s.abandonVoice v
      else s.setVoice v Voice.undefer) s
  scoreIds.foldl (fun s i =>
    if s.scoreTenant i = some t then
      let s := s.cancelAll (fun tm => match tm with | .deadline j _ => j == i | .wait j _ => j == i | _ => false)
      ((s.scoreRest i).wr (ob (0xA000 + i.val) 0x02) 0).setScore i (fun x => { x with triggers := 0 })
    else s) s

/-- Requests, replies and the open block of a tenant discarded without reply (R402). -/
def State.dropRequests (s : State) (t : Tenant) : State :=
  let s := (s.setQueue t (fun _ => [])).cancel (.blockLapse t)
  { s with svc := { s.svc with
      replies := s.svc.replies.filter (fun r => r.tenant != t),
      blocks := s.svc.blocks.set t none } }

/-- Whether a kind of frame carries a tenant's report or reply. -/
def OutKind.of (t : Tenant) (k : OutKind) : Bool := k.tenant == some t

/-- The results of steps that stand in a tenant's event queue, reported or not (stages 8 and 9 of Table 1-2). -/
def State.queuedResults (s : State) (t : Tenant) : Nat :=
  (s.router.boxes[t].queue.filter (fun q => decide (q.event < 768) && q.event % 12 == 1)).length

/-- A tenant's queued events and reports discarded (R299, R339), each step result among them counted (R27, R411): a mesh frame with the
air die and a frame in the line die's buffer complete, their results being discarded. -/
def State.dropReports (s : State) (t : Tenant) : State :=
  let s := s.add (ob (0x9020 + t.val) 0x05) (s.queuedResults t)
  let s := s.setBox t (fun b => { b with queue := [], marker := none })
  let s := s.dropFrames (fun k => k.of t)
  let s : State := { s with line := { s.line with queue := s.line.queue.filter (fun m => m.tenant != some t) } }
  s.freeReport t

/-- Steps 2 to 4 of a tenant reset. -/
def State.tenantCleared (s : State) (t : Tenant) : State :=
  let s := (s.abandonSteps t).abortTunings (fun u => u.tenant == t && !u.auto)
  let s := ((s.dropRequests t).dropReports t).pocketLeave t
  let s := voiceIds.foldl (fun s v => s.setVoice v (fun x => match x.session with
    | some z => if z.tenant = t then { x with session := some { z with auth := none } } else x
    | none => x)) s
  s.copiesBack t

/-- A tenant reset begun; one in progress takes a further one in (R422). (DEDUCED, log entry 28.) -/
def State.tenantReset (s : State) (t : Tenant) : State :=
  if s.tenantState t = 1 then (s.wr (ob (0x9020 + t.val) 0x01) 2).tenantCleared t else s

/-- Whether a voice that a tenant held is still away from FLOOR. -/
def State.holdsVoice (s : State) (t : Tenant) : Bool :=
  voiceIds.any (fun v => s.voices[v].owner == some t && !(s.voiceState v == 0 || s.voiceState v == 7 || s.voiceState v == 8))

/-- Step 5: the tenant is ACTIVE again, and the reset is counted and dated (R634). -/
def State.tenantBack (s : State) (t : Tenant) : State :=
  let i := 0x9020 + t.val
  let s := (s.inc (ob i 0x03)).wrAll [(ob i 0x01, 1), (ob i 0x04, s.now)]
  s.commit (.own [(ob i 0x03, s.rd (ob i 0x03)), (ob i 0x04, s.rd (ob i 0x04))])

/-! ### What leaves a tenant -/

/-- A score slot cleared: header at its defaults, step records and payload store all 0x00 (step 3 of R412). -/
def State.clearSlot (s : State) (i : ScoreId) : State :=
  let s := s.cancelAll (fun tm => match tm with | .deadline j _ => j == i | .wait j _ => j == i | _ => false)
  (s.forgetKeys (fun k => keyIndex k == 0xA000 + i.val || keyIndex k == 0xA100 + i.val || keyIndex k == 0xA200 + i.val)).setScore i
    (fun _ => { triggers := 0, open_ := [], next := 1, failed := none, ending := false })

/-- Keys of a cleared score slot that the NVA holds. -/
def State.slotKept (s : State) (i : ScoreId) : List (Nat × Nat) :=
  (s.nvaObjs.filter (fun e => keyIndex e.1 == 0xA000 + i.val || keyIndex e.1 == 0xA100 + i.val)).map (fun e => (e.1, Dict.dflt e.1))

/-- Slots of a tenant's keys (Table 15-2): eight tag slots, its service slot and its pocket slot. -/
def tenantSlots (t : Tenant) : List Nat := (List.range 8).map (fun n => 8 * t.val + n) ++ [0x40 + t.val, 0x48 + t.val]

/-- A slot's objects when it is EMPTY. -/
def State.emptySlot (s : State) (c : Nat) : State :=
  ([2, 3, 4, 5].foldl (fun s n => s.reset1 (ob (0x9100 + c) n)) s).cancel (.suspension c)

/-- A grant whose AUTH step uses an erased slot ends KEY_DENIED when it comes to an end (R196). -/
def Grant.deny (g : Grant) (c : Nat) : Grant :=
  if g.step.tuning.isNone && byteAt g.step.record 0 == 0x0A && byteAt g.step.record 15 == c then { g with denied := true } else g

/-- What ends with the erasure of a key: an authenticated session or AUTH step of a tag slot (R186, R196), the pocket session of a
pocket slot after its command (R366). -/
def State.keyGone (s : State) (c : Nat) : State :=
  if c < 0x40 then voiceIds.foldl (fun s v => s.setVoice v (fun x =>
    { x with
        grant := x.grant.map (·.deny c), deferred := x.deferred.map (·.deny c)
        session := x.session.map (fun z => if z.auth.any (fun a => a.2.1 == c) then { z with auth := none } else z) })) s
  else if 0x48 ≤ c ∧ c ≤ 0x4F then
    (if s.rd (ob 0x5400 0x03) = c - 0x48 then s.pocketClose else s).commissionPage
  else s

/-- Delivery set of a slot's key events (R445). -/
def slotSet (c : Nat) : List Tenant :=
  if c < 0x40 then (tenant? (c / 8)).toList else if c ≤ 0x4F then t0 :: (tenant? (c % 8)).toList else [t0]

/-! ### Deletion (R412) -/

/-- The pending states of a tenant's domain end, its records become CLEARED with DOMAIN_DELETED set (R510). -/
def State.domainDeleted (s : State) (t : Tenant) : State :=
  let s : State := { s with faults := { s.faults with
    pending := s.faults.pending.filter (fun p => p.2 != t.val),
    causes := s.faults.causes.filter (fun c => c.2.1 != t.val),
    latched := s.faults.latched.filter (fun l => l.2.1 != t.val) } }
  let s := s.cancel (.handling t)
  (s.faults.ring.filter (fun p => p.2.domain == t && p.2.state != 2)).foldl (fun s p =>
    let r : FaultRecord := { p.2 with state := 2, clearedAt := s.now, flags := p.2.flags ||| 4, resets := 0 }
    let s := (s.setRecord p.1 (fun _ => r)).commit (.fault p.1)
    if (s.reaction r.source).testBit 0 then s.raise 1202 [t0] r.record else s) s

/-- A tenant's allotment of subindex `sub`: what its record holds, with what the NVA holds of it until the deletion is committed. -/
def State.allotHeld (s : State) (t : Tenant) (sub : Nat) : Nat := s.rd (ob (0x9010 + t.val) sub) ||| s.nva (ob (0x9010 + t.val) sub)

/-- The keys whose committed values a deletion returns to their defaults. -/
def State.deletedKeys (s : State) (t : Tenant) : List Nat :=
  let slot := fun k => scoreIds.any (fun i => (s.allotHeld t 0x03).testBit i.val &&
    (keyIndex k == 0xA000 + i.val || keyIndex k == 0xA100 + i.val))
  let metro := fun k => metronomes.any (fun m => (s.allotHeld t 0x02).testBit m.val && keyIndex k == 0x8000 + m.val)
  let own := fun k => ownCopy t k && keyAccess k == some .rwp
  (((s.nvaObjs ++ s.objs).map Prod.fst).filter (fun k => slot k || metro k || own k)) ++
    [ob 0x1035 (t.val + 1), ob 0x1030 (t.val + 1)] ++ (List.range 8).map (fun n => ob (0x9010 + t.val) (n + 1))

/-- Steps 1 to 8 of a deletion, in order; the key slots leave with the commit. -/
def State.tenantFreed (s : State) (t : Tenant) : State :=
  let keys := s.deletedKeys t
  let gone := (s.tags.filter (fun p => p.2.owner == t)).map Prod.fst
  let chans := s.rd (ob (0x9010 + t.val) 0x01)
  let slots := s.rd (ob (0x9010 + t.val) 0x03)
  let metros := s.rd (ob (0x9010 + t.val) 0x02)
  let s := s.wr (ob (0x9010 + t.val) 0x01) 0
  let s := channels.foldl (fun s c => if chans.testBit c.val then s.allot c.val else s) s
  let s := metronomes.foldl (fun s m => if metros.testBit m.val then s.metroDefaults m else s) s
  let s := scoreIds.foldl (fun s i => if slots.testBit i.val then s.clearSlot i else s) s
  let s : State := { s with
    tags := s.tags.filter (fun p => p.2.owner != t),
    cal := { s.cal with anchors := s.cal.anchors.filter (fun a => !gone.contains a.1) } }
  let s := if gone.isEmpty then s else s.commit .tags
  let s := (tenantSlots t).foldl (fun s c =>
    if s.keys.slots.any (fun p => p.1 == c) then ((s.emptySlot c).keyGone c).raise 1137 (slotSet c) (u8 c ++ u8 0) else s) s
  let s := s.setBox t (fun b => { b with subs := [] })
  let s := keys.foldl State.reset1 s
  let s : State := { s with charges := s.charges.filter (fun p => p.2 != t) }
  s.commit (.deletion t)

/-- DELETE: the tenant's reset, then what it holds is freed. The state is committed first, so that a loss of supply leaves a deletion
to complete (R425). (DEDUCED, log entry 28.) -/
def State.tenantDelete (s : State) (t : Tenant) : State :=
  let s := metronomes.foldl (fun s m => if (s.rd (ob (0x9010 + t.val) 0x02)).testBit m.val then s.metroCaught m else s) s
  let k := ob (0x9020 + t.val) 0x01
  let s := (s.wr k 3).tenantCleared t
  let s := (s.domainDeleted t).commit (.own [(k, 3)])
  s.tenantFreed t

/-- Whether a commit may be one of a tenant's deletion: the deletion's own, of the tag table, or of a freed channel's readings. -/
def Commit.ofDeletion (t : Tenant) : Commit → Bool
  | .deletion u => u == t
  | .tags => true
  | .own w => w.any (fun p => keyIndex p.1 == 0x9020 + t.val || (decide (0x2200 ≤ keyIndex p.1) && decide (keyIndex p.1 ≤ 0x223F)))
  | _ => false

/-- Whether a deletion's first step has taken effect on every channel and its commits have succeeded; one that failed is still to be made
again (R412). -/
def State.deletionDone (s : State) (t : Tenant) : Bool :=
  !channels.any (fun c => s.channelTenant c.val == some t) && !s.holdsVoice t &&
    !(s.order ++ s.again.map Prod.snd).any (Commit.ofDeletion t)

end Sys2Proof.Machine
end

