-- ==== Sys2Proof/Machine/ResetOps.lean ====
section
/-! DEFINITION. Reset's shared operations (chapters 19 and 20): the reach of each kind, requests (R517 to R519), assertion with its records,
epochs and retirement (R529, R538, R540), what each die loses (R520, R541), and a link's failure and recovery (R547, R548). -/

namespace Sys2Proof.Machine

/-! ### Reach (Table 19-1, R530) -/

/-- The reach of two resets together. -/
def Reach.union (a b : Reach) : Reach :=
  ⟨a.conductor || b.conductor, a.field || b.field, a.air || b.air, a.line || b.line, a.pocket || b.pocket, a.chip || b.chip⟩

/-- What of `a` lies outside `b`. -/
def Reach.minus (a b : Reach) : Reach :=
  ⟨a.conductor && !b.conductor, a.field && !b.field, a.air && !b.air, a.line && !b.line, a.pocket && !b.pocket, a.chip && !b.chip⟩

/-- Whether a reach names nothing. -/
def Reach.empty (r : Reach) : Bool := !(r.conductor || r.field || r.air || r.line || r.pocket || r.chip)

/-- The reach of a CHIP reset. -/
def Reach.all : Reach := ⟨true, true, true, true, true, true⟩

/-- The smallest kind of Table 19-1 that covers a union which includes the conductor; a union of satellite dies stays as it is. -/
def Reach.smallest (r : Reach) : Reach :=
  if r.chip || (r.conductor && r.pocket) then Reach.all
  else if r.conductor && (r.field || r.air || r.line) then ⟨true, true, true, true, false, false⟩
  else r

/-- The reach of a kind code. -/
def kindReach : Nat → Reach
  | 2 => { Reach.none with field := true }
  | 3 => { Reach.none with air := true }
  | 4 => { Reach.none with line := true }
  | 5 => { Reach.none with pocket := true }
  | 6 => { Reach.none with conductor := true }
  | 7 => ⟨true, true, true, true, false, false⟩
  | 8 => Reach.all
  | _ => Reach.none

/-- The reach of the bitmap of 0x7200.02. -/
def bitsReach (b : Nat) : Reach := ⟨false, b.testBit 0, b.testBit 1, b.testBit 2, b.testBit 3, false⟩

/-- The kind code of a reach; of several block resets together, the lowest (DESIGN CHOICE, log entry 26). -/
def Reach.kind (r : Reach) : Nat :=
  if r.chip then 8 else if r.conductor && r.field then 7 else if r.conductor then 6 else if r.field then 2 else if r.air then 3
  else if r.line then 4 else if r.pocket then 5 else 0

/-- Whether a reach names a satellite die. -/
def Reach.has (r : Reach) : Die → Bool
  | .field => r.field | .air => r.air | .line => r.line | .pocket => r.pocket

/-- A die taken out of a reach. -/
def Reach.drop (r : Reach) : Die → Reach
  | .field => { r with field := false } | .air => { r with air := false } | .line => { r with line := false }
  | .pocket => { r with pocket := false }

/-- The satellite dies of a reach. -/
def Reach.dies (r : Reach) : List Die := Die.all.filter r.has

/-- The bits of a reach as fault records count resets: the blocks, and bit 4 for the chip. -/
def Reach.bits (r : Reach) : Nat := if r.chip then 31 else r.dies.foldl (fun n d => n + 2 ^ d.link.val) 0

/-! ### Requests (R517, R518) -/

/-- A reset that falls due, after the reply named has been handed over. -/
def State.askReset (s : State) (r : Reach) (cause kind requester detail : Nat) (reply : Option Nat) : State :=
  let p : Pending :=
    { id := s.rst.nextId, reach := r, cause := cause, kind := kind, requester := requester, detail := detail, reply := reply }
  { s with rst := { s.rst with waiting := s.rst.waiting ++ [p], nextId := s.rst.nextId + 1 } }

/-- The cause of a command by its transport (Table 19-2). -/
def commandCause : Transport → Nat
  | .host => 6 | .mesh => 7 | .line => 8 | .pocket => 9

/-- Whether a reset that waited for its reply may begin (R518). -/
def State.ripe (s : State) (p : Pending) : Bool := p.reply.isNone || s.isDue (.resetWait p.id)

/-- Whether what a reset reaches is in the middle of a page commit, or of a seal write, that it lets complete (R519); `between` says that
no NVA commit has begun. An activation of the air die also lets TX_ON, TX and TX_OFF end (R440). -/
def State.resetWaits (s : State) (p : Pending) (between : Bool) : Bool :=
  (p.reach.conductor && !between && !s.order.isEmpty) ||
    (p.reach.pocket && s.pocket.running && s.pocket.commits.any (fun c => c.phys.isSome)) ||
    (p.reach.air && s.rd (ob 0x4000 0x04) == 6) ||
    (p.cause == 5 && p.reach.air && decide (5 ≤ s.airState) && decide (s.airState ≤ 7))

/-! ### Epochs and retirement (R538, R540) -/

/-- The epoch after another: 0x00 is never used. -/
def nextEpoch (e : Nat) : Nat := if e = 255 then 1 else (e + 1) % 256

/-- The requests outstanding on a link retired: counted, with the time that it took, which has no bound below tempo 1.0 and so is a free
value; none outstanding take no time. -/
def State.retire (s : State) (d : Die) : State :=
  let n := s.links[d.link].tags.length + s.links[d.link].waiting.length
  let s := (s.add (ob d.index 0x05) n).setLink d (fun l => { l with tags := [], waiting := [] })
  let (t, s) := if n = 0 then (0, s) else s.free1 65536
  (s.wr (ob d.index 0x0A) t).wr (ob d.index 0x0B) (max t (s.rd (ob d.index 0x0B)))

/-- The mirrored epoch of a die incremented and everything outstanding retired; the partial FIELD window ends with the field die's epoch
(R48). -/
def State.newEpoch (s : State) (d : Die) : State :=
  let s := s.wr (ob d.index 0x02) (nextEpoch (s.rd (ob d.index 0x02)))
  (if d = .field then s.dropWindow else s).retire d

/-- A link's timers cancelled. -/
def State.linkTimers (s : State) (d : Die) : State := (s.cancel (.alive d)).cancel (.resync d)

/-- A link's state changed; the cause of LINK_FAULT is present while it is FAILED (R547). -/
def State.linkTo (s : State) (d : Die) (n : Nat) : State :=
  let s := s.wr (ob d.index 0x01) n
  if n = 3 then s else s.causeEnd (128 + d.link.val)

/-- The link of a die that a reset reaches: DOWN, its epoch one on at both ends. -/
def State.linkDown (s : State) (d : Die) : State :=
  let s := ((s.linkTimers d).linkTo d 0).newEpoch d
  s.setLink d (fun l => { l with epoch := s.rd (ob d.index 0x02), up := false, reload := false })

/-! ### What each die gives up (R520, R541, R548) -/

/-- Steps dispatched to the field die end with LINK_RETIRED (R28). -/
def State.retireSteps (s : State) : State := voiceIds.foldl (fun s v => s.cutStep v 0x15) s

/-- The field die's work abandoned: modulation stops, every emitting voice ramps to floor, then VFLD_EN goes low (R79); tunings of its
targets end CAL_ABORTED (R223); detectors stop. -/
def State.fieldAbandon (s : State) : State :=
  let s := s.abortTunings (fun u => (tuneVoice u.kind u.target).isSome || u.kind == 0x0A)
  let s := voiceIds.foldl (fun s v => s.dropVoice v 0x15) s
  let s := channels.foldl (fun s c =>
    if s.isOn (ob (0x2500 + c.val) 0x01) then (s.wrAll [(ob (0x2500 + c.val) 0x04, 0), (ob (0x2500 + c.val) 0x06, 0)]).cancel (.probe c)
    else s) s
  let s : State := { s with cal := { s.cal with autos := s.cal.autos.filter (fun a => a.1 < 4 || 7 ≤ a.1) } }
  s.boostIdle

/-- Requests to the air die end with LINK_RETIRED (R298). -/
def State.retireAir (s : State) : State :=
  let l := s.air.requests
  l.foldl (fun s r => s.txEnded r 9) { s with air := { s.air with requests := [], counted := false } }

/-- The air die's off sequence (R261): a frame in TX is cut, what the on sequence had begun is undone, and a sequence already under way goes
on. Outside transmission the die is OFF at once. -/
def State.airCut (s : State) : State :=
  let st := s.airState
  let ramped := st == 6 || (st == 5 && s.isArmed .paUp && decide (s.air.rampAt ≤ s.now))
  let s := s.cueStop.retireAir
  let s := ((((((s.cancel .preamble).cancel .airStart).cancel .airClock).cancel .synLock).cancel .synHold).cancel .synRun).cancel .paUp
  let s : State := { s.cancel .txEnd with air := { s.air with
    stop := false, synEntry := none, synLocked := false, biasDone := false, retune := [], first := none } }
  let s := if 5 ≤ st ∧ st ≤ 6 ∧ s.frontEnd = true then s.wr (ob 0x4030 0x08) 3 else s
  if ramped then
    let us := match s.air.tx with | some r => r.edgeUs | none => 16
    let s := match s.air.tx with | some r => s.txEnded r 9 | none => s
    (s.setAir 7).armIn .paDown us
  else if st = 5 then
    let s := match s.air.tx with | some r => s.txEnded r 9 | none => s
    ({ s.setAir 7 with air := { s.air with tx := none } } : State).feOff
  else if st = 7 then s
  else s.airOff

/-- The air die's work abandoned, with its tunings. -/
def State.airAbandon (s : State) : State := (s.abortTunings (fun u => airKind u.kind)).airCut

/-- The line die's work abandoned: a frame it sends is dropped, what the head awaits ends LINK_RETIRED (R334). -/
def State.lineAbandon (s : State) : State :=
  let s := match s.line.ask with
    | some (.data m) => s.lineLost m 0x0E 0
    | some (.isolate a) => s.lineFailed none 0x0E 0 a
    | _ => s
  let s := match s.line.ask, s.line.outBuf with
    | none, some m => if m.tries = 0 then s else s.lineLost m 0x0E 0
    | _, _ => s
  let s := ((s.cancel .lineReply).cancel .lineWindow).closeBypass
  { s with line := { s.line with
    reply := none, pulse := none, ask := none, outBuf := none, inBuf := none, cycle := [], inCycle := false, skipData := false,
    search := none, part := none, passing := false, passLen := 0, passBits := 0, flags := [] } }

/-- The pocket die's bridge command in progress answered BRIDGE_RETIRED. -/
def State.bridgeRetired (s : State) : State := s.bridgeEnd [] 0x910E

/-- The work that a die's link carries ends with LINK_RETIRED or BRIDGE_RETIRED (R541). (DESIGN CHOICE, log entry 26.) -/
def State.retireWork (s : State) : Die → State
  | .field => s.retireSteps
  | .air => s.retireAir
  | .line => (match s.line.ask with
      | some (.data m) => s.lineLost m 0x0E 0
      | _ => s)
  | .pocket => s.bridgeRetired

/-! ### What a reset takes from each die -/

/-- The line die in reset: its bypass closed, its buffers and its address gone until the conductor loads them again (R334); a head's driver
holds the idle voltage (R335). -/
def State.lineDown (s : State) : State :=
  let s := s.lineAbandon.cancelAll (fun tm => tm == .linePoll || tm == .lineTime || tm == .presence || tm == .addressHold)
  (s.setLine 0).wr (ob 0x5000 0x04) 0xFF

/-- What the assertion of a reset takes from a satellite die; `hard` says that it did not wait (R519). -/
def State.dieDown (s : State) (d : Die) (hard : Bool) : State :=
  let s := s.linkDown d
  match d with
  | .field => (s.fieldAbandon).wr (ob 0x2030 0x05) 0
  | .air => s.airAbandon.sealForget
  | .line => s.lineDown
  | .pocket => (if hard then s.tearCommit else s).pocketStop

/-- Timers of the conductor and of its MAC, which a reset of the conductor cancels; those of the always-on domain and of the satellite
dies run on. -/
def conductorTimer : Timer → Bool
  | .deadline _ _ | .wait _ _ | .firstRun _ | .repeatRun _ | .refEdge _ | .refGate _ => true
  | .lbt | .backoff | .immAck | .ackWait | .joinScan | .join | .joinRetry | .slot | .timeBroadcast | .unsync | .unsyncScan | .homeSwitch
  | .poll | .pendingWait => true
  | .sync _ | .indirect _ | .child _ | .cueDelay _ | .cueRetry _ | .route _ | .dup _ | .reportRetry _ => true
  | .blockLapse _ | .resetWait _ | .quiesce | .rest | .startTimeout | .shed => true
  | _ => false

/-- The MAC's memory lost, but for what the NVA holds: the address table and the ends of the counter blocks. -/
def State.macLost (s : State) : State :=
  let m := s.mac
  let s : State := { s with mac := { Mac.reset with
    addresses := m.nvaAddresses, nvaAddresses := m.nvaAddresses, ends := m.ends, lowTold := m.lowTold, seq := m.seq, meshSeq := m.meshSeq } }
  s.wrAll [(ob 0x4100 0x04, 0xFFFE), (ob 0x4100 0x05, 0xFF), (ob 0x4100 0x06, 0), (ob 0x4110 0x07, 0), (ob 0x4120 0x02, 0xFFFF)]

/-- The values that a commit of the order would have made permanent go back to the NVA's. -/
def State.uncommit (s : State) (c : Commit) : State :=
  match c with
  | .own w => s.wrAll (w.map (fun p => (p.1, s.nva p.1)))
  | .dict _ _ w => s.wrAll (w.map (fun p => (p.1, s.nva p.1)))
  | _ => s

/-- All SRAM state of the conductor lost (R403, R484, Table 19-1): command queues, replies and blocks, event queues and markers, scores,
tunings, crypto jobs, the MAC, what waits on the line, commits not made
but for the checkpoint's, which is of the time base (R41, R51), and that of user values, which no reset changes (R227), and the tempo
measurement (R51); a verification ends with its bank LOADED (R450). (DEDUCED, log entry 26.) -/
def State.conductorLost (s : State) : State :=
  let s : State := { s with dues := [] }
  let s := scoreIds.foldl (fun s i => (s.scoreRest i).setScore i (fun x => { x with triggers := 0 })) s
  let s := voiceIds.foldl (fun s v =>
    let s := s.setVoice v (fun x => { x.undefer with grant := none, abandoned := false, exchange := none, session := none })
    if s.emitting v && s.voiceState v != 5 then s.releaseVoice v else s) s
  let s := s.abortTunings (fun _ => true)
  let s := (s.order ++ s.again.map Prod.snd).foldl State.uncommit s
  let s := (s.cancelAll conductorTimer).macLost.sealForget.bridgeRetired
  let s := if s.rd (ob 0x9300 0x03) = 2 then
      (s.wr (ob (0x9320 + s.keys.imageTarget) (if s.keys.imageBank = 0 then 0x02 else 0x05)) 2).wr (ob 0x9300 0x03) 0 else s
  { s with
    order := s.order.filter Commit.survives
    retried := s.retried && s.order.head?.any Commit.survives
    again := s.again.filter (fun p => p.2.survives)
    time := { s.time with gate := none }
    rst := { s.rst with waiting := [], quiescing := none, quiet := false }
    svc := { s.svc with
      queues := Vector.replicate 8 [], inbound := [], replies := [], blocks := Vector.replicate 8 none, turn := 7 }
    host := { s.host with lastError := false, sent := [] }
    router := { s.router with
        boxes := s.router.boxes.map (fun b =>
        { b with queue := [], marker := none, reserving := false, nextSeq := b.seqEnd }) }
    crypto := { s.crypto with queues := Vector.replicate 8 [], running := none, turn := 7 }
    cal := { s.cal with queue := [], running := [], windows := [], counts := [], tracks := s.cal.tracks.map (fun p => (p.1, p.2.cleared)) }
    line := { s.line with queue := [], cmds := [], wanted := false, walk := false, table := s.line.nvaTable, isolated := none }
    pocket := { s.pocket with inbox := false } }

/-! ### Assertion (R514, R520, R522, R524, R529 to R532) -/

/-- Whether a reset reaching the conductor is asserted, or the conductor starts (R532). -/
def State.conductorAway (s : State) : Bool := s.rst.conductor != .running

/-- The general pins when a reset asserts (R522): CHIP takes them to their reset state, any other that reaches the conductor holds them. -/
def State.holdPins (s : State) (r : Reach) : State :=
  let s : State := if r.conductor then { s with pins := { s.pins with gpHeld := true } } else s
  if r.chip then (List.range 16).foldl (fun s g => s.wrAll [(ob (0x1090 + g) 0x08, 0), (ob (0x1090 + g) 0x05, 0)]) s else s

/-- RESET_N driven low where the mask of 0x7210.08 asks for it, and always by POWER_ON (R524); never without VIO (R582). -/
def State.driveReset (s : State) (r : Reach) (cause : Nat) : State :=
  let m := s.rd (ob 0x7210 0x08)
  let want := cause == 0 || (r.chip && m.testBit 0) || (r.kind == 7 && m.testBit 1) || (r.kind == 6 && m.testBit 2)
  if want && s.isOn (ob 0x1060 0x06) then
    ({ s with pins := { s.pins with resetLow := true }, rst := { s.rst with drive := true } } : State).armIn .stretch (s.rd (ob 0x7210 0x09))
  else s

/-- The record of one block reset (Table 19-7). -/
def State.blockRecord (s : State) (d : Die) (cause requester : Nat) : State :=
  let k := ob 0x7220 (d.link.val + 1)
  let n := leNat (slice 4 4 (leBytes 16 (s.rd k)))
  s.wr k (leNat (u8 cause ++ u8 requester ++ [0, 0] ++ u32 (n + 1) ++ u64 s.now))

/-- The causes of several resets recorded: the one listed highest in Table 19-2, every sticky bit, and at a first assertion the instant
(R516, R529, R530). (DESIGN CHOICE, log entry 26.) -/
def State.recordCause (s : State) (l : List Pending) (r : Reach) (first : Bool) : State :=
  let top := l.foldl (fun (b : Option Pending) p => match b with
    | none => some p
    | some q => if p.cause < q.cause then some p else some q) none
  match top with
  | none => s
  | some p =>
    let s := s.wr (ob 0x7210 0x06) (l.foldl (fun n p => n ||| 2 ^ p.cause) (s.rd (ob 0x7210 0x06)))
    let s := s.wr (ob 0x7210 0x02) r.kind
    let s := if first || decide (p.cause < s.rd (ob 0x7210 0x01)) then
        s.wrAll [(ob 0x7210 0x01, p.cause), (ob 0x7210 0x03, p.requester), (ob 0x7210 0x04, p.detail)] else s
    if first then s.wr (ob 0x7210 0x05) s.now else s

/-- The conductor goes into reset: its state is lost, its epoch is one on, and every link is taken up again at its start (R549). -/
def State.conductorDown (s : State) : State :=
  let again := Die.all.filter (fun d => s.links[d.link].up)
  let stopped := s.osc27Stopped
  let s := s.conductorLost
  let s := s.wr (ob 0x7500 0x01) (nextEpoch (s.rd (ob 0x7500 0x01)))
  let s := again.foldl (fun s d => ((s.linkTimers d).linkTo d 0).retire d) s
  let s : State := if stopped then { s with time := { s.time with restart := true } } else s
  let s : State := { s with rst := { s.rst with conductor := .held } }
  if s.runState = 0 then s else s.setRun 0

/-- Resets asserted: alone, or merging into or widening one that is (R530, R531). What is newly reached loses its state; a start of the
conductor that is under way is abandoned. `hard` says that they did not wait (R519). -/
def State.assertResets (s : State) (l : List Pending) (hard : Bool) : State :=
  let old := if s.rst.asserted then s.rst.reach else Reach.none
  let r := (l.foldl (fun r p => r.union p.reach) old).smallest
  let fresh := r.minus old
  let first := !s.rst.asserted
  let s := s.recordCause l r first
  let p := (l.head?).map (fun p => (p.cause, p.requester))
  let s := if r.conductor then s else fresh.dies.foldl (fun s d => s.blockRecord d ((p.map Prod.fst).getD 0) ((p.map Prod.snd).getD 0xFF)) s
  let s := s.holdPins fresh
  let s := if fresh.conductor then s.conductorDown else s
  let s := fresh.dies.foldl (fun s d => s.dieDown d hard) s
  let s : State := if s.rst.conductor = .starting then
      { s.cancel .startTimeout with rst := { s.rst with conductor := .held, toRelease := { s.rst.toRelease with conductor := true } } } else s
  let s : State := { s with rst := { s.rst with
    asserted := true, reach := r, toRelease := s.rst.toRelease.union r
    since := if first then s.now else s.rst.since } }
  s.driveReset fresh ((p.map Prod.fst).getD 9)

/-- A reset that asserts at once with a cause of its own. -/
def State.assertNow (s : State) (r : Reach) (cause detail : Nat) (hard : Bool) : State :=
  s.assertResets [{ id := s.rst.nextId, reach := r, cause := cause, kind := r.kind, requester := 0xFF, detail := detail, reply := none }] hard

/-- A reset that falls due with a cause of its own: at once, or once what it reaches has let its page commit or seal write complete (R519). -/
def State.assertOrWait (s : State) (r : Reach) (cause detail : Nat) : State :=
  let p : Pending := { id := s.rst.nextId, reach := r, cause := cause, kind := r.kind, requester := 0xFF, detail := detail, reply := none }
  if s.resetWaits p false then s.askReset r cause r.kind 0xFF detail none else s.assertNow r cause detail false

/-- A tenant reset requested through 0x7200 (R517); one while a reset reaching the conductor is asserted or starting is discarded (R532). -/
def State.tenantAsked (s : State) (n : Nat) : State :=
  match tenant? n with
  | some t => if s.conductorAway then s else s.tenantReset t
  | none => s

/-- The resets that wait, applied: those whose reply is out and whose dies are free, together (R518, R519, R530). A reset of the conductor
alone first quiesces (R515). -/
def State.applyResets (s : State) (between : Bool) : State :=
  let ripe := s.rst.waiting.filter (fun p => s.ripe p && !s.resetWaits p between)
  let s : State := { s with rst := { s.rst with waiting := s.rst.waiting.filter (fun p => !ripe.contains p) } }
  let s := ripe.foldl (fun s p => s.cancel (.resetWait p.id)) s
  let s := (ripe.filter (fun p => p.kind == 1)).foldl (fun s p => s.tenantAsked p.requester) s
  let devs := ripe.filter (fun p => p.kind != 1)
  let held := if s.rst.quiet && (between || s.order.isEmpty) then s.rst.quiescing.toList else []
  let l := devs ++ held
  let r := (l.foldl (fun r p => r.union p.reach) Reach.none).smallest
  if l.isEmpty then s
  else if r.kind = 6 ∧ held.isEmpty ∧ s.up = true then
    match s.rst.quiescing, devs with
    | none, p :: rest =>
      ({ s with rst := { s.rst with quiescing := some p, quiet := false, waiting := s.rst.waiting ++ rest } } : State).armIn .quiesce 2000000
    | _, _ => { s with rst := { s.rst with waiting := s.rst.waiting ++ devs } }
  else
    let l := if r.conductor then devs ++ s.rst.quiescing.toList else l
    s.assertResets l false

/-! ### Links (R542, R547, R548) -/

/-- A link FAILED, its epoch one on and everything outstanding on it retired (R547). -/
def State.linkCut (s : State) (d : Die) : State := ((s.linkTimers d).linkTo d 3).newEpoch d

/-- The work of a link that has been cut ended, the failure counted, announced and raised, and the resynchronisation set (R541, R547). -/
def State.linkReport (s : State) (d : Die) : State :=
  let s := s.retireWork d
  let e := s.rd (ob d.index 0x02)
  let s := (s.setLink d (fun l => { l with reload := false })).inc (ob d.index 0x08)
  let s := (s.raise (1236 + d.link.val) [t0] (u8 d.code ++ u8 e)).fault (128 + d.link.val) e
  s.armIn (.resync d) (s.rd (ob 0x7500 0x03))

/-- A link becomes FAILED (R547). -/
def State.linkFailed (s : State) (d : Die) : State := (s.linkCut d).linkReport d

/-- The reload and the start work of a die (R542), the user values that waited in force (R227): the HF limits and the automatic tunings of the field die, the processing image and the CUE
tuning of the air die, the address of the line die. -/
def State.reloadDie (s : State) (d : Die) : State :=
  let s := s.setLink d (fun l => { l with reload := true })
  let s := s.applyReady (fun r => r.form != .step && ((d == .field && !airKind r.kind) || (d == .air && airKind r.kind)))
  match d with
  | .field =>
    let s := s.loadLimits
    [6, 4, 5].foldl (fun s k => (List.range 4).foldl (fun s n => s.startTuning (autoTuning k (0x100 + n))) s) s
  | .air =>
    let s : State := { s with cal := { s.cal with autos := (8, 0x200) :: s.cal.autos.filter (· != (8, 0x200)) } }
    (s.startTuning (autoTuning 7 0x200)).cueStart
  | .line =>
    let a := s.nva (ob 0x5000 0x01)
    if s.head then
      let s : State := { (s.wr (ob 0x5000 0x01) 0).setLine 5 with line := { s.line with driver := true, presence := true, rate := s.rd (ob 0x5020 0x01) } }
      (s.armIn .linePoll 0).armIn .lineTime (s.rd (ob 0x5020 0x06) * 1000000)
    else if a = 0xFF then s.setLine 1
    else ((s.wr (ob 0x5000 0x01) a).setLine 3).armIn .addressHold (s.rd (ob 0x5010 0x03))
  | .pocket => s

/-- A die's link back to STARTING with an expected ALIVE (R542, R544, R548). -/
def State.linkStarting (s : State) (d : Die) : State := (s.linkTimers d).linkTo d 1

end Sys2Proof.Machine
end

