-- ==== Sys2Proof/Machine/ImageOps.lean ====
section
/-! DEFINITION. Update images (R438 to R444): their banks, and what the restart of a target die does to them. -/

namespace Sys2Proof.Machine

/-- Key of a bank's state, version and security version (n = 0, 1, 2), 0x932t. -/
def bankKey (target bank n : Nat) : Nat := ob (0x9320 + target) (2 + 3 * bank + n)

/-- State of a bank (Table 15-7). -/
def State.bankState (s : State) (target bank : Nat) : Nat := s.rd (bankKey target bank 0)

/-- A bank's state set. -/
def State.setBank (s : State) (target bank n : Nat) : State := s.wr (bankKey target bank 0) n

/-- The bank that runs, 0x932t.01. -/
def State.runningBank (s : State) (target : Nat) : Nat := s.rd (ob (0x9320 + target) 0x01)

/-- The session's state, 0x9300.03. -/
def State.imageSession (s : State) : Nat := s.rd (ob 0x9300 0x03)

/-- Place of a bank's bytes. -/
def bankPlace (target bank : Nat) : Fin 4 := ⟨(2 * (target - 1) + bank) % 4, Nat.mod_lt _ (by decide)⟩

/-- Size of a target's banks (Table 15-5). -/
def bankSize (target : Nat) : Nat := if target = 1 then 262144 else 131072

/-- A bank's bytes. (DESIGN CHOICE, log entry 21.) -/
def State.bankBytes (s : State) (target bank : Nat) : Octets := s.keys.banks[bankPlace target bank]

/-- An image event (Table 17-3). -/
def State.imageEvent (s : State) (e target status bank : Nat) : State := s.raise e [t0] (u8 target ++ u8 status ++ u8 bank)

/-- The session ended with a status. -/
def State.imageIdle (s : State) (status : Nat) : State := s.wrAll [(ob 0x9300 0x03, 0), (ob 0x9300 0x06, status)]

/-- The target die is restarted alone: the conductor once it is quiet (R441), the air die as R440 sets. A stop of the air die in
transmission waits (R263). -/
def State.restartTarget (s : State) (target : Nat) : State :=
  let s : State := { s with rst := { s.rst with imageRestart := some target } }
  if target = 1 then
    if s.rst.quiescing.isSome then s.askReset (kindReach 6) 5 6 0xFF 1 none
    else
      let p : Pending := { id := s.rst.nextId, reach := kindReach 6, cause := 5, kind := 6, requester := 0xFF, detail := 1, reply := none }
      ({ s with rst := { s.rst with quiescing := some p, quiet := false } } : State).armIn .quiesce 2000000
  else
    let s := s.askReset (kindReach 3) 5 3 0xFF 2 none
    if 5 ≤ s.airState ∧ s.airState ≤ 7 then s.airStop else s

/-- The trial's timers cancelled. -/
def State.trialOver (s : State) : State := (s.cancel .trial).cancel .trialAir

/-- A revert from TRIAL (R442): the trial bank REJECTED, the session over; the earlier bank runs from the restart. -/
def State.revertTrial (s : State) : State :=
  match s.keys.trialFrom with
  | none => s
  | some (target, _) =>
    let bad := s.runningBank target
    let s := (s.trialOver.setBank target bad 7).imageIdle 8
    let s := (s.inc (ob (0x9320 + target) 0x09)).imageEvent 1145 target 8 bad
    s.fault 112 target

/-- The bank that a target's restart brings up: the activated one, in TRIAL with IMAGE_ACTIVATED; or after a revert the earlier one
(R440 to R443), whose running ends the cause of IMAGE_TRIAL_FAILED. -/
def State.imageLoaded (s : State) (target : Nat) : State :=
  if s.rst.imageRestart ≠ some target then s
  else
    let s : State := { s with rst := { s.rst with imageRestart := none } }
    if s.imageSession = 4 then
      let b := s.keys.imageBank
      let s : State := { s with keys := { s.keys with trialFrom := some (target, s.runningBank target) } }
      (((s.wr (ob (0x9320 + target) 0x01) b).setBank target b 4).wr (ob 0x9300 0x03) 5).imageEvent 1143 target 0 b
    else
      match s.keys.trialFrom with
      | some (_, b) =>
        let s : State := { s with keys := { s.keys with trialFrom := none } }
        let s := if s.bankState target (1 - b) = 5 then s.setBank target (1 - b) 6 else s
        ((s.wr (ob (0x9320 + target) 0x01) b).setBank target b 5).causeEnd 112
      | none => s

end Sys2Proof.Machine
end

