-- ==== Sys2Proof/Machine/Reset.lean ====
section
/-! DEFINITION. Reset's commands (chapter 19): assertion, release and the release of each die, the conductor start (R526), start-up and
its supervision (R527, R528), and the requests of 0x7200 as the reset controller takes them. -/

namespace Sys2Proof.Machine

/-! ### General pins (R587, R588) -/

/-- A general pin as its record configures it; a METRONOME_OUT pin that does not start afresh keeps its level. -/
def State.applyPin (s : State) (g : Nat) (fresh : Bool) : State :=
  let i := 0x1090 + g
  if !s.isOn (ob 0x1060 0x06) then s
  else match s.rd (ob i 0x01) with
    | 2 => s.wrAll [(ob i 0x05, 0), (ob i 0x08, s.rd (ob i 0x02))]
    | 3 =>
      let s := s.wr (ob i 0x05) 0
      if fresh || s.rd (ob i 0x06) == 0xFF then s.wr (ob i 0x08) (s.rd (ob i 0x02)) else s
    | 1 => s.wr (ob i 0x08) 0
    | _ => s.wrAll [(ob i 0x05, 0), (ob i 0x08, 0)]

/-- The whole configuration applied, at a conductor start or when VIO becomes present. -/
def State.applyPins (s : State) (fresh : Bool) : State :=
  let s : State := { s with pins := { s.pins with gpHeld := false } }
  (List.range 16).foldl (fun s g => s.applyPin g fresh) s

/-! ### The pocket copy of the fault log (R508) -/

/-- The 59 newest records of the log. -/
def State.newestRecords (s : State) : List FaultRecord :=
  (s.faults.ring.map Prod.snd).filter (fun r => decide (s.recordAge r.num < 59))

/-- The header of the copy (Table 18-6). -/
def State.copyHeader (s : State) : Octets :=
  [0x46, 0x4C, 0x01] ++ u8 s.newestRecords.length ++ u16 (s.rd (ob 0x7000 0x09)) ++ u8 (if s.errN then 1 else 0) ++
    u8 (if s.trapN then 1 else 0) ++ u64 s.now ++ leBytes 24 (sourceBitmap (s.faults.pending.map Prod.fst)) ++ List.replicate 24 0

/-- The copy refreshed: its header, and the record pages that have changed. -/
def State.refreshCopy (s : State) : State :=
  let l := s.newestRecords
  let s : State := { s.cancel .copy with faults := { s.faults with copyAt := s.now, copyDirty := false } }
  let s := s.mailCommit 4 s.copyHeader false
  l.foldl (fun s r =>
    let p := 5 + r.num % 59
    if s.mailPage p = r.record then s else s.mailCommit p r.record false) s

/-- A record commit as the copy sees it: a refresh at once, or at the end of the interval. -/
def State.noteCopy (s : State) : State :=
  let due := s.faults.copyAt + s.rd (ob 0x7000 0x07)
  if due ≤ s.now then s.refreshCopy
  else
    let s : State := { s with faults := { s.faults with copyDirty := true } }
    if s.isArmed .copy then s else s.arm .copy due

/-! ### Requests taken (R518, R519, R515) -/

/-- RESET_APPLY (R518, R519, R530): the resets whose replies are out and that no commit holds up assert, or a conductor reset begins to
quiesce. -/
def execResetApply (s : State) : Result := done (s.applyResets false)

/-- Whether everything that a conductor reset waits for has ended: every voice at FLOOR or DISABLED, no frame in progress (R441). -/
def State.calm (s : State) : Bool :=
  voiceIds.all (fun v => s.voiceState v == 0 || s.voiceState v == 8) && !(decide (3 ≤ s.airState) && decide (s.airState ≤ 7)) &&
    s.line.reply.isNone && s.line.ask.isNone

/-- ACTIVATE_QUIESCED (R441, R515): the remaining steps are abandoned and the conductor goes into reset, once the commit in progress has
ended. -/
def execActivateQuiesced (s : State) : Result :=
  if s.rst.quiescing.isNone || s.rst.quiet then done s
  else if s.calm || s.isDue .quiesce then
    let s := tenants.foldl (fun s t => s.abandonSteps t) (s.cancel .quiesce)
    let s : State := { s with rst := { s.rst with quiet := true } }
    done (s.applyResets false)
  else done s

/-! ### Release (R521, R525, R528) -/

/-- Whether the sequencers of R520 have completed. -/
def State.sequenced (s : State) : Bool :=
  (!s.rst.reach.field || (!voiceIds.any s.emitting && !s.pins.vfldEn)) && (!s.rst.reach.air || s.airState == 0)

/-- Whether RESET_N lets go (R521, R525): `highFor` is how long it has been high, in µs. A drive-out is held for its stretch, and sampled
5 µs after. -/
def State.pinFree (s : State) (highFor : Nat) : Bool :=
  let drove := !s.rst.drive || (s.isDue .stretch && decide (5 ≤ highFor))
  drove && (!s.rst.nLow || !s.isOn (ob 0x1060 0x06) || decide (10 ≤ highFor))

/-- Whether the supply has stood long enough after a power-on or a brown-out (R559, R586). -/
def State.supplyGood (s : State) : Bool :=
  !s.rst.brown || (match s.power.goodSince with | some t => decide (t + 1000 ≤ s.now) | none => false)

/-- The further wait of the fourth and later consecutive START_TIMEOUT resets, in µs (R528). -/
def State.timeoutWait (s : State) : Nat :=
  let n := s.rd (ob 0x7210 0x0B)
  if s.rd (ob 0x7210 0x01) = 3 ∧ 4 ≤ n then min 64000000 (1000000 * 2 ^ (n - 4)) else 0

/-- RESET_RELEASE (R521). -/
def execResetRelease (highFor : Nat) (s : State) : Result :=
  let go := s.rst.asserted && decide (s.rst.since + 100 ≤ s.now) && s.sequenced && s.pinFree highFor && s.supplyGood
  if !go then done s
  else if s.timeoutWait ≠ 0 ∧ s.isArmed .startHold = false then done (s.armIn .startHold s.timeoutWait)
  else if s.isArmed .startHold && !s.isDue .startHold then done s
  else
    let s := ((s.cancel .stretch).cancel .startHold).causeEnd 144
    let s : State := { s with
      pins := { s.pins with resetLow := false }
      rst := { s.rst with asserted := false, drive := false, nLow := false, brown := false } }
    done s

/-! ### The release of each die (R526, R542) -/

/-- A satellite die released: it runs, and announces itself within 10,000 µs (R544); a block reset released says so (E1204). -/
def State.dieReleased (s : State) (d : Die) : State :=
  let block := !s.rst.reach.conductor
  let s := (s.setLink d (fun l => { l with up := true })).armIn (.alive d) 10000
  let s : State := { s with rst := { s.rst with toRelease := s.rst.toRelease.drop d } }
  if block then (s.resetReleased (2 ^ d.link.val)).raise 1204 [t0] [] else s

/-- POCKET_DIE_RELEASE (R526): first of all. -/
def execPocketDieRelease (s : State) : Result :=
  if !s.rst.asserted && s.rst.toRelease.pocket then done (s.pocketStart.dieReleased .pocket) else done s

/-- AIR_DIE_RELEASE (R207, R526, R542): the processing image and the CUE tuning; a start that is pending begins. -/
def execAirDieRelease (s : State) : Result :=
  if !s.rst.asserted && s.rst.toRelease.air && !s.rst.toRelease.conductor && !s.rst.toRelease.pocket then
    let wanted := s.rst.imageRestart == some 2
    let s := ((s.dieReleased .air).restPins.imageLoaded 2).reloadDie .air
    let s := if s.imageSession = 5 ∧ s.keys.trialFrom.map Prod.fst = some 2 then s.armIn .trialAir 100000 else s
    done (if wanted then s.airStart else s)
  else done s

/-- LINE_DIE_RELEASE (R320, R335, R526). -/
def execLineDieRelease (s : State) : Result :=
  if !s.rst.asserted && s.rst.toRelease.line && !s.rst.toRelease.conductor && !s.rst.toRelease.pocket && !s.rst.toRelease.air then
    done ((s.dieReleased .line).reloadDie .line)
  else done s

/-- FIELD_DIE_RELEASE (R73, R207, R526). -/
def execFieldDieRelease (s : State) : Result :=
  if !s.rst.asserted && s.rst.toRelease.field && !s.rst.toRelease.conductor && !s.rst.toRelease.pocket && !s.rst.toRelease.air &&
      !s.rst.toRelease.line then
    done ((s.dieReleased .field).reloadDie .field)
  else done s

/-! ### The conductor start (R526) -/

/-- RW values at their defaults, RWP values as the NVA holds them, the live drive levels from the stored ones, the valid flags of user values
(R57, R200, R370), and what runs from each conductor start back to zero (Tables 2-9, 13-15, 14-9, 17-5, 20-4). -/
def State.freshObjects (s : State) : State :=
  let s := s.forgetKeys (fun k => keyAccess k == some .rw || keyAccess k == some .rwp)
  let s := s.wrAll (s.nvaObjs.filter (fun e => keyAccess e.1 == some .rwp))
  let s := (List.range 4).foldl State.userBits s
  let s := channels.foldl (fun s c => s.wr (ob (0x2100 + c.val) 0x04) (s.rd (ob (0x2100 + c.val) 0x05))) s
  let s := tenants.foldl (fun s t => s.wrAll [(ob (0x9020 + t.val) 0x08, 0), (obT 0x1040 0x09 t, 0)]) s
  let s := scoreIds.foldl (fun s i => s.wr (ob (0xA000 + i.val) 0x01) (match s.allottee 0x03 i.val with | some t => t.val | none => 0xFF)) s
  let s := channels.foldl (fun s c =>
    if s.rd (ob 0x7210 0x01) = 0 then s.wr (ob (0x2100 + c.val) 0x01) (s.recordTenant c.val) else s.allot c.val) s
  let s := Die.all.foldl (fun s d => [5, 6, 7, 8, 9, 0x0B].foldl (fun s n => s.wr (ob d.index n) 0) s) s
  let s := s.wr (ob 0x1110 0x08) 0xFFFF
  { s with router := { s.router with
      boxes := s.router.boxes.map (fun b =>
      { b with queued := 0, masked := 0, coalesced := 0, lost := 0, nextSeq := b.seqEnd }) } }

/-- The roles that take effect (R22, R23, R274, R322): without VLINE the node is a sleepy end node and no line head; a line that another
source holds up makes a head a member. A coordinator first scans as a router. (DEDUCED, log entry 32.) -/
def State.applyRoles (s : State) (lineUp : Bool) : State :=
  let mesh := s.rd (ob 0x1010 0x01)
  let head := s.rd (ob 0x1010 0x03) == 1
  if !s.power.lineHere then
    let s : State := { s with line := { s.line with driver := false } }
    let s : State := { s with mac := { s.mac with asCoord := false } }
    s.wrAll [(ob 0x1010 0x02, 0), (ob 0x1010 0x04, 2), (ob 0x1010 0x06, 2), (ob 0x1010 0x05, s.now)]
  else
    let conflict := head && lineUp && !s.line.driver
    let s : State := if head && !conflict then s else { s with line := { s.line with driver := false } }
    let s : State := { s with mac := { s.mac with asCoord := mesh == 2 } }
    let s := s.wrAll [(ob 0x1010 0x02, if mesh = 2 then 1 else mesh), (ob 0x1010 0x04, if head && !conflict then 1 else 0),
      (ob 0x1010 0x06, if conflict then 3 else 0), (ob 0x1010 0x05, s.now)]
    if conflict then (s.raise 1038 [t0] []).fault 80 0 else s

/-- Deletions that a start finds incomplete are completed (R425); tenant resets that were in progress are complete (R532). -/
def State.completeTenants (s : State) : State :=
  tenants.foldl (fun s t =>
    if s.tenantState t = 3 then s.tenantDelete t else if s.tenantState t = 2 then s.tenantBack t else s) s

/-- Bank states that a start puts right (R442, R448): a bank still LOADING after a supply loss is EMPTY; a trial that a supply loss ended is
reverted. -/
def State.completeBanks (s : State) : State :=
  let s := if s.rd (ob 0x7210 0x01) = 0 ∧ (s.imageSession = 1 ∨ s.imageSession = 2) then
      (s.setBank s.keys.imageTarget s.keys.imageBank 0).wr (ob 0x9300 0x03) 0 else s
  if s.rd (ob 0x7210 0x01) = 0 ∧ s.imageSession = 5 then
    let t := s.keys.trialFrom.map Prod.fst
    let s := s.revertTrial
    { s with rst := { s.rst with imageRestart := t } }
  else s

/-- The faults restored after the loss of every supply (R506), and the sources whose cause is known to be present; at any other start the
records not committed yet are committed (R509). -/
def State.restoreFaults (s : State) : State :=
  if s.rd (ob 0x7210 0x01) = 0 then
    let open_ := s.faults.ring.filter (fun p => p.2.state != 2)
    let back := open_.flatMap (fun p => (faultSources.filter (fun f => p.2.bitmap.testBit f.1)).map (fun f => (f.1, p.2.domain.val)))
    let s : State := { s with faults := { s.faults with
      pending := (s.faults.pending ++ back).eraseDups
      ring := s.faults.ring.map (fun p => if p.2.state = 2 then p else
        (p.1, { p.2 with state := 1, flags := p.2.flags ||| 1, resets := 0 })) } }
    let s := open_.foldl (fun s p => s.commit (.fault p.1)) s
    let s := if s.rd (ob 0x4000 0x04) = 4 then s.fault 36 s.air.slots.length else s
    [1, 2].foldl (fun s k => if 0xFFFFFFFF ≤ s.outCounter k then s.faultKeyed 65 t0 k k else s) s
  else (s.faults.ring.filter (fun p => !s.faults.stored.contains p)).foldl (fun s p => s.commit (.fault p.1)) s

/-- The metronomes that run at start, after a loss of every supply (R467). -/
def State.startMetronomes (s : State) : State :=
  if s.rd (ob 0x7210 0x01) = 0 then
    metronomes.foldl (fun s m =>
      if (s.metroTenant m).isSome && s.isOn (ob (0x8000 + m.val) 0x0F) then s.metroStart m s.now else s) s
  else s

/-- The air die's ledgers start full after a loss of every supply (R238): each sub-band's maximum on-time in the bin of now. -/
def State.fillLedgers (s : State) : State :=
  if s.rd (ob 0x7210 0x01) = 0 then
    let n := (subBands s.profile).length
    let full := (List.range n).map (fun b => (b, binOf s.now, match s.band b with | some x => x.on | none => 0))
    { s with air := { s.air with dc := full, lbt := full, dwell := [], dwellFull := s.now + 20000000 } }
  else s

/-- Links of the dies that the reset did not reach are taken up again (R549). -/
def State.resumeLinks (s : State) : State :=
  Die.all.foldl (fun s d =>
    if s.links[d.link].up && !s.rst.toRelease.has d then
      let s := (s.wr (ob d.index 0x02) s.links[d.link].epoch).linkStarting d
      if d = .field then (s.setLink d (fun l => { l with reload := true })).loadLimits
      else if d = .air then s.setLink d (fun l => { l with reload := true })
      else s.reloadDie d
    else s) s

/-- The start work in its order (R526): objects, pins, the resumed time, the image, limits and ledgers, roles, tenants, banks and faults,
then the metronomes, the links and the inbox. -/
def State.startWork (s : State) (lineUp : Bool) : State :=
  let s := s.freshObjects.applyPins s.rst.reach.chip
  let s := (if s.time.lost then s.resumeTime else s).armIn .startTimeout 2000000
  let s := ((s.imageLoaded 1).copyLimits.fillLedgers).resetReleased (if s.rst.reach.chip then 16 else 0)
  let s := ((s.mirror.applyRoles lineUp).cueFollow).scrub
  let s := (s.completeTenants.completeBanks).restoreFaults.refreshCopy
  let s := match s.pocket.nvmFault with
    | some page => (s.fault 96 page).setPocket (fun p => { p with nvmFault := none })
    | none => s
  s.startMetronomes.resumeLinks.noteCommissioned.inboxBegin

/-- CONDUCTOR_START (R526): `lineUp` is whether the line has stood at 12.0 V for 10,000 µs (R322). -/
def execConductorStart (lineUp : Bool) (s : State) : Result :=
  if s.rst.asserted || s.rst.conductor != .held || s.rst.toRelease.pocket || !s.rst.toRelease.conductor then done s
  else
    done (({ s with rst := { s.rst with conductor := .starting, toRelease := { s.rst.toRelease with conductor := false } } } : State).startWork lineUp)

/-- Held events queued in the order of their stamps, then numbers (R484); the start links of a metronome event have acted at its instant
(R464). (log entry 13.) -/
def State.releaseHeld (s : State) : State :=
  let l := s.router.held.mergeSort (fun a b => decide (a.stamp < b.stamp) || (a.stamp == b.stamp && decide (a.event ≤ b.event)))
  l.foldl (fun s h => h.dests.foldl (fun s t =>
    if 1072 ≤ h.event ∧ h.event < 1136 then s.deliverQueue t h.event h.stamp h.data else s.deliver t h.event h.stamp h.data) s) { s with router := { s.router with held := [] } }

/-- START_UP_COMPLETE (R484, R526, R527): once every die is released and the start's deletions and inbox are done. CONDUCTOR_STARTED is
queued first, then what was held, then the records of the faults latched (R509). -/
def execStartUpComplete (s : State) : Result :=
  if s.rst.conductor != .starting || s.rst.asserted || !s.rst.toRelease.empty && s.rst.toRelease != { Reach.none with chip := true } ||
      tenants.any (fun t => s.tenantState t == 3) || s.pocket.inbox then done s
  else
    let s := s.cancel .startTimeout
    let s : State := { s with
      rst := { s.rst with conductor := .running, toRelease := Reach.none }
      host := { s.host with resetSeen := true } }
    let s := (s.add (ob 0x7210 0x0A) 1).wr (ob 0x7210 0x0B) 0
    let s := s.commit (.own [(ob 0x7210 0x0A, s.rd (ob 0x7210 0x0A))])
    let s := (s.raise 1203 tenants (u8 (s.rd (ob 0x7210 0x01)))).releaseHeld.formLatched
    let s := (s.setRun 1).openGate
    let s := if s.time.restart && !s.isArmed .osc27 then s.armIn .osc27 500 else s
    done s.joinNow.drainLine

/-- START_TIMEOUT (R442, R528). -/
def execStartTimeout (s : State) : Result :=
  if s.rst.conductor == .starting && s.isDue .startTimeout then
    let s := s.cancel .startTimeout
    if s.imageSession = 5 ∧ s.keys.trialFrom.map Prod.fst = some 1 then
      let s := s.revertTrial
      let s : State := { s with rst := { s.rst with imageRestart := some 1 } }
      done (s.assertOrWait (kindReach 6) 5 1)
    else done ((s.inc (ob 0x7210 0x0B)).assertOrWait Reach.all 3 0)
  else done s

/-! ### RESET_N (R525) -/

/-- RESET_N_LOW (R525, R582): `low` is how long RESET_N has been low from outside, in µs. From 1 µs to 10 µs the spec leaves open whether it
is taken: a free value. -/
def execResetNLow (low : Nat) (s : State) : Result :=
  if s.rst.drive || !s.isOn (ob 0x1060 0x06) || !s.power.powered || low = 0 then done s
  else
    let (x, s) := if 10 ≤ low then (1, s) else s.free1 2
    if x = 0 then done s
    else
      let s : State := { s with rst := { s.rst with nLow := true } }
      done (s.assertOrWait Reach.all 2 0)

end Sys2Proof.Machine
end

