-- ==== Sys2Proof/Machine/Links.lean ====
section
/-! DEFINITION. The die links' commands (chapter 20): messages and their epochs (R536 to R541), ALIVE and readiness (R542 to R545), link
failure and recovery (R547, R548). -/

namespace Sys2Proof.Machine

/-! ### Messages (R536 to R539, R547) -/

/-- The conductor's epoch, 0x7500.01. -/
def State.epoch (s : State) : Nat := s.rd (ob 0x7500 0x01)

/-- The mirrored epoch of a die, 0x750d.02. -/
def State.dieEpoch (s : State) (d : Die) : Nat := s.rd (ob d.index 0x02)

/-- Whether the conductor takes messages: not while it is held in reset (R549). -/
def State.listens (s : State) : Bool := s.rst.conductor != .held

/-- A link failure found where the link was STARTING or READY (R547). -/
def State.linkBroken (s : State) (d : Die) : State :=
  if s.linkState d = 1 ∨ s.linkState d = 2 then s.linkFailed d else s

/-- Whether a header's DIE is not the link's, or its LENGTH not that of the words that follow. (DEDUCED, log entry 23.) -/
def malformed (d : Die) (h : LinkHead) (payload : Octets) : Bool := h.die != d.code || 4 * h.length != payload.length

/-- A stale message counted, its header kept (R539). -/
def State.staleMessage (s : State) (d : Die) (header : Nat) : State :=
  (s.inc (ob d.index 0x06)).wr (ob d.index 0x0C) (header % 2 ^ 32)

/-- A tag freed; the first request that waits takes it (R537). -/
def State.freeTag (s : State) (d : Die) (tag : Nat) : State :=
  s.setLink d (fun l =>
    let rest := l.tags.filter (fun x => x != tag)
    match l.waiting with
    | [] => { l with tags := rest }
    | _ :: w => { l with tags := rest ++ [tag], waiting := w })

/-- LINK_REQUEST (R537, R539, R541): carried while the link is READY, or STARTING for the reload; with no free tag it waits. What the die
does for it is the effect of the command that the request serves. (DEDUCED, log entry 23.) -/
def execLinkRequest (d : Die) (header : Nat) (payload : Octets) (s : State) : Result :=
  let h := parseHead header
  let carried := s.listens && (s.linkReady d || (s.linkState d == 1 && s.links[d.link].reload))
  if h.kind ≠ 0 ∨ carried = false then done s
  else if h.toEp = s.links[d.link].epoch ∧ h.fromEp = s.epoch ∧ malformed d h payload = true then done (s.linkBroken d)
  else if s.links[d.link].tags.contains h.tag then done (s.setLink d (fun l => { l with waiting := l.waiting ++ [header] }))
  else done (s.setLink d (fun l => { l with tags := l.tags ++ [h.tag] }))

/-- LINK_REPLY (R539, R547). -/
def execLinkReply (d : Die) (header : Nat) (payload : Octets) (s : State) : Result :=
  let h := parseHead header
  if h.kind ≠ 1 ∨ s.listens = false then done s
  else if h.toEp = s.epoch ∧ h.fromEp = s.dieEpoch d then
    if malformed d h payload || !s.links[d.link].tags.contains h.tag then done (s.linkBroken d) else done (s.freeTag d h.tag)
  else done (s.staleMessage d header)

/-- LINK_REJECT (R539): FROM_EPOCH is not compared, but in a REJECT of a tag without a request. -/
def execLinkReject (d : Die) (header : Nat) (s : State) : Result :=
  let h := parseHead header
  if h.kind ≠ 3 ∨ s.listens = false then done s
  else if h.toEp = s.epoch ∧ s.links[d.link].tags.contains h.tag = true then
    if h.fromEp = s.dieEpoch d ∧ malformed d h [] = true then done (s.linkBroken d)
    else done ((s.freeTag d h.tag).inc (ob d.index 0x07))
  else if h.toEp = s.epoch ∧ h.fromEp = s.dieEpoch d then done (s.linkBroken d)
  else done (s.staleMessage d header)

/-- LINK_NOTIFY (R539): a NOTIFY of the die; one that is current is the notice of what the other commands report. -/
def execLinkNotify (d : Die) (header : Nat) (payload : Octets) (s : State) : Result :=
  let h := parseHead header
  if h.kind ≠ 2 ∨ s.listens = false then done s
  else if h.toEp = s.epoch ∧ h.fromEp = s.dieEpoch d then
    if malformed d h payload then done (s.linkBroken d) else done s
  else done (s.staleMessage d header)

/-! ### ALIVE and readiness (R542 to R545) -/

/-- ALIVE (R542, R544): the expected epoch begins the reload; another one is a reset of that die, whose epoch is taken over
and ends the partial FIELD window (R48). -/
def execAlive (d : Die) (epoch : Nat) (s : State) : Result :=
  if s.listens = false ∨ s.links[d.link].up = false then done s
  else if epoch = s.dieEpoch d then
    if s.linkState d = 2 then done s
    else
      let s := s.linkStarting d
      done (if s.links[d.link].reload then s else s.reloadDie d)
  else
    let s := (s.wr (ob d.index 0x02) (epoch % 256)).setLink d (fun l => { l with epoch := epoch % 256, reload := false })
    let s := (if d = .field then s.dropWindow else s).retire d
    let s := (s.retireWork d).abortTunings (fun u => d == .field && u.auto && decide (4 ≤ u.kind) && decide (u.kind ≤ 6))
    done ((s.linkStarting d).reloadDie d)

/-- Whether the start work of a die is done: the HF tunings of the field die (R207), a start of the air die that was pending (R543). -/
def State.startWorkDone (s : State) (d : Die) : Bool :=
  match d with
  | .field => !(s.cal.queue ++ s.cal.running).any (fun u => u.auto && decide (4 ≤ u.kind) && decide (u.kind ≤ 6))
  | .air => s.airState != 1
  | _ => true

/-- What a die takes up again when its link is READY: card detection, the air die's reception, what the line die's buffer holds. -/
def State.linkUp (s : State) (d : Die) : State :=
  match d with
  | .field => channels.foldl (fun s c =>
      if s.isOn (ob (0x2500 + c.val) 0x01) && !s.isArmed (.probe c) then s.armIn (.probe c) (s.rd (ob (0x2500 + c.val) 0x02) * 1000)
      else s) s
  | .air =>
    let s := s.cancel .trialAir
    if (!s.sleepy && (s.joinState == 3 || s.role == 2)) || s.mac.scan.isSome then s.airStart else s
  | .line => s.drainLine
  | .pocket => s

/-- LINK_START_WORK_DONE (R543): READY, with EPOCH_READY. -/
def execLinkStartWorkDone (d : Die) (s : State) : Result :=
  if s.linkState d = 1 ∧ s.links[d.link].reload = true ∧ s.startWorkDone d = true ∧ s.listens = true then
    let s := ((s.linkTo d 2).setLink d (fun l => { l with reload := false })).wr (ob d.index 0x03) s.now
    let s := s.raise (1231 + d.code) tenants (u8 d.code ++ u8 (s.dieEpoch d))
    done (s.linkUp d)
  else done s

/-- ALIVE_TIMEOUT (R544). -/
def execAliveTimeout (d : Die) (s : State) : Result := done (if s.isDue (.alive d) && s.listens then s.linkFailed d else s)

/-- LINK_WORD_TIMEOUT (R547). -/
def execLinkWordTimeout (d : Die) (s : State) : Result := done (if s.listens then s.linkBroken d else s)

/-! ### Recovery (R548) -/

/-- RESYNC_INTERVAL. -/
def execResyncInterval (d : Die) (s : State) : Result :=
  if s.linkState d = 3 ∧ s.isDue (.resync d) = true then
    done ((s.inc (ob d.index 0x09)).armIn (.resync d) (s.rd (ob 0x7500 0x03)))
  else done s

/-- RESYNC: the satellite adopts the epoch and abandons the work of its old one; its ALIVE follows. -/
def execResync (d : Die) (epoch : Nat) (s : State) : Result :=
  if s.links[d.link].up then
    let s := s.setLink d (fun l => { l with epoch := epoch % 256 })
    done (match d with
      | .field => s.fieldAbandon
      | .air => s.airAbandon
      | .line => s.lineAbandon
      | .pocket => s.bridgeRetired)
  else done s

end Sys2Proof.Machine
end

