-- ==== Sys2Proof/Machine/Power.lean ====
section
/-! DEFINITION. Supplies, running states and energy (chapter 21): power-up, brown-out and supply loss, the changeovers, VBAT samples with
shedding and the low-battery cause, Rest and waking, and the energy figures. -/

namespace Sys2Proof.Machine

/-! ### Power-up (R559, R586) -/

/-- Since when a supply has been good for the release after a power-on or a brown-out (R559). (DEDUCED, log entry 24.) -/
def State.noteGood (s : State) (vbat vline : Nat) : State :=
  let good := decide (2700 ≤ vbat) || decide (7000 ≤ vline)
  { s with power := { s.power with
      goodSince := if good then some (s.power.goodSince.getD s.now) else none } }

/-- The values that a supply loss takes from epochs: every one is 0x01 again (R538, R553). -/
def State.epochsOne (s : State) : State :=
  let s := Die.all.foldl (fun s d => (s.wr (ob d.index 0x02) 1).setLink d (fun l => { l with epoch := 1 })) s
  s.wr (ob 0x7500 0x01) 1

/-- POWER_ON (R554, R586): the always-on domain starts and a CHIP reset asserts. -/
def execPowerOn (vbat vline : Nat) (s : State) : Result :=
  if 4500 < vbat ∨ 40000 < vline then .fault .beyondRatings
  else if s.power.powered ∨ (vbat < 1800 ∧ vline < 1800) then done s
  else
    let line := decide (7000 ≤ vline)
    let s := s.tearCommit
    let s : State := { s with
      power := { s.power with powered := true, lineHere := line, enteredAt := s.now }
      timers := s.timers ++ bootTimers.map (fun p => (p.1, s.now + p.2)) }
    let s := s.wrAll [(ob 0x1060 0x01, if line then 2 else 1), (ob 0x1060 0x02, vbat), (ob 0x1060 0x04, vline), (ob 0x5400 0x05, 1)]
    let s := (s.assertNow Reach.all 0 0 true).epochsOne
    let s : State := { s with rst := { s.rst with brown := true } }
    done (s.noteGood vbat vline)

/-- BROWNOUT (R559): the source below its level while the other supply is not present; the governor goes on from 0.50 V (R52). (DEDUCED,
log entry 24.) -/
def execBrownout (vbat vline : Nat) (s : State) : Result :=
  if 4500 < vbat ∨ 40000 < vline then .fault .beyondRatings
  else
    let onLine := s.power.lineHere && decide (vline < 5500) && decide (vbat < 2550)
    let onBat := !s.power.lineHere && decide (vbat < 2550) && decide (vline < 7000)
    if s.power.powered && (onLine || onBat) then
      let s : State := { s with power := { s.power with lineHere := false, goodSince := none } }
      let s := (s.wrAll [(ob 0x1060 0x01, 1), (ob 0x1060 0x04, vline), (ob 0x1110 0x06, 500)]).assertNow Reach.all 1 0 true
      let s : State := { s with rst := { s.rst with brown := true } }
      done ((s.raise 1252 [t0] []).fault 144 (if onLine then 2 else 1))
    else done s

/-! ### Supply loss (R560) -/

/-- Keys of what needs no supply of the conductor's: the sealed record, the banks, the pocket die's own view, VIO. -/
def lossKept (k : Nat) : Bool :=
  let i := keyIndex k
  let n := keySub k
  (i == 0x4000 && (n == 1 || n == 5)) || i == 0x9300 || i == 0x9321 || i == 0x9322 ||
    (i == 0x5400 && decide (1 ≤ n) && decide (n ≤ 5)) || (i == 0x1060 && (n == 5 || n == 6))

/-- The dictionary's values after a loss: what the NVA holds, the checkpoint's values, and what needs no supply. (DEDUCED, log entry 56.) -/
def State.lossObjs (s : State) : Tab :=
  (s.ckpt.objs ++ s.objs.filter (fun e => lossKept e.1)).foldl (fun t e => Tab.set Dict.dflt t e.1 e.2) s.nvaObjs

/-- The number after the newest committed fault record's. -/
def State.lossNum (s : State) : Nat :=
  match s.faults.stored.foldl (fun (b : Option Nat) p => match b with
      | none => some p.2.num
      | some n => if s.recordAge p.2.num < s.recordAge n then some p.2.num else some n) none with
  | some n => (n + 1) % 65536
  | none => 0

/-- The pocket die at a loss of VBAT and VLINE: it goes on from a field that is present (R340), or stops. -/
def State.pocketLoss (s : State) : State :=
  let s := (s.bridgeEnd [] 0x9108).wr (ob 0x5400 0x05) 0
  if s.pocket.field then s else s.tearCommit.pocketStop

/-- The part without a supply: what the NVA, the fuses, the flash banks and the mailbox hold, and nothing else. -/
def State.unpowered (s : State) : State :=
  let z := State.reset
  { z with
    pending := s.pending
    free := s.free
    power := { z.power with powered := false, bins := s.ckpt.bins }
    time := { z.time with lost := true }
    timers := s.timers.filter (fun p => p.1 == .pocketIdle)
    objs := s.lossObjs
    nvaObjs := s.nvaObjs
    charges := s.charges
    ckpt := s.ckpt
    nvaTags := s.nvaTags
    tags := s.nvaTags
    rst := { z.rst with toRelease := Reach.none }
    svc := { z.svc with floorEnd := s.svc.floorEnd, reportEnd := s.svc.reportEnd }
    router := { boxes := s.router.boxes.map (fun b => { Mailbox.reset with nextSeq := b.seqEnd, seqEnd := b.seqEnd, subs := b.subs }), held := [] }
    faults := { z.faults with
      ring := s.faults.stored, stored := s.faults.stored, nextNum := s.lossNum
      resets := s.faults.nvaResets, nvaResets := s.faults.nvaResets }
    crypto := { z.crypto with draws := s.crypto.draws }
    keys := s.keys
    pins := { z.pins with xbyp := false }
    cal := { z.cal with
      user := s.cal.nvaUser, nvaUser := s.cal.nvaUser, temps := s.cal.nvaTemps, nvaTemps := s.cal.nvaTemps, nvaStore := s.cal.nvaStore
      tracks := s.cal.tracks.map (fun p => (p.1, p.2.cleared)) }
    air := { z.air with slots := s.air.slots, store := s.cal.nvaStore }
    mac := { z.mac with addresses := s.mac.nvaAddresses, nvaAddresses := s.mac.nvaAddresses, ends := s.mac.ends }
    line := { z.line with table := s.line.nvaTable, nvaTable := s.line.nvaTable }
    pocket := { s.pocket with inbox := false } }

/-- Counters that resume from what was committed: the frame counters (R277), the counter floors (R384, R397) and report counters (R396),
and the newest record of the log. -/
def State.resumeCounters (s : State) : State :=
  let s := s.wrAll [(ob 0x4130 0x01, s.mac.ends.1), (ob 0x4130 0x02, s.mac.ends.2)]
  let s := tenants.foldl (fun s t =>
    let f := min 0xFFFFFFFF (s.svc.floorEnd[t] + 4096)
    let s := s.wrAll [(obT 0x1034 0x04 t, f), (obT 0x1034 0x03 t, s.svc.reportEnd[t])]
    s.floorLow t s.svc.floorEnd[t] f) s
  if s.faults.stored.isEmpty then s else s.wr (ob 0x7000 0x09) ((s.faults.nextNum + 65535) % 65536)

/-- The seal after a loss: a slot being written is spent without its seal word (R232); the status is what the slots show. -/
def State.lossSeal (s : State) (torn : Option Nat) : State :=
  let s : State := match torn with
    | some code => { s with air := { s.air with slots := s.air.slots ++ [(code, false)] } }
    | none => s
  let l := s.air.slots
  let s := s.wr (ob 0x4000 0x04) (if l.any (fun p => p.2) then 1 else if 3 ≤ l.length then 4 else if l.isEmpty then 0 else 3)
  if torn.isSome then s.raise 834 [t0] [] else s

/-- SUPPLY_LOSS (R223, R343, R406, R560): everything outside the NVA and the mailbox is lost. -/
def execSupplyLoss (s : State) : Result :=
  if !s.power.powered then done s
  else
    let torn := if s.rd (ob 0x4000 0x04) = 6 then s.air.sealing.map Prod.fst else none
    let tuned := ((s.cal.queue ++ s.cal.running).filter (fun u => !u.auto)).map Tuning.tenant
    let s := s.pocketLoss.unpowered.resumeCounters.lossSeal torn
    done (tuned.foldl (fun s t => s.wr (obT 0x6000 0x06 t) 5) s)

/-! ### Changeovers (R554, R555) -/

/-- VLINE_PRESENT (R554): VLINE has risen to 7.0 V and is the source. -/
def execVlinePresent (mv : Nat) (s : State) : Result :=
  if 40000 < mv then .fault .beyondRatings
  else if mv < 7000 ∨ s.power.lineHere = true ∨ s.power.powered = false then done s
  else
    let s : State := { s with power := { s.power with lineHere := true } }
    let s := ((s.wrAll [(ob 0x1060 0x01, 2), (ob 0x1060 0x04, mv)]).noteGood 0 mv).wakeBy 7
    done (s.raise 1251 [t0] [])

/-- VLINE_LOST (R554, R572): VLINE has fallen below 6.0 V; VBAT is the source. -/
def execVlineLost (mv : Nat) (s : State) : Result :=
  if 6000 ≤ mv ∨ s.power.lineHere = false ∨ s.power.powered = false then done s
  else
    let s : State := { s with power := { s.power with lineHere := false } }
    let s := ((s.wrAll [(ob 0x1060 0x01, 1), (ob 0x1060 0x04, mv)]).noteGood (s.rd (ob 0x1060 0x02)) 0).wakeBy 7
    done (s.raise 1250 [t0] [])

/-- Whether a voltage lies in one of VIO's ranges (Table 21-1). (log entry 12.) -/
def vioGood (mv : Nat) : Bool := (decide (1620 ≤ mv) && decide (mv ≤ 1980)) || (decide (2970 ≤ mv) && decide (mv ≤ 3630))

/-- VIO_PRESENT (R587, R603): the general pins take their configuration, unless a reset still holds them. -/
def execVioPresent (mv : Nat) (s : State) : Result :=
  if 4000 < mv then .fault .beyondRatings
  else if !vioGood mv then done s
  else
    let fresh := !s.isOn (ob 0x1060 0x06)
    let s := s.wrAll [(ob 0x1060 0x05, mv), (ob 0x1060 0x06, 1)]
    done (if fresh && s.power.powered && !s.pins.gpHeld then s.applyPins true else s)

/-- VIO_LOST (R555, R576, R582, R603): the I/O bank is high-impedance, a host transaction is abandoned. -/
def execVioLost (mv : Nat) (s : State) : Result :=
  if 4000 < mv then .fault .beyondRatings
  else if vioGood mv || !s.isOn (ob 0x1060 0x06) then done s
  else
    let s := s.wrAll [(ob 0x1060 0x05, mv), (ob 0x1060 0x06, 0)]
    let s := (List.range 16).foldl (fun s g => s.wrAll [(ob (0x1090 + g) 0x08, 0), (ob (0x1090 + g) 0x05, 0)]) s
    done { s with
      pins := { s.pins with resetLow := false }
      host := { s.host with selected := false, sent := [] } }

/-! ### VBAT (R557, R558) -/

/-- The shed threshold, 0x1061.02. -/
def State.shedMv (s : State) : Nat := s.rd (ob 0x1061 0x02)

/-- Shedding as a sample moves it: begun below the threshold while VBAT feeds boost and core, its end timed from 100 mV above. -/
def State.shedSample (s : State) (mv : Nat) : State :=
  let begin_ := !s.power.shedding && s.rd (ob 0x1060 0x07) == 1 && s.rd (ob 0x1060 0x01) == 1 && decide (mv < s.shedMv)
  let s : State := if begin_ then { s.inc (ob 0x1060 0x08) with power := { s.power with shedding := true } } else s
  if !s.power.shedding then s
  else if s.shedMv + 100 ≤ mv then (if s.isArmed .shed then s else s.armIn .shed 10000)
  else s.cancel .shed

/-- VBAT_SAMPLE (R557, R558, R559): every 100 µs, once a second in Dozing and Rest. -/
def execVbatSample (mv : Nat) (s : State) : Result :=
  if 4500 < mv then .fault .beyondRatings
  else if !s.isDue .vbatSample then done s
  else
    let s := s.wr (ob 0x1060 0x02) mv
    let s : State := { s with power := { s.power with minuteMin := some (min mv (s.power.minuteMin.getD mv)) } }
    let s := s.armIn .vbatSample (if s.runState = 2 ∨ s.runState = 3 then 1000000 else 100)
    done ((s.noteGood mv (if s.power.lineHere then s.rd (ob 0x1060 0x04) else 0)).shedSample mv)

/-- SHED_END (R558). -/
def execShedEnd (mv : Nat) (s : State) : Result :=
  if s.power.shedding && s.isDue .shed && decide (s.shedMv + 100 ≤ mv) then
    done { s.cancel .shed with power := { s.power with shedding := false } }
  else done s

/-- VBAT_MINUTE_END (R557): the minute's minimum, the cause of VBAT_LOW, and its event where it is raised. -/
def execVbatMinuteEnd (s : State) : Result :=
  if !s.isDue .minute then done s
  else
    let s := s.arm .minute ((s.dueAt .minute).getD 0 + 60000000)
    match s.power.minuteMin with
    | none => done s
    | some m =>
      let s : State := { s.wr (ob 0x1060 0x03) m with power := { s.power with minuteMin := none } }
      if m < s.rd (ob 0x1061 0x01) then
        if s.causeIn 145 t0 then done s
        else
          let s := s.wakeBy 7
          let s := if s.isPending 145 t0 then s else s.raise 1249 [t0] []
          done (s.fault 145 m)
      else if s.rd (ob 0x1061 0x01) + 50 ≤ m then done (s.causeEnd 145)
      else done s

/-! ### Rest and waking (R26, R561 to R563) -/

/-- Timers of the MAC. -/
def macTimer : Timer → Bool
  | .lbt | .backoff | .immAck | .ackWait | .joinScan | .join | .joinRetry | .foreignCoord | .slot | .timeBroadcast | .unsync | .unsyncScan
  | .homeSwitch | .poll | .pendingWait => true
  | .sync _ | .indirect _ | .child _ | .cueDelay _ | .cueRetry _ | .route _ | .dup _ | .reportRetry _ => true
  | _ => false

/-- The next instant at which a metronome does something. -/
def State.metroInstants (s : State) (m : MetroId) : List Nat :=
  (s.compareAt m).toList ++ (s.zeroAt m).toList ++ (s.topAt m).toList ++
    (if s.rd (ob (0x8000 + m.val) 0x01) = 1 then [s.metros[m].armed] else [])

/-- Whether every condition of R26 and R562 holds. -/
def State.mayRest (s : State) : Bool :=
  let until_ := s.now + s.rd (ob 0x1080 0x02)
  !s.busy && tenants.all (fun t => s.svc.queues[t].isEmpty) && s.isOn (ob 0x1020 0x03) && !s.detecting &&
    (s.sleepy || s.joinState == 0) && s.rd (ob 0x1010 0x04) != 1 &&
    metronomes.all (fun m => (s.metroInstants m).all (fun x => decide (until_ < x))) &&
    s.timers.all (fun p => !macTimer p.1 || decide (until_ < p.2))

/-- REST_ENTRY (R562): Dozing for the threshold without a break, with nothing against it; the fabric is held at 0.50 V. -/
def execRestEntry (s : State) : Result :=
  if s.runState = 2 ∧ s.isDue .rest = true ∧ s.mayRest = true then
    done (((s.cancel .rest).inc (ob 0x1080 0x03)).wr (ob 0x1110 0x06) 500 |>.setRun 3)
  else done s

/-- WAKE (R563, Table 21-3): a source recognised in the always-on domain; card detection does not run in Rest. -/
def execWake (source : Nat) (s : State) : Result :=
  if 1 ≤ source ∧ source ≤ 8 ∧ (source ≠ 6 ∨ s.runState = 2) then done ((s.cancel .rest).wakeBy source) else done s

/-- OSC27_RESTART_DONE (R35, R36, R561): the device time is interpolated again. -/
def execOsc27RestartDone (s : State) : Result :=
  if s.isArmed .osc27 then done { s.cancel .osc27 with time := { s.time with restart := false } } else done s

/-! ### Energy (R565 to R570) -/

/-- Microseconds of a year of 365.25 days. -/
def yearUs : Nat := 31557600000000

/-- Denominator of the remaining energy as a fraction. (DESIGN CHOICE, log entry 25.) -/
def packDen : Nat := 36000000000 * yearUs

/-- Numerator of the remaining energy in mWh (R568): C × u / 100 − E / 3,600,000 − C × (s / 10,000) × Y. -/
def State.packNum (s : State) : Int :=
  let c := s.rd (ob 0x1070 0x0A)
  (c * s.rd (ob 0x1070 0x0C) * (packDen / 100) : Nat) - (s.rd (ob 0x1070 0x01) * (packDen / 3600000) : Nat) -
    (c * s.rd (ob 0x1070 0x0B) * (s.now - s.rd (ob 0x1070 0x11)) * 3600000 : Nat)

/-- The remaining energy and life recomputed (R568). A life without a draw, or beyond its type, is not stated: a free value. -/
def State.packWrite (s : State) : State :=
  if s.rd (ob 0x1070 0x0A) = 0 then s.wrAll [(ob 0x1070 0x0D, 0xFFFFFFFF), (ob 0x1070 0x0E, 0xFFFFFFFF)]
  else
    let r := s.packNum
    if r ≤ 0 then s.wrAll [(ob 0x1070 0x0D, 0), (ob 0x1070 0x0E, 0)]
    else
      let s := s.wr (ob 0x1070 0x0D) (r.toNat / packDen)
      let d := s.rd (ob 0x1070 0x09) * 87660000 + 1000 * s.rd (ob 0x1070 0x0A) * s.rd (ob 0x1070 0x0B)
      let l := r.toNat * 3652500000 / (packDen * d)
      if d = 0 ∨ 2 ^ 32 ≤ l then
        let (x, s) := s.free1 (2 ^ 32)
        s.wr (ob 0x1070 0x0E) x
      else s.wr (ob 0x1070 0x0E) l

/-- The mean of the newest `n` hourly bins in µW, over those there are (R567). (DEDUCED, log entry 25.) -/
def meanPower (l : List Nat) (n : Nat) : Nat :=
  let b := l.take n
  if b.isEmpty then 0 else (b.foldl (· + ·) 0) / (3600 * b.length)

/-- ENERGY_HOURLY_UPDATE (R565, R567, R568): `vbat` and `vline` are the µJ integrated from each supply since the last one. -/
def execEnergyHourlyUpdate (vbat vline : Nat) (s : State) : Result :=
  if !s.isDue .hourly then done s
  else
    let s := (s.armIn .hourly 3600000000).add (ob 0x1070 0x01) vbat |>.add (ob 0x1070 0x02) vline
    let total : Int := (s.rd (ob 0x1070 0x01) + s.rd (ob 0x1070 0x02) : Nat)
    let bins := ((total - s.power.binBase).toNat :: s.power.bins).take 168
    let s : State := { s with power := { s.power with bins := bins, binBase := total } }
    let s := (s.wrFit (ob 0x1070 0x08) (meanPower bins 24)).wrFit (ob 0x1070 0x09) (meanPower bins 168)
    done s.packWrite

/-- ENERGY_REPORT (R570). -/
def execEnergyReport (s : State) : Result :=
  let n := s.rd (ob 0x1070 0x0F)
  if s.isDue .energyReport = true ∧ n ≠ 0 then
    done ((s.arm .energyReport ((s.dueAt .energyReport).getD 0 + n * 1000000)).raise 1253 [t0] [])
  else done s

/-- A new pack recorded (R569, R574): VBAT energy back to 0, the fitting instant kept in the NVA. -/
def State.newPack (s : State) : State :=
  let old := s.rd (ob 0x1070 0x01)
  let s : State := { s with power := { s.power with binBase := s.power.binBase - (old : Int) } }
  (s.wr (ob 0x1070 0x01) 0).wrKeep [(ob 0x1070 0x11, s.now)]

/-- A write of the report interval: the next report falls due one interval after it; 0 ends them. -/
def State.reportWrite (s : State) (v : Nat) : State :=
  let s := s.wr (ob 0x1070 0x0F) v
  if v = 0 then s.cancel .energyReport else s.armIn .energyReport (v * 1000000)

end Sys2Proof.Machine
end

