-- ==== Sys2Proof/Machine/WriteOps.lean ====
section
/-! DEFINITION. What a WRITE is checked for (R9, R368 to R371, R378 to R382): its form, its value, and the rules that single chapters set
for their own objects. Each check gives a status of Table 13-10; OK is 0. -/

namespace Sys2Proof.Machine

/-! ### Form and value (R369, R381, R382) -/

/-- Whether an object's type is OCTETS. -/
def Ty.isOctets : Ty → Bool
  | .octets _ => true
  | _ => false

/-- LENGTH of a write: exactly the type's bytes at offset 0, or a part of an OCTETS object. -/
def Ty.writeLength (ty : Ty) (off n : Nat) : Nat :=
  match ty with
  | .octets m => when (n == 0 || decide (m < off + n)) sLength
  | ty => when (off != 0 || n != ty.bytes) sLength

/-- The value that an object would hold after the write. -/
def State.spliced (s : State) (t : Tenant) (i sub off : Nat) (v : Octets) : Nat :=
  match Dict.row? i sub with
  | some r => if r.ty.isOctets then
      (if r.acc = .wo then leNat v else leNat (splice off v (s.valueBytes t i sub))) else leNat v
  | none => 0

/-- VALUE_RANGE of a value by its own row. -/
def Row.valueStatus (r : Row) (v : Nat) : Nat :=
  match r.chk with
  | .any => sOK
  | .rng lo hi => when (decide (v < lo) || decide (hi < v)) sRange
  | .rngOr x lo hi => when (v != x && (decide (v < lo) || decide (hi < v))) sRange
  | .srng lo hi => (let w := toSigned (8 * r.ty.bytes) v; when (decide (w < lo) || decide (hi < w)) sRange)

/-! ### Step records (R56, R74, R161, R170, R183) -/

/-- Whether two runs of blocks share one. -/
def overlap (a n b m : Nat) : Bool := decide (a < b + m) && decide (b < a + n)

/-- The parameters of a WRITE step (Table 7-1, R170). -/
def writeStepOk (r : Octets) : Bool :=
  let mode := byteAt r 14
  let b := byteAt r 15
  let a := u16At r 16
  let c := u16At r 18
  let f := u16At r 20
  let n := byteAt r 22
  let top := if (byteAt r 23).testBit 2 then 0x10000 else 0x100
  let off := u16At r 24
  decide (mode ≤ 2) && (b == 4 || b == 8) && decide (1 ≤ n) && decide (n ≤ 32) && decide (byteAt r 23 < 16) && decide (a + n ≤ top) &&
    (mode == 0 ||
      (decide (c + n ≤ top) && decide (f < top) && !overlap a n c n && !overlap a n f 1 && !overlap c n f 1 && decide (8 ≤ n * b))) &&
    (mode == 2 || decide (off + n * b - (if mode = 1 then 4 else 0) ≤ 4096))

/-- The parameters of an AUTH step (Table 7-5). -/
def authStepOk (r : Octets) : Bool :=
  decide (byteAt r 14 ≤ 4) && decide (byteAt r 21 < 16) && (slice 22 4 r).all (· == 0) &&
    (byteAt r 14 != 1 || (decide (1 ≤ byteAt r 20) && decide (byteAt r 20 ≤ 16)))

/-- The parameters of an opcode (Tables 6-7, 7-1, 7-5). -/
def stepParamsOk (r : Octets) : Bool :=
  match byteAt r 0 with
  | 0x01 => (byteAt r 12 == 1 || byteAt r 12 == 0x10) && decide (byteAt r 14 ≤ 60) && decide (byteAt r 23 ≤ 1)
  | 0x02 => decide (byteAt r 12 ≤ 1) && decide (byteAt r 13 ≤ 1)
  | 0x03 => decide (byteAt r 14 ≤ 1)
  | 0x09 => writeStepOk r
  | 0x0A => authStepOk r
  | _ => true

/-- A drive level within the range of R56. -/
def driveOk (d : Nat) : Bool := decide (0x148 ≤ d) && decide (d < 0x8000)

/-- The reserved fields and ranges of Table 6-6. -/
def stepShapeOk (r : Octets) : Bool :=
  let fl := byteAt r 2
  decide (byteAt r 0 ≤ 0x0B) && decide (byteAt r 1 ≤ 0x3F) && decide (fl < 128) && decide (byteAt r 3 ≤ 3) && decide (byteAt r 10 < 64) &&
    byteAt r 11 == 0 && byteAt r 31 == 0 && (!fl.testBit 2 || driveOk (u16At r 4)) && stepParamsOk r

/-- REGION_LIMIT of a drive level: above the per-voice ceiling of a sealed profile (R74). -/
def State.driveStatus (s : State) (d : Nat) : Nat :=
  when (s.hfSealed && decide (s.rd (ob 0x2030 0x02) * 32768 < drivePower d * 1000)) sRegion

/-- REGION_LIMIT of a ramp time: below the minimum of a sealed profile (R74). -/
def State.rampStatus (s : State) (us : Nat) : Nat := when (s.hfSealed && decide (us < s.minRamp)) sRegion

/-- IN_USE of a slot whose score runs or stops (R162). -/
def State.slotStatus (s : State) (ss : Nat) : Nat :=
  when (s.rd (ob (0xA000 + ss) 0x02) == 1 || s.rd (ob (0xA000 + ss) 0x02) == 2) sInUse

/-- Whether a WRITE record names a PRESENT Type A tag and what such a tag has not (R170). -/
def State.writeATag (s : State) (ss : Nat) (r : Octets) : Bool :=
  byteAt r 0 == 9 && writeABad r &&
    (match s.scoreTenant ⟨ss % 32, Nat.mod_lt _ (by decide)⟩ with
     | some t => (s.tagOf t (u16At r 12)).any (fun e => e.proto == 2)
     | none => false)

/-- The status of a step record write. -/
def State.stepStatus (s : State) (ss : Nat) (r : Octets) : Nat :=
  let fl := byteAt r 2
  firstStatus [when (!stepShapeOk r || s.writeATag ss r) sRange, if fl.testBit 2 then s.driveStatus (u16At r 4) else sOK,
    if fl.testBit 3 then s.rampStatus (u16At r 6) else sOK, s.slotStatus ss]

/-! ### Events named by a write (R153, R473, R476, R477) -/

/-- VALUE_RANGE of a trigger event: an event of a metronome allotted to the holder or of one of its channels. -/
def State.triggerStatus (s : State) (t : Tenant) (e : Nat) : Nat :=
  let metro := decide (1072 ≤ e) && decide (e < 1136) && s.allottee 0x02 ((e - 1072) / 4) == some t
  let chan := decide (e < 768) && eventDefined e && s.channelTenant (e / 12) == some t
  when (!(metro || chan)) sRange

/-- VALUE_RANGE of a mask (n = 1) or coalesce (n = 2) bitmap. -/
def bitmapStatus (n v : Nat) : Nat :=
  when ((List.range 1280).any (fun e => v.testBit e && (!eventDefined e || (if n = 1 then e == 1225 else neverCoalesced e)))) sRange

/-! ### Tenants (R408, R413) -/

/-- The target of T0's tenant commands. -/
def State.tenantTarget (s : State) : Tenant := ⟨s.rd (ob 0x9000 0x02) % 8, Nat.mod_lt _ (by decide)⟩

/-- VALUE_RANGE of a tenant command against its target's state. -/
def State.tenantStatus (s : State) (v : Nat) : Nat :=
  let n := s.tenantTarget
  let st := s.tenantState n
  match v with
  | 1 => when (st != 0) sRange
  | 2 => when (st != 1 || n.val == 0) sRange
  | 3 => when (st != 1 && st != 2) sRange
  | _ => sRange

/-- Whether another tenant's record holds a bit of `v`. -/
def State.takenBits (s : State) (n : Tenant) (sub v : Nat) : Bool :=
  tenants.any (fun u => u != n && (s.rd (ob (0x9010 + u.val) sub) &&& v) != 0)

/-- The sum of a ceiling over all tenants with `n`'s at `v`. -/
def State.ceilingSum (s : State) (n : Tenant) (sub v : Nat) : Nat :=
  tenants.foldl (fun a u => a + (if u = n then v else s.rd (ob (0x9010 + u.val) sub))) 0

/-- The status of a write to an allotment record. -/
def State.allotStatus (s : State) (n : Tenant) (sub v : Nat) : Nat :=
  let busy := fun (i : ScoreId) => (s.rd (ob (0x9010 + n.val) 0x03)).testBit i.val && !v.testBit i.val &&
    !(s.rd (ob (0xA000 + i.val) 0x02) == 0 || s.rd (ob (0xA000 + i.val) 0x02) == 4)
  firstStatus [when (s.tenantState n != 1) sRange,
    when ((sub == 1 || sub == 2 || sub == 3) && s.takenBits n sub v) sInUse,
    when (sub == 3 && scoreIds.any busy) sInUse,
    when (sub == 4 && decide (8192 < s.ceilingSum n 4 v)) sRange,
    when (sub == 5 && decide (s.rd (ob 0x9000 0x05) < s.ceilingSum n 5 v)) sRange]

/-! ### Keys (R430, R431, R433) -/

/-- Whether a slot code names a slot (Table 15-2). -/
def isSlot (c : Nat) : Bool := slotKind c != 0

/-- Whether a slot belongs to a tenant. -/
def ownsSlot (t : Tenant) (c : Nat) : Bool :=
  if c ≤ 0x3F then t.val == c / 8 else if c ≤ 0x4F then t.val == c % 8 else (c == 0x51 || c == 0x52) && t.val == 0

/-- State of a slot, 0x91cc.02. -/
def State.keyState (s : State) (c : Nat) : Nat := s.rd (ob (0x9100 + c) 0x02)

/-- The key status of an import before its crypto job: KEY_OK, KEY_SLOT_DENIED or KEY_KIND. -/
def State.importStatus (s : State) (t : Tenant) : Nat :=
  let c := s.rd (obT 0x9200 0x01 t)
  let n := s.rd (obT 0x9200 0x06 t)
  let relay := t.val == 0 && decide (0x40 ≤ c) && decide (c ≤ 0x4F) && s.tenantState ⟨c % 8, Nat.mod_lt _ (by decide)⟩ == 1 && s.keyState c == 0
  if !(isSlot c && (ownsSlot t c || relay)) then 1
  else if (n = 32 ∧ slotKind c ≠ 2) ∨ !((s.valueBytes t 0x9200 0x03).drop (8 + n)).all (· == 0) then 2 else 0

/-- The key status of an erasure. -/
def State.eraseStatus (s : State) (t : Tenant) : Nat :=
  let c := s.rd (obT 0x9200 0x01 t)
  if isSlot c && (ownsSlot t c || (t.val == 0 && decide (0x40 ≤ c) && decide (c ≤ 0x4F))) then 0 else 1

/-- The status of a key command (R432). -/
def State.keyStatus (s : State) (t : Tenant) (v : Nat) : Nat :=
  when ((if v = 1 then s.importStatus t else s.eraseStatus t) != 0) sRange

/-! ### Images (R438 to R443, R450) -/

/-- The bank of a target in a state, if any. -/
def State.bankIn (s : State) (target st : Nat) : Option Nat :=
  if s.bankState target 0 = st then some 0 else if s.bankState target 1 = st then some 1 else none

/-- The status of an image command. (DESIGN CHOICE, log entry 21.) -/
def State.imageStatus (s : State) (v : Nat) : Nat :=
  let st := s.imageSession
  let target := s.rd (ob 0x9300 0x02)
  match v with
  | 1 => when (st != 0 || (s.bankIn target 4).isSome) sInUse
  | 2 => when (st != 1) sRange
  | 3 => firstStatus [when (st != 3) sRange, when ((s.bankIn (3 - s.keys.imageTarget) 4).isSome) sInUse]
  | 4 => when (st != 5) sRange
  | 5 => if st = 4 ∨ st = 5 then sInUse else when (st == 0) sRange
  | 6 =>
    if st = 5 then sOK
    else if st = 4 ∨ s.rst.imageRestart.isSome = true then sInUse
    else match s.bankIn target 6 with
      | some b => when (decide (s.rd (bankKey target b 2) < s.rd (ob (0x9320 + target) 0x08))) sRange
      | none => sRange
  | _ => sRange

/-- The status of a write through the image window (R438). -/
def State.windowStatus (s : State) (off n : Nat) : Nat :=
  let at_ := s.rd (ob 0x9300 0x04) + off
  when (s.imageSession != 1 || at_ != s.rd (ob 0x9300 0x05) || decide (bankSize s.keys.imageTarget < at_ + n)) sRange

/-! ### Every rule of its own -/

/-- The status that an object's own rules give a write of the value `v` (for the image window, its offset and length). -/
def State.ruleStatus (s : State) (t : Tenant) (i sub off : Nat) (v : Octets) (x : Nat) : Nat :=
  if i = 0x1061 then when (sub == 2 && decide (s.rd (ob 0x1061 0x01) ≤ x)) sRange
  else if i = 0x2020 then when (x / 2 ^ (16 * ((sub - 1) / 16)) % 65536 != 0) sRange
  else if 0x2100 ≤ i ∧ i ≤ 0x213F then
    (if sub = 4 ∨ sub = 5 then firstOf (when (!driveOk x) sRange) (s.driveStatus x)
     else if sub = 8 then firstOf (when (decide (2000 < x)) sRange) (s.rampStatus x) else sOK)
  else if 0x2280 ≤ i ∧ i ≤ 0x2283 then
    (let hi := if sub = 1 then x else s.rd (ob i 0x01)
     let lo := if sub = 2 then x else s.rd (ob i 0x02)
     when ((sub == 1 || sub == 2) && decide (10 * hi < 42 * lo)) sRange)
  else if i = 0x4000 then s.sealCheck sub x
  else if i = 0x4030 then (if sub = 2 ∨ sub = 3 ∨ sub = 4 then s.gainCheck sub x else sOK)
  else if i = 0x4040 then when (sub == 2 && s.rd (ob 0x4100 0x06) == 3) sInUse
  else if i = 0x4100 then
    (if sub = 0x0B then when (decide (x < s.rd (ob 0x4100 0x0A)) || decide (8 < x)) sRange
     else if sub = 0x0F then s.releaseCheck x else sOK)
  else if i = 0x4120 then (if sub = 4 then s.homeCheck x else when (sub == 5 && x % 2 == 0) sRange)
  else if i = 0x5020 then (if sub = 9 ∨ sub = 0x0C then s.headCheck sub x else sOK)
  else if i = 0x6000 then (if sub = 4 then s.tuneCheck t x else sOK)
  else if i = 0x7010 then
    (if sub = 3 then firstOf (when (x != 0xFF && faultClass x == 0) sRange) (when (s.clearBlocked t x) sCause) else sOK)
  else if 0x7100 ≤ i ∧ i ≤ 0x71BF then when (x.testBit 3 && faultBlock (i - 0x7100) == 0) sRange
  else if i = 0x7200 then when (sub == 1 && t.val != 0 && x != 1) sRange
  else if i = 0x7400 then (if sub = 1 ∨ sub = 2 then bitmapStatus sub x else sOK)
  else if 0x8000 ≤ i ∧ i ≤ 0x800F then s.metroCheck ⟨(i - 0x8000) % 16, Nat.mod_lt _ (by decide)⟩ sub x
  else if i = 0x9000 then (if sub = 1 then s.tenantStatus x else sOK)
  else if 0x9010 ≤ i ∧ i ≤ 0x9017 then s.allotStatus ⟨(i - 0x9010) % 8, Nat.mod_lt _ (by decide)⟩ sub x
  else if i = 0x9160 then when (s.keyState (0x50 + x) == 0) sRange
  else if i = 0x9200 then (if sub = 4 then s.keyStatus t x else sOK)
  else if i = 0x9300 then (if sub = 1 then s.imageStatus x else when (sub == 4 && x % 4096 != 0) sRange)
  else if i = 0x9310 then s.windowStatus off v.length
  else if 0xA000 ≤ i ∧ i ≤ 0xA01F then (if sub = 4 then s.triggerStatus t x else sOK)
  else if 0xA100 ≤ i ∧ i ≤ 0xA11F then s.stepStatus (i - 0xA100) (leBytes 32 x)
  else if 0xA200 ≤ i ∧ i ≤ 0xA21F then s.slotStatus (i - 0xA200)
  else sOK

/-! ### A write checked whole (R378) -/

/-- LINK_RETIRED of a write: only the confirm of a seal acts on the air die itself (DEDUCED, log entry 17). -/
def State.writeLink (s : State) (i sub : Nat) : Nat := when (i == 0x4000 && sub == 3 && !s.linkReady .air) sRetired

/-- The status of a write to a visible object or reserved subindex, whatever its transport: everything from READ_ONLY on. -/
def State.valueStatus (s : State) (t : Tenant) (i sub off : Nat) (v : Octets) : Nat :=
  match Dict.row? i sub with
  | none => firstStatus [when (off != 0 || v.length != 1) sLength, when (leNat v != 0) sRange]
  | some r =>
    let st := when (r.acc == .const || r.acc == .ro) sReadOnly
    let len := r.ty.writeLength off v.length
    if st ≠ 0 ∨ len ≠ 0 then firstOf st len
    else
      let x := s.spliced t i sub off v
      firstStatus [r.valueStatus x, s.ruleStatus t i sub off v x,
        if r.acc = .rwp then s.ceilingStatus t (keyFor t i sub) x else sOK, s.writeLink i sub]

/-- The status of a WRITE request of a tenant. -/
def State.writeStatus (s : State) (t : Tenant) (tr : Transport) (i sub off : Nat) (v : Octets) : Nat :=
  firstStatus [when (!s.visible t i sub) sNoObject, when (!s.transportOn t tr) sDenied,
    when (decide (chunk tr (s.rd (ob 0x4100 0x08)) true < v.length)) sTooLong, s.valueStatus t i sub off v]

end Sys2Proof.Machine
end

