-- ==== Sys2Proof/Machine/Writes.lean ====
section
/-! DEFINITION. What an accepted write brings about: values stored with the effect that their own chapters give them (`State.store`), and
the commands of the WO objects (`State.act`). -/

namespace Sys2Proof.Machine

/-! ### Score slots (R153, R154, R162) -/

/-- A start command: an IDLE score runs; one that runs or stops counts an overrun. -/
def State.scoreStart (s : State) (i : ScoreId) : State :=
  match s.scoreState i with
  | 0 => s.runStart i
  | 1 | 2 => s.inc (ob (0xA000 + i.val) 0x09)
  | _ => s

/-- A stop command: a running score takes no further group. -/
def State.scoreStop (s : State) (i : ScoreId) : State :=
  if s.scoreState i = 1 then (s.wr (ob (0xA000 + i.val) 0x02) 2).advance i 1 else s

/-- A score switched on or off: at once where no run is in progress, else at its end. -/
def State.scoreSwitch (s : State) (i : ScoreId) (x : Nat) : State :=
  let s := s.wr (ob (0xA000 + i.val) 0x0A) x
  if x = 0 ∧ s.scoreState i = 0 then s.wr (ob (0xA000 + i.val) 0x02) 4
  else if x ≠ 0 ∧ s.scoreState i = 4 then s.wr (ob (0xA000 + i.val) 0x02) 0 else s

/-- A step record stored: a HALTED score is at rest again (Table 6-5). -/
def State.stepStored (s : State) (i : ScoreId) : State := if s.scoreState i = 3 then s.scoreRest i else s

/-- The score slot of an index. -/
def slotOf (i : Nat) : ScoreId := ⟨i % 32, Nat.mod_lt _ (by decide)⟩

/-- The metronome of an index. -/
def metroOf (i : Nat) : MetroId := ⟨i % 16, Nat.mod_lt _ (by decide)⟩

/-! ### Allotments (R81, R414, R466) -/

/-- What a change of an allotment record does to a resource that leaves or comes (R414). -/
def State.allotChange (s : State) (n : Tenant) (sub old x : Nat) : State :=
  match sub with
  | 1 => channels.foldl (fun s c => if old.testBit c.val != x.testBit c.val then s.allot c.val else s) s
  | 2 => metronomes.foldl (fun s m => if old.testBit m.val && !x.testBit m.val then s.metroDefaults m else s) s
  | 3 => scoreIds.foldl (fun s i =>
      if old.testBit i.val && !x.testBit i.val then s.clearSlot i
      else if !old.testBit i.val && x.testBit i.val then s.wr (ob (0xA000 + i.val) 0x01) n.val else s) s
  | _ => s

/-- An allotment record written: ALLOTMENT_CHANGED to T0 and the tenant where it changes. -/
def State.allotStore (s : State) (n : Tenant) (sub x : Nat) : State :=
  let k := ob (0x9010 + n.val) sub
  let old := s.rd k
  let s := if sub = 2 then metronomes.foldl (fun s m => if old.testBit m.val && !x.testBit m.val then s.metroCaught m else s) s else s
  if old = x then s else ((s.wr k x).allotChange n sub old x).raise 1214 (withT0 n) (u8 n.val)

/-- Committed values of the metronomes and score slots that leave with an allotment write, back at their defaults. -/
def State.allotKeeps (s : State) (n : Tenant) (sub x : Nat) : List (Nat × Nat) :=
  let old := s.rd (ob (0x9010 + n.val) sub)
  match sub with
  | 2 => metronomes.flatMap (fun m => if old.testBit m.val && !x.testBit m.val then
      (s.nvaObjs.filter (fun e => keyIndex e.1 == 0x8000 + m.val)).map (fun e => (e.1, Dict.dflt e.1)) else [])
  | 3 => scoreIds.flatMap (fun i => if old.testBit i.val && !x.testBit i.val then s.slotKept i else [])
  | _ => []

/-! ### Values -/

/-- The checkpoint interval changed: the next falls due one new interval after the last (R41). -/
def State.checkpointEvery (s : State) (x : Nat) : State :=
  let last := match s.dueAt .checkpoint with | some d => d - s.checkpointUs | none => s.now
  let s := s.wr (ob 0x1100 0x0C) x
  s.arm .checkpoint (last + s.checkpointUs)

/-- A value stored in an RW or RWP object by tenant `t`, with its effect. -/
def State.store (s : State) (t : Tenant) (i sub x : Nat) : State :=
  let k := keyFor t i sub
  if i = 0x1100 then (if sub = 0x0C then s.checkpointEvery x else (s.wr k x).timeWrite sub)
  else if i = 0x1070 ∧ sub = 0x0F then s.reportWrite x
  else if 0x2000 ≤ i ∧ i ≤ 0x2003 ∧ sub = 3 then s.enableVoice ⟨(i - 0x2000) % 4, Nat.mod_lt _ (by decide)⟩ (x != 0)
  else if i = 0x2020 then s.coupling sub x
  else if 0x2500 ≤ i ∧ i ≤ 0x253F then s.detectWrite (i - 0x2500) sub x
  else if i = 0x4030 ∧ sub = 1 then s.frontEndWrite x
  else if i = 0x4120 ∧ (sub = 5 ∨ sub = 6) then (s.wr k x).loadHops
  else if i = 0x4040 ∧ sub = 1 then (if x = 0 then (s.wr k x).cueStop else (s.wr k x).cueStart)
  else if i = 0x4100 ∨ i = 0x9160 then (s.wr k x).joinNow
  else if i = 0x5400 then (if s.rd k = x then s else (s.wr k x).mailCommit 2 (s.wr k x).portPage false)
  else if 0x8000 ≤ i ∧ i ≤ 0x800F then
    (let s := s.metroCaught (metroOf i)
     if sub = 4 then s.periodWrite (metroOf i) x else if sub = 8 then s.compareWrite (metroOf i) x else s.wr k x)
  else if 0x9010 ≤ i ∧ i ≤ 0x9017 then s.allotStore ⟨(i - 0x9010) % 8, Nat.mod_lt _ (by decide)⟩ sub x
  else if 0xA000 ≤ i ∧ i ≤ 0xA01F ∧ sub = 0x0A then s.scoreSwitch (slotOf i) x
  else if 0xA100 ≤ i ∧ i ≤ 0xA11F then (s.wr k x).stepStored (slotOf i)
  else if 0x1090 ≤ i ∧ i ≤ 0x109F then (s.wr k x).applyPin (i - 0x1090) (sub == 1)
  else s.wr k x

/-! ### Commands -/

/-- What a write leaves to be done: the state after it, the values it persists, and whether its reply waits for a crypto job or a key
commit. -/
structure Effect where
  st    : State
  keeps : List (Nat × Nat)
  waits : Bool

/-- A command with nothing to persist. -/
def State.only (s : State) : Effect := { st := s, keeps := [], waits := false }

/-- The acknowledgement of a tenant: its own domain's OPEN record, or for T0 every domain's (R497). -/
def State.acknowledge (s : State) (t : Tenant) : State :=
  (if t.val = 0 then tenants else [t]).foldl (fun s d =>
    match s.openRecord d with
    | some (page, _) => (s.setRecord page (fun r => { r with acked := true })).leaveOpen d
    | none => s) s

/-- A clear with what it does to the owning die (R501, R502). -/
def State.clearFaults (s : State) (t : Tenant) (x : Nat) : State :=
  let gone := s.clearable t x
  let s := s.clearSources t x
  let s := voiceIds.foldl (fun s v => if gone.any (fun p => p.1 == 16 + v.val) then s.voiceCleared v else s) s
  if gone.any (fun p => p.1 == 20) then s.boostCleared else s

/-- CREATE (R409, R634): ACTIVE in one step; its copies at their defaults, but for its two counters (R412). -/
def State.tenantMake (s : State) (n : Tenant) : Effect :=
  let i := 0x9020 + n.val
  let w := s.now
  let s := s.forgetKeys (fun k => ownCopy n k && keyIndex k != 0x1034)
  let s := s.wrAll ([(ob i 0x01, 1), (ob i 0x02, w)] ++ [3, 4, 5, 7, 8, 9].map (fun n => (ob i n, 0)))
  let s : State := { s with air := { s.air with tenantAir := s.air.tenantAir.filter (fun e => e.1 != n.val) } }
  { st := s.raise 1210 (withT0 n) (u8 n.val)
    keeps := [(ob i 0x01, 1), (ob i 0x02, w)] ++ [3, 4, 5, 7, 9].map (fun n => (ob i n, 0)), waits := false }

/-- A tenant command of T0 with its result in 0x9000.03. -/
def State.tenantAct (s : State) (x : Nat) : Effect :=
  let n := s.tenantTarget
  let s := s.wr (ob 0x9000 0x03) 0
  match x with
  | 1 => s.tenantMake n
  | 2 => (s.tenantDelete n).only
  | _ => (s.tenantReset n).only

/-- The scratch fields of a key request zeroed, and its status recorded (R432). -/
def State.keyEnded (s : State) (t : Tenant) (st : Nat) : State :=
  s.wrAll [(obT 0x9200 0x02 t, 0), (obT 0x9200 0x03 t, 0), (obT 0x9200 0x05 t, st)]

/-- An accepted key command: an import waits for its crypto job, which is T0's (R430); an erasure for its commit; one of an EMPTY slot
changes nothing (R433). (DEDUCED, log entry 20.) -/
def State.keyAct (s : State) (t : Tenant) (id x : Nat) : Effect :=
  let c := s.rd (obT 0x9200 0x01 t)
  if x = 1 then
    let s : State := { s with crypto := { s.crypto with queues := s.crypto.queues.set 0 (s.crypto.queues[0] ++ [.import_ t id]) } }
    { st := s.cryptoNext, keeps := [], waits := true }
  else if s.keyState c = 0 then (s.keyEnded t 0).only
  else { st := s.commit (.key c none t id), keeps := [], waits := true }

/-- BEGIN (R438): the bank that is neither ACTIVE nor TRIAL is erased. -/
def State.imageStart (s : State) : State :=
  let target := s.rd (ob 0x9300 0x02)
  let b := if s.bankState target 0 = 5 ∨ s.bankState target 0 = 4 then 1 else 0
  let s : State := { s with keys := { s.keys with
    imageTarget := target, imageBank := b, banks := s.keys.banks.set (bankPlace target b) [] } }
  s.wrAll [(bankKey target b 0, 1), (bankKey target b 1, 0), (bankKey target b 2, 0), (ob 0x9300 0x03, 1), (ob 0x9300 0x05, 0)]

/-- Whether every byte that the header of the loading bank declares has arrived. -/
def State.imageWhole (s : State) : Bool :=
  let b := s.bankBytes s.keys.imageTarget s.keys.imageBank
  decide (128 ≤ b.length) && b.length == 128 + leNat (slice 16 4 b)

/-- ABORT (R443): a verification under way ends. -/
def State.imageDrop (s : State) : State :=
  let st := s.imageSession
  let n := if st = 3 ∨ s.imageWhole = true then 2 else 0
  let s : State := { s with crypto := { s.crypto with
    queues := s.crypto.queues.map (fun q => q.filter (· != .verify)),
    running := if s.crypto.running.any (fun p => p.2 == .verify) then none else s.crypto.running } }
  ((s.setBank s.keys.imageTarget s.keys.imageBank n).imageIdle 7).cryptoNext

/-- CONFIRM (R442). -/
def State.imageKeep (s : State) : State :=
  match s.keys.trialFrom with
  | none => s
  | some (target, old) =>
    let b := s.runningBank target
    let i := 0x9320 + target
    let s := (s.trialOver.setBank target b 5).setBank target old 6
    let s := s.wr (ob i 0x08) (max (s.rd (ob i 0x08)) (s.rd (bankKey target b 2)))
    let s : State := { s with keys := { s.keys with trialFrom := none } }
    (s.imageIdle 0).imageEvent 1144 target 0 b

/-- REVERT (R442, R443): of a trial, or to the PREVIOUS bank without one. -/
def State.imageBack (s : State) : State :=
  if s.imageSession = 5 then
    match s.keys.trialFrom with
    | some (target, _) => s.revertTrial.restartTarget target
    | none => s
  else
    let target := s.rd (ob 0x9300 0x02)
    match s.bankIn target 6 with
    | some b => ({ s with keys := { s.keys with trialFrom := some (target, b) } } : State).restartTarget target
    | none => s

/-- An accepted image command (R438 to R443). -/
def State.imageAct (s : State) (x : Nat) : State :=
  match x with
  | 1 => s.imageStart
  | 2 =>
    let s := s.wr (ob 0x9300 0x03) 2
    ({ s with crypto := { s.crypto with queues := s.crypto.queues.set 0 (s.crypto.queues[0] ++ [.verify]) } } : State).cryptoNext
  | 3 =>
    let end_ := s.now + s.rd (ob 0x9300 0x07)
    ((s.wrAll [(ob 0x9300 0x03, 4), (ob 0x9300 0x08, end_)]).arm .trial end_).restartTarget s.keys.imageTarget
  | 4 => s.imageKeep
  | 5 => s.imageDrop
  | 6 => s.imageBack
  | _ => s

/-- Bytes that the image window takes (R438). -/
def State.windowAct (s : State) (v : Octets) : State :=
  let p := bankPlace s.keys.imageTarget s.keys.imageBank
  let s : State := { s with keys := { s.keys with banks := s.keys.banks.set p (s.keys.banks[p] ++ v) } }
  s.wr (ob 0x9300 0x05) s.keys.banks[p].length

/-- A reset asked for by a request of tenant `t` (R517, R518): kind 1 is its own tenant reset. -/
def State.resetAct (s : State) (t : Tenant) (tr : Transport) (id sub x : Nat) : State :=
  if sub = 2 then s.askReset (bitsReach x) (commandCause tr) (bitsReach x).kind t.val 0 (some id)
  else s.askReset (kindReach x) (commandCause tr) x t.val 0 (some id)

/-- The command of a WO object, from the request `id` of tenant `t` on a transport. -/
def State.act (s : State) (t : Tenant) (tr : Transport) (id i sub : Nat) (v : Octets) : Effect :=
  let x := leNat v
  if i = 0x1070 then s.newPack.only
  else if i = 0x4000 then (s.sealWrite sub x).only
  else if i = 0x4100 then (s.releaseAddress x).only
  else if i = 0x4120 then (s.homeRequest x).only
  else if i = 0x5020 then
    (if sub = 0x0C then s.releaseNode x
     else match x with
       | 1 => s.searchNow
       | 2 => s.walkNow
       | 3 => s.bypassCommand 0x0D
       | _ => s.bypassCommand 0x0E).only
  else if i = 0x6000 then
    (let (kind, target, method) := s.tuneRequest t
     match x with
     | 1 => s.startTuning { tenant := t, kind := kind, target := target, method := method, auto := false, stage := 0, first := none, last := none,
                                  voice := none, status := 0 }
     | 2 => s.revertTuning kind target
     | _ => s.abortTunings (fun u => u.tenant == t && !u.auto)).only
  else if i = 0x7010 then (if sub = 3 then s.clearFaults t x else s.acknowledge t).only
  else if i = 0x7200 then (s.resetAct t tr id sub x).only
  else if i = 0x7210 then (s.wr (ob 0x7210 0x06) (s.rd (ob 0x7210 0x06) - (s.rd (ob 0x7210 0x06) &&& x))).only
  else if 0x8000 ≤ i ∧ i ≤ 0x800F then ((s.metroCaught (metroOf i)).metroCommand (metroOf i) x).only
  else if i = 0x9000 then s.tenantAct x
  else if i = 0x9200 then s.keyAct t id x
  else if i = 0x9300 then (s.imageAct x).only
  else if i = 0x9310 then (s.windowAct v).only
  else if 0xA000 ≤ i ∧ i ≤ 0xA01F then (if x = 1 then s.scoreStart (slotOf i) else s.scoreStop (slotOf i)).only
  else s.only

/-- An accepted write of `v` at an offset by request `id` of tenant `t`. -/
def State.effect (s : State) (t : Tenant) (tr : Transport) (id i sub off : Nat) (v : Octets) : Effect :=
  match Dict.row? i sub with
  | none => s.only
  | some r =>
    if r.acc = .wo then s.act t tr id i sub v
    else
      let x := s.spliced t i sub off v
      let k := keyFor t i sub
      let more := if 0x9010 ≤ i ∧ i ≤ 0x9017 then s.allotKeeps ⟨(i - 0x9010) % 8, Nat.mod_lt _ (by decide)⟩ sub x else []
      { st := s.store t i sub x, keeps := if r.acc = .rwp ∧ s.needsCommit k x = true then (k, x) :: more else [], waits := false }

/-- The key status that a refused key command leaves (R432). -/
def State.keyRefusal (s : State) (t : Tenant) (i sub : Nat) (v : Octets) (st : Nat) : Option Nat :=
  if i = 0x9200 ∧ sub = 4 ∧ st = sRange ∧ (leNat v = 1 ∨ leNat v = 2) then
    some (if leNat v = 1 then s.importStatus t else s.eraseStatus t)
  else none

/-- What a refused write still does: a clear clears what it can (R378), a wrong confirm drops its seal request (R231), a key request is
zeroed (R432), a tenant command leaves its status in 0x9000.03 (R408). -/
def State.refusedEffect (s : State) (t : Tenant) (i sub : Nat) (v : Octets) (st : Nat) : State :=
  if i = 0x7010 ∧ sub = 3 ∧ st = sCause then s.clearFaults t (leNat v)
  else if i = 0x4000 ∧ st = sRange ∧ v.length = 1 then s.sealRefused sub
  else if i = 0x9200 then (match s.keyRefusal t i sub v st with | some k => s.keyEnded t k | none => s)
  else if i = 0x9000 ∧ sub = 1 ∧ t.val = 0 then s.wr (ob 0x9000 0x03) st
  else s

end Sys2Proof.Machine
end

