-- ==== Sys2Proof/Machine/Service.lean ====
section
/-! DEFINITION. The dictionary service (chapter 13): replies and their transports, arrival, and what every operation of Table 13-3 does
when its turn comes. -/

namespace Sys2Proof.Machine

/-! ### Replies (R377, R383, R385, R447, R518) -/

/-- A reply in its envelope. -/
def replyEnvelope (r : Reply) : Octets := envelope r.req.key 0x52 r.req.peer r.tenant.val r.req.counter (replyUnit r)

/-- A reply given to the transport that carried its request: the host port keeps it for a fetch, the pocket port answers its bridge
command; one that can no longer be MACed is dropped (R447). -/
def State.sendReply (s : State) (r : Reply) : State :=
  match r.req.transport with
  | .host => s
  | .pocket =>
    let s := s.handOver r
    if s.pocket.bridge.any (fun b => b.1 == r.req.peer) then s.bridgeEnd r.data (if r.status = 0 then 0x9000 else 0x9200 + r.status) else s
  | .mesh =>
    if s.serviceKey r.tenant = [] then s.handOver r
    else (s.leaveQueue r).originate (.reply r.tenant r.id) r.req.peer 2 false (replyEnvelope r)
  | .line =>
    if s.serviceKey r.tenant = [] then s.handOver r
    else
      let s := s.leaveQueue r
      let m : LineMsg := { dest := r.req.peer, src := s.lineAddr, payload := u8 2 ++ replyEnvelope r, seq := s.nextLineSeq r.req.peer,
                           tries := 0, report := none, tenant := some r.tenant, answers := some r.id }
      let s := s.bumpSeq r.req.peer
      ({ s with line := { s.line with queue := s.line.queue ++ [m] } } : State).lineNext

/-- A reply ready: counted (Table 13-15), and given to its transport. A reset that the request asked for waits for its handover from here
on (R518). -/
def State.post (s : State) (t : Tenant) (id : Nat) (req : Request) (status : Nat) (data : Octets) : State :=
  let s := s.inc (obT 0x1040 (if status = 0 then 0x03 else 0x04) t)
  let r : Reply := { id := id, tenant := t, req := req, status := status, data := data }
  let s : State := { s with svc := { s.svc with replies := s.svc.replies ++ [r] } }
  let s := match s.rst.waiting.find? (fun p => p.reply == some id) with
    | some p => s.armIn (.resetWait p.id) 2000000
    | none => s
  s.sendReply r

/-- A queued request answered. -/
def State.reply (s : State) (t : Tenant) (j : Job) (status : Nat) (data : Octets) : State :=
  let s := s.setJob t j.id (fun j => { j with phase := .replied })
  ({ s with svc := { s.svc with turn := t } } : State).post t j.id j.req status data

/-- A request whose effect stands: answered at once, or once what it waits for is done (R374, R432). One that its own tenant's reset has
discarded gets no reply (R402). -/
def State.finish (e : Effect) (t : Tenant) (j : Job) (data : Octets) : State :=
  let s := e.st
  let s : State := { s with svc := { s.svc with turn := t } }
  if !s.svc.queues[t].any (fun q => q.id == j.id) then s
  else if e.keeps.isEmpty && !e.waits then s.reply t j sOK data
  else
    let s := s.setJob t j.id (fun j => { j with phase := .committing data })
    if e.keeps.isEmpty then s else s.commit (.dict t j.id e.keeps)

/-! ### Arrival (R377, R378, R383, R384, R397) -/

/-- Whether an arrival carries an envelope. -/
def Arrival.sealed (a : Arrival) : Bool := a.transport == .mesh || a.transport == .line

/-- The counter floor advanced by a good request: SERVICE_COUNTER_LOW where it passes 0xFFFFF000, a commit where it has advanced 2,048
beyond the committed floor. -/
def State.floorTo (s : State) (t : Tenant) (c : Nat) : State :=
  let old := s.rd (obT 0x1034 0x04 t)
  let s := s.wr (obT 0x1034 0x04 t) c
  let s := s.floorLow t old c
  if s.svc.floorEnd[t] + 2048 ≤ c then s.commit .counters else s

/-- A request answered on arrival with a status, never queued. -/
def State.turnAway (s : State) (t : Tenant) (req : Request) (status : Nat) (data : Octets) : State :=
  let id := s.svc.nextId
  ({ s with svc := { s.svc with nextId := id + 1 } } : State).post t id req status data

/-- A request put in its tenant's queue. -/
def State.enqueueJob (s : State) (t : Tenant) (req : Request) : State :=
  let id := s.svc.nextId
  let s := ({ s with svc := { s.svc with nextId := id + 1 } } : State).setQueue t (fun q => q ++ [{ id := id, req := req, phase := .waiting }])
  s.wr (obT 0x1040 0x09 t) (max (s.rd (obT 0x1040 0x09 t)) s.svc.queues[t].length)

/-- The checks of arrival. (log entry 15.) -/
def State.arrive (s : State) (a : Arrival) : State :=
  let t := a.tenant
  let key := if a.sealed then s.serviceKey t else []
  let req := parseUnit a.transport a.peer a.counter key a.unit
  let good := !a.sealed || (key != [] && (cmac key (envelopeMessage 0x51 a.peer t.val a.counter a.unit)).take 8 == a.mac)
  if !good then s.inc (obT 0x1040 0x05 t)
  else if a.sealed && decide (a.counter ≤ s.rd (obT 0x1034 0x04 t)) then
    (s.inc (obT 0x1040 0x06 t)).turnAway t req sStale (u32 (s.rd (obT 0x1034 0x04 t)))
  else
    let s := if a.sealed then s.floorTo t a.counter else s
    if !s.active t then s.turnAway t req sInactive []
    else if 32 ≤ s.svc.queues[t].length then s.turnAway t req sQueueFull []
    else s.enqueueJob t req

/-- SERVICE_REQUEST_ARRIVAL (R377, R378): the oldest unit that a transport has brought. -/
def execServiceRequestArrival (s : State) : Result :=
  match s.svc.inbound with
  | [] => done s
  | a :: l => if s.up then done (({ s with svc := { s.svc with inbound := l } } : State).arrive a) else done s

/-! ### READ, DESCRIBE, NEXT (R368, R380 to R382) -/

/-- The mesh security level that sets the mesh chunk. -/
def State.secLevel (s : State) : Nat := s.rd (ob 0x4100 0x08)

/-- Whether an object is write-only. -/
def writeOnly (i sub : Nat) : Bool := match Dict.row? i sub with | some r => r.acc == .wo | none => false

/-- LENGTH of a read: whole, or a part of an OCTETS object. -/
def readLength (i sub off cnt : Nat) : Nat :=
  match Dict.row? i sub with
  | some r => if r.ty.isOctets then when (decide (r.ty.bytes < off + cnt)) sLength else when (off != 0 || cnt != 0) sLength
  | none => when (off != 0 || cnt != 0) sLength

/-- The bytes that a read returns. -/
def State.readBytes (s : State) (t : Tenant) (i sub off cnt : Nat) : Octets :=
  let b := s.valueBytes t i sub
  if cnt = 0 then b.drop off else slice off cnt b

/-- The status of a READ. -/
def State.readStatus (s : State) (t : Tenant) (tr : Transport) (i sub off cnt : Nat) : Nat :=
  firstStatus [when (!s.visible t i sub) sNoObject, when (!s.transportOn t tr) sDenied, when (writeOnly i sub) sWriteOnly,
    readLength i sub off cnt, when (decide (chunk tr s.secLevel false < (s.readBytes t i sub off cnt).length)) sTooLong, s.linkStatus i sub]

/-- SERVICE_READ, and a unit that no operation of Table 13-3 takes (R378, R380). -/
def execServiceRead (t : Tenant) (s : State) : Result :=
  match s.turn t with
  | none => done s
  | some j =>
    match j.req.op with
    | .read i sub off cnt =>
      let st := s.readStatus t j.req.transport i sub off cnt
      done (s.reply t j st (if st = 0 then s.readBytes t i sub off cnt else []))
    | .bad => if j.req.code = 0x82 ∨ (0x83 ≤ j.req.code ∧ j.req.code ≤ 0x89) then done s else done (s.reply t j sBadOp [])
    | _ => done s

/-- What a unit of the operation `code` that is not formed as Table 13-3 asks is answered with. -/
def State.badUnit (s : State) (t : Tenant) (j : Job) (code : Nat) : State := if j.req.code = code then s.reply t j sBadOp [] else s

/-- The data of DESCRIBE (Table 13-3). (DEDUCED, log entry 17.) -/
def describeBytes (i sub : Nat) : Octets :=
  match Dict.row? i sub with
  | none => [0, 2, 0, 0, 2, 4] ++ u16 1
  | some r =>
    let mn := match r.ty with | .q m n => (m, n) | .uq m n => (m, n) | _ => (0, 0)
    u8 (if Dict.isVar i then 0 else 1) ++ u8 r.ty.code ++ u8 mn.1 ++ u8 mn.2 ++ u8 r.acc.code ++
      u8 ((if r.per then 1 else 0) + (if r.acc = .ro ∧ isLive i sub = false then 2 else 0)) ++ u16 r.ty.bytes

/-- DESCRIBE (R380). -/
def execDescribe (t : Tenant) (s : State) : Result :=
  match s.turn t with
  | none => done s
  | some j =>
    match j.req.op with
    | .describe i sub =>
      let st := firstStatus [when (!s.visible t i sub) sNoObject, when (!s.transportOn t j.req.transport) sDenied]
      done (s.reply t j st (if st = 0 then describeBytes i sub else []))
    | .bad => done (s.badUnit t j 0x88)
    | _ => done s

/-- The first subindex of an index from `lo` on that a tenant sees. -/
def State.firstSub (s : State) (t : Tenant) (i lo : Nat) : Option Nat :=
  let hit := fun (r : Row) => decide (lo ≤ r.last) && s.visibleRow t i r.mask
  ((Dict.rowsOf i).find? hit).map (fun r => max lo r.sub)

/-- The next object that a tenant sees (R380). -/
def State.nextObject (s : State) (t : Tenant) (i sub : Nat) : Option (Nat × Nat) :=
  match s.firstSub t i (sub + 1) with
  | some n => some (i, n)
  | none =>
    let after := Dict.families.flatMap (fun f => if f.hi ≤ i then [] else
      (List.range (f.hi + 1 - max f.lo (i + 1))).map (fun n => max f.lo (i + 1) + n))
    match after.find? (fun x => (s.firstSub t x 0).isSome) with
    | some x => (s.firstSub t x 0).map (fun n => (x, n))
    | none => none

/-- NEXT (R371, R380). -/
def execNext (t : Tenant) (s : State) : Result :=
  match s.turn t with
  | none => done s
  | some j =>
    match j.req.op with
    | .next i sub =>
      match s.nextObject t i sub with
      | none => done (s.reply t j sNoObject [])
      | some p => if s.transportOn t j.req.transport then done (s.reply t j sOK (u16 p.1 ++ u8 p.2)) else done (s.reply t j sDenied [])
    | .bad => done (s.badUnit t j 0x89)
    | _ => done s

/-! ### WRITE (R369, R374, R378) -/

/-- The WRITE commands that have a row of their own, by the object and, for a command object, the value written. -/
inductive Own where
  | plain
  | resetKind (n : Nat) | resetBits | newPack | tempTerm | discipline | scoreStart | scoreStop | stepRecord | voiceEnable | coupling
  | tuneStart | tuneRevert | tuneAbort | sealRequest | sealConfirm | paGain | homeChannel | meshRelease | searchNow | walkNow | isolate
  | reconnect | lineRelease | tenantCreate | tenantDelete | tenantReset | allotment | keyImport | keyErase | imageCommand (n : Nat) | imageWindow
  | metroCommand (n : Nat) | period | compare | stride | faultAck | faultClear | reaction | pin
deriving DecidableEq, Repr

/-- The command that a WRITE is. -/
def ownOf (i sub : Nat) (v : Octets) : Own :=
  let x := byteAt v 0
  let one := v.length == 1
  if i = 0x7200 ∧ one then (if sub = 2 then .resetBits else if sub = 1 ∧ 1 ≤ x ∧ x ≤ 8 then .resetKind x else .plain)
  else if i = 0x1070 ∧ sub = 0x10 ∧ one ∧ x = 1 then .newPack
  else if i = 0x1100 then (if sub = 5 ∨ sub = 6 then .tempTerm else if sub = 7 ∨ sub = 9 ∨ sub = 0x0A then .discipline else .plain)
  else if 0xA000 ≤ i ∧ i ≤ 0xA01F ∧ sub = 5 ∧ one then (if x = 1 then .scoreStart else if x = 2 then .scoreStop else .plain)
  else if 0xA100 ≤ i ∧ i ≤ 0xA11F then .stepRecord
  else if 0x2000 ≤ i ∧ i ≤ 0x2003 ∧ sub = 3 then .voiceEnable
  else if i = 0x2020 ∧ sub ≠ 0 then .coupling
  else if i = 0x6000 ∧ sub = 4 ∧ one then (match x with | 1 => .tuneStart | 2 => .tuneRevert | 3 => .tuneAbort | _ => .plain)
  else if i = 0x4000 then (if sub = 2 then .sealRequest else if sub = 3 then .sealConfirm else .plain)
  else if i = 0x4030 ∧ 2 ≤ sub ∧ sub ≤ 4 then .paGain
  else if i = 0x4120 ∧ sub = 4 then .homeChannel
  else if i = 0x4100 ∧ sub = 0x0F then .meshRelease
  else if i = 0x5020 ∧ sub = 9 ∧ one then (match x with | 1 => .searchNow | 2 => .walkNow | 3 => .isolate | 4 => .reconnect | _ => .plain)
  else if i = 0x5020 ∧ sub = 0x0C then .lineRelease
  else if i = 0x9000 ∧ sub = 1 ∧ one then (match x with | 1 => .tenantCreate | 2 => .tenantDelete | 3 => .tenantReset | _ => .plain)
  else if 0x9010 ≤ i ∧ i ≤ 0x9017 then .allotment
  else if i = 0x9200 ∧ sub = 4 ∧ one then (match x with | 1 => .keyImport | 2 => .keyErase | _ => .plain)
  else if i = 0x9300 ∧ sub = 1 ∧ one then (if 1 ≤ x ∧ x ≤ 6 then .imageCommand x else .plain)
  else if i = 0x9310 then .imageWindow
  else if 0x8000 ≤ i ∧ i ≤ 0x800F then
    (match sub with
     | 4 => .period | 8 => .compare | 9 => .stride
     | 0x0E => if one ∧ 1 ≤ x ∧ x ≤ 3 then .metroCommand x else .plain
     | _ => .plain)
  else if i = 0x7010 then (if sub = 4 ∧ one ∧ x = 1 then .faultAck else if sub = 3 then .faultClear else .plain)
  else if 0x7100 ≤ i ∧ i ≤ 0x71BF ∧ sub = 3 then .reaction
  else if 0x1090 ≤ i ∧ i ≤ 0x109F then .pin
  else .plain

/-- A WRITE executed. (log entry 16.) -/
def State.serveWrite (s : State) (t : Tenant) (j : Job) (i sub off : Nat) (v : Octets) : State :=
  let st := s.writeStatus t j.req.transport i sub off v
  if st ≠ 0 then (s.refusedEffect t i sub v st).reply t j st []
  else State.finish (s.effect t j.req.transport j.id i sub off v) t j []

/-- The WRITE whose turn it is, where it is the command `o`. -/
def State.serveOwn (s : State) (t : Tenant) (o : Own) : State :=
  match s.turn t with
  | none => s
  | some j =>
    match j.req.op with
    | .write i sub off v => if ownOf i sub v = o then s.serveWrite t j i sub off v else s
    | _ => s

/-- SERVICE_WRITE (R380): a WRITE of any object without a row of its own. -/
def execServiceWrite (t : Tenant) (s : State) : Result :=
  match s.turn t with
  | none => done s
  | some j =>
    match j.req.op with
    | .bad => done (s.badUnit t j 0x82)
    | _ => done (s.serveOwn t .plain)

/-! ### Block transfers (R389 to R391, R405) -/

/-- A tenant's open block set, with its lapse. -/
def State.setBlock (s : State) (t : Tenant) (b : Option Block) : State :=
  let s : State := { s with svc := { s.svc with blocks := s.svc.blocks.set t b } }
  if b.isNone then s.cancel (.blockLapse t) else s.armIn (.blockLapse t) (s.rd (obT 0x1040 0x08 t))

/-- BLOCK_OPEN (R389, R391). -/
def execBlockOpen (t : Tenant) (s : State) : Result :=
  match s.turn t with
  | none => done s
  | some j =>
    let deny := when (!s.transportOn t j.req.transport) sDenied
    let busy := when (s.svc.blocks[t].isSome) sBusy
    match j.req.op with
    | .blockOpenRead i sub =>
      let st := firstStatus [when (!s.visible t i sub) sNoObject, deny, busy, when (writeOnly i sub) sWriteOnly, s.linkStatus i sub]
      if st ≠ 0 then done (s.reply t j st [])
      else
        let b := s.valueBytes t i sub
        done ((s.setBlock t (some { write := false, total := b.length, staged := b, last := 0, obj := (i, sub) })).reply t j sOK (u16 b.length))
    | .blockOpenWrite total =>
      let st := firstStatus [deny, busy, when (decide (5120 < total)) sBlockLong]
      if st ≠ 0 then done (s.reply t j st [])
      else done ((s.setBlock t (some { write := true, total := total, staged := [], last := 0, obj := (0, 0) })).reply t j sOK [])
    | .bad => done (s.badUnit t j 0x83)
    | _ => done s

/-- The status of BLOCK_DATA against the open block. (DESIGN CHOICE, log entry 18.) -/
def State.dataStatus (s : State) (t : Tenant) (tr : Transport) (off : Nat) (rest : Octets) : Nat :=
  let deny := when (!s.transportOn t tr) sDenied
  match s.svc.blocks[t] with
  | none => firstOf deny sNoBlock
  | some b =>
    if b.write then
      firstStatus [deny, when (decide (chunk tr s.secLevel true < rest.length)) sTooLong,
        when (decide (b.total < off + rest.length)) sBlockLong, when (off != b.staged.length && off != b.last) sSequence]
    else
      firstStatus [when (rest.length != 2) sBadOp, when (!s.visible t b.obj.1 b.obj.2) sNoObject, deny,
        when (decide (b.total < off + u16At rest 0)) sLength, when (decide (chunk tr s.secLevel false < u16At rest 0)) sTooLong]

/-- BLOCK_DATA (R390, R391, R405): a snapshot of an object gone from view is released. -/
def execBlockData (t : Tenant) (s : State) : Result :=
  match s.turn t with
  | none => done s
  | some j =>
    match j.req.op with
    | .blockData off rest =>
      let st := s.dataStatus t j.req.transport off rest
      match s.svc.blocks[t] with
      | none => done (s.reply t j st [])
      | some b =>
        let s := s.setBlock t (if st = sNoObject then none else some b)
        if st ≠ 0 then done (s.reply t j st [])
        else if b.write then
          done ((s.setBlock t (some { b with staged := b.staged.take off ++ rest, last := off })).reply t j sOK [])
        else done (s.reply t j sOK (slice off (u16At rest 0) b.staged))
    | .bad => done (s.badUnit t j 0x84)
    | _ => done s

/-- The records of a WRITE block; `none` where the bytes do not make whole records. Each record takes 7 bytes and its value. -/
def blockRecords : Nat → Octets → Option (List (Nat × Nat × Nat × Octets))
  | 0, b => if b = [] then some [] else none
  | f + 1, b =>
    if b = [] then some []
    else
      let n := u16At b 5
      if b.length < 7 + n then none
      else (blockRecords f (b.drop (7 + n))).map (fun l => (u16At b 0, byteAt b 2, u16At b 3, slice 7 n b) :: l)

/-- The status of one record: its own WRITE's, without the transport's chunk. (DESIGN CHOICE, log entry 18.) -/
def State.recordStatus (s : State) (t : Tenant) (i sub off : Nat) (v : Octets) : Nat :=
  firstOf (when (!s.visible t i sub) sNoObject) (s.valueStatus t i sub off v)

/-- Values charged to a tenant while the records of one block are checked. -/
def State.chargeAll (s : State) (t : Tenant) (l : List (Nat × Nat)) : State := l.foldl (fun s p => s.charge t p.1 p.2) s

/-- The records checked and applied in turn, each against what those before it leave (R390): the failing status with its number and the
key status that a failing key command leaves, or the effect of all. -/
def applyRecords (t : Tenant) (tr : Transport) (id : Nat) : Nat → List (Nat × Nat × Nat × Octets) → Effect →
    (Nat × Nat × Option Nat) ⊕ Effect
  | _, [], e => .inr e
  | n, (i, sub, off, v) :: l, e =>
    let st := e.st.recordStatus t i sub off v
    if st ≠ 0 then .inl (st, n, e.st.keyRefusal t i sub v st)
    else
      let f := e.st.effect t tr id i sub off v
      applyRecords t tr id (n + 1) l
        { st := f.st.chargeAll t f.keeps
          keeps := (e.keeps.filter (fun p => !f.keeps.any (fun q => q.1 == p.1))) ++ f.keeps, waits := e.waits || f.waits }

/-- The commit of a WRITE block; one that a key command fails zeroes that command's fields all the same (R432). -/
def State.blockCommit (s : State) (t : Tenant) (j : Job) (b : Block) : State :=
  if b.staged.length < b.total then s.reply t j sIncomplete []
  else
    match blockRecords b.staged.length b.staged with
    | none => s.reply t j sLength (u16 0)
    | some l =>
      match applyRecords t j.req.transport j.id 0 l { st := s, keeps := [], waits := false } with
      | .inl (st, n, k) => (match k with | some k => s.keyEnded t k | none => s).reply t j st (u16 n)
      | .inr e => State.finish { e with st := ({ e.st with charges := s.charges } : State).setBlock t none } t j (u16 l.length)

/-- BLOCK_CLOSE (R389 to R391). -/
def execBlockClose (t : Tenant) (s : State) : Result :=
  match s.turn t with
  | none => done s
  | some j =>
    match j.req.op with
    | .blockClose action =>
      if !s.transportOn t j.req.transport then done (s.reply t j sDenied [])
      else match s.svc.blocks[t] with
        | none => done (s.reply t j sNoBlock [])
        | some b =>
          if b.write && action == 1 then done ((s.setBlock t (some b)).blockCommit t j b)
          else if !b.write && !s.visible t b.obj.1 b.obj.2 then done ((s.setBlock t none).reply t j sNoObject [])
          else done ((s.setBlock t none).reply t j sOK (if b.write then u16 0 else []))
    | .bad => done (s.badUnit t j 0x85)
    | _ => done s

/-- BLOCK_LAPSE (R389). -/
def execBlockLapse (t : Tenant) (s : State) : Result := if s.isDue (.blockLapse t) then done (s.setBlock t none) else done s

/-! ### Subscriptions (R392 to R394) -/

/-- The transports on which a tenant has a route, as chunks that a subscribed value must fit. -/
def State.routeChunk (s : State) (t : Tenant) : Nat :=
  [(0, Transport.mesh), (1, .line), (2, .host)].foldl (fun n p =>
    if (s.routes t).testBit p.1 then min n (chunk p.2 s.secLevel false) else n) 65535

/-- The lowest free entry. (DEDUCED, log entry 19.) -/
def State.freeSub (s : State) (t : Tenant) : Option Nat :=
  (List.range 16).find? (fun n => !s.router.boxes[t].subs.any (fun e => e.entry == n))

/-- VALUE_RANGE of a subscription. (DEDUCED, log entry 19.) -/
def State.subRange (s : State) (t : Tenant) (i sub kind event deadband : Nat) : Nat :=
  let numeric := match Dict.row? i sub with | some r => r.ty.numeric | none => true
  when (!((kind == 1 && !isLive i sub) || (kind == 2 && s.couldReceive t event)) || (!numeric && deadband != 0)) sRange

/-- SUBSCRIBE (R392): the first evaluation of an ON_CHANGE entry always notifies. -/
def execSubscribe (t : Tenant) (s : State) : Result :=
  match s.turn t with
  | none => done s
  | some j =>
    match j.req.op with
    | .subscribe i sub kind event interval deadband =>
      let slot := s.freeSub t
      let st := firstStatus [when (!s.visible t i sub) sNoObject, when (!s.transportOn t j.req.transport) sDenied,
        when (writeOnly i sub) sWriteOnly, when (decide (s.routeChunk t < (s.valueBytes t i sub).length)) sTooLong,
        s.subRange t i sub kind event deadband, when slot.isNone sSubsFull]
      match st, slot with
      | 0, some n =>
        let e : Sub := { entry := n, index := i, sub := sub, kind := kind, event := event, interval := interval, deadband := deadband,
                         count := 0, seen := none, told := none, toldAt := 0, held := false }
        done ((s.setBox t (fun b => { b with subs := b.subs ++ [e] })).reply t j sOK (u8 n))
      | st, _ => done (s.reply t j st [])
    | .bad => done (s.badUnit t j 0x86)
    | _ => done s

/-- UNSUBSCRIBE (R394): a free entry is out of range. -/
def execUnsubscribe (t : Tenant) (s : State) : Result :=
  match s.turn t with
  | none => done s
  | some j =>
    match j.req.op with
    | .unsubscribe n =>
      let st := firstOf (when (!s.transportOn t j.req.transport) sDenied) (when (!s.router.boxes[t].subs.any (fun e => e.entry == n)) sRange)
      let s := if st = 0 then s.setBox t (fun b => { b with subs := b.subs.filter (fun e => e.entry != n) }) else s
      done (s.reply t j st [])
    | .bad => done (s.badUnit t j 0x87)
    | _ => done s

/-- SUBSCRIPTION_INTERVAL_END (R393): a held change is notified with the value of now where it still meets the deadband. -/
def execSubscriptionIntervalEnd (t : Tenant) (entry : Nat) (s : State) : Result :=
  match s.router.boxes[t].subs.find? (fun e => e.entry == entry) with
  | none => done s
  | some e =>
    if e.held && s.up && decide (e.toldAt + e.interval * 1000000 ≤ s.now) then
      let s := s.setBox t (fun b => { b with subs := b.subs.map (fun x => if x.entry = entry then { x with held := false } else x) })
      if e.meets (s.live t e.index e.sub) then done (s.notify t e s.now) else done s
    else done s

/-! ### The commands that are writes of one object -/

/-- RESET_REQUEST_TENANT (R517). -/
def execResetRequestTenant (t : Tenant) (s : State) : Result := done (s.serveOwn t (.resetKind 1))
/-- RESET_REQUEST_FIELD (R517). -/
def execResetRequestField (t : Tenant) (s : State) : Result := done (s.serveOwn t (.resetKind 2))
/-- RESET_REQUEST_AIR (R517). -/
def execResetRequestAir (t : Tenant) (s : State) : Result := done (s.serveOwn t (.resetKind 3))
/-- RESET_REQUEST_LINE (R517). -/
def execResetRequestLine (t : Tenant) (s : State) : Result := done (s.serveOwn t (.resetKind 4))
/-- RESET_REQUEST_POCKET (R517). -/
def execResetRequestPocket (t : Tenant) (s : State) : Result := done (s.serveOwn t (.resetKind 5))
/-- RESET_REQUEST_CONDUCTOR (R517). -/
def execResetRequestConductor (t : Tenant) (s : State) : Result := done (s.serveOwn t (.resetKind 6))
/-- RESET_REQUEST_WARM (R517). -/
def execResetRequestWarm (t : Tenant) (s : State) : Result := done (s.serveOwn t (.resetKind 7))
/-- RESET_REQUEST_CHIP (R517). -/
def execResetRequestChip (t : Tenant) (s : State) : Result := done (s.serveOwn t (.resetKind 8))
/-- BLOCK_RESET_BITS_WRITE (R517). -/
def execBlockResetBitsWrite (t : Tenant) (s : State) : Result := done (s.serveOwn t .resetBits)
/-- NEW_PACK (R569). -/
def execNewPack (t : Tenant) (s : State) : Result := done (s.serveOwn t .newPack)
/-- TEMPERATURE_TERM_WRITE (R37). -/
def execTemperatureTermWrite (t : Tenant) (s : State) : Result := done (s.serveOwn t .tempTerm)
/-- DISCIPLINE_SETTING_WRITE (R49). -/
def execDisciplineSettingWrite (t : Tenant) (s : State) : Result := done (s.serveOwn t .discipline)
/-- SCORE_START_COMMAND (R153). -/
def execScoreStartCommand (t : Tenant) (s : State) : Result := done (s.serveOwn t .scoreStart)
/-- SCORE_STOP_COMMAND (R153). -/
def execScoreStopCommand (t : Tenant) (s : State) : Result := done (s.serveOwn t .scoreStop)
/-- STEP_RECORD_WRITE (R161, R162, R170). -/
def execStepRecordWrite (t : Tenant) (s : State) : Result := done (s.serveOwn t .stepRecord)
/-- VOICE_ENABLE_WRITE (R76). -/
def execVoiceEnableWrite (t : Tenant) (s : State) : Result := done (s.serveOwn t .voiceEnable)
/-- COUPLING_MAP_WRITE (R67, R82). -/
def execCouplingMapWrite (t : Tenant) (s : State) : Result := done (s.serveOwn t .coupling)
/-- TUNING_START (R201). -/
def execTuningStart (t : Tenant) (s : State) : Result := done (s.serveOwn t .tuneStart)
/-- TUNING_REVERT (R200, R201). -/
def execTuningRevert (t : Tenant) (s : State) : Result := done (s.serveOwn t .tuneRevert)
/-- TUNING_ABORT (R201, R223). -/
def execTuningAbort (t : Tenant) (s : State) : Result := done (s.serveOwn t .tuneAbort)
/-- SEAL_REQUEST (R231). -/
def execSealRequest (t : Tenant) (s : State) : Result := done (s.serveOwn t .sealRequest)
/-- SEAL_CONFIRM (R231). -/
def execSealConfirm (t : Tenant) (s : State) : Result := done (s.serveOwn t .sealConfirm)
/-- PA_GAIN_WRITE (R251). -/
def execPaGainWrite (t : Tenant) (s : State) : Result := done (s.serveOwn t .paGain)
/-- HOME_CHANNEL_CHANGE_REQUEST (R288). -/
def execHomeChannelChangeRequest (t : Tenant) (s : State) : Result := done (s.serveOwn t .homeChannel)
/-- MESH_ADDRESS_RELEASE (R270). -/
def execMeshAddressRelease (t : Tenant) (s : State) : Result := done (s.serveOwn t .meshRelease)
/-- SEARCH_NOW (R330). -/
def execSearchNow (t : Tenant) (s : State) : Result := done (s.serveOwn t .searchNow)
/-- WALK_NOW (R331). -/
def execWalkNow (t : Tenant) (s : State) : Result := done (s.serveOwn t .walkNow)
/-- ISOLATE_COMMAND (R324). -/
def execIsolateCommand (t : Tenant) (s : State) : Result := done (s.serveOwn t .isolate)
/-- RECONNECT_COMMAND (R324). -/
def execReconnectCommand (t : Tenant) (s : State) : Result := done (s.serveOwn t .reconnect)
/-- LINE_ADDRESS_RELEASE (R320). -/
def execLineAddressRelease (t : Tenant) (s : State) : Result := done (s.serveOwn t .lineRelease)
/-- TENANT_CREATE (R408, R409). -/
def execTenantCreate (t : Tenant) (s : State) : Result := done (s.serveOwn t .tenantCreate)
/-- TENANT_DELETE (R408, R412). -/
def execTenantDelete (t : Tenant) (s : State) : Result := done (s.serveOwn t .tenantDelete)
/-- TENANT_RESET (R408, R410). -/
def execTenantReset (t : Tenant) (s : State) : Result := done (s.serveOwn t .tenantReset)
/-- ALLOTMENT_WRITE (R413, R414). -/
def execAllotmentWrite (t : Tenant) (s : State) : Result := done (s.serveOwn t .allotment)
/-- KEY_IMPORT (R430 to R432). -/
def execKeyImport (t : Tenant) (s : State) : Result := done (s.serveOwn t .keyImport)
/-- KEY_ERASE (R433). -/
def execKeyErase (t : Tenant) (s : State) : Result := done (s.serveOwn t .keyErase)
/-- IMAGE_BEGIN (R438). -/
def execImageBegin (t : Tenant) (s : State) : Result := done (s.serveOwn t (.imageCommand 1))
/-- IMAGE_WINDOW_WRITE (R438). -/
def execImageWindowWrite (t : Tenant) (s : State) : Result := done (s.serveOwn t .imageWindow)
/-- IMAGE_VERIFY (R439). -/
def execImageVerify (t : Tenant) (s : State) : Result := done (s.serveOwn t (.imageCommand 2))
/-- IMAGE_ACTIVATE (R440, R441). -/
def execImageActivate (t : Tenant) (s : State) : Result := done (s.serveOwn t (.imageCommand 3))
/-- IMAGE_CONFIRM (R442). -/
def execImageConfirm (t : Tenant) (s : State) : Result := done (s.serveOwn t (.imageCommand 4))
/-- IMAGE_ABORT (R443). -/
def execImageAbort (t : Tenant) (s : State) : Result := done (s.serveOwn t (.imageCommand 5))
/-- IMAGE_REVERT (R442, R443). -/
def execImageRevert (t : Tenant) (s : State) : Result := done (s.serveOwn t (.imageCommand 6))
/-- METRONOME_START (R458). -/
def execMetronomeStart (t : Tenant) (s : State) : Result := done (s.serveOwn t (.metroCommand 1))
/-- METRONOME_STOP (R458). -/
def execMetronomeStop (t : Tenant) (s : State) : Result := done (s.serveOwn t (.metroCommand 2))
/-- METRONOME_RESTART (R458). -/
def execMetronomeRestart (t : Tenant) (s : State) : Result := done (s.serveOwn t (.metroCommand 3))
/-- PERIOD_BUFFER_WRITE (R453, R454). -/
def execPeriodBufferWrite (t : Tenant) (s : State) : Result := done (s.serveOwn t .period)
/-- COMPARE_WRITE (R456). -/
def execCompareWrite (t : Tenant) (s : State) : Result := done (s.serveOwn t .compare)
/-- STRIDE_WRITE (R457). -/
def execStrideWrite (t : Tenant) (s : State) : Result := done (s.serveOwn t .stride)
/-- FAULT_ACKNOWLEDGE (R497). -/
def execFaultAcknowledge (t : Tenant) (s : State) : Result := done (s.serveOwn t .faultAck)
/-- FAULT_CLEAR (R501, R502). -/
def execFaultClear (t : Tenant) (s : State) : Result := done (s.serveOwn t .faultClear)
/-- REACTION_WRITE (R492, R495). -/
def execReactionWrite (t : Tenant) (s : State) : Result := done (s.serveOwn t .reaction)
/-- GP_CONFIG_WRITE (R587). -/
def execGpConfigWrite (t : Tenant) (s : State) : Result := done (s.serveOwn t .pin)

end Sys2Proof.Machine
end

