-- ==== Sys2Proof/Machine/Images.lean ====
section
/-! DEFINITION. The crypto engine's completions (R197): keys unwrapped and loaded (R430 to R434), images verified (R439); and the ends of
an image's trial (R442). -/

namespace Sys2Proof.Machine

/-! ### Keys (R430 to R434) -/

/-- The key-encryption key of an import into a slot (step 3 of R430). -/
def State.kek (s : State) (z : Octets) (c : Nat) : Octets :=
  (sha256 ([0, 0, 0, 1] ++ z ++ u8 c ++ u8 (slotKind c) ++ u64 (s.rd (ob 0x1050 0x01)))).take 16

/-- Steps 1 to 4 of an import: the key, or the key status of Table 15-3. -/
def State.unwrapped (s : State) (t : Tenant) : Nat ⊕ Octets :=
  match Config.ecdh 0 (s.valueBytes t 0x9200 0x02) with
  | none => .inl 3
  | some z =>
    let n := s.rd (obT 0x9200 0x06 t)
    match Config.unwrap (s.kek z (s.rd (obT 0x9200 0x01 t))) ((s.valueBytes t 0x9200 0x03).take (8 + n)) with
    | none => .inl 4
    | some k => .inr (padTo n k)

/-- What a failed request answers in its reply: nothing, or for a WRITE block the number of the record that failed, its last. -/
def failData (j : Job) : Octets :=
  match j.req.op, j.phase with
  | .blockClose _, .committing d => u16 (u16At d 0 - 1)
  | _, _ => []

/-- A request that failed after its execution answered with a status. (DEDUCED, log entry 20.) -/
def State.failReply (s : State) (t : Tenant) (id status : Nat) : State :=
  match s.svc.queues[t].find? (fun j => j.id == id) with
  | some j => if j.commits then s.reply t j status (failData j) else s
  | none => s

/-- An import's job done (R430, R432); one whose request its tenant's reset has discarded is dropped (R449). (DEDUCED, log entry 20.) -/
def State.importDone (s : State) (t : Tenant) (id : Nat) : State :=
  if !s.svc.queues[t].any (fun j => j.id == id) then s
  else
    let c := s.rd (obT 0x9200 0x01 t)
    match s.unwrapped t with
    | .inr key => s.commit (.key c (some key) t id)
    | .inl st => ((s.keyEnded t st).raise 1138 (slotSet c) (u8 c ++ u8 st)).failReply t id sRange

/-- A job of tenant `t` done: it is counted, and the engine takes the next (R197, Table 14-2). -/
def State.jobOver (s : State) (t : Tenant) : State :=
  let s : State := { s with crypto := { s.crypto with running := none } }
  (s.inc (ob (0x9020 + t.val) 0x09)).cryptoNext

/-- CRYPTO_JOB_DONE (R197): an AUTH reply checked or an import carried out. -/
def execCryptoJobDone (s : State) : Result :=
  match s.crypto.running with
  | some (t, .auth v granted) =>
    let s := s.jobOver t
    done (if s.grantedAt v = granted then s.authJobDone v else s)
  | some (t, .import_ u id) => done ((s.jobOver t).importDone u id)
  | some (_, .verify) => done s
  | none => done s

/-! ### Images (R437 to R439) -/

/-- The status of the checks of R439 on a bank's bytes. -/
def State.imageCheck (s : State) (target : Nat) (b : Octets) : Nat :=
  let h := b.take 128
  let len := leNat (slice 16 4 h)
  let zero := fun (off n : Nat) => (slice off n h).all (· == 0)
  if b.length < 128 ∨ h.take 4 ≠ [0x56, 0x58, 0x49, 0x4D] ∨ byteAt h 5 ≠ 1 ∨ byteAt h 7 ≠ 0 ∨ zero 14 2 = false ∨ zero 52 12 = false ∨
      bankSize target - 128 < len then 1
  else if byteAt h 4 ≠ target then 2
  else if byteAt h 6 ≠ s.rd (ob 0x1001 (if target = 1 then 0x02 else 0x04)) then 3
  else if b.length ≠ 128 + len then 1
  else if sha256 (b.drop 128) ≠ slice 20 32 h then 4
  else if Config.ecdsaOk (leBytes 64 (s.rd (ob 0x1050 0x05))) (h.take 64) (slice 64 64 h) = false then 5
  else if u16At h 12 < s.rd (ob (0x9320 + target) 0x08) then 6
  else 0

/-- The end of a verification (R439). (DESIGN CHOICE, log entry 21.) -/
def State.verified (s : State) : State :=
  let target := s.keys.imageTarget
  let bank := s.keys.imageBank
  let b := s.bankBytes target bank
  let st := s.imageCheck target b
  if st = 0 then
    ((s.setBank target bank 3).wrAll [(bankKey target bank 1, leNat (slice 8 4 b)), (bankKey target bank 2, u16At b 12),
      (ob 0x9300 0x03, 3), (ob 0x9300 0x06, 0)]).imageEvent 1141 target 0 bank
  else ((s.setBank target bank 7).imageIdle st).imageEvent 1142 target st bank

/-- IMAGE_VERIFY_DONE (R439); a verification that an ABORT has ended has no effect. -/
def execImageVerifyDone (s : State) : Result :=
  match s.crypto.running with
  | some (t, .verify) =>
    let s := s.jobOver t
    done (if s.imageSession = 2 then s.verified else s)
  | _ => done s

/-! ### The ends of a trial (R442) -/

/-- A revert with the restart of its target. -/
def State.revertNow (s : State) : State :=
  match s.keys.trialFrom with
  | some (target, _) => s.revertTrial.restartTarget target
  | none => s

/-- TRIAL_WINDOW_EXPIRED (R442). -/
def execTrialWindowExpired (s : State) : Result :=
  if s.isDue .trial && s.imageSession != 4 then
    let s := s.cancel .trial
    done (if s.imageSession = 5 then s.revertNow else s)
  else done s

/-- TRIAL_AIR_READY_TIMEOUT (R442). -/
def execTrialAirReadyTimeout (s : State) : Result :=
  if s.isDue .trialAir then
    let s := s.cancel .trialAir
    done (if s.imageSession = 5 then s.revertNow else s)
  else done s

end Sys2Proof.Machine
end

