-- ==== Sys2Proof/Machine/Pocket.lean ====
section
/-! DEFINITION. The pocket port (chapter 12): the field and the card layer, the wand's command set, page commits, the inbox, the bridge
into the dictionary, and commissioning (R435). -/

namespace Sys2Proof.Machine

/-! ### The field and the card layer (R340, R341, R353) -/

/-- The card layer answers with bytes. (PRESUMED, log entry 29.) -/
def State.cardSays (s : State) (c : Card) (b : Octets) : State := s.setPocket (fun p => { p with card := c, resp := b })

/-- FIELD_ON (R340): on the supply the card layer powers up at once; on HARVEST the store must charge first. -/
def execFieldOn (s : State) : Result :=
  if s.pocket.field then done s
  else
    let s := (s.setPocket (fun p => { p with field := true })).wr (ob 0x5400 0x01) 1
    let s := if s.pocket.running then s.cardSays .idle [] else s
    done (s.pocketRaise 1056 [t0] [])

/-- FIELD_OFF (R353). -/
def execFieldOff (s : State) : Result :=
  if !s.pocket.field then done s
  else
    let s := (s.pocketEnd.setPocket (fun p => { p with field := false, card := .off, held := none, answer := none })).wr (ob 0x5400 0x01) 0
    done (s.pocketRaise 1057 [t0] [])

/-- POCKET_HARVEST_READY (R340): the store has reached 1.8 V on HARVEST. -/
def execPocketHarvestReady (mv : Nat) (s : State) : Result :=
  if s.power.powered || s.pocket.running || !s.pocket.field || decide (mv < 1800) then done s
  else done (s.pocketStart.wr (ob 0x5400 0x04) mv)

/-- POCKET_VST_RESET (R340, R346): the store has fallen below 1.7 V on HARVEST. -/
def execPocketVstReset (mv : Nat) (s : State) : Result :=
  if s.power.powered || !s.pocket.running || decide (1700 ≤ mv) then done s
  else done (s.tearCommit.pocketStop.wr (ob 0x5400 0x04) mv)

/-- POCKET_REQA (R341): REQA, or WUPA, which also wakes a halted card. -/
def execPocketReqa (wupa : Bool) (s : State) : Result :=
  match s.pocket.card with
  | .idle => done (s.cardSays .ready [0x04, 0x00])
  | .halted => if wupa then done (s.cardSays .ready [0x04, 0x00]) else done s
  | .ready => done (s.cardSays .idle [])
  | .active => done (s.cardSays .idle [])
  | .iso => done s
  | .off => done s

/-- POCKET_SELECT (R341): the anticollision and selection of a UID. -/
def execPocketSelect (uid : Octets) (s : State) : Result :=
  match s.pocket.card with
  | .ready => if uid = s.pocket.uid then done (s.cardSays .active [0x20]) else done (s.cardSays .idle [])
  | _ => done s

/-- POCKET_HLTA (R341, R353): a fresh UID, and the end of any session. -/
def execPocketHlta (s : State) : Result :=
  if s.pocket.card = .active ∨ s.pocket.card = .iso then
    let (r, s) := s.pocketEnd.randomBytes 3
    done (s.setPocket (fun p => { p with card := .halted, uid := 0x08 :: r, resp := [], held := none, answer := none }))
  else done s

/-- POCKET_RATS (R341): the ATS. -/
def execPocketRats (s : State) : Result :=
  if s.pocket.card = .active then done (s.cardSays .iso [0x05, 0x75, 0x00, 0x80, 0x00]) else done s

/-- POCKET_PPS (R341): silence. -/
def execPocketPps (s : State) : Result := if s.pocket.card = .iso then done (s.cardSays .iso []) else done s

/-- POCKET_DESELECT (R353). -/
def execPocketDeselect (s : State) : Result :=
  if s.pocket.card = .iso then
    done ((s.pocketEnd.setPocket (fun p => { p with held := none, answer := none })).cardSays .halted [0xC2])
  else done s

/-! ### The command set (R342, R357, R358) -/

/-- The commands of Table 12-6. -/
inductive Wand where
  | select | getInfo | read | readRaw | write | authBegin | authFinish | getCert | agree | confirm | dictRead | dictWrite | reset
  | endSession | other
deriving DecidableEq, Repr

/-- The command that an APDU is. -/
def wandOf (a : Apdu) : Wand :=
  if a.cla = 0 ∧ a.ins = 0xA4 ∧ a.p1 = 4 ∧ a.p2 = 0 then .select
  else if a.cla ≠ 0x90 ∧ a.cla ≠ 0x94 then .other
  else match a.ins with
    | 0x10 => .getInfo
    | 0x20 => .read
    | 0x22 => .readRaw
    | 0x30 => .write
    | 0x40 => .authBegin
    | 0x42 => .authFinish
    | 0x48 => (match a.p1 with | 1 => .getCert | 2 => .agree | 3 => .confirm | _ => .other)
    | 0x50 => .dictRead
    | 0x52 => .dictWrite
    | 0x60 => .reset
    | 0x7E => .endSession
    | _ => .other

/-- Whether a command takes CLA 0x90. -/
def Wand.plain : Wand → Bool
  | .readRaw | .write | .dictRead | .dictWrite | .reset => false
  | _ => true

/-- Whether a command takes CLA 0x94. -/
def Wand.secured : Wand → Bool
  | .read | .readRaw | .write | .dictRead | .dictWrite | .reset | .endSession => true
  | _ => false

/-- A response in the class of its command. -/
def State.answer (s : State) (cla : Nat) (data : Octets) (w : Nat) : State :=
  if cla = 0x94 then s.respondSecured data w else s.respond data w

/-- A secured command's plaintext; `none` where its MAC fails (R357). -/
def State.unseal (s : State) (a : Apdu) : Option Octets :=
  let p := s.pocket
  let ct := a.data.take (a.data.length - 8)
  let m := u8 a.cla ++ u8 a.ins ++ u8 a.p1 ++ u8 a.p2 ++ u32 (2 * p.counter) ++ ct
  if 8 ≤ a.data.length ∧ (cmac p.kmac m).take 8 = a.data.drop (a.data.length - 8) then some (ctrCrypt p.kenc p.sid (2 * p.counter) ct)
  else none

/-- A command answered only where its data and parameters are those of Table 12-6. -/
def State.formed (s : State) (a : Apdu) (lenOk pOk : Bool) (f : State → State) : State :=
  if !lenOk then s.answer a.cla [] 0x6700 else if !pOk then s.answer a.cla [] 0x6A86 else f s

/-! ### SELECT, GET_INFO, READ, READ_RAW, WRITE (R342, R346, R348, R359) -/

/-- The AID of R342. -/
def pocketAid : Octets := [0xF0, 0x56, 0x58, 0x36, 0x34, 0x30, 0x50]

/-- SELECT by name. (DEDUCED, log entry 30.) -/
def State.wandSelect (s : State) (a : Apdu) : State :=
  if !a.lcOk then s.respond [] 0x6700
  else if a.data = pocketAid then
    let s := (s.sessionTo 1).setPocket (fun p => { p with sessions := p.sessions + 1, kx := none })
    ((s.armIn .pocketIdle s.idleUs).pocketRaise 1058 [t0] (u8 0xFF)).respond [] 0x9000
  else s.pocketEnd.respond [] 0x6A82

/-- GET_INFO (Table 12-7). -/
def State.wandInfo (s : State) (a : Apdu) (vst : Nat) : State :=
  s.formed a a.data.isEmpty (a.p1 == 0 && a.p2 == 0) (fun s =>
    s.answer a.cla (u8 1 ++ u8 (if s.power.powered then 1 else 0) ++ u16 vst ++ u8 s.pocketSession ++ u8 s.openMask ++ u8 0xF0 ++
      u8 s.pocket.fails ++ u8 (if s.power.powered then s.runState else 0xFF) ++ u8 s.inboxState ++ [0, 0]) 0x9000)

/-- Whether the session is T0's. -/
def State.wandT0 (s : State) : Bool := s.pocketSession == 3 && s.pocketTenant == some t0

/-- What refuses a read of one page, 0x9000 where nothing does. -/
def State.readSw (s : State) (cla page : Nat) : Nat :=
  if 0xEF < page then 0x9106
  else if cla = 0x94 then (if isInbox page && !s.wandT0 then 0x9105 else 0x9000)
  else if isInbox page then 0x9105
  else match areaBit page with
    | some b => if s.openMask.testBit b then 0x9000 else 0x9105
    | none => 0x9000

/-- READ. -/
def State.wandRead (s : State) (a : Apdu) : State :=
  s.formed a a.data.isEmpty (decide (1 ≤ a.p2) && decide (a.p2 ≤ 4)) (fun s =>
    let l := (List.range a.p2).map (fun n => a.p1 + n)
    match (l.map (s.readSw a.cla)).find? (· != 0x9000) with
    | some w => s.answer a.cla [] w
    | none => s.answer a.cla (l.flatMap s.mailPage) 0x9000)

/-- READ_RAW: the first WRITING descriptor that names the page. -/
def State.wandReadRaw (s : State) (a : Apdu) : State :=
  s.formed a a.data.isEmpty (a.p2 == 0) (fun s =>
    let w := s.readSw 0x94 a.p1
    if w ≠ 0x9000 then s.answer a.cla [] w
    else match (List.range 256).find? (fun q => s.pocket.descByte q 3 == 0x7F && s.pocket.descByte q 0 == a.p1) with
      | some q => s.answer a.cla (Mem.bytes s.pocket.desc (4 * q) 4 ++ Mem.bytes s.pocket.mail (64 * q) 64) 0x9000
      | none => s.answer a.cla [] 0x910C)

/-- The margin check (R348). -/
def State.margin (s : State) (vst : Nat) : Bool := s.power.powered || decide (s.writeMv ≤ vst)

/-- A command refused for want of margin. -/
def State.lowMargin (s : State) (cla : Nat) : State :=
  ((s.setPocket (fun p => { p with refusals := p.refusals + 1 })).pocketRaise 1061 [t0] []).answer cla [] 0x9101

/-- What refuses a WRITE before its margin check (R349, R352, R359). -/
def State.writeSw (s : State) (page : Nat) (v : Octets) : Nat :=
  if 0xEF < page then 0x9106
  else if !s.wandT0 || decide (page < 0x40) then 0x9107
  else if isInbox page = true ∧ (s.inboxState = 1 ∨ s.inboxState = 4) then
    (if page = 0x40 ∧ byteAt v 3 = 0 ∧ s.inboxState = 1 then 0x9000 else 0x910D)
  else 0x9000

/-- WRITE: its response comes with the commit. -/
def State.wandWrite (s : State) (a : Apdu) (vst : Nat) : State :=
  s.formed a (a.data.length == 64) (a.p2 == 0) (fun s =>
    let w := s.writeSw a.p1 a.data
    if w ≠ 0x9000 then s.answer a.cla [] w
    else if !s.margin vst then s.lowMargin a.cla
    else (s.setPocket (fun p => { p with answer := some a.cla })).mailCommit a.p1 a.data true)

/-! ### Authentication (R355, R356) -/

/-- How long the field must have been present for AUTH_BEGIN after `f` failures, in µs. -/
def authDelay (f : Nat) : Nat := if f < 5 then 0 else min 64000000 (2000000 * 2 ^ (f - 5))

/-- AUTH_BEGIN. (DEDUCED, log entry 30.) -/
def State.wandAuthBegin (s : State) (a : Apdu) (present : Nat) : State :=
  s.formed a (a.data.length == 16) (decide (a.p1 < 8) && a.p2 == 0) (fun s =>
    if present < authDelay s.pocket.fails then s.answer a.cla [] 0x9104
    else if !s.pocketKeyed a.p1 then s.answer a.cla [] 0x910B
    else
      let (r, s) := s.randomBytes 16
      let tp := cmac (s.slotKey (0x48 + a.p1)) (u8 0x50 ++ r ++ a.data)
      ((s.sessionTo 2).setPocket (fun p => { p with slot := a.p1, rndW := a.data, rndP := r })).answer a.cla (r ++ tp) 0x9000)

/-- A proof that failed: counted, and the session back in SELECTED. -/
def State.proofFailed (s : State) (cla : Nat) : State :=
  (((s.sessionTo 1).setPocket (fun p => { p with failures := p.failures + 1, kx := none })).pocketRaise 1060 [t0] []).answer cla [] 0x9103

/-- The failure counted before a proof is checked. -/
def State.countProof (s : State) : State := s.setPocket (fun p => { p with fails := satInc 255 p.fails })

/-- AUTH_FINISH. -/
def State.wandAuthFinish (s : State) (a : Apdu) (vst : Nat) : State :=
  s.formed a (a.data.length == 16) (a.p1 == 0 && a.p2 == 0) (fun s =>
    if s.pocketSession ≠ 2 then s.answer a.cla [] 0x6985
    else if !s.margin vst then s.lowMargin a.cla
    else
      let s := s.countProof
      let p := s.pocket
      let k := s.slotKey (0x48 + p.slot)
      if a.data = cmac k (u8 0x57 ++ p.rndW ++ p.rndP) then
        let s := s.wrAll [(ob 0x5400 0x02, 3), (ob 0x5400 0x03, p.slot)]
        (s.setPocket (fun x => { x with
          fails := 0, counter := 0, sid := p.rndW.take 4 ++ p.rndP.take 4, kenc := cmac k (u8 0x01 ++ p.rndW ++ p.rndP),
          kmac := cmac k (u8 0x02 ++ p.rndW ++ p.rndP) })).answer a.cla [] 0x9000
      else s.proofFailed a.cla)

/-! ### Commissioning (R435) -/

/-- A step of KEY_EXCHANGE in SELECTED; AGREE and CONFIRM only while PK0 is EMPTY. -/
def State.exchangeOpen (s : State) (needsEmpty : Bool) : Bool := s.pocketSession == 1 && !(needsEmpty && s.pocketKeyed 0)

/-- GET_CERT: half of the certificate. -/
def State.wandCert (s : State) (a : Apdu) : State :=
  s.formed a a.data.isEmpty (decide (a.p2 ≤ 1)) (fun s =>
    if !s.exchangeOpen false then s.answer a.cla [] 0x6985
    else s.answer a.cla (slice (128 * a.p2) 128 (leBytes 256 (s.rd (ob 0x1050 0x03)))) 0x9000)

/-- AGREE. -/
def State.wandAgree (s : State) (a : Apdu) : State :=
  s.formed a (a.data.length == 64) (a.p2 == 0) (fun s =>
    if !s.exchangeOpen true then s.answer a.cla [] 0x6985
    else match Config.ecdh 1 a.data with
      | none => s.answer a.cla [] 0x9103
      | some z =>
        let x := a.data.take 32
        let kx := sha256 (u8 1 ++ z ++ leBytes 12 Config.commissioningCode ++ x ++ u64 (s.rd (ob 0x1050 0x01)))
        let kc := slice 16 16 kx
        (s.setPocket (fun p => { p with kx := some (kx.take 16, kc, x) })).answer a.cla (cmac kc (u8 0x44 ++ x)) 0x9000)

/-- CONFIRM: a good proof commits PK0 with page 0x03. (DEDUCED, log entry 30.) -/
def State.wandConfirm (s : State) (a : Apdu) (vst : Nat) : State :=
  s.formed a (a.data.length == 16) (a.p2 == 0) (fun s =>
    match s.pocket.kx with
    | none => s.answer a.cla [] 0x6985
    | some (key, kc, x) =>
      if !s.exchangeOpen true then s.answer a.cla [] 0x6985
      else if !s.margin vst then s.lowMargin a.cla
      else
        let s := s.countProof
        if a.data = cmac kc (u8 0x57 ++ x) then
          let keyed : State := { s with keys := { s.keys with slots := (0x48, key) :: s.keys.slots } }
          (s.setPocket (fun p => { p with answer := some a.cla })).mailCommit 3 (keyed.statePage s.inboxOutcome) true
        else s.proofFailed a.cla)

/-- PK0 loaded by commissioning: the key, its slot's objects, the failure count cleared. -/
def State.pk0Loaded (s : State) (key : Octets) : State :=
  let l := [(ob 0x9148 0x02, 1), (ob 0x9148 0x03, leNat ((aes key (List.replicate 16 0)).take 3)),
    (ob 0x9148 0x04, if s.power.powered then s.now else 0), (ob 0x9148 0x05, 0)]
  let s : State := { s with keys := { s.keys with slots := (0x48, key) :: s.keys.slots.filter (fun p => p.1 != 0x48) } }
  ((s.wrAll l).keep l).setPocket (fun p => { p with fails := 0, kx := none })

/-! ### The bridge (R360 to R362) -/

/-- A service unit passed to the conductor for the session's tenant; the response comes with its reply. -/
def State.bridgeUnit (s : State) (a : Apdu) (unit : Octets) (since : Nat) : State :=
  match s.pocketTenant with
  | none => s.answer a.cla [] 0x9102
  | some t =>
    if !s.power.powered then s.answer a.cla [] 0x9108
    else if !(s.up && s.linkReady .pocket) then s.answer a.cla [] 0x910E
    else
      let n := s.svc.nextId
      let u : Arrival := { transport := .pocket, peer := n, tenant := t, counter := 0, mac := [], unit := unit }
      let s : State := { s with svc := { s.svc with nextId := n + 1, inbound := s.svc.inbound ++ [u] } }
      let s := ((s.setPocket (fun p => { p with bridge := some (n, since) })).arm .bridgeWtx (since + 60000)).arm .bridgeTimeout (since + 2000000)
      s.wakeBy 5

/-- DICT_READ: an object other than an OCTETS object is read whole. -/
def State.wandDictRead (s : State) (a : Apdu) (since : Nat) : State :=
  s.formed a (a.data.length == 4) true (fun s =>
    if byteAt a.data 3 = 0 ∨ 200 < byteAt a.data 3 then s.answer a.cla [] 0x6A80
    else
    let i := 256 * a.p1 + a.p2
    let octets := match Dict.row? i (byteAt a.data 0) with | some r => r.ty.isOctets | none => false
    s.bridgeUnit a (u8 1 ++ u16 0 ++ u16 i ++ a.data.take 3 ++ u16 (if octets then byteAt a.data 3 else 0)) since)

/-- DICT_WRITE. -/
def State.wandDictWrite (s : State) (a : Apdu) (since : Nat) : State :=
  s.formed a (decide (4 ≤ a.data.length) && decide (a.data.length ≤ 199)) true (fun s =>
    s.bridgeUnit a (u8 2 ++ u16 0 ++ u16 (256 * a.p1 + a.p2) ++ a.data) since)

/-- RESET_REQUEST: the response comes before the reset (R361). (DEDUCED, log entry 30.) -/
def State.wandReset (s : State) (a : Apdu) : State :=
  s.formed a a.data.isEmpty (a.p2 == 0) (fun s =>
    match s.pocketTenant with
    | none => s.answer a.cla [] 0x9102
    | some t =>
      if !s.power.powered then s.answer a.cla [] 0x9108
      else if !(s.up && s.linkReady .pocket) then s.answer a.cla [] 0x910E
      else
        let s := s.wakeBy 5
        if !s.transportOn t .pocket then s.answer a.cla [] 0x9215
        else if a.p1 = 0 ∨ 8 < a.p1 ∨ (t.val ≠ 0 ∧ a.p1 ≠ 1) then s.answer a.cla [] 0x9205
        else (s.answer a.cla [] 0x9000).askReset (kindReach a.p1) (commandCause .pocket) a.p1 t.val 0 none)

/-- END_SESSION. -/
def State.wandEnd (s : State) (a : Apdu) : State :=
  s.formed a a.data.isEmpty (a.p1 == 0 && a.p2 == 0) (fun s => (s.answer a.cla [] 0x9000).pocketEnd)

/-! ### One APDU -/

/-- A command of an open session, its data in clear. -/
def State.wandRun (s : State) (w : Wand) (a : Apdu) (h : HeldApdu) : State :=
  match w with
  | .select => s.wandSelect a
  | .getInfo => s.wandInfo a h.vst
  | .read => s.wandRead a
  | .readRaw => s.wandReadRaw a
  | .write => s.wandWrite a h.vst
  | .authBegin => s.wandAuthBegin a h.present
  | .authFinish => s.wandAuthFinish a h.vst
  | .getCert => s.wandCert a
  | .agree => s.wandAgree a
  | .confirm => s.wandConfirm a h.vst
  | .dictRead => s.wandDictRead a h.since
  | .dictWrite => s.wandDictWrite a h.since
  | .reset => s.wandReset a
  | .endSession => s.wandEnd a
  | .other => s.respond [] (if a.cla = 0x90 ∨ a.cla = 0x94 then (if a.ins = 0x48 then 0x6A86 else 0x6D00) else 0x6E00)

/-- An APDU taken up (R342, R357, R358). -/
def State.apdu (s : State) (h : HeldApdu) : State :=
  let a := parseApdu h.bytes
  let w := wandOf a
  if w = .select then s.wandSelect a
  else if s.pocketSession = 0 then s.respond [] 0x6985
  else
    let s := s.armIn .pocketIdle s.idleUs
    if w = .other then s.wandRun .other a h
    else if !a.lcOk then s.respond [] 0x6700
    else if a.cla = 0x90 then (if w.plain then s.wandRun w a h else s.respond [] 0x9102)
    else if !w.secured then s.respond [] 0x6E00
    else if s.pocketSession ≠ 3 then s.respond [] 0x9102
    else match s.unseal a with
      | none => s.pocketEnd.respond [] 0x9109
      | some b => if 200 < b.length then s.answer a.cla [] 0x6700 else s.wandRun w { a with data := b } h

/-- A command of the wand: taken up while the port is in its ISO 14443-4 state and owes no answer; one that meets a commit under way waits
for it (R364). The row of a command also takes the APDUs that no row has. -/
def State.wand (s : State) (own : Wand) (bytes : Octets) (vst present : Nat) : State :=
  let w := wandOf (parseApdu bytes)
  let p := s.pocket
  if (w ≠ own ∧ w ≠ .other) ∨ p.running = false ∨ p.card ≠ .iso ∨ p.bridge.isSome = true ∨ p.answer.isSome = true ∨ p.held.isSome = true then s
  else
    let h : HeldApdu := { bytes := bytes, vst := vst, present := present, since := s.now }
    if p.commits.isEmpty then s.apdu h else s.setPocket (fun p => { p with held := some h })

/-- SELECT_BY_NAME (R342). -/
def execSelectByName (b : Octets) (s : State) : Result := done (s.wand .select b 0 0)
/-- GET_INFO (R358). -/
def execGetInfo (b : Octets) (vst : Nat) (s : State) : Result := done (s.wand .getInfo b vst 0)
/-- READ (R349, R359). -/
def execRead (b : Octets) (s : State) : Result := done (s.wand .read b 0 0)
/-- READ_RAW (R346, R359). -/
def execReadRaw (b : Octets) (s : State) : Result := done (s.wand .readRaw b 0 0)
/-- WRITE (R348, R349, R359). -/
def execWrite (b : Octets) (vst : Nat) (s : State) : Result := done (s.wand .write b vst 0)
/-- AUTH_BEGIN (R355, R356). -/
def execAuthBegin (b : Octets) (present : Nat) (s : State) : Result := done (s.wand .authBegin b 0 present)
/-- AUTH_FINISH (R355, R356). -/
def execAuthFinish (b : Octets) (vst : Nat) (s : State) : Result := done (s.wand .authFinish b vst 0)
/-- GET_CERT (R427, R435). -/
def execGetCert (b : Octets) (s : State) : Result := done (s.wand .getCert b 0 0)
/-- KEY_EXCHANGE_AGREE (R435). -/
def execKeyExchangeAgree (b : Octets) (s : State) : Result := done (s.wand .agree b 0 0)
/-- KEY_EXCHANGE_CONFIRM (R435). -/
def execKeyExchangeConfirm (b : Octets) (vst : Nat) (s : State) : Result := done (s.wand .confirm b vst 0)
/-- DICT_READ (R360). -/
def execDictRead (b : Octets) (s : State) : Result := done (s.wand .dictRead b 0 0)
/-- DICT_WRITE (R360). -/
def execDictWrite (b : Octets) (s : State) : Result := done (s.wand .dictWrite b 0 0)
/-- RESET_REQUEST (R361). -/
def execResetRequest (b : Octets) (s : State) : Result := done (s.wand .reset b 0 0)
/-- END_SESSION (R353). -/
def execEndSession (b : Octets) (s : State) : Result := done (s.wand .endSession b 0 0)

/-! ### Timers of the port (R353, R362) -/

/-- Whether a timer of the pocket die has run out; without device time any that is set may. -/
def State.pocketDue (s : State) (tm : Timer) : Bool := if s.power.powered then s.isDue tm else s.isArmed tm

/-- POCKET_IDLE_TIMEOUT (R353). -/
def execPocketIdleTimeout (s : State) : Result :=
  if s.pocketDue .pocketIdle then done (s.cancel .pocketIdle).pocketEnd else done s

/-- BRIDGE_WTX_DUE (R362): S(WTX) with WTXM 1. -/
def execBridgeWtxDue (s : State) : Result :=
  if s.isDue .bridgeWtx && s.pocket.bridge.isSome then
    done ((s.arm .bridgeWtx ((s.dueAt .bridgeWtx).getD 0 + 60000)).setPocket (fun p => { p with resp := [0xF2, 0x01] }))
  else done s

/-- BRIDGE_TIMEOUT (R362). -/
def execBridgeTimeout (s : State) : Result :=
  if s.isDue .bridgeTimeout && s.pocket.bridge.isSome then done (s.bridgeEnd [] 0x910F) else done s

/-! ### The inbox (R351, R352) -/

/-- The records of the inbox: as many as the header counts, which must take all of the bytes. -/
def inboxRecords : Nat → Octets → Option (List (Nat × Nat × Octets))
  | 0, b => if b = [] then some [] else none
  | n + 1, b =>
    let len := byteAt b 3
    if b.length < 4 + len then none
    else (inboxRecords n (b.drop (4 + len))).map (fun l => (u16At b 0, byteAt b 2, slice 4 len b) :: l)

/-- The records that the header announces; `none` where it does not check. -/
def State.inboxList (s : State) : Option (List (Nat × Nat × Octets)) :=
  let h := s.mailPage 0x40
  let len := u16At h 4
  if h.take 2 ≠ [0x49, 0x42] ∨ 4032 < len then none
  else inboxRecords (byteAt h 2) (((List.range 63).flatMap (fun n => s.mailPage (0x41 + n))).take len)

/-- One record applied as a write by T0; an import is carried out at once. Its status. -/
def State.inboxRecord (s : State) (i sub : Nat) (v : Octets) : Nat × State :=
  let st := s.recordStatus t0 i sub 0 v
  if st ≠ 0 then (st, s.refusedEffect t0 i sub v st)
  else
    let id := s.svc.nextId
    let s : State := { s with svc := { s.svc with nextId := id + 1 } }
    if i = 0x9200 ∧ sub = 4 ∧ leNat v = 1 then
      let c := s.rd (obT 0x9200 0x01 t0)
      let s := s.inc (ob 0x9020 0x09)
      match s.unwrapped t0 with
      | .inr key => (0, s.commit (.key c (some key) t0 id))
      | .inl k => (sRange, (s.keyEnded t0 k).raise 1138 (slotSet c) (u8 c ++ u8 k))
    else
      let e := s.effect t0 .pocket id i sub 0 v
      let s := if e.keeps.isEmpty then e.st else e.st.commit (.dict t0 id e.keeps)
      (0, s.replyOut id)

/-- The records applied in order up to the first refused: its number and status, if any. -/
def State.inboxApply (s : State) : Nat → List (Nat × Nat × Octets) → Option (Nat × Nat) × State
  | _, [] => (none, s)
  | n, (i, sub, v) :: l =>
    match s.inboxRecord i sub v with
    | (0, s) => s.inboxApply (n + 1) l
    | (st, s) => (some (n, st), s)

/-- Steps 2 to 4 of R352. (DEDUCED, log entry 31.) -/
def State.inboxRun (s : State) : State :=
  let (bad, s) := match s.inboxList with
    | some l => s.inboxApply 0 l
    | none => (some (0xFF, 0), s)
  let r := match bad with | some p => (3, p.1, p.2) | none => (2, 0xFF, 0)
  let s := s.mailCommit 0x40 (s.inboxHeader r.1) false
  s.mailCommit 3 (s.statePage (u8 r.1 ++ u8 r.2.1 ++ u8 r.2.2 ++ u64 s.now)) false

/-! ### Page commits (R344, R345, R364) -/

/-- Whether the commit in progress has run its time; without device time it may have at any instant. -/
def State.pageDue (s : State) (c : PageCommit) : Bool :=
  c.phys.isSome && s.pocket.running && (!s.power.powered || decide (c.since + s.pocket.commitUs c ≤ s.now))

/-- What the conductor and the port do with a page committed: an inbox posted, applying or applied, and page 0x03. -/
def State.pageDone (s : State) (c : PageCommit) (ok : Bool) : State :=
  let st := byteAt c.data 3
  let s := if ok && c.page == 3 && s.power.powered && s.rst.conductor != .held then s.noteCommissioned else s
  if s.pocket.inbox && !c.wand && c.page == 0x40 && st == 4 then
    (if ok then s.inboxRun else s.setPocket (fun p => { p with inbox := false }))
  else if s.pocket.inbox && !c.wand && c.page == 3 && (s.inboxState == 2 || s.inboxState == 3) then
    ((s.setPocket (fun p => { p with inbox := false })).raise (if byteAt c.data 2 = 2 then 1063 else 1064) [t0] [])
  else if ok && c.wand && c.page == 0x40 && st == 1 then
    let s := s.pocketRaise 1062 [t0] []
    if s.power.powered && s.up && s.runState == 1 then s.inboxBegin else s
  else s

/-- POCKET_COMMIT_DONE (R344, R345): `ok` is whether the read-back agrees. -/
def execPocketCommitDone (ok : Bool) (s : State) : Result :=
  match s.pocket.commits with
  | [] => done s
  | c :: l =>
    if !s.pageDue c then done s
    else
      let s := s.setPocket (fun p => { p.finish c ok with commits := l, done := if ok then p.done + 1 else p.done })
      let s := if ok then s
        else if s.power.powered then (s.fault 96 c.page).raise 1066 [t0] [] else s.setPocket (fun p => { p with nvmFault := some c.page })
      let s := match s.pocket.answer with
        | some cla =>
          if !c.wand then s
          else
            let s := s.setPocket (fun p => { p with answer := none })
            let s := match ok, c.page, s.pocket.kx with
              | true, 3, some (key, _) => s.pk0Loaded key
              | _, _, _ => s
            (s.answer cla [] (if ok then 0x9000 else 0x910A)).closeDue
        | none => s
      let s := (s.pageDone c ok).beginCommit
      match s.pocket.held with
      | some h => if s.pocket.commits.isEmpty then done ((s.setPocket (fun p => { p with held := none })).apdu h) else done s
      | none => done s

end Sys2Proof.Machine
end

