-- ==== Sys2Proof/Machine/Nva.lean ====
section
/-! DEFINITION. The ends of NVA page commits (R374, R376, R407): what each commit makes permanent, what its failure brings, and the one
made again. -/

namespace Sys2Proof.Machine

/-! ### What a commit makes permanent -/

/-- Whether two places of the tag table hold one entry: the handle, the UID and the instant it was first seen agree. -/
def sameEntry (p q : Nat × Tag) : Bool := q.1 == p.1 && q.2.uid == p.2.uid && q.2.firstSeen == p.2.firstSeen

/-- A tag table entry as a commit of the table leaves it in the NVA (R151): last-seen and miss count stay as the last checkpoint wrote
them, and read 0 in an entry that no checkpoint has met yet. (DEDUCED, log entry 32.) -/
def keptTag (old : List (Nat × Tag)) (p : Nat × Tag) : Nat × Tag :=
  match old.find? (sameEntry p) with
  | some q => (p.1, { p.2 with lastSeen := q.2.lastSeen, miss := q.2.miss })
  | none => (p.1, { p.2 with lastSeen := 0, miss := 0 })

/-- A checkpoint (R41, R151, R206): the values that go with it, last-seen times and miss counts of the tag table, background corrections
unless a tuning's commit is still to come. (DEDUCED, log entry 22.) -/
def State.checkpointKept (s : State) (count : Nat) : State :=
  let seen := fun (p : Nat × Tag) => match s.tags.find? (sameEntry p) with
    | some q => (p.1, { p.2 with lastSeen := q.2.lastSeen, miss := q.2.miss })
    | none => p
  let s : State := { s with ckpt := s.checkpointOf count, nvaTags := s.nvaTags.map seen }
  s.keepTracked

/-- Resets that a record takes, requested once its commit has ended, whatever its outcome (R494). -/
def State.recordResets (s : State) (page : Nat) : State :=
  match s.faults.ring.find? (fun p => p.1 == page) with
  | none => s
  | some (_, r) =>
    let bits := r.resets - (r.resets &&& r.asked)
    if bits = 0 then s
    else
      let s := s.setRecord page (fun r => { r with asked := r.asked ||| bits })
      let reach := if bits.testBit 4 then kindReach 8 else bitsReach bits
      s.askReset reach 4 reach.kind 0xFF r.source none

/-- A fault record (R505, R508), and with it the count of the resets taken (R500). -/
def State.recordKept (s : State) (page : Nat) : State :=
  match s.faults.ring.find? (fun p => p.1 == page) with
  | none => s
  | some p =>
    let s : State := { s with faults := { s.faults with stored := p :: s.faults.stored.filter (fun q => q.1 != page), nvaResets := s.faults.resets } }
    (s.recordResets page).noteCopy

/-- Numbers given to the events that wait for one, in queue order (R472). -/
def Mailbox.renumber (b : Mailbox) : Mailbox :=
  b.queue.foldl (fun (b : Mailbox) q =>
    if q.seq.isSome || b.left == 0 then { b with queue := b.queue ++ [q] }
    else
      let (n, b) := b.number
      { b with queue := b.queue ++ [{ q with seq := n }] }) { b with queue := [] }

/-- The report counter's next block (R396, R397). -/
def State.reportBlock (s : State) (t : Tenant) : State :=
  if s.reportDry t then
    let old := s.svc.reportEnd[t]
    let e := min 0xFFFFFFFF (max old (s.rd (obT 0x1034 0x03 t)) + 4096)
    let s : State := { s with svc := { s.svc with reportEnd := s.svc.reportEnd.set t e } }
    if decide (old ≤ 0xFFFFF000) && decide (0xFFFFF000 < e) then s.serviceLow t 2 e else s
  else s

/-- Counter reservations (R277, R384, R396, R472): each block that is used up gets its next one, each floor is kept. -/
def State.countersKept (s : State) : State :=
  let r := s.mac.reserving
  let s : State := { s with
    mac := { s.mac with
      ends := (if r.1 then s.mac.ends.1 + 4096 else s.mac.ends.1, if r.2 then s.mac.ends.2 + 4096 else s.mac.ends.2)
      reserving := (false, false) } }
  let s := tenants.foldl State.reportBlock s
  let s : State := { s with svc := { s.svc with floorEnd := Vector.ofFn (fun t => s.rd (obT 0x1034 0x04 t)) } }
  tenants.foldl (fun s t =>
    if s.router.boxes[t].reserving then
      s.setBox t (fun b => ({ b with seqEnd := (b.seqEnd + 1024) % 65536, reserving := false } : Mailbox).renumber)
    else s) s

/-- Whether something of a request is still to come: its other commit, or its crypto job. -/
def State.moreToCome (s : State) (t : Tenant) (id : Nat) : Bool :=
  s.order.any (fun c => match c with | .dict u n _ => u == t && n == id | .key _ _ u n => u == t && n == id | _ => false) ||
    s.crypto.queues[t0].contains (.import_ t id) || s.crypto.running.any (fun p => p.2 == .import_ t id)

/-- A request whose commits have all ended answered OK. -/
def State.allAnswered (s : State) (t : Tenant) (id : Nat) : State :=
  match s.svc.queues[t].find? (fun j => j.id == id) with
  | some j =>
    match j.phase with
    | .committing data => if s.moreToCome t id then s else s.reply t j sOK data
    | _ => s
  | none => s

/-- Values made permanent, those that go with the checkpoints in the last checkpoint too, which a supply loss resumes from (R102, R634). -/
def State.keepMine (s : State) (w : List (Nat × Nat)) : State :=
  let s := s.keep w
  let mine := w.filter (fun p => checkpointKeys.contains p.1)
  { s with ckpt := { s.ckpt with objs := mine.foldl (fun t p => Tab.set Dict.dflt t p.1 p.2) s.ckpt.objs } }

/-- A tenant's values (R374, R375, R384). -/
def State.dictKept (s : State) (t : Tenant) (id : Nat) (w : List (Nat × Nat)) : State :=
  let s := (w.filter (fun p => s.nva p.1 != p.2)).foldl (fun s p => s.charge t p.1 p.2) s
  let s := s.keepMine w
  let s : State := { s with svc := { s.svc with floorEnd := s.svc.floorEnd.set t (s.rd (obT 0x1034 0x04 t)) } }
  s.allAnswered t id

/-- The conductor's own values, those that go with the checkpoints among them (R102); a commit without any is of the address table of the mesh
and the node table of the line. -/
def State.ownKept (s : State) (w : List (Nat × Nat)) : State :=
  if w.isEmpty then { s with mac := { s.mac with nvaAddresses := s.mac.addresses }, line := { s.line with nvaTable := s.line.table } }
  else s.keepMine w

/-- A deletion (R412): everything of the tenant's that the NVA held is at its default, its keys are gone. -/
def State.deletionKept (s : State) (t : Tenant) : State :=
  let s := s.keep ((s.deletedKeys t).map (fun k => (k, Dict.dflt k)))
  let s := (tenantSlots t).foldl (fun s c => s.keep ([2, 3, 4, 5].map (fun n => (ob (0x9100 + c) n, Dict.dflt (ob (0x9100 + c) n))))) s
  ({ s with keys := { s.keys with slots := s.keys.slots.filter (fun p => !(tenantSlots t).contains p.1) } } : State).commissionPage

/-! ### Keys (R430, R433, R434, R397, R447) -/

/-- A network key loaded: its index counts from 0 again (R434). -/
def State.networkLoaded (s : State) (k : Nat) : State :=
  let s := (s.wr (ob 0x4130 k) 0).causeEndKey 65 k
  let z := fun (a b : Nat) => if k = 1 then (0, b) else (a, 0)
  let s : State := { s with
    mac := { s.mac with
      ends := z s.mac.ends.1 s.mac.ends.2
      lowTold := if k = 1 then (false, s.mac.lowTold.2) else (s.mac.lowTold.1, false)
      neighbours := s.mac.neighbours.map (fun n => { n with counter1 := (z n.counter1 n.counter2).1, counter2 := (z n.counter1 n.counter2).2 }) }
    ckpt := { s.ckpt with counters := s.ckpt.counters.map (fun c => (c.1, z c.2.1 c.2.2)) } }
  s.joinNow

/-- A service key loaded: both counters return to 0 where one of them lies above 0xFFFFF000 (R397). -/
def State.serviceLoaded (s : State) (t : Tenant) : State :=
  if 0xFFFFF000 < s.rd (obT 0x1034 0x03 t) ∨ 0xFFFFF000 < s.rd (obT 0x1034 0x04 t) then
    let s := s.wrAll [(obT 0x1034 0x03 t, 0), (obT 0x1034 0x04 t, 0)]
    { s with svc := { s.svc with floorEnd := s.svc.floorEnd.set t 0, reportEnd := s.svc.reportEnd.set t 0 } }
  else s

/-- What a key in its slot brings. -/
def State.keyLoaded (s : State) (c : Nat) : State :=
  if c = 0x51 ∨ c = 0x52 then s.networkLoaded (c - 0x50)
  else if 0x40 ≤ c ∧ c ≤ 0x47 then s.serviceLoaded ⟨c % 8, Nat.mod_lt _ (by decide)⟩
  else if 0x48 ≤ c ∧ c ≤ 0x4F then s.commissionPage
  else s

/-- A slot LOADED with a key, or EMPTY: the reply goes out first, under the key that verified the request. -/
def State.keyKept (s : State) (c : Nat) (bytes : Option Octets) (t : Tenant) (id : Nat) : State :=
  let s := (s.keyEnded t 0).allAnswered t id
  let l := match bytes with
    | some key => [(ob (0x9100 + c) 0x02, 1), (ob (0x9100 + c) 0x03, leNat ((aes key (List.replicate 16 0)).take 3)),
        (ob (0x9100 + c) 0x04, s.now), (ob (0x9100 + c) 0x05, 0)]
    | none => [2, 3, 4, 5].map (fun n => (ob (0x9100 + c) n, Dict.dflt (ob (0x9100 + c) n)))
  let s := ((s.wrAll l).keep l).cancel (.suspension c)
  let rest := s.keys.slots.filter (fun p => p.1 != c)
  let s : State := { s with keys := { s.keys with slots := match bytes with | some key => (c, key) :: rest | none => rest } }
  match bytes with
  | some _ => (s.keyLoaded c).raise 1136 (slotSet c) (u8 c ++ u8 0)
  | none => (s.keyGone c).raise 1137 (slotSet c) (u8 c ++ u8 0)

/-! ### Success and failure -/

/-- A commit that succeeded. -/
def State.kept (s : State) (c : Commit) : State :=
  match c with
  | .checkpoint count => s.checkpointKept count
  | .fault page => s.recordKept page
  | .counters => s.countersKept
  | .tags => { s with nvaTags := s.tags.map (keptTag s.nvaTags) }
  | .tunings => s.keepTunings
  | .dict t id w => s.dictKept t id w
  | .own w => s.ownKept w
  | .deletion t => s.deletionKept t
  | .key slot bytes t id => s.keyKept slot bytes t id

/-- A failed commit of the conductor's own made again after 1,000,000 µs. (DEDUCED, log entry 22.) -/
def State.makeAgain (s : State) (c : Commit) : State :=
  { s with again := s.again.filter (fun p => p.2 != c) ++ [(s.now + 1000000, c)] }

/-- The values of a request that could not be committed go back to what the NVA holds. -/
def State.putBack (s : State) (t : Tenant) (w : List (Nat × Nat)) : State :=
  w.foldl (fun s p => if s.rd p.1 = p.2 then s.store t (keyIndex p.1) (keySub p.1) (s.nva p.1) else s) s

/-- A commit that failed on both pages (R376): a request is answered with NVA_FAULT, its objects keep their old values; a fault record
stays in the latch; the rest is made again. (DEDUCED, log entry 16.) -/
def State.notKept (s : State) (c : Commit) : State :=
  match c with
  | .fault page => s.recordResets page
  | .dict t id w => (s.putBack t w).failReply t id sNvaFault
  | .key _ _ t id => (s.wrAll [(obT 0x9200 0x02 t, 0), (obT 0x9200 0x03 t, 0)]).failReply t id sNvaFault
  | .checkpoint n => ({ s with ckpt := { s.ckpt with failed := true } } : State).makeAgain (.checkpoint n)
  | c => s.makeAgain c

/-- Whether a commit at the head of the order changes nothing, so that none is made (R374). -/
def State.idleCommit (s : State) (c : Commit) : Bool :=
  match c with
  | .dict _ _ w => w.all (fun p => s.nva p.1 == p.2)
  | _ => false

/-- Commits at the head of the order that change nothing are over at once; `n` bounds their number. -/
def State.skipIdle : Nat → State → State
  | 0, s => s
  | n + 1, s =>
    match s.order with
    | [] => s
    | c :: l => if s.idleCommit c then State.skipIdle n (({ s with order := l } : State).kept c) else s

/-- The commit in progress over: the next one's turn, and the resets that waited for it (R519). -/
def State.commitOver (s : State) : State := (State.skipIdle s.order.length s).applyResets true

/-- NVA_COMMIT_DONE (R374, R376): `ok` is whether the read-back agrees, `page` the NVA page. -/
def execNvaCommitDone (ok : Bool) (page : Nat) (s : State) : Result :=
  match s.order with
  | [] => done s
  | c :: l =>
    let past : State := { s with order := l, retried := false }
    if !s.power.powered then done s
    else if ok then done (past.kept c).commitOver
    else if !s.retried then done { s with retried := true }
    else done ((past.notKept c).fault 1 page).commitOver

/-- NVA_COMMIT_RETRY (R376). -/
def execNvaCommitRetry (s : State) : Result :=
  let ripe := s.again.filter (fun p => decide (p.1 ≤ s.now))
  if ripe.isEmpty || !s.listens then done s
  else
    let s : State := { s with again := s.again.filter (fun p => decide (s.now < p.1)) }
    done (ripe.foldl (fun s p => s.commit p.2) s)

end Sys2Proof.Machine
end

