-- ==== Sys2Proof/Machine/HostPort.lean ====
section
/-! DEFINITION. The host port's transactions (R386 to R388). -/

namespace Sys2Proof.Machine

/-- A transaction over: what the VX640 clocked out after its status byte; the port is deselected. (DEDUCED, log entry 49.) -/
def State.clocked (s : State) (b : Octets) : State :=
  { s with host := { s.host with selected := false, sent := u8 s.statusByte ++ b } }

/-- Bytes with their CRC (R386). -/
def withCrc (b : Octets) : Octets := b ++ u16 (crc16 b)

/-- Whether a transaction is served: VIO is there and the conductor runs; else every byte clocked out is 0x00 (R388). -/
def State.hostServed (s : State) : Bool := s.hostUp && s.statusByte != 0

/-- HOST_PORT_SELECT (R388): a select wakes the VX640. -/
def execHostPortSelect (s : State) : Result :=
  if s.hostUp && s.power.powered then done (({ s with host := { s.host with selected := true } } : State).wakeBy 4) else done s

/-- Whether a SUBMIT is discarded under R386: tenant, length, unit and CRC as sent after the command byte. (DEDUCED, log entry 49.) -/
def badSubmit (b : Octets) : Bool :=
  let n := u16At b 1
  decide (b.length < 5) || decide (8 ≤ byteAt b 0) || decide (528 < n) || b.length != n + 5 || u16At b (b.length - 2) != crc16 (b.take (b.length - 2))

/-- SUBMIT (R386, R387). -/
def execSubmit (b : Octets) (s : State) : Result :=
  if !s.hostServed then done (({ s with host := { s.host with selected := false, sent := [] } } : State))
  else
    let t : Tenant := ⟨byteAt b 0 % 8, Nat.mod_lt _ (by decide)⟩
    let full := decide (4 ≤ s.hostOutstanding)
    let s := s.clocked [0]
    let s : State := { s with host := { s.host with lastError := badSubmit b } }
    if badSubmit b || full then done s
    else
      let a : Arrival := { transport := .host, peer := 0, tenant := t, counter := 0, mac := [], unit := slice 3 (u16At b 1) b }
      done ({ s with svc := { s.svc with inbound := s.svc.inbound ++ [a] } } : State)

/-- FETCH_REPLY (R387): the host's bytes say nothing. -/
def execFetchReply (sent : Octets) (s : State) : Result :=
  if !s.hostServed then done (({ s with host := { s.host with selected := false, sent := sent.map (fun _ => 0) } } : State))
  else match s.hostReply with
    | none => done (s.clocked (withCrc [0, 0, 0]))
    | some r =>
      let u := replyUnit r
      done ((s.clocked (withCrc (u8 r.tenant.val ++ u16 u.length ++ u))).handOver r)

/-- FETCH_EVENT (R387, R395): the oldest event of the tenant named, in one piece. -/
def execFetchEvent (sent : Octets) (s : State) : Result :=
  if !s.hostServed then done (({ s with host := { s.host with selected := false, sent := sent.map (fun _ => 0) } } : State))
  else match tenant? (byteAt sent 0) with
    | none => done (s.clocked (withCrc [0, 0]))
    | some t =>
      match s.hostEvents t with
      | [] => done (s.clocked (withCrc [0, 0]))
      | q :: _ =>
        let u := reportUnit q 0 q.data.length
        done ((s.clocked (withCrc (u16 u.length ++ u))).readEvent t (q.seq.getD 0))

/-- STATUS (R386): the event bitmap, the replies ready and the status byte again; RESET_SEEN has then been told. -/
def execStatus (sent : Octets) (s : State) : Result :=
  if !s.hostServed then done (({ s with host := { s.host with selected := false, sent := sent.map (fun _ => 0) } } : State))
  else
    let n := (s.svc.replies.filter (fun r => r.req.transport == .host)).length
    let s := s.clocked (u8 s.eventBitmap ++ u8 n ++ u8 s.statusByte)
    done ({ s with host := { s.host with resetSeen := false } } : State)

end Sys2Proof.Machine
end

