-- ==== Sys2Proof/Machine/Tenants.lean ====
section
/-! DEFINITION. The ends of tenant resets and deletions (R410, R412), and the fault collector's own commands (R490, R497, R508). -/

namespace Sys2Proof.Machine

/-- TENANT_RESET_COMPLETE (step 5 of R410). -/
def execTenantResetComplete (t : Tenant) (s : State) : Result :=
  if s.tenantState t = 2 ∧ s.holdsVoice t = false ∧ s.up = true then done (s.tenantBack t |>.raise 1212 (withT0 t) (u8 t.val)) else done s

/-- TENANT_DELETION_COMPLETE (R412). -/
def execTenantDeletionComplete (t : Tenant) (s : State) : Result :=
  if s.tenantState t = 3 ∧ s.deletionDone t = true ∧ s.listens = true then
    done ((s.wrKeep [(ob (0x9020 + t.val) 0x01, 0)]).raise 1211 [t0] (u8 t.val))
  else done s

/-- FAULT_RAISE (R489, R490): only CAL_DISAGREE and CAL_RANGE have a domain other than T0's, and name a kind and target. -/
def execFaultRaise (source : Nat) (domain : Tenant) (detail : Nat) (s : State) : Result :=
  let tuning := source == 2 || source == 3
  if !s.power.powered || faultClass source == 0 || (!tuning && domain.val != 0) then done s
  else done (s.faultKeyed source domain detail (if tuning then detail else 0))

/-- HANDLING_WINDOW_EXPIRED (R497): the time of 0x7000.05 stands in for the tenant's acknowledgement. -/
def execHandlingWindowExpired (t : Tenant) (s : State) : Result :=
  if s.isDue (.handling t) && s.up then
    let s := s.cancel (.handling t)
    match s.openRecord t with
    | some (page, _) => done ((s.setRecord page (fun r => { r with acked := true })).leaveOpen t)
    | none => done s
  else done s

/-- FAULT_COPY_REFRESH (R508). -/
def execFaultCopyRefresh (s : State) : Result :=
  if s.isDue .copy && s.up then done (if s.faults.copyDirty then s.refreshCopy else s.cancel .copy) else done s

end Sys2Proof.Machine
end

