-- ==== Sys2Proof/Machine/Dispatch.lean ====
section
/-! DEFINITION. The dispatch: one arm for each command, each one direct call of its meaning. -/

namespace Sys2Proof.Machine

/-- The effect of a command on everything but the queue. -/
def exec (i : Instr) (s : State) : Host.Outcome State Fault Refusal :=
  match i with
  | .powerOn vbat vline => Sys2Proof.Machine.execPowerOn vbat vline s
  | .brownout vbat vline => Sys2Proof.Machine.execBrownout vbat vline s
  | .resetNLow low => Sys2Proof.Machine.execResetNLow low s
  | .resetRelease highFor => Sys2Proof.Machine.execResetRelease highFor s
  | .conductorStart lineUp => Sys2Proof.Machine.execConductorStart lineUp s
  | .resetRequestTenant t => Sys2Proof.Machine.execResetRequestTenant t s
  | .resetRequestField t => Sys2Proof.Machine.execResetRequestField t s
  | .resetRequestAir t => Sys2Proof.Machine.execResetRequestAir t s
  | .resetRequestLine t => Sys2Proof.Machine.execResetRequestLine t s
  | .resetRequestPocket t => Sys2Proof.Machine.execResetRequestPocket t s
  | .resetRequestConductor t => Sys2Proof.Machine.execResetRequestConductor t s
  | .resetRequestWarm t => Sys2Proof.Machine.execResetRequestWarm t s
  | .resetRequestChip t => Sys2Proof.Machine.execResetRequestChip t s
  | .blockResetBitsWrite t => Sys2Proof.Machine.execBlockResetBitsWrite t s
  | .vlinePresent mv => Sys2Proof.Machine.execVlinePresent mv s
  | .vlineLost mv => Sys2Proof.Machine.execVlineLost mv s
  | .vioPresent mv => Sys2Proof.Machine.execVioPresent mv s
  | .vioLost mv => Sys2Proof.Machine.execVioLost mv s
  | .vbatSample mv => Sys2Proof.Machine.execVbatSample mv s
  | .shedEnd mv => Sys2Proof.Machine.execShedEnd mv s
  | .wake source => Sys2Proof.Machine.execWake source s
  | .energyHourlyUpdate vbat vline => Sys2Proof.Machine.execEnergyHourlyUpdate vbat vline s
  | .newPack t => Sys2Proof.Machine.execNewPack t s
  | .temperatureReading tenths => Sys2Proof.Machine.execTemperatureReading tenths s
  | .temperatureTermWrite t => Sys2Proof.Machine.execTemperatureTermWrite t s
  | .disciplineSettingWrite t => Sys2Proof.Machine.execDisciplineSettingWrite t s
  | .fieldWindowComplete cycles => Sys2Proof.Machine.execFieldWindowComplete cycles s
  | .tempoMeasurement laps => Sys2Proof.Machine.execTempoMeasurement laps s
  | .scoreTrigger score => Sys2Proof.Machine.execScoreTrigger score s
  | .scoreStartCommand t => Sys2Proof.Machine.execScoreStartCommand t s
  | .scoreStopCommand t => Sys2Proof.Machine.execScoreStopCommand t s
  | .stepRecordWrite t => Sys2Proof.Machine.execStepRecordWrite t s
  | .voiceGrant v => Sys2Proof.Machine.execVoiceGrant v s
  | .stepDeadlineExpired score stepNo => Sys2Proof.Machine.execStepDeadlineExpired score stepNo s
  | .waitStepElapsed score stepNo => Sys2Proof.Machine.execWaitStepElapsed score stepNo s
  | .channelSelected v => Sys2Proof.Machine.execChannelSelected v s
  | .boostReady mv => Sys2Proof.Machine.execBoostReady mv s
  | .boostStopDone mv => Sys2Proof.Machine.execBoostStopDone mv s
  | .vfldOvervoltage mv => Sys2Proof.Machine.execVfldOvervoltage mv s
  | .vfldUndervoltage mv => Sys2Proof.Machine.execVfldUndervoltage mv s
  | .rampUpDone v => Sys2Proof.Machine.execRampUpDone v s
  | .settleElapsed v measured => Sys2Proof.Machine.execSettleElapsed v measured s
  | .slewDone v => Sys2Proof.Machine.execSlewDone v s
  | .rampDownDone v energy => Sys2Proof.Machine.execRampDownDone v energy s
  | .floorDwellElapsed v => Sys2Proof.Machine.execFloorDwellElapsed v s
  | .voiceOvercurrent v energy => Sys2Proof.Machine.execVoiceOvercurrent v energy s
  | .voiceEnableWrite t => Sys2Proof.Machine.execVoiceEnableWrite t s
  | .couplingMapWrite t => Sys2Proof.Machine.execCouplingMapWrite t s
  | .requestFrameStart v => Sys2Proof.Machine.execRequestFrameStart v s
  | .requestFrameEnd v => Sys2Proof.Machine.execRequestFrameEnd v s
  | .separateEofDue v => Sys2Proof.Machine.execSeparateEofDue v s
  | .replyStart v offset before lead sof => Sys2Proof.Machine.execReplyStart v offset before lead sof s
  | .responseWindowClose v => Sys2Proof.Machine.execResponseWindowClose v s
  | .replyFrameEnd v frame => Sys2Proof.Machine.execReplyFrameEnd v frame s
  | .wtxBudgetExpired v => Sys2Proof.Machine.execWtxBudgetExpired v s
  | .cardProbe ch amplitude => Sys2Proof.Machine.execCardProbe ch amplitude s
  | .keySuspensionEnd slot => Sys2Proof.Machine.execKeySuspensionEnd slot s
  | .tuningStart t => Sys2Proof.Machine.execTuningStart t s
  | .tuningRevert t => Sys2Proof.Machine.execTuningRevert t s
  | .tuningAbort t => Sys2Proof.Machine.execTuningAbort t s
  | .tuningFirstRunDone run => Sys2Proof.Machine.execTuningFirstRunDone run s
  | .tuningRepeatDone run => Sys2Proof.Machine.execTuningRepeatDone run s
  | .autoTuningStart kind target => Sys2Proof.Machine.execAutoTuningStart kind target s
  | .antBackgroundWindow ch => Sys2Proof.Machine.execAntBackgroundWindow ch s
  | .offsetBackgroundWindow ch run => Sys2Proof.Machine.execOffsetBackgroundWindow ch run s
  | .iqBackgroundWindow v run => Sys2Proof.Machine.execIqBackgroundWindow v run s
  | .gainBackgroundWindow v run => Sys2Proof.Machine.execGainBackgroundWindow v run s
  | .sliceBackgroundWindow run => Sys2Proof.Machine.execSliceBackgroundWindow run s
  | .sliceRetirement slice => Sys2Proof.Machine.execSliceRetirement slice s
  | .refEdgeTimeout t => Sys2Proof.Machine.execRefEdgeTimeout t s
  | .refGateEnd cycles steady => Sys2Proof.Machine.execRefGateEnd cycles steady s
  | .airClockCheck count => Sys2Proof.Machine.execAirClockCheck count s
  | .airSfdFound peaks => Sys2Proof.Machine.execAirSfdFound peaks s
  | .preambleTimeout peaks => Sys2Proof.Machine.execPreambleTimeout peaks s
  | .airRxFrameEnd frame signal => Sys2Proof.Machine.execAirRxFrameEnd frame signal s
  | .sealRequest t => Sys2Proof.Machine.execSealRequest t s
  | .sealConfirm t => Sys2Proof.Machine.execSealConfirm t s
  | .sealWriteDone ok => Sys2Proof.Machine.execSealWriteDone ok s
  | .synEntryRunDone run => Sys2Proof.Machine.execSynEntryRunDone run s
  | .paGainWrite t => Sys2Proof.Machine.execPaGainWrite t s
  | .cueListen level => Sys2Proof.Machine.execCueListen level s
  | .cueWordReceived word => Sys2Proof.Machine.execCueWordReceived word s
  | .lbtListenEnd energy => Sys2Proof.Machine.execLbtListenEnd energy s
  | .homeChannelChangeRequest t => Sys2Proof.Machine.execHomeChannelChangeRequest t s
  | .indirectExpired id => Sys2Proof.Machine.execIndirectExpired id s
  | .childExpired child => Sys2Proof.Machine.execChildExpired child s
  | .cueDelayExpired id => Sys2Proof.Machine.execCueDelayExpired id s
  | .cueRetryDue id => Sys2Proof.Machine.execCueRetryDue id s
  | .routeLapse dest => Sys2Proof.Machine.execRouteLapse dest s
  | .meshDupLapse pair => Sys2Proof.Machine.execMeshDupLapse pair s
  | .reportRetryDue t => Sys2Proof.Machine.execReportRetryDue t s
  | .meshAddressRelease t => Sys2Proof.Machine.execMeshAddressRelease t s
  | .linePollReceived frame => Sys2Proof.Machine.execLinePollReceived frame s
  | .lineEmptyReceived frame => Sys2Proof.Machine.execLineEmptyReceived frame s
  | .lineDataReceived frame => Sys2Proof.Machine.execLineDataReceived frame s
  | .lineAckReceived frame => Sys2Proof.Machine.execLineAckReceived frame s
  | .lineNakReceived frame => Sys2Proof.Machine.execLineNakReceived frame s
  | .lineTimeReceived frame => Sys2Proof.Machine.execLineTimeReceived frame s
  | .linePresenceReceived frame => Sys2Proof.Machine.execLinePresenceReceived frame s
  | .searchStartReceived frame => Sys2Proof.Machine.execSearchStartReceived frame s
  | .searchPassReceived frame => Sys2Proof.Machine.execSearchPassReceived frame s
  | .headSearchPass samples => Sys2Proof.Machine.execHeadSearchPass samples s
  | .searchEndReceived frame => Sys2Proof.Machine.execSearchEndReceived frame s
  | .assignReceived frame => Sys2Proof.Machine.execAssignReceived frame s
  | .headWalk seen => Sys2Proof.Machine.execHeadWalk seen s
  | .walkProbeReceived frame rise => Sys2Proof.Machine.execWalkProbeReceived frame rise s
  | .walkTallyReceived frame => Sys2Proof.Machine.execWalkTallyReceived frame s
  | .isolateReceived frame => Sys2Proof.Machine.execIsolateReceived frame s
  | .reconnectReceived frame => Sys2Proof.Machine.execReconnectReceived frame s
  | .lineOvercurrent current => Sys2Proof.Machine.execLineOvercurrent current s
  | .searchNow t => Sys2Proof.Machine.execSearchNow t s
  | .walkNow t => Sys2Proof.Machine.execWalkNow t s
  | .isolateCommand t => Sys2Proof.Machine.execIsolateCommand t s
  | .reconnectCommand t => Sys2Proof.Machine.execReconnectCommand t s
  | .lineAddressRelease t => Sys2Proof.Machine.execLineAddressRelease t s
  | .pocketHarvestReady mv => Sys2Proof.Machine.execPocketHarvestReady mv s
  | .pocketVstReset mv => Sys2Proof.Machine.execPocketVstReset mv s
  | .pocketReqa wupa => Sys2Proof.Machine.execPocketReqa wupa s
  | .pocketSelect uid => Sys2Proof.Machine.execPocketSelect uid s
  | .selectByName apdu => Sys2Proof.Machine.execSelectByName apdu s
  | .getInfo apdu vst => Sys2Proof.Machine.execGetInfo apdu vst s
  | .read apdu => Sys2Proof.Machine.execRead apdu s
  | .readRaw apdu => Sys2Proof.Machine.execReadRaw apdu s
  | .write apdu vst => Sys2Proof.Machine.execWrite apdu vst s
  | .pocketCommitDone ok => Sys2Proof.Machine.execPocketCommitDone ok s
  | .authBegin apdu present => Sys2Proof.Machine.execAuthBegin apdu present s
  | .authFinish apdu vst => Sys2Proof.Machine.execAuthFinish apdu vst s
  | .getCert apdu => Sys2Proof.Machine.execGetCert apdu s
  | .keyExchangeAgree apdu => Sys2Proof.Machine.execKeyExchangeAgree apdu s
  | .keyExchangeConfirm apdu vst => Sys2Proof.Machine.execKeyExchangeConfirm apdu vst s
  | .dictRead apdu => Sys2Proof.Machine.execDictRead apdu s
  | .dictWrite apdu => Sys2Proof.Machine.execDictWrite apdu s
  | .resetRequest apdu => Sys2Proof.Machine.execResetRequest apdu s
  | .endSession apdu => Sys2Proof.Machine.execEndSession apdu s
  | .serviceRead t => Sys2Proof.Machine.execServiceRead t s
  | .serviceWrite t => Sys2Proof.Machine.execServiceWrite t s
  | .blockOpen t => Sys2Proof.Machine.execBlockOpen t s
  | .blockData t => Sys2Proof.Machine.execBlockData t s
  | .blockClose t => Sys2Proof.Machine.execBlockClose t s
  | .subscribe t => Sys2Proof.Machine.execSubscribe t s
  | .unsubscribe t => Sys2Proof.Machine.execUnsubscribe t s
  | .describe t => Sys2Proof.Machine.execDescribe t s
  | .next t => Sys2Proof.Machine.execNext t s
  | .nvaCommitDone ok page => Sys2Proof.Machine.execNvaCommitDone ok page s
  | .blockLapse t => Sys2Proof.Machine.execBlockLapse t s
  | .subscriptionIntervalEnd t entry => Sys2Proof.Machine.execSubscriptionIntervalEnd t entry s
  | .submit sent => Sys2Proof.Machine.execSubmit sent s
  | .fetchReply sent => Sys2Proof.Machine.execFetchReply sent s
  | .fetchEvent sent => Sys2Proof.Machine.execFetchEvent sent s
  | .status sent => Sys2Proof.Machine.execStatus sent s
  | .tenantCreate t => Sys2Proof.Machine.execTenantCreate t s
  | .tenantDelete t => Sys2Proof.Machine.execTenantDelete t s
  | .tenantDeletionComplete t => Sys2Proof.Machine.execTenantDeletionComplete t s
  | .tenantReset t => Sys2Proof.Machine.execTenantReset t s
  | .tenantResetComplete t => Sys2Proof.Machine.execTenantResetComplete t s
  | .allotmentWrite t => Sys2Proof.Machine.execAllotmentWrite t s
  | .keyImport t => Sys2Proof.Machine.execKeyImport t s
  | .keyErase t => Sys2Proof.Machine.execKeyErase t s
  | .imageBegin t => Sys2Proof.Machine.execImageBegin t s
  | .imageWindowWrite t => Sys2Proof.Machine.execImageWindowWrite t s
  | .imageVerify t => Sys2Proof.Machine.execImageVerify t s
  | .imageActivate t => Sys2Proof.Machine.execImageActivate t s
  | .imageConfirm t => Sys2Proof.Machine.execImageConfirm t s
  | .imageAbort t => Sys2Proof.Machine.execImageAbort t s
  | .imageRevert t => Sys2Proof.Machine.execImageRevert t s
  | .metronomeStart t => Sys2Proof.Machine.execMetronomeStart t s
  | .metronomeStop t => Sys2Proof.Machine.execMetronomeStop t s
  | .metronomeRestart t => Sys2Proof.Machine.execMetronomeRestart t s
  | .metronomeStartInstant m => Sys2Proof.Machine.execMetronomeStartInstant m s
  | .metronomeCompare m => Sys2Proof.Machine.execMetronomeCompare m s
  | .metronomeZero m => Sys2Proof.Machine.execMetronomeZero m s
  | .metronomeTop m => Sys2Proof.Machine.execMetronomeTop m s
  | .periodBufferWrite t => Sys2Proof.Machine.execPeriodBufferWrite t s
  | .compareWrite t => Sys2Proof.Machine.execCompareWrite t s
  | .strideWrite t => Sys2Proof.Machine.execStrideWrite t s
  | .faultRaise source domain detail => Sys2Proof.Machine.execFaultRaise source domain detail s
  | .faultAcknowledge t => Sys2Proof.Machine.execFaultAcknowledge t s
  | .handlingWindowExpired t => Sys2Proof.Machine.execHandlingWindowExpired t s
  | .faultClear t => Sys2Proof.Machine.execFaultClear t s
  | .reactionWrite t => Sys2Proof.Machine.execReactionWrite t s
  | .linkRequest die header payload => Sys2Proof.Machine.execLinkRequest die header payload s
  | .linkReply die header payload => Sys2Proof.Machine.execLinkReply die header payload s
  | .linkReject die header => Sys2Proof.Machine.execLinkReject die header s
  | .linkNotify die header payload => Sys2Proof.Machine.execLinkNotify die header payload s
  | .alive die epoch => Sys2Proof.Machine.execAlive die epoch s
  | .linkStartWorkDone die => Sys2Proof.Machine.execLinkStartWorkDone die s
  | .aliveTimeout die => Sys2Proof.Machine.execAliveTimeout die s
  | .linkWordTimeout die => Sys2Proof.Machine.execLinkWordTimeout die s
  | .resyncInterval die => Sys2Proof.Machine.execResyncInterval die s
  | .resync die epoch => Sys2Proof.Machine.execResync die epoch s
  | .gpConfigWrite t => Sys2Proof.Machine.execGpConfigWrite t s
  | .responseWindowOpen v => Sys2Proof.Machine.execResponseWindowOpen v s
  | .sourceEligibilityLapse source => Sys2Proof.Machine.execSourceEligibilityLapse source s
  | .supplyLoss => Sys2Proof.Machine.execSupplyLoss s
  | .resetApply => Sys2Proof.Machine.execResetApply s
  | .pocketDieRelease => Sys2Proof.Machine.execPocketDieRelease s
  | .airDieRelease => Sys2Proof.Machine.execAirDieRelease s
  | .lineDieRelease => Sys2Proof.Machine.execLineDieRelease s
  | .fieldDieRelease => Sys2Proof.Machine.execFieldDieRelease s
  | .startUpComplete => Sys2Proof.Machine.execStartUpComplete s
  | .startTimeout => Sys2Proof.Machine.execStartTimeout s
  | .vbatMinuteEnd => Sys2Proof.Machine.execVbatMinuteEnd s
  | .restEntry => Sys2Proof.Machine.execRestEntry s
  | .osc27RestartDone => Sys2Proof.Machine.execOsc27RestartDone s
  | .energyReport => Sys2Proof.Machine.execEnergyReport s
  | .checkpointDue => Sys2Proof.Machine.execCheckpointDue s
  | .networkOffsetLapse => Sys2Proof.Machine.execNetworkOffsetLapse s
  | .boostStartTimeout => Sys2Proof.Machine.execBoostStartTimeout s
  | .boostSlewTimeout => Sys2Proof.Machine.execBoostSlewTimeout s
  | .boostHoldOffExpired => Sys2Proof.Machine.execBoostHoldOffExpired s
  | .cryptoJobDone => Sys2Proof.Machine.execCryptoJobDone s
  | .cueHourlyCheck => Sys2Proof.Machine.execCueHourlyCheck s
  | .airStartRequest => Sys2Proof.Machine.execAirStartRequest s
  | .airReady => Sys2Proof.Machine.execAirReady s
  | .airStopRequest => Sys2Proof.Machine.execAirStopRequest s
  | .airEnergyDetect => Sys2Proof.Machine.execAirEnergyDetect s
  | .airTxRequest => Sys2Proof.Machine.execAirTxRequest s
  | .paSupplySettled => Sys2Proof.Machine.execPaSupplySettled s
  | .biasSettled => Sys2Proof.Machine.execBiasSettled s
  | .synLockDone => Sys2Proof.Machine.execSynLockDone s
  | .synLockTimeout => Sys2Proof.Machine.execSynLockTimeout s
  | .paRampUpDone => Sys2Proof.Machine.execPaRampUpDone s
  | .airTxLastBit => Sys2Proof.Machine.execAirTxLastBit s
  | .paRampDownDone => Sys2Proof.Machine.execPaRampDownDone s
  | .xpaEnOffDue => Sys2Proof.Machine.execXpaEnOffDue s
  | .dischargeElapsed => Sys2Proof.Machine.execDischargeElapsed s
  | .offSequenceComplete => Sys2Proof.Machine.execOffSequenceComplete s
  | .synHoldExpired => Sys2Proof.Machine.execSynHoldExpired s
  | .sealWindowExpired => Sys2Proof.Machine.execSealWindowExpired s
  | .ledgerBinRollover => Sys2Proof.Machine.execLedgerBinRollover s
  | .autoSynRetune => Sys2Proof.Machine.execAutoSynRetune s
  | .cueGiveUp => Sys2Proof.Machine.execCueGiveUp s
  | .cueStopDone => Sys2Proof.Machine.execCueStopDone s
  | .macFrameSend => Sys2Proof.Machine.execMacFrameSend s
  | .backoffExpired => Sys2Proof.Machine.execBackoffExpired s
  | .immAckDue => Sys2Proof.Machine.execImmAckDue s
  | .immAckReceived => Sys2Proof.Machine.execImmAckReceived s
  | .ackWaitClosed => Sys2Proof.Machine.execAckWaitClosed s
  | .macFrameReceived => Sys2Proof.Machine.execMacFrameReceived s
  | .poll => Sys2Proof.Machine.execPoll s
  | .time => Sys2Proof.Machine.execTime s
  | .joinRequest => Sys2Proof.Machine.execJoinRequest s
  | .joinAccept => Sys2Proof.Machine.execJoinAccept s
  | .joinDeny => Sys2Proof.Machine.execJoinDeny s
  | .mesh => Sys2Proof.Machine.execMesh s
  | .joinScanEnd => Sys2Proof.Machine.execJoinScanEnd s
  | .joinTimeout => Sys2Proof.Machine.execJoinTimeout s
  | .joinRetry => Sys2Proof.Machine.execJoinRetry s
  | .coordinatorConflictLapse => Sys2Proof.Machine.execCoordinatorConflictLapse s
  | .slotBoundary => Sys2Proof.Machine.execSlotBoundary s
  | .timeBroadcastDue => Sys2Proof.Machine.execTimeBroadcastDue s
  | .unsynchronised => Sys2Proof.Machine.execUnsynchronised s
  | .unsyncScanTimeout => Sys2Proof.Machine.execUnsyncScanTimeout s
  | .homeChannelSwitch => Sys2Proof.Machine.execHomeChannelSwitch s
  | .pollIntervalExpired => Sys2Proof.Machine.execPollIntervalExpired s
  | .pendingWaitExpired => Sys2Proof.Machine.execPendingWaitExpired s
  | .syncTimeInsert => Sys2Proof.Machine.execSyncTimeInsert s
  | .headPollCycle => Sys2Proof.Machine.execHeadPollCycle s
  | .lineReplyDue => Sys2Proof.Machine.execLineReplyDue s
  | .lineReplyWindowClose => Sys2Proof.Machine.execLineReplyWindowClose s
  | .lineTimeDue => Sys2Proof.Machine.execLineTimeDue s
  | .presenceDue => Sys2Proof.Machine.execPresenceDue s
  | .presenceSeen => Sys2Proof.Machine.execPresenceSeen s
  | .bypassOpenDue => Sys2Proof.Machine.execBypassOpenDue s
  | .addressHoldExpired => Sys2Proof.Machine.execAddressHoldExpired s
  | .foreignDip => Sys2Proof.Machine.execForeignDip s
  | .headConflictLapse => Sys2Proof.Machine.execHeadConflictLapse s
  | .lineOffHoldEnd => Sys2Proof.Machine.execLineOffHoldEnd s
  | .fieldOn => Sys2Proof.Machine.execFieldOn s
  | .fieldOff => Sys2Proof.Machine.execFieldOff s
  | .pocketHlta => Sys2Proof.Machine.execPocketHlta s
  | .pocketRats => Sys2Proof.Machine.execPocketRats s
  | .pocketPps => Sys2Proof.Machine.execPocketPps s
  | .pocketDeselect => Sys2Proof.Machine.execPocketDeselect s
  | .pocketIdleTimeout => Sys2Proof.Machine.execPocketIdleTimeout s
  | .bridgeWtxDue => Sys2Proof.Machine.execBridgeWtxDue s
  | .bridgeTimeout => Sys2Proof.Machine.execBridgeTimeout s
  | .serviceRequestArrival => Sys2Proof.Machine.execServiceRequestArrival s
  | .nvaCommitRetry => Sys2Proof.Machine.execNvaCommitRetry s
  | .hostPortSelect => Sys2Proof.Machine.execHostPortSelect s
  | .imageVerifyDone => Sys2Proof.Machine.execImageVerifyDone s
  | .activateQuiesced => Sys2Proof.Machine.execActivateQuiesced s
  | .trialWindowExpired => Sys2Proof.Machine.execTrialWindowExpired s
  | .trialAirReadyTimeout => Sys2Proof.Machine.execTrialAirReadyTimeout s
  | .faultCopyRefresh => Sys2Proof.Machine.execFaultCopyRefresh s
  | .xpaEnOnDue => Sys2Proof.Machine.execXpaEnOnDue s
  | .lineOvercurrentLapse => Sys2Proof.Machine.execLineOvercurrentLapse s

end Sys2Proof.Machine
end

