-- ==== Sys2Proof/Safety.lean ====
section
/-! DEFINITION. What claims call a sound state and a safe run: the sparse tables and the mailbox memory in their canonical
forms, and no step that stops. -/

namespace Sys2Proof.Machine

/-- The canonical forms of the state: the object values, the committed values and the mailbox array (and its
descriptors). -/
def State.canonical (s : State) : Bool :=
  Tab.wf Dict.dflt s.objs && Tab.wf Dict.dflt s.nvaObjs && Mem.wf s.pocket.mail && Mem.wf s.pocket.desc

/-- A step that does not stop. -/
def State.runs (s : State) : Prop := ∃ t, step s = .next t

/-- The first `n` steps all run. -/
def State.safeFor : Nat → State → Prop
  | 0, _ => True
  | n + 1, s => ∃ t, step s = .next t ∧ State.safeFor n t

/-! ### Frames -/

/-- The fields of the state beside the queue and the object values. -/
inductive Part where
  | free | power | time | timers | nvaObjs | charges | ckpt | order | retried | again | nvaTags | rst | links | svc | host
  | router | faults | pins | voices | dues | scores | tags | crypto | keys | cal | metros | air | mac | line | pocket
deriving DecidableEq, Repr

/-- One field is as it was. -/
def Part.same (p : Part) (s t : State) : Prop :=
  match p with
  | .free => t.free = s.free
  | .power => t.power = s.power
  | .time => t.time = s.time
  | .timers => t.timers = s.timers
  | .nvaObjs => t.nvaObjs = s.nvaObjs
  | .charges => t.charges = s.charges
  | .ckpt => t.ckpt = s.ckpt
  | .order => t.order = s.order
  | .retried => t.retried = s.retried
  | .again => t.again = s.again
  | .nvaTags => t.nvaTags = s.nvaTags
  | .rst => t.rst = s.rst
  | .links => t.links = s.links
  | .svc => t.svc = s.svc
  | .host => t.host = s.host
  | .router => t.router = s.router
  | .faults => t.faults = s.faults
  | .pins => t.pins = s.pins
  | .voices => t.voices = s.voices
  | .dues => t.dues = s.dues
  | .scores => t.scores = s.scores
  | .tags => t.tags = s.tags
  | .crypto => t.crypto = s.crypto
  | .keys => t.keys = s.keys
  | .cal => t.cal = s.cal
  | .metros => t.metros = s.metros
  | .air => t.air = s.air
  | .mac => t.mac = s.mac
  | .line => t.line = s.line
  | .pocket => t.pocket = s.pocket

/-- Whether a key belongs to a metronome's record (0x8000 to 0x800F). -/
def metroKey (k : Nat) : Bool := decide (0x8000 ≤ keyIndex k) && decide (keyIndex k ≤ 0x800F)

/-- What stands unchanged from `s` to `t`: the queue, every field but those of `ps`, and every object value but those of the keys
`ks`. -/
def Changes (ps : List Part) (ks : List Nat) (s t : State) : Prop :=
  t.pending = s.pending ∧ (∀ p : Part, p ∉ ps → p.same s t) ∧ ∀ k, k ∉ ks → t.rd k = s.rd k

/-- What an event leaves unchanged: it touches the router, the NVA order (a sequence reservation, R472), the triggers of scores (R471) and
the metronomes that it starts with their objects (R459), and nothing else. -/
def EventOnly (s t : State) : Prop :=
  t.pending = s.pending ∧ (∀ p : Part, p ∉ [Part.router, Part.order, Part.scores, Part.metros] → p.same s t) ∧
    ∀ k, metroKey k = false → t.rd k = s.rd k

/-- The command `c` brings `s` to `u`, after which only the ON_CHANGE subscriptions are judged (R393). -/
def Ends (c : Instr) (s u : State) : Prop := exec c s = .next u.settle

/-! ### Service requests -/

/-- It is tenant `t`'s turn, and its request `j` is a WRITE of `v` to an object, at an offset, and is accepted. -/
def State.WritesAt (s : State) (t : Tenant) (j : Job) (i sub off : Nat) (v : Octets) : Prop :=
  s.turn t = some j ∧ j.req.op = .write i sub off v ∧ s.writeStatus t j.req.transport i sub off v = 0

/-- The same of the whole object: the only offset of one that is not OCTETS (R381). -/
def State.Writes (s : State) (t : Tenant) (j : Job) (i sub : Nat) (v : Octets) : Prop := s.WritesAt t j i sub 0 v

/-- The command `c` brings `s` to `u` and then finishes the request `j` of tenant `t` from there: with nothing to commit and nothing to
wait for it is answered OK at once, else it waits for the commit of `keeps` (R374). -/
def Serves (c : Instr) (s u : State) (t : Tenant) (j : Job) (keeps : List (Nat × Nat)) (waits : Bool) : Prop :=
  exec c s = .next (State.finish { st := u, keeps := keeps, waits := waits } t j []).settle

/-- The command `c` answers the request `j` of tenant `t` with a status and data, after bringing `s` to `u`. -/
def Answers (c : Instr) (s u : State) (t : Tenant) (j : Job) (status : Nat) (data : Octets) : Prop :=
  exec c s = .next (u.reply t j status data).settle

/-! ### Commands of the wand -/

/-- The bytes `b` are the APDU `a`, the command `w`, and the port takes it up at once: its ISO 14443-4 state, nothing owed, no page commit
under way (R342, R364). -/
def State.Hears (s : State) (b : Octets) (a : Apdu) (w : Wand) : Prop :=
  parseApdu b = a ∧ wandOf a = w ∧ s.pocket.running = true ∧ s.pocket.card = .iso ∧ s.pocket.bridge = none ∧ s.pocket.answer = none ∧
    s.pocket.held = none ∧ s.pocket.commits = []

/-- The same for a well-formed plain command (CLA 0x90) of an open session. -/
def State.HearsPlain (s : State) (b : Octets) (a : Apdu) (w : Wand) : Prop :=
  s.Hears b a w ∧ s.pocketSession ≠ 0 ∧ a.cla = 0x90 ∧ a.lcOk = true

/-- The same for a well-formed secured command (CLA 0x94) of a SECURED session whose MAC is right; `d` is its plaintext. -/
def State.HearsSecured (s : State) (b : Octets) (a : Apdu) (w : Wand) (d : Octets) : Prop :=
  s.Hears b a w ∧ s.pocketSession = 3 ∧ a.cla = 0x94 ∧ a.lcOk = true ∧ s.unseal a = some d ∧ d.length ≤ 200

end Sys2Proof.Machine
end

