-- ==== Sys2Proof/Certificates/Slice0/Obligations.lean ====
section
/-! DEFINITION. The statements for the provers: what each family of commands does, what each command leaves, and what every step
keeps. -/

open Sys2Proof Sys2Proof.Machine

/-- The state right after reset. At State.reset no command waits, every object of the dictionary reads its default value, no timer but
those of the start is set, the conductor and the four dies are held in reset with every reach of a CHIP start still to be released, no
link is up and none carries a tag, no fault is pending, no NVA commit is in order, and the power is on. The model's own choices in it (log
entries 6 and 14) are not stated here. (Rests on: 19_reset.md: R514, R526, Table 19-3; 01_the_machine.md: Table 1-8.) -/
def Obligations.ResetState : Prop :=
  State.reset.pending = [] ∧ (∀ k, State.reset.rd k = Dict.dflt k) ∧ State.reset.timers = bootTimers ∧
  State.reset.rst.conductor = .held ∧ State.reset.rst.toRelease = Reach.all ∧ State.reset.up = false ∧
  (∀ d : Die, State.reset.links[d.link].up = false ∧ State.reset.links[d.link].tags = [] ∧ State.reset.linkState d = 0) ∧
  State.reset.faults.pending = [] ∧ State.reset.order = [] ∧ State.reset.power.powered = true

/-- A step runs the command at the front of the queue. For every command and state, a step with that command at the front of the queue is
the command's execution on the state with the queue's rest. (Rests on: 00_scope.md.) -/
def Obligations.StepRunsFrontCommand : Prop :=
  ∀ (c : Instr) (l : List Instr) (s : State), step { s with pending := c :: l } = exec c { s with pending := l }

/-- A step takes exactly the front command off the queue. Whatever the command and the state: when a step answers a next state, its queue
is the old queue without its front command (empty stays empty); no command puts anything in, takes anything else out or reorders what
waits. (Rests on: 00_scope.md.) -/
def Obligations.QueueIsFirstInFirstOut : Prop :=
  ∀ s t : State, step s = .next t → t.pending = s.pending.tail

/-- The canonical forms hold at reset. At State.reset the object values, the committed values, the mailbox array and its descriptors are
in their canonical forms: keys strictly rising, and no entry equal to what an unlisted key reads as. (Rests on: 12_pocket_port.md: R343;
13_object_dictionary.md: R374.) -/
def Obligations.CanonicalFormsAtReset : Prop :=
  State.reset.canonical = true

/-- Every step keeps the canonical forms. From any state in which the object values, the NVA's committed values, the mailbox array and its
descriptors are in their canonical forms, every step that answers a next state leaves all four in theirs: so equal contents are equal
data, whatever order of writes led to them. (Rests on: 12_pocket_port.md: R343; 13_object_dictionary.md: R374.) -/
def Obligations.CanonicalFormsKept : Prop :=
  ∀ s t : State, s.canonical = true → step s = .next t → t.canonical = true

/-- No command is refused, and only a supply above its rating faults. A step never answers a refusal. It answers a fault only when the
command at the front is a supply command whose voltage lies above the absolute maximum of Table 23-1 (VBAT above 4,500 mV, VLINE above
40,000 mV, VIO above 4,000 mV), and then it always does; every other step answers a next state. (Rests on: 23_electrical_and_timing.md:
R609, Table 23-1.) -/
def Obligations.OnlyRatingsStop : Prop :=
  (∀ (s : State) (r : Refusal), step s ≠ .refused r) ∧
  (∀ (c : Instr) (s : State), (∃ f, exec c s = .fault f) ↔
    ((∃ b l, (c = .powerOn b l ∨ c = .brownout b l) ∧ (4500 < b ∨ 40000 < l)) ∨ (∃ m, c = .vlinePresent m ∧ 40000 < m) ∨
      (∃ m, (c = .vioPresent m ∨ c = .vioLost m) ∧ 4000 < m) ∨ (∃ m, c = .vbatSample m ∧ 4500 < m)))

/-- The increment of a tick. On an empty queue with the supply there, a tick adds 512,000,000 plus 0.512 times the total rate correction C
of 0x1100.03, rounded half away from zero, to the count, C being the one in force at that tick; while the time is interpolated the tick
comes only after its cycles of the oscillator, and before that a step counts one cycle and leaves the count as it is. When each such step
happens is the model's passage of time (log entry 8). (Rests on: R33.) -/
def Obligations.TickIncrement : Prop :=
  (∀ s : State, s.pending = [] → s.power.powered = true → s.interpolates = false →
    ∃ t, step s = .next t ∧ Changes [.time] [] s t ∧
      t.time.count = (s.time.count + (512000000 + roundAway (512 * s.rdInt (ob 0x1100 0x03)) 1000).toNat) % 2 ^ 88) ∧
  (∀ s : State, s.pending = [] → s.power.powered = true → s.interpolates = true → 211875 ≤ 256 * (s.time.cycles + 1) + s.time.phase →
    ∃ t, step s = .next t ∧
      t.time.count = (s.time.count + (512000000 + roundAway (512 * s.rdInt (ob 0x1100 0x03)) 1000).toNat) % 2 ^ 88 ∧ t.time.cycles = 0) ∧
  (∀ s : State, s.pending = [] → s.power.powered = true → s.interpolates = true → 256 * (s.time.cycles + 1) + s.time.phase < 211875 →
    ∃ t, step s = .next t ∧ t.time.count = s.time.count ∧ t.time.cycles = s.time.cycles + 1)

/-- An empty queue: time passes, and a block without work dozes. With an empty queue and no supply a step leaves a block that is not up
exactly as it is. A Running block whose start is complete, whose oscillator is up and which has no work left enters Dozing: a tempo
measurement in progress is abandoned, VBAT is sampled a second later where it is sampled at all, the change of state is entered with its
instant and raised to T0, the rest threshold begins to run, and nothing else changes. A busy block only lets time pass. That an idle step
is the passage of time is the model's (log entry 8). (Rests on: 21_power_and_rest.md: R557, R561, R562; 02_time_and_tempo.md: R42, R43.) -/
def Obligations.IdleAndDozing : Prop :=
  (∀ s : State, s.pending = [] → s.power.powered = false → s.up = false → step s = .next s) ∧
  (∀ s : State, s.pending = [] → s.power.powered = true → s.runState = 1 → s.up = true → s.time.restart = false → s.busy = false →
    ∃ w, step s = .next ((w.raise 1248 [t0] (u8 2)).armIn .rest (s.rd (ob 0x1080 0x01))) ∧
      Changes [.time, .timers, .power] [ob 0x1020 0x01, ob 0x1020 0x02, ob 0x1070 0x05] s w ∧ w.runState = 2 ∧ w.time.gate = none ∧
      w.isArmed .vbatSample = s.isArmed .vbatSample ∧ w.time.resumeMv = s.rd (ob 0x1110 0x06)) ∧
  (∀ s : State, s.pending = [] → s.busy = true → ∃ t, step s = .next t ∧ Changes [.time] [] s t)

/-- Masking, coalescing, numbering and overflow of a tenant's event queue. An event offered to a tenant's mailbox: a masked one is counted
and queued nowhere. One that the coalesce bitmap names takes the place of the untouched entry of the same event, which keeps its number,
and is counted. Otherwise, with a free entry and some route, it joins the tail with the next sequence number while the reserved block has
one, and with none when the block is used up; with no route it only takes its number. Into a full queue under DROP_NEWEST it is lost: it
takes no number, it is counted, and the marker records it or counts one more. Under DROP_OLDEST the oldest entry is the lost one and the
event joins the tail. Before the conductor's start is complete an event is held, with its delivery set and its stamp, and nothing else
changes. (Rests on: 17_event_map.md: R469, R472, R476 to R479, R484; 01_the_machine.md: R20.) -/
def Obligations.EventQueueing : Prop :=
  (∀ (s : State) (t : Tenant) (e st : Nat) (d : Octets), s.eventBit t 0x01 e = true →
    (s.offer t e st d).2 = false ∧ (s.offer t e st d).1 = { s.router.boxes[t] with masked := s.router.boxes[t].masked + 1 }) ∧
  (∀ (s : State) (t : Tenant) (e st : Nat) (d : Octets), s.eventBit t 0x01 e = false → s.eventBit t 0x02 e = true →
    (∃ q ∈ s.router.boxes[t].queue, q.event = e ∧ q.touched = false) →
    (s.offer t e st d).2 = true ∧ (s.offer t e st d).1.coalesced = s.router.boxes[t].coalesced + 1 ∧
      (s.offer t e st d).1.nextSeq = s.router.boxes[t].nextSeq ∧
      (s.offer t e st d).1.queue.map (fun q => q.seq) = s.router.boxes[t].queue.map (fun q => q.seq) ∧
      ∀ q ∈ (s.offer t e st d).1.queue, q.event = e → q.touched = false → q.stamp = st ∧ q.data = d) ∧
  (∀ (s : State) (t : Tenant) (e st : Nat) (d : Octets), s.eventBit t 0x01 e = false → s.eventBit t 0x02 e = false →
    s.router.boxes[t].queue.length < 64 →
    (s.offer t e st d).2 = true ∧ (s.offer t e st d).1.queued = s.router.boxes[t].queued + 1 ∧
      (s.offer t e st d).1.queue = s.router.boxes[t].queue ++ (if s.rd (ob 0x1030 (t.val + 1)) % 8 = 0 then [] else
        [{ seq := if s.router.boxes[t].left = 0 then none else some s.router.boxes[t].nextSeq, event := e, stamp := st, data := d,
           routes := s.rd (ob 0x1030 (t.val + 1)) % 8, touched := false }]) ∧
      (s.offer t e st d).1.nextSeq = (if s.router.boxes[t].left = 0 then s.router.boxes[t].nextSeq
        else (s.router.boxes[t].nextSeq + 1) % 65536)) ∧
  (∀ (s : State) (t : Tenant) (e st : Nat) (d : Octets), s.eventBit t 0x01 e = false → s.eventBit t 0x02 e = false →
    64 ≤ s.router.boxes[t].queue.length → s.rd (obT 0x7400 0x03 t) ≠ 1 →
    (s.offer t e st d).2 = false ∧ (s.offer t e st d).1.queue = s.router.boxes[t].queue ∧
      (s.offer t e st d).1.nextSeq = s.router.boxes[t].nextSeq ∧ (s.offer t e st d).1.lost = s.router.boxes[t].lost + 1 ∧
      (s.router.boxes[t].marker = none → (s.offer t e st d).1.marker = some { first := e, since := st, count := 1, last := st }) ∧
      ∀ m, s.router.boxes[t].marker = some m →
        (s.offer t e st d).1.marker = some { m with count := if m.count < 0xFFFF then m.count + 1 else m.count, last := st }) ∧
  (∀ (s : State) (t : Tenant) (e st : Nat) (d : Octets) (q : QEvent) (l : List QEvent), s.eventBit t 0x01 e = false →
    s.eventBit t 0x02 e = false → s.router.boxes[t].queue = q :: l → 63 ≤ l.length → s.rd (obT 0x7400 0x03 t) = 1 →
    s.rd (ob 0x1030 (t.val + 1)) % 8 ≠ 0 →
    (s.offer t e st d).2 = true ∧ (s.offer t e st d).1.lost = s.router.boxes[t].lost + 1 ∧
      (s.offer t e st d).1.queue.dropLast = l ∧ ((s.offer t e st d).1.queue.getLast?.map (fun x => (x.event, x.stamp, x.data))) = some (e, st, d) ∧
      (s.router.boxes[t].marker = none →
        (s.offer t e st d).1.marker = some { first := q.event, since := q.stamp, count := 1, last := q.stamp })) ∧
  (∀ (s : State) (e : Nat) (l : List Tenant) (d : Octets), s.up = false →
    Changes [.router] [] s (s.raise e l d) ∧ (s.raise e l d).router = { s.router with
      held := s.router.held ++ [{ event := e, dests := tenants.filter (fun t => l.contains t && s.active t), data := d, stamp := s.now }] })

/-- Replies are counted and kept, commits hold their request. Answering a host request of a tenant records that tenant as last served,
counts the reply in 0x1040.03 (OK) or .04, keeps it for its fetch, and marks the request replied; nothing else changes where no reset
waits for the reply. A request whose effect needs a commit is not answered: it waits committing its reply data, its values join the end of
the NVA order, and nothing else changes. With nothing to keep and nothing to wait for it is answered OK. (Rests on:
13_object_dictionary.md: R374, R377, R385, Table 13-15.) -/
def Obligations.RepliesAndCommits : Prop :=
  (∀ (s : State) (t : Tenant) (j : Job) (st : Nat) (d : Octets), j.req.transport = .host →
    (∀ p ∈ s.rst.waiting, p.reply ≠ some j.id) → s.rd (obT 0x1040 (if st = 0 then 0x03 else 0x04) t) + 1 < 2 ^ 32 →
    Changes [.svc] [obT 0x1040 (if st = 0 then 0x03 else 0x04) t] s (s.reply t j st d) ∧
      (s.reply t j st d).rd (obT 0x1040 (if st = 0 then 0x03 else 0x04) t) = s.rd (obT 0x1040 (if st = 0 then 0x03 else 0x04) t) + 1 ∧
      (s.reply t j st d).svc.turn = t ∧
      (s.reply t j st d).svc.replies = s.svc.replies ++ [{ id := j.id, tenant := t, req := j.req, status := st, data := d }] ∧
      (s.reply t j st d).svc.queues[t] = s.svc.queues[t].map (fun q => if q.id = j.id then { q with phase := .replied } else q) ∧
      ∀ u : Tenant, u ≠ t → (s.reply t j st d).svc.queues[u] = s.svc.queues[u]) ∧
  (∀ (s : State) (t : Tenant) (j : Job) (k : List (Nat × Nat)) (w : Bool) (d : Octets), j ∈ s.svc.queues[t] → k ≠ [] →
    Changes [.svc, .order] [] s (State.finish { st := s, keeps := k, waits := w } t j d) ∧
      (State.finish { st := s, keeps := k, waits := w } t j d).order = s.order ++ [.dict t j.id k] ∧
      (State.finish { st := s, keeps := k, waits := w } t j d).svc.replies = s.svc.replies ∧
      (State.finish { st := s, keeps := k, waits := w } t j d).svc.queues[t] =
        s.svc.queues[t].map (fun q => if q.id = j.id then { q with phase := .committing d } else q)) ∧
  (∀ (s : State) (t : Tenant) (j : Job) (d : Octets), j ∈ s.svc.queues[t] →
    State.finish { st := s, keeps := [], waits := false } t j d =
      ({ s with svc := { s.svc with turn := t } } : State).reply t j 0 d)

/-- START, RESTART and STOP of a metronome. An accepted command of a metronome first lets everything of it that is already due happen
(R455, R466); of what then stands: START of a STOPPED metronome acts at S: now where the start time is 0, the start time where it is still
to come, else the next point of its grid of P. With S to come the metronome is ARMED; otherwise it is RUNNING with the period buffer as
period in force, the compare as live compare, no pending wrap, and the counter loaded with P (TRIANGLE: with 0, upwards) at S. START of
one that is not STOPPED has no effect. RESTART acts now, with no start time. STOP makes it STOPPED and holds the count; on a STOPPED one
it has no effect. (A stride in TRIANGLE, which refuses both starts, is not asked for again.) An ARMED metronome whose S has come runs from
S; nothing is raised for it, but the block wakes if it dozes. Nothing else of the block changes before the request is answered. (Rests on:
R458.) -/
def Obligations.MetronomeCommands : Prop :=
  (∀ (s : State) (t : Tenant) (j : Job) (m : MetroId),
    s.Writes t j (0x8000 + m.val) 0x0E [1] → (s.metroCaught m).rd (ob (0x8000 + m.val) 0x01) = 0 → (s.metroCaught m).strideBlocks m = false →
    (let w := s.metroCaught m
     ∃ u, Serves (.metronomeStart t) s u t j [] false ∧
      Changes [.metros] [ob (0x8000 + m.val) 0x01, ob (0x8000 + m.val) 0x05, ob (0x8000 + m.val) 0x07, ob (0x8000 + m.val) 0x0A] w u ∧
      (∀ n : MetroId, n ≠ m → u.metros[n] = w.metros[n]) ∧
      (let i := 0x8000 + m.val
       let p := w.rd (ob i 0x04) * (if w.rd (ob i 0x03) = 1 then 1000 else 1)
       let st := w.rd (ob i 0x0B)
       let at_ := if st = 0 then w.now else if w.now ≤ st then st else st + ceilDiv (w.now - st) p * p
       u.rd (ob i 0x0A) = w.rd (ob i 0x08) ∧ u.metros[m].wrap = none ∧
       (if w.now < at_ then u.rd (ob i 0x01) = 1 ∧ u.metros[m].armed = at_
        else u.rd (ob i 0x01) = 2 ∧ u.rd (ob i 0x05) = w.rd (ob i 0x04) ∧ u.metros[m].since = at_ ∧
          u.rd (ob i 0x07) = (if w.rd (ob i 0x02) = 2 then 1 else 0) ∧
          u.metros[m].base = (if w.rd (ob i 0x02) = 2 then 0 else w.rd (ob i 0x04)))))) ∧
  (∀ (s : State) (t : Tenant) (j : Job) (m : MetroId),
    s.Writes t j (0x8000 + m.val) 0x0E [1] → (s.metroCaught m).rd (ob (0x8000 + m.val) 0x01) ≠ 0 →
    Serves (.metronomeStart t) s (s.metroCaught m) t j [] false) ∧
  (∀ (s : State) (t : Tenant) (j : Job) (m : MetroId),
    s.Writes t j (0x8000 + m.val) 0x0E [3] → (s.metroCaught m).strideBlocks m = false →
    (let w := s.metroCaught m
     ∃ u, Serves (.metronomeRestart t) s u t j [] false ∧
      Changes [.metros] [ob (0x8000 + m.val) 0x01, ob (0x8000 + m.val) 0x05, ob (0x8000 + m.val) 0x07, ob (0x8000 + m.val) 0x0A] w u ∧
      (∀ n : MetroId, n ≠ m → u.metros[n] = w.metros[n]) ∧
      (let i := 0x8000 + m.val
       u.rd (ob i 0x01) = 2 ∧ u.rd (ob i 0x05) = w.rd (ob i 0x04) ∧ u.rd (ob i 0x0A) = w.rd (ob i 0x08) ∧
         u.rd (ob i 0x07) = (if w.rd (ob i 0x02) = 2 then 1 else 0) ∧
         u.metros[m].base = (if w.rd (ob i 0x02) = 2 then 0 else w.rd (ob i 0x04)) ∧ u.metros[m].since = w.now ∧
         u.metros[m].wrap = none))) ∧
  (∀ (s : State) (t : Tenant) (j : Job) (m : MetroId),
    s.Writes t j (0x8000 + m.val) 0x0E [2] →
    (let w := s.metroCaught m
     ∃ u, Serves (.metronomeStop t) s u t j [] false ∧ Changes [.metros] [ob (0x8000 + m.val) 0x01] w u ∧
      (∀ n : MetroId, n ≠ m → u.metros[n] = w.metros[n]) ∧ u.rd (ob (0x8000 + m.val) 0x01) = 0 ∧
      (w.rd (ob (0x8000 + m.val) 0x01) = 0 → u = w) ∧
      (w.rd (ob (0x8000 + m.val) 0x01) ≠ 0 →
        u.metros[m].base = w.metroCount m w.now ∧ u.metros[m].since = w.now ∧ u.metros[m].wrap = none))) ∧
  (∀ (s : State) (m : MetroId),
    s.rd (ob (0x8000 + m.val) 0x01) = 1 → s.metros[m].armed ≤ s.now →
    ∃ u, exec (.metronomeStartInstant m) s = .next (u.wakeBy 1).settle ∧
      Changes [.metros] [ob (0x8000 + m.val) 0x01, ob (0x8000 + m.val) 0x05, ob (0x8000 + m.val) 0x07, ob (0x8000 + m.val) 0x0A] s u ∧
      (let i := 0x8000 + m.val
       u.rd (ob i 0x01) = 2 ∧ u.rd (ob i 0x05) = s.rd (ob i 0x04) ∧ u.metros[m].since = s.metros[m].armed ∧
         u.metros[m].base = (if s.rd (ob i 0x02) = 2 then 0 else s.rd (ob i 0x04))))

/-- COMPARE, ZERO and TOP of a metronome. Whoever the metronome belongs to and whatever the state of the block: when counting, up or down,
has reached the live compare, the command completes with the counter going on from there at the scheduled instant, a stride other than 0
moving the live compare down by itself or leaving a pending wrap, and COMPARE announced with that instant, the count and the direction.
ZERO of DOWN takes the buffer as P and loads the counter, ZERO of ONE_SHOT stops it, ZERO of TRIANGLE turns it up; TOP turns it down; both
wait for a match that stands before them, and the last zero's instant is recorded. With nothing due each of the three commands completes
and changes nothing. An announcement moves the general pins that follow the metronome, wakes the block if it dozes, and then: with the
block up and its tenant (T0 where it has none) not RESETTING, the event is raised to that tenant; with the tenant RESETTING it is only
counted in 0x80kk.11; with the block not up, the start links act and the event is held, or takes the place of the one of its number that
is held, which is counted. (Rests on: 16_metronomes.md: Table 16-1, R451, R452, R456, R457, R461, R464, R465.) -/
def Obligations.MetronomeEvents : Prop :=
  (∀ (s : State) (m : MetroId),
    s.rd (ob (0x8000 + m.val) 0x01) = 2 → 0 < s.rd (ob (0x8000 + m.val) 0x0A) →
    (if s.rd (ob (0x8000 + m.val) 0x07) = 1 then
        s.metros[m].base < s.rd (ob (0x8000 + m.val) 0x0A) ∧ s.rd (ob (0x8000 + m.val) 0x0A) ≤ s.rd (ob (0x8000 + m.val) 0x05) ∧
        s.metros[m].since + (s.rd (ob (0x8000 + m.val) 0x0A) - s.metros[m].base) * s.metroUnit m ≤ s.now
      else s.rd (ob (0x8000 + m.val) 0x0A) < s.metros[m].base ∧
        s.metros[m].since + (s.metros[m].base - s.rd (ob (0x8000 + m.val) 0x0A)) * s.metroUnit m ≤ s.now) →
    (let i := 0x8000 + m.val
     let c := s.rd (ob i 0x0A)
     let rising := s.rd (ob i 0x07) == 1
     let at_ := s.metros[m].since + (if rising then c - s.metros[m].base else s.metros[m].base - c) * s.metroUnit m
     ∃ u, exec (.metronomeCompare m) s = .next (u.metroRaise m 0 at_ c rising).settle ∧
      Changes [.metros] [ob i 0x0A] s u ∧ (∀ n : MetroId, n ≠ m → u.metros[n] = s.metros[n]) ∧ u.metros[m].base = c ∧
      u.metros[m].since = at_ ∧
      (if s.rd (ob i 0x09) = 0 ∨ s.rd (ob i 0x02) = 2 then u.rd (ob i 0x0A) = c ∧ u.metros[m].wrap = s.metros[m].wrap
       else if s.rd (ob i 0x09) < c then u.rd (ob i 0x0A) = c - s.rd (ob i 0x09) ∧ u.metros[m].wrap = s.metros[m].wrap
       else u.rd (ob i 0x0A) = 0 ∧ u.metros[m].wrap = some ((c : Int) - (s.rd (ob i 0x09) : Int))))) ∧
  (∀ (s : State) (m : MetroId),
    s.rd (ob (0x8000 + m.val) 0x01) = 2 → s.rd (ob (0x8000 + m.val) 0x07) ≠ 1 →
    s.metros[m].since + s.metros[m].base * s.metroUnit m ≤ s.now →
    (∀ c, s.compareAt m = some c → s.metros[m].since + s.metros[m].base * s.metroUnit m < c) →
    (let i := 0x8000 + m.val
     let at_ := s.metros[m].since + s.metros[m].base * s.metroUnit m
     ∃ u, exec (.metronomeZero m) s = .next (u.metroRaise m 1 at_ 0 false).settle ∧
      Changes [.metros] [ob i 0x01, ob i 0x05, ob i 0x07, ob i 0x0A, ob i 0x10] s u ∧
      (∀ n : MetroId, n ≠ m → u.metros[n] = s.metros[n]) ∧ u.rd (ob i 0x10) = at_ ∧ u.metros[m].since = at_ ∧
      (if s.rd (ob i 0x02) = 2 then u.rd (ob i 0x01) = 2 ∧ u.rd (ob i 0x07) = 1 ∧ u.metros[m].base = 0
       else if s.rd (ob i 0x02) = 1 then u.rd (ob i 0x01) = 0 ∧ u.metros[m].base = 0 ∧ u.metros[m].wrap = none
       else u.rd (ob i 0x01) = 2 ∧ u.rd (ob i 0x05) = s.rd (ob i 0x04) ∧ u.metros[m].base = s.rd (ob i 0x04) ∧
        (s.metros[m].wrap = none → u.rd (ob i 0x0A) = s.rd (ob i 0x0A) ∧ u.metros[m].wrap = none) ∧
        (∀ d, s.metros[m].wrap = some d →
          if 1 ≤ d + (s.rd (ob i 0x04) : Int) then u.rd (ob i 0x0A) = (d + (s.rd (ob i 0x04) : Int)).toNat ∧ u.metros[m].wrap = none
          else u.metros[m].wrap = some (d + (s.rd (ob i 0x04) : Int)))))) ∧
  (∀ (s : State) (m : MetroId),
    s.rd (ob (0x8000 + m.val) 0x01) = 2 → s.rd (ob (0x8000 + m.val) 0x07) = 1 →
    s.metros[m].since + (s.rd (ob (0x8000 + m.val) 0x05) - s.metros[m].base) * s.metroUnit m ≤ s.now →
    (∀ c, s.compareAt m = some c → s.metros[m].since + (s.rd (ob (0x8000 + m.val) 0x05) - s.metros[m].base) * s.metroUnit m < c) →
    (let i := 0x8000 + m.val
     let at_ := s.metros[m].since + (s.rd (ob i 0x05) - s.metros[m].base) * s.metroUnit m
     ∃ u, exec (.metronomeTop m) s = .next (u.metroRaise m 2 at_ (s.rd (ob i 0x05)) true).settle ∧
      Changes [.metros] [ob i 0x07] s u ∧ (∀ n : MetroId, n ≠ m → u.metros[n] = s.metros[n]) ∧ u.rd (ob i 0x07) = 0 ∧
      u.metros[m].base = s.rd (ob i 0x05) ∧ u.metros[m].since = at_)) ∧
  (∀ (s : State) (m : MetroId),
    ((∀ x, s.compareAt m = some x → s.now < x) → Ends (.metronomeCompare m) s s) ∧
    ((∀ x, s.zeroAt m = some x → s.now < x ∨ ∃ c, s.compareAt m = some c ∧ c ≤ x) → Ends (.metronomeZero m) s s) ∧
    ((∀ x, s.topAt m = some x → s.now < x ∨ ∃ c, s.compareAt m = some c ∧ c ≤ x) → Ends (.metronomeTop m) s s)) ∧
  (∀ (s : State) (m : MetroId) (j at_ n : Nat) (up : Bool),
    (let w := (s.drivePins m j).wakeBy 1
     let e := 1072 + 4 * m.val + j
     let d := u32 n ++ u8 (if up then 1 else 0)
     Changes [] ((List.range 16).map (fun g => ob (0x1090 + g) 0x08)) s (s.drivePins m j) ∧
     (s.up = true → (∀ o, s.metroTenant m = some o → s.tenantState o ≠ 2) →
       s.metroRaise m j at_ n up = w.raiseAt e [(s.metroTenant m).getD t0] d at_) ∧
     (∀ o, s.metroTenant m = some o → s.tenantState o = 2 → s.metroRaise m j at_ n up = w.inc (ob (0x8000 + m.val) 0x11)) ∧
     (s.up = false → (∀ o, s.metroTenant m = some o → s.tenantState o ≠ 2) →
       (let x := match s.metroTenant m with | some o => w.links1 o e at_ | none => w
        (x.router.held.any (fun h => h.event == e) = false →
          s.metroRaise m j at_ n up = x.raiseAt e [(s.metroTenant m).getD t0] d at_) ∧
        (x.router.held.any (fun h => h.event == e) = true →
          ∃ y, s.metroRaise m j at_ n up = y.inc (ob (0x8000 + m.val) 0x11) ∧ Changes [.router] [] x y ∧
            y.router = { x.router with held := x.router.held.map (fun (h : Held) =>
              if h.event = e then { h with stamp := at_, data := d } else h) })))))

/-- Writes of a metronome's period, compare and stride. An accepted write first lets everything of its metronome that is already due
happen (R455, R466). Of what then stands, a write of the period buffer in DOWN or ONE_SHOT stores the buffer and changes neither the count
nor the period in force; in TRIANGLE it is the period in force at once, and a running one counting up at or beyond it turns down now with
TOP_PASSED in place of TOP. A write of the compare sets the live compare too and clears a pending wrap. A write of the stride stores it
alone. The request is then answered, or waits for the commit of the value. (Rests on: 16_metronomes.md, rules on period, compare and
stride (R453, R454, R456, R457).) -/
def Obligations.MetronomeSettingWrites : Prop :=
  (∀ (s : State) (t : Tenant) (j : Job) (m : MetroId) (v : Nat), v < 2 ^ 32 →
    s.Writes t j (0x8000 + m.val) 0x04 (u32 v) → (s.metroCaught m).rd (ob (0x8000 + m.val) 0x02) ≠ 2 →
    ∃ u, Serves (.periodBufferWrite t) s u t j
        (if s.needsCommit (ob (0x8000 + m.val) 0x04) v then [(ob (0x8000 + m.val) 0x04, v)] else []) false ∧
      Changes [] [ob (0x8000 + m.val) 0x04] (s.metroCaught m) u ∧ u.rd (ob (0x8000 + m.val) 0x04) = v) ∧
  (∀ (s : State) (t : Tenant) (j : Job) (m : MetroId) (v : Nat), v < 2 ^ 32 →
    s.Writes t j (0x8000 + m.val) 0x04 (u32 v) → (s.metroCaught m).rd (ob (0x8000 + m.val) 0x02) = 2 →
    (let w := s.metroCaught m
     ∃ u, Changes [.metros] [ob (0x8000 + m.val) 0x04, ob (0x8000 + m.val) 0x05, ob (0x8000 + m.val) 0x07] w u ∧
      u.rd (ob (0x8000 + m.val) 0x04) = v ∧ u.rd (ob (0x8000 + m.val) 0x05) = v ∧
      (if w.rd (ob (0x8000 + m.val) 0x01) = 2 ∧ w.rd (ob (0x8000 + m.val) 0x07) = 1 ∧ v ≤ w.metroCount m w.now then
        u.rd (ob (0x8000 + m.val) 0x07) = 0 ∧ u.metros[m].base = w.metroCount m w.now ∧ u.metros[m].since = w.now ∧
        Serves (.periodBufferWrite t) s (u.metroRaise m 3 w.now (w.metroCount m w.now) true) t j
          (if s.needsCommit (ob (0x8000 + m.val) 0x04) v then [(ob (0x8000 + m.val) 0x04, v)] else []) false
       else u.rd (ob (0x8000 + m.val) 0x07) = w.rd (ob (0x8000 + m.val) 0x07) ∧ u.metros = w.metros ∧
        Serves (.periodBufferWrite t) s u t j
          (if s.needsCommit (ob (0x8000 + m.val) 0x04) v then [(ob (0x8000 + m.val) 0x04, v)] else []) false))) ∧
  (∀ (s : State) (t : Tenant) (j : Job) (m : MetroId) (v : Nat), v < 2 ^ 32 →
    s.Writes t j (0x8000 + m.val) 0x08 (u32 v) →
    ∃ u, Serves (.compareWrite t) s u t j
        (if s.needsCommit (ob (0x8000 + m.val) 0x08) v then [(ob (0x8000 + m.val) 0x08, v)] else []) false ∧
      Changes [.metros] [ob (0x8000 + m.val) 0x08, ob (0x8000 + m.val) 0x0A] (s.metroCaught m) u ∧
      u.rd (ob (0x8000 + m.val) 0x08) = v ∧ u.rd (ob (0x8000 + m.val) 0x0A) = v ∧ u.metros[m].wrap = none) ∧
  (∀ (s : State) (t : Tenant) (j : Job) (m : MetroId) (v : Nat), v < 2 ^ 32 →
    s.Writes t j (0x8000 + m.val) 0x09 (u32 v) →
    ∃ u, Serves (.strideWrite t) s u t j
        (if s.needsCommit (ob (0x8000 + m.val) 0x09) v then [(ob (0x8000 + m.val) 0x09, v)] else []) false ∧
      Changes [] [ob (0x8000 + m.val) 0x09] (s.metroCaught m) u ∧ u.rd (ob (0x8000 + m.val) 0x09) = v)

/-- What moves the rate correction and its sources. A temperature reading that is due becomes the temperature, rounded to whole degrees,
and C becomes the temperature term plus the discipline correction within plus or minus 200,000 ppb, before automatic tunings and stale
synthesiser entries are looked at. An accepted write of K or T0 recomputes C at once from the last reading. A change of the sources, the
window or the filter shift discards the partial FIELD window; the sources are then chosen anew. A FIELD window that is complete, with no
line or mesh source eligible and FIELD enabled, makes FIELD active; a residual of more than 100,000 ppb is rejected, counted and
announced, else D moves by (residual - D) / 2^S, truncated toward zero, and C follows. A source's lapse and the network offset's lapse do
the rest of R38 and R40. (Rests on: 02_time_and_tempo.md: R37, R38, R39, R40 and R49 in part, with Table 2-2.) -/
def Obligations.TimeBaseCorrection : Prop :=
  (∀ (s : State) (tenths : Int), s.isDue .temperature = true →
    ∃ u : State, exec (.temperatureReading tenths) s = .next (u.temperatureTrigger.markStale).settle ∧
      Changes [.time, .timers] [ob 0x1100 0x03] s u ∧ u.time = { s.time with temp := roundAway tenths 10 } ∧
      u.dueAt .temperature = some (u.now + 60000000) ∧
      u.rd (ob 0x1100 0x03) = ofSigned 32 (clamp (-200000) 200000
        ((s.rd (ob 0x1100 0x05) : Int) * (roundAway tenths 10 - s.rdInt (ob 0x1100 0x06)) *
          (roundAway tenths 10 - s.rdInt (ob 0x1100 0x06)) + s.rdInt (ob 0x1100 0x04)))) ∧
  (∀ (s : State) (t : Tenant) (j : Job) (k : Nat), k ≤ 100 → s.Writes t j 0x1100 0x05 (u16 k) →
    ∃ u, Serves (.temperatureTermWrite t) s u t j (if s.needsCommit (ob 0x1100 0x05) k then [(ob 0x1100 0x05, k)] else []) false ∧
      Changes [] [ob 0x1100 0x05, ob 0x1100 0x03] s u ∧ u.rd (ob 0x1100 0x05) = k ∧
      u.rd (ob 0x1100 0x03) = ofSigned 32 (clamp (-200000) 200000
        ((k : Int) * (s.time.temp - s.rdInt (ob 0x1100 0x06)) * (s.time.temp - s.rdInt (ob 0x1100 0x06)) +
          s.rdInt (ob 0x1100 0x04)))) ∧
  (∀ (s : State) (t : Tenant) (j : Job) (x : Nat), x < 256 → s.Writes t j 0x1100 0x06 (u8 x) →
    ∃ u, Serves (.temperatureTermWrite t) s u t j (if s.needsCommit (ob 0x1100 0x06) x then [(ob 0x1100 0x06, x)] else []) false ∧
      Changes [] [ob 0x1100 0x06, ob 0x1100 0x03] s u ∧ u.rd (ob 0x1100 0x06) = x ∧
      u.rd (ob 0x1100 0x03) = ofSigned 32 (clamp (-200000) 200000
        ((s.rd (ob 0x1100 0x05) : Int) * (s.time.temp - toSigned 8 x) * (s.time.temp - toSigned 8 x) + s.rdInt (ob 0x1100 0x04)))) ∧
  (∀ (s : State) (t : Tenant) (j : Job) (x : Nat), x < 256 → s.Writes t j 0x1100 0x07 (u8 x) →
    ∃ u, Serves (.disciplineSettingWrite t) s u t j (if s.needsCommit (ob 0x1100 0x07) x then [(ob 0x1100 0x07, x)] else []) false ∧
      Changes [.time] [ob 0x1100 0x07, ob 0x1100 0x08] s u ∧ u.rd (ob 0x1100 0x07) = x ∧
      u.time = { s.time with fieldRan := false, winTicks := 0 } ∧
      u.rd (ob 0x1100 0x08) = (if u.eligible 2 then 3 else if u.eligible 1 then 2 else if u.eligible 0 then 1 else 0)) ∧
  (∀ (s : State) (t : Tenant) (j : Job) (x : Nat), x < 2 ^ 16 → s.Writes t j 0x1100 0x09 (u16 x) →
    ∃ u, Serves (.disciplineSettingWrite t) s u t j (if s.needsCommit (ob 0x1100 0x09) x then [(ob 0x1100 0x09, x)] else []) false ∧
      Changes [.time] [ob 0x1100 0x09] s u ∧ u.rd (ob 0x1100 0x09) = x ∧ u.time = { s.time with fieldRan := false, winTicks := 0 }) ∧
  (∀ (s : State) (t : Tenant) (j : Job) (x : Nat), x < 256 → s.Writes t j 0x1100 0x0A (u8 x) →
    ∃ u, Serves (.disciplineSettingWrite t) s u t j (if s.needsCommit (ob 0x1100 0x0A) x then [(ob 0x1100 0x0A, x)] else []) false ∧
      Changes [.time] [ob 0x1100 0x0A] s u ∧ u.rd (ob 0x1100 0x0A) = x ∧ u.time = { s.time with fieldRan := false, winTicks := 0 }) ∧
  (∀ (s : State) (cycles : Nat), 0 < s.rd (ob 0x1100 0x09) → s.rd (ob 0x1100 0x09) ≤ s.time.winTicks →
    (s.rd (ob 0x1100 0x07)).testBit 0 = true → s.eligible 2 = false → s.eligible 1 = false →
    (let residual := fieldCreq (s.rd (ob 0x1100 0x09)) cycles (s.rdInt (ob 0x1100 0x0B)) - s.tempTerm
     let d := s.rdInt (ob 0x1100 0x04) + truncDiv (residual - s.rdInt (ob 0x1100 0x04)) (2 ^ s.rd (ob 0x1100 0x0A))
     ∃ u : State, Changes [.time, .timers] [ob 0x1100 0x03, ob 0x1100 0x04, ob 0x1100 0x08, ob 0x1100 0x11] s u ∧
      u.time.winTicks = 0 ∧ u.time.lastFrom = (some s.now, s.time.lastFrom.2) ∧
      u.dueAt (.source 0) = some (s.now + 3600000000) ∧ u.rd (ob 0x1100 0x08) = 1 ∧
      (if 100000 < residual.natAbs then
        exec (.fieldWindowComplete cycles) s = .next (u.raise 1221 [0] []).settle ∧
          u.rd (ob 0x1100 0x04) = s.rd (ob 0x1100 0x04) ∧ u.rd (ob 0x1100 0x11) = satInc 0xFFFF (s.rd (ob 0x1100 0x11))
       else Ends (.fieldWindowComplete cycles) s u ∧ u.rd (ob 0x1100 0x04) = ofSigned 32 d ∧
          u.rd (ob 0x1100 0x03) = ofSigned 32 (clamp (-200000) 200000 (s.tempTerm + u.rdInt (ob 0x1100 0x04))) ∧
          u.rd (ob 0x1100 0x11) = s.rd (ob 0x1100 0x11)))) ∧
  (∀ (s : State) (n : Fin 3), s.isDue (.source n) = true →
    ∃ u, Ends (.sourceEligibilityLapse n) s u ∧ Changes [.timers] [ob 0x1100 0x08] s u ∧ u.isArmed (.source n) = false ∧
      u.rd (ob 0x1100 0x08) = (if s.eligible 2 then 3 else if s.eligible 1 then 2 else if s.eligible 0 then 1 else 0)) ∧
  (∀ s : State, s.isDue .netOffset = true →
    ∃ u, Ends .networkOffsetLapse s u ∧ Changes [.timers] [ob 0x1100 0x10] s u ∧ u.isArmed .netOffset = false ∧
      u.rd (ob 0x1100 0x10) = 0)

/-- Checkpoints, tempo measurements, Rest and waking. A checkpoint that is due puts the count of its tick in the NVA order, and the next
falls due one interval after that tick. A tempo measurement that is due in Running records tempo and laps (where they fit their objects),
instant and minimum, and the governor moves the core voltage by at most 10 mV within 500 to 900 mV; a tempo below 1.0 is counted and
raises TEMPO_FLOOR, any other ends its cause; the next follows 256 ticks later. Rest begins from Dozing when its threshold is over and
nothing is against it: counted, the core at 500 mV. A wake source takes Dozing or Rest to Running, records source and instant, restores
the core voltage, and abandons an entry to Rest. The oscillator's restart being over, device time is interpolated again. (Rests on:
02_time_and_tempo.md: R41 to R44; 21_power_and_rest.md: R562, R563 and Table 21-3.) -/
def Obligations.CheckpointTempoAndWaking : Prop :=
  (∀ (s : State) (d : Nat), s.dueAt .checkpoint = some d → d ≤ s.time.whole →
    ∃ u, Ends .checkpointDue s u ∧ Changes [.order, .timers] [] s u ∧
      u.order = (s.commit (.checkpoint s.time.whole)).order ∧ (Commit.checkpoint s.time.whole) ∈ u.order ∧
      u.dueAt .checkpoint = some (s.time.whole + s.rd (ob 0x1100 0x0C) * 1000000)) ∧
  (∀ (s : State) (laps : Nat), s.gateDue = true → s.runState = 1 →
    (let q := 4096 * laps / s.rd (ob 0x1110 0x03)
     let v := s.rd (ob 0x1110 0x06)
     ∃ u : State, Changes [.free] [ob 0x1110 0x01, ob 0x1110 0x02, ob 0x1110 0x04, ob 0x1110 0x06, ob 0x1110 0x08] s u ∧
      (q < 65536 → u.rd (ob 0x1110 0x01) = q) ∧ (laps < 65536 → u.rd (ob 0x1110 0x02) = laps) ∧ u.rd (ob 0x1110 0x04) = s.now ∧
      u.rd (ob 0x1110 0x08) = min q (s.rd (ob 0x1110 0x08)) ∧
      u.rd (ob 0x1110 0x06) = (if q < s.rd (ob 0x1110 0x05) then min 900 (v + 10)
        else if s.rd (ob 0x1110 0x05) + 0x0400 < q then max 500 (v - 10) else v) ∧
      exec (.tempoMeasurement laps) s = .next
        ((if q < 0x1000 then (u.inc (ob 0x1110 0x07)).fault 0 q else u.causeEnd 0).nextGate).settle)) ∧
  (∀ s : State, s.runState = 2 → s.isDue .rest = true → s.mayRest = true →
    ∃ u : State, exec .restEntry s = .next (u.setRun 3).settle ∧ Changes [.timers] [ob 0x1080 0x03, ob 0x1110 0x06] s u ∧
      u.isArmed .rest = false ∧ u.rd (ob 0x1110 0x06) = 500 ∧
      (s.rd (ob 0x1080 0x03) + 1 < 2 ^ 32 → u.rd (ob 0x1080 0x03) = s.rd (ob 0x1080 0x03) + 1)) ∧
  (∀ (s : State) (n : Nat), 1 ≤ n → n ≤ 8 → (s.runState = 2 ∨ (s.runState = 3 ∧ n ≠ 6)) →
    ∃ u : State, exec (.wake n) s = .next ((u.setRun 1).openGate).settle ∧
      Changes [.timers, .time] [ob 0x1080 0x04, ob 0x1080 0x05, ob 0x1110 0x06] s u ∧ u.isArmed .rest = false ∧
      u.rd (ob 0x1080 0x04) = n ∧ u.rd (ob 0x1080 0x05) = s.now ∧ u.rd (ob 0x1110 0x06) = s.time.resumeMv ∧
      u.time = { s.time with restart := s.time.restart || s.osc27Stopped } ∧
      (s.osc27Stopped = true → u.dueAt .osc27 = some (s.now + 500))) ∧
  (∀ s : State, s.isArmed .osc27 = true →
    ∃ u, Ends .osc27RestartDone s u ∧ Changes [.timers, .time] [] s u ∧ u.isArmed .osc27 = false ∧
      u.time = { s.time with restart := false })

/-- Changeovers of the supplies and of VIO. VLINE risen to 7.0 V on a powered part becomes the source, fallen below 6.0 V it makes VBAT
the source; the block wakes with a supply change and VLINE_RESTORED or VLINE_LOST is raised to T0. VIO inside one of its ranges is
recorded and reads as within range, and the general pins take their configuration unless a reset holds them; outside both ranges 0x1060.06
reads 0, every general pin reads 0, RESET_N is not driven and a host transaction is abandoned. Voltages above the absolute maximum of
Table 23-1 stop the model, for the spec gives the part no behaviour there (log entry 12). (Rests on: 21_power_and_rest.md: R554 and R555
with Table 21-1; 22_balls_and_pins.md: R582, R587; 23_electrical_and_timing.md: Table 23-1.) -/
def Obligations.SupplyChangeovers : Prop :=
  (∀ (s : State) (mv : Nat), 7000 ≤ mv → mv ≤ 40000 → s.power.powered = true → s.power.lineHere = false →
    ∃ u : State, exec (.vlinePresent mv) s = .next ((u.wakeBy 7).raise 1251 [0] []).settle ∧
      Changes [.power] [ob 0x1060 0x01, ob 0x1060 0x04] s u ∧ u.rd (ob 0x1060 0x01) = 2 ∧ u.rd (ob 0x1060 0x04) = mv ∧
      u.power = { s.power with lineHere := true, goodSince := some (s.power.goodSince.getD s.now) }) ∧
  (∀ (s : State) (mv : Nat), mv < 6000 → s.power.powered = true → s.power.lineHere = true →
    ∃ u : State, exec (.vlineLost mv) s = .next ((u.wakeBy 7).raise 1250 [0] []).settle ∧
      Changes [.power] [ob 0x1060 0x01, ob 0x1060 0x04] s u ∧ u.rd (ob 0x1060 0x01) = 1 ∧ u.rd (ob 0x1060 0x04) = mv ∧
      u.power.lineHere = false ∧
      u.power.goodSince = (if 2700 ≤ s.rd (ob 0x1060 0x02) then some (s.power.goodSince.getD s.now) else none)) ∧
  (∀ (s : State) (mv : Nat), (1620 ≤ mv ∧ mv ≤ 1980) ∨ (2970 ≤ mv ∧ mv ≤ 3630) →
    ∃ u : State, exec (.vioPresent mv) s =
        .next (if s.rd (ob 0x1060 0x06) = 0 ∧ s.power.powered = true ∧ s.pins.gpHeld = false then u.applyPins true else u).settle ∧
      Changes [] [ob 0x1060 0x05, ob 0x1060 0x06] s u ∧ u.rd (ob 0x1060 0x05) = mv ∧ u.rd (ob 0x1060 0x06) = 1) ∧
  (∀ (s : State) (mv : Nat), mv ≤ 4000 → ¬((1620 ≤ mv ∧ mv ≤ 1980) ∨ (2970 ≤ mv ∧ mv ≤ 3630)) → s.rd (ob 0x1060 0x06) ≠ 0 →
    ∃ u : State, Ends (.vioLost mv) s u ∧ u.rd (ob 0x1060 0x05) = mv ∧ u.rd (ob 0x1060 0x06) = 0 ∧
      (∀ g, g < 16 → u.rd (ob (0x1090 + g) 0x08) = 0 ∧ u.rd (ob (0x1090 + g) 0x05) = 0) ∧ u.pins = { s.pins with resetLow := false } ∧
      u.host = { s.host with selected := false, sent := [] } ∧
      Changes [.pins, .host] (ob 0x1060 0x05 :: ob 0x1060 0x06 ::
        (List.range 16).flatMap (fun g => [ob (0x1090 + g) 0x08, ob (0x1090 + g) 0x05])) s u) ∧
  (∀ (s : State) (a b : Nat), 4500 < a ∨ 40000 < b →
    exec (.powerOn a b) s = .fault .beyondRatings ∧ exec (.brownout a b) s = .fault .beyondRatings) ∧
  (∀ (s : State) (mv : Nat), 40000 < mv → exec (.vlinePresent mv) s = .fault .beyondRatings) ∧
  (∀ (s : State) (mv : Nat), 4500 < mv → exec (.vbatSample mv) s = .fault .beyondRatings) ∧
  (∀ (s : State) (mv : Nat), 4000 < mv →
    exec (.vioPresent mv) s = .fault .beyondRatings ∧ exec (.vioLost mv) s = .fault .beyondRatings)

/-- VBAT samples, shedding, the minute's minimum and the energy figures. A VBAT sample that is due is recorded, lowers the minute's
minimum, and is followed by the next after 100 us, or after 1 s in Dozing and Rest; below the shed threshold, with VBAT declared and the
source, it begins an episode of shedding, which is counted; at 100 mV above it the 10 ms run, after which shedding ends. The minute's
minimum is recorded at its end: below the threshold it raises VBAT_LOW with its event once, from 50 mV above it ends the cause. The hourly
update adds the energies and makes a new hourly bin, the energy report recurs, and a new pack zeroes the VBAT energy and keeps its instant
in the NVA. (Rests on: 21_power_and_rest.md: R557, R558, R565, R567, R569, R570.) -/
def Obligations.BatteryAndEnergy : Prop :=
  (∀ (s : State) (mv : Nat), mv ≤ 4500 → s.isDue .vbatSample = true →
    (let starts := s.power.shedding = false ∧ s.rd (ob 0x1060 0x07) = 1 ∧ s.rd (ob 0x1060 0x01) = 1 ∧ mv < s.rd (ob 0x1061 0x02)
     ∃ u : State, Ends (.vbatSample mv) s u ∧ Changes [.power, .timers] [ob 0x1060 0x02, ob 0x1060 0x08] s u ∧
      u.rd (ob 0x1060 0x02) = mv ∧ u.power.minuteMin = some (min mv (s.power.minuteMin.getD mv)) ∧
      u.dueAt .vbatSample = some (s.now + (if s.runState = 2 ∨ s.runState = 3 then 1000000 else 100)) ∧
      (starts → u.power.shedding = true ∧
        (s.rd (ob 0x1060 0x08) + 1 < 2 ^ 32 → u.rd (ob 0x1060 0x08) = s.rd (ob 0x1060 0x08) + 1)) ∧
      (¬ starts → u.power.shedding = s.power.shedding ∧ u.rd (ob 0x1060 0x08) = s.rd (ob 0x1060 0x08)) ∧
      (u.power.shedding = true → (u.isArmed .shed = true ↔ s.rd (ob 0x1061 0x02) + 100 ≤ mv)))) ∧
  (∀ (s : State) (mv : Nat), s.power.shedding = true → s.isDue .shed = true → s.rd (ob 0x1061 0x02) + 100 ≤ mv →
    ∃ u, Ends (.shedEnd mv) s u ∧ Changes [.power, .timers] [] s u ∧ u.power = { s.power with shedding := false } ∧
      u.isArmed .shed = false) ∧
  (∀ (s : State) (m d : Nat), s.dueAt .minute = some d → d ≤ s.now → s.power.minuteMin = some m →
    ∃ u : State, Changes [.power, .timers] [ob 0x1060 0x03] s u ∧ u.rd (ob 0x1060 0x03) = m ∧
      u.power = { s.power with minuteMin := none } ∧ u.dueAt .minute = some (d + 60000000) ∧
      exec .vbatMinuteEnd s = .next (
        if m < s.rd (ob 0x1061 0x01) then
          (if s.causeIn 145 0 then u
           else if s.isPending 145 0 then (u.wakeBy 7).fault 145 m else ((u.wakeBy 7).raise 1249 [0] []).fault 145 m)
        else if s.rd (ob 0x1061 0x01) + 50 ≤ m then u.causeEnd 145 else u).settle) ∧
  (∀ (s : State) (vb vl : Nat), s.isDue .hourly = true → s.rd (ob 0x1070 0x01) + vb < 2 ^ 64 → s.rd (ob 0x1070 0x02) + vl < 2 ^ 64 →
    (let total := s.rd (ob 0x1070 0x01) + vb + (s.rd (ob 0x1070 0x02) + vl)
     let bins := (((total : Int) - s.power.binBase).toNat :: s.power.bins).take 168
     ∃ u : State, exec (.energyHourlyUpdate vb vl) s = .next u.packWrite.settle ∧
      Changes [.power, .timers] [ob 0x1070 0x01, ob 0x1070 0x02, ob 0x1070 0x08, ob 0x1070 0x09] s u ∧
      u.rd (ob 0x1070 0x01) = s.rd (ob 0x1070 0x01) + vb ∧ u.rd (ob 0x1070 0x02) = s.rd (ob 0x1070 0x02) + vl ∧
      u.power = { s.power with bins := bins, binBase := total } ∧ u.dueAt .hourly = some (s.now + 3600000000) ∧
      (meanPower bins 24 < 2 ^ 32 → u.rd (ob 0x1070 0x08) = meanPower bins 24) ∧
      (meanPower bins 168 < 2 ^ 32 → u.rd (ob 0x1070 0x09) = meanPower bins 168))) ∧
  (∀ (s : State) (d : Nat), s.dueAt .energyReport = some d → d ≤ s.now → 0 < s.rd (ob 0x1070 0x0F) →
    ∃ u : State, exec .energyReport s = .next (u.raise 1253 [0] []).settle ∧ Changes [.timers] [] s u ∧
      u.dueAt .energyReport = some (d + s.rd (ob 0x1070 0x0F) * 1000000)) ∧
  (∀ (s : State) (t : Tenant) (j : Job), s.Writes t j 0x1070 0x10 [1] →
    ∃ u, Serves (.newPack t) s u t j [] false ∧ Changes [.power, .order] [ob 0x1070 0x01, ob 0x1070 0x11] s u ∧
      u.rd (ob 0x1070 0x01) = 0 ∧ u.rd (ob 0x1070 0x11) = s.now ∧
      u.power = { s.power with binBase := s.power.binBase - (s.rd (ob 0x1070 0x01) : Int) } ∧
      (Commit.own [(ob 0x1070 0x11, s.now)]) ∈ u.order)

/-- Power-on, brown-out and supply loss. A supply of at least 1.8 V on an unpowered part starts the always-on domain and asserts a CHIP
reset with every epoch at 1. A source below its brown-out level, with the other supply not present, on a powered part asserts a CHIP
reset, raises its event and the fault; the release waits for a good supply. A supply loss leaves what the NVA holds (committed values,
their charges, the checkpoint, keys, images, committed tags and fault records) and the conductor held, not powered, with no request,
score, voice or frame in progress. (Rests on: 21_power_and_rest.md: R554, R559, R560; 19_reset.md: Table 19-1; 22_balls_and_pins.md:
R586.) -/
def Obligations.PowerUpBrownoutAndLoss : Prop :=
  (∀ (s : State) (vbat vline : Nat), vbat ≤ 4500 → vline ≤ 40000 → s.power.powered = false → (1800 ≤ vbat ∨ 1800 ≤ vline) →
    ∃ t, exec (.powerOn vbat vline) s = .next t ∧ t.rst.asserted = true ∧ t.rst.brown = true ∧
      t.rst.reach = Reach.all ∧ (t.power.goodSince.isSome = true ↔ (2700 ≤ vbat ∨ 7000 ≤ vline)) ∧
      t.rd (ob 0x7500 0x01) = 1 ∧ (∀ d : Die, t.rd (ob d.index 0x02) = 1 ∧ t.links[d.link].epoch = 1)) ∧
  (∀ (s : State) (vbat vline : Nat), vbat ≤ 4500 → vline ≤ 40000 → s.power.powered = true →
    (if s.power.lineHere then vline < 5500 ∧ vbat < 2550 else vbat < 2550 ∧ vline < 7000) →
    ∃ u : State, exec (.brownout vbat vline) s =
        .next ((u.raise 1252 [0] []).fault 144 (if s.power.lineHere then 2 else 1)).settle ∧
      u.rst.asserted = true ∧ u.rst.brown = true ∧ u.rst.reach = Reach.all) ∧
  (∀ s : State, s.power.powered = true →
    ∃ t, exec .supplyLoss s = .next t ∧ t.pending = s.pending ∧ t.power.powered = false ∧ t.rst.conductor = .held ∧
      t.rst.asserted = false ∧ t.nvaObjs = s.nvaObjs ∧ t.charges = s.charges ∧ t.ckpt = s.ckpt ∧ t.nvaTags = s.nvaTags ∧
      t.tags = s.nvaTags ∧ t.keys = s.keys ∧ t.faults.ring = s.faults.stored ∧ t.faults.stored = s.faults.stored ∧
      t.order = [] ∧ t.dues = [] ∧ t.svc.queues = Vector.replicate 8 [] ∧ t.voices = State.reset.voices ∧
      t.mac.addresses = s.mac.nvaAddresses ∧ t.line.table = s.line.nvaTable ∧ t.time.lost = true)

/-- Reset requests wait for their reply with the reach of their kind. An accepted write of a kind from 1 to 8 to 0x7200.01, or of the
block bits to 0x7200.02, enters one reset that waits for the handover of this request's reply: its reach is that of Table 19-1 (2 to 5 the
field, air, line and pocket die, 6 the conductor, 7 the conductor with field, air and line, 8 the whole chip, 1 no die), its cause the
command's transport, its requester the tenant. Nothing else changes before the request is answered. (Rests on: 19_reset.md: R517, R518,
Tables 19-1 and 19-2.) -/
def Obligations.ResetRequests : Prop :=
  (∀ (s : State) (t : Tenant) (j : Job) (p : Instr × Nat),
    p ∈ [(Instr.resetRequestTenant t, 1), (.resetRequestField t, 2), (.resetRequestAir t, 3), (.resetRequestLine t, 4),
      (.resetRequestPocket t, 5), (.resetRequestConductor t, 6), (.resetRequestWarm t, 7), (.resetRequestChip t, 8)] →
    s.Writes t j 0x7200 0x01 (u8 p.2) →
    ∃ u, Serves p.1 s u t j [] false ∧ Changes [.rst] [] s u ∧
      u.rst = { s.rst with
        nextId := s.rst.nextId + 1
        waiting := s.rst.waiting ++ [{
          id := s.rst.nextId
          reach := ⟨decide (6 ≤ p.2), decide (p.2 = 2 ∨ 7 ≤ p.2), decide (p.2 = 3 ∨ 7 ≤ p.2), decide (p.2 = 4 ∨ 7 ≤ p.2),
            decide (p.2 = 5 ∨ p.2 = 8), decide (p.2 = 8)⟩
          cause := (match j.req.transport with | .host => 6 | .mesh => 7 | .line => 8 | .pocket => 9)
          kind := p.2, requester := t.val, detail := 0, reply := some j.id }] }) ∧
  (∀ (s : State) (t : Tenant) (j : Job) (b : Nat), b < 16 → s.Writes t j 0x7200 0x02 (u8 b) →
    ∃ u, Serves (.blockResetBitsWrite t) s u t j [] false ∧ Changes [.rst] [] s u ∧ u.rst.nextId = s.rst.nextId + 1 ∧
      ∃ p : Pending, u.rst.waiting = s.rst.waiting ++ [p] ∧ p.reply = some j.id ∧ p.requester = t.val ∧
        p.reach = ⟨false, b.testBit 0, b.testBit 1, b.testBit 2, b.testBit 3, false⟩)

/-- Assertion, quiescing and release of resets. With one reset waiting whose reply is out: if it reaches satellite dies only and no commit
or seal write of theirs holds it up, it asserts with exactly their reach; if it is of the conductor alone, while the conductor runs and no
commit is in progress, the conductor begins to quiesce, with 2 s to do it in, and nothing else changes. With none waiting nothing changes.
A reset asserted for 100 us, with its sequencers, RESET_N and supply ready, is released: RESET_N is let go, the brown-out cause ends, and
nothing else changes. RESET_N low for at least 10 us, or a start that has not completed in its time outside a trial of the conductor's
image, asserts a CHIP reset, which waits where a page commit or a seal write is in progress; in that trial the image is reverted and the
conductor reset instead. When quiescing has come to its end, every step left is abandoned and the resets that wait are applied, the
conductor's now among them. (Rests on: 19_reset.md: R514, R515, R518, R519, R521, R525, R528; 15_keys_and_images.md: R441.) -/
def Obligations.ResetAssertionAndRelease : Prop :=
  (∀ (s : State) (p : Pending), s.rst.asserted = false → s.rst.quiet = false → s.rst.waiting = [p] → p.reply = none → p.kind ≠ 1 →
    p.reach.conductor = false → p.reach.chip = false → p.reach.empty = false → s.resetWaits p false = false →
    ∃ t, exec .resetApply s = .next t ∧ t.rst.asserted = true ∧ t.rst.reach = p.reach) ∧
  (∀ (s : State) (p : Pending), s.up = true → s.rst.quiescing = none → s.rst.waiting = [p] → p.reply = none → p.kind = 6 →
    p.reach = ⟨true, false, false, false, false, false⟩ → s.order = [] →
    ∃ u, Ends .resetApply s u ∧ Changes [.rst, .timers] [] s u ∧ u.dueAt .quiesce = some (s.now + 2000000) ∧
      u.rst = { s.rst with waiting := [], quiescing := some p, quiet := false }) ∧
  (∀ s : State, s.rst.waiting = [] → s.rst.quiet = false → Ends .resetApply s s) ∧
  (∀ (s : State) (n : Nat), s.rst.asserted = true → s.rst.since + 100 ≤ s.now → s.sequenced = true → s.pinFree n = true →
    s.supplyGood = true → s.timeoutWait = 0 → s.isArmed .startHold = false →
    ∃ u, Ends (.resetRelease n) s u ∧ Changes [.rst, .timers, .pins, .faults] [] s u ∧
      u.rst = { s.rst with asserted := false, drive := false, nLow := false, brown := false } ∧
      u.pins = { s.pins with resetLow := false } ∧ u.isArmed .stretch = false ∧ u.faults.causes = s.faults.causes.filter (fun c => c.1 != 144)) ∧
  (∀ (s : State) (low : Nat), 10 ≤ low → s.rst.drive = false → s.rd (ob 0x1060 0x06) ≠ 0 → s.power.powered = true →
    (let p : Pending := { id := s.rst.nextId, reach := Reach.all, cause := 2, kind := 8, requester := 0xFF, detail := 0, reply := none }
     (s.resetWaits p false = false → ∃ t, exec (.resetNLow low) s = .next t ∧ t.rst.asserted = true ∧ t.rst.reach = Reach.all) ∧
     (s.resetWaits p false = true → ∃ u, Ends (.resetNLow low) s u ∧ Changes [.rst] [] s u ∧
       u.rst = { s.rst with nLow := true, waiting := s.rst.waiting ++ [p], nextId := s.rst.nextId + 1 }))) ∧
  (∀ s : State, s.rst.conductor = .starting → s.isDue .startTimeout = true →
    (let p : Pending := { id := s.rst.nextId, reach := Reach.all, cause := 3, kind := 8, requester := 0xFF, detail := 0, reply := none }
     let w := (s.cancel .startTimeout).revertTrial
     if s.imageSession = 5 ∧ s.keys.trialFrom.map Prod.fst = some 1 then
       exec .startTimeout s = .next
         (({ w with rst := { w.rst with imageRestart := some 1 } } : State).assertOrWait ⟨true, false, false, false, false, false⟩ 5 1).settle
     else if s.resetWaits p false then
       ∃ u, Ends .startTimeout s u ∧ Changes [.rst, .timers] [ob 0x7210 0x0B] s u ∧ u.isArmed .startTimeout = false ∧
         u.rst = { s.rst with waiting := s.rst.waiting ++ [p], nextId := s.rst.nextId + 1 }
     else ∃ t, exec .startTimeout s = .next t ∧ t.rst.asserted = true ∧ t.rst.reach = Reach.all)) ∧
  (∀ s : State, s.rst.quiescing ≠ none → s.rst.quiet = false → (s.calm = true ∨ s.isDue .quiesce = true) →
    (let w := tenants.foldl (fun s t => s.abandonSteps t) (s.cancel .quiesce)
     exec .activateQuiesced s = .next (({ w with rst := { w.rst with quiet := true } } : State).applyResets false).settle))

/-- The dies are released in the order of the start. With no reset asserted, the pocket die is released first, then the conductor starts,
then the air, line and field dies are released, each once those before it are: a released die runs, its ALIVE is awaited for 10,000 us,
and it no longer waits for release; after a block reset the fault resets it served end and BLOCK_RESET_DONE (E1204) is raised to T0. The
air, line and field die then take up their start work, the air die with its front-end balls out of their reset state and after the image
that its restart brings up. Out of turn, a release changes nothing. (Rests on: 19_reset.md: R526 and R521; 20_die_links.md: R542, R544.) -/
def Obligations.DieReleases : Prop :=
  (∀ (s : State) (c : Instr) (d : Die), (c, d) ∈ [(Instr.airDieRelease, Die.air), (.lineDieRelease, .line), (.fieldDieRelease, .field)] →
    s.rst.asserted = false → s.rst.toRelease.conductor = false → s.rst.toRelease.pocket = false → s.rst.toRelease.has d = true →
    (d ≠ .air → s.rst.toRelease.air = false) → (d = .field → s.rst.toRelease.line = false) →
    ∃ u w x y : State, Changes [.links, .timers, .rst] [] s u ∧ u.links[d.link] = { s.links[d.link] with up := true } ∧
      u.dueAt (.alive d) = some (s.now + 10000) ∧ u.rst = { s.rst with toRelease := s.rst.toRelease.drop d } ∧
      w = (if s.rst.reach.conductor then u else (u.resetReleased (2 ^ d.link.val)).raise 1204 [0] []) ∧
      x = (w.restPins.imageLoaded 2).reloadDie .air ∧
      y = (if x.imageSession = 5 ∧ x.keys.trialFrom.map Prod.fst = some 2 then x.armIn .trialAir 100000 else x) ∧
      Ends c s (if d = .air then (if s.rst.imageRestart = some 2 then y.airStart else y) else w.reloadDie d)) ∧
  (∀ s : State, s.rst.asserted = false → s.rst.toRelease.pocket = true →
    ∃ u w : State, Changes [.links, .timers, .rst] [] s.pocketStart u ∧ u.links[Die.pocket.link] = { s.pocketStart.links[Die.pocket.link] with up := true } ∧
      u.dueAt (.alive .pocket) = some (s.pocketStart.now + 10000) ∧
      u.rst = { s.pocketStart.rst with toRelease := s.pocketStart.rst.toRelease.drop .pocket } ∧
      w = (if s.pocketStart.rst.reach.conductor then u else (u.resetReleased 8).raise 1204 [0] []) ∧ Ends .pocketDieRelease s w) ∧
  (∀ (s : State) (c : Instr), c ∈ [Instr.pocketDieRelease, .airDieRelease, .lineDieRelease, .fieldDieRelease] →
    s.rst.asserted = true → Ends c s s) ∧
  (∀ (s : State) (c : Instr), c ∈ [Instr.airDieRelease, .lineDieRelease, .fieldDieRelease] →
    (s.rst.toRelease.conductor = true ∨ s.rst.toRelease.pocket = true) → Ends c s s)

/-- The conductor's start and its completion. With no reset asserted and the pocket die released, a conductor held in reset that waits for
its release starts, and does the start work. The start is complete once every die is released, no deletion is under way and the inbox is
applied: the conductor runs, nothing waits for release, RESET_SEEN is set, the start is counted and entered for the NVA, consecutive
timeouts count from 0 again, and CONDUCTOR_STARTED with the cause is queued to every tenant before the events held meanwhile and the
faults latched; then the block is Running. Before that, START_UP_COMPLETE changes nothing. (Rests on: 19_reset.md: R526, R527;
17_event_map.md: R484; 18_faults.md: R509.) -/
def Obligations.ConductorStartAndCompletion : Prop :=
  (∀ (s : State) (l : Bool), s.rst.asserted = false → s.rst.conductor = .held → s.rst.toRelease.pocket = false →
    s.rst.toRelease.conductor = true →
    ∃ u : State, exec (.conductorStart l) s = .next (u.startWork l).settle ∧ Changes [.rst] [] s u ∧
      u.rst = { s.rst with conductor := .starting, toRelease := { s.rst.toRelease with conductor := false } }) ∧
  (∀ s : State, s.rst.asserted = false → s.rst.conductor = .starting →
    (s.rst.toRelease = Reach.none ∨ s.rst.toRelease = ⟨false, false, false, false, false, true⟩) →
    (∀ t : Tenant, s.tenantState t ≠ 3) → s.pocket.inbox = false → s.rd (ob 0x7210 0x0A) + 1 < 2 ^ 32 →
    ∃ u w : State, Changes [.timers, .rst, .host, .order] [ob 0x7210 0x0A, ob 0x7210 0x0B] s u ∧
      u.rst = { s.rst with conductor := .running, toRelease := Reach.none } ∧ u.host = { s.host with resetSeen := true } ∧
      u.isArmed .startTimeout = false ∧ u.rd (ob 0x7210 0x0A) = s.rd (ob 0x7210 0x0A) + 1 ∧ u.rd (ob 0x7210 0x0B) = 0 ∧
      (Commit.own [(ob 0x7210 0x0A, s.rd (ob 0x7210 0x0A) + 1)]) ∈ u.order ∧
      w = ((((u.raise 1203 tenants (u8 (s.rd (ob 0x7210 0x01)))).releaseHeld).formLatched).setRun 1).openGate ∧
      exec .startUpComplete s =
        .next ((if w.time.restart && !w.isArmed .osc27 then w.armIn .osc27 500 else w).joinNow.drainLine).settle) ∧
  (∀ s : State, s.rst.conductor ≠ .starting → Ends .startUpComplete s s)

/-- A link message header and its fields agree. Every link header whose fields fit their widths (kind 2 bits, die 3, epochs 8 each, tag 4,
length 7) is read back from its word, and the word fits 32 bits; and every 32-bit word is the word of the fields read from it. (Rests on:
20_die_links.md: Table 20-1.) -/
def Obligations.LinkHeaderRoundTrip : Prop :=
  (∀ h : LinkHead, h.kind < 4 → h.die < 8 → h.toEp < 256 → h.fromEp < 256 → h.tag < 16 → h.length < 128 →
    h.word < 2 ^ 32 ∧ parseHead h.word = h) ∧
  (∀ w : Nat, w < 2 ^ 32 → (parseHead w).word = w)

/-- Requests, replies, rejects and notifies on a die link. On a link that carries requests, a request of the right form with a free tag
takes that tag, and with a tag in use it waits. A current reply of a tag in use frees it; with requests waiting, the first takes its
place. A reject of a tag in use frees it and is counted. A stale reply or notify (either epoch wrong) is counted, its header kept, and
nothing else happens; a current notify of the right form changes nothing here. What is malformed, or answers no request, breaks a link
that is STARTING or READY. (Rests on: 20_die_links.md: R536, R537, R539, R547.) -/
def Obligations.LinkMessages : Prop :=
  (∀ (s : State) (d : Die) (w : Nat) (b : Octets), s.rst.conductor ≠ .held → s.linkState d = 2 → (parseHead w).kind = 0 →
    (parseHead w).die = d.code → 4 * (parseHead w).length = b.length →
    ∃ u, Ends (.linkRequest d w b) s u ∧ Changes [.links] [] s u ∧
      u.links[d.link] = (if s.links[d.link].tags.contains (parseHead w).tag then { s.links[d.link] with waiting := s.links[d.link].waiting ++ [w] }
        else { s.links[d.link] with tags := s.links[d.link].tags ++ [(parseHead w).tag] })) ∧
  (∀ (s : State) (d : Die) (w : Nat) (b : Octets), s.rst.conductor ≠ .held → (parseHead w).kind = 1 →
    (parseHead w).toEp = s.rd (ob 0x7500 0x01) → (parseHead w).fromEp = s.rd (ob d.index 0x02) →
    (parseHead w).die = d.code → 4 * (parseHead w).length = b.length → (parseHead w).tag ∈ s.links[d.link].tags →
    ∃ u, Ends (.linkReply d w b) s u ∧ Changes [.links] [] s u ∧
      u.links[d.link].tags = s.links[d.link].tags.filter (fun x => x != (parseHead w).tag) ++
        (if s.links[d.link].waiting.isEmpty then [] else [(parseHead w).tag]) ∧
      u.links[d.link].waiting = s.links[d.link].waiting.tail) ∧
  (∀ (s : State) (d : Die) (w : Nat), s.rst.conductor ≠ .held → (parseHead w).kind = 3 →
    (parseHead w).toEp = s.rd (ob 0x7500 0x01) → (parseHead w).die = d.code → (parseHead w).length = 0 →
    (parseHead w).tag ∈ s.links[d.link].tags → s.rd (ob d.index 0x07) + 1 < 2 ^ 32 →
    ∃ u, Ends (.linkReject d w) s u ∧ Changes [.links] [ob d.index 0x07] s u ∧ u.rd (ob d.index 0x07) = s.rd (ob d.index 0x07) + 1 ∧
      u.links[d.link].tags = s.links[d.link].tags.filter (fun x => x != (parseHead w).tag) ++
        (if s.links[d.link].waiting.isEmpty then [] else [(parseHead w).tag])) ∧
  (∀ (s : State) (d : Die) (w : Nat) (b : Octets) (c : Instr), s.rst.conductor ≠ .held →
    ((c = .linkReply d w b ∧ (parseHead w).kind = 1) ∨ (c = .linkNotify d w b ∧ (parseHead w).kind = 2)) →
    ((parseHead w).toEp ≠ s.rd (ob 0x7500 0x01) ∨ (parseHead w).fromEp ≠ s.rd (ob d.index 0x02)) →
    ∃ u, Ends c s u ∧ Changes [] [ob d.index 0x06, ob d.index 0x0C] s u ∧ u.rd (ob d.index 0x0C) = w % 2 ^ 32 ∧
      (s.rd (ob d.index 0x06) + 1 < 2 ^ 32 → u.rd (ob d.index 0x06) = s.rd (ob d.index 0x06) + 1)) ∧
  (∀ (s : State) (d : Die) (w : Nat) (b : Octets), s.rst.conductor ≠ .held → (parseHead w).kind = 2 →
    (parseHead w).toEp = s.rd (ob 0x7500 0x01) → (parseHead w).fromEp = s.rd (ob d.index 0x02) →
    (parseHead w).die = d.code → 4 * (parseHead w).length = b.length → Ends (.linkNotify d w b) s s) ∧
  (∀ (s : State) (d : Die) (w : Nat) (b : Octets), s.rst.conductor ≠ .held → (parseHead w).kind = 1 →
    (parseHead w).toEp = s.rd (ob 0x7500 0x01) → (parseHead w).fromEp = s.rd (ob d.index 0x02) →
    ¬((parseHead w).die = d.code ∧ 4 * (parseHead w).length = b.length ∧ (parseHead w).tag ∈ s.links[d.link].tags) →
    (s.linkState d = 1 ∨ s.linkState d = 2) → Ends (.linkReply d w b) s (s.linkFailed d))

/-- ALIVE, readiness, failure and recovery of a die link. An expected ALIVE of a running die takes its link to STARTING and begins the
reload, unless one is under way; ALIVE of a READY link with the expected epoch changes nothing. The start work done takes the link from
STARTING to READY with its instant, and EPOCH_READY is raised to every tenant. A missed ALIVE, or a word that does not come on a link that
is STARTING or READY, makes the link FAILED with its epoch one on and no tag outstanding, before the failure is reported. A FAILED link is
resynchronised at its interval, which is counted. A running satellite that takes a RESYNC adopts its epoch. (Rests on: 20_die_links.md:
R541 to R544, R547, R548.) -/
def Obligations.LinkStates : Prop :=
  (∀ (s : State) (d : Die), s.rst.conductor ≠ .held → s.links[d.link].up = true → s.linkState d ≠ 2 →
    ∃ u : State, Changes [.timers, .faults] [ob d.index 0x01] s u ∧ u.rd (ob d.index 0x01) = 1 ∧ u.isArmed (.alive d) = false ∧
      u.isArmed (.resync d) = false ∧
      Ends (.alive d (s.rd (ob d.index 0x02))) s (if s.links[d.link].reload then u else u.reloadDie d)) ∧
  (∀ (s : State) (d : Die), s.linkState d = 2 → Ends (.alive d (s.rd (ob d.index 0x02))) s s) ∧
  (∀ (s : State) (d : Die), s.linkState d = 1 → s.links[d.link].reload = true → s.startWorkDone d = true → s.rst.conductor ≠ .held →
    ∃ u : State, Changes [.links, .faults] [ob d.index 0x01, ob d.index 0x03] s u ∧ u.rd (ob d.index 0x01) = 2 ∧
      u.rd (ob d.index 0x03) = s.now ∧ u.links[d.link] = { s.links[d.link] with reload := false } ∧
      exec (.linkStartWorkDone d) s =
        .next ((u.raise (1231 + d.code) tenants (u8 d.code ++ u8 (s.rd (ob d.index 0x02)))).linkUp d).settle) ∧
  (∀ (s : State) (d : Die) (c : Instr), s.rst.conductor ≠ .held →
    ((c = .aliveTimeout d ∧ s.isDue (.alive d) = true) ∨ (c = .linkWordTimeout d ∧ (s.linkState d = 1 ∨ s.linkState d = 2))) →
    ∃ u : State, exec c s = .next (u.linkReport d).settle ∧
      Changes [.timers, .links, .time, .free] [ob d.index 0x01, ob d.index 0x02, ob d.index 0x05, ob d.index 0x0A, ob d.index 0x0B] s u ∧
      u.rd (ob d.index 0x01) = 3 ∧ u.rd (ob d.index 0x02) = nextEpoch (s.rd (ob d.index 0x02)) ∧
      u.links[d.link].tags = [] ∧ u.links[d.link].waiting = [] ∧ u.isArmed (.alive d) = false) ∧
  (∀ (s : State) (d : Die), s.linkState d = 3 → s.isDue (.resync d) = true → s.rd (ob d.index 0x09) + 1 < 2 ^ 32 →
    ∃ u, Ends (.resyncInterval d) s u ∧ Changes [.timers] [ob d.index 0x09] s u ∧
      u.rd (ob d.index 0x09) = s.rd (ob d.index 0x09) + 1 ∧ u.dueAt (.resync d) = some (s.now + s.rd (ob 0x7500 0x03))) ∧
  (∀ (s : State) (d : Die) (e : Nat), s.links[d.link].up = true →
    ∃ u : State, Changes [.links] [] s u ∧ u.links[d.link] = { s.links[d.link] with epoch := e % 256 } ∧
      Ends (.resync d e) s (match d with
        | .field => u.fieldAbandon
        | .air => u.airAbandon
        | .line => u.lineAbandon
        | .pocket => u.bridgeRetired))

/-- Triggers, starts, stops, deadlines and waits of a score. A delivered trigger, or a start command, runs an IDLE score from step 1 and
counts an overrun on one that runs or stops; a trigger is used up by it. A stop command makes a RUNNING score STOPPING. A step record
written whole is stored, and a HALTED score is at rest again, IDLE or DISABLED. The deadline of a due step that no voice holds ends it
with DEADLINE, which carries no frame status. A WAIT that is over closes its step, and the run goes on when its group is over. (Rests on:
06_inventory_and_detection.md: R153, R154, R158, R162.) -/
def Obligations.ScoresRunAndStop : Prop :=
  (∀ (s : State) (i : ScoreId), 0 < s.scores[i].triggers → s.scoreState i = 0 →
    ∃ u : State, Ends (.scoreTrigger i) s (u.advance i 256) ∧ Changes [.scores] [ob (0xA000 + i.val) 0x02] s u ∧
      u.scoreState i = 1 ∧ u.scores[i] = { triggers := s.scores[i].triggers - 1, open_ := [], next := 1, failed := none, ending := false }) ∧
  (∀ (s : State) (i : ScoreId), 0 < s.scores[i].triggers → (s.scoreState i = 1 ∨ s.scoreState i = 2) →
    s.rd (ob (0xA000 + i.val) 0x09) + 1 < 2 ^ 32 →
    ∃ u, Ends (.scoreTrigger i) s u ∧ Changes [.scores] [ob (0xA000 + i.val) 0x09] s u ∧
      u.rd (ob (0xA000 + i.val) 0x09) = s.rd (ob (0xA000 + i.val) 0x09) + 1 ∧
      u.scores[i] = { s.scores[i] with triggers := s.scores[i].triggers - 1 }) ∧
  (∀ (s : State) (t : Tenant) (j : Job) (i : ScoreId), s.Writes t j (0xA000 + i.val) 0x05 [1] → s.scoreState i = 0 →
    ∃ u : State, Serves (.scoreStartCommand t) s (u.advance i 256) t j [] false ∧ Changes [.scores] [ob (0xA000 + i.val) 0x02] s u ∧
      u.scoreState i = 1 ∧ u.scores[i] = { triggers := s.scores[i].triggers, open_ := [], next := 1, failed := none, ending := false }) ∧
  (∀ (s : State) (t : Tenant) (j : Job) (i : ScoreId), s.Writes t j (0xA000 + i.val) 0x05 [1] →
    (s.scoreState i = 1 ∨ s.scoreState i = 2) → s.rd (ob (0xA000 + i.val) 0x09) + 1 < 2 ^ 32 →
    ∃ u, Serves (.scoreStartCommand t) s u t j [] false ∧ Changes [] [ob (0xA000 + i.val) 0x09] s u ∧
      u.rd (ob (0xA000 + i.val) 0x09) = s.rd (ob (0xA000 + i.val) 0x09) + 1) ∧
  (∀ (s : State) (t : Tenant) (j : Job) (i : ScoreId), s.Writes t j (0xA000 + i.val) 0x05 [2] →
    ∃ u : State, Serves (.scoreStopCommand t) s (if s.scoreState i = 1 then u.advance i 1 else s) t j [] false ∧
      Changes [] [ob (0xA000 + i.val) 0x02] s u ∧ u.scoreState i = 2) ∧
  (∀ (s : State) (t : Tenant) (j : Job) (i : ScoreId) (k off : Nat) (v : Octets), 1 ≤ k → k ≤ 128 →
    s.WritesAt t j (0xA100 + i.val) k off v →
    let x := leNat (splice off v (s.valueBytes t (0xA100 + i.val) k))
    ∃ u : State, Serves (.stepRecordWrite t) s u t j
        (if s.needsCommit (ob (0xA100 + i.val) k) x then [(ob (0xA100 + i.val) k, x)] else []) false ∧
      Changes [.scores] [ob (0xA100 + i.val) k, ob (0xA000 + i.val) 0x02, ob (0xA000 + i.val) 0x06] s u ∧
      u.rd (ob (0xA100 + i.val) k) = x ∧
      u.scoreState i = (if s.scoreState i = 3 then (if s.rd (ob (0xA000 + i.val) 0x0A) = 0 then 4 else 0) else s.scoreState i)) ∧
  (∀ (s : State) (i : ScoreId) (k : Nat) (d : DueStep), s.isDue (.deadline i k) = true →
    s.dues.find? (fun d => d.score == i.val && d.step == k && d.tuning.isNone) = some d →
    Ends (.stepDeadlineExpired i k) s ((s.cancel (.deadline i k)).endDue d ⟨0x16, 0xFF, 0, cutData d none⟩)) ∧
  (∀ (s : State) (i : ScoreId) (k : Nat), s.isDue (.wait i k) = true → s.scores[i].open_.contains k = true →
    ∃ u : State, Ends (.waitStepElapsed i k) s (u.advance i 256) ∧ Changes [.scores, .timers] [] s u ∧
      u.scores[i] = { s.scores[i] with open_ := s.scores[i].open_.filter (· != k) } ∧ u.isArmed (.wait i k) = false)

/-- A voice is granted a step and selects its channel. A free voice, while grants are made, takes the step that the order of R157 chooses,
if the checks of its dispatch still hold: the step is due no longer, its tenant is the one last served, and the voice's grant or, during a
down-ramp, its deferred grant is that step. If the checks fail the step ends with their outcome. The due steps of a HALTED or DISABLED
voice end with VOICE_FAULT or VOICE_DISABLED. The matrix having selected the channel, the codes that waited for it are in force, it is the
voice's selected channel with its bank loaded, and the carrier goes up or waits for VFLD. After the floor dwell the deferred grant is
taken up: the voice holds its channel for its tenant, or for a grant that emits nothing holds none and begins the tuning's first run.
(Rests on: 03_voices_and_antennas.md: R54, R62, R68, R71, R75, R76; 06_inventory_and_detection.md: R157.) -/
def Obligations.VoiceGrantAndSelection : Prop :=
  (∀ (s w : State) (v : VoiceId) (d : DueStep),
    (let s0 := if s.up && s.linkReady .field then s.loadLimits else s
     s0.voiceState v ≠ 7 ∧ s0.voiceState v ≠ 8 ∧ s0.granting = true ∧ s0.voiceFree v = true ∧
      s0.choose v ((s0.dueOrder v).filter (fun d => !s0.tuningBlocked d)) = (some d, w) ∧ w.dispatchEnd d = none ∧ d.tuning = none) →
    ∃ t : State, exec (.voiceGrant v) s = .next t ∧ (∀ x ∈ t.dues, x.same d = false) ∧ t.voices[v].lastTenant = d.tenant ∧
      ((∃ g, t.voices[v].grant = some g ∧ g.step = d) ∨ (∃ g, t.voices[v].deferred = some g ∧ g.step = d))) ∧
  (∀ (s w : State) (v : VoiceId) (d : DueStep) (e : End),
    (let s0 := if s.up && s.linkReady .field then s.loadLimits else s
     s0.voiceState v ≠ 7 ∧ s0.voiceState v ≠ 8 ∧ s0.granting = true ∧ s0.voiceFree v = true ∧
      s0.choose v ((s0.dueOrder v).filter (fun d => !s0.tuningBlocked d)) = (some d, w) ∧ w.dispatchEnd d = some e) →
    Ends (.voiceGrant v) s (w.endDue d e)) ∧
  (∀ (s : State) (v : VoiceId), s.linkReady .field = false → (s.voiceState v = 7 ∨ s.voiceState v = 8) →
    Ends (.voiceGrant v) s (s.cutDues (fun d => voiceOf d.channel == v) (if s.voiceState v = 7 then 0x12 else 0x11))) ∧
  (∀ (s : State) (v : VoiceId) (g : Grant), s.voices[v].grant = some g → s.voices[v].selecting = true →
    ∃ u w : State, Changes [.timers, .voices] [] s u ∧
      u.voices[v] = { s.voices[v] with selecting := false } ∧ (∀ x : VoiceId, x ≠ v → u.voices[x] = s.voices[x]) ∧
      u.isArmed (.select v) = false ∧
      w = (u.applyReady (fun r => (r.kind == 1 || (r.kind == 3 && r.form != .step)) && r.target == g.step.channel)).select v
        g.step.channel g.damping ∧
      w.rd (ob (0x2000 + v.val) 0x02) = g.step.channel ∧ Ends (.channelSelected v) s (w.pauseDetection.raiseCarrier v)) ∧
  (∀ (s : State) (v : VoiceId), (s.voices[v].grant = none ∨ s.voices[v].selecting = false) → Ends (.channelSelected v) s s) ∧
  (∀ (s : State) (v : VoiceId) (g : Grant), s.voices[v].deferred = some g → s.voiceState v = 6 → s.isDue (.dwell v) = true →
    g.step.emits = false →
    ∃ u : State, Ends (.floorDwellElapsed v) s (u.quietRun v) ∧ u.voices[v].grant = some g ∧ u.voices[v].deferred = none ∧
      u.voices[v].held = none ∧ u.voices[v].owner = some g.step.tenant ∧ u.voiceState v = 0 ∧
      u.rd (ob (0x2000 + v.val) 0x02) = 0xFF ∧ u.isArmed (.dwell v) = false) ∧
  (∀ (s : State) (v : VoiceId) (g : Grant), s.voices[v].deferred = some g → s.voiceState v = 6 → s.isDue (.dwell v) = true →
    g.step.emits = true →
    ∃ t : State, exec (.floorDwellElapsed v) s = .next t ∧ t.voices[v].grant = some g ∧ t.voices[v].deferred = none ∧
      t.voices[v].held = some g.step.channel ∧ t.voices[v].owner = some g.step.tenant ∧ t.isArmed (.dwell v) = false)

/-- Ramps, settling and the way back to the floor. An up-ramp or a slew that is over leads to SETTLE for the grant's settling time.
Settling over, the voice is AT_LEVEL with its power measured and AT_LEVEL is raised to the step's tenant; a tuning then makes its first
run, a step begins. A down-ramp that is over adds the emission's time to voice and channel and its energy to the VFLD total and its
tenant, raises AT_FLOOR, marks the tuning whose runs are over APPLYING, and without a deferred grant leaves the voice at FLOOR (or
DISABLED, where it is switched off) with no channel selected and no power; with one, in FLOOR_DWELL for the minimum dwell. (Rests on:
03_voices_and_antennas.md: R69 to R71, R76; 21_power_and_rest.md: R565, R566.) -/
def Obligations.VoiceRamps : Prop :=
  (∀ (s : State) (v : VoiceId) (g : Grant), s.voices[v].grant = some g → s.voiceState v = 2 → s.isDue (.rampUp v) = true →
    ∃ u : State, Ends (.rampUpDone v) s u.boostFollow ∧ Changes [.timers] [ob (0x2000 + v.val) 0x01] s u ∧ u.voiceState v = 3 ∧
      u.dueAt (.settle v) = some (s.now + g.settle) ∧ u.isArmed (.rampUp v) = false) ∧
  (∀ (s : State) (v : VoiceId) (g : Grant), s.voices[v].grant = some g → s.voiceState v = 2 → s.isDue (.slew v) = true →
    ∃ u : State, Ends (.slewDone v) s u.boostFollow ∧ Changes [.timers, .voices] [ob (0x2000 + v.val) 0x01] s u ∧ u.voiceState v = 3 ∧
      u.voices[v] = { s.voices[v] with drive := g.drive } ∧ u.dueAt (.settle v) = some (s.now + g.settle) ∧ u.isArmed (.slew v) = false) ∧
  (∀ (s : State) (v : VoiceId) (g : Grant) (mw : Nat), s.voices[v].grant = some g → s.voiceState v = 3 → s.isDue (.settle v) = true →
    mw < 65536 →
    ∃ u w : State, Changes [.timers] [ob (0x2000 + v.val) 0x01, ob (0x2000 + v.val) 0x06] s u ∧ u.voiceState v = 4 ∧
      u.rd (ob (0x2000 + v.val) 0x06) = mw ∧ u.isArmed (.settle v) = false ∧
      w = u.raise (768 + 12 * v.val) [g.step.tenant] (u8 g.step.channel ++ u16 (milliwatts g.drive)) ∧
      Ends (.settleElapsed v mw) s (match w.tuningOn v with
        | some x => w.firstRun x
        | none => (match w.begin v g with | (b, some e) => b.endStep v e | (b, none) => b))) ∧
  (∀ (s : State) (v : VoiceId) (energy : Nat) (ch : Channel) (o : Tenant) (a : Nat), s.voiceState v = 5 → s.isDue (.rampDown v) = true →
    s.voices[v].held = some ch.val → s.voices[v].owner = some o → s.voices[v].emitAt = some a →
    s.rd (ob (0x2000 + v.val) 0x0D) + (s.now - a) < 2 ^ 64 → s.rd (ob (0x2100 + ch.val) 0x0B) + (s.now - a) < 2 ^ 64 →
    s.rd (ob 0x1070 0x03) + energy < 2 ^ 64 → s.rd (obT 0x1071 0x01 o) + energy < 2 ^ 64 →
    ∃ u w : State, Changes [.timers, .voices] [ob (0x2000 + v.val) 0x0D, ob (0x2100 + ch.val) 0x0B, ob (0x2100 + ch.val) 0x0C, ob 0x1070 0x03,
        obT 0x1071 0x01 o] s u ∧
      u.rd (ob (0x2000 + v.val) 0x0D) = s.rd (ob (0x2000 + v.val) 0x0D) + (s.now - a) ∧
      u.rd (ob (0x2100 + ch.val) 0x0B) = s.rd (ob (0x2100 + ch.val) 0x0B) + (s.now - a) ∧
      u.rd (ob (0x2100 + ch.val) 0x0C) = s.now ∧ u.rd (ob 0x1070 0x03) = s.rd (ob 0x1070 0x03) + energy ∧
      u.rd (obT 0x1071 0x01 o) = s.rd (obT 0x1071 0x01 o) + energy ∧
      w = (u.raise (769 + 12 * v.val) [o] (u8 ch.val ++ u16 (milliwatts s.voices[v].drive))).applying v ∧
      (s.voices[v].deferred = none → ∃ t : State, exec (.rampDownDone v energy) s = .next t ∧ t = (w.reachFloor v).doze.settle ∧
        t.voiceState v = (if s.rd (ob (0x2000 + v.val) 0x03) = 0 then 8 else 0) ∧ t.rd (ob (0x2000 + v.val) 0x02) = 0xFF ∧
        t.rd (ob (0x2000 + v.val) 0x06) = 0 ∧ t.voices[v].grant = none ∧ t.voices[v].held = none) ∧
      (∀ g, s.voices[v].deferred = some g → ∃ t : State, exec (.rampDownDone v energy) s = .next t ∧ t.voiceState v = 6 ∧
        t.dueAt (.dwell v) = some (w.now + s.rd (ob (0x2000 + v.val) 0x05)) ∧ t.rd (ob (0x2000 + v.val) 0x07) = g.vreq))

/-- The boost becomes ready, is held off, stops and fails. VFLD within 3 % of the setpoint makes a STARTING or SLEWING boost READY and
raises VFLD_READY; the voices that wait then go on. The hold-off over with every voice quiet takes VFLD_EN low, closes the discharge
switch and makes the boost STOPPING for at most 3,000 us; below 3.0 V, or after that, it is OFF and VFLD_OFF is raised. A start or a slew
that takes too long, VFLD more than 600 mV above the maximum, or below 4.0 V while a voice emits makes it FAILED with its cause, counted,
VFLD_EN low and the switch open; the fault is raised, its cause staying only while VFLD is too high, VFLD_FAILED is raised, and every
voice loses its step. (Rests on: 03_voices_and_antennas.md: R63, R64, R66, Tables 3-2 and 3-7.) -/
def Obligations.BoostSequence : Prop :=
  (∀ (s : State) (mv : Nat), (s.boost = 1 ∨ s.boost = 3) →
    97 * s.rd (ob 0x2010 0x02) ≤ 100 * mv → 100 * mv ≤ 103 * s.rd (ob 0x2010 0x02) →
    ∃ u : State, Changes [.timers] [ob 0x2010 0x01, ob 0x2010 0x03] s u ∧ u.boost = 2 ∧ u.rd (ob 0x2010 0x03) = mv ∧
      u.isArmed .boostStart = false ∧ u.isArmed .boostSlew = false ∧
      Ends (.boostReady mv) s ((u.raise 816 [0] []).liftWaiting).boostFollow) ∧
  (∀ s : State, s.isDue .boostHold = true → (∀ v : VoiceId, s.voiceState v = 0 ∨ s.voiceState v = 8) →
    (s.boost = 1 ∨ s.boost = 2 ∨ s.boost = 3) →
    ∃ u : State, Ends .boostHoldOffExpired s u ∧ Changes [.timers, .pins] [ob 0x2010 0x01] s u ∧ u.boost = 4 ∧
      u.pins = { s.pins with vfldEn := false, discharge := true } ∧ u.dueAt .boostStop = some (s.now + 3000) ∧
      u.isArmed .boostHold = false) ∧
  (∀ (s : State) (mv : Nat), s.boost = 4 → (mv < 3000 ∨ s.isDue .boostStop = true) →
    ∃ u : State, Ends (.boostStopDone mv) s (u.raise 817 [0] []).boostFollow ∧
      Changes [.timers, .pins] [ob 0x2010 0x01, ob 0x2010 0x03] s u ∧ u.boost = 0 ∧ u.rd (ob 0x2010 0x03) = mv ∧
      u.pins = { s.pins with discharge := false } ∧ u.isArmed .boostStop = false) ∧
  (∀ (s : State) (c : Instr) (cause mv : Nat),
    ((c = .boostStartTimeout ∧ s.isDue .boostStart = true ∧ s.boost = 1 ∧ cause = 1 ∧ mv = s.rd (ob 0x2010 0x03)) ∨
     (c = .boostSlewTimeout ∧ s.isDue .boostSlew = true ∧ s.boost = 3 ∧ cause = 2 ∧ mv = s.rd (ob 0x2010 0x03)) ∨
     (c = .vfldOvervoltage mv ∧ s.rd (ob 0x2010 0x05) + 600 < mv ∧ s.boost ≠ 5 ∧ cause = 3) ∨
     (c = .vfldUndervoltage mv ∧ mv < 4000 ∧ (∃ v : VoiceId, s.emitting v = true) ∧ s.boost ≠ 5 ∧ cause = 4)) →
    ∃ u w : State, Changes [.timers, .pins] [ob 0x2010 0x01, ob 0x2010 0x03, ob 0x2010 0x0A, ob 0x2010 0x08] s u ∧ u.boost = 5 ∧
      u.rd (ob 0x2010 0x03) = mv ∧ u.rd (ob 0x2010 0x0A) = cause ∧
      (s.rd (ob 0x2010 0x08) + 1 < 2 ^ 16 → u.rd (ob 0x2010 0x08) = s.rd (ob 0x2010 0x08) + 1) ∧
      u.pins = { s.pins with vfldEn := false, discharge := false } ∧
      w = (u.fault 20 cause).raise 818 [0] [] ∧
      Ends c s (voiceIds.foldl (fun s v => s.dropVoice v 0x13) (if cause = 3 then w else w.causeEnd 20)))

/-- Overcurrent, the voice switch and the coupling map. An overcurrent on an emitting voice is counted and ends in HALTED at the floor,
and every step due on its channels ends with VOICE_FAULT. Switching a DISABLED voice on makes it FLOOR and tells T0; switching one off
that emits lets its step finish first; one that has been granted a step and does not emit yet ends it VOICE_DISABLED; switching one off at
FLOOR with nothing granted or due makes it DISABLED. An accepted write of a coupling entry stores it and raises COUPLING_MAP_CHANGED. The
request is then answered, or waits for its commit. (Rests on: 03_voices_and_antennas.md: R67, R75, R76, R82.) -/
def Obligations.VoiceProtectionAndSwitches : Prop :=
  (∀ (s : State) (v : VoiceId) (energy : Nat), s.emitting v = true →
    ∃ x : State, x.rd (ob (0x2000 + v.val) 0x0C) = satInc (2 ^ Dict.bits (ob (0x2000 + v.val) 0x0C) - 1) (s.rd (ob (0x2000 + v.val) 0x0C)) ∧
      x.isArmed (.rampUp v) = false ∧ x.isArmed (.settle v) = false ∧ x.isArmed (.slew v) = false ∧ x.isArmed (.rampDown v) = false ∧
      Ends (.voiceOvercurrent v energy) s
        ((((x.reachFloor v).wr (ob (0x2000 + v.val) 0x01) 7).cutDues (fun d => voiceOf d.channel == v) 0x12).boostIdle)) ∧
  (∀ (s : State) (t : Tenant) (j : Job) (v : VoiceId), s.Writes t j (0x2000 + v.val) 0x03 [1] → s.voiceState v = 8 →
    ∃ u : State, Serves (.voiceEnableWrite t) s u t j
        (if s.needsCommit (ob (0x2000 + v.val) 0x03) 1 then [(ob (0x2000 + v.val) 0x03, 1)] else []) false ∧
      u.rd (ob (0x2000 + v.val) 0x03) = 1 ∧ u.voiceState v = 0 ∧ u.voices[v] = { s.voices[v] with disable := false } ∧
      u.dues = s.dues ∧ u.timers = s.timers ∧ u.pins = s.pins ∧ (∀ w : VoiceId, w ≠ v → u.voices[w] = s.voices[w])) ∧
  (∀ (s : State) (t : Tenant) (j : Job) (v : VoiceId), s.Writes t j (0x2000 + v.val) 0x03 [0] → s.emitting v = false →
    s.voiceState v ≠ 7 → s.voiceState v ≠ 8 → (∀ g ∈ s.voices[v].grant.toList ++ s.voices[v].deferred.toList, g.step.tuning = none) →
    ∃ u w : State, Serves (.voiceEnableWrite t) s ((w.cutStep v 0x11).reachFloor v) t j
        (if s.needsCommit (ob (0x2000 + v.val) 0x03) 0 then [(ob (0x2000 + v.val) 0x03, 0)] else []) false ∧
      w = u.cutDues (fun d => voiceOf d.channel == v) 0x11 ∧ u.rd (ob (0x2000 + v.val) 0x03) = 0 ∧ u.voices = s.voices ∧
      u.dues = s.dues) ∧
  (∀ (s : State) (t : Tenant) (j : Job) (v : VoiceId), s.Writes t j (0x2000 + v.val) 0x03 [0] → s.emitting v = true →
    s.voices[v].deferred = none → (∀ d ∈ s.dues, voiceOf d.channel ≠ v) →
    ∃ u : State, Serves (.voiceEnableWrite t) s u t j
        (if s.needsCommit (ob (0x2000 + v.val) 0x03) 0 then [(ob (0x2000 + v.val) 0x03, 0)] else []) false ∧
      u.rd (ob (0x2000 + v.val) 0x03) = 0 ∧ u.voiceState v = s.voiceState v ∧ u.voices[v] = { s.voices[v] with disable := true } ∧
      u.dues = s.dues ∧ u.timers = s.timers ∧ u.pins = s.pins ∧ (∀ w : VoiceId, w ≠ v → u.voices[w] = s.voices[w])) ∧
  (∀ (s : State) (t : Tenant) (j : Job) (v : VoiceId), s.Writes t j (0x2000 + v.val) 0x03 [0] → s.voiceState v = 0 →
    s.voices[v].grant = none → s.voices[v].deferred = none → (∀ d ∈ s.dues, voiceOf d.channel ≠ v) →
    ∃ u : State, Serves (.voiceEnableWrite t) s u t j
        (if s.needsCommit (ob (0x2000 + v.val) 0x03) 0 then [(ob (0x2000 + v.val) 0x03, 0)] else []) false ∧
      u.rd (ob (0x2000 + v.val) 0x03) = 0 ∧ u.voiceState v = 8) ∧
  (∀ (s : State) (t : Tenant) (j : Job) (ch : Channel) (x : Nat), x < 2 ^ 64 → s.Writes t j 0x2020 (ch.val + 1) (u64 x) →
    ∃ w : State, Changes [] [ob 0x2020 (ch.val + 1)] s w ∧ w.rd (ob 0x2020 (ch.val + 1)) = x ∧
      Serves (.couplingMapWrite t) s (w.raise 819 [0] []) t j
        (if s.needsCommit (ob 0x2020 (ch.val + 1)) x then [(ob 0x2020 (ch.val + 1), x)] else []) false)

/-- Request frames, their end and the separate EOF. The frame in a voice's buffer begins only at level, with the link ready and the
minimum gap past: it is sent for its duration, modulated as its protocol asks, counted in 0x248n.01, and every window then open on another
voice is marked as disturbed; a frame that advances a slot begins at the gap's end itself; before the gap nothing changes. At its end the
step of an abandoned grant gives its voice back; a frame with a separate EOF waits for it; one that expects a reply sets out its response
window from the frame's reference, and the end of an S(WTX) response sets the instant at which what is left of its budget runs out; one
that expects none hands its turn to the sequencer with the gap of its kind. The EOF is itself sent for 37.76 us after its wait. (Rests on:
05_tag_air_protocols.md: R108, R110, R112, R114, Tables 5-4 and 5-5; 04_listening.md: R99; 01_the_machine.md: R27.) -/
def Obligations.RequestFrames : Prop :=
  (∀ (s : State) (v : VoiceId) (g : Grant) (x : Exchange), s.voices[v].grant = some g → s.voices[v].exchange = some x →
    s.voiceState v = 4 → x.air = .ready → x.gap < 100 * (s.now + 1) → s.linkReady .field = true →
    s.rd (ob (0x2480 + v.val) 0x01) + 1 < 2 ^ 32 →
    ∃ u, Ends (.requestFrameStart v) s u ∧ Changes [.voices, .timers] [ob (0x2480 + v.val) 0x01] s u ∧
      u.rd (ob (0x2480 + v.val) 0x01) = s.rd (ob (0x2480 + v.val) 0x01) + 1 ∧
      (let e := (if x.advances then x.gap else max x.gap (100 * s.now)) +
         x.frame.duration g.step.settings.coding (s.rates v g.step).1
       u.dueAt (.frameEnd v) = some (e / 100) ∧
       u.voices[v] = { s.voices[v] with
         exchange := some { x with air := .sending, ref := e, opened := 0, modulated := false },
         ask := x.frame.modulation g.step g.askLow }) ∧
      ∀ w : VoiceId, w ≠ v → u.voices[w] = (if s.windowOpen w then
        { s.voices[w] with exchange := s.voices[w].exchange.map (fun y => { y with modulated := true }) } else s.voices[w])) ∧
  (∀ (s : State) (v : VoiceId) (g : Grant) (x : Exchange), s.voices[v].grant = some g → s.voices[v].exchange = some x →
    100 * (s.now + 1) ≤ x.gap → Ends (.requestFrameStart v) s s) ∧
  (∀ (s : State) (v : VoiceId) (g : Grant) (x : Exchange), s.voices[v].grant = some g → s.voices[v].exchange = some x →
    x.air = .sending → s.isDue (.frameEnd v) = true →
    (s.voices[v].abandoned = true → Ends (.requestFrameEnd v) s ((s.cancel (.frameEnd v)).releaseVoice v)) ∧
    (s.voices[v].abandoned = false → ∀ w, x.frame.eof = some w →
      ∃ u, Ends (.requestFrameEnd v) s u ∧ Changes [.voices, .timers] [] s u ∧ u.dueAt (.eof v) = some ((x.ref + w) / 100) ∧
        u.voices[v] = { s.voices[v] with exchange := some { x with air := .eofWait, prog := x.prog.sent g.step.record } } ∧
        ∀ w : VoiceId, w ≠ v → u.voices[w] = s.voices[w]) ∧
    (s.voices[v].abandoned = false → x.frame.eof = none → x.frame.expect ≠ .nothing →
      ∃ (u : State) (q : Prog), Ends (.requestFrameEnd v) s u ∧ Changes [.voices, .timers] [] s u ∧
        (let ref := x.frame.reference x.ref
         u.dueAt (.windowOpen v) = some ((ref + x.frame.window.opens) / 100) ∧
         u.dueAt (.close v) = some ((ref + x.frame.window.closes g.step.settings.mode (s.rates v g.step).2) / 100) ∧
         u.voices[v] = { s.voices[v] with exchange := some { x with air := .windowWait, ref := ref, prog := q } }) ∧
        (∀ w : VoiceId, w ≠ v → u.voices[w] = s.voices[w]) ∧
        ((∀ p, x.prog.blockEx = some p → p.temp = none) → q = x.prog.sent g.step.record ∧ u.dueAt (.wtx v) = s.dueAt (.wtx v)) ∧
        (∀ p, x.prog.blockEx = some p → p.temp.isSome = true →
          q = x.prog.setBlock (fun p => { p with temp := none, wtxFrom := some x.ref }) ∧
          u.dueAt (.wtx v) = some ((x.ref + g.step.settings.budget * 100 - p.wtxSum) / 100))) ∧
    (s.voices[v].abandoned = false → x.frame.eof = none → x.frame.expect = .nothing →
      Ends (.requestFrameEnd v) s (State.took v (react (s.cancel (.frameEnd v)) v g.step
        { x with prog := x.prog.sent g.step.record, air := .none, stamp := x.ref / 100,
                 gap := if x.frame.window = .none then x.ref + x.frame.idle
                   else x.frame.reference x.ref + x.frame.window.closes g.step.settings.mode (s.rates v g.step).2 } [] 0)))) ∧
  (∀ (s : State) (v : VoiceId) (x : Exchange) (w : Nat), s.voices[v].exchange = some x → x.air = .eofWait → x.frame.eof = some w →
    s.isDue (.eof v) = true → (∀ w : VoiceId, w ≠ v → s.windowOpen w = false) →
    ∃ u, Ends (.separateEofDue v) s u ∧ Changes [.voices, .timers] [] s u ∧
      u.dueAt (.frameEnd v) = some ((x.ref + w + 3776) / 100) ∧ u.isArmed (.eof v) = false ∧
      u.voices[v] = { s.voices[v] with exchange := some { x with
        air := .sending, ref := x.ref + w + 3776, frame := { x.frame with bytes := [], eofOnly := true, eof := none } } } ∧
      ∀ w : VoiceId, w ≠ v → u.voices[w] = s.voices[w])

/-- Response windows: opening, reply start, closing, the S(WTX) budget. A window that is due opens in the range of the channel's start
range mode (the mode itself below 4, else the low bits of 0x22nn.03), with the receive settings and the gains latched as they stand then.
A reply start from the earliest to the latest accepted start (and, for a 15693 write, in a sub-window) ends acquisition, with the steps,
the phase and the noise figure of what has been listened, and the frame is being received: no more steps than the start range allows, none
in FIXED. One before the earliest start shuts the window with EARLY_REPLY, one between sub-windows with FRAMING_ERROR; one outside the
window, or that lies in the future, changes nothing. A window that closes empty gives NO_RESPONSE, stamped with the microsecond in which
it closed. When the S(WTX) budget runs out during a block exchange the session is deselected with WTX_BUDGET from that instant. (Rests on:
04_listening.md: R84, R87, R88, R95, R103; 05_tag_air_protocols.md: R110, R111, R122, Table 5-6; 07_tag_writes_and_sessions.md: R173.) -/
def Obligations.ResponseWindows : Prop :=
  (∀ (s : State) (v : VoiceId) (g : Grant) (x : Exchange), s.voices[v].grant = some g → s.voices[v].exchange = some x →
    x.air = .windowWait → s.isDue (.windowOpen v) = true →
    ∃ (u : State) (y : Exchange), Ends (.responseWindowOpen v) s u ∧ Changes [.voices, .timers] [] s u ∧
      u.isArmed (.windowOpen v) = false ∧ u.voices[v] = { s.voices[v] with exchange := some y } ∧
      (∀ w : VoiceId, w ≠ v → u.voices[w] = s.voices[w]) ∧ y.air = .open ∧ y.acq = 0 ∧ y.ref = x.ref ∧ y.frame = x.frame ∧ y.prog = x.prog ∧
      y.range = (if s.rd (ob (0x2200 + g.step.channel) 0x01) < 4 then s.rd (ob (0x2200 + g.step.channel) 0x01)
        else s.rd (ob (0x2200 + g.step.channel) 0x03) % 4) ∧
      y.latch = [s.rd (ob (0x2280 + v.val) 0x01), s.rd (ob (0x2280 + v.val) 0x02), s.rd (ob (0x2280 + v.val) 0x03),
        s.rd (ob (0x2280 + v.val) 0x04), s.rd (ob (0x2200 + g.step.channel) 0x02), s.rd (ob (0x2280 + v.val) 0x05),
        s.rd (ob (0x2280 + v.val) 0x06), s.rd (ob (0x2280 + v.val) 0x07), s.rd (ob (0x2280 + v.val) 0x08)]) ∧
  (∀ (s : State) (v : VoiceId) (g : Grant) (x : Exchange) (off : Nat) (b : List Sample) (lead sof : List Cell), s.voices[v].grant = some g →
    s.voices[v].exchange = some x → x.air = .open → x.ref + off < 100 * (s.now + 1) → x.frame.window.opens ≤ off →
    off ≤ x.frame.window.latest →
    (x.frame.window.earliest ≤ off → (x.frame.window = .iso15Write → inSubWindow off = true) →
      let h := hear (replyCoding s v g.step x) x.latch x.range (samplesBefore x off b) (lead ++ sof)
      ∃ (u : State) (y : Exchange), Ends (.replyStart v off b lead sof) s u ∧ Changes [.voices, .timers, .cal] [] s u ∧
        u.isArmed (.close v) = false ∧ u.isArmed (.wtx v) = false ∧
        u.voices[v] = { s.voices[v] with exchange := some y } ∧ (∀ w : VoiceId, w ≠ v → u.voices[w] = s.voices[w]) ∧
        y.air = .receiving ∧ y.opened = off ∧ y.range = x.range ∧ y.ref = x.ref ∧ y.frame = x.frame ∧
        y.acq = h.steps ∧ y.phase = h.phase ∧ y.noise = h.noise ∧ y.rx = h.rx ∧
        y.acq ≤ x.range ∧ (x.latch.getD 4 0 = 1 → y.acq = 0) ∧
        y.shortNoise = decide (off - x.frame.window.opens - 400 < 800) ∧
        ((∀ p, x.prog.blockEx = some p → p.wtxFrom = none) → y.prog = x.prog) ∧
        (∀ p at_, x.prog.blockEx = some p → p.wtxFrom = some at_ →
          y.prog.blockEx = some { p with wtxSum := p.wtxSum + (x.ref + off - at_), wtxFrom := none })) ∧
    (off < x.frame.window.earliest → Ends (.replyStart v off b lead sof) s (s.shutWindow v g.step x 1 (x.ref + off))) ∧
    (x.frame.window.earliest ≤ off → x.frame.window = .iso15Write → inSubWindow off = false →
      Ends (.replyStart v off b lead sof) s (s.shutWindow v g.step x 4 (x.ref + off)))) ∧
  (∀ (s : State) (v : VoiceId) (g : Grant) (x : Exchange) (off : Nat) (b : List Sample) (lead sof : List Cell), s.voices[v].grant = some g →
    s.voices[v].exchange = some x →
    (x.air ≠ .open ∨ off < x.frame.window.opens ∨ x.frame.window.latest < off ∨ 100 * (s.now + 1) ≤ x.ref + off) →
    Ends (.replyStart v off b lead sof) s s) ∧
  (∀ (s : State) (v : VoiceId) (g : Grant) (x : Exchange), s.voices[v].grant = some g → s.voices[v].exchange = some x →
    x.air = .open → s.isDue (.close v) = true →
    Ends (.responseWindowClose v) s
      (s.shutWindow v g.step x 2 (x.ref + x.frame.window.closes g.step.settings.mode (s.rates v g.step).2))) ∧
  (∀ (s : State) (v : VoiceId) (g : Grant) (x : Exchange) (st at_ : Nat), x.air = .open → s.cal.ready = [] → st ≠ 0 →
    (∀ n ∈ [0x02, 0x03, 0x04, 0x07], s.rd (ob (0x2480 + v.val) n) + 1 < 2 ^ 32) →
    ∃ (w : State) (y : Exchange), s.shutWindow v g.step x st at_ = State.took v (react w v g.step y [] 0) ∧
      y.air = .none ∧ y.status = st ∧ y.detail = 0 ∧ y.gap = at_ ∧ y.stamp = at_ / 100 ∧ y.prog = x.prog ∧
      w.isArmed (.close v) = false ∧
      w.rd (ob (0x2480 + v.val) 0x02) = s.rd (ob (0x2480 + v.val) 0x02) + (if st = 2 then 1 else 0) ∧
      w.rd (ob (0x2480 + v.val) 0x07) = s.rd (ob (0x2480 + v.val) 0x07) + (if st = 1 then 1 else 0) ∧
      w.rd (ob (0x2480 + v.val) 0x03) = s.rd (ob (0x2480 + v.val) 0x03) + (if st = 7 then 1 else 0) ∧
      w.rd (ob (0x2480 + v.val) 0x04) = s.rd (ob (0x2480 + v.val) 0x04) + (if st = 1 ∨ (3 ≤ st ∧ st ≤ 6) ∨ st = 8 then 1 else 0)) ∧
  (∀ (s : State) (v : VoiceId) (g : Grant) (x : Exchange) (p : BlockEx), s.voices[v].grant = some g → s.voices[v].exchange = some x →
    x.prog.blockEx = some p → (x.air = .open ∨ x.air = .windowWait ∨ x.air = .ready) → s.isDue (.wtx v) = true → s.cal.ready = [] →
    ∃ (w : State) (y : Exchange), exec (.wtxBudgetExpired v) s =
        .next (State.took v (deselect w v g.step y ⟨0, 0x0D, min 255 p.wtxN, []⟩)).settle ∧
      Changes [.voices, .timers] [] s w ∧ w.isArmed (.wtx v) = false ∧ w.isArmed (.close v) = false ∧ w.isArmed (.windowOpen v) = false ∧
      y.status = 0x0D ∧ y.detail = min 255 p.wtxN ∧ y.air = .none ∧ y.gap = max x.gap (100 * s.now))

/-- A received tag frame is decided, judged, recorded and counted. At the end of a received frame, as its cells and delimiters give it,
the voice's channel counts it (0x22nn.06) and its changes of range (0x22nn.08). The sequencer takes its turn with the decided bits, the
status and detail of the checks, the end of the frame as stamp, and the minimum gap of Table 5-5 before the next request. A frame whose
status is OK after checks and sequencer leaves its end range, its 16-byte quality record and its instant in 0x22nn.03 to .05, and another
one leaves them; its status is counted either way. A frame not being received, or one that ends later, changes nothing. Stated for a
channel without background antenna correction and with nothing waiting for its application point. (Rests on: 04_listening.md: R92, R94,
Tables 4-3 and 4-5; 05_tag_air_protocols.md: R112, R115 to R119, R128.) -/
def Obligations.ReplyFrames : Prop :=
  (∀ (s : State) (v : VoiceId) (g : Grant) (x : Exchange) (f : TagFrame), s.voices[v].grant = some g → s.voices[v].exchange = some x →
    x.air = .receiving → s.cal.ready = [] → s.rd (ob (0x6100 + g.step.channel) 0x07) = 0 → g.step.channel < 64 →
    (let i := 0x2200 + g.step.channel
     let dec := s.decoding v g.step x f
     let endAt := s.replyEnd v g.step x f dec.truncated.isNone
     let reply := dec.reply x.frame (s.rates v g.step).2 f.delims
     let st := frameStatus x.frame.expect x.frame.typeB reply
     let q := qualityRecord x dec (!x.frame.typeB && reply.collision.isSome)
     endAt < 100 * (s.now + 1) → s.rd (ob i 0x06) + 1 < 2 ^ 32 → s.rd (ob i 0x08) + dec.run.changes < 2 ^ 32 →
     ∃ (w : State) (y : Exchange),
       Ends (.replyFrameEnd v f) s (State.took v
         ((react w v g.step y reply.bytes reply.bits).1.judged v g.step.channel
            { (react w v g.step y reply.bytes reply.bits).2.1 with quality := q, stamp := endAt / 100 } dec.run.range,
          (react w v g.step y reply.bytes reply.bits).2)) ∧
       w.rd (ob i 0x06) = s.rd (ob i 0x06) + 1 ∧ w.rd (ob i 0x08) = s.rd (ob i 0x08) + dec.run.changes ∧
       w.rd (ob i 0x03) = s.rd (ob i 0x03) ∧ w.rd (ob i 0x04) = s.rd (ob i 0x04) ∧ w.rd (ob i 0x05) = s.rd (ob i 0x05) ∧
       y.air = .none ∧ y.status = st.1 ∧ y.detail = st.2 ∧ y.quality = q ∧ y.stamp = endAt / 100 ∧
       y.gap = endAt + replyGap x.frame ∧ y.prog = x.prog)) ∧
  (∀ (s : State) (v : VoiceId) (ch range : Nat) (x : Exchange), ch < 64 → (∀ n ∈ [0x02, 0x03, 0x04, 0x07], s.rd (ob (0x2480 + v.val) n) + 1 < 2 ^ 32) →
    (let i := 0x2200 + ch
     let c := 0x2480 + v.val
     let t := s.judged v ch x range
     Changes [] [ob c 0x02, ob c 0x03, ob c 0x04, ob c 0x07, ob i 0x03, ob i 0x04, ob i 0x05] s t ∧
     (x.status = 0 → t.rd (ob i 0x03) = range ∧ t.rd (ob i 0x04) = leNat x.quality ∧ t.rd (ob i 0x05) = x.stamp) ∧
     (x.status ≠ 0 → ∀ n ∈ [0x03, 0x04, 0x05], t.rd (ob i n) = s.rd (ob i n)) ∧
     t.rd (ob c 0x02) = s.rd (ob c 0x02) + (if x.status = 2 then 1 else 0) ∧
     t.rd (ob c 0x07) = s.rd (ob c 0x07) + (if x.status = 1 then 1 else 0) ∧
     t.rd (ob c 0x03) = s.rd (ob c 0x03) + (if x.status = 7 then 1 else 0) ∧
     t.rd (ob c 0x04) = s.rd (ob c 0x04) + (if x.status = 1 ∨ (3 ≤ x.status ∧ x.status ≤ 6) ∨ x.status = 8 then 1 else 0))) ∧
  (∀ (s : State) (v : VoiceId) (g : Grant) (x : Exchange) (f : TagFrame), s.voices[v].grant = some g → s.voices[v].exchange = some x →
    (x.air ≠ .receiving ∨ 100 * (s.now + 1) ≤ s.replyEnd v g.step x f (s.decoding v g.step x f).truncated.isNone) →
    Ends (.replyFrameEnd v f) s s)

/-- Card probes judge the drop against the baseline. A due probe of an enabled channel sets the next one an interval on. While detection
is paused the state reads PAUSED and nothing is probed; while another channel of the group is being probed the probe waits for that
probe's end. Otherwise the amplitude is kept in 0x25nn.07; after a pause, or without a baseline, it becomes the baseline and the state
ABSENT; in ABSENT a drop of at least the threshold makes it PRESENT, wakes the block and raises CARD_PRESENT, and a smaller one moves the
baseline by its share; in PRESENT a drop below half the threshold makes it ABSENT, wakes and raises CARD_GONE, and otherwise nothing
follows. A probe not due changes nothing. (Rests on: 06_inventory_and_detection.md: R135, R136; 03_voices_and_antennas.md: R55.) -/
def Obligations.CardDetection : Prop :=
  (∀ (s : State) (ch : Channel) (a : Nat), s.rd (ob (0x2500 + ch.val) 0x01) ≠ 0 → s.isDue (.probe ch) = true → s.linkReady .field = true →
    (let i := 0x2500 + ch.val
     let b := s.rd (ob i 0x04)
     let th := s.rd (ob i 0x03)
     let v := voiceOf ch.val
     let free := s.voices[v].probeEnd ≤ s.now ∧ a < 65536
     let probed := fun u : State => u.voices[v] = { s.voices[v] with probeEnd := s.now + 10 } ∧ (∀ w : VoiceId, w ≠ v → u.voices[w] = s.voices[w]) ∧
       u.dueAt (.probe ch) = some (s.now + s.rd (ob i 0x02) * 1000)
     (s.detBlocked ch.val = true → ∃ u, Ends (.cardProbe ch a) s u ∧ Changes [.timers] [ob i 0x06] s u ∧ u.rd (ob i 0x06) = 2 ∧
       u.dueAt (.probe ch) = some (s.now + s.rd (ob i 0x02) * 1000)) ∧
     (s.detBlocked ch.val = false → s.now < s.voices[v].probeEnd →
       ∃ u, Ends (.cardProbe ch a) s u ∧ Changes [.timers] [] s u ∧ u.dueAt (.probe ch) = some s.voices[v].probeEnd) ∧
     (s.detBlocked ch.val = false → free → (s.rd (ob i 0x06) = 2 ∨ b = 0) →
       ∃ u, Ends (.cardProbe ch a) s u ∧ Changes [.timers, .voices] [ob i 0x04, ob i 0x06, ob i 0x07] s u ∧ probed u ∧
         u.rd (ob i 0x04) = a ∧ u.rd (ob i 0x06) = 0 ∧ u.rd (ob i 0x07) = a) ∧
     (s.detBlocked ch.val = false → free → s.rd (ob i 0x06) = 0 → 0 < b → a ≤ b → th * b ≤ (b - a) * 1000 →
       ∃ u : State, Ends (.cardProbe ch a) s (((u.wakeBy 6).cardEvent ch.val 0 a b).wr (ob i 0x07) a) ∧
         Changes [.timers, .voices] [ob i 0x06] s u ∧ probed u ∧ u.rd (ob i 0x06) = 1) ∧
     (s.detBlocked ch.val = false → free → s.rd (ob i 0x06) = 0 → 0 < b → a ≤ b → (b - a) * 1000 < th * b →
       ∃ u, Ends (.cardProbe ch a) s u ∧ Changes [.timers, .voices] [ob i 0x04, ob i 0x07] s u ∧ probed u ∧ u.rd (ob i 0x07) = a ∧
         u.rd (ob i 0x04) = b - (b - a) / 2 ^ s.rd (ob i 0x05)) ∧
     (s.detBlocked ch.val = false → free → s.rd (ob i 0x06) = 0 → 0 < b → b < a →
       ∃ u, Ends (.cardProbe ch a) s u ∧ Changes [.timers, .voices] [ob i 0x04, ob i 0x07] s u ∧ probed u ∧ u.rd (ob i 0x07) = a ∧
         u.rd (ob i 0x04) = b + (a - b) / 2 ^ s.rd (ob i 0x05)) ∧
     (s.detBlocked ch.val = false → free → s.rd (ob i 0x06) = 1 → 0 < b → (b < a ∨ (b - a) * 2000 < th * b) →
       ∃ u : State, Ends (.cardProbe ch a) s (((u.wakeBy 6).cardEvent ch.val 6 a b).wr (ob i 0x07) a) ∧
         Changes [.timers, .voices] [ob i 0x06] s u ∧ probed u ∧ u.rd (ob i 0x06) = 0) ∧
     (s.detBlocked ch.val = false → free → s.rd (ob i 0x06) = 1 → 0 < b → a ≤ b → th * b ≤ (b - a) * 2000 →
       ∃ u, Ends (.cardProbe ch a) s u ∧ Changes [.timers, .voices] [ob i 0x07] s u ∧ probed u ∧ u.rd (ob i 0x07) = a))) ∧
  (∀ (s : State) (ch : Channel) (a : Nat), s.isDue (.probe ch) = false → Ends (.cardProbe ch a) s s)

/-- The end of a key's suspension, and the crypto engine's jobs. A suspension that is due ends: the slot is LOADED again with its failure
count at 0, and nothing else changes. A finished AUTH job of the grant it was made for gives its verdict to that voice's sequencer; one of
a grant that is over changes only the engine and its tenant's job count. A finished import job carries the import out. The engine then
takes the next tenant's job. With no job, or with an image verification (which ends through its own command), nothing changes. (Rests on:
07_tag_writes_and_sessions.md: R185, R189, R197; 15_keys_and_images.md: R430.) -/
def Obligations.KeySuspensionAndCrypto : Prop :=
  (∀ (s : State) (c : Nat), s.isDue (.suspension c) = true → s.rd (ob (0x9100 + c) 0x02) = 2 →
    ∃ u, Ends (.keySuspensionEnd c) s u ∧ Changes [.timers] [ob (0x9100 + c) 0x02, ob (0x9100 + c) 0x05] s u ∧
      u.rd (ob (0x9100 + c) 0x02) = 1 ∧ u.rd (ob (0x9100 + c) 0x05) = 0 ∧ u.isArmed (.suspension c) = false) ∧
  (∀ (s : State) (t : Tenant) (v : VoiceId) (g : Nat), s.crypto.running = some (t, .auth v g) →
    Ends .cryptoJobDone s (if (s.jobOver t).grantedAt v = g then (s.jobOver t).authJobDone v else s.jobOver t) ∧
      Changes [.crypto] [ob (0x9020 + t.val) 0x09] s (s.jobOver t) ∧ (s.rd (ob (0x9020 + t.val) 0x09) + 1 < 2 ^ 32 →
      (s.jobOver t).rd (ob (0x9020 + t.val) 0x09) = s.rd (ob (0x9020 + t.val) 0x09) + 1)) ∧
  (∀ (s : State) (t u : Tenant) (id : Nat), s.crypto.running = some (t, .import_ u id) →
    Ends .cryptoJobDone s ((s.jobOver t).importDone u id)) ∧
  (∀ s : State, (s.crypto.running = none ∨ ∃ t, s.crypto.running = some (t, .verify)) → Ends .cryptoJobDone s s)

/-- A low threshold times 4.2 above the high threshold is refused. A WRITE of two bytes to 0x228n.01 or 0x228n.02 that would leave the low
threshold multiplied by 4.2 above the high threshold is answered VALUE_RANGE and changes nothing but the answer: in force are the values
there were. (Rests on: R97.) -/
def Obligations.ThresholdRule : Prop :=
  (∀ (s : State) (t : Tenant) (j : Job) (n x : Nat), n < 4 → x < 65536 → s.turn t = some j → s.visible t (0x2280 + n) 0x01 = true →
    s.transportOn t j.req.transport = true → j.req.op = .write (0x2280 + n) 0x01 0 (u16 x) → 10 * x < 42 * s.rd (ob (0x2280 + n) 0x02) →
    Answers (.serviceWrite t) s s t j 0x05 []) ∧
  (∀ (s : State) (t : Tenant) (j : Job) (n x : Nat), n < 4 → x < 65536 → s.turn t = some j → s.visible t (0x2280 + n) 0x02 = true →
    s.transportOn t j.req.transport = true → j.req.op = .write (0x2280 + n) 0x02 0 (u16 x) → 10 * s.rd (ob (0x2280 + n) 0x01) < 42 * x →
    Answers (.serviceWrite t) s s t j 0x05 [])

/-- Start, revert and abort of a tuning. An accepted start of a tuning of the request's kind, target and method counts it in 0x63kk.01,
puts the tenant's tuning state to WAITING and its tuning at the end of the waiting ones, which are then taken up as their targets come
free. A revert clears the user-value mark of the kind on the target and the causes of its two tuning faults, notes the pair for a commit
of the tuned values and enters that; of offset codes the factory's zeros wait for their application point in place of what waited before.
An abort of a tenant without a tuning changes nothing. An automatic tuning that is due begins, as T0's, once its target is idle, and not
before. (Rests on: 08_calibration.md: R199 to R202, R204, R207, R223.) -/
def Obligations.TuningRequests : Prop :=
  (∀ (s : State) (t : Tenant) (j : Job), s.Writes t j 0x6000 0x04 [1] → s.rd (obT 0x6000 0x01 t) < 12 →
    s.rd (ob (0x6300 + s.rd (obT 0x6000 0x01 t)) 0x01) + 1 < 2 ^ 32 →
    (let kind := s.rd (obT 0x6000 0x01 t)
     let x : Tuning := { tenant := t, kind := kind, target := s.rd (obT 0x6000 0x02 t), method := s.rd (obT 0x6000 0x03 t), auto := false,
                         stage := 0, first := none, last := none, voice := none, status := 0 }
     ∃ u : State, Serves (.tuningStart t) s u.nextTunings t j [] false ∧ Changes [.cal] [ob (0x6300 + kind) 0x01, obT 0x6000 0x05 t] s u ∧
       u.cal = { s.cal with queue := s.cal.queue ++ [x] } ∧ u.rd (obT 0x6000 0x05 t) = 1 ∧
       u.rd (ob (0x6300 + kind) 0x01) = s.rd (ob (0x6300 + kind) 0x01) + 1)) ∧
  (∀ (s : State) (t : Tenant) (j : Job), s.Writes t j 0x6000 0x04 [2] →
    ∃ u : State, Serves (.tuningRevert t) s (u.commit .tunings) t j [] false ∧
      calKey (s.rd (obT 0x6000 0x01 t)) (s.rd (obT 0x6000 0x02 t)) ∉ u.cal.user) ∧
  (∀ (s : State) (t : Tenant) (j : Job), s.Writes t j 0x6000 0x04 [2] → s.rd (obT 0x6000 0x01 t) = 3 →
    (let ch := s.rd (obT 0x6000 0x02 t)
     ∃ u : State, Serves (.tuningRevert t) s ((u.commit .tunings).commit .tunings) t j [] false ∧ Changes [.cal, .faults] [] s u ∧
       u.cal.user = s.cal.user.filter (fun k => k != calKey 3 ch) ∧
       u.cal.ready = s.cal.ready.filter (fun r => !(r.kind == 3 && r.target == ch)) ++ [⟨3, ch, .revert, [0, 0]⟩] ∧
       (3, ch) ∈ u.cal.dirty)) ∧
  (∀ (s : State) (t : Tenant) (j : Job), s.Writes t j 0x6000 0x04 [3] →
    ((s.cal.running ++ s.cal.queue).filter (fun u => u.tenant == t && !u.auto) = [] → s.cal.queue = [] →
      Serves (.tuningAbort t) s s t j [] false) ∧
    (∀ u : Tuning, (s.cal.running ++ s.cal.queue).filter (fun u => u.tenant == t && !u.auto) = [u] →
      Serves (.tuningAbort t) s (s.endTuning u 5).nextTunings t j [] false)) ∧
  (∀ (s : State) (k x : Nat), (k, x) ∈ s.cal.autos → s.targetIdle k x = true →
    ∃ u : State, Ends (.autoTuningStart k x) s (u.startTuning (autoTuning k x)) ∧ Changes [.cal] [] s u ∧
      u.cal = { s.cal with autos := s.cal.autos.filter (fun p => p != (k, x)) }) ∧
  (∀ (s : State) (k x : Nat), ((k, x) ∉ s.cal.autos ∨ s.targetIdle k x = false) → Ends (.autoTuningStart k x) s s)

/-- A tuning's two runs, its test and its end. The first run's report keeps its values, and the tuning goes on to its repeat run. After
the repeat run the two are judged: within range and tolerance the tuning is accepted with the repeat run's values; out of range it ends
with status 2, apart by more than the tolerance with 1. One that emits keeps its repeat run while its voice ramps down, and is tested in
the same way once it is APPLYING, before time next passes. A tuning that ends is no longer under way; a requested one's object reads idle,
its status and its instant; success and failure are counted per kind. With no tuning at that stage nothing changes. Waiting tunings are
then taken up. (Rests on: 08_calibration.md: R201, R203, R204, Table 8-1.) -/
def Obligations.TuningRuns : Prop :=
  (∀ (s : State) (u : Tuning) (r : Run), s.tuningAt 1 = some u → u.kind ≠ 0x0B →
    ∃ w, Ends (.tuningFirstRunDone r) s w ∧ Changes [.cal] (if u.auto then [] else [obT 0x6000 0x05 u.tenant]) s w ∧
      (u.auto = false → w.rd (obT 0x6000 0x05 u.tenant) = 3) ∧
      w.cal = { s.cal with running := s.cal.running.map (fun x => if x = u then { u with stage := 2, first := some r } else x) }) ∧
  (∀ (s : State) (r : Run), s.tuningAt 1 = none → Ends (.tuningFirstRunDone r) s s) ∧
  (∀ (s : State) (u : Tuning) (v : VoiceId) (b : Run), s.tuningAt 2 = some u → u.voice = some v → u.emits = true →
    s.voices[v].serves u = true → s.emitting v = true →
    ∃ w : State, Ends (.tuningRepeatDone b) s w ∧ w.voiceState v = 5 ∧ w.dues = s.dues ∧
      w.cal = { s.cal with running := s.cal.running.map (fun x => if x = u then { u with stage := 3, last := some b } else x) }) ∧
  (∀ (s : State) (u : Tuning) (a b : Run), s.cal.running.filter (fun u => u.stage == 4) = [u] → u.kind ≠ 1 → u.first = some a →
    u.last = some b →
    (runInRange u.kind a = true → runInRange u.kind b = true → runsAgree u.kind a b = true →
      s.idle = ((s.acceptTuning u b.values).nextTunings).pass.doze) ∧
    ((runInRange u.kind a && runInRange u.kind b) = false → s.idle = ((s.endTuning u 2).nextTunings).pass.doze) ∧
    (runInRange u.kind a = true → runInRange u.kind b = true → runsAgree u.kind a b = false →
      s.idle = ((s.endTuning u 1).nextTunings).pass.doze)) ∧
  (∀ (s : State) (u : Tuning) (a b : Run), s.tuningAt 2 = some u → (u.voice = none ∨ u.emits = false) → u.kind ≠ 0x0B → u.kind ≠ 1 →
    u.first = some a →
    (runInRange u.kind a = true → runInRange u.kind b = true → runsAgree u.kind a b = true →
      Ends (.tuningRepeatDone b) s (s.acceptTuning u b.values).nextTunings) ∧
    ((runInRange u.kind a && runInRange u.kind b) = false → Ends (.tuningRepeatDone b) s (s.endTuning u 2).nextTunings) ∧
    (runInRange u.kind a = true → runInRange u.kind b = true → runsAgree u.kind a b = false →
      Ends (.tuningRepeatDone b) s (s.endTuning u 1).nextTunings)) ∧
  (∀ (s : State) (r : Run), s.tuningAt 2 = none → Ends (.tuningRepeatDone r) s s) ∧
  (∀ (s : State) (u : Tuning) (st : Nat), 0 < u.kind → u.kind < 12 → u.voice = none → s.rd (ob (0x6300 + u.kind) 0x02) + 1 < 2 ^ 32 →
    s.rd (ob (0x6300 + u.kind) 0x03) + 1 < 2 ^ 32 →
    u ∉ (s.endTuning u st).cal.running ∧ u ∉ (s.endTuning u st).cal.queue ∧
    (u.auto = false → (s.endTuning u st).rd (obT 0x6000 0x05 u.tenant) = 0 ∧ (s.endTuning u st).rd (obT 0x6000 0x06 u.tenant) = st) ∧
    (s.endTuning u st).rd (ob (0x6300 + u.kind) 0x02) = s.rd (ob (0x6300 + u.kind) 0x02) + (if st = 0 then 1 else 0) ∧
    (s.endTuning u st).rd (ob (0x6300 + u.kind) 0x03) = s.rd (ob (0x6300 + u.kind) 0x03) + (if st = 0 then 0 else 1))

/-- Background windows: kept, judged in pairs, applied by one increment. A full window is first kept; its counts begin again. With an
earlier one kept, the two are judged: where they agree, each quantity that asks for at least one increment moves by one, at its
application point, and both are discarded; where they do not, or nothing is asked for, the later one is kept for the next. An antenna
window follows its track: the first is kept as previous, the second decides a step of the park code with the first, unless the sum of
steps would pass its limit, when tracking stops. A window not full, with background correction off or during a reference tuning of its
target, changes nothing. (Rests on: 08_calibration.md: R213 to R217, R224.) -/
def Obligations.BackgroundWindows : Prop :=
  (∀ (s : State) (ch : Channel), s.rd (ob (0x6100 + ch.val) 0x07) ≠ 0 → s.referenceRuns ch.val = false → (s.track ch.val).stopped = false →
    s.rd (ob 0x6010 0x06) ≤ (s.track ch.val).count →
    ((s.track ch.val).prev = none →
      ∃ u, Ends (.antBackgroundWindow ch) s u ∧ Changes [.cal] [] s u ∧
        u.track ch.val = { s.track ch.val with sum := 0, count := 0, prev := some ((s.track ch.val).sum, (s.track ch.val).count) }) ∧
    (∀ w, (s.track ch.val).prev = some w →
      antStep (s.rdInt (ob (0x6100 + ch.val) 0x04)) w ((s.track ch.val).sum, (s.track ch.val).count) = 0 →
      ∃ u, Ends (.antBackgroundWindow ch) s u ∧ Changes [.cal] [] s u ∧
        u.track ch.val = { s.track ch.val with sum := 0, count := 0, prev := none }) ∧
    (∀ w c, (s.track ch.val).prev = some w →
      antStep (s.rdInt (ob (0x6100 + ch.val) 0x04)) w ((s.track ch.val).sum, (s.track ch.val).count) = c → c ≠ 0 →
      (s.rdInt (ob (0x6100 + ch.val) 0x06) + c).natAbs ≤ s.rd (ob 0x6010 0x07) →
      ∃ u, Ends (.antBackgroundWindow ch) s u ∧ Changes [.cal] [] s u ∧
        u.cal.ready = s.cal.ready.filter (fun r => !(r.kind == 1 && r.target == ch.val && r.form == .step)) ++
          [⟨1, ch.val, .step, [c]⟩])) ∧
  (∀ (s : State) (ch : Channel) (r : Run), s.rd (ob (0x6100 + ch.val) 0x07) ≠ 0 → s.referenceRuns ch.val = false →
    32 ≤ s.windowCount (calKey 3 ch.val) → Ends (.offsetBackgroundWindow ch r) s (s.closeWindow 3 ch.val [(4, 1, 1), (4, 1, 1)] r.values)) ∧
  (∀ (s : State) (v : VoiceId) (r : Run), s.rd (ob (0x6180 + v.val) 0x05) ≠ 0 → s.referenceRuns (0x100 + v.val) = false →
    4096 ≤ s.windowCount (calKey 4 (0x100 + v.val)) →
    Ends (.iqBackgroundWindow v r) s (s.closeWindow 4 (0x100 + v.val) [(50, 10, 10), (20, 5, 5)] r.values)) ∧
  (∀ (s : State) (v : VoiceId) (r : Run), s.rd (ob (0x6180 + v.val) 0x05) ≠ 0 → s.referenceRuns (0x100 + v.val) = false →
    32 ≤ s.windowCount (calKey 5 (0x100 + v.val)) →
    Ends (.gainBackgroundWindow v r) s (s.closeWindow 5 (0x100 + v.val) [(10, 5, 5), (10, 5, 5), (10, 5, 5)] r.values)) ∧
  (∀ (s : State) (k x : Nat) (sp : List (Nat × Nat × Nat)) (l : List Int),
    (∀ w, (calKey k x, w) ∉ s.cal.windows) →
    Changes [.cal] [] s (s.closeWindow k x sp l) ∧ (calKey k x, l) ∈ (s.closeWindow k x sp l).cal.windows ∧
      (s.closeWindow k x sp l).windowCount (calKey k x) = 0) ∧
  (∀ (s : State) (ch : Nat) (a b : Int × Int) (w : List (Nat × List Int)), s.cal.windows = (calKey 3 ch, [a.1, a.2]) :: w →
    (a.1 - b.1).natAbs ≤ 4 → (a.2 - b.2).natAbs ≤ 4 → (b.1 ≠ 0 ∨ b.2 ≠ 0) →
    ∃ u, s.closeWindow 3 ch [(4, 1, 1), (4, 1, 1)] [b.1, b.2] = u ∧ Changes [.cal] [] s u ∧ (∀ l, (calKey 3 ch, l) ∉ u.cal.windows) ∧
      u.cal.ready = s.cal.ready.filter (fun r => !(r.kind == 3 && r.target == ch && r.form == .step)) ++
        [⟨3, ch, .step, [b.1.sign, b.2.sign]⟩]) ∧
  (∀ (s : State) (ch : Nat) (a b : Int × Int) (w : List (Nat × List Int)), s.cal.windows = (calKey 3 ch, [a.1, a.2]) :: w →
    (4 < (a.1 - b.1).natAbs ∨ 4 < (a.2 - b.2).natAbs ∨ (b.1 = 0 ∧ b.2 = 0)) →
    ∃ u, s.closeWindow 3 ch [(4, 1, 1), (4, 1, 1)] [b.1, b.2] = u ∧ Changes [.cal] [] s u ∧
      u.cal.windows = (calKey 3 ch, [b.1, b.2]) :: w.filter (fun p => p.1 != calKey 3 ch) ∧ u.cal.ready = s.cal.ready) ∧
  (∀ (s : State) (r : Run), s.rd (ob 0x6200 0x07) ≠ 0 → s.referenceRuns 0x200 = false → s.rd (ob 0x6200 0x03) ≠ 2 →
    s.rd (ob 0x6200 0x01) = 0 →
    ∃ u, Ends (.sliceBackgroundWindow r) s u ∧ Changes [.cal] [] s u ∧ (calKey 8 0x200, r.values) ∈ u.cal.windows) ∧
  (∀ (s : State) (c : Instr) (ch : Channel) (v : VoiceId) (r : Run),
    ((c = .offsetBackgroundWindow ch r ∧ (s.rd (ob (0x6100 + ch.val) 0x07) = 0 ∨ s.windowCount (calKey 3 ch.val) < 32)) ∨
      (c = .antBackgroundWindow ch ∧ s.rd (ob (0x6100 + ch.val) 0x07) = 0) ∨
      ((c = .iqBackgroundWindow v r ∨ c = .gainBackgroundWindow v r) ∧ s.rd (ob (0x6180 + v.val) 0x05) = 0) ∨
      (c = .sliceBackgroundWindow r ∧ s.rd (ob 0x6200 0x07) = 0)) → Ends c s s)

/-- Slice retirement, the hourly cue check and the external reference. An active slice whose needed correction passes a limit is retired
between frames: the receiver is arranged without it, SLICE_RETIRED is raised, and an automatic tuning of the slices is noted. The hourly
check begins the hour's false wakes anew: more than 4 in two hours raise the cue threshold by one, none in two hours lower it by one,
anything else leaves it; an hour in which the cue receiver has not listened, or background correction is off or stopped, counts nothing.
An external reference whose edge does not come ends its tuning REF_ABSENT. A steady gate gives the tuning its run: the count's error
against the nominal count of the gate; one that is not steady ends the tuning REF_ABSENT. (Rests on: 08_calibration.md: R217, R218, R220,
R222.) -/
def Obligations.SlicesCueAndReference : Prop :=
  (∀ (s : State) (i : Fin 12) (w : List Int), s.cal.windows.find? (fun p => p.1 == calKey 8 0x200) = some (calKey 8 0x200, w) →
    (s.rd (ob 0x6200 0x01)).testBit i.val = true → sliceBad w i.val = true → s.inAirFrame = false →
    Ends (.sliceRetirement i) s
      (((s.arrangeSlices (s.rd (ob 0x6200 0x02) ||| 2 ^ i.val)).calEvent 946 8 0x200 0 t0).noteAuto 8 0x200)) ∧
  (∀ (s : State) (i : Fin 12), (s.rd (ob 0x6200 0x01)).testBit i.val = false → Ends (.sliceRetirement i) s s) ∧
  (∀ (s : State), s.isDue .cueHour = true → s.rd (ob 0x6200 0x07) ≠ 0 → s.referenceRuns 0x200 = false → s.cal.heard = true →
    ∃ u : State, Changes [.cal, .timers] [] s u ∧ u.cal = { s.cal with wakes := 0, heard := false, hour := some s.cal.wakes } ∧
      u.dueAt .cueHour = some (s.now + 3600000000) ∧ (s.cal.hour = none → Ends .cueHourlyCheck s u) ∧
      ∀ m, s.cal.hour = some m → Ends .cueHourlyCheck s (if 4 < m ∧ 4 < s.cal.wakes then u.applyAt 7 0x200 .step [1]
        else if m = 0 ∧ s.cal.wakes = 0 then u.applyAt 7 0x200 .step [-1] else u)) ∧
  (∀ (s : State), s.isDue .cueHour = true → (s.rd (ob 0x6200 0x07) = 0 ∨ s.cal.heard = false ∨ s.referenceRuns 0x200 = true) →
    ∃ u, Ends .cueHourlyCheck s u ∧ Changes [.cal, .timers] [] s u ∧ u.dueAt .cueHour = some (s.now + 3600000000) ∧
      u.cal = { s.cal with wakes := 0, heard := false, hour := none }) ∧
  (∀ (s : State) (t : Tenant), s.isDue (.refEdge t) = true →
    (∀ u, s.cal.running.find? (fun u => u.method == 2 && u.tenant == t) = some u →
      Ends (.refEdgeTimeout t) s (s.endTuning u 4).nextTunings) ∧
    (s.cal.running.find? (fun u => u.method == 2 && u.tenant == t) = none →
      ∃ u, Ends (.refEdgeTimeout t) s u ∧ Changes [.timers] [] s u ∧ u.isArmed (.refEdge t) = false)) ∧
  (∀ (s : State) (n : Nat) (u : Tuning), s.gated = some u →
    (Ends (.refGateEnd n false) s ((s.cancel (.refEdge u.tenant)).endTuning u 4).nextTunings) ∧
    (u.stage = 1 → u.kind = 0x0A →
      ∃ w : State, Ends (.refGateEnd n true) s w ∧ Changes [.cal, .timers] (if u.auto then [] else [obT 0x6000 0x05 u.tenant]) s w ∧
        { u with stage := 2, first := some { values := [roundAway ((n : Int) * (1000000000 + s.rdInt (ob 0x6010 0x03)) -
            ((27120000 * s.rd (ob 0x6010 0x04) : Nat) : Int) * 1000000000) (27120000 * s.rd (ob 0x6010 0x04))], inRange := true } }
          ∈ w.cal.running)) ∧
  (∀ (s : State) (n : Nat) (b : Bool), s.gated = none → Ends (.refGateEnd n b) s s)

/-- The air die's start and stop, and its receiver from energy to frame end. A start from OFF waits for the source's time and one tick; a
count of 1,219 to 1,222 cycles goes on to AIR_READY 70 us later, any other ends in OFF with its event and fault. AIR_READY reaches LISTEN
on the channel of the node's work and is raised. A stop is immediate in LISTEN, nothing in OFF, and kept otherwise. Energy in LISTEN is
the application point at the start of a frame and begins PREAMBLE on the channel then in effect, with the idle attenuation and its
timeout; the SFD begins FRAME, locks the attenuation that the judged groups lead to, and is counted; the timeout is counted. Both ways
out, and the frame's end, lead to LISTEN. A good frame passes to the MAC, its octets taken apart, with its quality record; a mode switch
or a length beyond 255 is discarded and counted. (Rests on: 09_air_radio.md: R229, R230, R241 to R243, R263, Tables 9-1 and 9-5.) -/
def Obligations.AirStartAndReceiver : Prop :=
  (∀ s : State, s.airState = 0 → s.airServes = true → s.air.cueState = 0 →
    ∃ u, Ends .airStartRequest s u ∧ Changes [.air, .timers] [ob 0x4050 0x04] s u ∧ u.airState = 1 ∧
      u.dueAt .airStart = some (s.now + (s.rd (ob 0x4050 0x02) + 31))) ∧
  (∀ s : State, s.airState ≠ 0 → Ends .airStartRequest s s) ∧
  (∀ (s : State) (n : Nat), s.airState = 1 → s.isDue .airStart = true →
    (1219 ≤ n → n ≤ 1222 → ∃ u, Ends (.airClockCheck n) s u ∧ Changes [.timers, .faults] [] s u ∧ u.dueAt .airClock = some (s.now + 70) ∧
      u.isArmed .airStart = false) ∧
    (n < 1219 ∨ 1222 < n → Ends (.airClockCheck n) s ((((s.cancel .airStart).airOff).raise 847 [t0] []).fault 32 n))) ∧
  (∀ s : State, s.airState = 1 → s.isDue .airClock = true →
    Ends .airReady s (((s.cancel .airClock).toListen.raise 832 [t0] []).freeReports.firstSlices)) ∧
  (∀ s : State, s.rd (ob 0x6200 0x03) ≠ 2 → s.air.stop = false → s.cal.ready = [] → s.cal.queue = [] → s.airServes = true →
    Changes [.air, .pins] [ob 0x4050 0x04] s s.toListen ∧ s.toListen.airState = 2 ∧
      s.toListen.air = (if s.listenChannel = s.air.channel then { s.air with atten := s.rd (ob 0x4050 0x03) }
        else { s.air with atten := s.rd (ob 0x4050 0x03), channel := s.listenChannel, before := s.rxChannel, tunedAt := s.now }) ∧
      s.toListen.pins.xlnaEn = s.frontEnd ∧ s.toListen.pins.xswTx = false) ∧
  (∀ s : State, (s.airState = 0 → Ends .airStopRequest s s) ∧ (s.airState = 2 → Ends .airStopRequest s s.airOff) ∧
    (s.airState ≠ 0 → s.airState ≠ 2 → ∃ u, Ends .airStopRequest s u ∧ Changes [.air] [] s u ∧ u.air = { s.air with stop := true })) ∧
  (∀ s : State, s.airState = 2 → s.slicesTuned = false →
    (let w := s.framePoint
     ∃ u, Ends .airEnergyDetect s u ∧ Changes [.air, .timers] [ob 0x4050 0x04] w u ∧ u.airState = 3 ∧
       u.air = { w.air with channel := w.rxChannel, tunedAt := 0, atten := w.rd (ob 0x4050 0x03), changes := 0 } ∧
       u.dueAt .preamble = some (w.now + w.rd (ob 0x4050 0x05)))) ∧
  (∀ (s : State) (l : List Nat), s.airState = 3 → s.rd (ob 0x4050 0x06) + 1 < 2 ^ 32 →
    ∃ u, Ends (.airSfdFound l) s u ∧ Changes [.air, .timers] [ob 0x4050 0x04, ob 0x4050 0x06] s u ∧ u.airState = 4 ∧
      u.rd (ob 0x4050 0x06) = s.rd (ob 0x4050 0x06) + 1 ∧ u.isArmed .preamble = false ∧
      (u.air.atten, u.air.changes) = attenWalk (s.rd (ob 0x4050 0x03)) s.air.atten s.air.changes l ∧ u.air.sfdAt = s.now) ∧
  (∀ (s : State) (l : List Nat), s.airState = 3 → s.isDue .preamble = true → s.rd (ob 0x4050 0x08) + 1 < 2 ^ 32 →
    ∃ u : State, Ends (.preambleTimeout l) s u.toListen ∧ Changes [.timers] [ob 0x4050 0x08] s u ∧
      u.rd (ob 0x4050 0x08) = s.rd (ob 0x4050 0x08) + 1 ∧ u.isArmed .preamble = false) ∧
  (∀ (s : State) (f : AirIn) (x : AirSignal), s.airState = 4 → x.peak < 511 → f.modeSwitch = false → f.psdu.length ≤ 255 →
    ∃ u : State, Ends (.airRxFrameEnd f x) s u.toListen ∧ Changes [.mac] [] s u ∧ u.mac = { s.mac with
      rx := s.mac.rx ++ [{ frame := parseMac f, quality := s.airQuality x, sfdAt := s.air.sfdAt, endAt := s.now, index := s.air.channel }] }) ∧
  (∀ (s : State) (f : AirIn) (x : AirSignal), s.airState = 4 → x.peak < 511 → (f.modeSwitch = true ∨ 255 < f.psdu.length) →
    s.rd (ob 0x4130 0x0E) + 1 < 2 ^ 32 →
    ∃ u : State, Ends (.airRxFrameEnd f x) s u.toListen ∧ Changes [] [ob 0x4130 0x0E] s u ∧
      u.rd (ob 0x4130 0x0E) = s.rd (ob 0x4130 0x0E) + 1)

/-- Transmit requests and the on sequence. The oldest request ends LINK_RETIRED while the die does not serve; in OFF the die is started;
in LISTEN it is checked, and either refused with the number of its first failing check (1 while unsealed) or taken off the list and begun:
the die is in TX_ON with it; in TX_OFF it is refused, or deferred to the end of the frame before it. XPA_EN, the PA's supply and the bias
follow in order, each after its wait. When bias and lock are both there the power code is set, the frame's octets are made up (a
retransmission keeps its own) and the up-ramp is timed for the first bit: 16 us long, 2 us for a cue pattern, and at its own instant for
an Imm-Ack. A lock that does not come is counted, its entry leaves the store, and the request is refused SYN_UNLOCKED on the way through
the off sequence. After the ramp the frame is on air for its time, and its last bit begins the down-ramp and ends the request at the MAC.
(Rests on: 09_air_radio.md: R245, R248 to R250, R252, R253, R260; 20_die_links.md: R541.) -/
def Obligations.AirTransmitOn : Prop :=
  (∀ s : State, s.air.requests = [] → Ends .airTxRequest s s) ∧
  (∀ (s : State) (r : TxReq) (l : List TxReq), s.air.requests = r :: l →
    ((s.airServes = false ∨ s.linkReady .air = false) → Ends .airTxRequest s (s.dropRequest.txEnded r 9)) ∧
    (s.airServes = true → s.linkReady .air = true → s.slicesTuned = false → s.air.first = none → s.rst.quiescing = none →
      (s.airState = 0 → Ends .airTxRequest s s.airStart) ∧
      (s.airState = 2 → (∀ n, s.txCheck r = .inl n → Ends .airTxRequest s (s.dropRequest.refuseTx r n)) ∧
        (∀ q, s.txCheck r = .inr q → Ends .airTxRequest s (s.airPoint.framePoint.dropRequest.txBegin q))) ∧
      (s.airState = 7 → s.air.counted = false → (∀ n, s.txCheck r = .inl n → Ends .airTxRequest s (s.dropRequest.refuseTx r n)) ∧
        (∀ q, s.txCheck r = .inr q → ∃ u : State, Ends .airTxRequest s (u.raise 841 [t0] []) ∧ Changes [.air] [ob 0x4030 0x09] s u ∧
          u.air = { s.air with requests := q :: l, counted := true })))) ∧
  (∀ (s : State) (r : TxReq), (s.profile = 0 → s.txCheck r = .inl 1) ∧ (s.profile ≠ 0 → s.airState = 8 → s.txCheck r = .inl 2) ∧
    (s.txBegin r).airState = 5 ∧ (s.txBegin r).air.tx = some r ∧ (s.txBegin r).air.synEntry = some r.index ∧
    (s.txBegin r).isArmed .synHold = false) ∧
  (∀ s : State, s.airState = 5 → s.frontEnd = true →
    (s.isDue .xpaEnOn = true → ∃ u, Ends .xpaEnOnDue s u ∧ Changes [.pins, .timers] [] s u ∧ u.pins.xpaEn = true ∧ u.pins.xpaOn = false ∧
      u.pins.xswTx = true ∧ u.pins.xlnaEn = false ∧ u.dueAt .paSupply = some (s.now + s.rd (ob 0x4030 0x05))) ∧
    (s.isDue .paSupply = true → ∃ u, Ends .paSupplySettled s u ∧ Changes [.pins, .timers] [] s u ∧ u.pins.xpaEn = true ∧
      u.pins.xpaOn = true ∧ u.pins.xswTx = true ∧ u.dueAt .bias = some (s.now + s.rd (ob 0x4030 0x06)))) ∧
  (∀ s : State, s.airState = 5 → s.isDue .bias = true → s.air.synLocked = false →
    ∃ u, Ends .biasSettled s u ∧ Changes [.air, .timers] [] s u ∧ u.air = { s.air with biasDone := true } ∧ u.isArmed .bias = false) ∧
  (∀ (s : State) (r : TxReq) (c : Instr), s.airState = 5 → s.air.tx = some r → s.isArmed .paUp = false →
    ((c = .biasSettled ∧ s.isDue .bias = true ∧ s.air.synLocked = true) ∨
      (c = .synLockDone ∧ s.isArmed .synLock = true ∧ s.air.biasDone = true)) →
    (let first := match r.use with | .ack _ _ start => max (s.now + 16) start | .cue _ _ => s.now + 2 | .data => s.now + 16
     ∃ u, Ends c s u ∧ Changes [.air, .timers, .faults, .mac] [ob 0x4030 0x0C, ob 0x4030 0x0D] s u ∧ u.air.synLocked = true ∧
       u.air.biasDone = true ∧ u.air.rampAt = first - (match r.use with | .cue _ _ => 2 | _ => 16) ∧ u.dueAt .paUp = some first ∧
       u.rd (ob 0x4030 0x0C) = r.code ∧ u.rdInt (ob 0x4030 0x0D) = toSigned 16 (ofSigned 16 r.out) ∧
       (∀ seq more start, r.use = .ack seq more start →
         u.mac = s.mac ∧ u.air.onAir = airFrame (s.rd (ob 0x4100 0x10)) (ackPsdu seq more)) ∧
       (∀ x, r.use = .data → s.mac.csma = some x → ∃ f, u.mac = { s.mac with csma := some { x with frame := f } } ∧
         u.air.onAir = airFrame (s.rd (ob 0x4100 0x10)) f.psdu ∧ (x.frame.psdu ≠ [] → f = x.frame)))) ∧
  (∀ (s : State), s.airState = 5 → s.isArmed .synLock = true → s.air.biasDone = false →
    ∃ u, Ends .synLockDone s u ∧ Changes [.air, .timers, .faults] [] s u ∧ u.air.synLocked = true ∧ u.isArmed .synLock = false) ∧
  (∀ (s : State) (r : TxReq), s.airState = 5 → s.air.tx = some r → s.isDue .synLock = true → s.rd (ob 0x4020 0x05) + 1 < 2 ^ 16 →
    ∃ u : State, exec .synLockTimeout s = .next (u.feOff.refuseTx r 8).settle ∧ u.airState = 7 ∧ u.air.tx = none ∧ u.air.synLocked = false ∧
      r.index ∈ u.air.synFailed ∧ (∀ e, (r.index, e) ∉ u.air.store) ∧ u.rd (ob 0x4020 0x05) = s.rd (ob 0x4020 0x05) + 1) ∧
  (∀ (s : State) (r : TxReq), s.airState = 5 → s.air.tx = some r → s.isDue .paUp = true →
    ∃ u, Ends .paRampUpDone s u ∧ Changes [.timers] [ob 0x4050 0x04, ob 0x4030 0x08] s u ∧ u.airState = 6 ∧
      u.rd (ob 0x4030 0x08) = (if s.frontEnd then 2 else s.rd (ob 0x4030 0x08)) ∧ u.dueAt .txEnd = some (s.now + r.time)) ∧
  (∀ (s : State) (r : TxReq), s.airState = 6 → s.air.tx = some r → s.isDue .txEnd = true →
    ∃ u : State, exec .airTxLastBit s = .next (u.txEnded r 0).settle ∧ Changes [.timers] [ob 0x4050 0x04, ob 0x4030 0x08] s u ∧
      u.airState = 7 ∧ u.dueAt .paDown = some (s.now + (match r.use with | .cue _ _ => 2 | _ => 16)))

/-- The off sequence, the held lock and the ledgers. At the end of the down-ramp the frame's on-time enters its tenant's ledger (and its
sub-band's or channel's); a frame over the PA lets XPA_EN go after 2 us, then the supply discharges, then the switch goes back and the
sequence ends; another path ends at once (1 us with a front end). Without a deferred request the die goes on to the end of the frame, with
one that request begins. Where the die no longer serves it is OFF afterwards. The synthesiser's held lock ends after its 200 us. Each
minute the bins that have left every sum are removed and the next rollover is set. (Rests on: 09_air_radio.md: R236, R237, R245, R252,
R253; 14_tenants.md: R417.) -/
def Obligations.AirTransmitOff : Prop :=
  (∀ (s : State) (r : TxReq), s.airState = 7 → s.air.tx = some r → s.isDue .paDown = true → (∀ c p, r.use ≠ .cue c p) →
    (r.path = 1 → ∃ u, Ends .paRampDownDone s u ∧ Changes [.air, .timers, .pins] [] s u ∧ u.dueAt .xpaEnOff = some (s.now + 2) ∧
      u.pins.xpaOn = false ∧ u.pins.xpaEn = s.frontEnd ∧
      u.air.tenantAir = ledgerAdd s.air.tenantAir r.tenant.val s.now (s.now - s.air.rampAt)) ∧
    (r.path ≠ 1 → s.air.counted = false → ∃ u, Ends .paRampDownDone s u ∧ Changes [.air, .timers, .pins] [] s u ∧
      u.dueAt .offDone = some (s.now + (if s.frontEnd then 1 else 0)) ∧ u.pins.xswTx = false ∧
      u.air.tenantAir = ledgerAdd s.air.tenantAir r.tenant.val s.now (s.now - s.air.rampAt))) ∧
  (∀ s : State, s.isDue .xpaEnOff = true → ∃ u, Ends .xpaEnOffDue s u ∧ Changes [.pins, .timers] [] s u ∧ u.pins.xpaEn = false ∧
    u.pins.xswTx = s.frontEnd ∧ u.dueAt .discharge = some (s.now + s.rd (ob 0x4030 0x07))) ∧
  (∀ s : State, s.isDue .discharge = true → s.air.counted = false → ∃ u, Ends .dischargeElapsed s u ∧ Changes [.pins, .timers] [] s u ∧
    u.pins.xswTx = false ∧ u.pins.xpaEn = false ∧ u.dueAt .offDone = some (s.now + 1)) ∧
  (∀ (s : State) (r : TxReq) (l : List TxReq), s.isDue .discharge = true → s.air.counted = true → s.airState = 7 → s.air.requests = r :: l →
    ∃ u w : State, Ends .dischargeElapsed s (w.framePoint.dropRequest.txBegin r) ∧ Changes [.pins, .timers] [] s u ∧
      w = (match s.air.tx with | some q => u.chargeAir q | none => u)) ∧
  (∀ s : State, s.airState = 7 → s.isDue .offDone = true → s.air.counted = false → Ends .offSequenceComplete s (s.cancel .offDone).txOver) ∧
  (∀ s : State, s.airServes = false → s.air.synLocked = false → s.air.cueState = 0 →
    s.txOver.airState = 0 ∧ s.txOver.air.tx = none ∧ s.txOver.rd (ob 0x4030 0x08) = 0) ∧
  (∀ s : State, s.isDue .synHold = true → s.cal.ready = [] → ∃ u, Ends .synHoldExpired s u ∧ Changes [.air, .timers] [] s u ∧
    u.air = { s.air with synLocked := false, synEntry := none } ∧ u.isArmed .synHold = false) ∧
  (∀ s : State, s.isDue .airBin = true → ∃ u, Ends .ledgerBinRollover s u ∧ Changes [.air, .timers] [] s u ∧
    u.dueAt .airBin = some ((s.now / 60000000 + 1) * 60000000) ∧
    (∀ b, ledgerSum u.air.dc b s.now = ledgerSum s.air.dc b s.now ∧ ledgerSum u.air.lbt b s.now = ledgerSum s.air.lbt b s.now ∧
      ledgerSum u.air.tenantAir b s.now = ledgerSum s.air.tenantAir b s.now))

/-- Sealing a region, the declared gains, and the synthesiser's store. An accepted seal request is pending for 10 s with the status it
came from; its confirm begins the write, 50 ms long. A write that reads back seals: region, status and instant are set, the request is
over, its slot is used; one that fails uses a slot, and the third failure leaves the seal FAILED with its fault. A window that has passed
drops the request with SEAL_MISMATCH, and not before. After sealing a write of a lower PA or bypass gain, or of a higher LNA gain, is
refused REGION_LIMIT; an accepted gain is stored and kept. The first of two runs of a store entry is kept; an entry whose runs are in
range and agree is accepted by itself, and after the last entry the tuning ends with the status of the last entry that failed, or OK. An
automatic retune of the list begins only while the transmitter is idle and no seal is under way. (Rests on: 09_air_radio.md: R231, R232,
R246, R247, R251, R264; 08_calibration.md: R219.) -/
def Obligations.SealingAndStore : Prop :=
  (∀ (s : State) (t : Tenant) (j : Job) (v : Nat), v = 1 ∨ v = 2 → s.Writes t j 0x4000 0x02 (u8 v) → s.air.sealing = none →
    ∃ u, Serves (.sealRequest t) s u t j [] false ∧ Changes [.air, .timers] [ob 0x4000 0x04] s u ∧ u.rd (ob 0x4000 0x04) = 5 ∧
      u.air = { s.air with sealing := some (v, s.rd (ob 0x4000 0x04)) } ∧ u.dueAt .sealWindow = some (s.now + 10000000)) ∧
  (∀ (s : State) (t : Tenant) (j : Job) (v : Nat), s.Writes t j 0x4000 0x03 (u8 v) → v < 256 →
    ∃ u, Serves (.sealConfirm t) s u t j [] false ∧ Changes [.timers] [ob 0x4000 0x04] s u ∧ u.rd (ob 0x4000 0x04) = 6 ∧
      u.isArmed .sealWindow = false ∧ u.dueAt .sealWrite = some (s.now + 50000) ∧
      ∃ c b, s.air.sealing = some (c, b) ∧ v = c ^^^ 0xFF) ∧
  (∀ (s : State) (c b : Nat), s.air.sealing = some (c, b) → s.rd (ob 0x4000 0x04) = 6 →
    (∃ u w : State, Changes [.air, .timers] [ob 0x4000 0x01, ob 0x4000 0x04, ob 0x4000 0x05] s u ∧ u.rd (ob 0x4000 0x01) = c ∧
      u.rd (ob 0x4000 0x04) = 1 ∧ u.rd (ob 0x4000 0x05) = s.now ∧ u.air.sealing = none ∧ u.air.slots = s.air.slots ++ [(c, true)] ∧
      w = (u.raise 833 [t0] []).copyLimits ∧
      Ends (.sealWriteDone true) s ((if w.linkReady .field then w.loadLimits else w).noteAuto 9 0x600).commissionPage.joinNow) ∧
    (s.air.slots.length < 2 → ∃ u : State, Ends (.sealWriteDone false) s ((u.raise 834 [t0] []).wr (ob 0x4000 0x04) 3) ∧
      Changes [.air, .timers] [] s u ∧ u.air.sealing = none ∧ u.air.slots = s.air.slots ++ [(c, false)]) ∧
    (s.air.slots.length = 2 → ∃ u : State, Ends (.sealWriteDone false) s (((u.raise 834 [t0] []).wr (ob 0x4000 0x04) 4).fault 36 3) ∧
      Changes [.air, .timers] [] s u ∧ u.air.sealing = none)) ∧
  (∀ (s : State) (d : Nat), s.dueAt .sealWindow = some d →
    (d < s.now → ∃ u, Ends .sealWindowExpired s u ∧ Changes [.air, .timers] [ob 0x4000 0x04] s u ∧ u.rd (ob 0x4000 0x04) = 2 ∧
      u.air.sealing = none ∧ u.isArmed .sealWindow = false) ∧
    (s.now ≤ d → Ends .sealWindowExpired s s)) ∧
  (∀ (s : State) (t : Tenant) (j : Job) (n x : Nat), n ∈ [2, 3, 4] → x < 2 ^ 16 → s.Writes t j 0x4030 n (u16 x) →
    ∃ u, Serves (.paGainWrite t) s u t j (if s.needsCommit (ob 0x4030 n) x then [(ob 0x4030 n, x)] else []) false ∧
      Changes [] [ob 0x4030 n] s u ∧ u.rd (ob 0x4030 n) = x) ∧
  (∀ (s : State) (n x : Nat), n ∈ [2, 3, 4] → s.profile ≠ 0 →
    (s.gainCheck n x = 0x07 ↔ (n ≠ 4 ∧ toSigned 16 x < s.rdInt (ob 0x4030 n)) ∨ (n = 4 ∧ s.rdInt (ob 0x4030 n) < toSigned 16 x))) ∧
  (∀ (s : State) (r : Run) (k : Nat) (l : List Nat) (u : Tuning), s.air.retune = k :: l → s.cal.running.find? (fun u => u.kind == 9) = some u →
    s.airState = 2 → s.air.first = none → u.auto = true →
    ∃ w, Ends (.synEntryRunDone r) s w ∧ Changes [.air] [] s w ∧ w.air = { s.air with first := some r }) ∧
  (∀ (s : State) (r a : Run) (k : Nat) (u : Tuning), s.air.retune = [k] → s.cal.running.find? (fun u => u.kind == 9) = some u →
    s.airState = 2 → s.air.first = some a →
    (let st := judgeRuns 9 a r
     (st ≠ 0 → ∃ w : State, Ends (.synEntryRunDone r) s (w.endTuning { u with status := st } st).nextTunings ∧
       Changes [.air, .cal] [] s w ∧ w.air = { s.air with retune := [], first := none } ∧
       w.cal = { s.cal with running := s.cal.running.map (fun x => if x = u then { u with status := st } else x) }) ∧
     (st = 0 → ∃ w : State, Ends (.synEntryRunDone r) s (w.endTuning u u.status).nextTunings ∧
       Changes [.air, .cal] [] (s.acceptEntry k r.values) w ∧ w.air.retune = [] ∧ w.air.first = none))) ∧
  (∀ s : State, (s.txIdle = false ∨ 5 ≤ s.rd (ob 0x4000 0x04)) → Ends .autoSynRetune s s) ∧
  (∀ s : State, s.txIdle = true → s.rd (ob 0x4000 0x04) < 5 → (∀ u ∈ s.cal.queue ++ s.cal.running, u.kind ≠ 9) →
    (9, 0x600) ∈ s.cal.autos →
    ∃ u : State, Ends .autoSynRetune s (u.startTuning (autoTuning 9 0x600)) ∧ Changes [.cal] [] s u ∧
      u.cal = { s.cal with autos := s.cal.autos.filter (fun p => p != (9, 0x600)) })

/-- The cue receiver and the listen before talk. A due listen whose level stays at the threshold or below sets the next one; above it the
receiver reads, and gives up after its time; a listen during a tuning of the cue receiver is only put off. Giving up, and a word that does
not match, are false wakes. A matching word is counted and stamped, CUE is raised, and the block wakes, polls and starts the air die. A
stop that is over leaves the receiver off, and starts it again where it is still wanted. A listen before talk that ends on a busy channel
is counted and backs off or ends the frame; on a clear one the transmit request is made. (Rests on: 09_air_radio.md: R254 to R258;
10_mesh_access.md: R281, R301.) -/
def Obligations.CueReceiver : Prop :=
  (∀ (s : State) (d : Nat) (x : Int), s.air.cueState = 1 → s.dueAt .cueListen = some d → d ≤ s.now → s.cal.ready = [] →
    ((∃ u ∈ s.cal.running, u.kind = 7) →
      ∃ u, Ends (.cueListen x) s u ∧ Changes [.timers] [] s u ∧ u.dueAt .cueListen = some s.nextListen) ∧
    (x ≤ s.cueThreshold → (∀ u ∈ s.cal.running, u.kind ≠ 7) →
      ∃ u, Ends (.cueListen x) s u ∧ Changes [.timers, .cal] [] s u ∧ u.cal = { s.cal with heard := true } ∧
        u.dueAt .cueListen = some s.nextListen) ∧
    (s.cueThreshold < x → (∀ u ∈ s.cal.running, u.kind ≠ 7) →
      ∃ u, Ends (.cueListen x) s u ∧ Changes [.air, .timers, .cal] [] s u ∧ u.air = { s.air with cueState := 2 } ∧
      u.cal = { s.cal with heard := true } ∧ u.isArmed .cueListen = false ∧ u.dueAt .cueGiveUp = some (tickUs (ticksAt d - 2 + s.rd (ob 0x4040 0x02) + 16)))) ∧
  (∀ s : State, s.air.cueState = 2 →
    (s.isDue .cueGiveUp = true → Ends .cueGiveUp s s.falseWake) ∧
    (∀ w, s.cueMatches w = false → Ends (.cueWordReceived w) s s.falseWake) ∧
    (∀ w, s.cueMatches w = true → s.rd (ob 0x4040 0x05) + 1 < 2 ^ 32 →
      ∃ u : State, Ends (.cueWordReceived w) s ((((u.raise 842 [t0] []).wakeBy 2).wantPoll.airStart).nextTunings) ∧
        Changes [.air, .timers] [ob 0x4040 0x05, ob 0x4040 0x09] s u ∧ u.air = { s.air with cueState := 1 } ∧
        u.isArmed .cueGiveUp = false ∧ u.rd (ob 0x4040 0x05) = s.rd (ob 0x4040 0x05) + 1 ∧ u.rd (ob 0x4040 0x09) = s.now)) ∧
  (∀ (s : State) (w : Octets), s.air.cueState ≠ 2 → Ends (.cueWordReceived w) s s) ∧
  (∀ s : State, s.rd (ob 0x4040 0x06) + 1 < 2 ^ 32 →
    ∃ u w : State, s.falseWake = u.nextTunings ∧ Changes [] [ob 0x4040 0x06] s w ∧ w.rd (ob 0x4040 0x06) = s.rd (ob 0x4040 0x06) + 1 ∧
      Changes [.air, .cal, .timers] [] (w.raise 843 [t0] []) u ∧ u.air = { s.air with cueState := 1 } ∧
      u.cal = { s.cal with wakes := s.cal.wakes + 1 } ∧ u.isArmed .cueGiveUp = false ∧ u.dueAt .cueListen = some s.nextListen) ∧
  (∀ s : State, s.air.cueState = 3 → s.isDue .cueStop = true → s.cal.ready = [] →
    (s.cueWanted = false → ∃ u, Ends .cueStopDone s u ∧ Changes [.air, .timers] [] s u ∧
      u.air = { s.air with cueState := 0, cueAgain := false } ∧ u.isArmed .cueStop = false) ∧
    (s.cueWanted = true → ∃ u, Ends .cueStopDone s u ∧ Changes [.air, .timers] [] s u ∧
      u.air = { s.air with cueState := 1, cueAgain := false } ∧ u.dueAt .cueListen = some s.nextListen)) ∧
  (∀ (w s : State) (c : Csma) (p g : Int), w.dropStale = s → s.mac.csma = some c → c.stage = .listen → s.isDue .lbt = true →
    ((s.lbtOf s.workChannel).1 ≤ s.atAntenna (s.rd (ob 0x4050 0x03)) p g → s.rd (ob 0x4130 0x05) + 1 < 2 ^ 32 →
      ∃ u : State, Changes [.timers] [ob 0x4130 0x05] s u ∧ u.rd (ob 0x4130 0x05) = s.rd (ob 0x4130 0x05) + 1 ∧ u.isArmed .lbt = false ∧
        Ends (.lbtListenEnd ⟨p, g⟩) w (if s.rd (ob 0x4100 0x0C) < c.nb + 1 then u.endFrame 1 c.attempt
          else u.backoff { c with nb := c.nb + 1, be := min (c.be + 1) (s.rd (ob 0x4100 0x0B)) })) ∧
    (s.atAntenna (s.rd (ob 0x4050 0x03)) p g < (s.lbtOf s.workChannel).1 → s.fitsSlot (s.exchangeUs c) = true →
      ∃ u q, Ends (.lbtListenEnd ⟨p, g⟩) w u ∧ Changes [.mac, .air, .timers] [] s u ∧ u.isArmed .lbt = false ∧
        u.air = { s.air with requests := s.air.requests ++ [q] } ∧ (u.mac.csma.map (fun d => d.stage)) = some .air ∧ q.use = .data))

/-- Frames of the mesh MAC going out. Reports whose events are no longer queued are abandoned first, which changes nothing where there are
none. A pending frame begins only when nothing else is under way, the air die serves and no load is shed; in OFF the air die is started
first; a frame that has its numbers listens first, and nothing but a join goes out before the node has joined (NOT_JOINED). After a
backoff it listens again. An Imm-Ack goes out ahead of every request at its instant; the one that answers the frame ends it OK; a wait
that closes without one is counted, and ends an indirect frame or the last attempt with NO_ACK, else backs off for the next attempt. A
report's hold-off ends at its time. A home channel change is pending for its delay and announced, and takes the new channel when it is due
and the radio is idle. At a slot boundary an idle receiver moves to the slot's channel; a due TIME broadcast is entered and the next one
set. (Rests on: 10_mesh_access.md: R281 to R284, R285, R287, R288, R296, R303.) -/
def Obligations.MacFramesOut : Prop :=
  (∀ s : State, (∀ f ∈ s.mac.indirect, s.unqueued f.origin = false) → (∀ o ∈ s.mac.out, s.unqueued o.kind = false) →
    (∀ c, s.mac.csma = some c → s.unqueued c.frame.kind = false) → s.dropStale = s) ∧
  (∀ w s : State, w.dropStale = s →
    (s.mac.csma ≠ none ∨ s.mac.ack ≠ none ∨ s.power.shedding = true ∨ s.airServes = false ∨ s.linkReady .air = false) →
    Ends .macFrameSend w s) ∧
  (∀ w s : State, w.dropStale = s → s.mac.csma = none → s.mac.ack = none → s.power.shedding = false → s.airServes = true →
    s.linkReady .air = true →
    (s.mac.out ≠ [] → s.airState = 0 → Ends .macFrameSend w s.airStart) ∧
    (s.airState = 2 → (∀ t : Tenant, s.reportDry t = false) → s.nextReport = none → ∀ f, s.nextOut = some f → f ∈ s.mac.out →
      (s.joinState = 0 → f.kind ≠ .join →
        Ends .macFrameSend w (((s.takeOut f).setCsma (s.csmaOf f)).endFrame 3 0)) ∧
      (∀ n, s.joinState = 3 → s.psdu f ≤ 255 → f.numbers = some n →
        Ends .macFrameSend w ((s.takeOut f).listenStart { frame := f, attempt := 0, nb := 0, be := s.rd (ob 0x4100 0x0A), stage := .listen })))) ∧
  (∀ (w s : State) (c : Csma), w.dropStale = s → s.mac.csma = some c → c.stage = .backoff → s.isDue .backoff = true →
    (s.power.shedding = false → Ends .backoffExpired w ((s.cancel .backoff).listenStart c)) ∧
    (s.power.shedding = true → Ends .backoffExpired w s)) ∧
  (∀ (s : State) (seq start : Nat) (more : Bool), s.mac.ack = some (seq, more, start) → s.isDue .immAck = true →
    ∃ u r, Ends .immAckDue s u ∧ Changes [.mac, .air, .timers] [] s u ∧ u.mac = { s.mac with ack := none } ∧
      u.air = { s.air with requests := r :: s.air.requests } ∧ r.use = .ack seq more start ∧ r.index = s.air.channel ∧ u.isArmed .immAck = false) ∧
  (∀ (s : State) (c : Csma) (r : RxFrame) (l : List RxFrame) (n : Nat × Nat × Nat), s.mac.csma = some c → s.mac.rx = r :: l →
    c.stage = .ackWait → r.frame.ftype = 2 → r.frame.fcsOk = true → c.frame.numbers = some n → n.1 = r.frame.seq →
    s.toParent c.frame = false →
    ∃ u : State, Ends .immAckReceived s (u.endFrame 0 (c.attempt + 1)) ∧ Changes [.mac] [] s u ∧ u.mac = { s.mac with rx := l }) ∧
  (∀ (s : State) (c : Csma), s.mac.csma = some c → c.stage = .ackWait → s.isDue .ackWait = true → s.ackPossible = false →
    s.rd (ob 0x4130 0x04) + 1 < 2 ^ 32 →
    ∃ u : State, Changes [.timers] [ob 0x4130 0x04] s u ∧ u.rd (ob 0x4130 0x04) = s.rd (ob 0x4130 0x04) + 1 ∧ u.isArmed .ackWait = false ∧
      Ends .ackWaitClosed s (if (match c.frame.kind with | .indirect _ => true | _ => false) = true ∨ s.rd (ob 0x4100 0x09) < c.attempt + 1 then u.endFrame 2 (c.attempt + 1)
        else u.backoff { c with attempt := c.attempt + 1, nb := 0, be := s.rd (ob 0x4100 0x0A) })) ∧
  (∀ (s : State) (t : Tenant), s.isDue (.reportRetry t) = true →
    (s.sleepy = false ∨ s.airState ≠ 0) → ∃ u, Ends (.reportRetryDue t) s u ∧ Changes [.mac, .timers] [] s u ∧ t ∉ u.mac.held ∧
      u.isArmed (.reportRetry t) = false) ∧
  (∀ (s : State) (t : Tenant) (j : Job) (k : Nat), k < 65536 → s.Writes t j 0x4120 0x04 (u16 k) → (∀ n ∈ s.mac.neighbours, n.relation ≠ 2) →
    ∃ u : State, Serves (.homeChannelChangeRequest t) s ((u.raise 972 [t0] []).arm .homeSwitch
        (u.deviceAt (s.netTime s.now + (2 * s.rd (ob 0x4110 0x04) + 60) * 1000000))) t j [] false ∧
      Changes [] [ob 0x4120 0x02, ob 0x4120 0x03] s u ∧ u.rd (ob 0x4120 0x02) = k ∧
      u.rd (ob 0x4120 0x03) = s.netTime s.now + (2 * s.rd (ob 0x4110 0x04) + 60) * 1000000) ∧
  (∀ s : State, s.isDue .homeSwitch = true → s.changePending = true → s.joinState = 5 → s.airState = 2 → s.mac.csma = none →
    ∃ u : State, Ends .homeChannelSwitch s ((u.tune (s.rd (ob 0x4120 0x02))).raise 973 [t0] []) ∧
      Changes [.timers, .order] [ob 0x4120 0x01, ob 0x4120 0x02] s u ∧ u.rd (ob 0x4120 0x01) = s.rd (ob 0x4120 0x02) ∧
      u.rd (ob 0x4120 0x02) = 0xFFFF ∧ (Commit.own [(ob 0x4120 0x01, s.rd (ob 0x4120 0x02))]) ∈ u.order) ∧
  (∀ s : State, s.isDue .slot = true →
    (s.hops = false → ∃ u, Ends .slotBoundary s u ∧ Changes [.timers] [] s u ∧ u.isArmed .slot = false) ∧
    (s.hops = true → s.airState = 2 → s.joinState = 3 → s.mac.scan = none →
      ∃ u, Ends .slotBoundary s u ∧ Changes [.timers, .air] [] s u ∧
        u.air = (if s.slotChannel s.slot = s.air.channel then s.air
          else { s.air with channel := s.slotChannel s.slot, before := s.rxChannel, tunedAt := s.now }) ∧
        u.dueAt .slot = some (s.deviceAt ((s.slot + 1) * 100000))) ∧
    (s.hops = true → s.airState ≠ 2 →
      ∃ u, Ends .slotBoundary s u ∧ Changes [.timers] [] s u ∧ u.dueAt .slot = some (s.deviceAt ((s.slot + 1) * 100000)))) ∧
  (∀ s : State, s.isDue .timeBroadcast = true →
    (s.role = 2 → s.joinState = 5 → ∃ u, Ends .timeBroadcastDue s u ∧ Changes [.mac, .timers, .crypto] [] s u ∧
      u.mac = { s.mac with out := s.mac.out ++ [{ kind := .timeCast, dest := .short 0xFFFF, payload := s.timeMessage s.now, numbers := none, psdu := [] }] } ∧
      (s.hops = true → ∃ r ≤ 20000, u.dueAt .timeBroadcast = some (s.deviceAt ((s.slot / 8 + 1) * 800000 + r))) ∧
      (s.hops = false → ∃ r ≤ 1000000, u.dueAt .timeBroadcast =
        some ((s.now / (max 1 (s.rd (ob 0x4110 0x03)) * 1000000) + 1) * (max 1 (s.rd (ob 0x4110 0x03)) * 1000000) + r))) ∧
    (s.role = 0 → ∃ u, Ends .timeBroadcastDue s u ∧ Changes [.timers] [] s u ∧ u.isArmed .timeBroadcast = false))

/-- Frames of the mesh coming in: checks, time, polls and forwarding. The oldest received frame leaves the list; a wrong FCS or another's
address drops it silently, an unknown type is counted in 0x4130.0E, unsecured data in .08, a duplicate in .06 and a replay in .07 (raised
too), a wrong MIC in .08 (raised too), a payload that is no message, or a sender for whom there is no room, in .0E; a message that passes
every check is delivered in clear, and a sleepy child it comes from has polled. A unicast frame that asks for it gets its Imm-Ack 1,000 us
after its end, with the pending bit where a frame is held for its sender or a TIME message is due for it, before its content is judged.
TIME heard by a coordinator from another one raises its conflict and fault, with an hour's lapse. A POLL is noted for its child, which is
heard. A MESH message already seen is counted; a new one with no hop left is counted in .0A; one to pass on is counted in .09 and goes to
its next hop with one hop less. Routes and seen pairs lapse at their time. A hopping node whose guard is used up is UNSYNCHRONISED and
scans; a scan that ends without TIME loses the parent. (Rests on: 10_mesh_access.md: R274 to R276, R278, R282, R286, R290, R295.) -/
def Obligations.MacFramesIn : Prop :=
  (∀ s : State, s.mac.rx = [] → Ends .macFrameReceived s s) ∧
  (∀ (s : State) (r : RxFrame) (l : List RxFrame), s.mac.rx = r :: l → s.mac.csma = none →
    (let u : State := { s with mac := { s.mac with rx := l } }
     (r.frame.fcsOk = false → Ends .macFrameReceived s u.sleepIdle) ∧
     (r.frame.ftype = 1 → s.forMe r.frame = false → Ends .macFrameReceived s u.sleepIdle) ∧
     (r.frame.fcsOk = true → r.frame.ftype ≠ 1 → r.frame.ftype ≠ 2 → s.rd (ob 0x4130 0x0E) + 1 < 2 ^ 32 →
       ∃ w : State, Ends .macFrameReceived s w.sleepIdle ∧ Changes [] [ob 0x4130 0x0E] u w ∧
         w.rd (ob 0x4130 0x0E) = s.rd (ob 0x4130 0x0E) + 1) ∧
     (r.frame.fcsOk = true → r.frame.ftype = 1 → s.forMe r.frame = true → r.frame.ackReq = false → s.mac.ack = none →
       s.securedWell r.frame = false → s.rd (ob 0x4130 0x08) + 1 < 2 ^ 32 →
       ∃ w : State, Ends .macFrameReceived s w.sleepIdle ∧ Changes [] [ob 0x4130 0x08] u w ∧
         w.rd (ob 0x4130 0x08) = s.rd (ob 0x4130 0x08) + 1) ∧
     (∀ n, r.frame.fcsOk = true → r.frame.ftype = 1 → s.forMe r.frame = true → r.frame.ackReq = false → s.mac.ack = none →
       s.securedWell r.frame = true → counterCheck (s.checkpointed r.frame) r.frame = n →
       (n = 1 → s.rd (ob 0x4130 0x06) + 1 < 2 ^ 32 →
         ∃ w : State, Ends .macFrameReceived s w.sleepIdle ∧ Changes [] [ob 0x4130 0x06] u w ∧
           w.rd (ob 0x4130 0x06) = s.rd (ob 0x4130 0x06) + 1) ∧
       (n = 2 → s.rd (ob 0x4130 0x07) + 1 < 2 ^ 32 →
         ∃ w : State, Ends .macFrameReceived s (w.raise 967 [t0] []).sleepIdle ∧ Changes [] [ob 0x4130 0x07] u w ∧
           w.rd (ob 0x4130 0x07) = s.rd (ob 0x4130 0x07) + 1) ∧
       (let f := r.frame
        let m := nonce (s.senderExt f) f.counter f.level
        let p := ccmCrypt (s.netKey f.keyIndex) m f.payload
        (n ≠ 1 → n ≠ 2 → ccmMic (s.netKey f.keyIndex) m f.header p (micLen f.level) ≠ f.mic → s.rd (ob 0x4130 0x08) + 1 < 2 ^ 32 →
          ∃ w : State, Ends .macFrameReceived s (w.raise 966 [t0] []).sleepIdle ∧ Changes [] [ob 0x4130 0x08] u w ∧
            w.rd (ob 0x4130 0x08) = s.rd (ob 0x4130 0x08) + 1) ∧
        (∀ w : State, n ≠ 1 → n ≠ 2 → ccmMic (s.netKey f.keyIndex) m f.header p (micLen f.level) = f.mic → u.hear r = some w →
          Changes [.mac] [] s w ∧
          (isMessage p = true →
            (let x : State := { w with mac := { w.mac with
               inbox := w.mac.inbox ++ [{ src := f.src, payload := p, quality := r.quality, sfdAt := r.sfdAt, more := f.more }] } }
             Ends .macFrameReceived s (if isUnicast f = true ∧ byteAt p 0 ≠ 1 then x.polled (srcShort f.src) else x).sleepIdle)) ∧
          (isMessage p = false → s.rd (ob 0x4130 0x0E) + 1 < 2 ^ 32 →
            ∃ x : State, Ends .macFrameReceived s x.sleepIdle ∧ Changes [] [ob 0x4130 0x0E] w x ∧
              x.rd (ob 0x4130 0x0E) = s.rd (ob 0x4130 0x0E) + 1)) ∧
        (n ≠ 1 → n ≠ 2 → ccmMic (s.netKey f.keyIndex) m f.header p (micLen f.level) = f.mic → u.hear r = none →
          s.rd (ob 0x4130 0x0E) + 1 < 2 ^ 32 →
          ∃ x : State, Ends .macFrameReceived s x.sleepIdle ∧ Changes [] [ob 0x4130 0x0E] u x ∧
            x.rd (ob 0x4130 0x0E) = s.rd (ob 0x4130 0x0E) + 1))) ∧
     (r.frame.fcsOk = true → r.frame.ftype = 1 → s.forMe r.frame = true → r.frame.ackReq = true → isUnicast r.frame = true →
       ∃ w : State, Ends .macFrameReceived s (w.letIn r).sleepIdle ∧ Changes [.mac, .timers] [] s w ∧
         w.mac = { s.mac with
           rx := l, ack := some (r.frame.seq, !(s.heldFor (srcShort r.frame.src)).isEmpty || s.isDue (.sync (srcShort r.frame.src)), r.endAt + 1000),
           listening := if s.sleepy then r.frame.more || s.joinState != 3 else s.mac.listening } ∧
         w.dueAt .immAck = some (r.endAt + 1000 - (s.onSequence s.air.channel + 16))))) ∧
  (∀ (s w : State) (r : RxFrame), s.securedWell r.frame = true → counterCheck (s.checkpointed r.frame) r.frame = 0 → s.hear r = some w →
    (let f := r.frame
     let m := nonce (s.senderExt f) f.counter f.level
     let p := ccmCrypt (s.netKey f.keyIndex) m f.payload
     ccmMic (s.netKey f.keyIndex) m f.header p (micLen f.level) = f.mic → isMessage p = true →
      (let x : State := { w with mac := { w.mac with
         inbox := w.mac.inbox ++ [{ src := f.src, payload := p, quality := r.quality, sfdAt := r.sfdAt, more := f.more }] } }
       s.letIn r = (if isUnicast f = true ∧ byteAt p 0 ≠ 1 then x.polled (srcShort f.src) else x)))) ∧
  (∀ (s w : State) (d : Delivered), s.takeMessage 1 = some (d, w) →
    Ends .poll s (((w.setNeighbour (srcShort d.src) (fun n => { n with poll := u16At d.payload 1 })).polled (srcShort d.src)).sleepIdle)) ∧
  (∀ (s w : State) (d : Delivered), s.takeMessage 2 = some (d, w) →
    (let u := (w.setNeighbour (srcShort d.src) (fun n => { n with depth := byteAt d.payload 9 })).scanHears d
     (s.joinState = 5 → byteAt d.payload 9 = 0 → leNat (slice 11 8 d.payload) ≠ s.ext →
       Ends .time s (((u.raise 971 [t0] []).fault 64 (leNat (slice 11 8 d.payload) % 2 ^ 32)).armIn .foreignCoord 3600000000)) ∧
     (s.joinState = 3 → srcShort d.src = s.parent → Ends .time s (u.acceptTime d).sleepIdle) ∧
     (s.joinState = 0 → Ends .time s u.sleepIdle))) ∧
  (∀ (s w : State) (d : Delivered), s.takeMessage 0x40 = some (d, w) →
    (let p := d.payload
     let key := u16At p 2 * 256 + byteAt p 7
     let y := w.learnRoute (u16At p 2) (srcShort d.src)
     let x := y.noteDup key
     (key ∈ s.mac.dups → s.rd (ob 0x4130 0x0B) + 1 < 2 ^ 32 →
       ∃ u : State, Ends .mesh s u.sleepIdle ∧ Changes [] [ob 0x4130 0x0B] y u ∧ u.rd (ob 0x4130 0x0B) = s.rd (ob 0x4130 0x0B) + 1) ∧
     (key ∉ s.mac.dups → u16At p 4 = s.short →
       Ends .mesh s (x.meshInner (u16At p 2) (byteAt p 6) (byteAt p 8) (p.drop 9)).sleepIdle) ∧
     (key ∉ s.mac.dups → u16At p 4 ≠ s.short → s.role ≠ 0 → byteAt p 6 = 0 → s.rd (ob 0x4130 0x0A) + 1 < 2 ^ 32 →
       ∃ u, Ends .mesh s u ∧ Changes [] [ob 0x4130 0x0A] x u ∧ u.rd (ob 0x4130 0x0A) = s.rd (ob 0x4130 0x0A) + 1) ∧
     (key ∉ s.mac.dups → u16At p 4 ≠ s.short → s.role ≠ 0 → byteAt p 6 ≠ 0 → s.rd (ob 0x4130 0x09) + 1 < 2 ^ 32 →
       ∃ u : State, Ends .mesh s (u.passMesh .forward (u16At p 4) (splice 6 (u8 (byteAt p 6 - 1)) p)) ∧ Changes [] [ob 0x4130 0x09] x u ∧
         u.rd (ob 0x4130 0x09) = s.rd (ob 0x4130 0x09) + 1))) ∧
  (∀ (s : State) (k : Nat), s.isDue (.route k) = true → ∃ u, Ends (.routeLapse k) s u ∧ Changes [.mac, .timers] [] s u ∧
    u.mac = { s.mac with routes := s.mac.routes.filter (fun r => r.1 != k) } ∧ u.isArmed (.route k) = false) ∧
  (∀ (s : State) (k : Nat), s.isDue (.dup k) = true → ∃ u, Ends (.meshDupLapse k) s u ∧ Changes [.mac, .timers] [] s u ∧
    u.mac = { s.mac with dups := s.mac.dups.filter (fun x => x != k) } ∧ u.isArmed (.dup k) = false) ∧
  (∀ s : State, s.isDue .unsync = true → s.joinState = 3 → s.hops = true →
    ∃ u : State, Changes [.timers] [ob 0x4100 0x06] s u ∧ u.joinState = 4 ∧ u.isArmed .unsync = false ∧
      Ends .unsynchronised s (((({ u.raise 974 [t0] [] with mac := { s.mac with listening := true } } : State).tune (s.hopAt 0)).airStart).armIn
        .unsyncScan (8 * s.hopN * 100000))) ∧
  (∀ s : State, s.isDue .unsyncScan = true → s.joinState = 4 → Ends .unsyncScanTimeout s (s.cancel .unsyncScan).parentLost)

/-- Joining a network, and the sleepy children of a parent. A coordinator answers a JOIN_REQUEST by itself (not permitted: JOIN_DENY 2), a
router relays it, a short source's is counted malformed. A JOIN_ACCEPT of the chosen parent takes the address, the parent and its depth,
the overwritten objects are kept, and the node is JOINED; a JOIN_DENY of it, or no answer in time, is a failed join. A scan goes on to its
next channel, or is over. A failed join is tried again after its hold-off. A foreign coordinator's cause lapses. Freeing an address frees
its entry and enters a commit. A child that has gone leaves the table; an expired frame leaves its queue, counted, raised and reported
EXPIRED; a due cue delay or repeat sends a pattern while fewer than the permitted ones were sent; a due poll wakes the block and polls; a
pending wait that is over, and one not due, are seen to; a due sync interval holds a TIME message for its child. (Rests on:
10_mesh_access.md: R270, R271, R274, R289 to R291, R301, Table 10-2.) -/
def Obligations.JoiningAndSleepers : Prop :=
  (∀ (s w : State) (d : Delivered), s.takeMessage 3 = some (d, w) →
    (∀ a, d.src = .short a → s.rd (ob 0x4130 0x0E) + 1 < 2 ^ 32 →
      ∃ u, Ends .joinRequest s u ∧ Changes [] [ob 0x4130 0x0E] w u ∧ u.rd (ob 0x4130 0x0E) = s.rd (ob 0x4130 0x0E) + 1) ∧
    (∀ x, d.src = .ext x →
      (let u : State := { w with mac := { w.mac with
          joiners := (x, byteAt d.payload 1, u16At d.payload 2) :: w.mac.joiners.filter (fun j => j.1 != x) } }
       (s.joinState = 5 → s.rd (ob 0x4100 0x0E) = 0 → Ends .joinRequest s (u.deliverAnswer x (u8 5 ++ u8 2))) ∧
       (s.joinState = 3 → s.role = 1 → Ends .joinRequest s (u.originate .join 0 3 false (u64 x ++ d.payload)))))) ∧
  (∀ (s w : State) (d : Delivered) (c : Candidate), s.takeMessage 4 = some (d, w) → s.mac.target = some c → s.joinState = 2 →
    srcShort d.src = c.short →
    ∃ u : State, Ends .joinAccept s ((u.raise 960 [t0] []).joinedWork).sleepIdle ∧ u.joinState = 3 ∧ u.short = u16At d.payload 1 ∧
      u.parent = c.short ∧ u.rd (ob 0x4100 0x05) = c.depth + 1 ∧ u.isArmed .join = false ∧ (Commit.own (acceptWrites d.payload)) ∈ u.order ∧
      u.mac.listening = false) ∧
  (∀ (s w : State) (d : Delivered) (c : Candidate), s.takeMessage 5 = some (d, w) → s.mac.target = some c → s.joinState = 2 →
    srcShort d.src = c.short → Ends .joinDeny s w.joinFailed) ∧
  (∀ s : State, s.isDue .join = true → s.joinState = 2 → Ends .joinTimeout s s.joinFailed) ∧
  (∀ s : State, s.sleepy = false →
    ∃ u : State, s.joinFailed = (u.raise 961 [t0] []).armIn .joinRetry (s.rd (ob 0x4110 0x06)) ∧ Changes [.timers, .mac] [ob 0x4100 0x06] s u ∧
      u.joinState = 0 ∧ u.mac = { s.mac with scan := none, listening := false }) ∧
  (∀ (s : State) (x : Scan) (k : Nat) (l : List Nat), s.mac.scan = some x → s.isDue .joinScan = true →
    (x.left = k :: l → x.found = [] → ∃ u, Ends .joinScanEnd s u ∧ Changes [.mac, .air, .timers] [] s u ∧
      u.mac = { s.mac with scan := some { x with left := l, channel := k } } ∧
      u.air = (if s.airState = 2 ∧ k ≠ s.air.channel then { s.air with channel := k, before := s.rxChannel, tunedAt := s.now } else s.air) ∧
      u.dueAt .joinScan = some (s.now + s.scanUs)) ∧
    (x.left = [] ∨ x.found ≠ [] → Ends .joinScanEnd s (s.scanDone x))) ∧
  (∀ s : State, s.isDue .joinRetry = true → s.joinState = 0 →
    (s.canJoin = true → Ends .joinRetry s (((s.cancel .joinRetry).wakeBy 1).startScan false false)) ∧
    (s.canJoin = false → Ends .joinRetry s (s.cancel .joinRetry))) ∧
  (∀ s : State, s.isDue .foreignCoord = true → ∃ u, Ends .coordinatorConflictLapse s u ∧ Changes [.timers, .faults] [] s u ∧
    u.isArmed .foreignCoord = false ∧ u.faults = { s.faults with causes := s.faults.causes.filter (fun c => c.1 != 64) }) ∧
  (∀ (s : State) (t : Tenant) (j : Job) (a : Nat), a < 65536 → s.Writes t j 0x4100 0x0F (u16 a) →
    ∃ u : State, Serves (.meshAddressRelease t) s (u.commit (.own [])) t j [] false ∧ Changes [.mac] [] s u ∧
      u.mac = { s.mac with addresses := s.mac.addresses.filter (fun p => p.1 != a) }) ∧
  (∀ (s : State) (a : Nat), s.isDue (.child a) = true → s.heldFor a = [] →
    ∃ u : State, Ends (.childExpired a) s (u.raise 964 [t0] []) ∧ Changes [.mac, .timers] [] s u ∧
      u.mac = { s.mac with neighbours := s.mac.neighbours.filter (fun n => !(n.short == a && n.child)) } ∧ u.isArmed (.child a) = false) ∧
  (∀ (s : State) (f : Indirect), s.mac.indirect.find? (fun g => g.id == f.id) = some f → s.isDue (.indirect f.id) = true →
    s.sendsIndirect f.id = false → s.rd (ob 0x4130 0x0C) + 1 < 2 ^ 32 →
    ∃ u : State, Ends (.indirectExpired f.id) s (((u.raise 975 [t0] []).kindEnded f.origin 5).txFailed f.origin.tenant 5 0 f.child) ∧
      Changes [.mac, .timers] [ob 0x4130 0x0C] s u ∧ u.rd (ob 0x4130 0x0C) = s.rd (ob 0x4130 0x0C) + 1 ∧
      (∀ g ∈ u.mac.indirect, g.id ≠ f.id) ∧ u.isArmed (.indirect f.id) = false) ∧
  (∀ (s : State) (f : Indirect), s.mac.indirect.find? (fun g => g.id == f.id) = some f →
    (s.isDue (.cueDelay f.id) = true →
      Ends (.cueDelayExpired f.id) s (if f.cues = 0 then (s.cancel (.cueDelay f.id)).cueFor f else s.cancel (.cueDelay f.id))) ∧
    (s.isDue (.cueRetry f.id) = true →
      Ends (.cueRetryDue f.id) s (if f.cues ≤ 3 then (s.cancel (.cueRetry f.id)).cueFor f else s.cancel (.cueRetry f.id)))) ∧
  (∀ s : State, s.isDue .poll = true →
    (s.sleepy = true → s.joinState = 3 →
      Ends .pollIntervalExpired s (((s.wakeBy 1).armIn .poll (s.rd (ob 0x4110 0x01) * 1000000)).wantPoll.airStart)) ∧
    (s.sleepy = false → Ends .pollIntervalExpired s (s.cancel .poll))) ∧
  (∀ s : State, s.isDue .pendingWait = true → s.airState = 2 →
    ∃ u : State, Ends .pendingWaitExpired s u.sleepIdle ∧ Changes [.mac, .timers] [] s u ∧ u.mac = { s.mac with listening := false } ∧
      u.isArmed .pendingWait = false) ∧
  (∀ (s : State) (n : Neighbour), s.mac.neighbours = [n] → n.relation = 2 → s.isDue (.sync n.short) = true →
    Ends .syncTimeInsert s ((s.holdFor .timeCast n.short (s.timeMessage s.now) false true).armIn (.sync n.short)
      (s.rd (ob 0x4110 0x04) * 1000000))) ∧
  (∀ s : State, (∀ n ∈ s.mac.neighbours, s.isDue (.sync n.short) = false) → Ends .syncTimeInsert s s)

/-- A received line frame is checked before it acts. Of every line frame received: one with a framing error is counted in 0x5030.04, one
whose CRC is wrong in 0x5030.03, and nothing else happens; a good frame of another type than its command's changes nothing; a good one of
its type that is neither for the head's exchange nor received by a member is only counted in 0x5030.02. (Rests on: 11_garlys_line.md:
R312, R313, Table 11-4.) -/
def Obligations.LineFrameChecks : Prop :=
  ∀ (s : State) (f : LineIn) (r : Nat) (p : Instr × Nat),
    p ∈ [(Instr.linePollReceived f, 0), (.lineEmptyReceived f, 1), (.lineDataReceived f, 2), (.lineAckReceived f, 3), (.lineNakReceived f, 4),
      (.lineTimeReceived f, 5), (.linePresenceReceived f, 6), (.searchStartReceived f, 7), (.searchPassReceived f, 8), (.searchEndReceived f, 9),
      (.assignReceived f, 0xA), (.walkProbeReceived f r, 0xB), (.walkTallyReceived f, 0xC), (.isolateReceived f, 0xD),
      (.reconnectReceived f, 0xE)] →
    (checkLine f = .framing → s.rd (ob 0x5030 0x04) + 1 < 2 ^ 32 →
      ∃ u, Ends p.1 s u ∧ Changes [] [ob 0x5030 0x04] s u ∧ u.rd (ob 0x5030 0x04) = s.rd (ob 0x5030 0x04) + 1) ∧
    (checkLine f = .crc → s.rd (ob 0x5030 0x03) + 1 < 2 ^ 32 →
      ∃ u, Ends p.1 s u ∧ Changes [] [ob 0x5030 0x03] s u ∧ u.rd (ob 0x5030 0x03) = s.rd (ob 0x5030 0x03) + 1) ∧
    (∀ d x ty q b l, checkLine f = .good d x ty q b l → ty ≠ p.2 → Ends p.1 s s) ∧
    (∀ d x q b l, checkLine f = .good d x p.2 q b l → s.member = false → s.line.ask = none → s.rd (ob 0x5030 0x02) + 1 < 2 ^ 32 →
      ∃ u, Ends p.1 s u ∧ Changes [] [ob 0x5030 0x02] s u ∧ u.rd (ob 0x5030 0x02) = s.rd (ob 0x5030 0x02) + 1)

/-- A line member answers its head. A member that is not LATE notes the rate of each good frame of its head. Polled at its address it
stamps 0x5000.06, renews its address hold and owes after 3 cells its DATA, or EMPTY. DATA is acknowledged and delivered; a repeat is
counted and acknowledged only; with a full buffer it is answered NAK. The ACK of its own DATA empties the outgoing buffer. PRESENCE is
answered by a pulse while UNADDRESSED; SEARCH_START makes it take part, a pass sets what it compares, SEARCH_END ends the part. ASSIGN
naming it gives the address, raises it where new, and owes the ACK from it. The walk's probe of its own address makes it sink; a rise for
another is flagged. ISOLATE owes the ACK and opens the bypass after it; RECONNECT closes it. An address held without head frames is kept,
otherwise dropped. A reply owed goes out at its time. (Rests on: 11_garlys_line.md: R309, R314 to R316, R321, R324, R326 to R329, R331.) -/
def Obligations.LineMember : Prop :=
  (∀ (s : State) (f : LineIn) (d x q : Nat) (b : Bool) (l : Octets), s.member = true → s.lineAddr < 0x20 →
    (let w := (s.inc (ob 0x5030 0x02)).decodedHead f
     let ack := fun (ty : Nat) => lineFrame 0 s.lineAddr ty q false []
     (checkLine f = .good s.lineAddr x 0 q b l → s.lineState = 3 → s.up = false →
       ∃ u, Ends (.linePollReceived f) s u ∧ Changes [.line, .timers] [ob 0x5030 0x02, ob 0x5000 0x04, ob 0x5000 0x06] s u ∧
         u.rd (ob 0x5000 0x06) = s.now ∧ u.dueAt .addressHold = some (s.now + s.rd (ob 0x5010 0x03)) ∧
         u.dueAt .lineReply = some (s.now + cellsUs f.rate 3) ∧ u.rd (ob 0x5000 0x04) = f.rate ∧
         (s.line.outBuf = none → u.line.reply = some (lineFrame 0 s.lineAddr 1 0 false [])) ∧
         (∀ m, s.line.outBuf = some m → m.tries < 3 → u.line.reply = some (lineFrame m.dest m.src 2 m.seq true m.payload))) ∧
     (checkLine f = .good s.lineAddr x 2 q true l →
       (s.lineDup x q = true → s.rd (ob 0x5030 0x06) + 1 < 2 ^ 32 → ∃ u : State, Ends (.lineDataReceived f) s (u.oweReply (ack 3)) ∧
         Changes [] [ob 0x5030 0x06] w u ∧ u.rd (ob 0x5030 0x06) = s.rd (ob 0x5030 0x06) + 1) ∧
       (s.lineDup x q = false → s.line.inBuf ≠ none → Ends (.lineDataReceived f) s (w.oweReply (ack 4))) ∧
       (s.lineDup x q = false → s.line.inBuf = none →
         Ends (.lineDataReceived f) s (((w.oweReply (ack 3)).noteSeq x q).lineDeliver x l))) ∧
     (∀ m, checkLine f = .good s.lineAddr x 3 q b l → s.line.outBuf = some m → q = m.seq % 8 → m.tries ≠ 0 → m.report = none →
       m.answers = none → ∃ u, Ends (.lineAckReceived f) s u ∧ Changes [.line] [] w u ∧ u.line.outBuf = none ∧ u.line.queue = s.line.queue) ∧
     (checkLine f = .good d x 4 q b l → Ends (.lineNakReceived f) s w) ∧
     (checkLine f = .good d x 6 q b l → Ends (.linePresenceReceived f) s (if s.lineState = 1 then w.oweReply [] else w)) ∧
     (checkLine f = .good d x 7 q b l → s.lineState = 1 → ∃ u, Ends (.searchStartReceived f) s u ∧ Changes [.line] [] w u ∧
       u.line = { w.line with part := some (byteAt l 0), passing := false, lateTold := false }) ∧
     (checkLine f = .good d x 8 q b l → s.lineState = 1 → s.line.part = some (byteAt l 0) →
       ∃ u, Ends (.searchPassReceived f) s u ∧ Changes [.line] [] w u ∧ u.line.passLen = byteAt l 1 ∧
         u.line.passing = (s.rd (ob 0x5000 0x02) % 2 ^ byteAt l 1 == leNat (slice 2 8 l) % 2 ^ byteAt l 1)) ∧
     (checkLine f = .good d x 9 q b l → ∃ u, Ends (.searchEndReceived f) s u ∧ Changes [.line] [ob 0x5000 0x03] w u ∧
       u.line.part = none ∧ u.line.passing = false ∧ u.lineState = (if s.lineState = 2 then 1 else s.lineState)) ∧
     (∀ t n : Nat, checkLine f = .good 0xFF x 5 q b l → l.length = 8 → leNat l = n → s.now - cellsUs f.rate (8 * f.bytes.length + 2) = t →
       Ends (.lineTimeReceived f) s ((((w.wr (ob 0x5050 0x04) t).raise 1035 [t0] []).lineMeasure t n).setOffset 3 ((n : Int) - t + s.now))))) ∧
  (∀ (s : State) (f : LineIn) (d x q a : Nat) (b : Bool) (l : Octets), s.member = true →
    checkLine f = .good d x 0xA q b l → l.length = 9 → leNat (l.take 8) = s.rd (ob 0x5000 0x02) → byteAt l 8 = a →
    (let w := (s.inc (ob 0x5030 0x02)).decodedHead f
     let v := if s.lineAddr = a then w else (w.wrKeep [(ob 0x5000 0x01, a)]).raise 1024 [t0] []
     ∃ u : State, Ends (.assignReceived f) s (u.oweReply (lineFrame 0 a 3 q false [])) ∧ Changes [.line, .timers] [ob 0x5000 0x03] v u ∧
       u.lineState = 3 ∧ u.line.part = none ∧ u.dueAt .addressHold = some (s.now + s.rd (ob 0x5010 0x03)) ∧ u.lineAddr = a)) ∧
  (∀ (s : State) (f : LineIn) (d x q r : Nat) (b : Bool) (l : Octets), s.member = true →
    (let w := (s.inc (ob 0x5030 0x02)).decodedHead f
     (checkLine f = .good d x 0xB q b l →
       (byteAt l 0 = s.lineAddr → ∃ u, Ends (.walkProbeReceived f r) s u ∧ Changes [.line] [] w u ∧ u.line = { w.line with pulse := some 0 }) ∧
       (byteAt l 0 ≠ s.lineAddr → ∃ u, Ends (.walkProbeReceived f r) s u ∧ Changes [.line] [] w u ∧
         (byteAt l 0 ∈ u.line.flags ↔ 60 ≤ r))) ∧
     (checkLine f = .good d x 0xC q b l → byteAt l 0 ∈ s.line.flags → s.lineAddr ≠ 0xFF →
       ∃ u, Ends (.walkTallyReceived f) s u ∧ Changes [.line] [] w u ∧ u.line = { w.line with pulse := some s.lineAddr }) ∧
     (checkLine f = .good s.lineAddr x 0xD q b l → s.lineAddr ≠ 0xFF →
       ∃ u, Ends (.isolateReceived f) s u ∧ Changes [.line, .timers] [] w u ∧ u.line.reply = some (lineFrame 0 s.lineAddr 3 q false []) ∧
         u.dueAt .bypass = some (s.now + cellsUs f.rate (3 + lineCells 6 + 4))) ∧
     (checkLine f = .good 0xFF x 0xE q b l → ∃ u, Ends (.reconnectReceived f) s u ∧ Changes [.timers] [ob 0x5000 0x03, ob 0x5000 0x07] w u ∧
       u.rd (ob 0x5000 0x07) = 0 ∧ u.lineState = (if s.lineState = 4 then 3 else s.lineState) ∧ u.isArmed .bypass = false))) ∧
  (∀ s : State, s.isDue .bypass = true → ∃ u : State, Ends .bypassOpenDue s (u.raise 1039 [t0] []) ∧
    Changes [.timers] [ob 0x5000 0x03, ob 0x5000 0x07] s u ∧ u.rd (ob 0x5000 0x07) = 1 ∧ u.lineState = 4) ∧
  (∀ s : State, s.isDue .addressHold = true → s.lineAddr ≠ 0xFF → s.member = true →
    (s.line.decoded = false → ∃ u, Ends .addressHoldExpired s u ∧ Changes [.timers] [] s u ∧
      u.dueAt .addressHold = some (s.now + s.rd (ob 0x5010 0x03))) ∧
    (s.line.decoded = true → ∃ u : State, Ends .addressHoldExpired s (u.raise 1025 [t0] []) ∧
      Changes [.line, .timers, .order] [ob 0x5000 0x01, ob 0x5000 0x03, ob 0x5000 0x07] s u ∧ u.lineAddr = 0xFF ∧ u.lineState = 1 ∧
      (Commit.own [(ob 0x5000 0x01, 0xFF)]) ∈ u.order)) ∧
  (∀ (s : State) (b : Octets), s.line.reply = some b → b ≠ [] → byteAt b 2 % 16 ≠ 2 → s.member = true → s.isDue .lineReply = true →
    s.rd (ob 0x5030 0x01) + 1 < 2 ^ 32 →
    ∃ u, Ends .lineReplyDue s u ∧ Changes [.line, .timers] [ob 0x5030 0x01] s u ∧ u.line = { s.line with reply := none, sent := b } ∧
      u.rd (ob 0x5030 0x01) = s.rd (ob 0x5030 0x01) + 1 ∧ u.isArmed .lineReply = false)

/-- The line head's cycle, exchanges, search and conflicts. A due cycle latches the rate, lists the members to poll and sets the next
cycle. A window that closes empty is counted NO_REPLY: a poll counts a miss, DATA and ISOLATE count as unacknowledged, an ASSIGN is
repeated or lost; then the next exchange follows. EMPTY and NAK of the polled or addressed member close the window; the ACK of an ASSIGN
enters its member. TIME carries the device time of its own mark; PRESENCE is sent with its window; a pulse starts a search, and a pass
that names no identity counts it VANISHED, one that names a known or new member sends ASSIGN. A walk without members ends at once. The
accepted commands mark a search or walk wanted, or queue the bypass command, and freeing an address frees its entry with a commit. A
foreign dip raises its conflict for a minute; an overcurrent switches the driver off for a second, then the line rises again, and both
causes lapse. (Rests on: 11_garlys_line.md: R314 to R318, R322 to R326, R328 to R331.) -/
def Obligations.LineHead : Prop :=
  (∀ s : State, s.driving = true → s.isDue .linePoll = true → s.line.inCycle = false → s.line.ask = none → s.line.search = none →
    (∀ t : Tenant, s.reportDry t = false) → (∀ t : Tenant, s.mayReport t = false) →
    ∃ u : State, Ends .headPollCycle s u.lineNext ∧ Changes [.line, .timers] [] s u ∧ u.dueAt .linePoll = some (s.now + s.rd (ob 0x5020 0x03)) ∧
      u.line = { s.line with rate := s.rd (ob 0x5020 0x01), cycle := s.cycleOf, inCycle := true, skipData := false }) ∧
  (∀ (s : State) (x : LineAsk), s.line.ask = some x → s.isDue .lineWindow = true → s.rd (ob 0x5030 0x05) + 1 < 2 ^ 32 →
    ∃ u : State, Changes [.line, .timers] [ob 0x5030 0x05] s u ∧ u.rd (ob 0x5030 0x05) = s.rd (ob 0x5030 0x05) + 1 ∧
      u.line = { s.line with ask := none } ∧ u.isArmed .lineWindow = false ∧
      Ends .lineReplyWindowClose s (match x with
        | .poll a => (u.nodeMissed a).lineNext
        | .data m => (u.headUnacked m).lineNext
        | .isolate a => (u.raise 1040 [t0] (u8 1 ++ u8 1 ++ u8 a)).lineNext
        | .presence => u.lineNext
        | .assign i a n => u.assignFailed i a n)) ∧
  (∀ (s : State) (f : LineIn) (d x q : Nat) (b : Bool) (l : Octets), s.driving = true →
    (let w := s.inc (ob 0x5030 0x02)
     (checkLine f = .good d x 1 q b l → s.line.ask = some (.poll x) → Ends (.lineEmptyReceived f) s ((w.answered.nodeHeard x).lineNext)) ∧
     (∀ m, checkLine f = .good d x 4 q b l → s.line.ask = some (.data m) → x = m.dest → q = m.seq % 8 →
       Ends (.lineNakReceived f) s ((w.answered.nodeHeard x).headUnacked m).lineNext) ∧
     (∀ i n, checkLine f = .good d x 3 q b l → s.line.ask = some (.assign i x n) →
       Ends (.lineAckReceived f) s (w.answered.nodeAssigned i x)) ∧
     (∀ a, checkLine f = .good d x 2 q b l → s.line.ask = some (.poll a) → Ends (.lineDataReceived f) s (w.headData d a q l)))) ∧
  (∀ s : State, s.driving = true → s.line.ask = none → s.line.search = none →
    (s.isDue .lineTime = true → Ends .lineTimeDue s ((s.armIn .lineTime (s.rd (ob 0x5020 0x06) * 1000000)).headSend 0xFF 5 0 none
      (u64 (s.now + cellsUs s.line.rate 14)) 0)) ∧
    (s.line.presence = true → s.line.inCycle = false → s.rd (ob 0x5030 0x01) + 1 < 2 ^ 32 →
      ∃ u, Ends .presenceDue s u ∧ Changes [.line, .timers] [ob 0x5030 0x01] s u ∧ u.line.ask = some .presence ∧ u.line.presence = false ∧
        u.dueAt .presence = some (s.now + s.rd (ob 0x5020 0x04)) ∧ u.isArmed .lineWindow = true)) ∧
  (∀ s : State, s.driving = true → s.line.ask = some .presence → Ends .presenceSeen s ((s.answered.raise 1027 [t0] []).startSearch)) ∧
  (∀ (s : State) (x : Search) (n p : Nat) (l : List (Nat × Nat)) (v : List (Bool × Bool)), s.driving = true → s.line.ask = none →
    s.line.search = some x → x.stack = (n, p) :: l → s.rd (ob 0x5030 0x01) + 1 < 2 ^ 32 →
    ∃ u : State, Changes [.line, .timers] [ob 0x5030 0x01] s u ∧
      u.line.search = some { x with stack := (triplets n p (64 - n) v l).2, passes := x.passes + 1 } ∧
      ((triplets n p (64 - n) v l).1 = none → Ends (.headSearchPass v) s (u.vanished 0 0).searchOn) ∧
      (∀ i a, (triplets n p (64 - n) v l).1 = some i → s.nodeFor i = some a → Ends (.headSearchPass v) s (u.sendAssign i a 0)) ∧
      (∀ i, (triplets n p (64 - n) v l).1 = some i → s.nodeFor i = none →
        Ends (.headSearchPass v) s (u.raise 1030 [t0] (u8 0xFF ++ u64 i)).searchOn)) ∧
  (∀ (s : State) (v : List WalkSeen), s.driving = true → s.line.walk = true → s.line.ask = none → s.line.search = none →
    s.line.inCycle = false → s.line.table = [] →
    ∃ u : State, Ends (.headWalk v) s ((u.commit (.own [])).raise 1034 [t0] []) ∧ Changes [.line] [] s u ∧
      u.line = { s.line with walk := false }) ∧
  (∀ (s : State) (t : Tenant) (j : Job) (a : Nat),
    (s.Writes t j 0x5020 0x09 [1] → ∃ u : State, Serves (.searchNow t) s u.lineNext t j [] false ∧ Changes [.line] [] s u ∧
      u.line = { s.line with wanted := true }) ∧
    (s.Writes t j 0x5020 0x09 [2] → ∃ u, Serves (.walkNow t) s u t j [] false ∧ Changes [.line] [] s u ∧
      u.line = { s.line with walk := true }) ∧
    (s.Writes t j 0x5020 0x09 [3] → ∃ u : State, Serves (.isolateCommand t) s u.lineNext t j [] false ∧ Changes [.line] [] s u ∧
      u.line = { s.line with cmds := s.line.cmds ++ [(0x0D, s.rd (ob 0x5020 0x0A))] }) ∧
    (s.Writes t j 0x5020 0x09 [4] → ∃ u : State, Serves (.reconnectCommand t) s u.lineNext t j [] false ∧ Changes [.line] [] s u ∧
      u.line = { s.line with cmds := s.line.cmds ++ [(0x0E, s.rd (ob 0x5020 0x0A))] }) ∧
    (a < 256 → s.Writes t j 0x5020 0x0C (u8 a) → ∃ u : State, Serves (.lineAddressRelease t) s (u.commit (.own [])) t j [] false ∧
      Changes [.line] [] s u ∧ u.node a = none ∧ a ∉ u.line.cycle)) ∧
  (∀ s : State, s.driving = true → Ends .foreignDip s (((s.raise 1038 [t0] []).fault 80 0).armIn .foreignDip 60000000)) ∧
  (∀ (s : State) (p : Instr × Timer × Nat), p ∈ [(Instr.headConflictLapse, Timer.foreignDip, 80), (.lineOvercurrentLapse, .lineOvercurrent, 81)] →
    s.isDue p.2.1 = true → ∃ u, Ends p.1 s u ∧ Changes [.timers, .faults] [] s u ∧ u.isArmed p.2.1 = false ∧
      u.faults = { s.faults with causes := s.faults.causes.filter (fun c => c.1 != p.2.2) }) ∧
  (∀ (s : State) (n : Nat), s.driving = true → s.rd (ob 0x5020 0x07) < n →
    ∃ u : State, Ends (.lineOvercurrent n) s ((((u.raise 1037 [t0] []).fault 81 n).cancel .lineOvercurrent).armIn .lineOff 1000000) ∧
      Changes [.line, .timers] [] s u ∧ u.line = { s.line with ask := none, driver := false, inCycle := false, cycle := [] }) ∧
  (∀ (s : State) (n : Nat), n ≤ s.rd (ob 0x5020 0x07) → Ends (.lineOvercurrent n) s s) ∧
  (∀ s : State, s.isDue .lineOff = true → ∃ u, Ends .lineOffHoldEnd s u ∧ Changes [.line, .timers] [] s u ∧
    u.line = { s.line with driver := s.head } ∧ u.dueAt .linePoll = some s.now ∧ u.dueAt .lineOvercurrent = some (s.now + 1000000) ∧
    u.isArmed .lineOff = false)

/-- The pocket port: field, supply, card layer, sessions' end, page commits and the bridge's timers. A field that comes is noted, starts
the card layer on the supply, and is raised; one that goes ends the session. On HARVEST the port starts at 1.8 V, its card layer idle, a
scrub due, with a new UID, and stops below 1.7 V. REQA and WUPA, the selection of the UID, RATS, PPS, DESELECT and HLTA move the card
layer through the states of R341 and R353 with the answers they give; HLTA takes a fresh UID. The end of a session puts 0x5400.02 at 0 and
.03 at 0xFF, forgets its secrets and is raised to T0 and the tenant (outside a session nothing is raised). The idle timeout ends a
session. A due S(WTX) is sent again every 60,000 us, a bridge command without a reply is ended with 0x910F. A page commit that succeeds
leaves the page in its new copy, is counted, and answers the wand's WRITE with 0x9000; one that fails raises POCKET_NVM_FAULT and its
event. (Rests on: 12_pocket_port.md: R340, R341, R344, R345, R353, R362, Table 12-1.) -/
def Obligations.PocketCardAndField : Prop :=
  (∀ s : State, s.pocket.field = false →
    ∃ u, Ends .fieldOn s (u.pocketRaise 1056 [t0] []) ∧ Changes [.pocket] [ob 0x5400 0x01] s u ∧ u.rd (ob 0x5400 0x01) = 1 ∧ u.pocket =
      (if s.pocket.running then { s.pocket with field := true, card := .idle, resp := [] } else { s.pocket with field := true })) ∧
  (∀ s : State, s.pocket.field = true →
    Ends .fieldOn s s ∧
    ∃ u, Ends .fieldOff s (u.pocketRaise 1057 [t0] []) ∧ Changes [.pocket] [ob 0x5400 0x01] s.pocketEnd u ∧ u.rd (ob 0x5400 0x01) = 0 ∧
      u.pocket = { s.pocketEnd.pocket with field := false, card := .off, held := none, answer := none }) ∧
  (∀ (s : State) (mv : Nat), s.power.powered = false → s.pocket.running = false → s.pocket.field = true → 1800 ≤ mv →
    s.pocket.commits = [] →
    ∃ u, Ends (.pocketHarvestReady mv) s u ∧ Changes [.pocket, .crypto] [ob 0x5400 0x04] s u ∧ u.rd (ob 0x5400 0x04) = mv ∧
      u.pocket = { s.pocket with running := true, uid := 0x08 :: (s.randomBytes 3).1, card := .idle, scrub := true, resp := [] }) ∧
  (∀ (s : State) (mv : Nat), mv < 1800 → Ends (.pocketHarvestReady mv) s s) ∧
  (∀ (s : State) (mv : Nat), s.power.powered = false → s.pocket.running = true → mv < 1700 → s.pocket.commits = [] →
    ∃ u, Ends (.pocketVstReset mv) s u ∧ Changes [.pocket] [ob 0x5400 0x04] s.pocketEnd u ∧ u.rd (ob 0x5400 0x04) = mv ∧
      u.pocket = { s.pocketEnd.pocket with running := false, card := .off, answer := none, held := none, resp := [] }) ∧
  (∀ (s : State) (w : Bool), (s.pocket.card = .idle ∨ (s.pocket.card = .halted ∧ w = true)) →
    ∃ u, Ends (.pocketReqa w) s u ∧ Changes [.pocket] [] s u ∧ u.pocket = { s.pocket with card := .ready, resp := [0x04, 0x00] }) ∧
  (∀ s : State, (s.pocket.card = .halted ∨ s.pocket.card = .iso ∨ s.pocket.card = .off) → Ends (.pocketReqa false) s s) ∧
  (∀ s : State, s.pocket.card = .ready →
    (∃ u, Ends (.pocketSelect s.pocket.uid) s u ∧ Changes [.pocket] [] s u ∧ u.pocket = { s.pocket with card := .active, resp := [0x20] }) ∧
    ∀ b, b ≠ s.pocket.uid → ∃ u, Ends (.pocketSelect b) s u ∧ Changes [.pocket] [] s u ∧ u.pocket = { s.pocket with card := .idle, resp := [] }) ∧
  (∀ s : State, s.pocket.card = .active →
    ∃ u, Ends .pocketRats s u ∧ Changes [.pocket] [] s u ∧ u.pocket = { s.pocket with card := .iso, resp := [0x05, 0x75, 0x00, 0x80, 0x00] }) ∧
  (∀ s : State, s.pocket.card = .iso →
    (∃ u, Ends .pocketPps s u ∧ Changes [.pocket] [] s u ∧ u.pocket = { s.pocket with resp := [] }) ∧
    (∃ u, Ends .pocketDeselect s u ∧ Changes [.pocket] [] s.pocketEnd u ∧
      u.pocket = { s.pocketEnd.pocket with held := none, answer := none, card := .halted, resp := [0xC2] })) ∧
  (∀ s : State, (s.pocket.card = .active ∨ s.pocket.card = .iso) →
    ∃ u, Ends .pocketHlta s u ∧ Changes [.pocket, .crypto] [] s.pocketEnd u ∧ u.pocket = { s.pocketEnd.pocket with
      card := .halted, uid := 0x08 :: (s.pocketEnd.randomBytes 3).1, resp := [], held := none, answer := none }) ∧
  (∀ s : State, s.pocketSession = 0 → Changes [.pocket] [] s s.pocketEnd ∧ s.pocketEnd.pocket = { s.pocket with kx := none }) ∧
  (∀ s : State, s.pocketSession ≠ 0 →
    ∃ u : State, s.pocketEnd = u.pocketRaise 1059 (andT0 s.pocketTenant) (u8 (s.rd (ob 0x5400 0x03))) ∧
      Changes [.pocket, .timers] [ob 0x5400 0x02, ob 0x5400 0x03] s u ∧ u.rd (ob 0x5400 0x02) = 0 ∧ u.rd (ob 0x5400 0x03) = 0xFF ∧
      u.isArmed .pocketIdle = false ∧ u.isArmed .bridgeTimeout = false ∧
      u.pocket = { s.pocket with kx := none, kenc := [], kmac := [], sid := [], counter := 0, rndW := [], rndP := [], bridge := none, closing := false }) ∧
  (∀ s : State, s.isDue .pocketIdle = true → s.power.powered = true →
    Ends .pocketIdleTimeout s (s.cancel .pocketIdle).pocketEnd) ∧
  (∀ (s : State) (d : Nat), s.dueAt .bridgeWtx = some d → d ≤ s.now → s.pocket.bridge ≠ none →
    ∃ u, Ends .bridgeWtxDue s u ∧ Changes [.pocket, .timers] [] s u ∧ u.pocket = { s.pocket with resp := [0xF2, 0x01] } ∧
      u.dueAt .bridgeWtx = some (d + 60000)) ∧
  (∀ s : State, s.isDue .bridgeTimeout = true → s.pocket.bridge ≠ none →
    ∃ u : State, Ends .bridgeTimeout s ((u.respondSecured [] 0x910F).closeDue) ∧ Changes [.pocket, .timers] [] s u ∧
      u.pocket = { s.pocket with bridge := none } ∧ u.isArmed .bridgeTimeout = false ∧ u.isArmed .bridgeWtx = false) ∧
  (∀ (s : State) (c : PageCommit), s.pocket.commits = [c] → s.power.powered = true → s.pocket.running = true → c.phys ≠ none →
    c.since + s.pocket.commitUs c ≤ s.now → s.pocket.held = none → c.wand = true → c.page ≠ 3 → c.page ≠ 0x40 →
    (∃ u : State, Ends (.pocketCommitDone true) s (match s.pocket.answer with | some k => (u.answer k [] 0x9000).closeDue | none => u) ∧
      Changes [.pocket] [] s u ∧
      u.pocket = { s.pocket.finish c true with commits := [], done := s.pocket.done + 1, answer := none }) ∧
    (s.pocket.answer = none →
      ∃ u : State, Ends (.pocketCommitDone false) s ((u.fault 96 c.page).raise 1066 [t0] []) ∧ Changes [.pocket] [] s u ∧
        u.pocket = { s.pocket.finish c false with commits := [] })) ∧
  (∀ (s : State) (ok : Bool), s.pocket.commits = [] → Ends (.pocketCommitDone ok) s s)

/-- The wand's commands: sessions, pages, authentication, commissioning, the bridge and resets. A command other than SELECT outside a
session is answered 0x6985, a secured one whose MAC fails ends the session with 0x9109, every other one restarts the idle timer. SELECT of
the AID opens a session in SELECTED, counts and raises it; another name is answered 0x6A82. GET_INFO gives Table 12-7. READ gives the
pages, or the status of one it may not; READ_RAW the descriptor and bytes of a WRITING page, else 0x910C; WRITE needs T0's session and the
margin, its answer comes with the commit, which takes the shadow page. AUTH_BEGIN answers the random number and proof, 0x9104 within the
delay, 0x910B without a key; AUTH_FINISH with the right proof secures the session for the slot's tenant and clears the failure count, a
wrong one is counted. GET_CERT gives half of the certificate; AGREE derives the commissioning key, CONFIRM commits it with page 0x03.
DICT_READ and DICT_WRITE pass a unit to the conductor and set both timers; RESET_REQUEST answers and then asks for the reset; END_SESSION
answers and ends the session. (Rests on: 12_pocket_port.md: R342, R346, R348, R349, R353, R355 to R362, Tables 12-6 to 12-8;
15_keys_and_images.md: R427, R435.) -/
def Obligations.WandCommands : Prop :=
  (∀ (s : State) (b : Octets) (a : Apdu), s.Hears b a .select → a.lcOk = true →
    (a.data = pocketAid →
      ∃ u : State, Ends (.selectByName b) s ((u.pocketRaise 1058 [t0] (u8 0xFF)).respond [] 0x9000) ∧
        Changes [.pocket, .timers] [ob 0x5400 0x02, ob 0x5400 0x03] s u ∧ u.rd (ob 0x5400 0x02) = 1 ∧ u.rd (ob 0x5400 0x03) = 0xFF ∧
        u.pocket.sessions = s.pocket.sessions + 1 ∧ u.pocket.kx = none ∧ u.pocket.mail = s.pocket.mail ∧
        u.dueAt .pocketIdle = some (s.now + s.idleUs)) ∧
    (a.data ≠ pocketAid → Ends (.selectByName b) s (s.pocketEnd.respond [] 0x6A82))) ∧
  (∀ (s : State) (b : Octets) (a : Apdu) (n : Nat), s.Hears b a .getInfo → s.pocketSession = 0 → Ends (.getInfo b n) s (s.respond [] 0x6985)) ∧
  (∀ (s : State) (b : Octets) (a : Apdu), s.Hears b a .dictRead → s.pocketSession = 3 → a.cla = 0x94 → a.lcOk = true → s.unseal a = none →
    Ends (.dictRead b) s ((s.armIn .pocketIdle s.idleUs).pocketEnd.respond [] 0x9109)) ∧
  (∀ (s : State) (b : Octets) (a : Apdu) (n : Nat),
    let u := s.armIn .pocketIdle s.idleUs
    (s.HearsPlain b a .getInfo → a.data = [] → a.p1 = 0 → a.p2 = 0 →
      Ends (.getInfo b n) s (u.respond (u8 1 ++ u8 (if s.power.powered then 1 else 0) ++ u16 n ++ u8 s.pocketSession ++ u8 s.openMask ++
        u8 0xF0 ++ u8 s.pocket.fails ++ u8 (if s.power.powered then s.runState else 0xFF) ++ u8 s.inboxState ++ [0, 0]) 0x9000)) ∧
    (s.HearsPlain b a .read → a.data = [] → 1 ≤ a.p2 → a.p2 ≤ 4 →
      ((∀ k < a.p2, s.readSw 0x90 (a.p1 + k) = 0x9000) →
        Ends (.read b) s (u.respond ((List.range a.p2).flatMap (fun k => s.mailPage (a.p1 + k))) 0x9000)) ∧
      (s.readSw 0x90 a.p1 ≠ 0x9000 → Ends (.read b) s (u.respond [] (s.readSw 0x90 a.p1)))) ∧
    (s.HearsPlain b a .getCert → a.data = [] → a.p2 ≤ 1 → s.pocketSession = 1 →
      Ends (.getCert b) s (u.respond (slice (128 * a.p2) 128 (leBytes 256 (s.rd (ob 0x1050 0x03)))) 0x9000)) ∧
    (s.HearsPlain b a .endSession → a.data = [] → a.p1 = 0 → a.p2 = 0 → Ends (.endSession b) s ((u.respond [] 0x9000).pocketEnd)) ∧
    (s.HearsPlain b a .authBegin → a.data.length = 16 → a.p1 < 8 → a.p2 = 0 →
      (n < authDelay s.pocket.fails → Ends (.authBegin b n) s (u.respond [] 0x9104)) ∧
      (authDelay s.pocket.fails ≤ n → s.pocketKeyed a.p1 = false → Ends (.authBegin b n) s (u.respond [] 0x910B)) ∧
      (authDelay s.pocket.fails ≤ n → s.pocketKeyed a.p1 = true →
        ∃ w : State, Ends (.authBegin b n) s (w.respond ((s.randomBytes 16).1 ++ cmac (s.slotKey (0x48 + a.p1))
            (u8 0x50 ++ (s.randomBytes 16).1 ++ a.data)) 0x9000) ∧
          Changes [.pocket, .timers, .crypto] [ob 0x5400 0x02, ob 0x5400 0x03] s w ∧ w.rd (ob 0x5400 0x02) = 2 ∧ w.pocket.slot = a.p1 ∧
          w.pocket.rndW = a.data ∧ w.pocket.rndP = (s.randomBytes 16).1)) ∧
    (s.HearsPlain b a .authFinish → a.data.length = 16 → a.p1 = 0 → a.p2 = 0 → s.pocketSession = 2 → s.margin n = true →
      (a.data = cmac (s.slotKey (0x48 + s.pocket.slot)) (u8 0x57 ++ s.pocket.rndW ++ s.pocket.rndP) →
        ∃ w : State, Ends (.authFinish b n) s (w.respond [] 0x9000) ∧ Changes [.pocket, .timers] [ob 0x5400 0x02, ob 0x5400 0x03] s w ∧
          w.rd (ob 0x5400 0x02) = 3 ∧ w.rd (ob 0x5400 0x03) = s.pocket.slot ∧ w.pocket.fails = 0 ∧ w.pocket.counter = 0 ∧
          w.pocket.sid = s.pocket.rndW.take 4 ++ s.pocket.rndP.take 4) ∧
      (a.data ≠ cmac (s.slotKey (0x48 + s.pocket.slot)) (u8 0x57 ++ s.pocket.rndW ++ s.pocket.rndP) →
        Ends (.authFinish b n) s (u.countProof.proofFailed 0x90))) ∧
    (s.HearsPlain b a .agree → a.data.length = 64 → a.p2 = 0 → s.pocketSession = 1 → s.pocketKeyed 0 = false →
      (Config.ecdh 1 a.data = none → Ends (.keyExchangeAgree b) s (u.respond [] 0x9103)) ∧
      (∀ z, Config.ecdh 1 a.data = some z →
        let k := sha256 (u8 1 ++ z ++ leBytes 12 Config.commissioningCode ++ a.data.take 32 ++ u64 (s.rd (ob 0x1050 0x01)))
        ∃ w : State, Ends (.keyExchangeAgree b) s (w.respond (cmac (slice 16 16 k) (u8 0x44 ++ a.data.take 32)) 0x9000) ∧
          Changes [.pocket, .timers] [] s w ∧ w.pocket = { s.pocket with kx := some (k.take 16, slice 16 16 k, a.data.take 32) })) ∧
    (∀ key kc x : Octets, s.HearsPlain b a .confirm → a.data.length = 16 → a.p2 = 0 → s.pocket.kx = some (key, kc, x) → s.pocketSession = 1 →
      s.pocketKeyed 0 = false → s.margin n = true → s.pocket.scrub = false →
      (a.data = cmac kc (u8 0x57 ++ x) →
        ∃ (w : State) (c : PageCommit), Ends (.keyExchangeConfirm b n) s w ∧ Changes [.pocket, .timers] [] s w ∧
          w.pocket = { s.pocket with answer := some 0x90, fails := satInc 255 s.pocket.fails, commits := [c] } ∧ c.page = 3 ∧ c.wand = true ∧
          c.phys = s.pocket.shadow) ∧
      (a.data ≠ cmac kc (u8 0x57 ++ x) → Ends (.keyExchangeConfirm b n) s (u.countProof.proofFailed 0x90)))) ∧
  (∀ (s : State) (b d : Octets) (a : Apdu) (n : Nat) (t : Tenant),
    let u := s.armIn .pocketIdle s.idleUs
    (s.HearsSecured b a .readRaw d → d = [] → a.p2 = 0 → s.readSw 0x94 a.p1 = 0x9000 →
      (∀ q < 256, s.pocket.descByte q 3 = 0x7F → s.pocket.descByte q 0 = a.p1 →
        (∀ r < q, s.pocket.descByte r 3 ≠ 0x7F ∨ s.pocket.descByte r 0 ≠ a.p1) →
        Ends (.readRaw b) s (u.respondSecured (Mem.bytes s.pocket.desc (4 * q) 4 ++ Mem.bytes s.pocket.mail (64 * q) 64) 0x9000)) ∧
      ((∀ r < 256, s.pocket.descByte r 3 ≠ 0x7F ∨ s.pocket.descByte r 0 ≠ a.p1) → Ends (.readRaw b) s (u.respondSecured [] 0x910C))) ∧
    (s.HearsSecured b a .write d → d.length = 64 → a.p2 = 0 →
      (s.writeSw a.p1 d ≠ 0x9000 → Ends (.write b n) s (u.respondSecured [] (s.writeSw a.p1 d))) ∧
      (s.writeSw a.p1 d = 0x9000 → s.margin n = false → Ends (.write b n) s (u.lowMargin 0x94)) ∧
      (s.writeSw a.p1 d = 0x9000 → s.margin n = true → s.pocket.scrub = false →
        ∃ w : State, Ends (.write b n) s w ∧ Changes [.pocket, .timers] [] s w ∧ w.pocket = { s.pocket with answer := some 0x94, commits :=
          [{ page := a.p1, data := d, wand := true, since := s.now, scrub := [], phys := s.pocket.shadow }] })) ∧
    (s.pocketTenant = some t → s.power.powered = true → s.up = true → s.linkReady .pocket = true → s.runState = 1 →
      (s.HearsSecured b a .dictRead d → d.length = 4 → (byteAt d 3 = 0 ∨ 200 < byteAt d 3) →
        Ends (.dictRead b) s (u.respondSecured [] 0x6A80)) ∧
      (s.HearsSecured b a .dictRead d → d.length = 4 → 1 ≤ byteAt d 3 → byteAt d 3 ≤ 200 →
        ∃ (w : State) (x : Arrival), Ends (.dictRead b) s w ∧ Changes [.pocket, .timers, .svc] [] s w ∧
          w.svc = { s.svc with nextId := s.svc.nextId + 1, inbound := s.svc.inbound ++ [x] } ∧ x.transport = .pocket ∧ x.tenant = t ∧
          w.pocket = { s.pocket with bridge := some (s.svc.nextId, s.now) } ∧ w.dueAt .bridgeWtx = some (s.now + 60000) ∧
          w.dueAt .bridgeTimeout = some (s.now + 2000000)) ∧
      (s.HearsSecured b a .dictWrite d → 4 ≤ d.length → d.length ≤ 199 →
        ∃ (w : State) (x : Arrival), Ends (.dictWrite b) s w ∧ Changes [.pocket, .timers, .svc] [] s w ∧
          w.svc = { s.svc with nextId := s.svc.nextId + 1, inbound := s.svc.inbound ++ [x] } ∧ x.transport = .pocket ∧ x.tenant = t ∧
          x.unit = u8 2 ++ u16 0 ++ u16 (256 * a.p1 + a.p2) ++ d ∧ w.pocket = { s.pocket with bridge := some (s.svc.nextId, s.now) }) ∧
      (s.HearsSecured b a .reset d → d = [] → a.p2 = 0 → s.transportOn t .pocket = true → 1 ≤ a.p1 → a.p1 ≤ 8 → (t.val = 0 ∨ a.p1 = 1) →
        Ends (.resetRequest b) s ((u.respondSecured [] 0x9000).askReset (kindReach a.p1) (commandCause .pocket) a.p1 t.val 0 none))))

/-- Dictionary requests: arrival, READ, WRITE, DESCRIBE, NEXT and subscriptions. The oldest unit brought by a transport is queued for its
active tenant with fewer than 32 requests waiting, the high-water mark kept; a wrong MAC is only counted in 0x1040.05, a counter not above
the floor is answered STALE_COUNTER with the floor, a good one moves the floor; an inactive tenant or a full queue is answered at once. In
its turn, a READ of a visible, readable object whose link is ready answers its bytes, an invisible one NO_OBJECT; DESCRIBE answers the
flags and type, NEXT the next visible object, or NO_OBJECT. An accepted WRITE of an ordinary object stores its value, with the effect that
its chapter gives and a commit where it is RWP; a refused one is answered with its status. SUBSCRIBE takes the lowest free entry and
answers it, UNSUBSCRIBE frees one. At the end of its interval a held change is notified where it still meets the deadband, else only let
go. (Rests on: 13_object_dictionary.md: R377, R378, R380, R382, R384, R392 to R394, Table 13-3.) -/
def Obligations.ServiceRequests : Prop :=
  (∀ s : State, (s.svc.inbound = [] ∨ s.up = false) → Ends .serviceRequestArrival s s) ∧
  (∀ (s : State) (a : Arrival) (l : List Arrival), s.svc.inbound = a :: l → s.up = true →
    let q := parseUnit a.transport a.peer a.counter (if a.sealed then s.serviceKey a.tenant else []) a.unit
    let macOk := s.serviceKey a.tenant ≠ [] ∧
      (cmac (s.serviceKey a.tenant) (envelopeMessage 0x51 a.peer a.tenant.val a.counter a.unit)).take 8 = a.mac
    (a.sealed = false → s.active a.tenant = true → s.svc.queues[a.tenant].length < 32 →
      ∃ u, Ends .serviceRequestArrival s u ∧ Changes [.svc] [obT 0x1040 0x09 a.tenant] s u ∧
        u.svc = { s.svc with inbound := l, nextId := s.svc.nextId + 1, queues := (
          s.svc.queues.set a.tenant (s.svc.queues[a.tenant] ++ [{ id := s.svc.nextId, req := q, phase := .waiting }])) } ∧
        u.rd (obT 0x1040 0x09 a.tenant) = max (s.rd (obT 0x1040 0x09 a.tenant)) (s.svc.queues[a.tenant].length + 1)) ∧
    (a.sealed = false → (s.active a.tenant = false ∨ 32 ≤ s.svc.queues[a.tenant].length) →
      ∃ u : State, Ends .serviceRequestArrival s (u.turnAway a.tenant q (if s.active a.tenant then sQueueFull else sInactive) []) ∧
        Changes [.svc] [] s u ∧ u.svc = { s.svc with inbound := l }) ∧
    (a.sealed = true → ¬ macOk → s.rd (obT 0x1040 0x05 a.tenant) + 1 < 2 ^ 32 →
      ∃ u, Ends .serviceRequestArrival s u ∧ Changes [.svc] [obT 0x1040 0x05 a.tenant] s u ∧ u.svc = { s.svc with inbound := l } ∧
        u.rd (obT 0x1040 0x05 a.tenant) = s.rd (obT 0x1040 0x05 a.tenant) + 1) ∧
    (a.sealed = true → macOk → a.counter ≤ s.rd (obT 0x1034 0x04 a.tenant) → s.rd (obT 0x1040 0x06 a.tenant) + 1 < 2 ^ 32 →
      ∃ u : State, Ends .serviceRequestArrival s (u.turnAway a.tenant q sStale (u32 (s.rd (obT 0x1034 0x04 a.tenant)))) ∧
        Changes [.svc] [obT 0x1040 0x06 a.tenant] s u ∧ u.rd (obT 0x1040 0x06 a.tenant) = s.rd (obT 0x1040 0x06 a.tenant) + 1) ∧
    (a.sealed = true → macOk → s.rd (obT 0x1034 0x04 a.tenant) < a.counter → a.counter ≤ 0xFFFFF000 →
      a.counter < s.svc.floorEnd[a.tenant] + 2048 → s.active a.tenant = true → s.svc.queues[a.tenant].length < 32 →
      ∃ u, Ends .serviceRequestArrival s u ∧ Changes [.svc] [obT 0x1034 0x04 a.tenant, obT 0x1040 0x09 a.tenant] s u ∧
        u.rd (obT 0x1034 0x04 a.tenant) = a.counter ∧ u.svc.queues[a.tenant] =
          s.svc.queues[a.tenant] ++ [{ id := s.svc.nextId, req := q, phase := .waiting }])) ∧
  (∀ (s : State) (t : Tenant) (j : Job) (i sub : Nat), s.turn t = some j → j.req.op = .read i sub 0 0 →
    (s.visible t i sub = true → s.transportOn t j.req.transport = true → writeOnly i sub = false → s.linkStatus i sub = 0 →
      (s.valueBytes t i sub).length ≤ chunk j.req.transport s.secLevel false →
      Answers (.serviceRead t) s s t j 0 (s.valueBytes t i sub)) ∧
    (s.visible t i sub = false → Answers (.serviceRead t) s s t j 1 [])) ∧
  (∀ (s : State) (t : Tenant) (j : Job) (i sub : Nat), s.turn t = some j → j.req.op = .describe i sub →
    (s.visible t i sub = true → s.transportOn t j.req.transport = true → Answers (.describe t) s s t j 0 (describeBytes i sub)) ∧
    (s.visible t i sub = false → Answers (.describe t) s s t j 1 [])) ∧
  (∀ (s : State) (t : Tenant) (j : Job) (i sub : Nat), s.turn t = some j → j.req.op = .next i sub →
    (∀ p, s.nextObject t i sub = some p → s.transportOn t j.req.transport = true → Answers (.next t) s s t j 0 (u16 p.1 ++ u8 p.2)) ∧
    (s.nextObject t i sub = none → Answers (.next t) s s t j 1 [])) ∧
  (∀ (s : State) (t : Tenant) (j : Job) (i sub off : Nat) (v : Octets) (r : Row), s.WritesAt t j i sub off v → ownOf i sub v = .plain →
    Dict.row? i sub = some r → r.acc ≠ .wo → Serves (.serviceWrite t) s (s.store t i sub (s.spliced t i sub off v)) t j
      (if r.acc = .rwp ∧ s.needsCommit (keyFor t i sub) (s.spliced t i sub off v) = true then [(keyFor t i sub, s.spliced t i sub off v)]
        else []) false) ∧
  (∀ (s : State) (t : Tenant) (j : Job) (n : Nat), n < 65536 → s.Writes t j 0x1061 0x01 (u16 n) →
    ∃ u, Serves (.serviceWrite t) s u t j (if s.needsCommit (ob 0x1061 0x01) n then [(ob 0x1061 0x01, n)] else []) false ∧
      Changes [] [ob 0x1061 0x01] s u ∧ u.rd (ob 0x1061 0x01) = n) ∧
  (∀ (s : State) (t : Tenant) (j : Job) (i sub off st : Nat) (v : Octets), s.turn t = some j → j.req.op = .write i sub off v →
    ownOf i sub v = .plain → s.writeStatus t j.req.transport i sub off v = st → st ≠ 0 →
    Answers (.serviceWrite t) s (s.refusedEffect t i sub v st) t j st []) ∧
  (∀ (s : State) (t : Tenant) (j : Job) (i sub n k ev iv db : Nat), s.turn t = some j → j.req.op = .subscribe i sub k ev iv db →
    s.visible t i sub = true → s.transportOn t j.req.transport = true → writeOnly i sub = false → s.freeSub t = some n →
    (s.valueBytes t i sub).length ≤ s.routeChunk t → s.subRange t i sub k ev db = 0 →
    ∃ (u : State) (e : Sub), Answers (.subscribe t) s u t j 0 (u8 n) ∧ Changes [.router] [] s u ∧
      u.router = { s.router with boxes := s.router.boxes.set t { s.router.boxes[t] with subs := s.router.boxes[t].subs ++ [e] } } ∧
      e.entry = n ∧ e.index = i ∧ e.sub = sub ∧ e.kind = k ∧ e.event = ev ∧ e.interval = iv ∧ e.deadband = db ∧ e.told = none) ∧
  (∀ (s : State) (t : Tenant) (j : Job) (i sub n ev iv db : Nat), s.turn t = some j → j.req.op = .subscribe i sub 2 ev iv db →
    s.visible t i sub = true → s.transportOn t j.req.transport = true → writeOnly i sub = false →
    (s.valueBytes t i sub).length ≤ s.routeChunk t → s.freeSub t = some n → s.couldReceive t ev = false →
    Answers (.subscribe t) s s t j 5 []) ∧
  (∀ (s : State) (t : Tenant) (j : Job) (n : Nat), s.turn t = some j → j.req.op = .unsubscribe n → s.transportOn t j.req.transport = true →
    ((∃ e ∈ s.router.boxes[t].subs, e.entry = n) →
      ∃ u, Answers (.unsubscribe t) s u t j 0 [] ∧ Changes [.router] [] s u ∧ u.router = { s.router with boxes := (
        s.router.boxes.set t { s.router.boxes[t] with subs := s.router.boxes[t].subs.filter (fun e => e.entry != n) }) }) ∧
    ((∀ e ∈ s.router.boxes[t].subs, e.entry ≠ n) → Answers (.unsubscribe t) s s t j 5 [])) ∧
  (∀ (s : State) (t : Tenant) (n : Nat) (e : Sub), s.router.boxes[t].subs.find? (fun e => e.entry == n) = some e → e.held = true →
    s.up = true → e.toldAt + e.interval * 1000000 ≤ s.now →
    ∃ u : State, Changes [.router] [] s u ∧ u.router = { s.router with boxes := (s.router.boxes.set t { s.router.boxes[t] with subs := (
        s.router.boxes[t].subs.map (fun x => if x.entry = n then { x with held := false } else x)) }) } ∧
      (e.meets (u.live t e.index e.sub) = true → Ends (.subscriptionIntervalEnd t n) s (u.notify t e s.now)) ∧
      (e.meets (u.live t e.index e.sub) = false → Ends (.subscriptionIntervalEnd t n) s u)) ∧
  (∀ (s : State) (t : Tenant) (n : Nat), (∀ e ∈ s.router.boxes[t].subs, e.entry = n → e.held = false) →
    Ends (.subscriptionIntervalEnd t n) s s)

/-- Block transfers: opening, data, closing and lapse of a tenant's block. BLOCK_OPEN of a visible, readable object takes a snapshot of it
and answers its length; one of a WRITE block of at most 5,120 bytes opens an empty block; both set the lapse of 0x1040.08; with a block
open it answers BLOCK_BUSY. BLOCK_DATA of a WRITE block at the next offset appends its bytes, at the last one replaces them, elsewhere it
answers BLOCK_SEQUENCE; of a READ block it answers the bytes asked for; without a block it answers NO_BLOCK. BLOCK_CLOSE without a commit
drops the block and answers; a commit of a block not yet whole answers BLOCK_INCOMPLETE, one whose records are not whole LENGTH with
record 0, one with a refused record that record's status and number and leaves everything as it was, but for the fields of a key command
that it fails, which are zeroed with the status recorded, and a good one applies all its records and answers their number, the block gone.
A block that lapses is gone. (Rests on: 13_object_dictionary.md: R389 to R391, R405.) -/
def Obligations.BlockTransfers : Prop :=
  (∀ (s : State) (t : Tenant) (j : Job) (i sub : Nat), s.turn t = some j → j.req.op = .blockOpenRead i sub → s.visible t i sub = true →
    s.transportOn t j.req.transport = true → writeOnly i sub = false → s.linkStatus i sub = 0 →
    (s.svc.blocks[t] = none →
      ∃ u, Answers (.blockOpen t) s u t j 0 (u16 (s.valueBytes t i sub).length) ∧ Changes [.svc, .timers] [] s u ∧
        u.svc = { s.svc with blocks := s.svc.blocks.set t (some ⟨false, (s.valueBytes t i sub).length,
          s.valueBytes t i sub, 0, (i, sub)⟩) } ∧
        u.dueAt (.blockLapse t) = some (s.now + s.rd (obT 0x1040 0x08 t))) ∧
    (s.svc.blocks[t] ≠ none → Answers (.blockOpen t) s s t j 0x0F [])) ∧
  (∀ (s : State) (t : Tenant) (j : Job) (n : Nat), s.turn t = some j → j.req.op = .blockOpenWrite n → s.transportOn t j.req.transport = true →
    s.svc.blocks[t] = none →
    (n ≤ 5120 → ∃ u, Answers (.blockOpen t) s u t j 0 [] ∧ Changes [.svc, .timers] [] s u ∧ u.svc = { s.svc with blocks := (
        s.svc.blocks.set t (some ⟨true, n, [], 0, (0, 0)⟩)) } ∧
      u.dueAt (.blockLapse t) = some (s.now + s.rd (obT 0x1040 0x08 t))) ∧
    (5120 < n → Answers (.blockOpen t) s s t j 0x10 [])) ∧
  (∀ (s : State) (t : Tenant) (j : Job) (off : Nat) (r : Octets), s.turn t = some j → j.req.op = .blockData off r →
    s.transportOn t j.req.transport = true →
    (s.svc.blocks[t] = none → Answers (.blockData t) s s t j 0x0E []) ∧
    (∀ b, s.svc.blocks[t] = some b → b.write = true → r.length ≤ chunk j.req.transport s.secLevel true → off + r.length ≤ b.total →
      ((off = b.staged.length ∨ off = b.last) →
        ∃ u, Answers (.blockData t) s u t j 0 [] ∧ Changes [.svc, .timers] [] s u ∧
          u.svc = { s.svc with blocks := s.svc.blocks.set t (some { b with staged := b.staged.take off ++ r, last := off }) } ∧
          u.dueAt (.blockLapse t) = some (s.now + s.rd (obT 0x1040 0x08 t))) ∧
      (off ≠ b.staged.length → off ≠ b.last →
        ∃ u, Answers (.blockData t) s u t j 0x11 [] ∧ Changes [.svc, .timers] [] s u ∧ u.svc = s.svc)) ∧
    (∀ b, s.svc.blocks[t] = some b → b.write = false → r.length = 2 → s.visible t b.obj.1 b.obj.2 = true → off + u16At r 0 ≤ b.total →
      u16At r 0 ≤ chunk j.req.transport s.secLevel false →
      ∃ u, Answers (.blockData t) s u t j 0 (slice off (u16At r 0) b.staged) ∧ Changes [.svc, .timers] [] s u ∧ u.svc = s.svc ∧
        u.dueAt (.blockLapse t) = some (s.now + s.rd (obT 0x1040 0x08 t)))) ∧
  (∀ (s : State) (t : Tenant) (j : Job) (n : Nat), s.turn t = some j → j.req.op = .blockClose n → s.transportOn t j.req.transport = true →
    (s.svc.blocks[t] = none → Answers (.blockClose t) s s t j 0x0E []) ∧
    (∀ b, s.svc.blocks[t] = some b → b.write = true →
      (n ≠ 1 → ∃ u, Answers (.blockClose t) s u t j 0 (u16 0) ∧ Changes [.svc, .timers] [] s u ∧
        u.svc = { s.svc with blocks := s.svc.blocks.set t none } ∧ u.isArmed (.blockLapse t) = false) ∧
      (n = 1 → ∃ u : State, Changes [.timers] [] s u ∧ u.dueAt (.blockLapse t) = some (s.now + s.rd (obT 0x1040 0x08 t)) ∧
        (b.staged.length < b.total → Answers (.blockClose t) s u t j 0x12 []) ∧
        (b.total ≤ b.staged.length → blockRecords b.staged.length b.staged = none → Answers (.blockClose t) s u t j 4 (u16 0)) ∧
        (∀ l, b.total ≤ b.staged.length → blockRecords b.staged.length b.staged = some l →
          (∀ e, applyRecords t j.req.transport j.id 0 l { st := u, keeps := [], waits := false } = .inl e →
            Answers (.blockClose t) s (match e.2.2 with | some k => u.keyEnded t k | none => u) t j e.1 (u16 e.2.1)) ∧
          (∀ e : Effect, applyRecords t j.req.transport j.id 0 l { st := u, keeps := [], waits := false } = .inr e →
            ∃ w : State, Changes [.charges, .svc, .timers] [] e.st w ∧ w.charges = s.charges ∧
              w.svc = { e.st.svc with blocks := e.st.svc.blocks.set t none } ∧ w.isArmed (.blockLapse t) = false ∧
              exec (.blockClose t) s = .next (State.finish { e with st := w } t j (u16 l.length)).settle)))) ∧
    (∀ b, s.svc.blocks[t] = some b → b.write = false → s.visible t b.obj.1 b.obj.2 = true →
      ∃ u, Answers (.blockClose t) s u t j 0 [] ∧ Changes [.svc, .timers] [] s u ∧
        u.svc = { s.svc with blocks := s.svc.blocks.set t none } ∧ u.isArmed (.blockLapse t) = false)) ∧
  (∀ (s : State) (t : Tenant), s.isDue (.blockLapse t) = true → ∃ u, Ends (.blockLapse t) s u ∧ Changes [.svc, .timers] [] s u ∧
    u.svc = { s.svc with blocks := s.svc.blocks.set t none } ∧ u.isArmed (.blockLapse t) = false)

/-- The host port: select, SUBMIT, FETCH_REPLY, FETCH_EVENT and STATUS. A select while VIO is there selects the port and, in Running,
nothing else. Where VIO or the running conductor is missing every byte clocked out is 0x00 and nothing is done. A SUBMIT with a good
tenant, length and CRC and fewer than 4 outstanding brings its unit to the service and clears LAST_SUBMIT_ERROR; a bad one sets it and
brings nothing. FETCH_REPLY gives the oldest reply of the host with its CRC, which then leaves the queue, or an empty one. FETCH_EVENT
gives the oldest event of the tenant named, which has then been read, or an empty one. STATUS gives the event bitmap, the number of
replies and the status byte, and ends RESET_SEEN. (Rests on: 13_object_dictionary.md: R386 to R388, R395, Tables 13-5, 13-6.) -/
def Obligations.HostPortTransactions : Prop :=
  (∀ s : State, s.hostUp = true → s.power.powered = true → s.runState = 1 →
    ∃ u, Ends .hostPortSelect s u ∧ Changes [.host] [] s u ∧ u.host = { s.host with selected := true }) ∧
  (∀ s : State, s.hostUp = true → s.power.powered = true →
    ∃ u : State, Ends .hostPortSelect s (u.wakeBy 4) ∧ Changes [.host] [] s u ∧ u.host = { s.host with selected := true }) ∧
  (∀ s : State, s.hostUp = false → Ends .hostPortSelect s s) ∧
  (∀ (s : State) (b : Octets), s.hostServed = false →
    (∃ u, Ends (.submit b) s u ∧ Changes [.host] [] s u ∧ u.host = { s.host with selected := false, sent := [] }) ∧
    ∀ c ∈ [Instr.fetchReply b, .fetchEvent b, .status b], ∃ u, Ends c s u ∧ Changes [.host] [] s u ∧
      u.host = { s.host with selected := false, sent := b.map (fun _ => 0) }) ∧
  (∀ (s : State) (b : Octets), s.hostServed = true →
    (badSubmit b = false → s.hostOutstanding < 4 →
      ∃ (u : State) (a : Arrival), Ends (.submit b) s u ∧ Changes [.host, .svc] [] s u ∧
        u.host = { s.host with selected := false, sent := u8 s.statusByte ++ [0], lastError := false } ∧
        u.svc = { s.svc with inbound := s.svc.inbound ++ [a] } ∧ a.transport = .host ∧ a.tenant.val = byteAt b 0 ∧
        a.unit = slice 3 (u16At b 1) b) ∧
    ((badSubmit b = true ∨ 4 ≤ s.hostOutstanding) → ∃ u, Ends (.submit b) s u ∧ Changes [.host] [] s u ∧
      u.host = { s.host with selected := false, sent := u8 s.statusByte ++ [0], lastError := badSubmit b })) ∧
  (∀ (s : State) (b : Octets), s.hostServed = true →
    (s.hostReply = none → ∃ u, Ends (.fetchReply b) s u ∧ Changes [.host] [] s u ∧
      u.host = { s.host with selected := false, sent := u8 s.statusByte ++ withCrc [0, 0, 0] }) ∧
    (∀ r, s.hostReply = some r → ∃ u : State, Ends (.fetchReply b) s (u.handOver r) ∧ Changes [.host] [] s u ∧ u.host = { s.host with
      selected := false, sent := u8 s.statusByte ++ withCrc (u8 r.tenant.val ++ u16 (replyUnit r).length ++ replyUnit r) })) ∧
  (∀ (s : State) (b : Octets) (t : Tenant), s.hostServed = true → byteAt b 0 = t.val →
    (s.hostEvents t = [] → ∃ u, Ends (.fetchEvent b) s u ∧ Changes [.host] [] s u ∧
      u.host = { s.host with selected := false, sent := u8 s.statusByte ++ withCrc [0, 0] }) ∧
    (∀ q l, s.hostEvents t = q :: l → ∃ u : State, Ends (.fetchEvent b) s (u.readEvent t (q.seq.getD 0)) ∧ Changes [.host] [] s u ∧
      u.host = { s.host with selected := false, sent := (u8 s.statusByte ++
        withCrc (u16 (reportUnit q 0 q.data.length).length ++ reportUnit q 0 q.data.length)) })) ∧
  (∀ (s : State) (b : Octets), s.hostServed = true → ∃ u, Ends (.status b) s u ∧ Changes [.host] [] s u ∧
    u.host = { s.host with selected := false, resetSeen := false, sent := (u8 s.statusByte ++ (u8 s.eventBitmap ++
      u8 (s.svc.replies.filter (fun r => r.req.transport == .host)).length ++ u8 s.statusByte)) })

/-- NVA commits: what a good one makes permanent, what a failed one brings, and the one made again. With no reset waiting: a good commit
of the tag table makes it permanent, but for last-seen times and miss counts, which go with the checkpoints; one of the conductor's values
makes those values permanent, in the last checkpoint too where they go with it; one of a tenant's values them, after which the request
that waited for it is answered OK. The next commit of the order is then in progress. A read-back that differs is tried on the other page;
when that fails too, NVA_WRITE_FAULT is raised with the page, and a commit of the conductor's own or a checkpoint, which is marked failed,
is made again 1,000,000 us later, while a request's objects go back to what the NVA holds and it is answered NVA_FAULT. A commit to be
made again is entered in the order when its instant has come. (Rests on: 13_object_dictionary.md: R374, R376, R407.) -/
def Obligations.NvaCommits : Prop :=
  (∀ (s : State) (ok : Bool) (n : Nat), s.order = [] → Ends (.nvaCommitDone ok n) s s) ∧
  (∀ (s : State) (n : Nat), s.power.powered = true → s.rst.waiting = [] → s.rst.quiescing = none →
    (s.order = [.tags] → ∃ u, Ends (.nvaCommitDone true n) s u ∧ Changes [.order, .retried, .nvaTags] [] s u ∧ u.nvaTags = s.tags.map (keptTag s.nvaTags) ∧
      u.order = []) ∧
    (∀ k v, s.order = [.own [(k, v)]] → ∃ u, Ends (.nvaCommitDone true n) s u ∧ Changes [.order, .retried, .nvaObjs, .ckpt] [] s u ∧
      u.nva k = v ∧ (∀ x, x ≠ k → u.nva x = s.nva x) ∧ u.order = [] ∧ (k ∉ checkpointKeys → u.ckpt = s.ckpt) ∧
      (k ∈ checkpointKeys → Tab.get Dict.dflt u.ckpt.objs k = v)) ∧
    (∀ (t : Tenant) (j : Job) (k v : Nat) (d : Octets), s.order = [.dict t j.id [(k, v)]] → s.nva k ≠ v → s.crypto.queues[t0] = [] →
      s.crypto.running = none → s.svc.queues[t].find? (fun x => x.id == j.id) = some j → j.phase = .committing d →
      ∃ u : State, Ends (.nvaCommitDone true n) s ((u.reply t j 0 d).commitOver) ∧
        Changes [.order, .retried, .nvaObjs, .charges, .svc, .ckpt] [] s u ∧ u.nva k = v ∧ (∀ x, x ≠ k → u.nva x = s.nva x) ∧
        (k ∉ checkpointKeys → u.ckpt = s.ckpt) ∧
        u.svc = { s.svc with floorEnd := s.svc.floorEnd.set t (s.rd (obT 0x1034 0x04 t)) } ∧ u.order = [])) ∧
  (∀ (s : State) (n : Nat) (c : Commit) (l : List Commit), s.power.powered = true → s.order = c :: l →
    Ends (.nvaCommitDone true n) s ((({ s with order := l, retried := false } : State).kept c).commitOver) ∧
    (s.retried = false → ∃ u, Ends (.nvaCommitDone false n) s u ∧ Changes [.retried] [] s u ∧ u.retried = true) ∧
    (s.retried = true → (∀ w, c = .own w →
      ∃ u : State, Ends (.nvaCommitDone false n) s ((u.fault 1 n).commitOver) ∧ Changes [.order, .retried, .again] [] s u ∧
        u.order = l ∧ u.retried = false ∧ (s.now + 1000000, c) ∈ u.again)) ∧
    (s.retried = true → (∀ x, c = .checkpoint x →
      ∃ u : State, Ends (.nvaCommitDone false n) s ((u.fault 1 n).commitOver) ∧ Changes [.order, .retried, .again, .ckpt] [] s u ∧
        u.order = l ∧ u.retried = false ∧ (s.now + 1000000, c) ∈ u.again ∧ u.ckpt = { s.ckpt with failed := true })) ∧
    (s.retried = true → ∀ t id w, c = .dict t id w →
      ∃ u : State, Ends (.nvaCommitDone false n) s ((((u.putBack t w).failReply t id 9).fault 1 n).commitOver) ∧
        Changes [.order, .retried] [] s u ∧ u.order = l ∧ u.retried = false)) ∧
  (∀ (s : State) (d : Nat) (c : Commit), s.again = [(d, c)] → d ≤ s.now → s.listens = true → s.order = [] →
    ∃ u, Ends .nvaCommitRetry s u ∧ Changes [.again, .order] [] s u ∧ u.again = [] ∧ u.order = [c]) ∧
  (∀ s : State, (∀ p ∈ s.again, s.now < p.1) → Ends .nvaCommitRetry s s)

/-- Tenants: creating, resetting and deleting them, and their allotments. CREATE clears T0's command status, makes the target ACTIVE and
dates it, puts its per-tenant copies at their defaults but for the two counters of 0x1034 and its counts and its airtime at 0, persists
what is persisted, and raises TENANT_CREATED. RESET and DELETE clear the status and begin the target's reset or deletion; a refused tenant
command of T0 leaves its status in 0x9000.03. A reset of a tenant that is not ACTIVE changes nothing; it discards requests, replies and
the open block, and RW copies read their defaults. Its completion makes the tenant ACTIVE, counts and dates the reset, persists both and
raises TENANT_RESET_DONE; the completion of a deletion makes it ABSENT and raises TENANT_DELETED. An allotment write of the value it has
changes nothing; of another it is stored, what leaves and comes is seen to, and ALLOTMENT_CHANGED goes to T0 and the tenant. (Rests on:
14_tenants.md: R408 to R414, R422, R466, R634.) -/
def Obligations.TenantsAndAllotments : Prop :=
  (∀ (s : State) (t : Tenant) (j : Job) (n : Tenant), s.Writes t j 0x9000 0x01 [1] → s.tenantTarget = n →
    let i := 0x9020 + n.val
    ∃ u : State, Serves (.tenantCreate t) s (u.raise 1210 (withT0 n) (u8 n.val)) t j
        ([(ob i 0x01, 1), (ob i 0x02, s.now)] ++ [3, 4, 5, 7, 9].map (fun m => (ob i m, 0))) false ∧
      u.pending = s.pending ∧ (∀ p : Part, p ≠ .air → p.same s u) ∧
      u.air = { s.air with tenantAir := s.air.tenantAir.filter (fun e => e.1 != n.val) } ∧
      (∀ k, ownCopy n k = false → k ≠ ob 0x9000 0x03 → (∀ m ∈ [1, 2, 3, 4, 5, 7, 8, 9], k ≠ ob i m) → u.rd k = s.rd k) ∧
      (∀ k, ownCopy n k = true → keyIndex k ≠ 0x1034 → u.rd k = Dict.dflt k) ∧
      u.rd (ob 0x9000 0x03) = 0 ∧ u.rd (ob i 0x01) = 1 ∧ u.rd (ob i 0x02) = s.now ∧ u.rd (ob i 0x03) = 0 ∧ u.rd (ob i 0x09) = 0) ∧
  (∀ (s : State) (t : Tenant) (j : Job), ∃ u, Changes [] [ob 0x9000 0x03] s u ∧ u.rd (ob 0x9000 0x03) = 0 ∧
    (s.Writes t j 0x9000 0x01 [2] → Serves (.tenantDelete t) s (u.tenantDelete s.tenantTarget) t j [] false) ∧
    (s.Writes t j 0x9000 0x01 [3] → Serves (.tenantReset t) s (u.tenantReset s.tenantTarget) t j [] false)) ∧
  (∀ (s : State) (j : Job) (v st : Nat), v = 1 ∨ v = 2 ∨ v = 3 → s.turn t0 = some j → j.req.op = .write 0x9000 0x01 0 (u8 v) →
    s.writeStatus t0 j.req.transport 0x9000 0x01 0 (u8 v) = st → st ≠ 0 →
    ∃ u, Changes [] [ob 0x9000 0x03] s u ∧ u.rd (ob 0x9000 0x03) = st ∧
      Answers (if v = 1 then .tenantCreate t0 else if v = 2 then .tenantDelete t0 else .tenantReset t0) s u t0 j st []) ∧
  (∀ (s : State) (n : Tenant), s.tenantState n ≠ 1 → s.tenantReset n = s) ∧
  (∀ (s : State) (n : Tenant), s.tenantState n = 1 →
    ∃ u : State, s.tenantReset n = u.tenantCleared n ∧ Changes [] [ob (0x9020 + n.val) 0x01] s u ∧ u.tenantState n = 2) ∧
  (∀ (s : State) (n : Tenant), Changes [.svc, .timers] [] s (s.dropRequests n) ∧ (s.dropRequests n).svc.queues[n] = [] ∧
    (s.dropRequests n).svc.blocks[n] = none ∧ (∀ x, x ≠ n → (s.dropRequests n).svc.queues[x] = s.svc.queues[x]) ∧
    (∀ x ∈ (s.dropRequests n).svc.replies, x.tenant ≠ n)) ∧
  (∀ (s : State) (n : Tenant) (k : Nat), (s.copiesBack n).rd k =
    (if ownCopy n k = true ∧ keyAccess k = some .rw then Dict.dflt k else s.rd k)) ∧
  (∀ (s : State) (n : Tenant), s.tenantState n = 2 → s.holdsVoice n = false → s.up = true →
    s.rd (ob (0x9020 + n.val) 0x03) + 1 < 2 ^ 32 → s.order = [] →
    ∃ u : State, Ends (.tenantResetComplete n) s (u.raise 1212 (withT0 n) (u8 n.val)) ∧
      Changes [.order] [ob (0x9020 + n.val) 0x01, ob (0x9020 + n.val) 0x03, ob (0x9020 + n.val) 0x04] s u ∧ u.tenantState n = 1 ∧
      u.rd (ob (0x9020 + n.val) 0x03) = s.rd (ob (0x9020 + n.val) 0x03) + 1 ∧ u.rd (ob (0x9020 + n.val) 0x04) = s.now ∧
      u.order = [.own [(ob (0x9020 + n.val) 0x03, s.rd (ob (0x9020 + n.val) 0x03) + 1), (ob (0x9020 + n.val) 0x04, s.now)]]) ∧
  (∀ (s : State) (n : Tenant), (s.tenantState n ≠ 2 ∨ s.holdsVoice n = true) → Ends (.tenantResetComplete n) s s) ∧
  (∀ (s : State) (n : Tenant), s.tenantState n = 3 → s.deletionDone n = true → s.listens = true →
    ∃ u : State, Ends (.tenantDeletionComplete n) s (u.raise 1211 [t0] (u8 n.val)) ∧
      Changes [.order] [ob (0x9020 + n.val) 0x01] s u ∧ u.tenantState n = 0) ∧
  (∀ (s : State) (n : Tenant), (s.tenantState n ≠ 3 ∨ s.deletionDone n = false) → Ends (.tenantDeletionComplete n) s s) ∧
  (∀ (s : State) (t n : Tenant) (j : Job) (k : Nat) (v : Octets), 1 ≤ k → k ≤ 8 → s.Writes t j (0x9010 + n.val) k v →
    Serves (.allotmentWrite t) s (s.allotStore n k (leNat v)) t j
      (if s.needsCommit (ob (0x9010 + n.val) k) (leNat v) then (ob (0x9010 + n.val) k, leNat v) :: s.allotKeeps n k (leNat v) else []) false) ∧
  (∀ (s : State) (n : Tenant) (k v : Nat),
    (s.rd (ob (0x9010 + n.val) k) = v → s.allotStore n k v = s) ∧
    (s.rd (ob (0x9010 + n.val) k) ≠ v → 4 ≤ k → k ≤ 8 → ∃ u : State, s.allotStore n k v = u.raise 1214 (withT0 n) (u8 n.val) ∧
      Changes [] [ob (0x9010 + n.val) k] s u ∧ u.rd (ob (0x9010 + n.val) k) = v))

/-- Key import and erasure, and the session of an update image. KEY_IMPORT puts a job of T0 in the crypto engine and its reply waits;
KEY_ERASE of an EMPTY slot zeroes the request's fields at once, of a key commits the erasure. A key's commit fills its slot's objects, its
check value and time, and is raised. BEGIN erases the bank that is neither ACTIVE nor in TRIAL and opens a session LOADING; a window write
adds its bytes and counts them; VERIFY starts the crypto job, whose end makes the bank VERIFIED with the header's versions, or REJECTED
with the status of the failed check, and is raised; ACTIVATE dates the end of the trial and restarts the target; CONFIRM makes the bank
ACTIVE, the earlier one PREVIOUS, raises the security floor and ends the session; ABORT ends it with IMAGE_ABORTED; REVERT restarts the
target with the earlier bank, of a trial with the trial bank REJECTED, counted, raised and faulted. A trial window that ends without
CONFIRM, and an air die not ready in time, revert too. (Rests on: 15_keys_and_images.md: R430 to R434, R437 to R443.) -/
def Obligations.KeysAndImages : Prop :=
  (∀ (s : State) (t : Tenant) (j : Job), s.Writes t j 0x9200 0x04 [1] →
    ∃ u : State, Serves (.keyImport t) s u.cryptoNext t j [] true ∧ Changes [.crypto] [] s u ∧
      u.crypto = { s.crypto with queues := s.crypto.queues.set t0 (s.crypto.queues[t0] ++ [.import_ t j.id]) }) ∧
  (∀ (s : State) (t : Tenant) (j : Job) (c : Nat), s.Writes t j 0x9200 0x04 [2] → s.rd (obT 0x9200 0x01 t) = c →
    (s.keyState c = 0 → ∃ u, Serves (.keyErase t) s u t j [] false ∧
      Changes [] [obT 0x9200 0x02 t, obT 0x9200 0x03 t, obT 0x9200 0x05 t] s u ∧ u.rd (obT 0x9200 0x02 t) = 0 ∧
      u.rd (obT 0x9200 0x03 t) = 0 ∧ u.rd (obT 0x9200 0x05 t) = 0) ∧
    (s.keyState c ≠ 0 → Serves (.keyErase t) s (s.commit (.key c none t j.id)) t j [] true)) ∧
  (∀ (s : State) (t : Tenant) (id c : Nat) (key : Octets), c < 0x40 → (∀ q ∈ s.svc.queues[t], q.id ≠ id) →
    ∃ u : State, s.keyKept c (some key) t id = u.raise 1136 (slotSet c) (u8 c ++ u8 0) ∧
      Changes [.nvaObjs, .keys, .timers] ([obT 0x9200 0x02 t, obT 0x9200 0x03 t, obT 0x9200 0x05 t] ++
        [2, 3, 4, 5].map (fun n => ob (0x9100 + c) n)) s u ∧ u.keyState c = 1 ∧ u.rd (ob (0x9100 + c) 0x04) = s.now ∧
      u.rd (ob (0x9100 + c) 0x03) = leNat ((aes key (List.replicate 16 0)).take 3) ∧ u.rd (ob (0x9100 + c) 0x05) = 0 ∧
      u.slotKey c = key ∧ u.isArmed (.suspension c) = false) ∧
  (∀ (s : State) (t : Tenant) (j : Job) (d b : Nat), s.Writes t j 0x9300 0x01 [1] → s.rd (ob 0x9300 0x02) = d →
    b = (if s.bankState d 0 = 5 ∨ s.bankState d 0 = 4 then 1 else 0) →
    ∃ u, Serves (.imageBegin t) s u t j [] false ∧
      Changes [.keys] [bankKey d b 0, bankKey d b 1, bankKey d b 2, ob 0x9300 0x03, ob 0x9300 0x05] s u ∧ u.imageSession = 1 ∧
      u.bankState d b = 1 ∧ u.rd (ob 0x9300 0x05) = 0 ∧
      u.keys = { s.keys with imageTarget := d, imageBank := b, banks := s.keys.banks.set (bankPlace d b) [] }) ∧
  (∀ (s : State) (t : Tenant) (j : Job) (off : Nat) (v : Octets), s.WritesAt t j 0x9310 0x00 off v →
    ∃ u, Serves (.imageWindowWrite t) s u t j [] false ∧ Changes [.keys] [ob 0x9300 0x05] s u ∧
      u.keys = { s.keys with banks := (s.keys.banks.set (bankPlace s.keys.imageTarget s.keys.imageBank)
        (s.bankBytes s.keys.imageTarget s.keys.imageBank ++ v)) } ∧
      u.rd (ob 0x9300 0x05) = (s.bankBytes s.keys.imageTarget s.keys.imageBank ++ v).length) ∧
  (∀ (s : State) (t : Tenant) (j : Job), s.Writes t j 0x9300 0x01 [2] →
    ∃ u : State, Serves (.imageVerify t) s u.cryptoNext t j [] false ∧ Changes [.crypto] [ob 0x9300 0x03] s u ∧ u.imageSession = 2 ∧
      u.crypto = { s.crypto with queues := s.crypto.queues.set t0 (s.crypto.queues[t0] ++ [.verify]) }) ∧
  (∀ (s : State) (x : Tenant), s.crypto.running = some (x, .verify) →
    (s.imageSession = 2 → Ends .imageVerifyDone s (s.jobOver x).verified) ∧
    (s.imageSession ≠ 2 → Ends .imageVerifyDone s (s.jobOver x))) ∧
  (∀ s : State, s.crypto.running = none → Ends .imageVerifyDone s s) ∧
  (∀ (s : State) (d b : Nat), s.keys.imageTarget = d → s.keys.imageBank = b →
    (s.imageCheck d (s.bankBytes d b) = 0 →
      ∃ u : State, s.verified = u.imageEvent 1141 d 0 b ∧
        Changes [] [bankKey d b 0, bankKey d b 1, bankKey d b 2, ob 0x9300 0x03, ob 0x9300 0x06] s u ∧ u.bankState d b = 3 ∧
        u.imageSession = 3 ∧ u.rd (ob 0x9300 0x06) = 0 ∧ u.rd (bankKey d b 2) = u16At (s.bankBytes d b) 12) ∧
    (s.imageCheck d (s.bankBytes d b) ≠ 0 →
      ∃ u : State, s.verified = u.imageEvent 1142 d (s.imageCheck d (s.bankBytes d b)) b ∧
        Changes [] [bankKey d b 0, ob 0x9300 0x03, ob 0x9300 0x06] s u ∧ u.bankState d b = 7 ∧ u.imageSession = 0 ∧
        u.rd (ob 0x9300 0x06) = s.imageCheck d (s.bankBytes d b))) ∧
  (∀ (s : State) (t : Tenant) (j : Job), s.Writes t j 0x9300 0x01 [3] →
    ∃ u : State, Serves (.imageActivate t) s (u.restartTarget s.keys.imageTarget) t j [] false ∧
      Changes [.timers] [ob 0x9300 0x03, ob 0x9300 0x08] s u ∧ u.imageSession = 4 ∧
      u.rd (ob 0x9300 0x08) = s.now + s.rd (ob 0x9300 0x07) ∧ u.dueAt .trial = some (s.now + s.rd (ob 0x9300 0x07))) ∧
  (∀ (s : State) (t : Tenant) (j : Job) (d old : Nat), s.Writes t j 0x9300 0x01 [4] → s.keys.trialFrom = some (d, old) →
    s.runningBank d ≠ old → s.runningBank d ≤ 1 → old ≤ 1 →
    ∃ u : State, Serves (.imageConfirm t) s (u.imageEvent 1144 d 0 (s.runningBank d)) t j [] false ∧
      Changes [.keys, .timers] [bankKey d (s.runningBank d) 0, bankKey d old 0, ob (0x9320 + d) 0x08, ob 0x9300 0x03, ob 0x9300 0x06] s u ∧
      u.bankState d (s.runningBank d) = 5 ∧ u.bankState d old = 6 ∧ u.imageSession = 0 ∧ u.keys = { s.keys with trialFrom := none } ∧
      u.rd (ob (0x9320 + d) 0x08) = max (s.rd (ob (0x9320 + d) 0x08)) (s.rd (bankKey d (s.runningBank d) 2)) ∧ u.isArmed .trial = false) ∧
  (∀ (s : State) (t : Tenant) (j : Job), s.Writes t j 0x9300 0x01 [5] → s.crypto.running = none → (∀ x : Tenant, s.crypto.queues[x] = []) →
    ∃ u, Serves (.imageAbort t) s u t j [] false ∧
      Changes [.crypto] [bankKey s.keys.imageTarget s.keys.imageBank 0, ob 0x9300 0x03, ob 0x9300 0x06] s u ∧ u.imageSession = 0 ∧
      u.rd (ob 0x9300 0x06) = 7 ∧ u.bankState s.keys.imageTarget s.keys.imageBank = (if s.imageSession = 3 ∨ s.imageWhole = true then 2 else 0) ∧
      u.crypto.running = none) ∧
  (∀ (s : State) (t : Tenant) (j : Job) (d b : Nat), s.Writes t j 0x9300 0x01 [6] →
    (s.imageSession = 5 → s.keys.trialFrom = some (d, b) → Serves (.imageRevert t) s (s.revertTrial.restartTarget d) t j [] false) ∧
    (s.imageSession ≠ 5 → s.rd (ob 0x9300 0x02) = d → s.bankIn d 6 = some b →
      ∃ u : State, Serves (.imageRevert t) s (u.restartTarget d) t j [] false ∧ Changes [.keys] [] s u ∧
        u.keys = { s.keys with trialFrom := some (d, b) })) ∧
  (∀ (s : State) (d old : Nat), s.keys.trialFrom = some (d, old) → d = 1 ∨ d = 2 → s.rd (ob (0x9320 + d) 0x09) + 1 < 2 ^ 32 →
    ∃ u : State, s.revertTrial = (u.imageEvent 1145 d 8 (s.runningBank d)).fault 112 d ∧
      Changes [.timers] [bankKey d (s.runningBank d) 0, ob 0x9300 0x03, ob 0x9300 0x06, ob (0x9320 + d) 0x09] s u ∧
      u.imageSession = 0 ∧ u.rd (ob 0x9300 0x06) = 8 ∧ u.rd (ob (0x9320 + d) 0x09) = s.rd (ob (0x9320 + d) 0x09) + 1 ∧
      (s.runningBank d ≤ 1 → u.bankState d (s.runningBank d) = 7) ∧ u.isArmed .trial = false) ∧
  (∀ (s : State) (p : Instr × Timer), p ∈ [(Instr.trialWindowExpired, Timer.trial), (.trialAirReadyTimeout, .trialAir)] →
    s.isDue p.2 = true →
    (∀ d b, s.imageSession = 5 → s.keys.trialFrom = some (d, b) → Ends p.1 s ((s.cancel p.2).revertTrial.restartTarget d)) ∧
    (s.imageSession < 4 → Ends p.1 s (s.cancel p.2)))

/-- The fault collector's commands, the reactions, the pocket copy and the general pins. A raise counts, keeps the detail, and makes the
cause present; with the source pending in the domain that is all. Else it is dated, pending, and its record formed, or latched while the
conductor is not up. Without an OPEN record of its domain a new one takes the next number and page, is committed, starts the handling
window, and is raised to T0 and the domain where the source reacts with IRQ. An acknowledgement, or the end of the handling window, marks
the OPEN record; with its resets released it leaves OPEN: PENDING and committed while a source of it is pending, else CLEARED. A clear
ends the sources without a cause that are not raised in the same microsecond, NVA_WRITE_FAULT not while the last checkpoint's commit has
failed, and clears the records they leave; with a cause left it is answered CAUSE_PRESENT. A reaction write stores the byte. The copy is
refreshed at the end of the interval where a record was committed in it. A pin write applies the pin's configuration while VIO is there:
an output takes its level. (Rests on: 18_faults.md: R489 to R492, R494, R497, R501, R508, R509; 22_balls_and_pins.md: R587.) -/
def Obligations.FaultsAndPins : Prop :=
  (∀ (s : State) (f d : Nat), s.power.powered = true → faultClass f ≠ 0 → f ≠ 2 → f ≠ 3 → momentary f = false →
    s.rd (ob (0x7100 + f) 0x06) + 1 < 2 ^ 32 → f < 192 →
    (s.isPending f t0 = true → ∃ u, Ends (.faultRaise f t0 d) s u ∧ Changes [.faults] [ob (0x7100 + f) 0x06, ob (0x7100 + f) 0x08] s u ∧
      u.rd (ob (0x7100 + f) 0x06) = s.rd (ob (0x7100 + f) 0x06) + 1 ∧ u.rd (ob (0x7100 + f) 0x08) = d ∧ u.causeIn f t0 = true ∧
      u.faults.pending = s.faults.pending) ∧
    (s.isPending f t0 = false → s.runState = 1 →
      ∃ u : State, Changes [.faults] [ob (0x7100 + f) 0x06, ob (0x7100 + f) 0x07, ob (0x7100 + f) 0x08] s u ∧
        u.rd (ob (0x7100 + f) 0x07) = s.now ∧ u.rd (ob (0x7100 + f) 0x08) = d ∧ u.causeIn f t0 = true ∧
        u.faults.pending = s.faults.pending ++ [(f, 0)] ∧
        (s.up = true → u.faults.latched = s.faults.latched ∧ Ends (.faultRaise f t0 d) s (u.formRecord f t0 d s.now)) ∧
        (s.up = false → u.faults.latched = s.faults.latched ++ [(f, 0, d, s.now)] ∧ Ends (.faultRaise f t0 d) s u))) ∧
  (∀ (s : State) (f d : Nat) (t : Tenant), (faultClass f = 0 ∨ (t ≠ t0 ∧ f ≠ 2 ∧ f ≠ 3)) → Ends (.faultRaise f t d) s s) ∧
  (∀ (s : State) (f : Nat) (t : Tenant) (d : Nat), s.power.powered = true → (f = 2 ∨ f = 3) →
    Ends (.faultRaise f t d) s (s.faultKeyed f t d d)) ∧
  (∀ (s : State) (f detail stamp page : Nat) (d : Tenant), s.openRecord d = none → s.newPage = (page, false) → s.resetBits f d 0 = (0, false) →
    s.rd (ob 0x7000 0x04) + 1 < 2 ^ 32 →
    ∃ (u : State) (r : FaultRecord),
      s.formRecord f d detail stamp = (if (s.reaction f).testBit 0 then u.raise 1200 (faultSet d) r.record else u) ∧
      Changes [.faults, .timers, .order] [ob 0x7000 0x04, ob 0x7000 0x09] s u ∧ u.openRecord d = some (page, r) ∧ r.num = s.faults.nextNum ∧
      r.source = f ∧ r.domain = d ∧ r.state = 0 ∧ r.raisedAt = stamp ∧ r.detail = detail ∧ r.bitmap = 2 ^ f ∧ r.merged = 0 ∧
      u.rd (ob 0x7000 0x04) = s.rd (ob 0x7000 0x04) + 1 ∧ u.rd (ob 0x7000 0x09) = s.faults.nextNum ∧
      u.faults.nextNum = (s.faults.nextNum + 1) % 65536 ∧ Commit.fault page ∈ u.order ∧
      u.dueAt (.handling d) = some (stamp + s.rd (ob 0x7000 0x05))) ∧
  (∀ (s : State) (d : Tenant) (page : Nat) (r : FaultRecord), s.openRecord d = some (page, r) →
    (¬ (r.resets = 0 ∧ r.acked = true) → s.leaveOpen d = s) ∧
    (r.resets = 0 → r.acked = true → s.recordLive r = true → ∃ u : State, s.leaveOpen d = u.commit (.fault page) ∧ Changes [.faults] [] s u ∧
      u.faults = { s.faults with ring := s.faults.ring.map (fun p => if p.1 = page then (p.1, { p.2 with state := 1 }) else p) }) ∧
    (r.resets = 0 → r.acked = true → s.recordLive r = false → s.leaveOpen d = s.clearRecord page r)) ∧
  (∀ (s : State) (t : Tenant) (page : Nat) (r : FaultRecord), s.openRecord t = some (page, r) →
    ∃ u : State, Changes [.faults, .timers] [] s u ∧
      u.faults = { s.faults with ring := s.faults.ring.map (fun p => if p.1 = page then (p.1, { p.2 with acked := true }) else p) } ∧
      (s.isDue (.handling t) = true → s.up = true → Ends (.handlingWindowExpired t) s ((u.cancel (.handling t)).leaveOpen t)) ∧
      (∀ j, s.Writes t j 0x7010 0x04 [1] → t ≠ t0 → Serves (.faultAcknowledge t) s (u.leaveOpen t) t j [] false)) ∧
  (∀ (s : State) (t : Tenant) (j : Job), s.Writes t j 0x7010 0x04 [1] → Serves (.faultAcknowledge t) s (s.acknowledge t) t j [] false) ∧
  (∀ (s : State) (t : Tenant), s.isDue (.handling t) = true → s.up = true → s.openRecord t = none →
    Ends (.handlingWindowExpired t) s (s.cancel (.handling t))) ∧
  (∀ (s : State) (t : Tenant) (j : Job) (n : Nat), n < 256 →
    (s.Writes t j 0x7010 0x03 (u8 n) → Serves (.faultClear t) s (s.clearFaults t n) t j [] false) ∧
    (s.turn t = some j → j.req.op = .write 0x7010 0x03 0 (u8 n) → s.writeStatus t j.req.transport 0x7010 0x03 0 (u8 n) = 0x0C →
      Answers (.faultClear t) s (s.clearFaults t n) t j 0x0C [])) ∧
  (∀ (s : State) (t : Tenant) (n : Nat), n < 16 ∨ (20 < n ∧ n < 192) →
    ∃ u : State, s.clearFaults t n = u.clearRecords ∧ Changes [.faults] [] s u ∧ u.faults.causes = s.faults.causes ∧
      ∀ p, p ∈ u.faults.pending ↔ (p ∈ s.faults.pending ∧
        ¬ (p.1 = n ∧ (t = t0 ∨ p.2 = t.val) ∧ s.raisedNow p = false ∧ (∀ c ∈ s.faults.causes, ¬ (c.1 = p.1 ∧ c.2.1 = p.2)) ∧
          ¬ (p.1 = 1 ∧ s.ckpt.failed = true)))) ∧
  (∀ (s : State) (t : Tenant) (j : Job) (f x : Nat), f < 192 → x < 256 → s.Writes t j (0x7100 + f) 0x03 (u8 x) →
    ∃ u, Serves (.reactionWrite t) s u t j (if s.needsCommit (ob (0x7100 + f) 0x03) x then [(ob (0x7100 + f) 0x03, x)] else []) false ∧
      Changes [] [ob (0x7100 + f) 0x03] s u ∧ u.reaction f = x) ∧
  (∀ s : State, s.isDue .copy = true → s.up = true →
    (s.faults.copyDirty = true → Ends .faultCopyRefresh s s.refreshCopy) ∧
    (s.faults.copyDirty = false → Ends .faultCopyRefresh s (s.cancel .copy))) ∧
  (∀ (s : State) (t : Tenant) (j : Job) (g k x : Nat), g < 16 → k ∈ [1, 2, 3, 4, 6, 7] → x < 256 → s.Writes t j (0x1090 + g) k (u8 x) →
    ∃ u : State, Serves (.gpConfigWrite t) s (u.applyPin g (k == 1)) t j
        (if s.needsCommit (ob (0x1090 + g) k) x then [(ob (0x1090 + g) k, x)] else []) false ∧
      Changes [] [ob (0x1090 + g) k] s u ∧ u.rd (ob (0x1090 + g) k) = x) ∧
  (∀ (s : State) (g : Nat) (b : Bool),
    (s.isOn (ob 0x1060 0x06) = false → s.applyPin g b = s) ∧
    (s.isOn (ob 0x1060 0x06) = true → s.rd (ob (0x1090 + g) 0x01) = 2 →
      Changes [] [ob (0x1090 + g) 0x05, ob (0x1090 + g) 0x08] s (s.applyPin g b) ∧
      (s.applyPin g b).rd (ob (0x1090 + g) 0x08) = s.rd (ob (0x1090 + g) 0x02) ∧ (s.applyPin g b).rd (ob (0x1090 + g) 0x05) = 0))
end

