-- ==== Sys2Proof/Laws/Cipher.lean ====
section
/-! SUPPORT. Ciphering of mesh frames (R276) and of the wand's secured commands (R357): lengths, and that ciphering twice gives back what
was ciphered. -/

namespace Sys2Proof.Machine

@[simp] theorem leBytes_length (n v : Nat) : (leBytes n v).length = n := by
  induction n generalizing v with
  | zero => rfl
  | succ n ih => simp [leBytes, ih]

@[simp] theorem aes_length (key block : Octets) : (aes key block).length = 16 := leBytes_length 16 _

theorem ceilDiv_covers (a b : Nat) (hb : 0 < b) : a ≤ ceilDiv a b * b := by
  have h := Nat.div_add_mod (a + b - 1) b
  have m := Nat.mod_lt (a + b - 1) hb
  have c : b * ((a + b - 1) / b) = (a + b - 1) / b * b := Nat.mul_comm ..
  unfold ceilDiv
  omega

/-- A stream of at least the message's length cancels itself. -/
theorem xorOctets_cancel : ∀ (a b : Octets), a.length ≤ b.length → xorOctets (xorOctets a b) b = a
  | [], _, _ => by simp [xorOctets]
  | _ :: _, [], h => by simp at h
  | x :: a, y :: b, h => by
    have ih := xorOctets_cancel a b (by simpa using h)
    simp only [xorOctets, List.zipWith_cons_cons] at ih ⊢
    rw [ih, BitVec.xor_assoc, BitVec.xor_self, BitVec.xor_zero]

@[simp] theorem ccmStreams_length (key nonce : Octets) (n : Nat) :
    ((List.range n).flatMap (fun i => ccmStream key nonce (i + 1))).length = n * 16 := by
  simp [List.length_flatMap, ccmStream]

@[simp] theorem ccmCrypt_length (key nonce msg : Octets) : (ccmCrypt key nonce msg).length = msg.length := by
  simp only [ccmCrypt, xorOctets, List.length_zipWith, ccmStreams_length]
  exact Nat.min_eq_left (ceilDiv_covers _ _ (by decide))

/-- Ciphering is its own inverse: what a sender enciphers the receiver reads in clear (R276). -/
@[simp] theorem ccmCrypt_ccmCrypt (key nonce msg : Octets) : ccmCrypt key nonce (ccmCrypt key nonce msg) = msg := by
  have h := ccmCrypt_length key nonce msg
  unfold ccmCrypt at h ⊢
  rw [h]
  exact xorOctets_cancel _ _ (by rw [ccmStreams_length]; exact ceilDiv_covers _ _ (by decide))

/-! ### The wand's cipher -/

theorem ctrBlocks_length (kenc sid : Octets) (v n : Nat) :
    ((List.range n).flatMap (fun j => padTo 16 (aes kenc (sid ++ u32 v ++ u16 j ++ [0, 0])))).length = n * 16 := by
  simp [List.length_flatMap, padTo]

@[simp] theorem ctrCrypt_length (kenc sid : Octets) (v : Nat) (b : Octets) : (ctrCrypt kenc sid v b).length = b.length := by
  simp only [ctrCrypt, List.length_zipWith, ctrBlocks_length]
  omega

/-- The wand's cipher is its own inverse (R357). -/
@[simp] theorem ctrCrypt_ctrCrypt (kenc sid : Octets) (v : Nat) (b : Octets) : ctrCrypt kenc sid v (ctrCrypt kenc sid v b) = b := by
  have h := ctrCrypt_length kenc sid v b
  unfold ctrCrypt at h ⊢
  rw [h]
  exact xorOctets_cancel _ _ (by rw [ctrBlocks_length]; omega)

end Sys2Proof.Machine
end

