-- ==== Sys2Proof/Laws/Tab.lean ====
section
/-! SUPPORT. The laws of the sparse tables: a key reads what was last stored under it, a store leaves every other key as it was,
and every operation keeps the canonical form. -/

namespace Sys2Proof.Machine

@[simp] theorem Tab.find_del_self (t : Tab) (k : Nat) : Tab.find (Tab.del t k) k = none := by
  induction t with
  | nil => rfl
  | cons p t ih =>
    obtain ⟨a, v⟩ := p
    by_cases h : a = k
    · simp [Tab.del, h, ih]
    · simp [Tab.del, h, Tab.find, ih]

theorem Tab.find_del_other (t : Tab) {k j : Nat} (h : j ≠ k) : Tab.find (Tab.del t k) j = Tab.find t j := by
  induction t with
  | nil => rfl
  | cons p t ih =>
    obtain ⟨a, v⟩ := p
    by_cases h1 : a = k
    · have : a ≠ j := fun e => h (e.symm.trans h1)
      simp [Tab.del, Tab.find, h1, ih]
      intro e; exact absurd e.symm h
    · by_cases h2 : a = j
      · simp [Tab.del, Tab.find, h2, h]
      · simp [Tab.del, h1, Tab.find, h2, ih]

theorem Tab.find_ins_self (t : Tab) (k v : Nat) (h : Tab.find t k = none) : Tab.find (Tab.ins t k v) k = some v := by
  induction t with
  | nil => simp [Tab.ins, Tab.find]
  | cons p t ih =>
    obtain ⟨a, w⟩ := p
    by_cases h1 : a = k
    · simp [Tab.find, h1] at h
    · have h2 : Tab.find t k = none := by simpa [Tab.find, h1] using h
      by_cases h3 : k < a
      · simp [Tab.ins, h3, Tab.find]
      · simp [Tab.ins, h3, Tab.find, h1, ih h2]

theorem Tab.find_ins_other (t : Tab) {k j : Nat} (v : Nat) (h : j ≠ k) : Tab.find (Tab.ins t k v) j = Tab.find t j := by
  induction t with
  | nil => simp [Tab.ins, Tab.find]; exact fun e => h e.symm
  | cons p t ih =>
    obtain ⟨a, w⟩ := p
    by_cases h3 : k < a
    · simp only [Tab.ins, h3, if_true, Tab.find]
      rw [if_neg (fun e => h e.symm)]
    · by_cases h2 : a = j
      · rw [Tab.ins, if_neg h3, Tab.find, Tab.find, if_pos h2, if_pos h2]
      · simp [Tab.ins, h3, Tab.find, h2, ih]

/-- A key reads what was stored under it. -/
@[simp] theorem Tab.get_set_self (d : Nat → Nat) (t : Tab) (k v : Nat) : Tab.get d (Tab.set d t k v) k = v := by
  unfold Tab.get Tab.set
  split
  · next h => simp [h]
  · simp [Tab.find_ins_self _ _ _ (Tab.find_del_self t k)]

/-- A store leaves every other key as it was. -/
theorem Tab.get_set_other (d : Nat → Nat) (t : Tab) {k j : Nat} (v : Nat) (h : j ≠ k) :
    Tab.get d (Tab.set d t k v) j = Tab.get d t j := by
  unfold Tab.get Tab.set
  split
  · rw [Tab.find_del_other t h]
  · rw [Tab.find_ins_other _ v h, Tab.find_del_other t h]

/-- What a key reads after a store. -/
theorem Tab.get_set (d : Nat → Nat) (t : Tab) (k j v : Nat) :
    Tab.get d (Tab.set d t k v) j = if j = k then v else Tab.get d t j := by
  by_cases h : j = k
  · subst h; simp
  · rw [Tab.get_set_other d t v h, if_neg h]

/-! ### The canonical form -/

theorem Tab.wfFrom_weaken (d : Nat → Nat) (t : Tab) {lo : Nat} (h : Tab.wfFrom d (some lo) t = true) :
    Tab.wfFrom d none t = true := by
  cases t with
  | nil => rfl
  | cons p t => obtain ⟨a, v⟩ := p; simp [Tab.wfFrom] at h ⊢; exact ⟨h.1.2, h.2⟩

theorem Tab.wfFrom_lower (d : Nat → Nat) (t : Tab) {a b : Nat} (hab : a ≤ b) (h : Tab.wfFrom d (some b) t = true) :
    Tab.wfFrom d (some a) t = true := by
  cases t with
  | nil => rfl
  | cons p t =>
    obtain ⟨k, v⟩ := p
    simp [Tab.wfFrom] at h ⊢
    exact ⟨⟨by omega, h.1.2⟩, h.2⟩

theorem Tab.wfFrom_del (d : Nat → Nat) (t : Tab) (k : Nat) (lo : Option Nat) (h : Tab.wfFrom d lo t = true) :
    Tab.wfFrom d lo (Tab.del t k) = true := by
  induction t generalizing lo with
  | nil => rfl
  | cons p t ih =>
    obtain ⟨a, v⟩ := p
    by_cases h1 : a = k
    · simp only [Tab.del, h1, if_true]
      subst h1
      cases lo with
      | none => simp [Tab.wfFrom] at h; exact ih _ (Tab.wfFrom_weaken d t h.2)
      | some b =>
        simp [Tab.wfFrom] at h
        exact ih _ (Tab.wfFrom_lower d t (by omega) h.2)
    · simp only [Tab.del, h1, if_false]
      simp [Tab.wfFrom] at h ⊢
      exact ⟨h.1, ih _ h.2⟩

theorem Tab.wfFrom_ins (d : Nat → Nat) (t : Tab) (k v : Nat) (hv : v ≠ d k) (lo : Option Nat)
    (hlo : ∀ b, lo = some b → b < k) (hk : Tab.find t k = none) (h : Tab.wfFrom d lo t = true) :
    Tab.wfFrom d lo (Tab.ins t k v) = true := by
  induction t generalizing lo with
  | nil =>
    cases lo with
    | none => simp [Tab.ins, Tab.wfFrom, hv]
    | some b => simp [Tab.ins, Tab.wfFrom, hv, hlo b rfl]
  | cons p t ih =>
    obtain ⟨a, w⟩ := p
    have hak : a ≠ k := by intro e; simp [Tab.find, e] at hk
    have hk2 : Tab.find t k = none := by simpa [Tab.find, hak] using hk
    by_cases h3 : k < a
    · cases lo with
      | none => simp [Tab.ins, h3, Tab.wfFrom, hv] at h ⊢; exact ⟨h.1, h.2⟩
      | some b => simp [Tab.ins, h3, Tab.wfFrom, hv, hlo b rfl] at h ⊢; exact ⟨h.1.2, h.2⟩
    · simp only [Tab.ins, h3, if_false]
      simp [Tab.wfFrom] at h ⊢
      exact ⟨h.1, ih (some a) (by intro b e; cases e; omega) hk2 h.2⟩

/-- A store keeps the canonical form. -/
theorem Tab.wf_set (d : Nat → Nat) (t : Tab) (k v : Nat) (h : Tab.wf d t = true) : Tab.wf d (Tab.set d t k v) = true := by
  unfold Tab.wf Tab.set at *
  split
  · exact Tab.wfFrom_del d t k none h
  · next hv =>
    exact Tab.wfFrom_ins d _ k v hv none (by simp) (Tab.find_del_self t k) (Tab.wfFrom_del d t k none h)

/-- The empty table is canonical. -/
@[simp] theorem Tab.wf_nil (d : Nat → Nat) : Tab.wf d [] = true := rfl

/-- Stores in order keep the canonical form. -/
theorem Tab.wf_setAll (d : Nat → Nat) (l : List (Nat × Nat)) (t : Tab) (h : Tab.wf d t = true) :
    Tab.wf d (l.foldl (fun t p => Tab.set d t p.1 p.2) t) = true := by
  induction l generalizing t with
  | nil => exact h
  | cons p l ih => exact ih _ (Tab.wf_set d t p.1 p.2 h)

end Sys2Proof.Machine
end

