-- ==== Sys2Proof/Laws/State.lean ====
section
/-! SUPPORT. What each named operation does to each field of the state: one lemma for each field that it leaves, and for the
field that it sets what stands there afterwards. Written out by a script. -/

namespace Sys2Proof.Machine

/-! ### Object values -/

@[simp] theorem State.rd_wr_self (s : State) (k v : Nat) : (s.wr k v).rd k = v := Tab.get_set_self _ _ _ _

theorem State.rd_wr (s : State) (k v j : Nat) : (s.wr k v).rd j = if j = k then v else s.rd j := Tab.get_set _ _ _ _ _

theorem State.rd_wr_other (s : State) {k j : Nat} (v : Nat) (h : j ≠ k) : (s.wr k v).rd j = s.rd j :=
  Tab.get_set_other _ _ _ h

/-- A state is read through its table of objects alone. -/
theorem State.rd_congr {s t : State} (h : s.objs = t.objs) (k : Nat) : s.rd k = t.rd k := by unfold State.rd; rw [h]

/-- Stores in order touch the table of objects alone. -/
theorem State.wrAll_eq (s : State) (l : List (Nat × Nat)) :
    s.wrAll l = { s with objs := l.foldl (fun t p => Tab.set Dict.dflt t p.1 p.2) s.objs } := by
  induction l generalizing s with
  | nil => rfl
  | cons p l ih =>
    have h := ih (s.wr p.1 p.2)
    simpa [State.wrAll, State.wr] using h

@[simp] theorem State.wrAll_nil (s : State) : s.wrAll [] = s := rfl
@[simp] theorem State.wrAll_cons (s : State) (p : Nat × Nat) (l : List (Nat × Nat)) :
    s.wrAll (p :: l) = (s.wr p.1 p.2).wrAll l := rfl

/-- Stores in order leave every key they do not name. -/
theorem State.rd_wrAll_other (l : List (Nat × Nat)) (s : State) (j : Nat) (h : ∀ p ∈ l, j ≠ p.1) :
    (s.wrAll l).rd j = s.rd j := by
  induction l generalizing s with
  | nil => rfl
  | cons p l ih =>
    rw [State.wrAll_cons, ih _ (fun q hq => h q (by simp [hq])), State.rd_wr_other s _ (h p (by simp))]

theorem State.rd_reset1 (s : State) (k j : Nat) : (s.reset1 k).rd j = if j = k then Dict.dflt k else s.rd j :=
  State.rd_wr _ _ _ _

theorem State.rd_add_other (s : State) {k j : Nat} (n : Nat) (h : j ≠ k) : (s.add k n).rd j = s.rd j := by
  unfold State.add; split <;> exact State.rd_wr_other s _ h

theorem State.rd_inc_other (s : State) {k j : Nat} (h : j ≠ k) : (s.inc k).rd j = s.rd j := State.rd_add_other s 1 h

/-- A counter below the top of its type goes up by what is added. -/
theorem State.rd_add_self (s : State) (k n : Nat) (h : s.rd k + n < 2 ^ Dict.bits k) : (s.add k n).rd k = s.rd k + n := by
  unfold State.add; rw [if_pos h, State.rd_wr_self]

theorem State.rd_inc_self (s : State) (k : Nat) (h : s.rd k + 1 < 2 ^ Dict.bits k) : (s.inc k).rd k = s.rd k + 1 :=
  State.rd_add_self s k 1 h

theorem State.rd_incSat_other (s : State) {k j : Nat} (h : j ≠ k) : (s.incSat k).rd j = s.rd j :=
  State.rd_wr_other s _ h

theorem State.rd_wrFit_self (s : State) (k v : Nat) (h : v < 2 ^ Dict.bits k) : (s.wrFit k v).rd k = v := by
  unfold State.wrFit; rw [if_pos h, State.rd_wr_self]

theorem State.rd_wrFit_other (s : State) {k j : Nat} (v : Nat) (h : j ≠ k) : (s.wrFit k v).rd j = s.rd j :=
  State.rd_wr_other s _ h


/-! ### wr -/

@[simp] theorem State.wr_pending (s : State) (k v : Nat) : (s.wr k v).pending = s.pending := rfl
@[simp] theorem State.wr_free (s : State) (k v : Nat) : (s.wr k v).free = s.free := rfl
@[simp] theorem State.wr_power (s : State) (k v : Nat) : (s.wr k v).power = s.power := rfl
@[simp] theorem State.wr_time (s : State) (k v : Nat) : (s.wr k v).time = s.time := rfl
@[simp] theorem State.wr_timers (s : State) (k v : Nat) : (s.wr k v).timers = s.timers := rfl
@[simp] theorem State.wr_nvaObjs (s : State) (k v : Nat) : (s.wr k v).nvaObjs = s.nvaObjs := rfl
@[simp] theorem State.wr_charges (s : State) (k v : Nat) : (s.wr k v).charges = s.charges := rfl
@[simp] theorem State.wr_ckpt (s : State) (k v : Nat) : (s.wr k v).ckpt = s.ckpt := rfl
@[simp] theorem State.wr_order (s : State) (k v : Nat) : (s.wr k v).order = s.order := rfl
@[simp] theorem State.wr_retried (s : State) (k v : Nat) : (s.wr k v).retried = s.retried := rfl
@[simp] theorem State.wr_again (s : State) (k v : Nat) : (s.wr k v).again = s.again := rfl
@[simp] theorem State.wr_nvaTags (s : State) (k v : Nat) : (s.wr k v).nvaTags = s.nvaTags := rfl
@[simp] theorem State.wr_rst (s : State) (k v : Nat) : (s.wr k v).rst = s.rst := rfl
@[simp] theorem State.wr_links (s : State) (k v : Nat) : (s.wr k v).links = s.links := rfl
@[simp] theorem State.wr_svc (s : State) (k v : Nat) : (s.wr k v).svc = s.svc := rfl
@[simp] theorem State.wr_host (s : State) (k v : Nat) : (s.wr k v).host = s.host := rfl
@[simp] theorem State.wr_router (s : State) (k v : Nat) : (s.wr k v).router = s.router := rfl
@[simp] theorem State.wr_faults (s : State) (k v : Nat) : (s.wr k v).faults = s.faults := rfl
@[simp] theorem State.wr_pins (s : State) (k v : Nat) : (s.wr k v).pins = s.pins := rfl
@[simp] theorem State.wr_voices (s : State) (k v : Nat) : (s.wr k v).voices = s.voices := rfl
@[simp] theorem State.wr_dues (s : State) (k v : Nat) : (s.wr k v).dues = s.dues := rfl
@[simp] theorem State.wr_scores (s : State) (k v : Nat) : (s.wr k v).scores = s.scores := rfl
@[simp] theorem State.wr_tags (s : State) (k v : Nat) : (s.wr k v).tags = s.tags := rfl
@[simp] theorem State.wr_crypto (s : State) (k v : Nat) : (s.wr k v).crypto = s.crypto := rfl
@[simp] theorem State.wr_keys (s : State) (k v : Nat) : (s.wr k v).keys = s.keys := rfl
@[simp] theorem State.wr_cal (s : State) (k v : Nat) : (s.wr k v).cal = s.cal := rfl
@[simp] theorem State.wr_metros (s : State) (k v : Nat) : (s.wr k v).metros = s.metros := rfl
@[simp] theorem State.wr_air (s : State) (k v : Nat) : (s.wr k v).air = s.air := rfl
@[simp] theorem State.wr_mac (s : State) (k v : Nat) : (s.wr k v).mac = s.mac := rfl
@[simp] theorem State.wr_line (s : State) (k v : Nat) : (s.wr k v).line = s.line := rfl
@[simp] theorem State.wr_pocket (s : State) (k v : Nat) : (s.wr k v).pocket = s.pocket := rfl

/-! ### wrInt -/

@[simp] theorem State.wrInt_pending (s : State) (k : Nat) (v : Int) : (s.wrInt k v).pending = s.pending := rfl
@[simp] theorem State.wrInt_free (s : State) (k : Nat) (v : Int) : (s.wrInt k v).free = s.free := rfl
@[simp] theorem State.wrInt_power (s : State) (k : Nat) (v : Int) : (s.wrInt k v).power = s.power := rfl
@[simp] theorem State.wrInt_time (s : State) (k : Nat) (v : Int) : (s.wrInt k v).time = s.time := rfl
@[simp] theorem State.wrInt_timers (s : State) (k : Nat) (v : Int) : (s.wrInt k v).timers = s.timers := rfl
@[simp] theorem State.wrInt_nvaObjs (s : State) (k : Nat) (v : Int) : (s.wrInt k v).nvaObjs = s.nvaObjs := rfl
@[simp] theorem State.wrInt_charges (s : State) (k : Nat) (v : Int) : (s.wrInt k v).charges = s.charges := rfl
@[simp] theorem State.wrInt_ckpt (s : State) (k : Nat) (v : Int) : (s.wrInt k v).ckpt = s.ckpt := rfl
@[simp] theorem State.wrInt_order (s : State) (k : Nat) (v : Int) : (s.wrInt k v).order = s.order := rfl
@[simp] theorem State.wrInt_retried (s : State) (k : Nat) (v : Int) : (s.wrInt k v).retried = s.retried := rfl
@[simp] theorem State.wrInt_again (s : State) (k : Nat) (v : Int) : (s.wrInt k v).again = s.again := rfl
@[simp] theorem State.wrInt_nvaTags (s : State) (k : Nat) (v : Int) : (s.wrInt k v).nvaTags = s.nvaTags := rfl
@[simp] theorem State.wrInt_rst (s : State) (k : Nat) (v : Int) : (s.wrInt k v).rst = s.rst := rfl
@[simp] theorem State.wrInt_links (s : State) (k : Nat) (v : Int) : (s.wrInt k v).links = s.links := rfl
@[simp] theorem State.wrInt_svc (s : State) (k : Nat) (v : Int) : (s.wrInt k v).svc = s.svc := rfl
@[simp] theorem State.wrInt_host (s : State) (k : Nat) (v : Int) : (s.wrInt k v).host = s.host := rfl
@[simp] theorem State.wrInt_router (s : State) (k : Nat) (v : Int) : (s.wrInt k v).router = s.router := rfl
@[simp] theorem State.wrInt_faults (s : State) (k : Nat) (v : Int) : (s.wrInt k v).faults = s.faults := rfl
@[simp] theorem State.wrInt_pins (s : State) (k : Nat) (v : Int) : (s.wrInt k v).pins = s.pins := rfl
@[simp] theorem State.wrInt_voices (s : State) (k : Nat) (v : Int) : (s.wrInt k v).voices = s.voices := rfl
@[simp] theorem State.wrInt_dues (s : State) (k : Nat) (v : Int) : (s.wrInt k v).dues = s.dues := rfl
@[simp] theorem State.wrInt_scores (s : State) (k : Nat) (v : Int) : (s.wrInt k v).scores = s.scores := rfl
@[simp] theorem State.wrInt_tags (s : State) (k : Nat) (v : Int) : (s.wrInt k v).tags = s.tags := rfl
@[simp] theorem State.wrInt_crypto (s : State) (k : Nat) (v : Int) : (s.wrInt k v).crypto = s.crypto := rfl
@[simp] theorem State.wrInt_keys (s : State) (k : Nat) (v : Int) : (s.wrInt k v).keys = s.keys := rfl
@[simp] theorem State.wrInt_cal (s : State) (k : Nat) (v : Int) : (s.wrInt k v).cal = s.cal := rfl
@[simp] theorem State.wrInt_metros (s : State) (k : Nat) (v : Int) : (s.wrInt k v).metros = s.metros := rfl
@[simp] theorem State.wrInt_air (s : State) (k : Nat) (v : Int) : (s.wrInt k v).air = s.air := rfl
@[simp] theorem State.wrInt_mac (s : State) (k : Nat) (v : Int) : (s.wrInt k v).mac = s.mac := rfl
@[simp] theorem State.wrInt_line (s : State) (k : Nat) (v : Int) : (s.wrInt k v).line = s.line := rfl
@[simp] theorem State.wrInt_pocket (s : State) (k : Nat) (v : Int) : (s.wrInt k v).pocket = s.pocket := rfl

/-! ### wrAll -/

@[simp] theorem State.wrAll_pending (s : State) (l : List (Nat × Nat)) : (s.wrAll l).pending = s.pending := by rw [State.wrAll_eq]
@[simp] theorem State.wrAll_free (s : State) (l : List (Nat × Nat)) : (s.wrAll l).free = s.free := by rw [State.wrAll_eq]
@[simp] theorem State.wrAll_power (s : State) (l : List (Nat × Nat)) : (s.wrAll l).power = s.power := by rw [State.wrAll_eq]
@[simp] theorem State.wrAll_time (s : State) (l : List (Nat × Nat)) : (s.wrAll l).time = s.time := by rw [State.wrAll_eq]
@[simp] theorem State.wrAll_timers (s : State) (l : List (Nat × Nat)) : (s.wrAll l).timers = s.timers := by rw [State.wrAll_eq]
@[simp] theorem State.wrAll_nvaObjs (s : State) (l : List (Nat × Nat)) : (s.wrAll l).nvaObjs = s.nvaObjs := by rw [State.wrAll_eq]
@[simp] theorem State.wrAll_charges (s : State) (l : List (Nat × Nat)) : (s.wrAll l).charges = s.charges := by rw [State.wrAll_eq]
@[simp] theorem State.wrAll_ckpt (s : State) (l : List (Nat × Nat)) : (s.wrAll l).ckpt = s.ckpt := by rw [State.wrAll_eq]
@[simp] theorem State.wrAll_order (s : State) (l : List (Nat × Nat)) : (s.wrAll l).order = s.order := by rw [State.wrAll_eq]
@[simp] theorem State.wrAll_retried (s : State) (l : List (Nat × Nat)) : (s.wrAll l).retried = s.retried := by rw [State.wrAll_eq]
@[simp] theorem State.wrAll_again (s : State) (l : List (Nat × Nat)) : (s.wrAll l).again = s.again := by rw [State.wrAll_eq]
@[simp] theorem State.wrAll_nvaTags (s : State) (l : List (Nat × Nat)) : (s.wrAll l).nvaTags = s.nvaTags := by rw [State.wrAll_eq]
@[simp] theorem State.wrAll_rst (s : State) (l : List (Nat × Nat)) : (s.wrAll l).rst = s.rst := by rw [State.wrAll_eq]
@[simp] theorem State.wrAll_links (s : State) (l : List (Nat × Nat)) : (s.wrAll l).links = s.links := by rw [State.wrAll_eq]
@[simp] theorem State.wrAll_svc (s : State) (l : List (Nat × Nat)) : (s.wrAll l).svc = s.svc := by rw [State.wrAll_eq]
@[simp] theorem State.wrAll_host (s : State) (l : List (Nat × Nat)) : (s.wrAll l).host = s.host := by rw [State.wrAll_eq]
@[simp] theorem State.wrAll_router (s : State) (l : List (Nat × Nat)) : (s.wrAll l).router = s.router := by rw [State.wrAll_eq]
@[simp] theorem State.wrAll_faults (s : State) (l : List (Nat × Nat)) : (s.wrAll l).faults = s.faults := by rw [State.wrAll_eq]
@[simp] theorem State.wrAll_pins (s : State) (l : List (Nat × Nat)) : (s.wrAll l).pins = s.pins := by rw [State.wrAll_eq]
@[simp] theorem State.wrAll_voices (s : State) (l : List (Nat × Nat)) : (s.wrAll l).voices = s.voices := by rw [State.wrAll_eq]
@[simp] theorem State.wrAll_dues (s : State) (l : List (Nat × Nat)) : (s.wrAll l).dues = s.dues := by rw [State.wrAll_eq]
@[simp] theorem State.wrAll_scores (s : State) (l : List (Nat × Nat)) : (s.wrAll l).scores = s.scores := by rw [State.wrAll_eq]
@[simp] theorem State.wrAll_tags (s : State) (l : List (Nat × Nat)) : (s.wrAll l).tags = s.tags := by rw [State.wrAll_eq]
@[simp] theorem State.wrAll_crypto (s : State) (l : List (Nat × Nat)) : (s.wrAll l).crypto = s.crypto := by rw [State.wrAll_eq]
@[simp] theorem State.wrAll_keys (s : State) (l : List (Nat × Nat)) : (s.wrAll l).keys = s.keys := by rw [State.wrAll_eq]
@[simp] theorem State.wrAll_cal (s : State) (l : List (Nat × Nat)) : (s.wrAll l).cal = s.cal := by rw [State.wrAll_eq]
@[simp] theorem State.wrAll_metros (s : State) (l : List (Nat × Nat)) : (s.wrAll l).metros = s.metros := by rw [State.wrAll_eq]
@[simp] theorem State.wrAll_air (s : State) (l : List (Nat × Nat)) : (s.wrAll l).air = s.air := by rw [State.wrAll_eq]
@[simp] theorem State.wrAll_mac (s : State) (l : List (Nat × Nat)) : (s.wrAll l).mac = s.mac := by rw [State.wrAll_eq]
@[simp] theorem State.wrAll_line (s : State) (l : List (Nat × Nat)) : (s.wrAll l).line = s.line := by rw [State.wrAll_eq]
@[simp] theorem State.wrAll_pocket (s : State) (l : List (Nat × Nat)) : (s.wrAll l).pocket = s.pocket := by rw [State.wrAll_eq]

/-! ### add -/

@[simp] theorem State.add_pending (s : State) (k n : Nat) : (s.add k n).pending = s.pending := by unfold State.add; split <;> rfl
@[simp] theorem State.add_free (s : State) (k n : Nat) : (s.add k n).free = s.free := by unfold State.add; split <;> rfl
@[simp] theorem State.add_power (s : State) (k n : Nat) : (s.add k n).power = s.power := by unfold State.add; split <;> rfl
@[simp] theorem State.add_time (s : State) (k n : Nat) : (s.add k n).time = s.time := by unfold State.add; split <;> rfl
@[simp] theorem State.add_timers (s : State) (k n : Nat) : (s.add k n).timers = s.timers := by unfold State.add; split <;> rfl
@[simp] theorem State.add_nvaObjs (s : State) (k n : Nat) : (s.add k n).nvaObjs = s.nvaObjs := by unfold State.add; split <;> rfl
@[simp] theorem State.add_charges (s : State) (k n : Nat) : (s.add k n).charges = s.charges := by unfold State.add; split <;> rfl
@[simp] theorem State.add_ckpt (s : State) (k n : Nat) : (s.add k n).ckpt = s.ckpt := by unfold State.add; split <;> rfl
@[simp] theorem State.add_order (s : State) (k n : Nat) : (s.add k n).order = s.order := by unfold State.add; split <;> rfl
@[simp] theorem State.add_retried (s : State) (k n : Nat) : (s.add k n).retried = s.retried := by unfold State.add; split <;> rfl
@[simp] theorem State.add_again (s : State) (k n : Nat) : (s.add k n).again = s.again := by unfold State.add; split <;> rfl
@[simp] theorem State.add_nvaTags (s : State) (k n : Nat) : (s.add k n).nvaTags = s.nvaTags := by unfold State.add; split <;> rfl
@[simp] theorem State.add_rst (s : State) (k n : Nat) : (s.add k n).rst = s.rst := by unfold State.add; split <;> rfl
@[simp] theorem State.add_links (s : State) (k n : Nat) : (s.add k n).links = s.links := by unfold State.add; split <;> rfl
@[simp] theorem State.add_svc (s : State) (k n : Nat) : (s.add k n).svc = s.svc := by unfold State.add; split <;> rfl
@[simp] theorem State.add_host (s : State) (k n : Nat) : (s.add k n).host = s.host := by unfold State.add; split <;> rfl
@[simp] theorem State.add_router (s : State) (k n : Nat) : (s.add k n).router = s.router := by unfold State.add; split <;> rfl
@[simp] theorem State.add_faults (s : State) (k n : Nat) : (s.add k n).faults = s.faults := by unfold State.add; split <;> rfl
@[simp] theorem State.add_pins (s : State) (k n : Nat) : (s.add k n).pins = s.pins := by unfold State.add; split <;> rfl
@[simp] theorem State.add_voices (s : State) (k n : Nat) : (s.add k n).voices = s.voices := by unfold State.add; split <;> rfl
@[simp] theorem State.add_dues (s : State) (k n : Nat) : (s.add k n).dues = s.dues := by unfold State.add; split <;> rfl
@[simp] theorem State.add_scores (s : State) (k n : Nat) : (s.add k n).scores = s.scores := by unfold State.add; split <;> rfl
@[simp] theorem State.add_tags (s : State) (k n : Nat) : (s.add k n).tags = s.tags := by unfold State.add; split <;> rfl
@[simp] theorem State.add_crypto (s : State) (k n : Nat) : (s.add k n).crypto = s.crypto := by unfold State.add; split <;> rfl
@[simp] theorem State.add_keys (s : State) (k n : Nat) : (s.add k n).keys = s.keys := by unfold State.add; split <;> rfl
@[simp] theorem State.add_cal (s : State) (k n : Nat) : (s.add k n).cal = s.cal := by unfold State.add; split <;> rfl
@[simp] theorem State.add_metros (s : State) (k n : Nat) : (s.add k n).metros = s.metros := by unfold State.add; split <;> rfl
@[simp] theorem State.add_air (s : State) (k n : Nat) : (s.add k n).air = s.air := by unfold State.add; split <;> rfl
@[simp] theorem State.add_mac (s : State) (k n : Nat) : (s.add k n).mac = s.mac := by unfold State.add; split <;> rfl
@[simp] theorem State.add_line (s : State) (k n : Nat) : (s.add k n).line = s.line := by unfold State.add; split <;> rfl
@[simp] theorem State.add_pocket (s : State) (k n : Nat) : (s.add k n).pocket = s.pocket := by unfold State.add; split <;> rfl

/-! ### inc -/

@[simp] theorem State.inc_pending (s : State) (k : Nat) : (s.inc k).pending = s.pending := State.add_pending s k 1
@[simp] theorem State.inc_free (s : State) (k : Nat) : (s.inc k).free = s.free := State.add_free s k 1
@[simp] theorem State.inc_power (s : State) (k : Nat) : (s.inc k).power = s.power := State.add_power s k 1
@[simp] theorem State.inc_time (s : State) (k : Nat) : (s.inc k).time = s.time := State.add_time s k 1
@[simp] theorem State.inc_timers (s : State) (k : Nat) : (s.inc k).timers = s.timers := State.add_timers s k 1
@[simp] theorem State.inc_nvaObjs (s : State) (k : Nat) : (s.inc k).nvaObjs = s.nvaObjs := State.add_nvaObjs s k 1
@[simp] theorem State.inc_charges (s : State) (k : Nat) : (s.inc k).charges = s.charges := State.add_charges s k 1
@[simp] theorem State.inc_ckpt (s : State) (k : Nat) : (s.inc k).ckpt = s.ckpt := State.add_ckpt s k 1
@[simp] theorem State.inc_order (s : State) (k : Nat) : (s.inc k).order = s.order := State.add_order s k 1
@[simp] theorem State.inc_retried (s : State) (k : Nat) : (s.inc k).retried = s.retried := State.add_retried s k 1
@[simp] theorem State.inc_again (s : State) (k : Nat) : (s.inc k).again = s.again := State.add_again s k 1
@[simp] theorem State.inc_nvaTags (s : State) (k : Nat) : (s.inc k).nvaTags = s.nvaTags := State.add_nvaTags s k 1
@[simp] theorem State.inc_rst (s : State) (k : Nat) : (s.inc k).rst = s.rst := State.add_rst s k 1
@[simp] theorem State.inc_links (s : State) (k : Nat) : (s.inc k).links = s.links := State.add_links s k 1
@[simp] theorem State.inc_svc (s : State) (k : Nat) : (s.inc k).svc = s.svc := State.add_svc s k 1
@[simp] theorem State.inc_host (s : State) (k : Nat) : (s.inc k).host = s.host := State.add_host s k 1
@[simp] theorem State.inc_router (s : State) (k : Nat) : (s.inc k).router = s.router := State.add_router s k 1
@[simp] theorem State.inc_faults (s : State) (k : Nat) : (s.inc k).faults = s.faults := State.add_faults s k 1
@[simp] theorem State.inc_pins (s : State) (k : Nat) : (s.inc k).pins = s.pins := State.add_pins s k 1
@[simp] theorem State.inc_voices (s : State) (k : Nat) : (s.inc k).voices = s.voices := State.add_voices s k 1
@[simp] theorem State.inc_dues (s : State) (k : Nat) : (s.inc k).dues = s.dues := State.add_dues s k 1
@[simp] theorem State.inc_scores (s : State) (k : Nat) : (s.inc k).scores = s.scores := State.add_scores s k 1
@[simp] theorem State.inc_tags (s : State) (k : Nat) : (s.inc k).tags = s.tags := State.add_tags s k 1
@[simp] theorem State.inc_crypto (s : State) (k : Nat) : (s.inc k).crypto = s.crypto := State.add_crypto s k 1
@[simp] theorem State.inc_keys (s : State) (k : Nat) : (s.inc k).keys = s.keys := State.add_keys s k 1
@[simp] theorem State.inc_cal (s : State) (k : Nat) : (s.inc k).cal = s.cal := State.add_cal s k 1
@[simp] theorem State.inc_metros (s : State) (k : Nat) : (s.inc k).metros = s.metros := State.add_metros s k 1
@[simp] theorem State.inc_air (s : State) (k : Nat) : (s.inc k).air = s.air := State.add_air s k 1
@[simp] theorem State.inc_mac (s : State) (k : Nat) : (s.inc k).mac = s.mac := State.add_mac s k 1
@[simp] theorem State.inc_line (s : State) (k : Nat) : (s.inc k).line = s.line := State.add_line s k 1
@[simp] theorem State.inc_pocket (s : State) (k : Nat) : (s.inc k).pocket = s.pocket := State.add_pocket s k 1

/-! ### incSat -/

@[simp] theorem State.incSat_pending (s : State) (k : Nat) : (s.incSat k).pending = s.pending := rfl
@[simp] theorem State.incSat_free (s : State) (k : Nat) : (s.incSat k).free = s.free := rfl
@[simp] theorem State.incSat_power (s : State) (k : Nat) : (s.incSat k).power = s.power := rfl
@[simp] theorem State.incSat_time (s : State) (k : Nat) : (s.incSat k).time = s.time := rfl
@[simp] theorem State.incSat_timers (s : State) (k : Nat) : (s.incSat k).timers = s.timers := rfl
@[simp] theorem State.incSat_nvaObjs (s : State) (k : Nat) : (s.incSat k).nvaObjs = s.nvaObjs := rfl
@[simp] theorem State.incSat_charges (s : State) (k : Nat) : (s.incSat k).charges = s.charges := rfl
@[simp] theorem State.incSat_ckpt (s : State) (k : Nat) : (s.incSat k).ckpt = s.ckpt := rfl
@[simp] theorem State.incSat_order (s : State) (k : Nat) : (s.incSat k).order = s.order := rfl
@[simp] theorem State.incSat_retried (s : State) (k : Nat) : (s.incSat k).retried = s.retried := rfl
@[simp] theorem State.incSat_again (s : State) (k : Nat) : (s.incSat k).again = s.again := rfl
@[simp] theorem State.incSat_nvaTags (s : State) (k : Nat) : (s.incSat k).nvaTags = s.nvaTags := rfl
@[simp] theorem State.incSat_rst (s : State) (k : Nat) : (s.incSat k).rst = s.rst := rfl
@[simp] theorem State.incSat_links (s : State) (k : Nat) : (s.incSat k).links = s.links := rfl
@[simp] theorem State.incSat_svc (s : State) (k : Nat) : (s.incSat k).svc = s.svc := rfl
@[simp] theorem State.incSat_host (s : State) (k : Nat) : (s.incSat k).host = s.host := rfl
@[simp] theorem State.incSat_router (s : State) (k : Nat) : (s.incSat k).router = s.router := rfl
@[simp] theorem State.incSat_faults (s : State) (k : Nat) : (s.incSat k).faults = s.faults := rfl
@[simp] theorem State.incSat_pins (s : State) (k : Nat) : (s.incSat k).pins = s.pins := rfl
@[simp] theorem State.incSat_voices (s : State) (k : Nat) : (s.incSat k).voices = s.voices := rfl
@[simp] theorem State.incSat_dues (s : State) (k : Nat) : (s.incSat k).dues = s.dues := rfl
@[simp] theorem State.incSat_scores (s : State) (k : Nat) : (s.incSat k).scores = s.scores := rfl
@[simp] theorem State.incSat_tags (s : State) (k : Nat) : (s.incSat k).tags = s.tags := rfl
@[simp] theorem State.incSat_crypto (s : State) (k : Nat) : (s.incSat k).crypto = s.crypto := rfl
@[simp] theorem State.incSat_keys (s : State) (k : Nat) : (s.incSat k).keys = s.keys := rfl
@[simp] theorem State.incSat_cal (s : State) (k : Nat) : (s.incSat k).cal = s.cal := rfl
@[simp] theorem State.incSat_metros (s : State) (k : Nat) : (s.incSat k).metros = s.metros := rfl
@[simp] theorem State.incSat_air (s : State) (k : Nat) : (s.incSat k).air = s.air := rfl
@[simp] theorem State.incSat_mac (s : State) (k : Nat) : (s.incSat k).mac = s.mac := rfl
@[simp] theorem State.incSat_line (s : State) (k : Nat) : (s.incSat k).line = s.line := rfl
@[simp] theorem State.incSat_pocket (s : State) (k : Nat) : (s.incSat k).pocket = s.pocket := rfl

/-! ### wrFit -/

@[simp] theorem State.wrFit_pending (s : State) (k v : Nat) : (s.wrFit k v).pending = s.pending := rfl
@[simp] theorem State.wrFit_free (s : State) (k v : Nat) : (s.wrFit k v).free = s.free := rfl
@[simp] theorem State.wrFit_power (s : State) (k v : Nat) : (s.wrFit k v).power = s.power := rfl
@[simp] theorem State.wrFit_time (s : State) (k v : Nat) : (s.wrFit k v).time = s.time := rfl
@[simp] theorem State.wrFit_timers (s : State) (k v : Nat) : (s.wrFit k v).timers = s.timers := rfl
@[simp] theorem State.wrFit_nvaObjs (s : State) (k v : Nat) : (s.wrFit k v).nvaObjs = s.nvaObjs := rfl
@[simp] theorem State.wrFit_charges (s : State) (k v : Nat) : (s.wrFit k v).charges = s.charges := rfl
@[simp] theorem State.wrFit_ckpt (s : State) (k v : Nat) : (s.wrFit k v).ckpt = s.ckpt := rfl
@[simp] theorem State.wrFit_order (s : State) (k v : Nat) : (s.wrFit k v).order = s.order := rfl
@[simp] theorem State.wrFit_retried (s : State) (k v : Nat) : (s.wrFit k v).retried = s.retried := rfl
@[simp] theorem State.wrFit_again (s : State) (k v : Nat) : (s.wrFit k v).again = s.again := rfl
@[simp] theorem State.wrFit_nvaTags (s : State) (k v : Nat) : (s.wrFit k v).nvaTags = s.nvaTags := rfl
@[simp] theorem State.wrFit_rst (s : State) (k v : Nat) : (s.wrFit k v).rst = s.rst := rfl
@[simp] theorem State.wrFit_links (s : State) (k v : Nat) : (s.wrFit k v).links = s.links := rfl
@[simp] theorem State.wrFit_svc (s : State) (k v : Nat) : (s.wrFit k v).svc = s.svc := rfl
@[simp] theorem State.wrFit_host (s : State) (k v : Nat) : (s.wrFit k v).host = s.host := rfl
@[simp] theorem State.wrFit_router (s : State) (k v : Nat) : (s.wrFit k v).router = s.router := rfl
@[simp] theorem State.wrFit_faults (s : State) (k v : Nat) : (s.wrFit k v).faults = s.faults := rfl
@[simp] theorem State.wrFit_pins (s : State) (k v : Nat) : (s.wrFit k v).pins = s.pins := rfl
@[simp] theorem State.wrFit_voices (s : State) (k v : Nat) : (s.wrFit k v).voices = s.voices := rfl
@[simp] theorem State.wrFit_dues (s : State) (k v : Nat) : (s.wrFit k v).dues = s.dues := rfl
@[simp] theorem State.wrFit_scores (s : State) (k v : Nat) : (s.wrFit k v).scores = s.scores := rfl
@[simp] theorem State.wrFit_tags (s : State) (k v : Nat) : (s.wrFit k v).tags = s.tags := rfl
@[simp] theorem State.wrFit_crypto (s : State) (k v : Nat) : (s.wrFit k v).crypto = s.crypto := rfl
@[simp] theorem State.wrFit_keys (s : State) (k v : Nat) : (s.wrFit k v).keys = s.keys := rfl
@[simp] theorem State.wrFit_cal (s : State) (k v : Nat) : (s.wrFit k v).cal = s.cal := rfl
@[simp] theorem State.wrFit_metros (s : State) (k v : Nat) : (s.wrFit k v).metros = s.metros := rfl
@[simp] theorem State.wrFit_air (s : State) (k v : Nat) : (s.wrFit k v).air = s.air := rfl
@[simp] theorem State.wrFit_mac (s : State) (k v : Nat) : (s.wrFit k v).mac = s.mac := rfl
@[simp] theorem State.wrFit_line (s : State) (k v : Nat) : (s.wrFit k v).line = s.line := rfl
@[simp] theorem State.wrFit_pocket (s : State) (k v : Nat) : (s.wrFit k v).pocket = s.pocket := rfl

/-! ### reset1 -/

@[simp] theorem State.reset1_pending (s : State) (k : Nat) : (s.reset1 k).pending = s.pending := rfl
@[simp] theorem State.reset1_free (s : State) (k : Nat) : (s.reset1 k).free = s.free := rfl
@[simp] theorem State.reset1_power (s : State) (k : Nat) : (s.reset1 k).power = s.power := rfl
@[simp] theorem State.reset1_time (s : State) (k : Nat) : (s.reset1 k).time = s.time := rfl
@[simp] theorem State.reset1_timers (s : State) (k : Nat) : (s.reset1 k).timers = s.timers := rfl
@[simp] theorem State.reset1_nvaObjs (s : State) (k : Nat) : (s.reset1 k).nvaObjs = s.nvaObjs := rfl
@[simp] theorem State.reset1_charges (s : State) (k : Nat) : (s.reset1 k).charges = s.charges := rfl
@[simp] theorem State.reset1_ckpt (s : State) (k : Nat) : (s.reset1 k).ckpt = s.ckpt := rfl
@[simp] theorem State.reset1_order (s : State) (k : Nat) : (s.reset1 k).order = s.order := rfl
@[simp] theorem State.reset1_retried (s : State) (k : Nat) : (s.reset1 k).retried = s.retried := rfl
@[simp] theorem State.reset1_again (s : State) (k : Nat) : (s.reset1 k).again = s.again := rfl
@[simp] theorem State.reset1_nvaTags (s : State) (k : Nat) : (s.reset1 k).nvaTags = s.nvaTags := rfl
@[simp] theorem State.reset1_rst (s : State) (k : Nat) : (s.reset1 k).rst = s.rst := rfl
@[simp] theorem State.reset1_links (s : State) (k : Nat) : (s.reset1 k).links = s.links := rfl
@[simp] theorem State.reset1_svc (s : State) (k : Nat) : (s.reset1 k).svc = s.svc := rfl
@[simp] theorem State.reset1_host (s : State) (k : Nat) : (s.reset1 k).host = s.host := rfl
@[simp] theorem State.reset1_router (s : State) (k : Nat) : (s.reset1 k).router = s.router := rfl
@[simp] theorem State.reset1_faults (s : State) (k : Nat) : (s.reset1 k).faults = s.faults := rfl
@[simp] theorem State.reset1_pins (s : State) (k : Nat) : (s.reset1 k).pins = s.pins := rfl
@[simp] theorem State.reset1_voices (s : State) (k : Nat) : (s.reset1 k).voices = s.voices := rfl
@[simp] theorem State.reset1_dues (s : State) (k : Nat) : (s.reset1 k).dues = s.dues := rfl
@[simp] theorem State.reset1_scores (s : State) (k : Nat) : (s.reset1 k).scores = s.scores := rfl
@[simp] theorem State.reset1_tags (s : State) (k : Nat) : (s.reset1 k).tags = s.tags := rfl
@[simp] theorem State.reset1_crypto (s : State) (k : Nat) : (s.reset1 k).crypto = s.crypto := rfl
@[simp] theorem State.reset1_keys (s : State) (k : Nat) : (s.reset1 k).keys = s.keys := rfl
@[simp] theorem State.reset1_cal (s : State) (k : Nat) : (s.reset1 k).cal = s.cal := rfl
@[simp] theorem State.reset1_metros (s : State) (k : Nat) : (s.reset1 k).metros = s.metros := rfl
@[simp] theorem State.reset1_air (s : State) (k : Nat) : (s.reset1 k).air = s.air := rfl
@[simp] theorem State.reset1_mac (s : State) (k : Nat) : (s.reset1 k).mac = s.mac := rfl
@[simp] theorem State.reset1_line (s : State) (k : Nat) : (s.reset1 k).line = s.line := rfl
@[simp] theorem State.reset1_pocket (s : State) (k : Nat) : (s.reset1 k).pocket = s.pocket := rfl

/-! ### arm -/

@[simp] theorem State.arm_pending (s : State) (tm : Timer) (due : Nat) : (s.arm tm due).pending = s.pending := rfl
@[simp] theorem State.arm_free (s : State) (tm : Timer) (due : Nat) : (s.arm tm due).free = s.free := rfl
@[simp] theorem State.arm_power (s : State) (tm : Timer) (due : Nat) : (s.arm tm due).power = s.power := rfl
@[simp] theorem State.arm_time (s : State) (tm : Timer) (due : Nat) : (s.arm tm due).time = s.time := rfl
@[simp] theorem State.arm_objs (s : State) (tm : Timer) (due : Nat) : (s.arm tm due).objs = s.objs := rfl
@[simp] theorem State.arm_nvaObjs (s : State) (tm : Timer) (due : Nat) : (s.arm tm due).nvaObjs = s.nvaObjs := rfl
@[simp] theorem State.arm_charges (s : State) (tm : Timer) (due : Nat) : (s.arm tm due).charges = s.charges := rfl
@[simp] theorem State.arm_ckpt (s : State) (tm : Timer) (due : Nat) : (s.arm tm due).ckpt = s.ckpt := rfl
@[simp] theorem State.arm_order (s : State) (tm : Timer) (due : Nat) : (s.arm tm due).order = s.order := rfl
@[simp] theorem State.arm_retried (s : State) (tm : Timer) (due : Nat) : (s.arm tm due).retried = s.retried := rfl
@[simp] theorem State.arm_again (s : State) (tm : Timer) (due : Nat) : (s.arm tm due).again = s.again := rfl
@[simp] theorem State.arm_nvaTags (s : State) (tm : Timer) (due : Nat) : (s.arm tm due).nvaTags = s.nvaTags := rfl
@[simp] theorem State.arm_rst (s : State) (tm : Timer) (due : Nat) : (s.arm tm due).rst = s.rst := rfl
@[simp] theorem State.arm_links (s : State) (tm : Timer) (due : Nat) : (s.arm tm due).links = s.links := rfl
@[simp] theorem State.arm_svc (s : State) (tm : Timer) (due : Nat) : (s.arm tm due).svc = s.svc := rfl
@[simp] theorem State.arm_host (s : State) (tm : Timer) (due : Nat) : (s.arm tm due).host = s.host := rfl
@[simp] theorem State.arm_router (s : State) (tm : Timer) (due : Nat) : (s.arm tm due).router = s.router := rfl
@[simp] theorem State.arm_faults (s : State) (tm : Timer) (due : Nat) : (s.arm tm due).faults = s.faults := rfl
@[simp] theorem State.arm_pins (s : State) (tm : Timer) (due : Nat) : (s.arm tm due).pins = s.pins := rfl
@[simp] theorem State.arm_voices (s : State) (tm : Timer) (due : Nat) : (s.arm tm due).voices = s.voices := rfl
@[simp] theorem State.arm_dues (s : State) (tm : Timer) (due : Nat) : (s.arm tm due).dues = s.dues := rfl
@[simp] theorem State.arm_scores (s : State) (tm : Timer) (due : Nat) : (s.arm tm due).scores = s.scores := rfl
@[simp] theorem State.arm_tags (s : State) (tm : Timer) (due : Nat) : (s.arm tm due).tags = s.tags := rfl
@[simp] theorem State.arm_crypto (s : State) (tm : Timer) (due : Nat) : (s.arm tm due).crypto = s.crypto := rfl
@[simp] theorem State.arm_keys (s : State) (tm : Timer) (due : Nat) : (s.arm tm due).keys = s.keys := rfl
@[simp] theorem State.arm_cal (s : State) (tm : Timer) (due : Nat) : (s.arm tm due).cal = s.cal := rfl
@[simp] theorem State.arm_metros (s : State) (tm : Timer) (due : Nat) : (s.arm tm due).metros = s.metros := rfl
@[simp] theorem State.arm_air (s : State) (tm : Timer) (due : Nat) : (s.arm tm due).air = s.air := rfl
@[simp] theorem State.arm_mac (s : State) (tm : Timer) (due : Nat) : (s.arm tm due).mac = s.mac := rfl
@[simp] theorem State.arm_line (s : State) (tm : Timer) (due : Nat) : (s.arm tm due).line = s.line := rfl
@[simp] theorem State.arm_pocket (s : State) (tm : Timer) (due : Nat) : (s.arm tm due).pocket = s.pocket := rfl
@[simp] theorem State.rd_arm (s : State) (tm : Timer) (due : Nat) (j : Nat) : (s.arm tm due).rd j = s.rd j := State.rd_congr (State.arm_objs s tm due) j

/-! ### armIn -/

@[simp] theorem State.armIn_pending (s : State) (tm : Timer) (us : Nat) : (s.armIn tm us).pending = s.pending := rfl
@[simp] theorem State.armIn_free (s : State) (tm : Timer) (us : Nat) : (s.armIn tm us).free = s.free := rfl
@[simp] theorem State.armIn_power (s : State) (tm : Timer) (us : Nat) : (s.armIn tm us).power = s.power := rfl
@[simp] theorem State.armIn_time (s : State) (tm : Timer) (us : Nat) : (s.armIn tm us).time = s.time := rfl
@[simp] theorem State.armIn_objs (s : State) (tm : Timer) (us : Nat) : (s.armIn tm us).objs = s.objs := rfl
@[simp] theorem State.armIn_nvaObjs (s : State) (tm : Timer) (us : Nat) : (s.armIn tm us).nvaObjs = s.nvaObjs := rfl
@[simp] theorem State.armIn_charges (s : State) (tm : Timer) (us : Nat) : (s.armIn tm us).charges = s.charges := rfl
@[simp] theorem State.armIn_ckpt (s : State) (tm : Timer) (us : Nat) : (s.armIn tm us).ckpt = s.ckpt := rfl
@[simp] theorem State.armIn_order (s : State) (tm : Timer) (us : Nat) : (s.armIn tm us).order = s.order := rfl
@[simp] theorem State.armIn_retried (s : State) (tm : Timer) (us : Nat) : (s.armIn tm us).retried = s.retried := rfl
@[simp] theorem State.armIn_again (s : State) (tm : Timer) (us : Nat) : (s.armIn tm us).again = s.again := rfl
@[simp] theorem State.armIn_nvaTags (s : State) (tm : Timer) (us : Nat) : (s.armIn tm us).nvaTags = s.nvaTags := rfl
@[simp] theorem State.armIn_rst (s : State) (tm : Timer) (us : Nat) : (s.armIn tm us).rst = s.rst := rfl
@[simp] theorem State.armIn_links (s : State) (tm : Timer) (us : Nat) : (s.armIn tm us).links = s.links := rfl
@[simp] theorem State.armIn_svc (s : State) (tm : Timer) (us : Nat) : (s.armIn tm us).svc = s.svc := rfl
@[simp] theorem State.armIn_host (s : State) (tm : Timer) (us : Nat) : (s.armIn tm us).host = s.host := rfl
@[simp] theorem State.armIn_router (s : State) (tm : Timer) (us : Nat) : (s.armIn tm us).router = s.router := rfl
@[simp] theorem State.armIn_faults (s : State) (tm : Timer) (us : Nat) : (s.armIn tm us).faults = s.faults := rfl
@[simp] theorem State.armIn_pins (s : State) (tm : Timer) (us : Nat) : (s.armIn tm us).pins = s.pins := rfl
@[simp] theorem State.armIn_voices (s : State) (tm : Timer) (us : Nat) : (s.armIn tm us).voices = s.voices := rfl
@[simp] theorem State.armIn_dues (s : State) (tm : Timer) (us : Nat) : (s.armIn tm us).dues = s.dues := rfl
@[simp] theorem State.armIn_scores (s : State) (tm : Timer) (us : Nat) : (s.armIn tm us).scores = s.scores := rfl
@[simp] theorem State.armIn_tags (s : State) (tm : Timer) (us : Nat) : (s.armIn tm us).tags = s.tags := rfl
@[simp] theorem State.armIn_crypto (s : State) (tm : Timer) (us : Nat) : (s.armIn tm us).crypto = s.crypto := rfl
@[simp] theorem State.armIn_keys (s : State) (tm : Timer) (us : Nat) : (s.armIn tm us).keys = s.keys := rfl
@[simp] theorem State.armIn_cal (s : State) (tm : Timer) (us : Nat) : (s.armIn tm us).cal = s.cal := rfl
@[simp] theorem State.armIn_metros (s : State) (tm : Timer) (us : Nat) : (s.armIn tm us).metros = s.metros := rfl
@[simp] theorem State.armIn_air (s : State) (tm : Timer) (us : Nat) : (s.armIn tm us).air = s.air := rfl
@[simp] theorem State.armIn_mac (s : State) (tm : Timer) (us : Nat) : (s.armIn tm us).mac = s.mac := rfl
@[simp] theorem State.armIn_line (s : State) (tm : Timer) (us : Nat) : (s.armIn tm us).line = s.line := rfl
@[simp] theorem State.armIn_pocket (s : State) (tm : Timer) (us : Nat) : (s.armIn tm us).pocket = s.pocket := rfl
@[simp] theorem State.rd_armIn (s : State) (tm : Timer) (us : Nat) (j : Nat) : (s.armIn tm us).rd j = s.rd j := State.rd_congr (State.armIn_objs s tm us) j

/-! ### cancel -/

@[simp] theorem State.cancel_pending (s : State) (tm : Timer) : (s.cancel tm).pending = s.pending := rfl
@[simp] theorem State.cancel_free (s : State) (tm : Timer) : (s.cancel tm).free = s.free := rfl
@[simp] theorem State.cancel_power (s : State) (tm : Timer) : (s.cancel tm).power = s.power := rfl
@[simp] theorem State.cancel_time (s : State) (tm : Timer) : (s.cancel tm).time = s.time := rfl
@[simp] theorem State.cancel_objs (s : State) (tm : Timer) : (s.cancel tm).objs = s.objs := rfl
@[simp] theorem State.cancel_nvaObjs (s : State) (tm : Timer) : (s.cancel tm).nvaObjs = s.nvaObjs := rfl
@[simp] theorem State.cancel_charges (s : State) (tm : Timer) : (s.cancel tm).charges = s.charges := rfl
@[simp] theorem State.cancel_ckpt (s : State) (tm : Timer) : (s.cancel tm).ckpt = s.ckpt := rfl
@[simp] theorem State.cancel_order (s : State) (tm : Timer) : (s.cancel tm).order = s.order := rfl
@[simp] theorem State.cancel_retried (s : State) (tm : Timer) : (s.cancel tm).retried = s.retried := rfl
@[simp] theorem State.cancel_again (s : State) (tm : Timer) : (s.cancel tm).again = s.again := rfl
@[simp] theorem State.cancel_nvaTags (s : State) (tm : Timer) : (s.cancel tm).nvaTags = s.nvaTags := rfl
@[simp] theorem State.cancel_rst (s : State) (tm : Timer) : (s.cancel tm).rst = s.rst := rfl
@[simp] theorem State.cancel_links (s : State) (tm : Timer) : (s.cancel tm).links = s.links := rfl
@[simp] theorem State.cancel_svc (s : State) (tm : Timer) : (s.cancel tm).svc = s.svc := rfl
@[simp] theorem State.cancel_host (s : State) (tm : Timer) : (s.cancel tm).host = s.host := rfl
@[simp] theorem State.cancel_router (s : State) (tm : Timer) : (s.cancel tm).router = s.router := rfl
@[simp] theorem State.cancel_faults (s : State) (tm : Timer) : (s.cancel tm).faults = s.faults := rfl
@[simp] theorem State.cancel_pins (s : State) (tm : Timer) : (s.cancel tm).pins = s.pins := rfl
@[simp] theorem State.cancel_voices (s : State) (tm : Timer) : (s.cancel tm).voices = s.voices := rfl
@[simp] theorem State.cancel_dues (s : State) (tm : Timer) : (s.cancel tm).dues = s.dues := rfl
@[simp] theorem State.cancel_scores (s : State) (tm : Timer) : (s.cancel tm).scores = s.scores := rfl
@[simp] theorem State.cancel_tags (s : State) (tm : Timer) : (s.cancel tm).tags = s.tags := rfl
@[simp] theorem State.cancel_crypto (s : State) (tm : Timer) : (s.cancel tm).crypto = s.crypto := rfl
@[simp] theorem State.cancel_keys (s : State) (tm : Timer) : (s.cancel tm).keys = s.keys := rfl
@[simp] theorem State.cancel_cal (s : State) (tm : Timer) : (s.cancel tm).cal = s.cal := rfl
@[simp] theorem State.cancel_metros (s : State) (tm : Timer) : (s.cancel tm).metros = s.metros := rfl
@[simp] theorem State.cancel_air (s : State) (tm : Timer) : (s.cancel tm).air = s.air := rfl
@[simp] theorem State.cancel_mac (s : State) (tm : Timer) : (s.cancel tm).mac = s.mac := rfl
@[simp] theorem State.cancel_line (s : State) (tm : Timer) : (s.cancel tm).line = s.line := rfl
@[simp] theorem State.cancel_pocket (s : State) (tm : Timer) : (s.cancel tm).pocket = s.pocket := rfl
@[simp] theorem State.rd_cancel (s : State) (tm : Timer) (j : Nat) : (s.cancel tm).rd j = s.rd j := State.rd_congr (State.cancel_objs s tm) j

/-! ### cancelAll -/

@[simp] theorem State.cancelAll_pending (s : State) (p : Timer → Bool) : (s.cancelAll p).pending = s.pending := rfl
@[simp] theorem State.cancelAll_free (s : State) (p : Timer → Bool) : (s.cancelAll p).free = s.free := rfl
@[simp] theorem State.cancelAll_power (s : State) (p : Timer → Bool) : (s.cancelAll p).power = s.power := rfl
@[simp] theorem State.cancelAll_time (s : State) (p : Timer → Bool) : (s.cancelAll p).time = s.time := rfl
@[simp] theorem State.cancelAll_objs (s : State) (p : Timer → Bool) : (s.cancelAll p).objs = s.objs := rfl
@[simp] theorem State.cancelAll_nvaObjs (s : State) (p : Timer → Bool) : (s.cancelAll p).nvaObjs = s.nvaObjs := rfl
@[simp] theorem State.cancelAll_charges (s : State) (p : Timer → Bool) : (s.cancelAll p).charges = s.charges := rfl
@[simp] theorem State.cancelAll_ckpt (s : State) (p : Timer → Bool) : (s.cancelAll p).ckpt = s.ckpt := rfl
@[simp] theorem State.cancelAll_order (s : State) (p : Timer → Bool) : (s.cancelAll p).order = s.order := rfl
@[simp] theorem State.cancelAll_retried (s : State) (p : Timer → Bool) : (s.cancelAll p).retried = s.retried := rfl
@[simp] theorem State.cancelAll_again (s : State) (p : Timer → Bool) : (s.cancelAll p).again = s.again := rfl
@[simp] theorem State.cancelAll_nvaTags (s : State) (p : Timer → Bool) : (s.cancelAll p).nvaTags = s.nvaTags := rfl
@[simp] theorem State.cancelAll_rst (s : State) (p : Timer → Bool) : (s.cancelAll p).rst = s.rst := rfl
@[simp] theorem State.cancelAll_links (s : State) (p : Timer → Bool) : (s.cancelAll p).links = s.links := rfl
@[simp] theorem State.cancelAll_svc (s : State) (p : Timer → Bool) : (s.cancelAll p).svc = s.svc := rfl
@[simp] theorem State.cancelAll_host (s : State) (p : Timer → Bool) : (s.cancelAll p).host = s.host := rfl
@[simp] theorem State.cancelAll_router (s : State) (p : Timer → Bool) : (s.cancelAll p).router = s.router := rfl
@[simp] theorem State.cancelAll_faults (s : State) (p : Timer → Bool) : (s.cancelAll p).faults = s.faults := rfl
@[simp] theorem State.cancelAll_pins (s : State) (p : Timer → Bool) : (s.cancelAll p).pins = s.pins := rfl
@[simp] theorem State.cancelAll_voices (s : State) (p : Timer → Bool) : (s.cancelAll p).voices = s.voices := rfl
@[simp] theorem State.cancelAll_dues (s : State) (p : Timer → Bool) : (s.cancelAll p).dues = s.dues := rfl
@[simp] theorem State.cancelAll_scores (s : State) (p : Timer → Bool) : (s.cancelAll p).scores = s.scores := rfl
@[simp] theorem State.cancelAll_tags (s : State) (p : Timer → Bool) : (s.cancelAll p).tags = s.tags := rfl
@[simp] theorem State.cancelAll_crypto (s : State) (p : Timer → Bool) : (s.cancelAll p).crypto = s.crypto := rfl
@[simp] theorem State.cancelAll_keys (s : State) (p : Timer → Bool) : (s.cancelAll p).keys = s.keys := rfl
@[simp] theorem State.cancelAll_cal (s : State) (p : Timer → Bool) : (s.cancelAll p).cal = s.cal := rfl
@[simp] theorem State.cancelAll_metros (s : State) (p : Timer → Bool) : (s.cancelAll p).metros = s.metros := rfl
@[simp] theorem State.cancelAll_air (s : State) (p : Timer → Bool) : (s.cancelAll p).air = s.air := rfl
@[simp] theorem State.cancelAll_mac (s : State) (p : Timer → Bool) : (s.cancelAll p).mac = s.mac := rfl
@[simp] theorem State.cancelAll_line (s : State) (p : Timer → Bool) : (s.cancelAll p).line = s.line := rfl
@[simp] theorem State.cancelAll_pocket (s : State) (p : Timer → Bool) : (s.cancelAll p).pocket = s.pocket := rfl
@[simp] theorem State.rd_cancelAll (s : State) (p : Timer → Bool) (j : Nat) : (s.cancelAll p).rd j = s.rd j := State.rd_congr (State.cancelAll_objs s p) j

/-! ### commit -/

@[simp] theorem State.commit_pending (s : State) (c : Commit) : (s.commit c).pending = s.pending := by unfold State.commit; split <;> rfl
@[simp] theorem State.commit_free (s : State) (c : Commit) : (s.commit c).free = s.free := by unfold State.commit; split <;> rfl
@[simp] theorem State.commit_power (s : State) (c : Commit) : (s.commit c).power = s.power := by unfold State.commit; split <;> rfl
@[simp] theorem State.commit_time (s : State) (c : Commit) : (s.commit c).time = s.time := by unfold State.commit; split <;> rfl
@[simp] theorem State.commit_timers (s : State) (c : Commit) : (s.commit c).timers = s.timers := by unfold State.commit; split <;> rfl
@[simp] theorem State.commit_objs (s : State) (c : Commit) : (s.commit c).objs = s.objs := by unfold State.commit; split <;> rfl
@[simp] theorem State.commit_nvaObjs (s : State) (c : Commit) : (s.commit c).nvaObjs = s.nvaObjs := by unfold State.commit; split <;> rfl
@[simp] theorem State.commit_charges (s : State) (c : Commit) : (s.commit c).charges = s.charges := by unfold State.commit; split <;> rfl
@[simp] theorem State.commit_ckpt (s : State) (c : Commit) : (s.commit c).ckpt = s.ckpt := by unfold State.commit; split <;> rfl
@[simp] theorem State.commit_retried (s : State) (c : Commit) : (s.commit c).retried = s.retried := by unfold State.commit; split <;> rfl
@[simp] theorem State.commit_again (s : State) (c : Commit) : (s.commit c).again = s.again := by unfold State.commit; split <;> rfl
@[simp] theorem State.commit_nvaTags (s : State) (c : Commit) : (s.commit c).nvaTags = s.nvaTags := by unfold State.commit; split <;> rfl
@[simp] theorem State.commit_rst (s : State) (c : Commit) : (s.commit c).rst = s.rst := by unfold State.commit; split <;> rfl
@[simp] theorem State.commit_links (s : State) (c : Commit) : (s.commit c).links = s.links := by unfold State.commit; split <;> rfl
@[simp] theorem State.commit_svc (s : State) (c : Commit) : (s.commit c).svc = s.svc := by unfold State.commit; split <;> rfl
@[simp] theorem State.commit_host (s : State) (c : Commit) : (s.commit c).host = s.host := by unfold State.commit; split <;> rfl
@[simp] theorem State.commit_router (s : State) (c : Commit) : (s.commit c).router = s.router := by unfold State.commit; split <;> rfl
@[simp] theorem State.commit_faults (s : State) (c : Commit) : (s.commit c).faults = s.faults := by unfold State.commit; split <;> rfl
@[simp] theorem State.commit_pins (s : State) (c : Commit) : (s.commit c).pins = s.pins := by unfold State.commit; split <;> rfl
@[simp] theorem State.commit_voices (s : State) (c : Commit) : (s.commit c).voices = s.voices := by unfold State.commit; split <;> rfl
@[simp] theorem State.commit_dues (s : State) (c : Commit) : (s.commit c).dues = s.dues := by unfold State.commit; split <;> rfl
@[simp] theorem State.commit_scores (s : State) (c : Commit) : (s.commit c).scores = s.scores := by unfold State.commit; split <;> rfl
@[simp] theorem State.commit_tags (s : State) (c : Commit) : (s.commit c).tags = s.tags := by unfold State.commit; split <;> rfl
@[simp] theorem State.commit_crypto (s : State) (c : Commit) : (s.commit c).crypto = s.crypto := by unfold State.commit; split <;> rfl
@[simp] theorem State.commit_keys (s : State) (c : Commit) : (s.commit c).keys = s.keys := by unfold State.commit; split <;> rfl
@[simp] theorem State.commit_cal (s : State) (c : Commit) : (s.commit c).cal = s.cal := by unfold State.commit; split <;> rfl
@[simp] theorem State.commit_metros (s : State) (c : Commit) : (s.commit c).metros = s.metros := by unfold State.commit; split <;> rfl
@[simp] theorem State.commit_air (s : State) (c : Commit) : (s.commit c).air = s.air := by unfold State.commit; split <;> rfl
@[simp] theorem State.commit_mac (s : State) (c : Commit) : (s.commit c).mac = s.mac := by unfold State.commit; split <;> rfl
@[simp] theorem State.commit_line (s : State) (c : Commit) : (s.commit c).line = s.line := by unfold State.commit; split <;> rfl
@[simp] theorem State.commit_pocket (s : State) (c : Commit) : (s.commit c).pocket = s.pocket := by unfold State.commit; split <;> rfl
@[simp] theorem State.rd_commit (s : State) (c : Commit) (j : Nat) : (s.commit c).rd j = s.rd j := State.rd_congr (State.commit_objs s c) j

/-! ### keep -/

@[simp] theorem State.keep_pending (s : State) (l : List (Nat × Nat)) : (s.keep l).pending = s.pending := rfl
@[simp] theorem State.keep_free (s : State) (l : List (Nat × Nat)) : (s.keep l).free = s.free := rfl
@[simp] theorem State.keep_power (s : State) (l : List (Nat × Nat)) : (s.keep l).power = s.power := rfl
@[simp] theorem State.keep_time (s : State) (l : List (Nat × Nat)) : (s.keep l).time = s.time := rfl
@[simp] theorem State.keep_timers (s : State) (l : List (Nat × Nat)) : (s.keep l).timers = s.timers := rfl
@[simp] theorem State.keep_objs (s : State) (l : List (Nat × Nat)) : (s.keep l).objs = s.objs := rfl
@[simp] theorem State.keep_charges (s : State) (l : List (Nat × Nat)) : (s.keep l).charges = s.charges := rfl
@[simp] theorem State.keep_ckpt (s : State) (l : List (Nat × Nat)) : (s.keep l).ckpt = s.ckpt := rfl
@[simp] theorem State.keep_order (s : State) (l : List (Nat × Nat)) : (s.keep l).order = s.order := rfl
@[simp] theorem State.keep_retried (s : State) (l : List (Nat × Nat)) : (s.keep l).retried = s.retried := rfl
@[simp] theorem State.keep_again (s : State) (l : List (Nat × Nat)) : (s.keep l).again = s.again := rfl
@[simp] theorem State.keep_nvaTags (s : State) (l : List (Nat × Nat)) : (s.keep l).nvaTags = s.nvaTags := rfl
@[simp] theorem State.keep_rst (s : State) (l : List (Nat × Nat)) : (s.keep l).rst = s.rst := rfl
@[simp] theorem State.keep_links (s : State) (l : List (Nat × Nat)) : (s.keep l).links = s.links := rfl
@[simp] theorem State.keep_svc (s : State) (l : List (Nat × Nat)) : (s.keep l).svc = s.svc := rfl
@[simp] theorem State.keep_host (s : State) (l : List (Nat × Nat)) : (s.keep l).host = s.host := rfl
@[simp] theorem State.keep_router (s : State) (l : List (Nat × Nat)) : (s.keep l).router = s.router := rfl
@[simp] theorem State.keep_faults (s : State) (l : List (Nat × Nat)) : (s.keep l).faults = s.faults := rfl
@[simp] theorem State.keep_pins (s : State) (l : List (Nat × Nat)) : (s.keep l).pins = s.pins := rfl
@[simp] theorem State.keep_voices (s : State) (l : List (Nat × Nat)) : (s.keep l).voices = s.voices := rfl
@[simp] theorem State.keep_dues (s : State) (l : List (Nat × Nat)) : (s.keep l).dues = s.dues := rfl
@[simp] theorem State.keep_scores (s : State) (l : List (Nat × Nat)) : (s.keep l).scores = s.scores := rfl
@[simp] theorem State.keep_tags (s : State) (l : List (Nat × Nat)) : (s.keep l).tags = s.tags := rfl
@[simp] theorem State.keep_crypto (s : State) (l : List (Nat × Nat)) : (s.keep l).crypto = s.crypto := rfl
@[simp] theorem State.keep_keys (s : State) (l : List (Nat × Nat)) : (s.keep l).keys = s.keys := rfl
@[simp] theorem State.keep_cal (s : State) (l : List (Nat × Nat)) : (s.keep l).cal = s.cal := rfl
@[simp] theorem State.keep_metros (s : State) (l : List (Nat × Nat)) : (s.keep l).metros = s.metros := rfl
@[simp] theorem State.keep_air (s : State) (l : List (Nat × Nat)) : (s.keep l).air = s.air := rfl
@[simp] theorem State.keep_mac (s : State) (l : List (Nat × Nat)) : (s.keep l).mac = s.mac := rfl
@[simp] theorem State.keep_line (s : State) (l : List (Nat × Nat)) : (s.keep l).line = s.line := rfl
@[simp] theorem State.keep_pocket (s : State) (l : List (Nat × Nat)) : (s.keep l).pocket = s.pocket := rfl
@[simp] theorem State.rd_keep (s : State) (l : List (Nat × Nat)) (j : Nat) : (s.keep l).rd j = s.rd j := State.rd_congr (State.keep_objs s l) j

/-! ### wrKeep -/

@[simp] theorem State.wrKeep_pending (s : State) (l : List (Nat × Nat)) : (s.wrKeep l).pending = s.pending := by simp [State.wrKeep]
@[simp] theorem State.wrKeep_free (s : State) (l : List (Nat × Nat)) : (s.wrKeep l).free = s.free := by simp [State.wrKeep]
@[simp] theorem State.wrKeep_power (s : State) (l : List (Nat × Nat)) : (s.wrKeep l).power = s.power := by simp [State.wrKeep]
@[simp] theorem State.wrKeep_time (s : State) (l : List (Nat × Nat)) : (s.wrKeep l).time = s.time := by simp [State.wrKeep]
@[simp] theorem State.wrKeep_timers (s : State) (l : List (Nat × Nat)) : (s.wrKeep l).timers = s.timers := by simp [State.wrKeep]
@[simp] theorem State.wrKeep_nvaObjs (s : State) (l : List (Nat × Nat)) : (s.wrKeep l).nvaObjs = s.nvaObjs := by simp [State.wrKeep]
@[simp] theorem State.wrKeep_charges (s : State) (l : List (Nat × Nat)) : (s.wrKeep l).charges = s.charges := by simp [State.wrKeep]
@[simp] theorem State.wrKeep_ckpt (s : State) (l : List (Nat × Nat)) : (s.wrKeep l).ckpt = s.ckpt := by simp [State.wrKeep]
@[simp] theorem State.wrKeep_retried (s : State) (l : List (Nat × Nat)) : (s.wrKeep l).retried = s.retried := by simp [State.wrKeep]
@[simp] theorem State.wrKeep_again (s : State) (l : List (Nat × Nat)) : (s.wrKeep l).again = s.again := by simp [State.wrKeep]
@[simp] theorem State.wrKeep_nvaTags (s : State) (l : List (Nat × Nat)) : (s.wrKeep l).nvaTags = s.nvaTags := by simp [State.wrKeep]
@[simp] theorem State.wrKeep_rst (s : State) (l : List (Nat × Nat)) : (s.wrKeep l).rst = s.rst := by simp [State.wrKeep]
@[simp] theorem State.wrKeep_links (s : State) (l : List (Nat × Nat)) : (s.wrKeep l).links = s.links := by simp [State.wrKeep]
@[simp] theorem State.wrKeep_svc (s : State) (l : List (Nat × Nat)) : (s.wrKeep l).svc = s.svc := by simp [State.wrKeep]
@[simp] theorem State.wrKeep_host (s : State) (l : List (Nat × Nat)) : (s.wrKeep l).host = s.host := by simp [State.wrKeep]
@[simp] theorem State.wrKeep_router (s : State) (l : List (Nat × Nat)) : (s.wrKeep l).router = s.router := by simp [State.wrKeep]
@[simp] theorem State.wrKeep_faults (s : State) (l : List (Nat × Nat)) : (s.wrKeep l).faults = s.faults := by simp [State.wrKeep]
@[simp] theorem State.wrKeep_pins (s : State) (l : List (Nat × Nat)) : (s.wrKeep l).pins = s.pins := by simp [State.wrKeep]
@[simp] theorem State.wrKeep_voices (s : State) (l : List (Nat × Nat)) : (s.wrKeep l).voices = s.voices := by simp [State.wrKeep]
@[simp] theorem State.wrKeep_dues (s : State) (l : List (Nat × Nat)) : (s.wrKeep l).dues = s.dues := by simp [State.wrKeep]
@[simp] theorem State.wrKeep_scores (s : State) (l : List (Nat × Nat)) : (s.wrKeep l).scores = s.scores := by simp [State.wrKeep]
@[simp] theorem State.wrKeep_tags (s : State) (l : List (Nat × Nat)) : (s.wrKeep l).tags = s.tags := by simp [State.wrKeep]
@[simp] theorem State.wrKeep_crypto (s : State) (l : List (Nat × Nat)) : (s.wrKeep l).crypto = s.crypto := by simp [State.wrKeep]
@[simp] theorem State.wrKeep_keys (s : State) (l : List (Nat × Nat)) : (s.wrKeep l).keys = s.keys := by simp [State.wrKeep]
@[simp] theorem State.wrKeep_cal (s : State) (l : List (Nat × Nat)) : (s.wrKeep l).cal = s.cal := by simp [State.wrKeep]
@[simp] theorem State.wrKeep_metros (s : State) (l : List (Nat × Nat)) : (s.wrKeep l).metros = s.metros := by simp [State.wrKeep]
@[simp] theorem State.wrKeep_air (s : State) (l : List (Nat × Nat)) : (s.wrKeep l).air = s.air := by simp [State.wrKeep]
@[simp] theorem State.wrKeep_mac (s : State) (l : List (Nat × Nat)) : (s.wrKeep l).mac = s.mac := by simp [State.wrKeep]
@[simp] theorem State.wrKeep_line (s : State) (l : List (Nat × Nat)) : (s.wrKeep l).line = s.line := by simp [State.wrKeep]
@[simp] theorem State.wrKeep_pocket (s : State) (l : List (Nat × Nat)) : (s.wrKeep l).pocket = s.pocket := by simp [State.wrKeep]

/-! ### setVoice -/

@[simp] theorem State.setVoice_pending (s : State) (v : VoiceId) (f : Voice → Voice) : (s.setVoice v f).pending = s.pending := rfl
@[simp] theorem State.setVoice_free (s : State) (v : VoiceId) (f : Voice → Voice) : (s.setVoice v f).free = s.free := rfl
@[simp] theorem State.setVoice_power (s : State) (v : VoiceId) (f : Voice → Voice) : (s.setVoice v f).power = s.power := rfl
@[simp] theorem State.setVoice_time (s : State) (v : VoiceId) (f : Voice → Voice) : (s.setVoice v f).time = s.time := rfl
@[simp] theorem State.setVoice_timers (s : State) (v : VoiceId) (f : Voice → Voice) : (s.setVoice v f).timers = s.timers := rfl
@[simp] theorem State.setVoice_objs (s : State) (v : VoiceId) (f : Voice → Voice) : (s.setVoice v f).objs = s.objs := rfl
@[simp] theorem State.setVoice_nvaObjs (s : State) (v : VoiceId) (f : Voice → Voice) : (s.setVoice v f).nvaObjs = s.nvaObjs := rfl
@[simp] theorem State.setVoice_charges (s : State) (v : VoiceId) (f : Voice → Voice) : (s.setVoice v f).charges = s.charges := rfl
@[simp] theorem State.setVoice_ckpt (s : State) (v : VoiceId) (f : Voice → Voice) : (s.setVoice v f).ckpt = s.ckpt := rfl
@[simp] theorem State.setVoice_order (s : State) (v : VoiceId) (f : Voice → Voice) : (s.setVoice v f).order = s.order := rfl
@[simp] theorem State.setVoice_retried (s : State) (v : VoiceId) (f : Voice → Voice) : (s.setVoice v f).retried = s.retried := rfl
@[simp] theorem State.setVoice_again (s : State) (v : VoiceId) (f : Voice → Voice) : (s.setVoice v f).again = s.again := rfl
@[simp] theorem State.setVoice_nvaTags (s : State) (v : VoiceId) (f : Voice → Voice) : (s.setVoice v f).nvaTags = s.nvaTags := rfl
@[simp] theorem State.setVoice_rst (s : State) (v : VoiceId) (f : Voice → Voice) : (s.setVoice v f).rst = s.rst := rfl
@[simp] theorem State.setVoice_links (s : State) (v : VoiceId) (f : Voice → Voice) : (s.setVoice v f).links = s.links := rfl
@[simp] theorem State.setVoice_svc (s : State) (v : VoiceId) (f : Voice → Voice) : (s.setVoice v f).svc = s.svc := rfl
@[simp] theorem State.setVoice_host (s : State) (v : VoiceId) (f : Voice → Voice) : (s.setVoice v f).host = s.host := rfl
@[simp] theorem State.setVoice_router (s : State) (v : VoiceId) (f : Voice → Voice) : (s.setVoice v f).router = s.router := rfl
@[simp] theorem State.setVoice_faults (s : State) (v : VoiceId) (f : Voice → Voice) : (s.setVoice v f).faults = s.faults := rfl
@[simp] theorem State.setVoice_pins (s : State) (v : VoiceId) (f : Voice → Voice) : (s.setVoice v f).pins = s.pins := rfl
@[simp] theorem State.setVoice_dues (s : State) (v : VoiceId) (f : Voice → Voice) : (s.setVoice v f).dues = s.dues := rfl
@[simp] theorem State.setVoice_scores (s : State) (v : VoiceId) (f : Voice → Voice) : (s.setVoice v f).scores = s.scores := rfl
@[simp] theorem State.setVoice_tags (s : State) (v : VoiceId) (f : Voice → Voice) : (s.setVoice v f).tags = s.tags := rfl
@[simp] theorem State.setVoice_crypto (s : State) (v : VoiceId) (f : Voice → Voice) : (s.setVoice v f).crypto = s.crypto := rfl
@[simp] theorem State.setVoice_keys (s : State) (v : VoiceId) (f : Voice → Voice) : (s.setVoice v f).keys = s.keys := rfl
@[simp] theorem State.setVoice_cal (s : State) (v : VoiceId) (f : Voice → Voice) : (s.setVoice v f).cal = s.cal := rfl
@[simp] theorem State.setVoice_metros (s : State) (v : VoiceId) (f : Voice → Voice) : (s.setVoice v f).metros = s.metros := rfl
@[simp] theorem State.setVoice_air (s : State) (v : VoiceId) (f : Voice → Voice) : (s.setVoice v f).air = s.air := rfl
@[simp] theorem State.setVoice_mac (s : State) (v : VoiceId) (f : Voice → Voice) : (s.setVoice v f).mac = s.mac := rfl
@[simp] theorem State.setVoice_line (s : State) (v : VoiceId) (f : Voice → Voice) : (s.setVoice v f).line = s.line := rfl
@[simp] theorem State.setVoice_pocket (s : State) (v : VoiceId) (f : Voice → Voice) : (s.setVoice v f).pocket = s.pocket := rfl
@[simp] theorem State.rd_setVoice (s : State) (v : VoiceId) (f : Voice → Voice) (j : Nat) : (s.setVoice v f).rd j = s.rd j := State.rd_congr (State.setVoice_objs s v f) j

/-! ### setScore -/

@[simp] theorem State.setScore_pending (s : State) (i : ScoreId) (f : Score → Score) : (s.setScore i f).pending = s.pending := rfl
@[simp] theorem State.setScore_free (s : State) (i : ScoreId) (f : Score → Score) : (s.setScore i f).free = s.free := rfl
@[simp] theorem State.setScore_power (s : State) (i : ScoreId) (f : Score → Score) : (s.setScore i f).power = s.power := rfl
@[simp] theorem State.setScore_time (s : State) (i : ScoreId) (f : Score → Score) : (s.setScore i f).time = s.time := rfl
@[simp] theorem State.setScore_timers (s : State) (i : ScoreId) (f : Score → Score) : (s.setScore i f).timers = s.timers := rfl
@[simp] theorem State.setScore_objs (s : State) (i : ScoreId) (f : Score → Score) : (s.setScore i f).objs = s.objs := rfl
@[simp] theorem State.setScore_nvaObjs (s : State) (i : ScoreId) (f : Score → Score) : (s.setScore i f).nvaObjs = s.nvaObjs := rfl
@[simp] theorem State.setScore_charges (s : State) (i : ScoreId) (f : Score → Score) : (s.setScore i f).charges = s.charges := rfl
@[simp] theorem State.setScore_ckpt (s : State) (i : ScoreId) (f : Score → Score) : (s.setScore i f).ckpt = s.ckpt := rfl
@[simp] theorem State.setScore_order (s : State) (i : ScoreId) (f : Score → Score) : (s.setScore i f).order = s.order := rfl
@[simp] theorem State.setScore_retried (s : State) (i : ScoreId) (f : Score → Score) : (s.setScore i f).retried = s.retried := rfl
@[simp] theorem State.setScore_again (s : State) (i : ScoreId) (f : Score → Score) : (s.setScore i f).again = s.again := rfl
@[simp] theorem State.setScore_nvaTags (s : State) (i : ScoreId) (f : Score → Score) : (s.setScore i f).nvaTags = s.nvaTags := rfl
@[simp] theorem State.setScore_rst (s : State) (i : ScoreId) (f : Score → Score) : (s.setScore i f).rst = s.rst := rfl
@[simp] theorem State.setScore_links (s : State) (i : ScoreId) (f : Score → Score) : (s.setScore i f).links = s.links := rfl
@[simp] theorem State.setScore_svc (s : State) (i : ScoreId) (f : Score → Score) : (s.setScore i f).svc = s.svc := rfl
@[simp] theorem State.setScore_host (s : State) (i : ScoreId) (f : Score → Score) : (s.setScore i f).host = s.host := rfl
@[simp] theorem State.setScore_router (s : State) (i : ScoreId) (f : Score → Score) : (s.setScore i f).router = s.router := rfl
@[simp] theorem State.setScore_faults (s : State) (i : ScoreId) (f : Score → Score) : (s.setScore i f).faults = s.faults := rfl
@[simp] theorem State.setScore_pins (s : State) (i : ScoreId) (f : Score → Score) : (s.setScore i f).pins = s.pins := rfl
@[simp] theorem State.setScore_voices (s : State) (i : ScoreId) (f : Score → Score) : (s.setScore i f).voices = s.voices := rfl
@[simp] theorem State.setScore_dues (s : State) (i : ScoreId) (f : Score → Score) : (s.setScore i f).dues = s.dues := rfl
@[simp] theorem State.setScore_tags (s : State) (i : ScoreId) (f : Score → Score) : (s.setScore i f).tags = s.tags := rfl
@[simp] theorem State.setScore_crypto (s : State) (i : ScoreId) (f : Score → Score) : (s.setScore i f).crypto = s.crypto := rfl
@[simp] theorem State.setScore_keys (s : State) (i : ScoreId) (f : Score → Score) : (s.setScore i f).keys = s.keys := rfl
@[simp] theorem State.setScore_cal (s : State) (i : ScoreId) (f : Score → Score) : (s.setScore i f).cal = s.cal := rfl
@[simp] theorem State.setScore_metros (s : State) (i : ScoreId) (f : Score → Score) : (s.setScore i f).metros = s.metros := rfl
@[simp] theorem State.setScore_air (s : State) (i : ScoreId) (f : Score → Score) : (s.setScore i f).air = s.air := rfl
@[simp] theorem State.setScore_mac (s : State) (i : ScoreId) (f : Score → Score) : (s.setScore i f).mac = s.mac := rfl
@[simp] theorem State.setScore_line (s : State) (i : ScoreId) (f : Score → Score) : (s.setScore i f).line = s.line := rfl
@[simp] theorem State.setScore_pocket (s : State) (i : ScoreId) (f : Score → Score) : (s.setScore i f).pocket = s.pocket := rfl
@[simp] theorem State.rd_setScore (s : State) (i : ScoreId) (f : Score → Score) (j : Nat) : (s.setScore i f).rd j = s.rd j := State.rd_congr (State.setScore_objs s i f) j

/-! ### setMetro -/

@[simp] theorem State.setMetro_pending (s : State) (m : MetroId) (f : Metro → Metro) : (s.setMetro m f).pending = s.pending := rfl
@[simp] theorem State.setMetro_free (s : State) (m : MetroId) (f : Metro → Metro) : (s.setMetro m f).free = s.free := rfl
@[simp] theorem State.setMetro_power (s : State) (m : MetroId) (f : Metro → Metro) : (s.setMetro m f).power = s.power := rfl
@[simp] theorem State.setMetro_time (s : State) (m : MetroId) (f : Metro → Metro) : (s.setMetro m f).time = s.time := rfl
@[simp] theorem State.setMetro_timers (s : State) (m : MetroId) (f : Metro → Metro) : (s.setMetro m f).timers = s.timers := rfl
@[simp] theorem State.setMetro_objs (s : State) (m : MetroId) (f : Metro → Metro) : (s.setMetro m f).objs = s.objs := rfl
@[simp] theorem State.setMetro_nvaObjs (s : State) (m : MetroId) (f : Metro → Metro) : (s.setMetro m f).nvaObjs = s.nvaObjs := rfl
@[simp] theorem State.setMetro_charges (s : State) (m : MetroId) (f : Metro → Metro) : (s.setMetro m f).charges = s.charges := rfl
@[simp] theorem State.setMetro_ckpt (s : State) (m : MetroId) (f : Metro → Metro) : (s.setMetro m f).ckpt = s.ckpt := rfl
@[simp] theorem State.setMetro_order (s : State) (m : MetroId) (f : Metro → Metro) : (s.setMetro m f).order = s.order := rfl
@[simp] theorem State.setMetro_retried (s : State) (m : MetroId) (f : Metro → Metro) : (s.setMetro m f).retried = s.retried := rfl
@[simp] theorem State.setMetro_again (s : State) (m : MetroId) (f : Metro → Metro) : (s.setMetro m f).again = s.again := rfl
@[simp] theorem State.setMetro_nvaTags (s : State) (m : MetroId) (f : Metro → Metro) : (s.setMetro m f).nvaTags = s.nvaTags := rfl
@[simp] theorem State.setMetro_rst (s : State) (m : MetroId) (f : Metro → Metro) : (s.setMetro m f).rst = s.rst := rfl
@[simp] theorem State.setMetro_links (s : State) (m : MetroId) (f : Metro → Metro) : (s.setMetro m f).links = s.links := rfl
@[simp] theorem State.setMetro_svc (s : State) (m : MetroId) (f : Metro → Metro) : (s.setMetro m f).svc = s.svc := rfl
@[simp] theorem State.setMetro_host (s : State) (m : MetroId) (f : Metro → Metro) : (s.setMetro m f).host = s.host := rfl
@[simp] theorem State.setMetro_router (s : State) (m : MetroId) (f : Metro → Metro) : (s.setMetro m f).router = s.router := rfl
@[simp] theorem State.setMetro_faults (s : State) (m : MetroId) (f : Metro → Metro) : (s.setMetro m f).faults = s.faults := rfl
@[simp] theorem State.setMetro_pins (s : State) (m : MetroId) (f : Metro → Metro) : (s.setMetro m f).pins = s.pins := rfl
@[simp] theorem State.setMetro_voices (s : State) (m : MetroId) (f : Metro → Metro) : (s.setMetro m f).voices = s.voices := rfl
@[simp] theorem State.setMetro_dues (s : State) (m : MetroId) (f : Metro → Metro) : (s.setMetro m f).dues = s.dues := rfl
@[simp] theorem State.setMetro_scores (s : State) (m : MetroId) (f : Metro → Metro) : (s.setMetro m f).scores = s.scores := rfl
@[simp] theorem State.setMetro_tags (s : State) (m : MetroId) (f : Metro → Metro) : (s.setMetro m f).tags = s.tags := rfl
@[simp] theorem State.setMetro_crypto (s : State) (m : MetroId) (f : Metro → Metro) : (s.setMetro m f).crypto = s.crypto := rfl
@[simp] theorem State.setMetro_keys (s : State) (m : MetroId) (f : Metro → Metro) : (s.setMetro m f).keys = s.keys := rfl
@[simp] theorem State.setMetro_cal (s : State) (m : MetroId) (f : Metro → Metro) : (s.setMetro m f).cal = s.cal := rfl
@[simp] theorem State.setMetro_air (s : State) (m : MetroId) (f : Metro → Metro) : (s.setMetro m f).air = s.air := rfl
@[simp] theorem State.setMetro_mac (s : State) (m : MetroId) (f : Metro → Metro) : (s.setMetro m f).mac = s.mac := rfl
@[simp] theorem State.setMetro_line (s : State) (m : MetroId) (f : Metro → Metro) : (s.setMetro m f).line = s.line := rfl
@[simp] theorem State.setMetro_pocket (s : State) (m : MetroId) (f : Metro → Metro) : (s.setMetro m f).pocket = s.pocket := rfl
@[simp] theorem State.rd_setMetro (s : State) (m : MetroId) (f : Metro → Metro) (j : Nat) : (s.setMetro m f).rd j = s.rd j := State.rd_congr (State.setMetro_objs s m f) j

/-! ### setBox -/

@[simp] theorem State.setBox_pending (s : State) (t : Tenant) (f : Mailbox → Mailbox) : (s.setBox t f).pending = s.pending := rfl
@[simp] theorem State.setBox_free (s : State) (t : Tenant) (f : Mailbox → Mailbox) : (s.setBox t f).free = s.free := rfl
@[simp] theorem State.setBox_power (s : State) (t : Tenant) (f : Mailbox → Mailbox) : (s.setBox t f).power = s.power := rfl
@[simp] theorem State.setBox_time (s : State) (t : Tenant) (f : Mailbox → Mailbox) : (s.setBox t f).time = s.time := rfl
@[simp] theorem State.setBox_timers (s : State) (t : Tenant) (f : Mailbox → Mailbox) : (s.setBox t f).timers = s.timers := rfl
@[simp] theorem State.setBox_objs (s : State) (t : Tenant) (f : Mailbox → Mailbox) : (s.setBox t f).objs = s.objs := rfl
@[simp] theorem State.setBox_nvaObjs (s : State) (t : Tenant) (f : Mailbox → Mailbox) : (s.setBox t f).nvaObjs = s.nvaObjs := rfl
@[simp] theorem State.setBox_charges (s : State) (t : Tenant) (f : Mailbox → Mailbox) : (s.setBox t f).charges = s.charges := rfl
@[simp] theorem State.setBox_ckpt (s : State) (t : Tenant) (f : Mailbox → Mailbox) : (s.setBox t f).ckpt = s.ckpt := rfl
@[simp] theorem State.setBox_order (s : State) (t : Tenant) (f : Mailbox → Mailbox) : (s.setBox t f).order = s.order := rfl
@[simp] theorem State.setBox_retried (s : State) (t : Tenant) (f : Mailbox → Mailbox) : (s.setBox t f).retried = s.retried := rfl
@[simp] theorem State.setBox_again (s : State) (t : Tenant) (f : Mailbox → Mailbox) : (s.setBox t f).again = s.again := rfl
@[simp] theorem State.setBox_nvaTags (s : State) (t : Tenant) (f : Mailbox → Mailbox) : (s.setBox t f).nvaTags = s.nvaTags := rfl
@[simp] theorem State.setBox_rst (s : State) (t : Tenant) (f : Mailbox → Mailbox) : (s.setBox t f).rst = s.rst := rfl
@[simp] theorem State.setBox_links (s : State) (t : Tenant) (f : Mailbox → Mailbox) : (s.setBox t f).links = s.links := rfl
@[simp] theorem State.setBox_svc (s : State) (t : Tenant) (f : Mailbox → Mailbox) : (s.setBox t f).svc = s.svc := rfl
@[simp] theorem State.setBox_host (s : State) (t : Tenant) (f : Mailbox → Mailbox) : (s.setBox t f).host = s.host := rfl
@[simp] theorem State.setBox_faults (s : State) (t : Tenant) (f : Mailbox → Mailbox) : (s.setBox t f).faults = s.faults := rfl
@[simp] theorem State.setBox_pins (s : State) (t : Tenant) (f : Mailbox → Mailbox) : (s.setBox t f).pins = s.pins := rfl
@[simp] theorem State.setBox_voices (s : State) (t : Tenant) (f : Mailbox → Mailbox) : (s.setBox t f).voices = s.voices := rfl
@[simp] theorem State.setBox_dues (s : State) (t : Tenant) (f : Mailbox → Mailbox) : (s.setBox t f).dues = s.dues := rfl
@[simp] theorem State.setBox_scores (s : State) (t : Tenant) (f : Mailbox → Mailbox) : (s.setBox t f).scores = s.scores := rfl
@[simp] theorem State.setBox_tags (s : State) (t : Tenant) (f : Mailbox → Mailbox) : (s.setBox t f).tags = s.tags := rfl
@[simp] theorem State.setBox_crypto (s : State) (t : Tenant) (f : Mailbox → Mailbox) : (s.setBox t f).crypto = s.crypto := rfl
@[simp] theorem State.setBox_keys (s : State) (t : Tenant) (f : Mailbox → Mailbox) : (s.setBox t f).keys = s.keys := rfl
@[simp] theorem State.setBox_cal (s : State) (t : Tenant) (f : Mailbox → Mailbox) : (s.setBox t f).cal = s.cal := rfl
@[simp] theorem State.setBox_metros (s : State) (t : Tenant) (f : Mailbox → Mailbox) : (s.setBox t f).metros = s.metros := rfl
@[simp] theorem State.setBox_air (s : State) (t : Tenant) (f : Mailbox → Mailbox) : (s.setBox t f).air = s.air := rfl
@[simp] theorem State.setBox_mac (s : State) (t : Tenant) (f : Mailbox → Mailbox) : (s.setBox t f).mac = s.mac := rfl
@[simp] theorem State.setBox_line (s : State) (t : Tenant) (f : Mailbox → Mailbox) : (s.setBox t f).line = s.line := rfl
@[simp] theorem State.setBox_pocket (s : State) (t : Tenant) (f : Mailbox → Mailbox) : (s.setBox t f).pocket = s.pocket := rfl
@[simp] theorem State.rd_setBox (s : State) (t : Tenant) (f : Mailbox → Mailbox) (j : Nat) : (s.setBox t f).rd j = s.rd j := State.rd_congr (State.setBox_objs s t f) j

/-! ### setQueue -/

@[simp] theorem State.setQueue_pending (s : State) (t : Tenant) (f : List Job → List Job) : (s.setQueue t f).pending = s.pending := rfl
@[simp] theorem State.setQueue_free (s : State) (t : Tenant) (f : List Job → List Job) : (s.setQueue t f).free = s.free := rfl
@[simp] theorem State.setQueue_power (s : State) (t : Tenant) (f : List Job → List Job) : (s.setQueue t f).power = s.power := rfl
@[simp] theorem State.setQueue_time (s : State) (t : Tenant) (f : List Job → List Job) : (s.setQueue t f).time = s.time := rfl
@[simp] theorem State.setQueue_timers (s : State) (t : Tenant) (f : List Job → List Job) : (s.setQueue t f).timers = s.timers := rfl
@[simp] theorem State.setQueue_objs (s : State) (t : Tenant) (f : List Job → List Job) : (s.setQueue t f).objs = s.objs := rfl
@[simp] theorem State.setQueue_nvaObjs (s : State) (t : Tenant) (f : List Job → List Job) : (s.setQueue t f).nvaObjs = s.nvaObjs := rfl
@[simp] theorem State.setQueue_charges (s : State) (t : Tenant) (f : List Job → List Job) : (s.setQueue t f).charges = s.charges := rfl
@[simp] theorem State.setQueue_ckpt (s : State) (t : Tenant) (f : List Job → List Job) : (s.setQueue t f).ckpt = s.ckpt := rfl
@[simp] theorem State.setQueue_order (s : State) (t : Tenant) (f : List Job → List Job) : (s.setQueue t f).order = s.order := rfl
@[simp] theorem State.setQueue_retried (s : State) (t : Tenant) (f : List Job → List Job) : (s.setQueue t f).retried = s.retried := rfl
@[simp] theorem State.setQueue_again (s : State) (t : Tenant) (f : List Job → List Job) : (s.setQueue t f).again = s.again := rfl
@[simp] theorem State.setQueue_nvaTags (s : State) (t : Tenant) (f : List Job → List Job) : (s.setQueue t f).nvaTags = s.nvaTags := rfl
@[simp] theorem State.setQueue_rst (s : State) (t : Tenant) (f : List Job → List Job) : (s.setQueue t f).rst = s.rst := rfl
@[simp] theorem State.setQueue_links (s : State) (t : Tenant) (f : List Job → List Job) : (s.setQueue t f).links = s.links := rfl
@[simp] theorem State.setQueue_host (s : State) (t : Tenant) (f : List Job → List Job) : (s.setQueue t f).host = s.host := rfl
@[simp] theorem State.setQueue_router (s : State) (t : Tenant) (f : List Job → List Job) : (s.setQueue t f).router = s.router := rfl
@[simp] theorem State.setQueue_faults (s : State) (t : Tenant) (f : List Job → List Job) : (s.setQueue t f).faults = s.faults := rfl
@[simp] theorem State.setQueue_pins (s : State) (t : Tenant) (f : List Job → List Job) : (s.setQueue t f).pins = s.pins := rfl
@[simp] theorem State.setQueue_voices (s : State) (t : Tenant) (f : List Job → List Job) : (s.setQueue t f).voices = s.voices := rfl
@[simp] theorem State.setQueue_dues (s : State) (t : Tenant) (f : List Job → List Job) : (s.setQueue t f).dues = s.dues := rfl
@[simp] theorem State.setQueue_scores (s : State) (t : Tenant) (f : List Job → List Job) : (s.setQueue t f).scores = s.scores := rfl
@[simp] theorem State.setQueue_tags (s : State) (t : Tenant) (f : List Job → List Job) : (s.setQueue t f).tags = s.tags := rfl
@[simp] theorem State.setQueue_crypto (s : State) (t : Tenant) (f : List Job → List Job) : (s.setQueue t f).crypto = s.crypto := rfl
@[simp] theorem State.setQueue_keys (s : State) (t : Tenant) (f : List Job → List Job) : (s.setQueue t f).keys = s.keys := rfl
@[simp] theorem State.setQueue_cal (s : State) (t : Tenant) (f : List Job → List Job) : (s.setQueue t f).cal = s.cal := rfl
@[simp] theorem State.setQueue_metros (s : State) (t : Tenant) (f : List Job → List Job) : (s.setQueue t f).metros = s.metros := rfl
@[simp] theorem State.setQueue_air (s : State) (t : Tenant) (f : List Job → List Job) : (s.setQueue t f).air = s.air := rfl
@[simp] theorem State.setQueue_mac (s : State) (t : Tenant) (f : List Job → List Job) : (s.setQueue t f).mac = s.mac := rfl
@[simp] theorem State.setQueue_line (s : State) (t : Tenant) (f : List Job → List Job) : (s.setQueue t f).line = s.line := rfl
@[simp] theorem State.setQueue_pocket (s : State) (t : Tenant) (f : List Job → List Job) : (s.setQueue t f).pocket = s.pocket := rfl
@[simp] theorem State.rd_setQueue (s : State) (t : Tenant) (f : List Job → List Job) (j : Nat) : (s.setQueue t f).rd j = s.rd j := State.rd_congr (State.setQueue_objs s t f) j

/-! ### setLink -/

@[simp] theorem State.setLink_pending (s : State) (d : Die) (f : Link → Link) : (s.setLink d f).pending = s.pending := rfl
@[simp] theorem State.setLink_free (s : State) (d : Die) (f : Link → Link) : (s.setLink d f).free = s.free := rfl
@[simp] theorem State.setLink_power (s : State) (d : Die) (f : Link → Link) : (s.setLink d f).power = s.power := rfl
@[simp] theorem State.setLink_time (s : State) (d : Die) (f : Link → Link) : (s.setLink d f).time = s.time := rfl
@[simp] theorem State.setLink_timers (s : State) (d : Die) (f : Link → Link) : (s.setLink d f).timers = s.timers := rfl
@[simp] theorem State.setLink_objs (s : State) (d : Die) (f : Link → Link) : (s.setLink d f).objs = s.objs := rfl
@[simp] theorem State.setLink_nvaObjs (s : State) (d : Die) (f : Link → Link) : (s.setLink d f).nvaObjs = s.nvaObjs := rfl
@[simp] theorem State.setLink_charges (s : State) (d : Die) (f : Link → Link) : (s.setLink d f).charges = s.charges := rfl
@[simp] theorem State.setLink_ckpt (s : State) (d : Die) (f : Link → Link) : (s.setLink d f).ckpt = s.ckpt := rfl
@[simp] theorem State.setLink_order (s : State) (d : Die) (f : Link → Link) : (s.setLink d f).order = s.order := rfl
@[simp] theorem State.setLink_retried (s : State) (d : Die) (f : Link → Link) : (s.setLink d f).retried = s.retried := rfl
@[simp] theorem State.setLink_again (s : State) (d : Die) (f : Link → Link) : (s.setLink d f).again = s.again := rfl
@[simp] theorem State.setLink_nvaTags (s : State) (d : Die) (f : Link → Link) : (s.setLink d f).nvaTags = s.nvaTags := rfl
@[simp] theorem State.setLink_rst (s : State) (d : Die) (f : Link → Link) : (s.setLink d f).rst = s.rst := rfl
@[simp] theorem State.setLink_svc (s : State) (d : Die) (f : Link → Link) : (s.setLink d f).svc = s.svc := rfl
@[simp] theorem State.setLink_host (s : State) (d : Die) (f : Link → Link) : (s.setLink d f).host = s.host := rfl
@[simp] theorem State.setLink_router (s : State) (d : Die) (f : Link → Link) : (s.setLink d f).router = s.router := rfl
@[simp] theorem State.setLink_faults (s : State) (d : Die) (f : Link → Link) : (s.setLink d f).faults = s.faults := rfl
@[simp] theorem State.setLink_pins (s : State) (d : Die) (f : Link → Link) : (s.setLink d f).pins = s.pins := rfl
@[simp] theorem State.setLink_voices (s : State) (d : Die) (f : Link → Link) : (s.setLink d f).voices = s.voices := rfl
@[simp] theorem State.setLink_dues (s : State) (d : Die) (f : Link → Link) : (s.setLink d f).dues = s.dues := rfl
@[simp] theorem State.setLink_scores (s : State) (d : Die) (f : Link → Link) : (s.setLink d f).scores = s.scores := rfl
@[simp] theorem State.setLink_tags (s : State) (d : Die) (f : Link → Link) : (s.setLink d f).tags = s.tags := rfl
@[simp] theorem State.setLink_crypto (s : State) (d : Die) (f : Link → Link) : (s.setLink d f).crypto = s.crypto := rfl
@[simp] theorem State.setLink_keys (s : State) (d : Die) (f : Link → Link) : (s.setLink d f).keys = s.keys := rfl
@[simp] theorem State.setLink_cal (s : State) (d : Die) (f : Link → Link) : (s.setLink d f).cal = s.cal := rfl
@[simp] theorem State.setLink_metros (s : State) (d : Die) (f : Link → Link) : (s.setLink d f).metros = s.metros := rfl
@[simp] theorem State.setLink_air (s : State) (d : Die) (f : Link → Link) : (s.setLink d f).air = s.air := rfl
@[simp] theorem State.setLink_mac (s : State) (d : Die) (f : Link → Link) : (s.setLink d f).mac = s.mac := rfl
@[simp] theorem State.setLink_line (s : State) (d : Die) (f : Link → Link) : (s.setLink d f).line = s.line := rfl
@[simp] theorem State.setLink_pocket (s : State) (d : Die) (f : Link → Link) : (s.setLink d f).pocket = s.pocket := rfl
@[simp] theorem State.rd_setLink (s : State) (d : Die) (f : Link → Link) (j : Nat) : (s.setLink d f).rd j = s.rd j := State.rd_congr (State.setLink_objs s d f) j

/-! ### fieldStopped -/

@[simp] theorem State.fieldStopped_pending (s : State) : (s.fieldStopped).pending = s.pending := rfl
@[simp] theorem State.fieldStopped_free (s : State) : (s.fieldStopped).free = s.free := rfl
@[simp] theorem State.fieldStopped_power (s : State) : (s.fieldStopped).power = s.power := rfl
@[simp] theorem State.fieldStopped_timers (s : State) : (s.fieldStopped).timers = s.timers := rfl
@[simp] theorem State.fieldStopped_objs (s : State) : (s.fieldStopped).objs = s.objs := rfl
@[simp] theorem State.fieldStopped_nvaObjs (s : State) : (s.fieldStopped).nvaObjs = s.nvaObjs := rfl
@[simp] theorem State.fieldStopped_charges (s : State) : (s.fieldStopped).charges = s.charges := rfl
@[simp] theorem State.fieldStopped_ckpt (s : State) : (s.fieldStopped).ckpt = s.ckpt := rfl
@[simp] theorem State.fieldStopped_order (s : State) : (s.fieldStopped).order = s.order := rfl
@[simp] theorem State.fieldStopped_retried (s : State) : (s.fieldStopped).retried = s.retried := rfl
@[simp] theorem State.fieldStopped_again (s : State) : (s.fieldStopped).again = s.again := rfl
@[simp] theorem State.fieldStopped_nvaTags (s : State) : (s.fieldStopped).nvaTags = s.nvaTags := rfl
@[simp] theorem State.fieldStopped_rst (s : State) : (s.fieldStopped).rst = s.rst := rfl
@[simp] theorem State.fieldStopped_links (s : State) : (s.fieldStopped).links = s.links := rfl
@[simp] theorem State.fieldStopped_svc (s : State) : (s.fieldStopped).svc = s.svc := rfl
@[simp] theorem State.fieldStopped_host (s : State) : (s.fieldStopped).host = s.host := rfl
@[simp] theorem State.fieldStopped_router (s : State) : (s.fieldStopped).router = s.router := rfl
@[simp] theorem State.fieldStopped_faults (s : State) : (s.fieldStopped).faults = s.faults := rfl
@[simp] theorem State.fieldStopped_pins (s : State) : (s.fieldStopped).pins = s.pins := rfl
@[simp] theorem State.fieldStopped_voices (s : State) : (s.fieldStopped).voices = s.voices := rfl
@[simp] theorem State.fieldStopped_dues (s : State) : (s.fieldStopped).dues = s.dues := rfl
@[simp] theorem State.fieldStopped_scores (s : State) : (s.fieldStopped).scores = s.scores := rfl
@[simp] theorem State.fieldStopped_tags (s : State) : (s.fieldStopped).tags = s.tags := rfl
@[simp] theorem State.fieldStopped_crypto (s : State) : (s.fieldStopped).crypto = s.crypto := rfl
@[simp] theorem State.fieldStopped_keys (s : State) : (s.fieldStopped).keys = s.keys := rfl
@[simp] theorem State.fieldStopped_cal (s : State) : (s.fieldStopped).cal = s.cal := rfl
@[simp] theorem State.fieldStopped_metros (s : State) : (s.fieldStopped).metros = s.metros := rfl
@[simp] theorem State.fieldStopped_air (s : State) : (s.fieldStopped).air = s.air := rfl
@[simp] theorem State.fieldStopped_mac (s : State) : (s.fieldStopped).mac = s.mac := rfl
@[simp] theorem State.fieldStopped_line (s : State) : (s.fieldStopped).line = s.line := rfl
@[simp] theorem State.fieldStopped_pocket (s : State) : (s.fieldStopped).pocket = s.pocket := rfl
@[simp] theorem State.rd_fieldStopped (s : State) (j : Nat) : (s.fieldStopped).rd j = s.rd j := State.rd_congr (State.fieldStopped_objs s) j

/-! ### dropWindow -/

@[simp] theorem State.dropWindow_pending (s : State) : (s.dropWindow).pending = s.pending := rfl
@[simp] theorem State.dropWindow_free (s : State) : (s.dropWindow).free = s.free := rfl
@[simp] theorem State.dropWindow_power (s : State) : (s.dropWindow).power = s.power := rfl
@[simp] theorem State.dropWindow_timers (s : State) : (s.dropWindow).timers = s.timers := rfl
@[simp] theorem State.dropWindow_objs (s : State) : (s.dropWindow).objs = s.objs := rfl
@[simp] theorem State.dropWindow_nvaObjs (s : State) : (s.dropWindow).nvaObjs = s.nvaObjs := rfl
@[simp] theorem State.dropWindow_charges (s : State) : (s.dropWindow).charges = s.charges := rfl
@[simp] theorem State.dropWindow_ckpt (s : State) : (s.dropWindow).ckpt = s.ckpt := rfl
@[simp] theorem State.dropWindow_order (s : State) : (s.dropWindow).order = s.order := rfl
@[simp] theorem State.dropWindow_retried (s : State) : (s.dropWindow).retried = s.retried := rfl
@[simp] theorem State.dropWindow_again (s : State) : (s.dropWindow).again = s.again := rfl
@[simp] theorem State.dropWindow_nvaTags (s : State) : (s.dropWindow).nvaTags = s.nvaTags := rfl
@[simp] theorem State.dropWindow_rst (s : State) : (s.dropWindow).rst = s.rst := rfl
@[simp] theorem State.dropWindow_links (s : State) : (s.dropWindow).links = s.links := rfl
@[simp] theorem State.dropWindow_svc (s : State) : (s.dropWindow).svc = s.svc := rfl
@[simp] theorem State.dropWindow_host (s : State) : (s.dropWindow).host = s.host := rfl
@[simp] theorem State.dropWindow_router (s : State) : (s.dropWindow).router = s.router := rfl
@[simp] theorem State.dropWindow_faults (s : State) : (s.dropWindow).faults = s.faults := rfl
@[simp] theorem State.dropWindow_pins (s : State) : (s.dropWindow).pins = s.pins := rfl
@[simp] theorem State.dropWindow_voices (s : State) : (s.dropWindow).voices = s.voices := rfl
@[simp] theorem State.dropWindow_dues (s : State) : (s.dropWindow).dues = s.dues := rfl
@[simp] theorem State.dropWindow_scores (s : State) : (s.dropWindow).scores = s.scores := rfl
@[simp] theorem State.dropWindow_tags (s : State) : (s.dropWindow).tags = s.tags := rfl
@[simp] theorem State.dropWindow_crypto (s : State) : (s.dropWindow).crypto = s.crypto := rfl
@[simp] theorem State.dropWindow_keys (s : State) : (s.dropWindow).keys = s.keys := rfl
@[simp] theorem State.dropWindow_cal (s : State) : (s.dropWindow).cal = s.cal := rfl
@[simp] theorem State.dropWindow_metros (s : State) : (s.dropWindow).metros = s.metros := rfl
@[simp] theorem State.dropWindow_air (s : State) : (s.dropWindow).air = s.air := rfl
@[simp] theorem State.dropWindow_mac (s : State) : (s.dropWindow).mac = s.mac := rfl
@[simp] theorem State.dropWindow_line (s : State) : (s.dropWindow).line = s.line := rfl
@[simp] theorem State.dropWindow_pocket (s : State) : (s.dropWindow).pocket = s.pocket := rfl
@[simp] theorem State.rd_dropWindow (s : State) (j : Nat) : (s.dropWindow).rd j = s.rd j := State.rd_congr (State.dropWindow_objs s) j

/-! ### tick -/

@[simp] theorem State.tick_pending (s : State) : (s.tick).pending = s.pending := rfl
@[simp] theorem State.tick_free (s : State) : (s.tick).free = s.free := rfl
@[simp] theorem State.tick_power (s : State) : (s.tick).power = s.power := rfl
@[simp] theorem State.tick_timers (s : State) : (s.tick).timers = s.timers := rfl
@[simp] theorem State.tick_objs (s : State) : (s.tick).objs = s.objs := rfl
@[simp] theorem State.tick_nvaObjs (s : State) : (s.tick).nvaObjs = s.nvaObjs := rfl
@[simp] theorem State.tick_charges (s : State) : (s.tick).charges = s.charges := rfl
@[simp] theorem State.tick_ckpt (s : State) : (s.tick).ckpt = s.ckpt := rfl
@[simp] theorem State.tick_order (s : State) : (s.tick).order = s.order := rfl
@[simp] theorem State.tick_retried (s : State) : (s.tick).retried = s.retried := rfl
@[simp] theorem State.tick_again (s : State) : (s.tick).again = s.again := rfl
@[simp] theorem State.tick_nvaTags (s : State) : (s.tick).nvaTags = s.nvaTags := rfl
@[simp] theorem State.tick_rst (s : State) : (s.tick).rst = s.rst := rfl
@[simp] theorem State.tick_links (s : State) : (s.tick).links = s.links := rfl
@[simp] theorem State.tick_svc (s : State) : (s.tick).svc = s.svc := rfl
@[simp] theorem State.tick_host (s : State) : (s.tick).host = s.host := rfl
@[simp] theorem State.tick_router (s : State) : (s.tick).router = s.router := rfl
@[simp] theorem State.tick_faults (s : State) : (s.tick).faults = s.faults := rfl
@[simp] theorem State.tick_pins (s : State) : (s.tick).pins = s.pins := rfl
@[simp] theorem State.tick_voices (s : State) : (s.tick).voices = s.voices := rfl
@[simp] theorem State.tick_dues (s : State) : (s.tick).dues = s.dues := rfl
@[simp] theorem State.tick_scores (s : State) : (s.tick).scores = s.scores := rfl
@[simp] theorem State.tick_tags (s : State) : (s.tick).tags = s.tags := rfl
@[simp] theorem State.tick_crypto (s : State) : (s.tick).crypto = s.crypto := rfl
@[simp] theorem State.tick_keys (s : State) : (s.tick).keys = s.keys := rfl
@[simp] theorem State.tick_cal (s : State) : (s.tick).cal = s.cal := rfl
@[simp] theorem State.tick_metros (s : State) : (s.tick).metros = s.metros := rfl
@[simp] theorem State.tick_air (s : State) : (s.tick).air = s.air := rfl
@[simp] theorem State.tick_mac (s : State) : (s.tick).mac = s.mac := rfl
@[simp] theorem State.tick_line (s : State) : (s.tick).line = s.line := rfl
@[simp] theorem State.tick_pocket (s : State) : (s.tick).pocket = s.pocket := rfl
@[simp] theorem State.rd_tick (s : State) (j : Nat) : (s.tick).rd j = s.rd j := State.rd_congr (State.tick_objs s) j

/-! ### What an operation sets -/

@[simp] theorem State.setVoice_self (s : State) (v : VoiceId) (f : Voice → Voice) :
    (s.setVoice v f).voices[v.val] = f s.voices[v.val] := by simp [State.setVoice]

theorem State.setVoice_other (s : State) (v w : VoiceId) (f : Voice → Voice) (h : w ≠ v) :
    (s.setVoice v f).voices[w.val] = s.voices[w.val] := by
  have : v.val ≠ w.val := fun e => h (Fin.ext e.symm)
  simp [State.setVoice, Vector.getElem_set_ne _ _ this]

@[simp] theorem State.setScore_self (s : State) (i : ScoreId) (f : Score → Score) :
    (s.setScore i f).scores[i.val] = f s.scores[i.val] := by simp [State.setScore]

theorem State.setScore_other (s : State) (i w : ScoreId) (f : Score → Score) (h : w ≠ i) :
    (s.setScore i f).scores[w.val] = s.scores[w.val] := by
  have : i.val ≠ w.val := fun e => h (Fin.ext e.symm)
  simp [State.setScore, Vector.getElem_set_ne _ _ this]

@[simp] theorem State.setMetro_self (s : State) (m : MetroId) (f : Metro → Metro) :
    (s.setMetro m f).metros[m.val] = f s.metros[m.val] := by simp [State.setMetro]

theorem State.setMetro_other (s : State) (m w : MetroId) (f : Metro → Metro) (h : w ≠ m) :
    (s.setMetro m f).metros[w.val] = s.metros[w.val] := by
  have : m.val ≠ w.val := fun e => h (Fin.ext e.symm)
  simp [State.setMetro, Vector.getElem_set_ne _ _ this]

@[simp] theorem State.setLink_self (s : State) (d : Die) (f : Link → Link) :
    (s.setLink d f).links[d.link.val] = f s.links[d.link.val] := by simp [State.setLink]

@[simp] theorem State.setBox_self (s : State) (t : Tenant) (f : Mailbox → Mailbox) :
    (s.setBox t f).router.boxes[t.val] = f s.router.boxes[t.val] := by simp [State.setBox]

theorem State.setBox_other (s : State) (t u : Tenant) (f : Mailbox → Mailbox) (h : u ≠ t) :
    (s.setBox t f).router.boxes[u.val] = s.router.boxes[u.val] := by
  have : t.val ≠ u.val := fun e => h (Fin.ext e.symm)
  simp [State.setBox, Vector.getElem_set_ne _ _ this]

@[simp] theorem State.setQueue_self (s : State) (t : Tenant) (f : List Job → List Job) :
    (s.setQueue t f).svc.queues[t.val] = f s.svc.queues[t.val] := by simp [State.setQueue]

/-- A timer just set is set to its instant. -/
@[simp] theorem State.arm_dueAt (s : State) (tm : Timer) (due : Nat) : (s.arm tm due).dueAt tm = some due := by
  simp [State.arm, State.dueAt]

/-- A cancelled timer is not set. -/
@[simp] theorem State.cancel_dueAt (s : State) (tm : Timer) : (s.cancel tm).dueAt tm = none := by
  simp [State.cancel, State.dueAt, List.find?_eq_none]

/-- A cancelled timer is not armed. -/
@[simp] theorem State.cancel_isArmed (s : State) (tm : Timer) : (s.cancel tm).isArmed tm = false := by
  simp [State.isArmed]

/-- A timer just set is armed. -/
@[simp] theorem State.arm_isArmed (s : State) (tm : Timer) (due : Nat) : (s.arm tm due).isArmed tm = true := by
  simp [State.isArmed]

end Sys2Proof.Machine
end

