-- ==== Sys2Proof/Laws/Frames.lean ====
section
/-! SUPPORT. What the end of a command (`State.settle`) and the raising of an event can touch: subscriptions touch the event router
and the NVA order, an event beside these the score triggers and the metronomes that it starts. Later proofs cite the lemmas for single
fields and unfold neither. -/

namespace Sys2Proof.Machine

/-- The states differ in the event router and the NVA order only. -/
def SameButRouter (s t : State) : Prop := ∃ r o, t = { s with router := r, order := o }

theorem SameButRouter.refl (s : State) : SameButRouter s s := ⟨s.router, s.order, rfl⟩

theorem SameButRouter.trans {s t u : State} (h : SameButRouter s t) (g : SameButRouter t u) : SameButRouter s u := by
  obtain ⟨r, o, rfl⟩ := h
  obtain ⟨r', o', rfl⟩ := g
  exact ⟨r', o', rfl⟩

theorem SameButRouter.foldl {α : Type} (f : State → α → State) (hf : ∀ s a, SameButRouter s (f s a)) (l : List α)
    (s : State) : SameButRouter s (l.foldl f s) := by
  induction l generalizing s with
  | nil => exact .refl s
  | cons a l ih => exact (hf s a).trans (ih (f s a))

theorem State.setBox_same (s : State) (t : Tenant) (f : Mailbox → Mailbox) : SameButRouter s (s.setBox t f) :=
  ⟨_, s.order, rfl⟩

theorem State.commit_same (s : State) (c : Commit) : SameButRouter s (s.commit c) := by
  unfold State.commit
  split
  · exact ⟨s.router, [c], rfl⟩
  · exact ⟨s.router, _, rfl⟩

theorem State.reserve_same (s : State) (t : Tenant) : SameButRouter s (s.reserve t) := by
  unfold State.reserve
  split
  · exact (s.setBox_same t _).trans (State.commit_same _ _)
  · exact .refl s

theorem State.enqueue_same (s : State) (t : Tenant) (e stamp : Nat) (d : Octets) :
    SameButRouter s (s.enqueue t e stamp d).1 := by
  unfold State.enqueue
  exact (s.setBox_same t _).trans (State.reserve_same _ _)

theorem State.notify_same (s : State) (t : Tenant) (e : Sub) (stamp : Nat) : SameButRouter s (s.notify t e stamp) := by
  unfold State.notify
  exact (s.setBox_same t _).trans (State.enqueue_same _ _ _ _ _)

theorem State.judge_same (s : State) (t : Tenant) (e : Sub) : SameButRouter s (s.judge t e) := by
  unfold State.judge
  dsimp only
  split
  · split
    · exact (s.setBox_same t _).trans (State.setBox_same _ t _)
    · split
      · exact (s.setBox_same t _).trans (State.notify_same _ _ _ _)
      · exact s.setBox_same t _
  · exact .refl s

/-- The end of a command touches the event router and the NVA order only. -/
theorem State.settle_same (s : State) : SameButRouter s s.settle := by
  unfold State.settle
  split
  · exact SameButRouter.foldl _ (fun s t => SameButRouter.foldl _ (fun s e => State.judge_same s t e) _ s) _ s
  · exact .refl s

/-- A command that ends with `done` answers a next state. -/
theorem done_eq (s : State) : done s = .next s.settle := rfl

@[simp] theorem State.settle_pending (s : State) : s.settle.pending = s.pending := by
  obtain ⟨r, o, h⟩ := s.settle_same; rw [h]
@[simp] theorem State.settle_free (s : State) : s.settle.free = s.free := by
  obtain ⟨r, o, h⟩ := s.settle_same; rw [h]
@[simp] theorem State.settle_power (s : State) : s.settle.power = s.power := by
  obtain ⟨r, o, h⟩ := s.settle_same; rw [h]
@[simp] theorem State.settle_time (s : State) : s.settle.time = s.time := by
  obtain ⟨r, o, h⟩ := s.settle_same; rw [h]
@[simp] theorem State.settle_timers (s : State) : s.settle.timers = s.timers := by
  obtain ⟨r, o, h⟩ := s.settle_same; rw [h]
@[simp] theorem State.settle_objs (s : State) : s.settle.objs = s.objs := by
  obtain ⟨r, o, h⟩ := s.settle_same; rw [h]
@[simp] theorem State.settle_nvaObjs (s : State) : s.settle.nvaObjs = s.nvaObjs := by
  obtain ⟨r, o, h⟩ := s.settle_same; rw [h]
@[simp] theorem State.settle_charges (s : State) : s.settle.charges = s.charges := by
  obtain ⟨r, o, h⟩ := s.settle_same; rw [h]
@[simp] theorem State.settle_ckpt (s : State) : s.settle.ckpt = s.ckpt := by
  obtain ⟨r, o, h⟩ := s.settle_same; rw [h]
@[simp] theorem State.settle_retried (s : State) : s.settle.retried = s.retried := by
  obtain ⟨r, o, h⟩ := s.settle_same; rw [h]
@[simp] theorem State.settle_again (s : State) : s.settle.again = s.again := by
  obtain ⟨r, o, h⟩ := s.settle_same; rw [h]
@[simp] theorem State.settle_nvaTags (s : State) : s.settle.nvaTags = s.nvaTags := by
  obtain ⟨r, o, h⟩ := s.settle_same; rw [h]
@[simp] theorem State.settle_rst (s : State) : s.settle.rst = s.rst := by
  obtain ⟨r, o, h⟩ := s.settle_same; rw [h]
@[simp] theorem State.settle_links (s : State) : s.settle.links = s.links := by
  obtain ⟨r, o, h⟩ := s.settle_same; rw [h]
@[simp] theorem State.settle_svc (s : State) : s.settle.svc = s.svc := by
  obtain ⟨r, o, h⟩ := s.settle_same; rw [h]
@[simp] theorem State.settle_host (s : State) : s.settle.host = s.host := by
  obtain ⟨r, o, h⟩ := s.settle_same; rw [h]
@[simp] theorem State.settle_faults (s : State) : s.settle.faults = s.faults := by
  obtain ⟨r, o, h⟩ := s.settle_same; rw [h]
@[simp] theorem State.settle_pins (s : State) : s.settle.pins = s.pins := by
  obtain ⟨r, o, h⟩ := s.settle_same; rw [h]
@[simp] theorem State.settle_voices (s : State) : s.settle.voices = s.voices := by
  obtain ⟨r, o, h⟩ := s.settle_same; rw [h]
@[simp] theorem State.settle_dues (s : State) : s.settle.dues = s.dues := by
  obtain ⟨r, o, h⟩ := s.settle_same; rw [h]
@[simp] theorem State.settle_scores (s : State) : s.settle.scores = s.scores := by
  obtain ⟨r, o, h⟩ := s.settle_same; rw [h]
@[simp] theorem State.settle_tags (s : State) : s.settle.tags = s.tags := by
  obtain ⟨r, o, h⟩ := s.settle_same; rw [h]
@[simp] theorem State.settle_crypto (s : State) : s.settle.crypto = s.crypto := by
  obtain ⟨r, o, h⟩ := s.settle_same; rw [h]
@[simp] theorem State.settle_keys (s : State) : s.settle.keys = s.keys := by
  obtain ⟨r, o, h⟩ := s.settle_same; rw [h]
@[simp] theorem State.settle_cal (s : State) : s.settle.cal = s.cal := by
  obtain ⟨r, o, h⟩ := s.settle_same; rw [h]
@[simp] theorem State.settle_metros (s : State) : s.settle.metros = s.metros := by
  obtain ⟨r, o, h⟩ := s.settle_same; rw [h]
@[simp] theorem State.settle_air (s : State) : s.settle.air = s.air := by
  obtain ⟨r, o, h⟩ := s.settle_same; rw [h]
@[simp] theorem State.settle_mac (s : State) : s.settle.mac = s.mac := by
  obtain ⟨r, o, h⟩ := s.settle_same; rw [h]
@[simp] theorem State.settle_line (s : State) : s.settle.line = s.line := by
  obtain ⟨r, o, h⟩ := s.settle_same; rw [h]
@[simp] theorem State.settle_pocket (s : State) : s.settle.pocket = s.pocket := by
  obtain ⟨r, o, h⟩ := s.settle_same; rw [h]
@[simp] theorem State.rd_settle (s : State) (k : Nat) : s.settle.rd k = s.rd k := State.rd_congr s.settle_objs k

/-! ### Events -/

/-- The states differ in what an event may touch: the router, the NVA order, the score triggers, the metronomes and their objects. -/
def SameButEvents (s t : State) : Prop :=
  ∃ r o sc m ob, t = { s with router := r, order := o, scores := sc, metros := m, objs := ob } ∧
    ∀ k, metroKey k = false → t.rd k = s.rd k

theorem SameButEvents.refl (s : State) : SameButEvents s s :=
  ⟨s.router, s.order, s.scores, s.metros, s.objs, rfl, fun _ _ => rfl⟩

theorem SameButEvents.trans {s t u : State} (h : SameButEvents s t) (g : SameButEvents t u) : SameButEvents s u := by
  obtain ⟨r, o, sc, m, ob, rfl, hk⟩ := h
  obtain ⟨r', o', sc', m', ob', rfl, gk⟩ := g
  exact ⟨r', o', sc', m', ob', rfl, fun k hm => (gk k hm).trans (hk k hm)⟩

theorem SameButRouter.events {s t : State} (h : SameButRouter s t) : SameButEvents s t := by
  obtain ⟨r, o, rfl⟩ := h
  exact ⟨r, o, s.scores, s.metros, s.objs, rfl, fun _ _ => rfl⟩

theorem SameButEvents.foldl {α : Type} (f : State → α → State) (hf : ∀ s a, SameButEvents s (f s a)) (l : List α)
    (s : State) : SameButEvents s (l.foldl f s) := by
  induction l generalizing s with
  | nil => exact .refl s
  | cons a l ih => exact (hf s a).trans (ih (f s a))

theorem metroKey_ob (m : MetroId) (n : Nat) (h : n < 256) : metroKey (ob (0x8000 + m.val) n) = true := by
  have hm := m.isLt
  unfold metroKey keyIndex ob
  simp only [Bool.and_eq_true, decide_eq_true_eq]
  omega

theorem State.wr_metro (s : State) (k v : Nat) (h : metroKey k = true) : SameButEvents s (s.wr k v) := by
  refine ⟨s.router, s.order, s.scores, s.metros, (s.wr k v).objs, rfl, fun j hj => State.rd_wr_other s v ?_⟩
  intro e; subst e; simp [h] at hj

theorem State.wrAll_metro (l : List (Nat × Nat)) (s : State) (h : ∀ p ∈ l, metroKey p.1 = true) :
    SameButEvents s (s.wrAll l) := by
  induction l generalizing s with
  | nil => exact .refl s
  | cons p l ih =>
    rw [State.wrAll_cons]
    exact (s.wr_metro p.1 p.2 (h p (by simp))).trans (ih _ (fun q hq => h q (by simp [hq])))

theorem State.setMetro_events (s : State) (m : MetroId) (f : Metro → Metro) : SameButEvents s (s.setMetro m f) :=
  ⟨s.router, s.order, s.scores, _, s.objs, rfl, fun _ _ => rfl⟩

theorem State.setScore_events (s : State) (i : ScoreId) (f : Score → Score) : SameButEvents s (s.setScore i f) :=
  ⟨s.router, s.order, _, s.metros, s.objs, rfl, fun _ _ => rfl⟩

theorem State.metroRun_events (s : State) (m : MetroId) (a : Nat) : SameButEvents s (s.metroRun m a) := by
  unfold State.metroRun
  refine (s.wrAll_metro _ ?_).trans (State.setMetro_events _ _ _)
  intro p hp
  simp only [List.mem_cons, List.not_mem_nil, or_false] at hp
  rcases hp with rfl | rfl | rfl | rfl <;> exact metroKey_ob m _ (by decide)

theorem State.metroArm_events (s : State) (m : MetroId) (w : Nat) (a : Bool) : SameButEvents s (s.metroArm m w a) := by
  unfold State.metroArm
  dsimp only
  generalize (if a = true then s.startInstant m w else w) = si
  split
  · exact .refl s
  · split
    · refine (s.wrAll_metro _ ?_).trans (State.setMetro_events _ _ _)
      intro p hp
      simp only [List.mem_cons, List.not_mem_nil, or_false] at hp
      rcases hp with rfl | rfl <;> exact metroKey_ob m _ (by decide)
    · exact s.metroRun_events m _

theorem State.metroStart_events (s : State) (m : MetroId) (w : Nat) : SameButEvents s (s.metroStart m w) := by
  unfold State.metroStart
  split
  · exact s.metroArm_events m w true
  · exact .refl s

theorem State.metroRestart_events (s : State) (m : MetroId) (w : Nat) : SameButEvents s (s.metroRestart m w) := by
  unfold State.metroRestart
  split
  · exact .refl s
  · exact s.metroRun_events m w

theorem State.links1_events (s : State) (t : Tenant) (e stamp : Nat) : SameButEvents s (s.links1 t e stamp) := by
  unfold State.links1
  refine SameButEvents.foldl _ (fun s m => ?_) _ s
  split
  · dsimp only
    split
    · exact s.metroRestart_events m _
    · exact s.metroStart_events m _
  · exact .refl s

theorem State.triggers_events (s : State) (t : Tenant) (e : Nat) : SameButEvents s (s.triggers t e) := by
  unfold State.triggers
  refine SameButEvents.foldl _ (fun s i => ?_) _ s
  split
  · exact s.setScore_events i _
  · exact .refl s

theorem State.onEvent_events (s : State) (t : Tenant) (e stamp : Nat) : SameButEvents s (s.onEvent t e stamp) := by
  unfold State.onEvent
  exact SameButEvents.foldl _ (fun s x => (State.notify_same s t x stamp).events) _ _

theorem State.deliverQueue_events (s : State) (t : Tenant) (e stamp : Nat) (d : Octets) :
    SameButEvents s (s.deliverQueue t e stamp d) := by
  unfold State.deliverQueue
  have g := (s.triggers_events t e).trans (State.enqueue_same _ t e stamp d).events
  dsimp only
  split
  · exact g.trans (State.onEvent_events _ t e stamp)
  · exact g

theorem State.deliver_events (s : State) (t : Tenant) (e stamp : Nat) (d : Octets) :
    SameButEvents s (s.deliver t e stamp d) := by
  unfold State.deliver
  exact (s.links1_events t e stamp).trans (State.deliverQueue_events _ t e stamp d)

/-- Raising an event touches the event router, the NVA order, the score triggers and the metronomes only. -/
theorem State.raiseAt_events (s : State) (e : Nat) (to_ : List Tenant) (d : Octets) (stamp : Nat) :
    SameButEvents s (s.raiseAt e to_ d stamp) := by
  unfold State.raiseAt
  dsimp only
  split
  · exact SameButEvents.foldl _ (fun s t => State.deliver_events s t e stamp d) _ s
  · exact ⟨_, s.order, s.scores, s.metros, s.objs, rfl, fun _ _ => rfl⟩

theorem State.raise_events (s : State) (e : Nat) (to_ : List Tenant) (d : Octets) : SameButEvents s (s.raise e to_ d) :=
  s.raiseAt_events e to_ d s.now

@[simp] theorem State.raiseAt_pending (s : State) (e : Nat) (l : List Tenant) (d : Octets) (w : Nat) :
    (s.raiseAt e l d w).pending = s.pending := by
  obtain ⟨_, _, _, _, _, h, _⟩ := s.raiseAt_events e l d w; rw [h]
@[simp] theorem State.raise_pending (s : State) (e : Nat) (l : List Tenant) (d : Octets) :
    (s.raise e l d).pending = s.pending := s.raiseAt_pending e l d s.now
@[simp] theorem State.raiseAt_free (s : State) (e : Nat) (l : List Tenant) (d : Octets) (w : Nat) :
    (s.raiseAt e l d w).free = s.free := by
  obtain ⟨_, _, _, _, _, h, _⟩ := s.raiseAt_events e l d w; rw [h]
@[simp] theorem State.raise_free (s : State) (e : Nat) (l : List Tenant) (d : Octets) :
    (s.raise e l d).free = s.free := s.raiseAt_free e l d s.now
@[simp] theorem State.raiseAt_power (s : State) (e : Nat) (l : List Tenant) (d : Octets) (w : Nat) :
    (s.raiseAt e l d w).power = s.power := by
  obtain ⟨_, _, _, _, _, h, _⟩ := s.raiseAt_events e l d w; rw [h]
@[simp] theorem State.raise_power (s : State) (e : Nat) (l : List Tenant) (d : Octets) :
    (s.raise e l d).power = s.power := s.raiseAt_power e l d s.now
@[simp] theorem State.raiseAt_time (s : State) (e : Nat) (l : List Tenant) (d : Octets) (w : Nat) :
    (s.raiseAt e l d w).time = s.time := by
  obtain ⟨_, _, _, _, _, h, _⟩ := s.raiseAt_events e l d w; rw [h]
@[simp] theorem State.raise_time (s : State) (e : Nat) (l : List Tenant) (d : Octets) :
    (s.raise e l d).time = s.time := s.raiseAt_time e l d s.now
@[simp] theorem State.raiseAt_timers (s : State) (e : Nat) (l : List Tenant) (d : Octets) (w : Nat) :
    (s.raiseAt e l d w).timers = s.timers := by
  obtain ⟨_, _, _, _, _, h, _⟩ := s.raiseAt_events e l d w; rw [h]
@[simp] theorem State.raise_timers (s : State) (e : Nat) (l : List Tenant) (d : Octets) :
    (s.raise e l d).timers = s.timers := s.raiseAt_timers e l d s.now
@[simp] theorem State.raiseAt_nvaObjs (s : State) (e : Nat) (l : List Tenant) (d : Octets) (w : Nat) :
    (s.raiseAt e l d w).nvaObjs = s.nvaObjs := by
  obtain ⟨_, _, _, _, _, h, _⟩ := s.raiseAt_events e l d w; rw [h]
@[simp] theorem State.raise_nvaObjs (s : State) (e : Nat) (l : List Tenant) (d : Octets) :
    (s.raise e l d).nvaObjs = s.nvaObjs := s.raiseAt_nvaObjs e l d s.now
@[simp] theorem State.raiseAt_charges (s : State) (e : Nat) (l : List Tenant) (d : Octets) (w : Nat) :
    (s.raiseAt e l d w).charges = s.charges := by
  obtain ⟨_, _, _, _, _, h, _⟩ := s.raiseAt_events e l d w; rw [h]
@[simp] theorem State.raise_charges (s : State) (e : Nat) (l : List Tenant) (d : Octets) :
    (s.raise e l d).charges = s.charges := s.raiseAt_charges e l d s.now
@[simp] theorem State.raiseAt_ckpt (s : State) (e : Nat) (l : List Tenant) (d : Octets) (w : Nat) :
    (s.raiseAt e l d w).ckpt = s.ckpt := by
  obtain ⟨_, _, _, _, _, h, _⟩ := s.raiseAt_events e l d w; rw [h]
@[simp] theorem State.raise_ckpt (s : State) (e : Nat) (l : List Tenant) (d : Octets) :
    (s.raise e l d).ckpt = s.ckpt := s.raiseAt_ckpt e l d s.now
@[simp] theorem State.raiseAt_retried (s : State) (e : Nat) (l : List Tenant) (d : Octets) (w : Nat) :
    (s.raiseAt e l d w).retried = s.retried := by
  obtain ⟨_, _, _, _, _, h, _⟩ := s.raiseAt_events e l d w; rw [h]
@[simp] theorem State.raise_retried (s : State) (e : Nat) (l : List Tenant) (d : Octets) :
    (s.raise e l d).retried = s.retried := s.raiseAt_retried e l d s.now
@[simp] theorem State.raiseAt_again (s : State) (e : Nat) (l : List Tenant) (d : Octets) (w : Nat) :
    (s.raiseAt e l d w).again = s.again := by
  obtain ⟨_, _, _, _, _, h, _⟩ := s.raiseAt_events e l d w; rw [h]
@[simp] theorem State.raise_again (s : State) (e : Nat) (l : List Tenant) (d : Octets) :
    (s.raise e l d).again = s.again := s.raiseAt_again e l d s.now
@[simp] theorem State.raiseAt_nvaTags (s : State) (e : Nat) (l : List Tenant) (d : Octets) (w : Nat) :
    (s.raiseAt e l d w).nvaTags = s.nvaTags := by
  obtain ⟨_, _, _, _, _, h, _⟩ := s.raiseAt_events e l d w; rw [h]
@[simp] theorem State.raise_nvaTags (s : State) (e : Nat) (l : List Tenant) (d : Octets) :
    (s.raise e l d).nvaTags = s.nvaTags := s.raiseAt_nvaTags e l d s.now
@[simp] theorem State.raiseAt_rst (s : State) (e : Nat) (l : List Tenant) (d : Octets) (w : Nat) :
    (s.raiseAt e l d w).rst = s.rst := by
  obtain ⟨_, _, _, _, _, h, _⟩ := s.raiseAt_events e l d w; rw [h]
@[simp] theorem State.raise_rst (s : State) (e : Nat) (l : List Tenant) (d : Octets) :
    (s.raise e l d).rst = s.rst := s.raiseAt_rst e l d s.now
@[simp] theorem State.raiseAt_links (s : State) (e : Nat) (l : List Tenant) (d : Octets) (w : Nat) :
    (s.raiseAt e l d w).links = s.links := by
  obtain ⟨_, _, _, _, _, h, _⟩ := s.raiseAt_events e l d w; rw [h]
@[simp] theorem State.raise_links (s : State) (e : Nat) (l : List Tenant) (d : Octets) :
    (s.raise e l d).links = s.links := s.raiseAt_links e l d s.now
@[simp] theorem State.raiseAt_svc (s : State) (e : Nat) (l : List Tenant) (d : Octets) (w : Nat) :
    (s.raiseAt e l d w).svc = s.svc := by
  obtain ⟨_, _, _, _, _, h, _⟩ := s.raiseAt_events e l d w; rw [h]
@[simp] theorem State.raise_svc (s : State) (e : Nat) (l : List Tenant) (d : Octets) :
    (s.raise e l d).svc = s.svc := s.raiseAt_svc e l d s.now
@[simp] theorem State.raiseAt_host (s : State) (e : Nat) (l : List Tenant) (d : Octets) (w : Nat) :
    (s.raiseAt e l d w).host = s.host := by
  obtain ⟨_, _, _, _, _, h, _⟩ := s.raiseAt_events e l d w; rw [h]
@[simp] theorem State.raise_host (s : State) (e : Nat) (l : List Tenant) (d : Octets) :
    (s.raise e l d).host = s.host := s.raiseAt_host e l d s.now
@[simp] theorem State.raiseAt_faults (s : State) (e : Nat) (l : List Tenant) (d : Octets) (w : Nat) :
    (s.raiseAt e l d w).faults = s.faults := by
  obtain ⟨_, _, _, _, _, h, _⟩ := s.raiseAt_events e l d w; rw [h]
@[simp] theorem State.raise_faults (s : State) (e : Nat) (l : List Tenant) (d : Octets) :
    (s.raise e l d).faults = s.faults := s.raiseAt_faults e l d s.now
@[simp] theorem State.raiseAt_pins (s : State) (e : Nat) (l : List Tenant) (d : Octets) (w : Nat) :
    (s.raiseAt e l d w).pins = s.pins := by
  obtain ⟨_, _, _, _, _, h, _⟩ := s.raiseAt_events e l d w; rw [h]
@[simp] theorem State.raise_pins (s : State) (e : Nat) (l : List Tenant) (d : Octets) :
    (s.raise e l d).pins = s.pins := s.raiseAt_pins e l d s.now
@[simp] theorem State.raiseAt_voices (s : State) (e : Nat) (l : List Tenant) (d : Octets) (w : Nat) :
    (s.raiseAt e l d w).voices = s.voices := by
  obtain ⟨_, _, _, _, _, h, _⟩ := s.raiseAt_events e l d w; rw [h]
@[simp] theorem State.raise_voices (s : State) (e : Nat) (l : List Tenant) (d : Octets) :
    (s.raise e l d).voices = s.voices := s.raiseAt_voices e l d s.now
@[simp] theorem State.raiseAt_dues (s : State) (e : Nat) (l : List Tenant) (d : Octets) (w : Nat) :
    (s.raiseAt e l d w).dues = s.dues := by
  obtain ⟨_, _, _, _, _, h, _⟩ := s.raiseAt_events e l d w; rw [h]
@[simp] theorem State.raise_dues (s : State) (e : Nat) (l : List Tenant) (d : Octets) :
    (s.raise e l d).dues = s.dues := s.raiseAt_dues e l d s.now
@[simp] theorem State.raiseAt_tags (s : State) (e : Nat) (l : List Tenant) (d : Octets) (w : Nat) :
    (s.raiseAt e l d w).tags = s.tags := by
  obtain ⟨_, _, _, _, _, h, _⟩ := s.raiseAt_events e l d w; rw [h]
@[simp] theorem State.raise_tags (s : State) (e : Nat) (l : List Tenant) (d : Octets) :
    (s.raise e l d).tags = s.tags := s.raiseAt_tags e l d s.now
@[simp] theorem State.raiseAt_crypto (s : State) (e : Nat) (l : List Tenant) (d : Octets) (w : Nat) :
    (s.raiseAt e l d w).crypto = s.crypto := by
  obtain ⟨_, _, _, _, _, h, _⟩ := s.raiseAt_events e l d w; rw [h]
@[simp] theorem State.raise_crypto (s : State) (e : Nat) (l : List Tenant) (d : Octets) :
    (s.raise e l d).crypto = s.crypto := s.raiseAt_crypto e l d s.now
@[simp] theorem State.raiseAt_keys (s : State) (e : Nat) (l : List Tenant) (d : Octets) (w : Nat) :
    (s.raiseAt e l d w).keys = s.keys := by
  obtain ⟨_, _, _, _, _, h, _⟩ := s.raiseAt_events e l d w; rw [h]
@[simp] theorem State.raise_keys (s : State) (e : Nat) (l : List Tenant) (d : Octets) :
    (s.raise e l d).keys = s.keys := s.raiseAt_keys e l d s.now
@[simp] theorem State.raiseAt_cal (s : State) (e : Nat) (l : List Tenant) (d : Octets) (w : Nat) :
    (s.raiseAt e l d w).cal = s.cal := by
  obtain ⟨_, _, _, _, _, h, _⟩ := s.raiseAt_events e l d w; rw [h]
@[simp] theorem State.raise_cal (s : State) (e : Nat) (l : List Tenant) (d : Octets) :
    (s.raise e l d).cal = s.cal := s.raiseAt_cal e l d s.now
@[simp] theorem State.raiseAt_air (s : State) (e : Nat) (l : List Tenant) (d : Octets) (w : Nat) :
    (s.raiseAt e l d w).air = s.air := by
  obtain ⟨_, _, _, _, _, h, _⟩ := s.raiseAt_events e l d w; rw [h]
@[simp] theorem State.raise_air (s : State) (e : Nat) (l : List Tenant) (d : Octets) :
    (s.raise e l d).air = s.air := s.raiseAt_air e l d s.now
@[simp] theorem State.raiseAt_mac (s : State) (e : Nat) (l : List Tenant) (d : Octets) (w : Nat) :
    (s.raiseAt e l d w).mac = s.mac := by
  obtain ⟨_, _, _, _, _, h, _⟩ := s.raiseAt_events e l d w; rw [h]
@[simp] theorem State.raise_mac (s : State) (e : Nat) (l : List Tenant) (d : Octets) :
    (s.raise e l d).mac = s.mac := s.raiseAt_mac e l d s.now
@[simp] theorem State.raiseAt_line (s : State) (e : Nat) (l : List Tenant) (d : Octets) (w : Nat) :
    (s.raiseAt e l d w).line = s.line := by
  obtain ⟨_, _, _, _, _, h, _⟩ := s.raiseAt_events e l d w; rw [h]
@[simp] theorem State.raise_line (s : State) (e : Nat) (l : List Tenant) (d : Octets) :
    (s.raise e l d).line = s.line := s.raiseAt_line e l d s.now
@[simp] theorem State.raiseAt_pocket (s : State) (e : Nat) (l : List Tenant) (d : Octets) (w : Nat) :
    (s.raiseAt e l d w).pocket = s.pocket := by
  obtain ⟨_, _, _, _, _, h, _⟩ := s.raiseAt_events e l d w; rw [h]
@[simp] theorem State.raise_pocket (s : State) (e : Nat) (l : List Tenant) (d : Octets) :
    (s.raise e l d).pocket = s.pocket := s.raiseAt_pocket e l d s.now
/-- An event leaves every object but the metronomes'. -/
theorem State.rd_raiseAt (s : State) (e : Nat) (l : List Tenant) (d : Octets) (w k : Nat) (hk : metroKey k = false) :
    (s.raiseAt e l d w).rd k = s.rd k := by
  obtain ⟨_, _, _, _, _, _, h⟩ := s.raiseAt_events e l d w
  exact h k hk

theorem State.rd_raise (s : State) (e : Nat) (l : List Tenant) (d : Octets) (k : Nat) (hk : metroKey k = false) :
    (s.raise e l d).rd k = s.rd k := s.rd_raiseAt e l d s.now k hk

/-! ### The frames of the statements -/

theorem SameButRouter.changes {s t : State} (h : SameButRouter s t) : Changes [.router, .order] [] s t := by
  obtain ⟨r, o, rfl⟩ := h
  refine ⟨rfl, fun p hp => ?_, fun k _ => rfl⟩
  cases p <;> first | rfl | simp at hp

theorem SameButEvents.only {s t : State} (h : SameButEvents s t) : EventOnly s t := by
  obtain ⟨r, o, sc, m, ob, rfl, hk⟩ := h
  refine ⟨rfl, fun p hp => ?_, fun k hm => hk k hm⟩
  cases p <;> first | rfl | simp at hp

theorem Part.same_trans {p : Part} {s t u : State} (h : p.same s t) (g : p.same t u) : p.same s u := by
  cases p <;> exact Eq.trans g h

theorem Changes.refl (s : State) : Changes [] [] s s := ⟨rfl, fun p _ => by cases p <;> rfl, fun _ _ => rfl⟩

/-- Two changes in a row change what either may change. -/
theorem Changes.trans {ps qs : List Part} {ks js : List Nat} {s t u : State} (h : Changes ps ks s t)
    (g : Changes qs js t u) : Changes (ps ++ qs) (ks ++ js) s u := by
  refine ⟨g.1.trans h.1, fun p hp => ?_, fun k hk => ?_⟩
  · simp only [List.mem_append, not_or] at hp
    exact Part.same_trans (h.2.1 p hp.1) (g.2.1 p hp.2)
  · simp only [List.mem_append, not_or] at hk
    exact (g.2.2 k hk.2).trans (h.2.2 k hk.1)

/-- A frame may be widened. -/
theorem Changes.mono {ps qs : List Part} {ks js : List Nat} {s t : State} (h : Changes ps ks s t) (hp : ∀ p ∈ ps, p ∈ qs)
    (hk : ∀ k ∈ ks, k ∈ js) : Changes qs js s t :=
  ⟨h.1, fun p hq => h.2.1 p (fun e => hq (hp p e)), fun k hj => h.2.2 k (fun e => hj (hk k e))⟩

theorem State.settle_changes (s : State) : Changes [.router, .order] [] s s.settle := s.settle_same.changes

theorem State.raise_only (s : State) (e : Nat) (l : List Tenant) (d : Octets) : EventOnly s (s.raise e l d) :=
  (s.raise_events e l d).only

theorem State.wr_changes (s : State) (k v : Nat) : Changes [] [k] s (s.wr k v) := by
  refine ⟨rfl, fun p _ => by cases p <;> rfl, fun j hj => State.rd_wr_other s v (by simpa using hj)⟩

/-- Stores in order change the keys that they name. -/
theorem State.wrAll_changes (s : State) (l : List (Nat × Nat)) : Changes [] (l.map (·.1)) s (s.wrAll l) := by
  refine ⟨by simp, fun p _ => by rw [State.wrAll_eq]; cases p <;> rfl, fun j hj => State.rd_wrAll_other l s j ?_⟩
  intro p hp e
  exact hj (List.mem_map.2 ⟨p, hp, e.symm⟩)

theorem State.add_changes (s : State) (k n : Nat) : Changes [] [k] s (s.add k n) := by
  unfold State.add; split <;> exact s.wr_changes k _

theorem State.inc_changes (s : State) (k : Nat) : Changes [] [k] s (s.inc k) := s.add_changes k 1

theorem State.arm_changes (s : State) (tm : Timer) (due : Nat) : Changes [.timers] [] s (s.arm tm due) := by
  refine ⟨rfl, fun p hp => ?_, fun _ _ => rfl⟩
  cases p <;> first | rfl | simp at hp

theorem State.cancel_changes (s : State) (tm : Timer) : Changes [.timers] [] s (s.cancel tm) := by
  refine ⟨rfl, fun p hp => ?_, fun _ _ => rfl⟩
  cases p <;> first | rfl | simp at hp

theorem State.commit_changes (s : State) (c : Commit) : Changes [.order] [] s (s.commit c) := by
  refine ⟨by simp, fun p hp => ?_, fun _ _ => by simp⟩
  cases p <;> first | (simp at hp; done) | simp [Part.same]

theorem State.setVoice_changes (s : State) (v : VoiceId) (f : Voice → Voice) : Changes [.voices] [] s (s.setVoice v f) := by
  refine ⟨rfl, fun p hp => ?_, fun _ _ => rfl⟩
  cases p <;> first | rfl | simp at hp

theorem State.setMetro_changes (s : State) (m : MetroId) (f : Metro → Metro) : Changes [.metros] [] s (s.setMetro m f) := by
  refine ⟨rfl, fun p hp => ?_, fun _ _ => rfl⟩
  cases p <;> first | rfl | simp at hp

theorem State.setScore_changes (s : State) (i : ScoreId) (f : Score → Score) : Changes [.scores] [] s (s.setScore i f) := by
  refine ⟨rfl, fun p hp => ?_, fun _ _ => rfl⟩
  cases p <;> first | rfl | simp at hp

theorem State.setBox_changes (s : State) (t : Tenant) (f : Mailbox → Mailbox) : Changes [.router] [] s (s.setBox t f) := by
  refine ⟨rfl, fun p hp => ?_, fun _ _ => rfl⟩
  cases p <;> first | rfl | simp at hp

theorem State.setQueue_changes (s : State) (t : Tenant) (f : List Job → List Job) : Changes [.svc] [] s (s.setQueue t f) := by
  refine ⟨rfl, fun p hp => ?_, fun _ _ => rfl⟩
  cases p <;> first | rfl | simp at hp

end Sys2Proof.Machine
end

