-- ==== Sys2Proof/Laws/Mem.lean ====
section
/-! SUPPORT. The laws of the byte memory that holds the pocket die's mailbox: read after store, every other address unchanged,
programming only clears bits, and every operation keeps the canonical form. -/

namespace Sys2Proof.Machine

theorem Mem.read_erase1_self (m : Mem) (a : Nat) : Mem.read (Mem.erase1 m a) a = Mem.erased := by
  induction m with
  | nil => rfl
  | cons c m ih =>
    obtain ⟨b, v⟩ := c
    by_cases h : b = a
    · simp [Mem.erase1, h, ih]
    · simp [Mem.erase1, h, Mem.read, ih]

theorem Mem.read_erase1_other (m : Mem) {a j : Nat} (h : j ≠ a) : Mem.read (Mem.erase1 m a) j = Mem.read m j := by
  induction m with
  | nil => rfl
  | cons c m ih =>
    obtain ⟨b, v⟩ := c
    by_cases h1 : b = a
    · have h2 : ¬ a = j := fun e => h e.symm
      simp [Mem.erase1, Mem.read, h1, ih, h2]
    · by_cases h2 : b = j
      · simp [Mem.erase1, Mem.read, h2, h]
      · simp [Mem.erase1, h1, Mem.read, h2, ih]

theorem Mem.read_ins_self (m : Mem) (a : Nat) (v : Byte) (h : ∀ c ∈ m, c.1 ≠ a) : Mem.read (Mem.ins m a v) a = v := by
  induction m with
  | nil => simp [Mem.ins, Mem.read]
  | cons c m ih =>
    obtain ⟨b, w⟩ := c
    have hb : b ≠ a := h (b, w) (by simp)
    by_cases h3 : a < b
    · simp [Mem.ins, h3, Mem.read]
    · simp [Mem.ins, h3, Mem.read, hb, ih (fun c hc => h c (by simp [hc]))]

theorem Mem.read_ins_other (m : Mem) {a j : Nat} (v : Byte) (h : j ≠ a) : Mem.read (Mem.ins m a v) j = Mem.read m j := by
  induction m with
  | nil => simp [Mem.ins, Mem.read]; intro e; exact absurd e.symm h
  | cons c m ih =>
    obtain ⟨b, w⟩ := c
    by_cases h3 : a < b
    · simp only [Mem.ins, h3, if_true, Mem.read]
      rw [if_neg (fun e => h e.symm)]
    · by_cases h2 : b = j
      · rw [Mem.ins, if_neg h3, Mem.read, Mem.read, if_pos h2, if_pos h2]
      · simp [Mem.ins, h3, Mem.read, h2, ih]

theorem Mem.erase1_no_key (m : Mem) (a : Nat) : ∀ c ∈ Mem.erase1 m a, c.1 ≠ a := by
  induction m with
  | nil => simp [Mem.erase1]
  | cons c m ih =>
    obtain ⟨b, w⟩ := c
    by_cases h : b = a
    · simpa [Mem.erase1, h] using ih
    · simp only [Mem.erase1, h, if_false, List.mem_cons]
      rintro c (rfl | hc)
      · exact h
      · exact ih c hc

/-- An address reads what was stored in it. -/
@[simp] theorem Mem.read_store_self (m : Mem) (a : Nat) (v : Byte) : Mem.read (Mem.store m a v) a = v := by
  unfold Mem.store
  split
  · next h => rw [Mem.read_erase1_self, h]
  · exact Mem.read_ins_self _ _ _ (Mem.erase1_no_key m a)

/-- A store leaves every other address as it was. -/
theorem Mem.read_store_other (m : Mem) {a j : Nat} (v : Byte) (h : j ≠ a) :
    Mem.read (Mem.store m a v) j = Mem.read m j := by
  unfold Mem.store
  split
  · exact Mem.read_erase1_other m h
  · rw [Mem.read_ins_other _ v h, Mem.read_erase1_other m h]

/-- Programming only clears bits. -/
@[simp] theorem Mem.read_program_self (m : Mem) (a : Nat) (v : Byte) :
    Mem.read (Mem.program m a v) a = Mem.read m a &&& v := Mem.read_store_self _ _ _

theorem Mem.read_program_other (m : Mem) {a j : Nat} (v : Byte) (h : j ≠ a) :
    Mem.read (Mem.program m a v) j = Mem.read m j := Mem.read_store_other m _ h

/-- Programming a run of bytes leaves the addresses outside it as they were. -/
theorem Mem.read_programAll_other (bs : Octets) (m : Mem) (a j : Nat) (h : j < a ∨ a + bs.length ≤ j) :
    Mem.read (Mem.programAll m a bs) j = Mem.read m j := by
  induction bs generalizing m a with
  | nil => rfl
  | cons b bs ih =>
    simp only [Mem.programAll, List.length_cons] at *
    rw [ih _ _ (by omega), Mem.read_program_other m b (by omega)]

/-! ### The canonical form -/

theorem Mem.wfFrom_lower (m : Mem) {a b : Nat} (hab : a ≤ b) (h : Mem.wfFrom (some b) m = true) :
    Mem.wfFrom (some a) m = true := by
  cases m with
  | nil => rfl
  | cons c m =>
    obtain ⟨k, v⟩ := c
    simp [Mem.wfFrom] at h ⊢
    exact ⟨⟨by omega, h.1.2⟩, h.2⟩

theorem Mem.wfFrom_weaken (m : Mem) {lo : Option Nat} (h : Mem.wfFrom lo m = true) : Mem.wfFrom none m = true := by
  cases m with
  | nil => rfl
  | cons c m => obtain ⟨k, v⟩ := c; simp [Mem.wfFrom] at h ⊢; exact ⟨h.1.2, h.2⟩

theorem Mem.wfFrom_skip (m : Mem) {a : Nat} {lo : Option Nat} (hlo : ∀ b, lo = some b → b ≤ a)
    (h : Mem.wfFrom (some a) m = true) : Mem.wfFrom lo m = true := by
  cases lo with
  | none => exact Mem.wfFrom_weaken m h
  | some b => exact Mem.wfFrom_lower m (hlo b rfl) h

theorem Mem.wfFrom_erase1 (m : Mem) (a : Nat) (lo : Option Nat) (h : Mem.wfFrom lo m = true) :
    Mem.wfFrom lo (Mem.erase1 m a) = true := by
  induction m generalizing lo with
  | nil => rfl
  | cons c m ih =>
    obtain ⟨b, v⟩ := c
    have h' := h
    simp [Mem.wfFrom] at h'
    by_cases h1 : b = a
    · simp only [Mem.erase1, h1, if_true]
      refine ih _ (Mem.wfFrom_skip m (a := b) ?_ h'.2)
      intro x hx; subst hx; simp at h'; omega
    · simp only [Mem.erase1, h1, if_false]
      simp [Mem.wfFrom]
      exact ⟨h'.1, ih _ h'.2⟩

theorem Mem.wfFrom_ins (m : Mem) (a : Nat) (v : Byte) (hv : v ≠ Mem.erased) (lo : Option Nat)
    (hlo : ∀ b, lo = some b → b < a) (hk : ∀ c ∈ m, c.1 ≠ a) (h : Mem.wfFrom lo m = true) :
    Mem.wfFrom lo (Mem.ins m a v) = true := by
  induction m generalizing lo with
  | nil =>
    cases lo with
    | none => simp [Mem.ins, Mem.wfFrom, hv]
    | some b => simp [Mem.ins, Mem.wfFrom, hv, hlo b rfl]
  | cons c m ih =>
    obtain ⟨b, w⟩ := c
    have hb : b ≠ a := hk (b, w) (by simp)
    by_cases h3 : a < b
    · cases lo with
      | none => simp [Mem.ins, h3, Mem.wfFrom, hv] at h ⊢; exact h
      | some x => simp [Mem.ins, h3, Mem.wfFrom, hv, hlo x rfl] at h ⊢; exact ⟨h.1.2, h.2⟩
    · simp only [Mem.ins, h3, if_false]
      simp [Mem.wfFrom] at h ⊢
      exact ⟨h.1, ih (some b) (by intro x e; cases e; omega) (fun c hc => hk c (by simp [hc])) h.2⟩

/-- A store keeps the canonical form. -/
theorem Mem.wf_store (m : Mem) (a : Nat) (v : Byte) (h : Mem.wf m = true) : Mem.wf (Mem.store m a v) = true := by
  unfold Mem.wf Mem.store at *
  split
  · exact Mem.wfFrom_erase1 m a none h
  · next hv =>
    exact Mem.wfFrom_ins _ a v hv none (by simp) (Mem.erase1_no_key m a) (Mem.wfFrom_erase1 m a none h)

/-- Programming keeps the canonical form. -/
theorem Mem.wf_program (m : Mem) (a : Nat) (v : Byte) (h : Mem.wf m = true) : Mem.wf (Mem.program m a v) = true :=
  Mem.wf_store m a _ h

/-- Programming a run of bytes keeps the canonical form. -/
theorem Mem.wf_programAll (bs : Octets) (m : Mem) (a : Nat) (h : Mem.wf m = true) :
    Mem.wf (Mem.programAll m a bs) = true := by
  induction bs generalizing m a with
  | nil => exact h
  | cons b bs ih => exact ih _ _ (Mem.wf_program m a b h)

theorem Mem.wfFrom_filter (m : Mem) (p : Host.Cell → Bool) (lo : Option Nat) (h : Mem.wfFrom lo m = true) :
    Mem.wfFrom lo (m.filter p) = true := by
  induction m generalizing lo with
  | nil => rfl
  | cons c m ih =>
    obtain ⟨b, v⟩ := c
    have h' := h
    simp [Mem.wfFrom] at h'
    by_cases hp : p (b, v) = true
    · simp only [List.filter, hp]
      simp [Mem.wfFrom]
      exact ⟨h'.1, ih _ h'.2⟩
    · simp only [List.filter, hp]
      refine ih _ (Mem.wfFrom_skip m (a := b) ?_ h'.2)
      intro x hx; subst hx; simp at h'; omega

/-- Erasing a run of bytes keeps the canonical form. -/
theorem Mem.wf_eraseAll (m : Mem) (a n : Nat) (h : Mem.wf m = true) : Mem.wf (Mem.eraseAll m a n) = true :=
  Mem.wfFrom_filter m _ none h

/-- The erased memory is canonical. -/
@[simp] theorem Mem.wf_nil : Mem.wf [] = true := rfl

end Sys2Proof.Machine
end

