-- ==== Sys2Proof/WellFormed.lean ====
section
/-! DEFINITION. Which operands a command may carry: what cannot come from the wire, the air or a table is ill formed. -/

namespace Sys2Proof

/-- An address within its width. -/
def Addr.ok : Addr → Bool
  | .short a => decide (a < 2 ^ 16)
  | .ext a => decide (a < 2 ^ 64)

/-- A PSDU that the 11 bits of a PHR's length field can announce. -/
def AirIn.ok (f : AirIn) : Bool := decide (f.psdu.length < 2048)

/-- A sample that a 12-bit converter can give (R84). -/
def Sample.ok (x : Sample) : Bool := decide (x.i.natAbs ≤ 2047) && decide (x.q.natAbs ≤ 2047)

/-- A cell of such samples. -/
def Cell.ok (c : Cell) : Bool := c.first.all Sample.ok && c.second.all Sample.ok

/-- A line frame of at least one byte. -/
def LineIn.ok (f : LineIn) : Bool := decide (0 < f.bytes.length) && decide (f.rate ≤ 3)

/-- A short APDU: a header of four bytes and at most 257 more (ISO/IEC 7816-4). -/
def apduOk (b : Octets) : Bool := decide (4 ≤ b.length) && decide (b.length ≤ 261)

/-- A link header word with as many payload bytes as its length field gives words of four (Table 20-1). -/
def headOk (h : Nat) (payload : Octets) : Bool := decide (h < 2 ^ 32) && decide (payload.length = 4 * (h % 128))

/-- Whether a command's operands are ones that its surroundings can supply. -/
def WellFormed (i : Instr) : Bool :=
  match i with
  | .wake source => decide (source < 256)
  | .replyStart _ _ before lead sof => before.all Sample.ok && lead.all Cell.ok && sof.all Cell.ok
  | .replyFrameEnd _ frame => frame.cells.all Cell.ok
  | .keySuspensionEnd slot => decide (slot < 64)
  | .airRxFrameEnd frame _ => frame.ok
  | .cueWordReceived word => decide (word.length = 4)
  | .childExpired child => decide (child < 65536)
  | .routeLapse dest => decide (dest < 65536)
  | .linePollReceived frame => frame.ok
  | .lineEmptyReceived frame => frame.ok
  | .lineDataReceived frame => frame.ok
  | .lineAckReceived frame => frame.ok
  | .lineNakReceived frame => frame.ok
  | .lineTimeReceived frame => frame.ok
  | .linePresenceReceived frame => frame.ok
  | .searchStartReceived frame => frame.ok
  | .searchPassReceived frame => frame.ok
  | .searchEndReceived frame => frame.ok
  | .assignReceived frame => frame.ok
  | .walkProbeReceived frame _ => frame.ok
  | .walkTallyReceived frame => frame.ok
  | .isolateReceived frame => frame.ok
  | .reconnectReceived frame => frame.ok
  | .pocketSelect uid => decide (uid.length = 4)
  | .selectByName apdu => apduOk apdu
  | .getInfo apdu _ => apduOk apdu
  | .read apdu => apduOk apdu
  | .readRaw apdu => apduOk apdu
  | .write apdu _ => apduOk apdu
  | .authBegin apdu _ => apduOk apdu
  | .authFinish apdu _ => apduOk apdu
  | .getCert apdu => apduOk apdu
  | .keyExchangeAgree apdu => apduOk apdu
  | .keyExchangeConfirm apdu _ => apduOk apdu
  | .dictRead apdu => apduOk apdu
  | .dictWrite apdu => apduOk apdu
  | .resetRequest apdu => apduOk apdu
  | .endSession apdu => apduOk apdu
  | .subscriptionIntervalEnd _ entry => decide (entry < 16)
  | .faultRaise source _ detail => decide (source < 192) && decide (detail < 2 ^ 32)
  | .linkRequest _ header payload => headOk header payload
  | .linkReply _ header payload => headOk header payload
  | .linkReject _ header => decide (header < 2 ^ 32)
  | .linkNotify _ header payload => headOk header payload
  | .alive _ epoch => decide (epoch < 256)
  | .resync _ epoch => decide (epoch < 256)
  | .powerOn _ _ | .brownout _ _ | .resetNLow _ | .resetRelease _ | .conductorStart _ | .resetRequestTenant _ |
    .resetRequestField _ | .resetRequestAir _ | .resetRequestLine _ | .resetRequestPocket _ |
    .resetRequestConductor _ | .resetRequestWarm _ | .resetRequestChip _ | .blockResetBitsWrite _ | .vlinePresent _ |
    .vlineLost _ | .vioPresent _ | .vioLost _ | .vbatSample _ | .shedEnd _ | .energyHourlyUpdate _ _ | .newPack _ |
    .temperatureReading _ | .temperatureTermWrite _ | .disciplineSettingWrite _ | .fieldWindowComplete _ |
    .tempoMeasurement _ | .scoreTrigger _ | .scoreStartCommand _ | .scoreStopCommand _ | .stepRecordWrite _ |
    .voiceGrant _ | .stepDeadlineExpired _ _ | .waitStepElapsed _ _ | .channelSelected _ | .boostReady _ |
    .boostStopDone _ | .vfldOvervoltage _ | .vfldUndervoltage _ | .rampUpDone _ | .settleElapsed _ _ | .slewDone _ |
    .rampDownDone _ _ | .floorDwellElapsed _ | .voiceOvercurrent _ _ | .voiceEnableWrite _ | .couplingMapWrite _ |
    .requestFrameStart _ | .requestFrameEnd _ | .separateEofDue _ | .responseWindowClose _ |
    .wtxBudgetExpired _ | .cardProbe _ _ | .tuningStart _ | .tuningRevert _ | .tuningAbort _ | .tuningFirstRunDone _ |
    .tuningRepeatDone _ | .autoTuningStart _ _ | .antBackgroundWindow _ | .offsetBackgroundWindow _ _ |
    .iqBackgroundWindow _ _ | .gainBackgroundWindow _ _ | .sliceBackgroundWindow _ | .sliceRetirement _ |
    .refEdgeTimeout _ | .refGateEnd _ _ | .airClockCheck _ | .airSfdFound _ | .preambleTimeout _ | .sealRequest _ |
    .sealConfirm _ | .sealWriteDone _ | .synEntryRunDone _ | .paGainWrite _ | .cueListen _ | .lbtListenEnd _ |
    .homeChannelChangeRequest _ | .indirectExpired _ | .cueDelayExpired _ | .cueRetryDue _ | .meshDupLapse _ |
    .reportRetryDue _ | .meshAddressRelease _ | .headSearchPass _ | .headWalk _ | .lineOvercurrent _ | .searchNow _ |
    .walkNow _ | .isolateCommand _ | .reconnectCommand _ | .lineAddressRelease _ | .pocketHarvestReady _ |
    .pocketVstReset _ | .pocketReqa _ | .pocketCommitDone _ | .serviceRead _ | .serviceWrite _ | .blockOpen _ |
    .blockData _ | .blockClose _ | .subscribe _ | .unsubscribe _ | .describe _ | .next _ | .nvaCommitDone _ _ |
    .blockLapse _ | .submit _ | .fetchReply _ | .fetchEvent _ | .status _ | .tenantCreate _ | .tenantDelete _ |
    .tenantDeletionComplete _ | .tenantReset _ | .tenantResetComplete _ | .allotmentWrite _ | .keyImport _ |
    .keyErase _ | .imageBegin _ | .imageWindowWrite _ | .imageVerify _ | .imageActivate _ | .imageConfirm _ |
    .imageAbort _ | .imageRevert _ | .metronomeStart _ | .metronomeStop _ | .metronomeRestart _ |
    .metronomeStartInstant _ | .metronomeCompare _ | .metronomeZero _ | .metronomeTop _ | .periodBufferWrite _ |
    .compareWrite _ | .strideWrite _ | .faultAcknowledge _ | .handlingWindowExpired _ | .faultClear _ |
    .reactionWrite _ | .linkStartWorkDone _ | .aliveTimeout _ | .linkWordTimeout _ | .resyncInterval _ |
    .gpConfigWrite _ | .responseWindowOpen _ | .sourceEligibilityLapse _ | .supplyLoss | .resetApply |
    .pocketDieRelease | .airDieRelease | .lineDieRelease | .fieldDieRelease | .startUpComplete | .startTimeout |
    .vbatMinuteEnd | .restEntry | .osc27RestartDone | .energyReport | .checkpointDue | .networkOffsetLapse |
    .boostStartTimeout | .boostSlewTimeout | .boostHoldOffExpired | .cryptoJobDone | .cueHourlyCheck |
    .airStartRequest | .airReady | .airStopRequest | .airEnergyDetect | .airTxRequest | .paSupplySettled |
    .biasSettled | .synLockDone | .synLockTimeout | .paRampUpDone | .airTxLastBit | .paRampDownDone | .xpaEnOffDue |
    .dischargeElapsed | .offSequenceComplete | .synHoldExpired | .sealWindowExpired | .ledgerBinRollover |
    .autoSynRetune | .cueGiveUp | .cueStopDone | .macFrameSend | .backoffExpired | .immAckDue | .immAckReceived |
    .ackWaitClosed | .macFrameReceived | .poll | .time | .joinRequest | .joinAccept | .joinDeny | .mesh |
    .joinScanEnd | .joinTimeout | .joinRetry | .coordinatorConflictLapse | .slotBoundary | .timeBroadcastDue |
    .unsynchronised | .unsyncScanTimeout | .homeChannelSwitch | .pollIntervalExpired | .pendingWaitExpired |
    .syncTimeInsert | .headPollCycle | .lineReplyDue | .lineReplyWindowClose | .lineTimeDue | .presenceDue |
    .presenceSeen | .bypassOpenDue | .addressHoldExpired | .foreignDip | .headConflictLapse | .lineOffHoldEnd |
    .fieldOn | .fieldOff | .pocketHlta | .pocketRats | .pocketPps | .pocketDeselect | .pocketIdleTimeout |
    .bridgeWtxDue | .bridgeTimeout | .serviceRequestArrival | .nvaCommitRetry | .hostPortSelect | .imageVerifyDone |
    .activateQuiesced | .trialWindowExpired | .trialAirReadyTimeout | .faultCopyRefresh | .xpaEnOnDue |
    .lineOvercurrentLapse => true

end Sys2Proof
end

