-- ==== Sys2Proof/Tests/Slice0.lean ====
section
/-! SUPPORT. The model's own tests: effects with the values of the spec's worked cases, operands that are refused as ill formed, and for
every statement a state and operands that meet its premises, clause by clause. -/

namespace Sys2Proof.Tests
open Sys2Proof Sys2Proof.Machine

/-! ### Small states -/

/-- A request of T0 through the host port: a WRITE. -/
def jb (i sub off : Nat) (v : Octets) : Job :=
  { id := 1, req := { transport := .host, peer := 0, counter := 0, key := [], code := 0x82, tag := 5, op := .write i sub off v },
    phase := .waiting }

/-- Any request of T0 through the host port. -/
def jq (op : Op) : Job :=
  { id := 1, req := { transport := .host, peer := 0, counter := 0, key := [], code := 0x81, tag := 5, op := op }, phase := .waiting }

/-- The machine up and Running, every link ready. -/
def up : State :=
  { State.reset with
    objs := [(ob 0x1020 1, 1), (ob 0x7501 1, 2), (ob 0x7502 1, 2), (ob 0x7503 1, 2), (ob 0x7504 1, 2)]
    rst := { State.reset.rst with conductor := .running } }

/-- The machine up with object values. -/
def O (l : List (Nat × Nat)) : State := up.wrAll l

/-- A state with one request of T0 waiting, the WRITE of `jb`. -/
def req (s : State) (i sub off : Nat) (v : Octets) : State := { s with svc := { s.svc with queues := s.svc.queues.set 0 [jb i sub off v] } }

/-- A state with one request of T0 waiting. -/
def rq (s : State) (op : Op) : State := { s with svc := { s.svc with queues := s.svc.queues.set 0 [jq op] } }

/-- A state with a timer due. -/
def due (tm : Timer) (s : State) : State := s.arm tm 0

set_option maxRecDepth 100000

/-- An event in a queue. -/
def qe : QEvent := ⟨some 0, 5, 0, [], 0, false⟩

/-- The state after a step that runs. -/
def nx (s : State) : State := match step s with | .next t => t | _ => s

/-- A claim about what an absent value holds. -/
theorem none_all {α : Type} {o : Option α} {P : α → Prop} (h : o.isNone = true) : ∀ c, o = some c → P c := by
  intro c e; subst e; cases h

/-- Settings of a step. -/
def sett : Settings := ⟨0, 0, 0, 0, 0, 0, 0, 0, 0, 0, false⟩

/-- A due step of slot 0 on channel 0. -/
def ds : DueStep := ⟨0, 1, 0, 0, List.replicate 32 0, 0, sett, none, 0, false, false⟩

/-- Its grant. -/
def gr : Grant := ⟨ds, 0x1000, 0, 0, 100, 100, 0, false, 0, false⟩

/-- The voice 3 changed. -/
def vo (s : State) (f : Voice → Voice) : State := s.setVoice 3 f

/-- A reset that waits. -/
def pnd (kind : Nat) (r : Reach) : Pending := ⟨0, r, 6, kind, 0, 0, none⟩

/-- The machine up, at 100 µs of device time. -/
def late (s : State) : State := { s with time := { s.time with count := 100 * 2 ^ 24 } }

/-- The state after a voice has chosen. -/
def chosen (s : State) (v : VoiceId) : State := (s.choose v ((s.dueOrder v).filter (fun d => !s.tuningBlocked d))).2

/-- The machine at an instant of device time. -/
def att (us : Nat) (s : State) : State := { s with time := { s.time with count := us * 2 ^ 24 } }

/-- A frame with a window. -/
def fr (w : Window) : Frame := ⟨[], 0, false, true, false, false, w, .nothing, none, 0⟩

/-- An exchange at a stage with a frame. -/
def ex (a : OnAir) (f : Frame) : Exchange :=
  { prog := .idle, frame := f, air := a, ref := 0, gap := 0, range := 0, opened := 0, acq := 0, phase := 0, noise := none,
    shortNoise := false, rx := Reception.blank, quality := [], status := 0, detail := 0, stamp := 0, count := 0, rounds := 0,
    full := false, marginOk := false, refreshed := [], modulated := false, latch := [] }

/-- A received tag frame without cells. -/
def tf : TagFrame := ⟨[], ⟨0, 0, 0, 0, []⟩⟩

/-- A block exchange. -/
def bx : BlockEx := ⟨[], [], [], 0, 0, 0, none, none, false, false, none⟩

/-- A tuning at a stage. -/
def tun (kind target method stage : Nat) : Tuning := ⟨0, kind, target, method, false, stage, none, none, none, 0⟩

/-- An object value put in its place, whatever its default. -/
def P (k v : Nat) (s : State) : State := { s with objs := s.objs.takeWhile (fun p => p.1 < k) ++ (k, v) :: s.objs.dropWhile (fun p => p.1 ≤ k) }


/-- The machine with the air link up. -/
def ai (s : State) : State := { s with links := s.links.set 1 ⟨1, true, [], [], false⟩ }

/-- The machine up with the air die in a state and object values. -/
def A (st : Nat) (l : List (Nat × Nat)) : State := ai (O ((ob 0x4050 4, st) :: l))

/-- A transmit request of T0. -/
def txq : TxReq := ⟨.ack 0 false 0, 0, false, 0, 1, 0, 100, none, false, 0, 0, 0, 0⟩

/-- The transmission under way. -/
def onTx (s : State) : State := { s with air := { s.air with tx := some txq } }

/-- A data frame received as its octets, as the MAC reads it, and its signal. -/
def af (l : Octets) : AirIn := ⟨false, false, l⟩
def mf : MacIn := ⟨true, 1, 7, 0, false, false, .short 9, .short 5, true, 1, 1, 5, 10, [], [], []⟩
def sig : AirSignal := ⟨-300, 0, 0, 200, 510⟩

/-- A poll with its numbers, and the procedure of it at a stage. -/
def pf : OutFrame := ⟨.poll, .short 0, [], some (7, 1, 1), []⟩
def cs (a : CsmaStage) : Csma := ⟨pf, 0, 0, 3, a⟩

/-- What acceptance makes of a request. -/
def okTx (s : State) (r : TxReq) : TxReq := match s.txCheck r with | .inr q => q | .inl _ => r

/-- The state after a message is taken. -/
def tk (n : Nat) (s : State) : State := match s.takeMessage n with | some x => x.2 | none => s

/-- A message delivered. -/
def dv (a : Addr) (p : Octets) : Delivered := ⟨a, p, [], 0, false⟩

/-- A neighbour with a relation. -/
def nb (a rel : Nat) : Neighbour := ⟨a, 100, rel, 1, 200, 0, 7, 10, 10, 0, 30, 0, 0⟩

/-- The MAC of a state replaced. -/
def M (m : Mac) (s : State) : State := { s with mac := m }

/-- A network key, a frame that carries a message under it from the node 77, as received, and the member that receives it. -/
def nk : Octets := List.replicate 16 1
def good (p : Octets) : RxFrame :=
  ⟨{ mf with src := .ext 77, level := 6, counter := 11, payload := ccmCrypt nk (nonce 77 11 6) p,
             mic := ccmMic nk (nonce 77 11 6) [] p (micLen 6) }, [], 0, 0, 0⟩
def member (r : RxFrame) : State :=
  M { Mac.reset with rx := [r] } { A 2 [(ob 0x4100 1, 0), (ob 0x4100 3, 9)] with keys := { State.reset.keys with slots := [(0x51, nk)] } }

/-- What such a frame's checks see. -/
theorem good_mic (p : Octets) :
    ccmMic nk (nonce 77 11 6) [] (ccmCrypt nk (nonce 77 11 6) (ccmCrypt nk (nonce 77 11 6) p)) (micLen 6) =
      ccmMic nk (nonce 77 11 6) [] p (micLen 6) := by rw [ccmCrypt_ccmCrypt]
theorem good_message (p : Octets) (h : isMessage p = true) :
    isMessage (ccmCrypt nk (nonce 77 11 6) (ccmCrypt nk (nonce 77 11 6) p)) = true := by rw [ccmCrypt_ccmCrypt]; exact h
theorem good_other (p : Octets) (h : isMessage p = false) :
    isMessage (ccmCrypt nk (nonce 77 11 6) (ccmCrypt nk (nonce 77 11 6) p)) = false := by rw [ccmCrypt_ccmCrypt]; exact h

/-- The same member with every place for a node taken by a child. -/
def full (r : RxFrame) : State :=
  M { Mac.reset with rx := [r], neighbours := (List.range 48).map (fun n => nb (100 + n) 1) }
    { A 2 [(ob 0x4100 1, 0), (ob 0x4100 3, 9)] with keys := { State.reset.keys with slots := [(0x51, nk)] } }

/-- A received frame whose sender has a place is heard. -/
def heard (s : State) (r : RxFrame) : State := (s.hear r).getD s

/-- The machine up with the line link up, object values and a line die. -/
def L (l : List (Nat × Nat)) (x : Line) : State := { O l with line := x, links := up.links.set 2 ⟨1, true, [], [], false⟩ }

/-- A frame on the line, well received. -/
def lin (d x ty q : Nat) (b : Bool) (l : Octets) : LineIn := ⟨lineFrame d x ty q b l, true, 0⟩

/-- A frame for the line. -/
def lm (tries : Nat) : LineMsg := ⟨4, 0, [2], 3, tries, none, none, none⟩

/-- The pocket port in its ISO 14443-4 state. -/
def K (l : List (Nat × Nat)) (p : Pocket) : State := { O l with pocket := { p with card := .iso } }

/-- A pocket APDU and its bytes. -/
def wa (cla ins p1 p2 : Nat) (d : Octets) : Apdu := ⟨cla, ins, p1, p2, d, true⟩
def wb (cla ins p1 p2 : Nat) (d : Octets) : Octets := [BitVec.ofNat 8 cla, BitVec.ofNat 8 ins, BitVec.ofNat 8 p1, BitVec.ofNat 8 p2] ++ (match d with | [] => [] | _ => u8 d.length ++ d)

/-- The data of a secured APDU of the session with no keys, by its cipher text. -/
def sd (ins p1 p2 : Nat) (ct : Octets) : Octets := ct ++ (cmac [] (u8 0x94 ++ u8 ins ++ u8 p1 ++ u8 p2 ++ u32 0 ++ ct)).take 8

/-- Bytes turned over are others. -/
theorem flip_ne : ∀ l : Octets, l.length ≠ 0 → l.map (fun x => ~~~x) ≠ l
  | [], h, _ => h rfl
  | x :: l, _, e => by
    have h : ~~~x = x := by simpa using congrArg (·.head?) e
    have g := congrArg (fun b : BitVec 8 => b.getLsbD 0) h
    simp at g

/-- A state with one request of any tenant waiting, the WRITE of `jb`. -/
def reqT (t : Tenant) (s : State) (i sub off : Nat) (v : Octets) : State :=
  { s with svc := { s.svc with queues := s.svc.queues.set t [jb i sub off v] } }

/-! ### Effects, with the values of the spec's worked cases -/

/-- The state after one command from the front of the queue. -/
def one (c : Instr) (s : State) : State := nx { s with pending := [c] }

/-- Chapter 2, step 2: at 11 °C the term is 6,664 ppb and the increment 512,003,412. -/
theorem test_temperature_term :
    (up.setTemp 11).tempTerm = 6664 ∧ (up.setTemp 11).live 0 0x1100 2 = 512003412 := by decide

/-- Chapter 2, step 4: 27,120,339 cycles with a reference error of +1,500 ppb are 11,000 ppb. -/
theorem test_field_creq : fieldCreq 32768 27120339 1500 = 11000 := by decide

/-- Chapter 2, steps 4 and 5, as one command: D becomes 1,084 ppb, the source is FIELD. -/
theorem test_field_window :
    let s := one (.fieldWindowComplete 27120339)
      (P (ob 0x1100 0x0B) 1500 { up with time := { up.time with winTicks := 32768, temp := 11 } })
    s.rdInt (ob 0x1100 4) = 1084 ∧ s.rd (ob 0x1100 8) = 1 := by decide

/-- Chapter 3, steps 1 and 5: 750 mW into 62.0 Ω ask for 8.1 V, 500 mW into 48.0 Ω for 6.0 V. -/
theorem test_vreq : vreqRaw 500 0x6000 620 = 8100 ∧ vreqRaw 500 0x4000 480 = 6000 := by decide

/-- Chapter 8, steps 3 and 4: CP 143 and 146 disagree; the runs of the second attempt agree. -/
theorem test_judge_runs :
    judgeRuns 1 ⟨[143, 88, 476, 0, 305], true⟩ ⟨[146, 88, 481, 0, 312], true⟩ = 1 ∧
    judgeRuns 1 ⟨[145, 88, 476, 0, 305], true⟩ ⟨[144, 88, 481, 0, 312], true⟩ = 0 := by decide

/-- Chapter 9, step 1: the CRC-8 over 3C 71 05 is 0xB7. -/
theorem test_crc8 : crc8 [0x3C, 0x71, 0x05] = 0xB7 := by decide

/-- Chapter 11, step 1: SEARCH_START of 7 bytes has 68 cells, SEARCH_PASS of 16 bytes 140. -/
theorem test_line_cells : lineCells 7 = 68 ∧ lineCells 16 = 140 := by decide

/-- Chapter 13, steps 1 to 4: the READ and the WRITE unit, and the two frames' times in mode 1. -/
theorem test_units :
    (parseUnit .mesh 0 0 [] [0x01, 0x31, 0x00, 0x23, 0x21, 0x0A, 0, 0, 0, 0]).op = .read 0x2123 0x0A 0 0 ∧
    (parseUnit .mesh 0 0 [] [0x02, 0x32, 0x00, 0x23, 0x21, 0x05, 0, 0, 0, 0x60]).op = .write 0x2123 5 0 [0, 0x60] ∧
    octetUs 1 71 = 11360 ∧ octetUs 1 67 = 10720 := by decide

/-- Chapter 4, steps 1, 3 and 6: 9 counts at G2 are −284, 1,850 counts at G1 are −51, and the change to G1 multiplies by 3.990. -/
theorem test_levels : level 9000000 2398 = -284 ∧ level 1850000000 1196 = -51 ∧ rescale 2398 1196 / 1000000000 = 3990 := by decide

/-- Chapter 4, steps 3 and 4: a change at the end of cell 3, and the lock at the end of cell 9, six cells on. -/
theorem test_range_lock :
    let r := [100, 100, 1960, 100, 100, 100, 100, 100, 1912].zipIdx.foldl (fun r p => CellRun.next 1900 380 8 3 p.2 false r p.1)
      ⟨2, 8, 0, 0, false, false, []⟩
    r.range = 1 ∧ r.changes = 1 ∧ r.odd = [3] ∧ r.locked = true ∧ r.clipped = true := by decide

/-- The check value of a CRC-32 over the nine digits (ISO 3309), least octet first. -/
theorem test_fcs4 : fcs4 [0x31, 0x32, 0x33, 0x34, 0x35, 0x36, 0x37, 0x38, 0x39] = [0x26, 0x39, 0xF4, 0xCB] := by decide

/-- Chapter 20, step 2: the header 0x49BC8A82. -/
theorem test_link_header : parseHead 0x49BC8A82 = ⟨1, 1, 0x37, 0x91, 5, 2⟩ := by decide

/-- Chapter 20, step 2: a reply from the field die's old epoch is dropped and counted, its header kept. -/
theorem test_stale_reply :
    let s := one (.linkReply .field 0x49BC8A82 (List.replicate 8 0))
      { up with links := up.links.set 0 ⟨0x92, true, [], [], false⟩ }
    s.rd (ob 0x7501 6) = 1 ∧ s.rd (ob 0x7501 0x0C) = 0x49BC8A82 := by decide

/-- Chapter 21, steps 6 and 7: 27,420 mWh and 6,886 days remain. -/
theorem test_pack :
    let s := (att 2592000000000 (O [(ob 0x1070 1, 339552000), (ob 0x1070 9, 131), (ob 0x1070 10, 30600)])).packWrite
    s.rd (ob 0x1070 13) = 27420 ∧ s.rd (ob 0x1070 14) = 6886 := by decide

/-- R341: REQA to an idle card is answered 04 00 (its ATQA), and the card is READY. -/
theorem test_reqa :
    (one (.pocketReqa false) { up with pocket := { Pocket.reset with card := .idle } }).pocket.card = .ready := by decide

/-- Table 13-12 by a WRITE in order: the value of 0x1061.01 is there after SERVICE_WRITE, and the request left the queue's head. -/
theorem test_write :
    (one (.serviceWrite 0) (req up 0x1061 1 0 (u16 3000))).rd (ob 0x1061 1) = 3000 := by decide

/-- R609: a VBAT above its rating is the one fault. -/
theorem test_ratings : step { up with pending := [.vbatSample 4501] } = .fault .beyondRatings := rfl

/-- An empty queue lets time pass: a tick interpolated into cycles while Running. -/
theorem test_time : (nx up).time.cycles = 1 := by decide

/-! ### Ill-formed operands are refused -/

/-- One ill-formed term for each check of a command's own operands. -/
theorem test_ill_formed :
    WellFormed (.wake 256) = false ∧ WellFormed (.replyFrameEnd 0 ⟨[⟨[⟨2048, 0⟩], []⟩], ⟨0, 0, 0, 0, []⟩⟩) = false ∧
    WellFormed (.replyStart 0 0 [⟨0, -2048⟩] [] []) = false ∧ WellFormed (.replyStart 0 0 [] [] [⟨[], [⟨2048, 0⟩]⟩]) = false ∧
    WellFormed (.replyStart 0 0 [] [⟨[⟨2048, 0⟩], []⟩] []) = false ∧
    WellFormed (.keySuspensionEnd 64) = false ∧ WellFormed (.airRxFrameEnd (af (List.replicate 2048 0)) sig) = false ∧
    WellFormed (.cueWordReceived [1, 2, 3]) = false ∧ WellFormed (.childExpired 65536) = false ∧
    WellFormed (.routeLapse 65536) = false ∧ WellFormed (.pocketSelect [1, 2, 3]) = false ∧
    WellFormed (.subscriptionIntervalEnd 0 16) = false ∧ WellFormed (.faultRaise 192 0 0) = false ∧
    WellFormed (.linkRequest .air 0 [1]) = false ∧ WellFormed (.linkReply .air 1 [1]) = false ∧
    WellFormed (.linkReject .air (2 ^ 32)) = false ∧ WellFormed (.linkNotify .air 0 [1]) = false ∧
    WellFormed (.alive .air 256) = false ∧ WellFormed (.resync .air 256) = false := by decide

/-- A line frame of no byte, for each command that takes one. -/
theorem test_ill_formed_line :
    ([.linePollReceived ⟨[], true, 0⟩, .lineEmptyReceived ⟨[], true, 0⟩, .lineDataReceived ⟨[], true, 0⟩, .lineAckReceived ⟨[], true, 0⟩,
      .lineNakReceived ⟨[], true, 0⟩, .lineTimeReceived ⟨[], true, 0⟩, .linePresenceReceived ⟨[], true, 0⟩,
      .searchStartReceived ⟨[], true, 0⟩, .searchPassReceived ⟨[], true, 0⟩, .searchEndReceived ⟨[], true, 0⟩,
      .assignReceived ⟨[], true, 0⟩, .walkProbeReceived ⟨[], true, 0⟩ 0, .walkTallyReceived ⟨[], true, 0⟩,
      .isolateReceived ⟨[], true, 0⟩, .reconnectReceived ⟨[], true, 0⟩] : List Instr).all (fun i => !WellFormed i) = true := by decide

/-- An APDU of three bytes, for each command that takes one. -/
theorem test_ill_formed_apdu :
    ([.selectByName [0, 0, 0], .getInfo [0, 0, 0] 0, .read [0, 0, 0], .readRaw [0, 0, 0], .write [0, 0, 0] 0, .authBegin [0, 0, 0] 0,
      .authFinish [0, 0, 0] 0, .getCert [0, 0, 0], .keyExchangeAgree [0, 0, 0], .keyExchangeConfirm [0, 0, 0] 0, .dictRead [0, 0, 0],
      .dictWrite [0, 0, 0], .resetRequest [0, 0, 0], .endSession [0, 0, 0]] : List Instr).all (fun i => !WellFormed i) = true := by decide

/-! ### Every statement's premises can be met -/
/-- The premises of QueueIsFirstInFirstOut can be met, each clause's. -/
theorem witness_QueueIsFirstInFirstOut :
    (∃ (s : State) (t : State), (step s = .next t)) :=
  ⟨{ up with pending := [.pocketPps] }, (nx { up with pending := [.pocketPps] }), rfl⟩

/-- The premises of CanonicalFormsKept can be met, each clause's. -/
theorem witness_CanonicalFormsKept :
    (∃ (s : State) (t : State), (s.canonical = true) ∧ (step s = .next t)) :=
  ⟨{ up with pending := [.pocketPps] }, (nx { up with pending := [.pocketPps] }), ⟨by decide, rfl⟩⟩

/-- The premises of TickIncrement can be met, each clause's. -/
theorem witness_TickIncrement :
    (∃ (s : State), (s.pending = []) ∧ (s.power.powered = true) ∧ (s.interpolates = false)) ∧
    (∃ (s : State), (s.pending = []) ∧ (s.power.powered = true) ∧ (s.interpolates = true) ∧ (211875 ≤ 256 * (s.time.cycles + 1) + s.time.phase)) ∧
    (∃ (s : State), (s.pending = []) ∧ (s.power.powered = true) ∧ (s.interpolates = true) ∧ (256 * (s.time.cycles + 1) + s.time.phase < 211875)) :=
  ⟨⟨State.reset, by decide⟩,
   ⟨{ up with time := { up.time with cycles := 827, phase := 0 + 163 } }, by decide⟩,
   ⟨up, by decide⟩⟩

/-- The premises of IdleAndDozing can be met, each clause's. -/
theorem witness_IdleAndDozing :
    (∃ (s : State), (s.pending = []) ∧ (s.power.powered = false) ∧ (s.up = false)) ∧
    (∃ (s : State), (s.pending = []) ∧ (s.power.powered = true) ∧ (s.runState = 1) ∧ (s.up = true) ∧ (s.time.restart = false) ∧ (s.busy = false)) ∧
    (∃ (s : State), (s.pending = []) ∧ (s.busy = true)) :=
  ⟨⟨{ State.reset with power := { State.reset.power with powered := false } }, by decide⟩,
   ⟨up, by decide⟩,
   ⟨{ up with order := [.tags] }, by decide⟩⟩

/-- The premises of EventQueueing can be met, each clause's. -/
theorem witness_EventQueueing :
    (∃ (s : State) (t : Tenant) (e : Nat), (s.eventBit t 0x01 e = true)) ∧
    (∃ (s : State) (t : Tenant) (e : Nat) (st : Nat) (d : Octets) (q : _), (s.eventBit t 0x01 e = false) ∧ (s.eventBit t 0x02 e = true) ∧ ((∃ q ∈ s.router.boxes[t].queue, q.event = e ∧ q.touched = false)) ∧ (q ∈ (s.offer t e st d).1.queue) ∧ (q.event = e) ∧ (q.touched = false)) ∧
    (∃ (s : State) (t : Tenant) (e : Nat), (s.eventBit t 0x01 e = false) ∧ (s.eventBit t 0x02 e = false) ∧ (s.router.boxes[t].queue.length < 64)) ∧
    (∃ (s : State) (t : Tenant) (e : Nat), (s.eventBit t 0x01 e = false) ∧ (s.eventBit t 0x02 e = false) ∧ (64 ≤ s.router.boxes[t].queue.length) ∧ (s.rd (obT 0x7400 0x03 t) ≠ 1) ∧ (s.router.boxes[t].marker = none)) ∧
    (∃ (s : State) (t : Tenant) (e : Nat) (m : _), (s.eventBit t 0x01 e = false) ∧ (s.eventBit t 0x02 e = false) ∧ (64 ≤ s.router.boxes[t].queue.length) ∧ (s.rd (obT 0x7400 0x03 t) ≠ 1) ∧ (s.router.boxes[t].marker = some m)) ∧
    (∃ (s : State) (t : Tenant) (e : Nat) (q : QEvent) (l : List QEvent), (s.eventBit t 0x01 e = false) ∧ (s.eventBit t 0x02 e = false) ∧ (s.router.boxes[t].queue = q :: l) ∧ (63 ≤ l.length) ∧ (s.rd (obT 0x7400 0x03 t) = 1) ∧ (s.rd (ob 0x1030 (t.val + 1)) % 8 ≠ 0) ∧ (s.router.boxes[t].marker = none)) ∧
    (∃ (s : State), (s.up = false)) :=
  ⟨⟨(O [(obT 0x7400 1 7, 2 ^ 5)]), 7, 5, by decide⟩,
   ⟨((O [(obT 0x7400 2 0, 2 ^ 5)]).setBox 0 (fun b => { b with queue := [qe] })), 0, 5, 9, [], { qe with stamp := 9 }, by decide⟩,
   ⟨(up.setBox 0 (fun b => { b with queue := List.replicate 63 qe })), 0, 5, by decide⟩,
   ⟨(up.setBox 0 (fun b => { b with queue := List.replicate 64 qe })), 0, 5, by decide⟩,
   ⟨(up.setBox 0 (fun b => { b with queue := List.replicate 64 qe, marker := some ⟨0, 1, 1, 0⟩ })), 0, 5, ⟨0, 1, 1, 0⟩, by decide⟩,
   ⟨((O [(obT 0x7400 3 0, 1)]).setBox 0 (fun b => { b with queue := List.replicate 64 qe })), 0, 5, qe, (List.replicate 63 qe), by decide⟩,
   ⟨State.reset, by decide⟩⟩

/-- The premises of RepliesAndCommits can be met, each clause's. -/
theorem witness_RepliesAndCommits :
    (∃ (s : State) (t : Tenant) (j : Job) (st : Nat) (u : Tenant), (j.req.transport = .host) ∧ ((∀ p ∈ s.rst.waiting, p.reply ≠ some j.id)) ∧ (s.rd (obT 0x1040 (if st = 0 then 0x03 else 0x04) t) + 1 < 2 ^ 32) ∧ (u ≠ t)) ∧
    (∃ (s : State) (t : Tenant) (j : Job) (k : List (Nat × Nat)), (j ∈ s.svc.queues[t]) ∧ (k ≠ [])) ∧
    (∃ (s : State) (t : Tenant) (j : Job), (j ∈ s.svc.queues[t])) :=
  ⟨⟨up, 0, (jb 0 0 0 []), 5, 7, by decide⟩,
   ⟨(req up 0x1061 1 0 [0, 0]), 0, (jb 0x1061 1 0 [0, 0]), [(0, 0)], by decide⟩,
   ⟨(req up 0x1061 1 0 [0, 0]), 0, (jb 0x1061 1 0 [0, 0]), by decide⟩⟩

/-- The premises of MetronomeCommands can be met, each clause's. -/
theorem witness_MetronomeCommands :
    (∃ (s : State) (t : Tenant) (j : Job) (m : MetroId) (n : MetroId), (s.Writes t j (0x8000 + m.val) 0x0E [1]) ∧ ((s.metroCaught m).rd (ob (0x8000 + m.val) 0x01) = 0) ∧ ((s.metroCaught m).strideBlocks m = false) ∧ (n ≠ m)) ∧
    (∃ (s : State) (t : Tenant) (j : Job) (m : MetroId), (s.Writes t j (0x8000 + m.val) 0x0E [1]) ∧ ((s.metroCaught m).rd (ob (0x8000 + m.val) 0x01) ≠ 0)) ∧
    (∃ (s : State) (t : Tenant) (j : Job) (m : MetroId) (n : MetroId), (s.Writes t j (0x8000 + m.val) 0x0E [3]) ∧ ((s.metroCaught m).strideBlocks m = false) ∧ (n ≠ m)) ∧
    (∃ (s : State) (t : Tenant) (j : Job) (m : MetroId) (n : MetroId), (s.Writes t j (0x8000 + m.val) 0x0E [2]) ∧ (n ≠ m)) ∧
    (∃ (s : State) (t : Tenant) (j : Job) (m : MetroId), (s.Writes t j (0x8000 + m.val) 0x0E [2]) ∧ ((s.metroCaught m).rd (ob (0x8000 + m.val) 0x01) = 0)) ∧
    (∃ (s : State) (t : Tenant) (j : Job) (m : MetroId), (s.Writes t j (0x8000 + m.val) 0x0E [2]) ∧ ((s.metroCaught m).rd (ob (0x8000 + m.val) 0x01) ≠ 0)) ∧
    (∃ (s : State) (m : MetroId), (s.rd (ob (0x8000 + m.val) 0x01) = 1) ∧ (s.metros[m].armed ≤ s.now)) :=
  ⟨⟨(req up 0x800F 0x0E 0 [1]), 0, (jb 0x800F 0x0E 0 [1]), 15, 0, by unfold State.Writes State.WritesAt; decide⟩,
   ⟨(req (O [(ob 0x800F 1, 2), (ob 0x800F 4, 50)]) 0x800F 0x0E 0 [1]), 0, (jb 0x800F 0x0E 0 [1]), 15, by unfold State.Writes State.WritesAt; decide⟩,
   ⟨(req up 0x800F 0x0E 0 [3]), 0, (jb 0x800F 0x0E 0 [3]), 15, 0, by unfold State.Writes State.WritesAt; decide⟩,
   ⟨(req up 0x800F 0x0E 0 [2]), 0, (jb 0x800F 0x0E 0 [2]), 15, 0, by unfold State.Writes State.WritesAt; decide⟩,
   ⟨(req up 0x800F 0x0E 0 [2]), 0, (jb 0x800F 0x0E 0 [2]), 15, by unfold State.Writes State.WritesAt; decide⟩,
   ⟨(req (O [(ob 0x800F 1, 2), (ob 0x800F 4, 50)]) 0x800F 0x0E 0 [2]), 0, (jb 0x800F 0x0E 0 [2]), 15, by unfold State.Writes State.WritesAt; decide⟩,
   ⟨(O [(ob 0x800F 1, 1)]), 15, by decide⟩⟩

/-- The premises of MetronomeEvents can be met, each clause's. -/
theorem witness_MetronomeEvents :
    (∃ (s : State) (m : MetroId), (s.rd (ob (0x8000 + m.val) 0x01) = 2) ∧ (0 < s.rd (ob (0x8000 + m.val) 0x0A)) ∧ (s.rd (ob (0x8000 + m.val) 0x07) ≠ 1) ∧ (s.rd (ob (0x8000 + m.val) 0x0A) < s.metros[m].base) ∧ (s.metros[m].since + (s.metros[m].base - s.rd (ob (0x8000 + m.val) 0x0A)) * s.metroUnit m ≤ s.now)) ∧
    (∃ (s : State) (m : MetroId), (s.rd (ob (0x8000 + m.val) 0x01) = 2) ∧ (0 < s.rd (ob (0x8000 + m.val) 0x0A)) ∧ (s.rd (ob (0x8000 + m.val) 0x07) = 1) ∧ (s.metros[m].base < s.rd (ob (0x8000 + m.val) 0x0A)) ∧ (s.rd (ob (0x8000 + m.val) 0x0A) ≤ s.rd (ob (0x8000 + m.val) 0x05)) ∧ (s.metros[m].since + (s.rd (ob (0x8000 + m.val) 0x0A) - s.metros[m].base) * s.metroUnit m ≤ s.now)) ∧
    (∃ (s : State) (m : MetroId) (d : _), (s.rd (ob (0x8000 + m.val) 0x01) = 2) ∧ (s.rd (ob (0x8000 + m.val) 0x07) ≠ 1) ∧ (s.metros[m].since + s.metros[m].base * s.metroUnit m ≤ s.now) ∧ ((∀ c, s.compareAt m = some c → s.metros[m].since + s.metros[m].base * s.metroUnit m < c)) ∧ (s.metros[m].wrap = some d)) ∧
    (∃ (s : State) (m : MetroId), (s.rd (ob (0x8000 + m.val) 0x01) = 2) ∧ (s.rd (ob (0x8000 + m.val) 0x07) = 1) ∧ (s.metros[m].since + (s.rd (ob (0x8000 + m.val) 0x05) - s.metros[m].base) * s.metroUnit m ≤ s.now) ∧ ((∀ c, s.compareAt m = some c → s.metros[m].since + (s.rd (ob (0x8000 + m.val) 0x05) - s.metros[m].base) * s.metroUnit m < c))) ∧
    (∃ (s : State) (m : MetroId), (∀ x, s.compareAt m = some x → s.now < x) ∧ (∀ x, s.zeroAt m = some x → s.now < x ∨ ∃ c, s.compareAt m = some c ∧ c ≤ x) ∧ (∀ x, s.topAt m = some x → s.now < x ∨ ∃ c, s.compareAt m = some c ∧ c ≤ x)) ∧
    (∃ (s : State) (m : MetroId), (s.up = true) ∧ (∀ o, s.metroTenant m = some o → s.tenantState o ≠ 2)) ∧
    (∃ (s : State) (m : MetroId) (o : Tenant), (s.metroTenant m = some o) ∧ (s.tenantState o = 2)) ∧
    (∃ (s : State) (m : MetroId), (s.up = false) ∧ (∀ o, s.metroTenant m = some o → s.tenantState o ≠ 2)) ∧
    (∃ (s : State) (m : MetroId), (s.up = false) ∧ (s.metroTenant m = none) ∧ (((s.drivePins m 0).wakeBy 1).router.held.any (fun h => h.event == 1072 + 4 * m.val) = true)) :=
  ⟨⟨(((O [(ob 0x800F 1, 2), (ob 0x800F 7, 0), (ob 0x800F 0x0A, 1), (ob 0x800F 5, 1)])).setMetro 15 (fun x => { x with base := 2 })).tick.tick, 15, by decide⟩,
   ⟨(((O [(ob 0x800F 1, 2), (ob 0x800F 2, 2), (ob 0x800F 7, 1), (ob 0x800F 0x0A, 1), (ob 0x800F 5, 1)])).setMetro 15 (fun x => { x with base := 0 })).tick.tick, 15, by decide⟩,
   ⟨(((O [(ob 0x800F 1, 2), (ob 0x800F 7, 0), (ob 0x800F 0x0A, 0), (ob 0x800F 5, 1)])).setMetro 15 (fun x => { x with base := 1, wrap := some 5 })).tick, 15, 5, by
    exact ⟨by decide, by decide, by decide, none_all (by decide), by decide⟩⟩,
   ⟨(((O [(ob 0x800F 1, 2), (ob 0x800F 7, 1), (ob 0x800F 0x0A, 0), (ob 0x800F 5, 1)])).setMetro 15 (fun x => { x with base := 1 })).tick, 15, by
    exact ⟨by decide, by decide, by decide, none_all (by decide)⟩⟩,
   ⟨up, 15, none_all (by decide), none_all (by decide), none_all (by decide)⟩,
   ⟨up, 15, by decide, none_all (by decide)⟩,
   ⟨(O [(ob 0x9010 2, 2 ^ 15), (ob 0x9020 1, 2)]), 15, 0, by decide⟩,
   ⟨State.reset, 15, by decide, none_all (by decide)⟩,
   ⟨{ State.reset with router := { State.reset.router with held := [⟨1132, [], [], 0⟩] } }, 15, by decide⟩⟩

/-- The premises of MetronomeSettingWrites can be met, each clause's. -/
theorem witness_MetronomeSettingWrites :
    (∃ (s : State) (t : Tenant) (j : Job) (m : MetroId) (v : Nat), (v < 2 ^ 32) ∧ (s.Writes t j (0x8000 + m.val) 0x04 (u32 v)) ∧ ((s.metroCaught m).rd (ob (0x8000 + m.val) 0x02) ≠ 2)) ∧
    (∃ (s : State) (t : Tenant) (j : Job) (m : MetroId) (v : Nat), (v < 2 ^ 32) ∧ (s.Writes t j (0x8000 + m.val) 0x04 (u32 v)) ∧ ((s.metroCaught m).rd (ob (0x8000 + m.val) 0x02) = 2) ∧ ((s.metroCaught m).rd (ob (0x8000 + m.val) 0x01) = 2) ∧ ((s.metroCaught m).rd (ob (0x8000 + m.val) 0x07) = 1) ∧ (v ≤ (s.metroCaught m).metroCount m (s.metroCaught m).now)) ∧
    (∃ (s : State) (t : Tenant) (j : Job) (m : MetroId) (v : Nat), (v < 2 ^ 32) ∧ (s.Writes t j (0x8000 + m.val) 0x04 (u32 v)) ∧ ((s.metroCaught m).rd (ob (0x8000 + m.val) 0x02) = 2) ∧ ((s.metroCaught m).rd (ob (0x8000 + m.val) 0x01) ≠ 2)) ∧
    (∃ (s : State) (t : Tenant) (j : Job) (m : MetroId) (v : Nat), (v < 2 ^ 32) ∧ (s.Writes t j (0x8000 + m.val) 0x08 (u32 v))) ∧
    (∃ (s : State) (t : Tenant) (j : Job) (m : MetroId) (v : Nat), (v < 2 ^ 32) ∧ (s.Writes t j (0x8000 + m.val) 0x09 (u32 v))) :=
  ⟨⟨(req up 0x800F 4 0 (u32 4294967295)), 0, (jb 0x800F 4 0 (u32 4294967295)), 15, 4294967295, by unfold State.Writes State.WritesAt; decide⟩,
   ⟨(req ((O [(ob 0x800F 1, 2), (ob 0x800F 2, 2), (ob 0x800F 5, 2000), (ob 0x800F 7, 1)]).setMetro 15 (fun x => { x with base := 1000 })) 0x800F 4 0 (u32 1000)), 0, (jb 0x800F 4 0 (u32 1000)), 15, 1000, by unfold State.Writes State.WritesAt; decide⟩,
   ⟨(req (O [(ob 0x800F 2, 2)]) 0x800F 4 0 (u32 1000)), 0, (jb 0x800F 4 0 (u32 1000)), 15, 1000, by unfold State.Writes State.WritesAt; decide⟩,
   ⟨(req up 0x800F 8 0 (u32 0)), 0, (jb 0x800F 8 0 (u32 0)), 15, 0, by unfold State.Writes State.WritesAt; decide⟩,
   ⟨(req up 0x800F 9 0 (u32 0)), 0, (jb 0x800F 9 0 (u32 0)), 15, 0, by unfold State.Writes State.WritesAt; decide⟩⟩

/-- The premises of TimeBaseCorrection can be met, each clause's. -/
theorem witness_TimeBaseCorrection :
    (∃ (s : State), (s.isDue .temperature = true)) ∧
    (∃ (s : State) (t : Tenant) (j : Job) (k : Nat), (k ≤ 100) ∧ (s.Writes t j 0x1100 0x05 (u16 k))) ∧
    (∃ (s : State) (t : Tenant) (j : Job) (x : Nat), (x < 256) ∧ (s.Writes t j 0x1100 0x06 (u8 x))) ∧
    (∃ (s : State) (t : Tenant) (j : Job) (x : Nat), (x < 256) ∧ (s.Writes t j 0x1100 0x07 (u8 x))) ∧
    (∃ (s : State) (t : Tenant) (j : Job) (x : Nat), (x < 2 ^ 16) ∧ (s.Writes t j 0x1100 0x09 (u16 x))) ∧
    (∃ (s : State) (t : Tenant) (j : Job) (x : Nat), (x < 256) ∧ (s.Writes t j 0x1100 0x0A (u8 x))) ∧
    (∃ (s : State), (0 < s.rd (ob 0x1100 0x09)) ∧ (s.rd (ob 0x1100 0x09) ≤ s.time.winTicks) ∧ ((s.rd (ob 0x1100 0x07)).testBit 0 = true) ∧ (s.eligible 2 = false) ∧ (s.eligible 1 = false)) ∧
    (∃ (s : State) (n : Fin 3), (s.isDue (.source n) = true)) ∧
    (∃ (s : State), (s.isDue .netOffset = true)) :=
  ⟨⟨(due .temperature up), by decide⟩,
   ⟨(req up 0x1100 5 0 (u16 100)), 0, (jb 0x1100 5 0 (u16 100)), 100, by unfold State.Writes State.WritesAt; decide⟩,
   ⟨(req up 0x1100 6 0 (u8 5)), 0, (jb 0x1100 6 0 (u8 5)), 5, by unfold State.Writes State.WritesAt; decide⟩,
   ⟨(req up 0x1100 7 0 (u8 7)), 0, (jb 0x1100 7 0 (u8 7)), 7, by unfold State.Writes State.WritesAt; decide⟩,
   ⟨(req up 0x1100 9 0 (u16 4096)), 0, (jb 0x1100 9 0 (u16 4096)), 4096, by unfold State.Writes State.WritesAt; decide⟩,
   ⟨(req up 0x1100 0x0A 0 (u8 6)), 0, (jb 0x1100 0x0A 0 (u8 6)), 6, by unfold State.Writes State.WritesAt; decide⟩,
   ⟨{ O [(ob 0x1100 7, 1), (ob 0x1100 9, 1)] with time := { up.time with winTicks := 1 } }, by decide⟩,
   ⟨(due (.source 2) up), 2, by decide⟩,
   ⟨(due .netOffset up), by decide⟩⟩

/-- The premises of CheckpointTempoAndWaking can be met, each clause's. -/
theorem witness_CheckpointTempoAndWaking :
    (∃ (s : State) (d : Nat), (s.dueAt .checkpoint = some d) ∧ (d ≤ s.time.whole)) ∧
    (∃ (s : State) (laps : Nat), (s.gateDue = true) ∧ (s.runState = 1) ∧ (laps < 65536) ∧ (4096 * laps / s.rd (ob 0x1110 0x03) < 65536)) ∧
    (∃ (s : State), (s.runState = 2) ∧ (s.isDue .rest = true) ∧ (s.mayRest = true) ∧ (s.rd (ob 0x1080 0x03) + 1 < 2 ^ 32)) ∧
    (∃ (s : State) (n : Nat), (1 ≤ n) ∧ (n ≤ 8) ∧ ((s.runState = 2 ∨ (s.runState = 3 ∧ n ≠ 6))) ∧ (s.osc27Stopped = true)) ∧
    (∃ (s : State), (s.isArmed .osc27 = true)) :=
  ⟨⟨(due .checkpoint up), 0, by decide⟩,
   ⟨{ up with time := { up.time with gate := some 0 } }, 0, by refine ⟨by decide, by decide, by decide, by simp⟩⟩,
   ⟨(due .rest (O [(ob 0x1020 1, 2), (ob 0x1020 3, 1)])), by decide⟩,
   ⟨(O [(ob 0x1020 1, 3)]), 8, by decide⟩,
   ⟨(due .osc27 up), by decide⟩⟩

/-- The premises of SupplyChangeovers can be met, each clause's. -/
theorem witness_SupplyChangeovers :
    (∃ (s : State) (mv : Nat), (7000 ≤ mv) ∧ (mv ≤ 40000) ∧ (s.power.powered = true) ∧ (s.power.lineHere = false)) ∧
    (∃ (s : State) (mv : Nat), (mv < 6000) ∧ (s.power.powered = true) ∧ (s.power.lineHere = true)) ∧
    (∃ (mv : Nat), ((1620 ≤ mv ∧ mv ≤ 1980) ∨ (2970 ≤ mv ∧ mv ≤ 3630))) ∧
    (∃ (s : State) (mv : Nat) (g : _), (mv ≤ 4000) ∧ (¬((1620 ≤ mv ∧ mv ≤ 1980) ∨ (2970 ≤ mv ∧ mv ≤ 3630))) ∧ (s.rd (ob 0x1060 0x06) ≠ 0) ∧ (g < 16)) ∧
    (∃ (a : Nat) (b : Nat), (4500 < a ∨ 40000 < b)) ∧
    (∃ (mv : Nat), (40000 < mv)) ∧
    (∃ (mv : Nat), (4500 < mv)) ∧
    (∃ (mv : Nat), (4000 < mv)) :=
  ⟨⟨up, 40000, by decide⟩,
   ⟨{ up with power := { up.power with lineHere := true } }, 5999, by decide⟩,
   ⟨1620, by decide⟩,
   ⟨(O [(ob 0x1060 6, 1)]), 1981, 15, by decide⟩,
   ⟨4501, 0, by decide⟩,
   ⟨40001, by decide⟩,
   ⟨4501, by decide⟩,
   ⟨4001, by decide⟩⟩

/-- The premises of BatteryAndEnergy can be met, each clause's. -/
theorem witness_BatteryAndEnergy :
    (∃ (s : State) (mv : Nat), let starts := s.power.shedding = false ∧ s.rd (ob 0x1060 0x07) = 1 ∧ s.rd (ob 0x1060 0x01) = 1 ∧ mv < s.rd (ob 0x1061 0x02); (mv ≤ 4500) ∧ (s.isDue .vbatSample = true) ∧ (starts) ∧ (s.rd (ob 0x1060 0x08) + 1 < 2 ^ 32)) ∧
    (∃ (s : State) (mv : Nat), let starts := s.power.shedding = false ∧ s.rd (ob 0x1060 0x07) = 1 ∧ s.rd (ob 0x1060 0x01) = 1 ∧ mv < s.rd (ob 0x1061 0x02); (mv ≤ 4500) ∧ (s.isDue .vbatSample = true) ∧ (¬ starts)) ∧
    (∃ (s : State) (mv : Nat), (mv ≤ 4500) ∧ (s.isDue .vbatSample = true)) ∧
    (∃ (s : State) (mv : Nat), (s.power.shedding = true) ∧ (s.isDue .shed = true) ∧ (s.rd (ob 0x1061 0x02) + 100 ≤ mv)) ∧
    (∃ (s : State) (m : Nat) (d : Nat), (s.dueAt .minute = some d) ∧ (d ≤ s.now) ∧ (s.power.minuteMin = some m)) ∧
    (∃ (s : State) (vb : Nat) (vl : Nat), let total := s.rd (ob 0x1070 0x01) + vb + (s.rd (ob 0x1070 0x02) + vl); let bins := (((total : Int) - s.power.binBase).toNat :: s.power.bins).take 168; (s.isDue .hourly = true) ∧ (s.rd (ob 0x1070 0x01) + vb < 2 ^ 64) ∧ (s.rd (ob 0x1070 0x02) + vl < 2 ^ 64) ∧ (meanPower bins 24 < 2 ^ 32)) ∧
    (∃ (s : State) (vb : Nat) (vl : Nat), let total := s.rd (ob 0x1070 0x01) + vb + (s.rd (ob 0x1070 0x02) + vl); let bins := (((total : Int) - s.power.binBase).toNat :: s.power.bins).take 168; (s.isDue .hourly = true) ∧ (s.rd (ob 0x1070 0x01) + vb < 2 ^ 64) ∧ (s.rd (ob 0x1070 0x02) + vl < 2 ^ 64) ∧ (meanPower bins 168 < 2 ^ 32)) ∧
    (∃ (s : State) (d : Nat), (s.dueAt .energyReport = some d) ∧ (d ≤ s.now) ∧ (0 < s.rd (ob 0x1070 0x0F))) ∧
    (∃ (s : State) (t : Tenant) (j : Job), (s.Writes t j 0x1070 0x10 [1])) :=
  ⟨⟨(due .vbatSample (O [(ob 0x1060 7, 1), (ob 0x1060 1, 1), (ob 0x1061 2, 2900)])), 2899, by decide⟩,
   ⟨(due .vbatSample (O [(ob 0x1060 7, 1), (ob 0x1060 1, 1), (ob 0x1061 2, 2900)])), 2900, by decide⟩,
   ⟨(due .vbatSample (O [(ob 0x1060 7, 1), (ob 0x1060 1, 1), (ob 0x1061 2, 2900)])), 4500, by decide⟩,
   ⟨(due .shed { O [(ob 0x1061 2, 2900)] with power := { up.power with shedding := true } }), 3000, by decide⟩,
   ⟨(due .minute { up with power := { up.power with minuteMin := some 3000 } }), 3000, 0, by decide⟩,
   ⟨(due .hourly up), 5, 6, by decide⟩,
   ⟨(due .hourly up), 5, 6, by decide⟩,
   ⟨(due .energyReport (O [(ob 0x1070 0x0F, 1)])), 0, by decide⟩,
   ⟨(req up 0x1070 0x10 0 [1]), 0, (jb 0x1070 0x10 0 [1]), by unfold State.Writes State.WritesAt; decide⟩⟩

/-- The premises of PowerUpBrownoutAndLoss can be met, each clause's. -/
theorem witness_PowerUpBrownoutAndLoss :
    (∃ (s : State) (vbat : Nat) (vline : Nat), (vbat ≤ 4500) ∧ (vline ≤ 40000) ∧ (s.power.powered = false) ∧ ((1800 ≤ vbat ∨ 1800 ≤ vline))) ∧
    (∃ (s : State) (vbat : Nat) (vline : Nat), (vbat ≤ 4500) ∧ (vline ≤ 40000) ∧ (s.power.powered = true) ∧ ((if s.power.lineHere then vline < 5500 ∧ vbat < 2550 else vbat < 2550 ∧ vline < 7000))) ∧
    (∃ (s : State), (s.power.powered = true)) :=
  ⟨⟨{ State.reset with power := { up.power with powered := false } }, 1800, 0, by decide⟩,
   ⟨up, 2549, 6999, by decide⟩,
   ⟨up, by decide⟩⟩

/-- The premises of ResetRequests can be met, each clause's. -/
theorem witness_ResetRequests :
    (∃ (s : State) (t : Tenant) (j : Job) (p : Instr × Nat), (p ∈ [(Instr.resetRequestTenant t, 1), (.resetRequestField t, 2), (.resetRequestAir t, 3), (.resetRequestLine t, 4), (.resetRequestPocket t, 5), (.resetRequestConductor t, 6), (.resetRequestWarm t, 7), (.resetRequestChip t, 8)]) ∧ (s.Writes t j 0x7200 0x01 (u8 p.2))) ∧
    (∃ (s : State) (t : Tenant) (j : Job) (b : Nat), (b < 16) ∧ (s.Writes t j 0x7200 0x02 (u8 b))) :=
  ⟨⟨(req up 0x7200 1 0 (u8 8)), 0, (jb 0x7200 1 0 (u8 8)), (.resetRequestChip 0, 8), by unfold State.Writes State.WritesAt; decide⟩,
   ⟨(req up 0x7200 2 0 (u8 15)), 0, (jb 0x7200 2 0 (u8 15)), 15, by unfold State.Writes State.WritesAt; decide⟩⟩

/-- The premises of ResetAssertionAndRelease can be met, each clause's. -/
theorem witness_ResetAssertionAndRelease :
    (∃ (s : State) (p : Pending), (s.rst.asserted = false) ∧ (s.rst.quiet = false) ∧ (s.rst.waiting = [p]) ∧ (p.reply = none) ∧ (p.kind ≠ 1) ∧ (p.reach.conductor = false) ∧ (p.reach.chip = false) ∧ (p.reach.empty = false) ∧ (s.resetWaits p false = false)) ∧
    (∃ (s : State) (p : Pending), (s.up = true) ∧ (s.rst.quiescing = none) ∧ (s.rst.waiting = [p]) ∧ (p.reply = none) ∧ (p.kind = 6) ∧ (p.reach = ⟨true, false, false, false, false, false⟩) ∧ (s.order = [])) ∧
    (∃ (s : State), (s.rst.waiting = []) ∧ (s.rst.quiet = false)) ∧
    (∃ (s : State) (n : Nat), (s.rst.asserted = true) ∧ (s.rst.since + 100 ≤ s.now) ∧ (s.sequenced = true) ∧ (s.pinFree n = true) ∧ (s.supplyGood = true) ∧ (s.timeoutWait = 0) ∧ (s.isArmed .startHold = false)) ∧
    (∃ (s : State) (low : Nat), let p : Pending := { id := s.rst.nextId, reach := Reach.all, cause := 2, kind := 8, requester := 0xFF, detail := 0, reply := none }; (10 ≤ low) ∧ (s.rst.drive = false) ∧ (s.rd (ob 0x1060 0x06) ≠ 0) ∧ (s.power.powered = true) ∧ (s.resetWaits p false = false)) ∧
    (∃ (s : State) (low : Nat), let p : Pending := { id := s.rst.nextId, reach := Reach.all, cause := 2, kind := 8, requester := 0xFF, detail := 0, reply := none }; (10 ≤ low) ∧ (s.rst.drive = false) ∧ (s.rd (ob 0x1060 0x06) ≠ 0) ∧ (s.power.powered = true) ∧ (s.resetWaits p false = true)) ∧
    (∃ (s : State), (s.rst.conductor = .starting) ∧ (s.isDue .startTimeout = true) ∧ (s.imageSession = 5) ∧ (s.keys.trialFrom.map Prod.fst = some 1)) ∧
    (∃ (s : State), let p : Pending := { id := s.rst.nextId, reach := Reach.all, cause := 3, kind := 8, requester := 0xFF, detail := 0, reply := none }; (s.rst.conductor = .starting) ∧ (s.isDue .startTimeout = true) ∧ (s.imageSession ≠ 5) ∧ (s.resetWaits p false = true)) ∧
    (∃ (s : State), let p : Pending := { id := s.rst.nextId, reach := Reach.all, cause := 3, kind := 8, requester := 0xFF, detail := 0, reply := none }; (s.rst.conductor = .starting) ∧ (s.isDue .startTimeout = true) ∧ (s.imageSession ≠ 5) ∧ (s.resetWaits p false = false)) ∧
    (∃ (s : State), (s.rst.quiescing ≠ none) ∧ (s.rst.quiet = false) ∧ ((s.calm = true ∨ s.isDue .quiesce = true))) :=
  ⟨⟨{ up with rst := { up.rst with waiting := [pnd 2 ⟨false, true, false, false, false, false⟩] } }, (pnd 2 ⟨false, true, false, false, false, false⟩), by decide⟩,
   ⟨{ up with rst := { up.rst with waiting := [pnd 6 ⟨true, false, false, false, false, false⟩] } }, (pnd 6 ⟨true, false, false, false, false, false⟩), by decide⟩,
   ⟨up, by decide⟩,
   ⟨(late { up with rst := { up.rst with asserted := true, nLow := true } }), 10, by decide⟩,
   ⟨(O [(ob 0x1060 6, 1)]), 10, by decide⟩,
   ⟨(O [(ob 0x1060 6, 1), (ob 0x4000 4, 6)]), 10, by decide⟩,
   ⟨(due .startTimeout { O [(ob 0x9300 3, 5)] with rst := { up.rst with conductor := .starting }, keys := { up.keys with trialFrom := some (1, 0) } }), by decide⟩,
   ⟨(due .startTimeout { O [(ob 0x4000 4, 6)] with rst := { up.rst with conductor := .starting } }), by decide⟩,
   ⟨(due .startTimeout { up with rst := { up.rst with conductor := .starting } }), by decide⟩,
   ⟨(due .quiesce { up with rst := { up.rst with quiescing := some (pnd 6 ⟨true, false, false, false, false, false⟩) } }), by decide⟩⟩

/-- The premises of DieReleases can be met, each clause's. -/
theorem witness_DieReleases :
    (∃ (s : State) (c : Instr) (d : Die), ((c, d) ∈ [(Instr.airDieRelease, Die.air), (.lineDieRelease, .line), (.fieldDieRelease, .field)]) ∧ (s.rst.asserted = false) ∧ (s.rst.toRelease.conductor = false) ∧ (s.rst.toRelease.pocket = false) ∧ (s.rst.toRelease.has d = true) ∧ ((d ≠ .air → s.rst.toRelease.air = false)) ∧ ((d = .field → s.rst.toRelease.line = false))) ∧
    (∃ (s : State), (s.rst.asserted = false) ∧ (s.rst.toRelease.pocket = true)) ∧
    (∃ (s : State) (c : Instr), (c ∈ [Instr.pocketDieRelease, .airDieRelease, .lineDieRelease, .fieldDieRelease]) ∧ (s.rst.asserted = true)) ∧
    (∃ (s : State) (c : Instr), (c ∈ [Instr.airDieRelease, .lineDieRelease, .fieldDieRelease]) ∧ ((s.rst.toRelease.conductor = true ∨ s.rst.toRelease.pocket = true))) :=
  ⟨⟨{ up with rst := { up.rst with toRelease := ⟨false, true, false, false, false, false⟩ } }, .fieldDieRelease, .field, by decide⟩,
   ⟨State.reset, by decide⟩,
   ⟨{ up with rst := { up.rst with asserted := true } }, .fieldDieRelease, by decide⟩,
   ⟨State.reset, .fieldDieRelease, by decide⟩⟩

/-- The premises of ConductorStartAndCompletion can be met, each clause's. -/
theorem witness_ConductorStartAndCompletion :
    (∃ (s : State), (s.rst.asserted = false) ∧ (s.rst.conductor = .held) ∧ (s.rst.toRelease.pocket = false) ∧ (s.rst.toRelease.conductor = true)) ∧
    (∃ (s : State), (s.rst.asserted = false) ∧ (s.rst.conductor = .starting) ∧ ((s.rst.toRelease = Reach.none ∨ s.rst.toRelease = ⟨false, false, false, false, false, true⟩)) ∧ ((∀ t : Tenant, s.tenantState t ≠ 3)) ∧ (s.pocket.inbox = false) ∧ (s.rd (ob 0x7210 0x0A) + 1 < 2 ^ 32)) ∧
    (∃ (s : State), (s.rst.conductor ≠ .starting)) :=
  ⟨⟨{ State.reset with rst := { State.reset.rst with toRelease := ⟨true, true, true, true, false, true⟩ } }, by decide⟩,
   ⟨{ up with rst := { up.rst with conductor := .starting, toRelease := Reach.none } }, by decide⟩,
   ⟨up, by decide⟩⟩

/-- The premises of LinkHeaderRoundTrip can be met, each clause's. -/
theorem witness_LinkHeaderRoundTrip :
    (∃ (h : LinkHead), (h.kind < 4) ∧ (h.die < 8) ∧ (h.toEp < 256) ∧ (h.fromEp < 256) ∧ (h.tag < 16) ∧ (h.length < 128)) ∧
    (∃ (w : Nat), (w < 2 ^ 32)) :=
  ⟨⟨⟨3, 7, 255, 255, 15, 127⟩, by decide⟩,
   ⟨(2 ^ 32 - 1), by decide⟩⟩

/-- The premises of LinkMessages can be met, each clause's. -/
theorem witness_LinkMessages :
    (∃ (s : State) (d : Die) (w : Nat) (b : Octets), (s.rst.conductor ≠ .held) ∧ (s.linkState d = 2) ∧ ((parseHead w).kind = 0) ∧ ((parseHead w).die = d.code) ∧ (4 * (parseHead w).length = b.length)) ∧
    (∃ (s : State) (d : Die) (w : Nat) (b : Octets), (s.rst.conductor ≠ .held) ∧ ((parseHead w).kind = 1) ∧ ((parseHead w).toEp = s.rd (ob 0x7500 0x01)) ∧ ((parseHead w).fromEp = s.rd (ob d.index 0x02)) ∧ ((parseHead w).die = d.code) ∧ (4 * (parseHead w).length = b.length) ∧ ((parseHead w).tag ∈ s.links[d.link].tags)) ∧
    (∃ (s : State) (d : Die) (w : Nat), (s.rst.conductor ≠ .held) ∧ ((parseHead w).kind = 3) ∧ ((parseHead w).toEp = s.rd (ob 0x7500 0x01)) ∧ ((parseHead w).die = d.code) ∧ ((parseHead w).length = 0) ∧ ((parseHead w).tag ∈ s.links[d.link].tags) ∧ (s.rd (ob d.index 0x07) + 1 < 2 ^ 32)) ∧
    (∃ (s : State) (d : Die) (w : Nat) (b : Octets) (c : Instr), (s.rst.conductor ≠ .held) ∧ (((c = .linkReply d w b ∧ (parseHead w).kind = 1) ∨ (c = .linkNotify d w b ∧ (parseHead w).kind = 2))) ∧ (((parseHead w).toEp ≠ s.rd (ob 0x7500 0x01) ∨ (parseHead w).fromEp ≠ s.rd (ob d.index 0x02))) ∧ (s.rd (ob d.index 0x06) + 1 < 2 ^ 32)) ∧
    (∃ (s : State) (d : Die) (w : Nat) (b : Octets), (s.rst.conductor ≠ .held) ∧ ((parseHead w).kind = 2) ∧ ((parseHead w).toEp = s.rd (ob 0x7500 0x01)) ∧ ((parseHead w).fromEp = s.rd (ob d.index 0x02)) ∧ ((parseHead w).die = d.code) ∧ (4 * (parseHead w).length = b.length)) ∧
    (∃ (s : State) (d : Die) (w : Nat) (b : Octets), (s.rst.conductor ≠ .held) ∧ ((parseHead w).kind = 1) ∧ ((parseHead w).toEp = s.rd (ob 0x7500 0x01)) ∧ ((parseHead w).fromEp = s.rd (ob d.index 0x02)) ∧ (¬((parseHead w).die = d.code ∧ 4 * (parseHead w).length = b.length ∧ (parseHead w).tag ∈ s.links[d.link].tags)) ∧ ((s.linkState d = 1 ∨ s.linkState d = 2))) :=
  ⟨⟨up, .pocket, (LinkHead.word ⟨0, 4, 255, 254, 0, 0⟩), [], by decide⟩,
   ⟨{ (O [(ob 0x7500 1, 255), (ob 0x7504 2, 254)]) with links := up.links.set 3 { epoch := 1, up := true, tags := [15], waiting := [], reload := false } }, .pocket, (LinkHead.word ⟨1, 4, 255, 254, 15, 1⟩), [0, 0, 0, 0], by decide⟩,
   ⟨{ (O [(ob 0x7500 1, 255), (ob 0x7504 2, 254)]) with links := up.links.set 3 { epoch := 1, up := true, tags := [15], waiting := [], reload := false } }, .pocket, (LinkHead.word ⟨3, 4, 255, 0, 15, 0⟩), by decide⟩,
   ⟨{ (O [(ob 0x7500 1, 255), (ob 0x7504 2, 254)]) with links := up.links.set 3 { epoch := 1, up := true, tags := [15], waiting := [], reload := false } }, .pocket, (LinkHead.word ⟨2, 4, 1, 254, 0, 0⟩), [], (.linkNotify .pocket (LinkHead.word ⟨2, 4, 1, 254, 0, 0⟩) []), by decide⟩,
   ⟨(O [(ob 0x7500 1, 255), (ob 0x7504 2, 254)]), .pocket, (LinkHead.word ⟨2, 4, 255, 254, 0, 0⟩), [], by decide⟩,
   ⟨{ (O [(ob 0x7500 1, 255), (ob 0x7504 2, 254)]) with links := up.links.set 3 { epoch := 1, up := true, tags := [15], waiting := [], reload := false } }, .pocket, (LinkHead.word ⟨1, 4, 255, 254, 14, 0⟩), [], by decide⟩⟩

/-- The premises of LinkStates can be met, each clause's. -/
theorem witness_LinkStates :
    (∃ (s : State) (d : Die), (s.rst.conductor ≠ .held) ∧ (s.links[d.link].up = true) ∧ (s.linkState d ≠ 2)) ∧
    (∃ (s : State) (d : Die), (s.linkState d = 2)) ∧
    (∃ (s : State) (d : Die), (s.linkState d = 1) ∧ (s.links[d.link].reload = true) ∧ (s.startWorkDone d = true) ∧ (s.rst.conductor ≠ .held)) ∧
    (∃ (s : State) (d : Die) (c : Instr), (s.rst.conductor ≠ .held) ∧ (((c = .aliveTimeout d ∧ s.isDue (.alive d) = true) ∨ (c = .linkWordTimeout d ∧ (s.linkState d = 1 ∨ s.linkState d = 2))))) ∧
    (∃ (s : State) (d : Die), (s.linkState d = 3) ∧ (s.isDue (.resync d) = true) ∧ (s.rd (ob d.index 0x09) + 1 < 2 ^ 32)) ∧
    (∃ (s : State) (d : Die), (s.links[d.link].up = true)) :=
  ⟨⟨{ (O [(ob 0x7504 1, 0)]) with links := up.links.set 3 { epoch := 1, up := true, tags := [15], waiting := [], reload := false } }, .pocket, by decide⟩,
   ⟨up, .pocket, by decide⟩,
   ⟨{ O [(ob 0x7504 1, 1)] with links := up.links.set 3 { epoch := 1, up := true, tags := [], waiting := [], reload := true } }, .pocket, by decide⟩,
   ⟨(due (.alive .pocket) up), .pocket, (.aliveTimeout .pocket), by decide⟩,
   ⟨(due (.resync .pocket) (O [(ob 0x7504 1, 3)])), .pocket, by decide⟩,
   ⟨{ up with links := up.links.set 3 { epoch := 1, up := true, tags := [15], waiting := [], reload := false } }, .pocket, by decide⟩⟩

/-- The premises of ScoresRunAndStop can be met, each clause's. -/
theorem witness_ScoresRunAndStop :
    (∃ (s : State) (i : ScoreId), (0 < s.scores[i].triggers) ∧ (s.scoreState i = 0)) ∧
    (∃ (s : State) (i : ScoreId), (0 < s.scores[i].triggers) ∧ ((s.scoreState i = 1 ∨ s.scoreState i = 2)) ∧ (s.rd (ob (0xA000 + i.val) 0x09) + 1 < 2 ^ 32)) ∧
    (∃ (s : State) (t : Tenant) (j : Job) (i : ScoreId), (s.Writes t j (0xA000 + i.val) 0x05 [1]) ∧ (s.scoreState i = 0)) ∧
    (∃ (s : State) (t : Tenant) (j : Job) (i : ScoreId), (s.Writes t j (0xA000 + i.val) 0x05 [1]) ∧ ((s.scoreState i = 1 ∨ s.scoreState i = 2)) ∧ (s.rd (ob (0xA000 + i.val) 0x09) + 1 < 2 ^ 32)) ∧
    (∃ (s : State) (t : Tenant) (j : Job) (i : ScoreId), (s.Writes t j (0xA000 + i.val) 0x05 [2])) ∧
    (∃ (s : State) (t : Tenant) (j : Job) (i : ScoreId) (k : Nat) (off : Nat) (v : Octets), (1 ≤ k) ∧ (k ≤ 128) ∧ (s.WritesAt t j (0xA100 + i.val) k off v)) ∧
    (∃ (s : State) (i : ScoreId) (k : Nat) (d : DueStep), (s.isDue (.deadline i k) = true) ∧ (s.dues.find? (fun d => d.score == i.val && d.step == k && d.tuning.isNone) = some d)) ∧
    (∃ (s : State) (i : ScoreId) (k : Nat), (s.isDue (.wait i k) = true) ∧ (s.scores[i].open_.contains k = true)) :=
  ⟨⟨((O [(ob 0xA01F 2, 0), (ob 0xA01F 1, 0)]).setScore 31 (fun x => { x with triggers := 1, open_ := [128] })), 31, by decide⟩,
   ⟨((O [(ob 0xA01F 2, 2), (ob 0xA01F 1, 0)]).setScore 31 (fun x => { x with triggers := 1, open_ := [128] })), 31, by decide⟩,
   ⟨(req (O [(ob 0xA01F 1, 0), (ob 0xA01F 2, 0)]) 0xA01F 5 0 [1]), 0, (jb 0xA01F 5 0 [1]), 31, by unfold State.Writes State.WritesAt; decide⟩,
   ⟨(req (O [(ob 0xA01F 1, 0), (ob 0xA01F 2, 1)]) 0xA01F 5 0 [1]), 0, (jb 0xA01F 5 0 [1]), 31, by unfold State.Writes State.WritesAt; decide⟩,
   ⟨(req (O [(ob 0xA01F 1, 0), (ob 0xA01F 2, 1)]) 0xA01F 5 0 [2]), 0, (jb 0xA01F 5 0 [2]), 31, by unfold State.Writes State.WritesAt; decide⟩,
   ⟨(req (O [(ob 0xA01F 1, 0), (ob 0xA01F 2, 0)]) 0xA11F 128 30 [0, 0]), 0, (jb 0xA11F 128 30 [0, 0]), 31, 128, 30, [0, 0], by unfold State.WritesAt; decide⟩,
   ⟨(due (.deadline 31 128) { up with dues := [{ ds with score := 31, step := 128 }] }), 31, 128, { ds with score := 31, step := 128 }, by decide⟩,
   ⟨(due (.wait 31 128) ((O [(ob 0xA01F 2, 1), (ob 0xA01F 1, 0)]).setScore 31 (fun x => { x with triggers := 1, open_ := [128] }))), 31, 128, by decide⟩⟩

/-- The premises of VoiceGrantAndSelection can be met, each clause's. -/
theorem witness_VoiceGrantAndSelection :
    (∃ (s : State) (w : State) (v : VoiceId) (d : DueStep), ((let s0 := if s.up && s.linkReady .field then s.loadLimits else s
           s0.voiceState v ≠ 7 ∧ s0.voiceState v ≠ 8 ∧ s0.granting = true ∧ s0.voiceFree v = true ∧
            s0.choose v ((s0.dueOrder v).filter (fun d => !s0.tuningBlocked d)) = (some d, w) ∧ w.dispatchEnd d = none ∧ d.tuning = none))) ∧
    (∃ (s : State) (w : State) (v : VoiceId) (d : DueStep) (e : End), ((let s0 := if s.up && s.linkReady .field then s.loadLimits else s
           s0.voiceState v ≠ 7 ∧ s0.voiceState v ≠ 8 ∧ s0.granting = true ∧ s0.voiceFree v = true ∧
            s0.choose v ((s0.dueOrder v).filter (fun d => !s0.tuningBlocked d)) = (some d, w) ∧ w.dispatchEnd d = some e))) ∧
    (∃ (s : State) (v : VoiceId), (s.linkReady .field = false) ∧ ((s.voiceState v = 7 ∨ s.voiceState v = 8))) ∧
    (∃ (s : State) (v : VoiceId) (g : Grant), (s.voices[v].grant = some g) ∧ (s.voices[v].selecting = true)) ∧
    (∃ (s : State) (v : VoiceId), (s.voices[v].grant = none ∨ s.voices[v].selecting = false)) ∧
    (∃ (s : State) (v : VoiceId) (g : Grant), (s.voices[v].deferred = some g) ∧ (s.voiceState v = 6) ∧ (s.isDue (.dwell v) = true) ∧ (g.step.emits = false)) ∧
    (∃ (s : State) (v : VoiceId) (g : Grant), (s.voices[v].deferred = some g) ∧ (s.voiceState v = 6) ∧ (s.isDue (.dwell v) = true) ∧ (g.step.emits = true)) :=
  ⟨⟨{ O [(ob 0x2030 1, 1), (ob 0x2030 2, 1000), (ob 0x2030 3, 2400), (ob 0x2030 5, 1), (ob 0x2100 1, 0), (ob 0x2100 2, 1), (ob 0x2000 3, 1)] with dues := [ds] }, (chosen { O [(ob 0x2030 1, 1), (ob 0x2030 2, 1000), (ob 0x2030 3, 2400), (ob 0x2030 5, 1), (ob 0x2100 1, 0), (ob 0x2100 2, 1), (ob 0x2000 3, 1)] with dues := [ds] } 0), 0, ds, by decide⟩,
   ⟨{ O [(ob 0x2100 1, 5)] with dues := [ds] }, (chosen { O [(ob 0x2100 1, 5)] with dues := [ds] } 0), 0, ds, (noFrame 0x17 []), by decide⟩,
   ⟨(O [(ob 0x7501 1, 3), (ob 0x2003 1, 7)]), 3, by decide⟩,
   ⟨(vo up (fun x => { x with grant := some gr, selecting := true })), 3, gr, by decide⟩,
   ⟨up, 3, by decide⟩,
   ⟨(due (.dwell 3) (vo (O [(ob 0x2003 1, 6)]) (fun x => { x with deferred := some { gr with step := { ds with tuning := some (4, 3) } } }))), 3, { gr with step := { ds with tuning := some (4, 3) } }, by decide⟩,
   ⟨(due (.dwell 3) (vo (O [(ob 0x2003 1, 6)]) (fun x => { x with deferred := some gr }))), 3, gr, by decide⟩⟩

/-- The premises of VoiceRamps can be met, each clause's. -/
theorem witness_VoiceRamps :
    (∃ (s : State) (v : VoiceId) (g : Grant), (s.voices[v].grant = some g) ∧ (s.voiceState v = 2) ∧ (s.isDue (.rampUp v) = true)) ∧
    (∃ (s : State) (v : VoiceId) (g : Grant), (s.voices[v].grant = some g) ∧ (s.voiceState v = 2) ∧ (s.isDue (.slew v) = true)) ∧
    (∃ (s : State) (v : VoiceId) (g : Grant) (mw : Nat), (s.voices[v].grant = some g) ∧ (s.voiceState v = 3) ∧ (s.isDue (.settle v) = true) ∧ (mw < 65536)) ∧
    (∃ (s : State) (v : VoiceId) (energy : Nat) (ch : Channel) (o : Tenant) (a : Nat), (s.voiceState v = 5) ∧ (s.isDue (.rampDown v) = true) ∧ (s.voices[v].held = some ch.val) ∧ (s.voices[v].owner = some o) ∧ (s.voices[v].emitAt = some a) ∧ (s.rd (ob (0x2000 + v.val) 0x0D) + (s.now - a) < 2 ^ 64) ∧ (s.rd (ob (0x2100 + ch.val) 0x0B) + (s.now - a) < 2 ^ 64) ∧ (s.rd (ob 0x1070 0x03) + energy < 2 ^ 64) ∧ (s.rd (obT 0x1071 0x01 o) + energy < 2 ^ 64) ∧ (s.voices[v].deferred = none)) ∧
    (∃ (s : State) (v : VoiceId) (energy : Nat) (ch : Channel) (o : Tenant) (a : Nat) (g : _), (s.voiceState v = 5) ∧ (s.isDue (.rampDown v) = true) ∧ (s.voices[v].held = some ch.val) ∧ (s.voices[v].owner = some o) ∧ (s.voices[v].emitAt = some a) ∧ (s.rd (ob (0x2000 + v.val) 0x0D) + (s.now - a) < 2 ^ 64) ∧ (s.rd (ob (0x2100 + ch.val) 0x0B) + (s.now - a) < 2 ^ 64) ∧ (s.rd (ob 0x1070 0x03) + energy < 2 ^ 64) ∧ (s.rd (obT 0x1071 0x01 o) + energy < 2 ^ 64) ∧ (s.voices[v].deferred = some g)) :=
  ⟨⟨(due (.rampUp 3) (vo (O [(ob 0x2003 1, 2)]) (fun x => { x with grant := some gr }))), 3, gr, by decide⟩,
   ⟨(due (.slew 3) (vo (O [(ob 0x2003 1, 2)]) (fun x => { x with grant := some gr }))), 3, gr, by decide⟩,
   ⟨(due (.settle 3) (vo (O [(ob 0x2003 1, 3)]) (fun x => { x with grant := some gr }))), 3, gr, 65535, by decide⟩,
   ⟨(due (.rampDown 3) (vo (O [(ob 0x2003 1, 5)]) (fun x => { x with held := some 63, owner := some 7, emitAt := some 0, deferred := none }))), 3, 5, 63, 7, 0, by decide⟩,
   ⟨(due (.rampDown 3) (vo (O [(ob 0x2003 1, 5)]) (fun x => { x with held := some 63, owner := some 7, emitAt := some 0, deferred := some gr }))), 3, 5, 63, 7, 0, gr, by decide⟩⟩

/-- The premises of BoostSequence can be met, each clause's. -/
theorem witness_BoostSequence :
    (∃ (s : State) (mv : Nat), ((s.boost = 1 ∨ s.boost = 3)) ∧ (97 * s.rd (ob 0x2010 0x02) ≤ 100 * mv) ∧ (100 * mv ≤ 103 * s.rd (ob 0x2010 0x02))) ∧
    (∃ (s : State), (s.isDue .boostHold = true) ∧ ((∀ v : VoiceId, s.voiceState v = 0 ∨ s.voiceState v = 8)) ∧ ((s.boost = 1 ∨ s.boost = 2 ∨ s.boost = 3))) ∧
    (∃ (s : State) (mv : Nat), (s.boost = 4) ∧ ((mv < 3000 ∨ s.isDue .boostStop = true))) ∧
    (∃ (s : State) (c : Instr) (cause : Nat) (mv : Nat), (((c = .boostStartTimeout ∧ s.isDue .boostStart = true ∧ s.boost = 1 ∧ cause = 1 ∧ mv = s.rd (ob 0x2010 0x03)) ∨ (c = .boostSlewTimeout ∧ s.isDue .boostSlew = true ∧ s.boost = 3 ∧ cause = 2 ∧ mv = s.rd (ob 0x2010 0x03)) ∨ (c = .vfldOvervoltage mv ∧ s.rd (ob 0x2010 0x05) + 600 < mv ∧ s.boost ≠ 5 ∧ cause = 3) ∨ (c = .vfldUndervoltage mv ∧ mv < 4000 ∧ (∃ v : VoiceId, s.emitting v = true) ∧ s.boost ≠ 5 ∧ cause = 4))) ∧ (s.rd (ob 0x2010 0x08) + 1 < 2 ^ 16)) :=
  ⟨⟨(O [(ob 0x2010 1, 3), (ob 0x2010 2, 10000)]), 9700, by decide⟩,
   ⟨(due .boostHold (O [(ob 0x2010 1, 3)])), by decide⟩,
   ⟨(O [(ob 0x2010 1, 4)]), 2999, by decide⟩,
   ⟨(O [(ob 0x2003 1, 2)]), (.vfldUndervoltage 3999), 4, 3999, by decide⟩⟩

/-- The premises of VoiceProtectionAndSwitches can be met, each clause's. -/
theorem witness_VoiceProtectionAndSwitches :
    (∃ (s : State) (v : VoiceId), (s.emitting v = true)) ∧
    (∃ (s : State) (t : Tenant) (j : Job) (v : VoiceId) (w : VoiceId), (s.Writes t j (0x2000 + v.val) 0x03 [1]) ∧ (s.voiceState v = 8) ∧ (w ≠ v)) ∧
    (∃ (s : State) (t : Tenant) (j : Job) (v : VoiceId), (s.Writes t j (0x2000 + v.val) 0x03 [0]) ∧ (s.emitting v = false) ∧ (s.voiceState v ≠ 7) ∧ (s.voiceState v ≠ 8) ∧ (∀ g ∈ s.voices[v].grant.toList ++ s.voices[v].deferred.toList, g.step.tuning = none)) ∧
    (∃ (s : State) (t : Tenant) (j : Job) (v : VoiceId) (w : VoiceId), (s.Writes t j (0x2000 + v.val) 0x03 [0]) ∧ (s.emitting v = true) ∧ (s.voices[v].deferred = none) ∧ (∀ d ∈ s.dues, voiceOf d.channel ≠ v) ∧ (w ≠ v)) ∧
    (∃ (s : State) (t : Tenant) (j : Job) (v : VoiceId), (s.Writes t j (0x2000 + v.val) 0x03 [0]) ∧ (s.voiceState v = 0) ∧ (s.voices[v].grant = none) ∧ (s.voices[v].deferred = none) ∧ ((∀ d ∈ s.dues, voiceOf d.channel ≠ v))) ∧
    (∃ (s : State) (t : Tenant) (j : Job) (ch : Channel) (x : Nat), (x < 2 ^ 64) ∧ (s.Writes t j 0x2020 (ch.val + 1) (u64 x))) :=
  ⟨⟨(O [(ob 0x2003 1, 5)]), 3, by decide⟩,
   ⟨(req (O [(ob 0x2003 1, 8)]) 0x2003 3 0 [1]), 0, (jb 0x2003 3 0 [1]), 3, 0, by unfold State.Writes State.WritesAt; decide⟩,
   ⟨(req (vo (O [(ob 0x2003 1, 1)]) (fun x => { x with grant := some gr })) 0x2003 3 0 [0]), 0, (jb 0x2003 3 0 [0]), 3, by unfold State.Writes State.WritesAt; decide⟩,
   ⟨(req (vo (O [(ob 0x2003 1, 4)]) (fun x => { x with grant := some gr })) 0x2003 3 0 [0]), 0, (jb 0x2003 3 0 [0]), 3, 0, by unfold State.Writes State.WritesAt; decide⟩,
   ⟨(req up 0x2003 3 0 [0]), 0, (jb 0x2003 3 0 [0]), 3, by unfold State.Writes State.WritesAt; decide⟩,
   ⟨(req up 0x2020 64 0 (u64 0xFFFF)), 0, (jb 0x2020 64 0 (u64 0xFFFF)), 63, 0xFFFF, by unfold State.Writes State.WritesAt; decide⟩⟩

/-- The premises of RequestFrames can be met, each clause's. -/
theorem witness_RequestFrames :
    (∃ (s : State) (v : VoiceId) (g : Grant) (x : Exchange) (w : VoiceId), (s.voices[v].grant = some g) ∧ (s.voices[v].exchange = some x) ∧ (s.voiceState v = 4) ∧ (x.air = .ready) ∧ (x.gap < 100 * (s.now + 1)) ∧ (s.linkReady .field = true) ∧ (s.rd (ob (0x2480 + v.val) 0x01) + 1 < 2 ^ 32) ∧ (w ≠ v)) ∧
    (∃ (s : State) (v : VoiceId) (g : Grant) (x : Exchange), (s.voices[v].grant = some g) ∧ (s.voices[v].exchange = some x) ∧ (100 * (s.now + 1) ≤ x.gap)) ∧
    (∃ (s : State) (v : VoiceId) (g : Grant) (x : Exchange), (s.voices[v].grant = some g) ∧ (s.voices[v].exchange = some x) ∧ (x.air = .sending) ∧ (s.isDue (.frameEnd v) = true) ∧ (s.voices[v].abandoned = true)) ∧
    (∃ (s : State) (v : VoiceId) (g : Grant) (x : Exchange) (w : _), (s.voices[v].grant = some g) ∧ (s.voices[v].exchange = some x) ∧ (x.air = .sending) ∧ (s.isDue (.frameEnd v) = true) ∧ (s.voices[v].abandoned = false) ∧ (x.frame.eof = some w)) ∧
    (∃ (s : State) (v : VoiceId) (g : Grant) (x : Exchange) (w : VoiceId), (s.voices[v].grant = some g) ∧ (s.voices[v].exchange = some x) ∧ (x.air = .sending) ∧ (s.isDue (.frameEnd v) = true) ∧ (s.voices[v].abandoned = false) ∧ (x.frame.eof = none) ∧ (x.frame.expect ≠ .nothing) ∧ (∀ p, x.prog.blockEx = some p → p.temp = none) ∧ (w ≠ v)) ∧
    (∃ (s : State) (v : VoiceId) (g : Grant) (x : Exchange) (p : BlockEx), (s.voices[v].grant = some g) ∧ (s.voices[v].exchange = some x) ∧ (x.air = .sending) ∧ (s.isDue (.frameEnd v) = true) ∧ (s.voices[v].abandoned = false) ∧ (x.frame.eof = none) ∧ (x.frame.expect ≠ .nothing) ∧ (x.prog.blockEx = some p) ∧ (p.temp.isSome = true)) ∧
    (∃ (s : State) (v : VoiceId) (g : Grant) (x : Exchange), (s.voices[v].grant = some g) ∧ (s.voices[v].exchange = some x) ∧ (x.air = .sending) ∧ (s.isDue (.frameEnd v) = true) ∧ (s.voices[v].abandoned = false) ∧ (x.frame.eof = none) ∧ (x.frame.expect = .nothing)) ∧
    (∃ (s : State) (v : VoiceId) (x : Exchange) (w : Nat), (s.voices[v].exchange = some x) ∧ (x.air = .eofWait) ∧ (x.frame.eof = some w) ∧ (s.isDue (.eof v) = true) ∧ ((∀ w : VoiceId, w ≠ v → s.windowOpen w = false))) :=
  ⟨⟨(vo (O [(ob 0x2003 1, 4)]) (fun x => { x with grant := some gr, exchange := some { ex .ready (fr .iso15) with gap := 99 }, abandoned := false })), 3, gr, { ex .ready (fr .iso15) with gap := 99 }, 0, by decide⟩,
   ⟨(vo up (fun x => { x with grant := some gr, exchange := some { ex .ready (fr .iso15) with gap := 100 }, abandoned := false })), 3, gr, { ex .ready (fr .iso15) with gap := 100 }, by decide⟩,
   ⟨(due (.frameEnd 3) (vo up (fun x => { x with grant := some gr, exchange := some (ex .sending (fr .iso15)), abandoned := true }))), 3, gr, (ex .sending (fr .iso15)), by decide⟩,
   ⟨(due (.frameEnd 3) (vo up (fun x => { x with grant := some gr, exchange := some (ex .sending { fr .iso15 with eof := some 7 }), abandoned := false }))), 3, gr, (ex .sending { fr .iso15 with eof := some 7 }), 7, by decide⟩,
   ⟨(due (.frameEnd 3) (vo up (fun x => { x with grant := some gr, exchange := some (ex .sending { fr .iso15 with expect := .iso15 none }), abandoned := false }))), 3, gr, (ex .sending { fr .iso15 with expect := .iso15 none }), 0, by
    exact ⟨by decide, by decide, by decide, by decide, by decide, by decide, by decide, none_all (by decide), by decide⟩⟩,
   ⟨(due (.frameEnd 3) (vo up (fun x => { x with grant := some gr, exchange := some { ex .sending { fr (.aOther 0) with expect := .block } with prog := .apdu { bx with temp := some 5 } }, abandoned := false }))), 3, gr, { ex .sending { fr (.aOther 0) with expect := .block } with prog := .apdu { bx with temp := some 5 } }, { bx with temp := some 5 }, by decide⟩,
   ⟨(due (.frameEnd 3) (vo up (fun x => { x with grant := some gr, exchange := some (ex .sending (fr .none)), abandoned := false }))), 3, gr, (ex .sending (fr .none)), by decide⟩,
   ⟨(due (.eof 3) (vo up (fun x => { x with grant := some gr, exchange := some (ex .eofWait { fr .iso15 with eof := some 7 }), abandoned := false }))), 3, (ex .eofWait { fr .iso15 with eof := some 7 }), 7, by decide⟩⟩

/-- The premises of ResponseWindows can be met, each clause's. -/
theorem witness_ResponseWindows :
    (∃ (s : State) (v : VoiceId) (g : Grant) (x : Exchange) (w : VoiceId), (s.voices[v].grant = some g) ∧ (s.voices[v].exchange = some x) ∧ (x.air = .windowWait) ∧ (s.isDue (.windowOpen v) = true) ∧ (w ≠ v)) ∧
    (∃ (s : State) (v : VoiceId) (g : Grant) (x : Exchange) (off : Nat) (w : VoiceId), (s.voices[v].grant = some g) ∧ (s.voices[v].exchange = some x) ∧ (x.air = .open) ∧ (x.ref + off < 100 * (s.now + 1)) ∧ (x.frame.window.opens ≤ off) ∧ (off ≤ x.frame.window.latest) ∧ (x.frame.window.earliest ≤ off) ∧ ((x.frame.window = .iso15Write → inSubWindow off = true)) ∧ (x.latch.getD 4 0 = 1) ∧ (∀ p, x.prog.blockEx = some p → p.wtxFrom = none) ∧ (w ≠ v)) ∧
    (∃ (s : State) (v : VoiceId) (g : Grant) (x : Exchange) (off : Nat) (p : BlockEx) (at_ : Nat), (s.voices[v].grant = some g) ∧ (s.voices[v].exchange = some x) ∧ (x.air = .open) ∧ (x.ref + off < 100 * (s.now + 1)) ∧ (x.frame.window.opens ≤ off) ∧ (off ≤ x.frame.window.latest) ∧ (x.frame.window.earliest ≤ off) ∧ ((x.frame.window = .iso15Write → inSubWindow off = true)) ∧ (x.prog.blockEx = some p) ∧ (p.wtxFrom = some at_)) ∧
    (∃ (s : State) (v : VoiceId) (g : Grant) (x : Exchange) (off : Nat), (s.voices[v].grant = some g) ∧ (s.voices[v].exchange = some x) ∧ (x.air = .open) ∧ (x.ref + off < 100 * (s.now + 1)) ∧ (x.frame.window.opens ≤ off) ∧ (off ≤ x.frame.window.latest) ∧ (off < x.frame.window.earliest)) ∧
    (∃ (s : State) (v : VoiceId) (g : Grant) (x : Exchange) (off : Nat), (s.voices[v].grant = some g) ∧ (s.voices[v].exchange = some x) ∧ (x.air = .open) ∧ (x.ref + off < 100 * (s.now + 1)) ∧ (x.frame.window.opens ≤ off) ∧ (off ≤ x.frame.window.latest) ∧ (x.frame.window.earliest ≤ off) ∧ (x.frame.window = .iso15Write) ∧ (inSubWindow off = false)) ∧
    (∃ (s : State) (v : VoiceId) (g : Grant) (x : Exchange) (off : Nat), (s.voices[v].grant = some g) ∧ (s.voices[v].exchange = some x) ∧ (x.air = .open) ∧ (x.frame.window.latest < off)) ∧
    (∃ (s : State) (v : VoiceId) (g : Grant) (x : Exchange), (s.voices[v].grant = some g) ∧ (s.voices[v].exchange = some x) ∧ (x.air = .open) ∧ (s.isDue (.close v) = true)) ∧
    (∃ (s : State) (v : VoiceId) (x : Exchange) (st : Nat), (x.air = .open) ∧ (s.cal.ready = []) ∧ (st ≠ 0) ∧ ((∀ n ∈ [0x02, 0x03, 0x04, 0x07], s.rd (ob (0x2480 + v.val) n) + 1 < 2 ^ 32))) ∧
    (∃ (s : State) (v : VoiceId) (g : Grant) (x : Exchange) (p : BlockEx), (s.voices[v].grant = some g) ∧ (s.voices[v].exchange = some x) ∧ (x.prog.blockEx = some p) ∧ ((x.air = .open ∨ x.air = .windowWait ∨ x.air = .ready)) ∧ (s.isDue (.wtx v) = true) ∧ (s.cal.ready = [])) :=
  ⟨⟨(due (.windowOpen 3) (vo up (fun x => { x with grant := some gr, exchange := some (ex .windowWait (fr .iso15)), abandoned := false }))), 3, gr, (ex .windowWait (fr .iso15)), 0, by decide⟩,
   ⟨(att 304 (vo up (fun x => { x with grant := some gr, exchange := some { ex .open (fr .iso15) with latch := [0, 0, 0, 0, 1] }, abandoned := false }))), 3, gr, { ex .open (fr .iso15) with latch := [0, 0, 0, 0, 1] }, 30442, 0, by
    exact ⟨by decide, by decide, by decide, by decide, by decide, by decide, by decide, by decide, by decide, none_all (by decide), by decide⟩⟩,
   ⟨(att 304 (vo up (fun x => { x with grant := some gr, exchange := some { ex .open (fr .iso15) with prog := .apdu { bx with wtxFrom := some 7 } }, abandoned := false }))), 3, gr, { ex .open (fr .iso15) with prog := .apdu { bx with wtxFrom := some 7 } }, 30442, { bx with wtxFrom := some 7 }, 7, by decide⟩,
   ⟨(att 304 (vo up (fun x => { x with grant := some gr, exchange := some (ex .open (fr .iso15)), abandoned := false }))), 3, gr, (ex .open (fr .iso15)), 30441, by decide⟩,
   ⟨(att 400 (vo up (fun x => { x with grant := some gr, exchange := some (ex .open (fr .iso15Write)), abandoned := false }))), 3, gr, (ex .open (fr .iso15Write)), 32803, by decide⟩,
   ⟨(vo up (fun x => { x with grant := some gr, exchange := some (ex .open (fr .iso15)), abandoned := false })), 3, gr, (ex .open (fr .iso15)), 32803, by decide⟩,
   ⟨(due (.close 3) (vo up (fun x => { x with grant := some gr, exchange := some (ex .open (fr .iso15)), abandoned := false }))), 3, gr, (ex .open (fr .iso15)), by decide⟩,
   ⟨up, 3, (ex .open (fr .iso15)), 1, by decide⟩,
   ⟨(due (.wtx 3) (vo up (fun x => { x with grant := some gr, exchange := some { ex .open (fr .iso15) with prog := .apdu bx }, abandoned := false }))), 3, gr, { ex .open (fr .iso15) with prog := .apdu bx }, bx, by decide⟩⟩

/-- The premises of ReplyFrames can be met, each clause's. -/
theorem witness_ReplyFrames :
    (∃ (s : State) (v : VoiceId) (g : Grant) (x : Exchange) (f : TagFrame), let i := 0x2200 + g.step.channel; let dec := s.decoding v g.step x f; let endAt := s.replyEnd v g.step x f dec.truncated.isNone; (s.voices[v].grant = some g) ∧ (s.voices[v].exchange = some x) ∧ (x.air = .receiving) ∧ (s.cal.ready = []) ∧ (s.rd (ob (0x6100 + g.step.channel) 0x07) = 0) ∧ (g.step.channel < 64) ∧ (endAt < 100 * (s.now + 1)) ∧ (s.rd (ob i 0x06) + 1 < 2 ^ 32) ∧ (s.rd (ob i 0x08) + dec.run.changes < 2 ^ 32)) ∧
    (∃ (s : State) (v : VoiceId) (ch : Nat) (x : Exchange), (ch < 64) ∧ (∀ n ∈ [0x02, 0x03, 0x04, 0x07], s.rd (ob (0x2480 + v.val) n) + 1 < 2 ^ 32) ∧ (x.status = 0)) ∧
    (∃ (s : State) (v : VoiceId) (ch : Nat) (x : Exchange), (ch < 64) ∧ (∀ n ∈ [0x02, 0x03, 0x04, 0x07], s.rd (ob (0x2480 + v.val) n) + 1 < 2 ^ 32) ∧ (x.status ≠ 0)) ∧
    (∃ (s : State) (v : VoiceId) (g : Grant) (x : Exchange) (f : TagFrame), (s.voices[v].grant = some g) ∧ (s.voices[v].exchange = some x) ∧ (100 * (s.now + 1) ≤ s.replyEnd v g.step x f (s.decoding v g.step x f).truncated.isNone)) :=
  ⟨⟨(att 1000 (vo (O [(ob 0x6100 7, 0)]) (fun x => { x with grant := some gr, exchange := some (ex .receiving (fr .iso15)), abandoned := false }))), 3, gr, (ex .receiving (fr .iso15)), tf, by decide⟩,
   ⟨up, 3, 63, (ex .receiving (fr .iso15)), by decide⟩,
   ⟨up, 3, 63, { ex .receiving (fr .iso15) with status := 8 }, by decide⟩,
   ⟨(vo up (fun x => { x with grant := some gr, exchange := some { ex .receiving (fr .iso15) with ref := 100 }, abandoned := false })), 3, gr, { ex .receiving (fr .iso15) with ref := 100 }, tf, by decide⟩⟩

/-- The premises of CardDetection can be met, each clause's. -/
theorem witness_CardDetection :
    (∃ (s : State) (ch : Channel), (s.rd (ob (0x2500 + ch.val) 0x01) ≠ 0) ∧ (s.isDue (.probe ch) = true) ∧ (s.linkReady .field = true) ∧ (s.detBlocked ch.val = true)) ∧
    (∃ (s : State) (ch : Channel) (a : Nat), let i := 0x2500 + ch.val; let b := s.rd (ob i 0x04); let th := s.rd (ob i 0x03); let v := voiceOf ch.val; (s.rd (ob (0x2500 + ch.val) 0x01) ≠ 0) ∧ (s.isDue (.probe ch) = true) ∧ (s.linkReady .field = true) ∧ (s.detBlocked ch.val = false) ∧ (s.now < s.voices[v].probeEnd)) ∧
    (∃ (s : State) (ch : Channel) (a : Nat), let i := 0x2500 + ch.val; let b := s.rd (ob i 0x04); let th := s.rd (ob i 0x03); let v := voiceOf ch.val; (s.rd (ob (0x2500 + ch.val) 0x01) ≠ 0) ∧ (s.isDue (.probe ch) = true) ∧ (s.linkReady .field = true) ∧ (s.detBlocked ch.val = false) ∧ (s.voices[v].probeEnd ≤ s.now) ∧ (a < 65536) ∧ (s.rd (ob i 0x06) = 2 ∨ b = 0)) ∧
    (∃ (s : State) (ch : Channel) (a : Nat), let i := 0x2500 + ch.val; let b := s.rd (ob i 0x04); let th := s.rd (ob i 0x03); let v := voiceOf ch.val; (s.rd (ob (0x2500 + ch.val) 0x01) ≠ 0) ∧ (s.isDue (.probe ch) = true) ∧ (s.linkReady .field = true) ∧ (s.detBlocked ch.val = false) ∧ (s.voices[v].probeEnd ≤ s.now) ∧ (a < 65536) ∧ (s.rd (ob i 0x06) = 0) ∧ (0 < b) ∧ (a ≤ b) ∧ (th * b ≤ (b - a) * 1000)) ∧
    (∃ (s : State) (ch : Channel) (a : Nat), let i := 0x2500 + ch.val; let b := s.rd (ob i 0x04); let th := s.rd (ob i 0x03); let v := voiceOf ch.val; (s.rd (ob (0x2500 + ch.val) 0x01) ≠ 0) ∧ (s.isDue (.probe ch) = true) ∧ (s.linkReady .field = true) ∧ (s.detBlocked ch.val = false) ∧ (s.voices[v].probeEnd ≤ s.now) ∧ (a < 65536) ∧ (s.rd (ob i 0x06) = 0) ∧ (0 < b) ∧ (a ≤ b) ∧ ((b - a) * 1000 < th * b)) ∧
    (∃ (s : State) (ch : Channel) (a : Nat), let i := 0x2500 + ch.val; let b := s.rd (ob i 0x04); let th := s.rd (ob i 0x03); let v := voiceOf ch.val; (s.rd (ob (0x2500 + ch.val) 0x01) ≠ 0) ∧ (s.isDue (.probe ch) = true) ∧ (s.linkReady .field = true) ∧ (s.detBlocked ch.val = false) ∧ (s.voices[v].probeEnd ≤ s.now) ∧ (a < 65536) ∧ (s.rd (ob i 0x06) = 0) ∧ (0 < b) ∧ (b < a)) ∧
    (∃ (s : State) (ch : Channel) (a : Nat), let i := 0x2500 + ch.val; let b := s.rd (ob i 0x04); let th := s.rd (ob i 0x03); let v := voiceOf ch.val; (s.rd (ob (0x2500 + ch.val) 0x01) ≠ 0) ∧ (s.isDue (.probe ch) = true) ∧ (s.linkReady .field = true) ∧ (s.detBlocked ch.val = false) ∧ (s.voices[v].probeEnd ≤ s.now) ∧ (a < 65536) ∧ (s.rd (ob i 0x06) = 1) ∧ (0 < b) ∧ (b < a ∨ (b - a) * 2000 < th * b)) ∧
    (∃ (s : State) (ch : Channel) (a : Nat), let i := 0x2500 + ch.val; let b := s.rd (ob i 0x04); let th := s.rd (ob i 0x03); let v := voiceOf ch.val; (s.rd (ob (0x2500 + ch.val) 0x01) ≠ 0) ∧ (s.isDue (.probe ch) = true) ∧ (s.linkReady .field = true) ∧ (s.detBlocked ch.val = false) ∧ (s.voices[v].probeEnd ≤ s.now) ∧ (a < 65536) ∧ (s.rd (ob i 0x06) = 1) ∧ (0 < b) ∧ (a ≤ b) ∧ (th * b ≤ (b - a) * 2000)) ∧
    (∃ (s : State) (ch : Channel), (s.isDue (.probe ch) = false)) :=
  ⟨⟨(due (.probe 63) (vo (O [(ob 0x253F 1, 1), (ob 0x2003 1, 4), (ob 0x2003 2, 63)]) (fun x => { x with grant := some gr, held := some 63 }))), 63, by decide⟩,
   ⟨(due (.probe 63) (vo (O [(ob 0x253F 1, 1)]) (fun x => { x with probeEnd := 1 }))), 63, 0, by decide⟩,
   ⟨(due (.probe 63) (O [(ob 0x253F 1, 1), (ob 0x253F 3, 20), (ob 0x253F 4, 0), (ob 0x253F 6, 2)])), 63, 65535, by decide⟩,
   ⟨(due (.probe 63) (O [(ob 0x253F 1, 1), (ob 0x253F 3, 20), (ob 0x253F 4, 1000), (ob 0x253F 6, 0)])), 63, 980, by decide⟩,
   ⟨(due (.probe 63) (O [(ob 0x253F 1, 1), (ob 0x253F 3, 20), (ob 0x253F 4, 1000), (ob 0x253F 6, 0)])), 63, 981, by decide⟩,
   ⟨(due (.probe 63) (O [(ob 0x253F 1, 1), (ob 0x253F 3, 20), (ob 0x253F 4, 1000), (ob 0x253F 6, 0)])), 63, 1001, by decide⟩,
   ⟨(due (.probe 63) (O [(ob 0x253F 1, 1), (ob 0x253F 3, 20), (ob 0x253F 4, 1000), (ob 0x253F 6, 1)])), 63, 991, by decide⟩,
   ⟨(due (.probe 63) (O [(ob 0x253F 1, 1), (ob 0x253F 3, 20), (ob 0x253F 4, 1000), (ob 0x253F 6, 1)])), 63, 990, by decide⟩,
   ⟨up, 63, by decide⟩⟩

/-- The premises of KeySuspensionAndCrypto can be met, each clause's. -/
theorem witness_KeySuspensionAndCrypto :
    (∃ (s : State) (c : Nat), (s.isDue (.suspension c) = true) ∧ (s.rd (ob (0x9100 + c) 0x02) = 2)) ∧
    (∃ (s : State) (t : Tenant) (v : VoiceId) (g : Nat), (s.crypto.running = some (t, .auth v g)) ∧ (s.rd (ob (0x9020 + t.val) 0x09) + 1 < 2 ^ 32)) ∧
    (∃ (s : State) (t : Tenant) (u : Tenant) (id : Nat), (s.crypto.running = some (t, .import_ u id))) ∧
    (∃ (s : State), ((s.crypto.running = none ∨ ∃ t, s.crypto.running = some (t, .verify)))) :=
  ⟨⟨(due (.suspension 63) (O [(ob 0x913F 2, 2)])), 63, by decide⟩,
   ⟨{ up with crypto := { up.crypto with running := some (7, .auth 3 5) } }, 7, 3, 5, by decide⟩,
   ⟨{ up with crypto := { up.crypto with running := some (0, .import_ 7 5) } }, 0, 7, 5, by decide⟩,
   ⟨up, Or.inl (by decide)⟩⟩

/-- The premises of ThresholdRule can be met, each clause's. -/
theorem witness_ThresholdRule :
    (∃ (s : State) (t : Tenant) (j : Job) (n : Nat) (x : Nat), (n < 4) ∧ (x < 65536) ∧ (s.turn t = some j) ∧ (s.visible t (0x2280 + n) 0x01 = true) ∧ (s.transportOn t j.req.transport = true) ∧ (j.req.op = .write (0x2280 + n) 0x01 0 (u16 x)) ∧ (10 * x < 42 * s.rd (ob (0x2280 + n) 0x02))) ∧
    (∃ (s : State) (t : Tenant) (j : Job) (n : Nat) (x : Nat), (n < 4) ∧ (x < 65536) ∧ (s.turn t = some j) ∧ (s.visible t (0x2280 + n) 0x02 = true) ∧ (s.transportOn t j.req.transport = true) ∧ (j.req.op = .write (0x2280 + n) 0x02 0 (u16 x)) ∧ (10 * s.rd (ob (0x2280 + n) 0x01) < 42 * x)) :=
  ⟨⟨(req (O [(ob 0x2283 2, 100)]) 0x2283 1 0 (u16 419)), 0, (jb 0x2283 1 0 (u16 419)), 3, 419, by decide⟩,
   ⟨(req (O [(ob 0x2283 1, 419)]) 0x2283 2 0 (u16 100)), 0, (jb 0x2283 2 0 (u16 100)), 3, 100, by decide⟩⟩

/-- The premises of TuningRequests can be met, each clause's. -/
theorem witness_TuningRequests :
    (∃ (s : State) (t : Tenant) (j : Job), (s.Writes t j 0x6000 0x04 [1]) ∧ (s.rd (obT 0x6000 0x01 t) < 12) ∧ (s.rd (ob (0x6300 + s.rd (obT 0x6000 0x01 t)) 0x01) + 1 < 2 ^ 32)) ∧
    (∃ (s : State) (t : Tenant) (j : Job), (s.Writes t j 0x6000 0x04 [2]) ∧ (s.rd (obT 0x6000 0x01 t) ≠ 3)) ∧
    (∃ (s : State) (t : Tenant) (j : Job), (s.Writes t j 0x6000 0x04 [2]) ∧ (s.rd (obT 0x6000 0x01 t) = 3)) ∧
    (∃ (s : State) (t : Tenant) (j : Job), (s.Writes t j 0x6000 0x04 [3]) ∧ ((s.cal.running ++ s.cal.queue).filter (fun u => u.tenant == t && !u.auto) = []) ∧ (s.cal.queue = [])) ∧
    (∃ (s : State) (t : Tenant) (j : Job) (u : Tuning), (s.Writes t j 0x6000 0x04 [3]) ∧ ((s.cal.running ++ s.cal.queue).filter (fun u => u.tenant == t && !u.auto) = [u])) ∧
    (∃ (s : State) (k : Nat) (x : Nat), ((k, x) ∈ s.cal.autos) ∧ (s.targetIdle k x = true)) ∧
    (∃ (s : State) (k : Nat) (x : Nat), (((k, x) ∉ s.cal.autos ∨ s.targetIdle k x = false))) :=
  ⟨⟨(req (O [(obT 0x6000 1 0, 2), (obT 0x6000 2 0, 0), (obT 0x6000 3 0, 1), (ob 0x2100 1, 0)]) 0x6000 4 0 [1]), 0, (jb 0x6000 4 0 [1]), by unfold State.Writes State.WritesAt; decide⟩,
   ⟨(req { O [(obT 0x6000 1 0, 2), (obT 0x6000 2 0, 0), (ob 0x2100 1, 0)] with cal := { up.cal with user := [calKey 2 0] } } 0x6000 4 0 [2]), 0, (jb 0x6000 4 0 [2]), by unfold State.Writes State.WritesAt; decide⟩,
   ⟨(req { O [(obT 0x6000 1 0, 3), (obT 0x6000 2 0, 0), (ob 0x2100 1, 0)] with cal := { up.cal with user := [calKey 3 0] } } 0x6000 4 0 [2]), 0, (jb 0x6000 4 0 [2]), by unfold State.Writes State.WritesAt; decide⟩,
   ⟨(req (O [(obT 0x6000 1 0, 3), (obT 0x6000 2 0, 0), (ob 0x2100 1, 0)]) 0x6000 4 0 [3]), 0, (jb 0x6000 4 0 [3]), by unfold State.Writes State.WritesAt; decide⟩,
   ⟨(req { O [(obT 0x6000 1 0, 3), (obT 0x6000 2 0, 0), (ob 0x2100 1, 0)] with cal := { up.cal with running := [tun 3 0 1 1] } } 0x6000 4 0 [3]), 0, (jb 0x6000 4 0 [3]), (tun 3 0 1 1), by unfold State.Writes State.WritesAt; decide⟩,
   ⟨{ up with cal := { up.cal with autos := [(4, 0x100)] } }, 4, 0x100, by decide⟩,
   ⟨up, 4, 0x100, Or.inl (by decide)⟩⟩

/-- The premises of TuningRuns can be met, each clause's. -/
theorem witness_TuningRuns :
    (∃ (s : State) (u : Tuning), (s.tuningAt 1 = some u) ∧ (u.kind ≠ 0x0B) ∧ (u.auto = false)) ∧
    (∃ (s : State), (s.tuningAt 1 = none)) ∧
    (∃ (s : State) (u : Tuning) (v : VoiceId), (s.tuningAt 2 = some u) ∧ (u.voice = some v) ∧ (u.emits = true) ∧ (s.voices[v].serves u = true) ∧ (s.emitting v = true)) ∧
    (∃ (s : State) (u : Tuning) (a : Run) (b : Run), (s.cal.running.filter (fun u => u.stage == 4) = [u]) ∧ (u.kind ≠ 1) ∧ (u.first = some a) ∧ (u.last = some b) ∧ (runInRange u.kind a = true) ∧ (runInRange u.kind b = true) ∧ (runsAgree u.kind a b = true)) ∧
    (∃ (s : State) (u : Tuning) (a : Run) (b : Run), (s.cal.running.filter (fun u => u.stage == 4) = [u]) ∧ (u.kind ≠ 1) ∧ (u.first = some a) ∧ (u.last = some b) ∧ ((runInRange u.kind a && runInRange u.kind b) = false)) ∧
    (∃ (s : State) (u : Tuning) (a : Run) (b : Run), (s.cal.running.filter (fun u => u.stage == 4) = [u]) ∧ (u.kind ≠ 1) ∧ (u.first = some a) ∧ (u.last = some b) ∧ (runInRange u.kind a = true) ∧ (runInRange u.kind b = true) ∧ (runsAgree u.kind a b = false)) ∧
    (∃ (s : State) (u : Tuning) (a : Run) (b : Run), (s.tuningAt 2 = some u) ∧ (u.voice = none ∨ u.emits = false) ∧ (u.kind ≠ 0x0B) ∧ (u.kind ≠ 1) ∧ (u.first = some a) ∧ (runInRange u.kind a = true) ∧ (runInRange u.kind b = true) ∧ (runsAgree u.kind a b = true)) ∧
    (∃ (s : State) (u : Tuning) (a : Run) (b : Run), (s.tuningAt 2 = some u) ∧ (u.voice = none ∨ u.emits = false) ∧ (u.kind ≠ 0x0B) ∧ (u.kind ≠ 1) ∧ (u.first = some a) ∧ ((runInRange u.kind a && runInRange u.kind b) = false)) ∧
    (∃ (s : State) (u : Tuning) (a : Run) (b : Run), (s.tuningAt 2 = some u) ∧ (u.voice = none ∨ u.emits = false) ∧ (u.kind ≠ 0x0B) ∧ (u.kind ≠ 1) ∧ (u.first = some a) ∧ (runInRange u.kind a = true) ∧ (runInRange u.kind b = true) ∧ (runsAgree u.kind a b = false)) ∧
    (∃ (s : State), (s.tuningAt 2 = none)) ∧
    (∃ (s : State) (u : Tuning), (0 < u.kind) ∧ (u.kind < 12) ∧ (u.voice = none) ∧ (s.rd (ob (0x6300 + u.kind) 0x02) + 1 < 2 ^ 32) ∧ (s.rd (ob (0x6300 + u.kind) 0x03) + 1 < 2 ^ 32) ∧ (u.auto = false)) :=
  ⟨⟨{ up with cal := { up.cal with running := [tun 4 0x103 1 1] } }, (tun 4 0x103 1 1), by decide⟩,
   ⟨up, by decide⟩,
   ⟨{ vo (O [(ob 0x2003 1, 4)]) (fun x => { x with grant := some { gr with step := { ds with channel := 63, tuning := some (3, 63) } } }) with cal := { up.cal with running := [{ tun 3 63 1 2 with voice := some 3 }] } }, { tun 3 63 1 2 with voice := some 3 }, 3, by decide⟩,
   ⟨{ up with cal := { up.cal with running := [{ tun 3 63 1 4 with first := some ⟨[511, -511], true⟩, last := some ⟨[507, -507], true⟩ }] } }, { tun 3 63 1 4 with first := some ⟨[511, -511], true⟩, last := some ⟨[507, -507], true⟩ }, ⟨[511, -511], true⟩, ⟨[507, -507], true⟩, by decide⟩,
   ⟨{ up with cal := { up.cal with running := [{ tun 3 63 1 4 with first := some ⟨[511, -511], true⟩, last := some ⟨[512, -507], true⟩ }] } }, { tun 3 63 1 4 with first := some ⟨[511, -511], true⟩, last := some ⟨[512, -507], true⟩ }, ⟨[511, -511], true⟩, ⟨[512, -507], true⟩, by decide⟩,
   ⟨{ up with cal := { up.cal with running := [{ tun 3 63 1 4 with first := some ⟨[511, -511], true⟩, last := some ⟨[506, -507], true⟩ }] } }, { tun 3 63 1 4 with first := some ⟨[511, -511], true⟩, last := some ⟨[506, -507], true⟩ }, ⟨[511, -511], true⟩, ⟨[506, -507], true⟩, by decide⟩,
   ⟨{ up with cal := { up.cal with running := [{ tun 3 63 1 2 with first := some ⟨[511, -511], true⟩ }] } }, { tun 3 63 1 2 with first := some ⟨[511, -511], true⟩ }, ⟨[511, -511], true⟩, ⟨[507, -507], true⟩, by decide⟩,
   ⟨{ up with cal := { up.cal with running := [{ tun 3 63 1 2 with first := some ⟨[511, -511], true⟩ }] } }, { tun 3 63 1 2 with first := some ⟨[511, -511], true⟩ }, ⟨[511, -511], true⟩, ⟨[512, -507], true⟩, by decide⟩,
   ⟨{ up with cal := { up.cal with running := [{ tun 3 63 1 2 with first := some ⟨[511, -511], true⟩ }] } }, { tun 3 63 1 2 with first := some ⟨[511, -511], true⟩ }, ⟨[511, -511], true⟩, ⟨[506, -507], true⟩, by decide⟩,
   ⟨up, by decide⟩,
   ⟨up, (tun 11 0x300 1 1), by decide⟩⟩

/-- The premises of BackgroundWindows can be met, each clause's. -/
theorem witness_BackgroundWindows :
    (∃ (s : State) (ch : Channel), (s.rd (ob (0x6100 + ch.val) 0x07) ≠ 0) ∧ (s.referenceRuns ch.val = false) ∧ ((s.track ch.val).stopped = false) ∧ (s.rd (ob 0x6010 0x06) ≤ (s.track ch.val).count) ∧ ((s.track ch.val).prev = none)) ∧
    (∃ (s : State) (ch : Channel) (w : _), (s.rd (ob (0x6100 + ch.val) 0x07) ≠ 0) ∧ (s.referenceRuns ch.val = false) ∧ ((s.track ch.val).stopped = false) ∧ (s.rd (ob 0x6010 0x06) ≤ (s.track ch.val).count) ∧ ((s.track ch.val).prev = some w) ∧ (antStep (s.rdInt (ob (0x6100 + ch.val) 0x04)) w ((s.track ch.val).sum, (s.track ch.val).count) = 0)) ∧
    (∃ (s : State) (ch : Channel) (w : _) (c : _), (s.rd (ob (0x6100 + ch.val) 0x07) ≠ 0) ∧ (s.referenceRuns ch.val = false) ∧ ((s.track ch.val).stopped = false) ∧ (s.rd (ob 0x6010 0x06) ≤ (s.track ch.val).count) ∧ ((s.track ch.val).prev = some w) ∧ (antStep (s.rdInt (ob (0x6100 + ch.val) 0x04)) w ((s.track ch.val).sum, (s.track ch.val).count) = c) ∧ (c ≠ 0) ∧ ((s.rdInt (ob (0x6100 + ch.val) 0x06) + c).natAbs ≤ s.rd (ob 0x6010 0x07))) ∧
    (∃ (s : State) (ch : Channel), (s.rd (ob (0x6100 + ch.val) 0x07) ≠ 0) ∧ (s.referenceRuns ch.val = false) ∧ (32 ≤ s.windowCount (calKey 3 ch.val))) ∧
    (∃ (s : State) (v : VoiceId), (s.rd (ob (0x6180 + v.val) 0x05) ≠ 0) ∧ (s.referenceRuns (0x100 + v.val) = false) ∧ (4096 ≤ s.windowCount (calKey 4 (0x100 + v.val)))) ∧
    (∃ (s : State) (v : VoiceId), (s.rd (ob (0x6180 + v.val) 0x05) ≠ 0) ∧ (s.referenceRuns (0x100 + v.val) = false) ∧ (32 ≤ s.windowCount (calKey 5 (0x100 + v.val)))) ∧
    (∃ (s : State) (k : Nat) (x : Nat), ((∀ w, (calKey k x, w) ∉ s.cal.windows))) ∧
    (∃ (s : State) (ch : Nat) (a : Int × Int) (b : Int × Int) (w : List (Nat × List Int)), (s.cal.windows = (calKey 3 ch, [a.1, a.2]) :: w) ∧ ((a.1 - b.1).natAbs ≤ 4) ∧ ((a.2 - b.2).natAbs ≤ 4) ∧ ((b.1 ≠ 0 ∨ b.2 ≠ 0))) ∧
    (∃ (s : State) (ch : Nat) (a : Int × Int) (b : Int × Int) (w : List (Nat × List Int)), (s.cal.windows = (calKey 3 ch, [a.1, a.2]) :: w) ∧ (4 < (a.1 - b.1).natAbs ∨ 4 < (a.2 - b.2).natAbs ∨ (b.1 = 0 ∧ b.2 = 0))) ∧
    (∃ (s : State), (s.rd (ob 0x6200 0x07) ≠ 0) ∧ (s.referenceRuns 0x200 = false) ∧ (s.rd (ob 0x6200 0x03) ≠ 2) ∧ (s.rd (ob 0x6200 0x01) = 0)) ∧
    (∃ (s : State) (c : Instr) (ch : Channel) (v : VoiceId) (r : Run), (((c = .offsetBackgroundWindow ch r ∧ (s.rd (ob (0x6100 + ch.val) 0x07) = 0 ∨ s.windowCount (calKey 3 ch.val) < 32)) ∨ (c = .antBackgroundWindow ch ∧ s.rd (ob (0x6100 + ch.val) 0x07) = 0) ∨ ((c = .iqBackgroundWindow v r ∨ c = .gainBackgroundWindow v r) ∧ s.rd (ob (0x6180 + v.val) 0x05) = 0) ∨ (c = .sliceBackgroundWindow r ∧ s.rd (ob 0x6200 0x07) = 0)))) :=
  ⟨⟨{ O [(ob 0x613F 7, 1), (ob 0x6010 6, 5)] with cal := { up.cal with tracks := [(63, ⟨0, 5, none, false⟩)] } }, 63, by decide⟩,
   ⟨{ O [(ob 0x613F 7, 1), (ob 0x6010 6, 5)] with cal := { up.cal with tracks := [(63, ⟨0, 5, some (0, 5), false⟩)] } }, 63, (0, 5), by decide⟩,
   ⟨{ O [(ob 0x613F 4, 1), (ob 0x613F 7, 1), (ob 0x6010 6, 5), (ob 0x6010 7, 7)] with cal := { up.cal with tracks := [(63, ⟨-50000, 5, some (-50000, 5), false⟩)] } }, 63, (-50000, 5), 1, by decide⟩,
   ⟨{ O [(ob 0x613F 7, 1), (ob 0x6183 5, 1)] with cal := { up.cal with counts := [(calKey 3 63, 32)] } }, 63, by decide⟩,
   ⟨{ O [(ob 0x613F 7, 1), (ob 0x6183 5, 1)] with cal := { up.cal with counts := [(calKey 4 0x103, 4096)] } }, 3, by decide⟩,
   ⟨{ O [(ob 0x613F 7, 1), (ob 0x6183 5, 1)] with cal := { up.cal with counts := [(calKey 5 0x103, 32)] } }, 3, by decide⟩,
   ⟨up, 3, 63, fun w h => by cases h⟩,
   ⟨{ up with cal := { up.cal with windows := [(calKey 3 63, [8, -8])] } }, 63, (8, -8), (4, -4), [], by decide⟩,
   ⟨{ up with cal := { up.cal with windows := [(calKey 3 63, [8, -8])] } }, 63, (8, -8), (3, -4), [], by decide⟩,
   ⟨(P (ob 0x6200 1) 0 (O [(ob 0x6200 3, 1)])), by decide⟩,
   ⟨(O [(ob 0x6200 7, 0)]), (.sliceBackgroundWindow ⟨[], true⟩), 0, 0, ⟨[], true⟩, Or.inr (Or.inr (Or.inr ⟨rfl, by decide⟩))⟩⟩

/-- The premises of SlicesCueAndReference can be met, each clause's. -/
theorem witness_SlicesCueAndReference :
    (∃ (s : State) (i : Fin 12) (w : List Int), (s.cal.windows.find? (fun p => p.1 == calKey 8 0x200) = some (calKey 8 0x200, w)) ∧ ((s.rd (ob 0x6200 0x01)).testBit i.val = true) ∧ (sliceBad w i.val = true) ∧ (s.inAirFrame = false)) ∧
    (∃ (s : State) (i : Fin 12), ((s.rd (ob 0x6200 0x01)).testBit i.val = false)) ∧
    (∃ (s : State) (m : Nat), (s.isDue .cueHour = true) ∧ (s.rd (ob 0x6200 0x07) ≠ 0) ∧ (s.referenceRuns 0x200 = false) ∧ (s.cal.heard = true) ∧ (s.cal.hour = some m)) ∧
    (∃ (s : State), (s.isDue .cueHour = true) ∧ (s.rd (ob 0x6200 0x07) ≠ 0) ∧ (s.referenceRuns 0x200 = false) ∧ (s.cal.heard = true) ∧ (s.cal.hour = none)) ∧
    (∃ (s : State), (s.isDue .cueHour = true) ∧ (s.rd (ob 0x6200 0x07) ≠ 0) ∧ (s.cal.heard = false)) ∧
    (∃ (s : State) (t : Tenant) (u : _), (s.isDue (.refEdge t) = true) ∧ (s.cal.running.find? (fun u => u.method == 2 && u.tenant == t) = some u)) ∧
    (∃ (s : State) (t : Tenant), (s.isDue (.refEdge t) = true) ∧ (s.cal.running.find? (fun u => u.method == 2 && u.tenant == t) = none)) ∧
    (∃ (s : State) (u : Tuning), (s.gated = some u) ∧ (u.stage = 1) ∧ (u.kind = 0x0A)) ∧
    (∃ (s : State), (s.gated = none)) :=
  ⟨⟨{ P (ob 0x6200 1) (2 ^ 11) up with cal := { up.cal with windows := [(calKey 8 0x200, List.replicate 11 0 ++ [513])] } }, 11, (List.replicate 11 0 ++ [513]), by decide⟩,
   ⟨(P (ob 0x6200 1) 0 up), 11, by decide⟩,
   ⟨(due .cueHour { O [(ob 0x6200 7, 1)] with cal := { up.cal with hour := some 3, heard := true } }), 3, by decide⟩,
   ⟨(due .cueHour { O [(ob 0x6200 7, 1)] with cal := { up.cal with heard := true } }), by decide⟩,
   ⟨(due .cueHour (O [(ob 0x6200 7, 1)])), by decide⟩,
   ⟨(due (.refEdge 0) { up with cal := { up.cal with running := [tun 10 0 2 1] } }), 0, (tun 10 0 2 1), by decide⟩,
   ⟨(due (.refEdge 0) up), 0, by decide⟩,
   ⟨{ up with cal := { up.cal with running := [tun 10 0 2 1] } }, (tun 10 0 2 1), by decide⟩,
   ⟨up, by decide⟩⟩

/-- The premises of AirStartAndReceiver can be met, each clause's. -/
theorem witness_AirStartAndReceiver :
    (∃ (s : State), (s.airState = 0) ∧ (s.airServes = true) ∧ (s.air.cueState = 0)) ∧
    (∃ (s : State) (n : Nat), (s.airState = 1) ∧ (s.isDue .airStart = true) ∧ (1219 ≤ n) ∧ (n ≤ 1222)) ∧
    (∃ (s : State) (n : Nat), (s.airState = 1) ∧ (s.isDue .airStart = true) ∧ (n < 1219 ∨ 1222 < n)) ∧
    (∃ (s : State), (s.airState = 1) ∧ (s.isDue .airClock = true)) ∧
    (∃ (s : State), (s.rd (ob 0x6200 0x03) ≠ 2) ∧ (s.air.stop = false) ∧ (s.cal.ready = []) ∧ (s.cal.queue = []) ∧ (s.airServes = true)) ∧
    (∃ (s : State), (s.airState = 2)) ∧
    (∃ (s : State), (s.airState ≠ 0) ∧ (s.airState ≠ 2)) ∧
    (∃ (s : State), (s.airState = 2) ∧ (s.slicesTuned = false)) ∧
    (∃ (s : State), (s.airState = 3) ∧ (s.rd (ob 0x4050 0x06) + 1 < 2 ^ 32)) ∧
    (∃ (s : State), (s.airState = 3) ∧ (s.isDue .preamble = true) ∧ (s.rd (ob 0x4050 0x08) + 1 < 2 ^ 32)) ∧
    (∃ (s : State) (f : AirIn) (x : AirSignal), (s.airState = 4) ∧ (x.peak < 511) ∧ (f.modeSwitch = false) ∧ (f.psdu.length ≤ 255)) ∧
    (∃ (s : State) (f : AirIn) (x : AirSignal), (s.airState = 4) ∧ (x.peak < 511) ∧ ((f.modeSwitch = true ∨ 255 < f.psdu.length)) ∧ (s.rd (ob 0x4130 0x0E) + 1 < 2 ^ 32)) :=
  ⟨⟨(A 0 []), by decide⟩,
   ⟨(due .airStart (A 1 [])), 1219, by decide⟩,
   ⟨(due .airStart (A 1 [])), 1223, by decide⟩,
   ⟨(due .airClock (A 1 [])), by decide⟩,
   ⟨(A 0 []), by decide⟩,
   ⟨(A 2 []), by decide⟩,
   ⟨(A 5 []), by decide⟩,
   ⟨(A 2 []), by decide⟩,
   ⟨(A 3 []), by decide⟩,
   ⟨(due .preamble (A 3 [])), by decide⟩,
   ⟨(A 4 []), (af (List.replicate 255 0)), sig, by decide⟩,
   ⟨(A 4 []), (af (List.replicate 256 0)), sig, by decide⟩⟩

/-- The premises of AirTransmitOn can be met, each clause's. -/
theorem witness_AirTransmitOn :
    (∃ (s : State), (s.air.requests = [])) ∧
    (∃ (s : State) (r : TxReq) (l : List TxReq), (s.air.requests = r :: l) ∧ ((s.airServes = false ∨ s.linkReady .air = false))) ∧
    (∃ (s : State) (r : TxReq) (l : List TxReq), (s.air.requests = r :: l) ∧ (s.airServes = true) ∧ (s.linkReady .air = true) ∧ (s.slicesTuned = false) ∧ (s.air.first = none) ∧ (s.rst.quiescing = none) ∧ (s.airState = 0)) ∧
    (∃ (s : State) (r : TxReq) (l : List TxReq) (n : _), (s.air.requests = r :: l) ∧ (s.airServes = true) ∧ (s.linkReady .air = true) ∧ (s.slicesTuned = false) ∧ (s.air.first = none) ∧ (s.rst.quiescing = none) ∧ (s.airState = 2) ∧ (s.txCheck r = .inl n)) ∧
    (∃ (s : State) (r : TxReq) (l : List TxReq) (q : _), (s.air.requests = r :: l) ∧ (s.airServes = true) ∧ (s.linkReady .air = true) ∧ (s.slicesTuned = false) ∧ (s.air.first = none) ∧ (s.rst.quiescing = none) ∧ (s.airState = 2) ∧ (s.txCheck r = .inr q)) ∧
    (∃ (s : State) (r : TxReq) (l : List TxReq) (n : _), (s.air.requests = r :: l) ∧ (s.airServes = true) ∧ (s.linkReady .air = true) ∧ (s.slicesTuned = false) ∧ (s.air.first = none) ∧ (s.rst.quiescing = none) ∧ (s.airState = 7) ∧ (s.air.counted = false) ∧ (s.txCheck r = .inl n)) ∧
    (∃ (s : State) (r : TxReq) (l : List TxReq) (q : _), (s.air.requests = r :: l) ∧ (s.airServes = true) ∧ (s.linkReady .air = true) ∧ (s.slicesTuned = false) ∧ (s.air.first = none) ∧ (s.rst.quiescing = none) ∧ (s.airState = 7) ∧ (s.air.counted = false) ∧ (s.txCheck r = .inr q)) ∧
    (∃ (s : State), (s.profile = 0)) ∧
    (∃ (s : State), (s.profile ≠ 0) ∧ (s.airState = 8)) ∧
    (∃ (s : State), (s.airState = 5) ∧ (s.frontEnd = true) ∧ (s.isDue .xpaEnOn = true)) ∧
    (∃ (s : State), (s.airState = 5) ∧ (s.frontEnd = true) ∧ (s.isDue .paSupply = true)) ∧
    (∃ (s : State), (s.airState = 5) ∧ (s.isDue .bias = true) ∧ (s.air.synLocked = false)) ∧
    (∃ (s : State) (r : TxReq) (c : Instr), (s.airState = 5) ∧ (s.air.tx = some r) ∧ (s.isArmed .paUp = false) ∧ (((c = .biasSettled ∧ s.isDue .bias = true ∧ s.air.synLocked = true) ∨ (c = .synLockDone ∧ s.isArmed .synLock = true ∧ s.air.biasDone = true)))) ∧
    (∃ (s : State) (r : TxReq) (x : Csma), (s.airState = 5) ∧ (s.air.tx = some r) ∧ (s.isArmed .paUp = false) ∧ (s.isDue .bias = true) ∧ (s.air.synLocked = true) ∧ (r.use = .data) ∧ (s.mac.csma = some x) ∧ (x.frame.psdu ≠ [])) ∧
    (∃ (s : State), (s.airState = 5) ∧ (s.isArmed .synLock = true) ∧ (s.air.biasDone = false)) ∧
    (∃ (s : State) (r : TxReq), (s.airState = 5) ∧ (s.air.tx = some r) ∧ (s.isDue .synLock = true) ∧ (s.rd (ob 0x4020 0x05) + 1 < 2 ^ 16)) ∧
    (∃ (s : State) (r : TxReq), (s.airState = 5) ∧ (s.air.tx = some r) ∧ (s.isDue .paUp = true)) ∧
    (∃ (s : State) (r : TxReq), (s.airState = 6) ∧ (s.air.tx = some r) ∧ (s.isDue .txEnd = true)) :=
  ⟨⟨up, by decide⟩,
   ⟨{ up with air := { Air.reset with requests := [txq] } }, txq, [], by decide⟩,
   ⟨{ (A 0 []) with air := { Air.reset with requests := [txq] } }, txq, [], by decide⟩,
   ⟨{ (A 2 [(ob 0x4000 1, 1)]) with air := { Air.reset with requests := [{ txq with index := 600 }] } }, { txq with index := 600 }, [], 3, by decide⟩,
   ⟨{ (P (ob 0x4030 11) 0 (P (ob 0x4030 10) 0 (A 2 [(ob 0x4000 1, 1)]))) with air := { Air.reset with requests := [txq] } }, txq, [], okTx (P (ob 0x4030 11) 0 (P (ob 0x4030 10) 0 (A 2 [(ob 0x4000 1, 1)]))) txq, by decide⟩,
   ⟨{ (A 7 [(ob 0x4000 1, 1)]) with air := { Air.reset with requests := [{ txq with index := 600 }] } }, { txq with index := 600 }, [], 3, by decide⟩,
   ⟨{ (P (ob 0x4030 11) 0 (P (ob 0x4030 10) 0 (A 7 [(ob 0x4000 1, 1)]))) with air := { Air.reset with requests := [txq] } }, txq, [], okTx (P (ob 0x4030 11) 0 (P (ob 0x4030 10) 0 (A 7 [(ob 0x4000 1, 1)]))) txq, by decide⟩,
   ⟨up, by decide⟩,
   ⟨(A 8 [(ob 0x4000 1, 1)]), by decide⟩,
   ⟨(due .xpaEnOn (A 5 [(ob 0x4030 1, 1)])), by decide⟩,
   ⟨(due .paSupply (A 5 [(ob 0x4030 1, 1)])), by decide⟩,
   ⟨(due .bias (A 5 [])), by decide⟩,
   ⟨(due .synLock (onTx { A 5 [] with air := { Air.reset with biasDone := true } })), txq, .synLockDone, by refine ⟨?_, ?_, ?_, Or.inr ⟨rfl, ?_⟩⟩ <;> decide⟩,
   ⟨(due .bias { A 5 [] with air := { Air.reset with tx := some { txq with use := .data }, synLocked := true }, mac := { up.mac with csma := some ⟨⟨.poll, .short 9, [], none, [1]⟩, 0, 0, 3, .air⟩ } }), { txq with use := .data }, ⟨⟨.poll, .short 9, [], none, [1]⟩, 0, 0, 3, .air⟩, by decide⟩,
   ⟨(due .synLock (A 5 [])), by decide⟩,
   ⟨(due .synLock (onTx (A 5 []))), txq, by decide⟩,
   ⟨(due .paUp (onTx (A 5 []))), txq, by decide⟩,
   ⟨(due .txEnd (onTx (A 6 []))), txq, by decide⟩⟩

/-- The premises of AirTransmitOff can be met, each clause's. -/
theorem witness_AirTransmitOff :
    (∃ (s : State) (r : TxReq), (s.airState = 7) ∧ (s.air.tx = some r) ∧ (s.isDue .paDown = true) ∧ ((∀ c p, r.use ≠ .cue c p)) ∧ (r.path = 1)) ∧
    (∃ (s : State) (r : TxReq), (s.airState = 7) ∧ (s.air.tx = some r) ∧ (s.isDue .paDown = true) ∧ ((∀ c p, r.use ≠ .cue c p)) ∧ (r.path ≠ 1) ∧ (s.air.counted = false)) ∧
    (∃ (s : State), (s.isDue .xpaEnOff = true)) ∧
    (∃ (s : State), (s.isDue .discharge = true) ∧ (s.air.counted = false)) ∧
    (∃ (s : State) (r : TxReq) (l : List TxReq), (s.isDue .discharge = true) ∧ (s.air.counted = true) ∧ (s.airState = 7) ∧ (s.air.requests = r :: l)) ∧
    (∃ (s : State), (s.airState = 7) ∧ (s.isDue .offDone = true) ∧ (s.air.counted = false)) ∧
    (∃ (s : State), (s.airServes = false) ∧ (s.air.synLocked = false) ∧ (s.air.cueState = 0)) ∧
    (∃ (s : State), (s.isDue .synHold = true) ∧ (s.cal.ready = [])) ∧
    (∃ (s : State), (s.isDue .airBin = true)) :=
  ⟨⟨(due .paDown { A 7 [] with air := { Air.reset with tx := some { txq with path := 1 } } }), { txq with path := 1 }, ⟨by decide, by decide, by decide, (by intro _ _ h; cases h), by decide⟩⟩,
   ⟨(due .paDown (onTx (A 7 []))), txq, ⟨by decide, by decide, by decide, (by intro _ _ h; cases h), by decide, by decide⟩⟩,
   ⟨(due .xpaEnOff (A 7 [])), by decide⟩,
   ⟨(due .discharge (A 7 [])), by decide⟩,
   ⟨(due .discharge { A 7 [] with air := { Air.reset with counted := true, requests := [txq] } }), txq, [], by decide⟩,
   ⟨(due .offDone (A 7 [])), by decide⟩,
   ⟨up, by decide⟩,
   ⟨(due .synHold (A 2 [])), by decide⟩,
   ⟨(due .airBin (A 2 [])), by decide⟩⟩

/-- The premises of SealingAndStore can be met, each clause's. -/
theorem witness_SealingAndStore :
    (∃ (s : State) (t : Tenant) (j : Job) (v : Nat), (v = 1 ∨ v = 2) ∧ (s.Writes t j 0x4000 0x02 (u8 v)) ∧ (s.air.sealing = none)) ∧
    (∃ (s : State) (t : Tenant) (j : Job) (v : Nat), (s.Writes t j 0x4000 0x03 (u8 v)) ∧ (v < 256)) ∧
    (∃ (s : State) (c : Nat) (b : Nat), (s.air.sealing = some (c, b)) ∧ (s.rd (ob 0x4000 0x04) = 6) ∧ (s.air.slots.length < 2)) ∧
    (∃ (s : State) (c : Nat) (b : Nat), (s.air.sealing = some (c, b)) ∧ (s.rd (ob 0x4000 0x04) = 6) ∧ (s.air.slots.length = 2)) ∧
    (∃ (s : State) (d : Nat), (s.dueAt .sealWindow = some d) ∧ (d < s.now)) ∧
    (∃ (s : State) (d : Nat), (s.dueAt .sealWindow = some d) ∧ (s.now ≤ d)) ∧
    (∃ (s : State) (t : Tenant) (j : Job) (n : Nat) (x : Nat), (n ∈ [2, 3, 4]) ∧ (x < 2 ^ 16) ∧ (s.Writes t j 0x4030 n (u16 x))) ∧
    (∃ (s : State) (n : Nat), (n ∈ [2, 3, 4]) ∧ (s.profile ≠ 0)) ∧
    (∃ (s : State) (k : Nat) (l : List Nat) (u : Tuning), (s.air.retune = k :: l) ∧ (s.cal.running.find? (fun u => u.kind == 9) = some u) ∧ (s.airState = 2) ∧ (s.air.first = none) ∧ (u.auto = true)) ∧
    (∃ (s : State) (r : Run) (k : Nat) (u : Tuning) (a : Run), (s.air.retune = [k]) ∧ (s.cal.running.find? (fun u => u.kind == 9) = some u) ∧ (s.airState = 2) ∧ (s.air.first = some a) ∧ (judgeRuns 9 a r ≠ 0)) ∧
    (∃ (s : State) (r : Run) (k : Nat) (u : Tuning) (a : Run), (s.air.retune = [k]) ∧ (s.cal.running.find? (fun u => u.kind == 9) = some u) ∧ (s.airState = 2) ∧ (s.air.first = some a) ∧ (judgeRuns 9 a r = 0)) ∧
    (∃ (s : State), (s.txIdle = false)) ∧
    (∃ (s : State), (s.txIdle = true) ∧ (s.rd (ob 0x4000 0x04) < 5) ∧ ((∀ u ∈ s.cal.queue ++ s.cal.running, u.kind ≠ 9)) ∧ ((9, 0x600) ∈ s.cal.autos)) :=
  ⟨⟨(req (A 0 []) 0x4000 2 0 (u8 2)), 0, (jb 0x4000 2 0 (u8 2)), 2, by unfold State.Writes State.WritesAt; decide⟩,
   ⟨(req { A 0 [(ob 0x4000 4, 5)] with air := { Air.reset with sealing := some (1, 0) } } 0x4000 3 0 (u8 254)), 0, (jb 0x4000 3 0 (u8 254)), 254, by unfold State.Writes State.WritesAt; decide⟩,
   ⟨{ A 0 [(ob 0x4000 4, 6)] with air := { Air.reset with sealing := some (1, 0), slots := [(0, false)] } }, 1, 0, by decide⟩,
   ⟨{ A 0 [(ob 0x4000 4, 6)] with air := { Air.reset with sealing := some (1, 0), slots := [(0, false), (0, false)] } }, 1, 0, by decide⟩,
   ⟨((A 0 []).arm .sealWindow 5 |> att 6), 5, by decide⟩,
   ⟨((A 0 []).arm .sealWindow 5 |> att 5), 5, by decide⟩,
   ⟨(req (A 0 []) 0x4030 4 0 (u16 100)), 0, (jb 0x4030 4 0 (u16 100)), 4, 100, by unfold State.Writes State.WritesAt; decide⟩,
   ⟨(A 0 [(ob 0x4000 1, 1)]), 2, by decide⟩,
   ⟨{ A 2 [] with air := { Air.reset with retune := [0, 1], first := none }, cal := { State.reset.cal with running := [{ tun 9 0x600 1 1 with auto := true }] } }, 0, [1], { tun 9 0x600 1 1 with auto := true }, by decide⟩,
   ⟨{ A 2 [] with air := { Air.reset with retune := [3], first := some ⟨[1], true⟩ }, cal := { State.reset.cal with running := [{ tun 9 0x600 1 1 with auto := true }] } }, ⟨[1], false⟩, 3, { tun 9 0x600 1 1 with auto := true }, ⟨[1], true⟩, by decide⟩,
   ⟨{ A 2 [] with air := { Air.reset with retune := [3], first := some ⟨[1, 16, 10, 0], true⟩ }, cal := { State.reset.cal with running := [{ tun 9 0x600 1 1 with auto := true }] } }, ⟨[1, 16, 10, 0], true⟩, 3, { tun 9 0x600 1 1 with auto := true }, ⟨[1, 16, 10, 0], true⟩, by decide⟩,
   ⟨(A 5 []), by decide⟩,
   ⟨{ A 2 [] with cal := { State.reset.cal with autos := [(9, 0x600)] } }, by decide⟩⟩

/-- The premises of CueReceiver can be met, each clause's. -/
theorem witness_CueReceiver :
    (∃ (s : State) (d : Nat) (x : Int), (s.air.cueState = 1) ∧ (s.dueAt .cueListen = some d) ∧ (d ≤ s.now) ∧ (s.cal.ready = []) ∧ (x ≤ s.cueThreshold) ∧ (∀ u ∈ s.cal.running, u.kind ≠ 7)) ∧
    (∃ (s : State) (d : Nat), (s.air.cueState = 1) ∧ (s.dueAt .cueListen = some d) ∧ (d ≤ s.now) ∧ (s.cal.ready = []) ∧ (∃ u ∈ s.cal.running, u.kind = 7)) ∧
    (∃ (s : State) (d : Nat) (x : Int), (s.air.cueState = 1) ∧ (s.dueAt .cueListen = some d) ∧ (d ≤ s.now) ∧ (s.cal.ready = []) ∧ (s.cueThreshold < x) ∧ (∀ u ∈ s.cal.running, u.kind ≠ 7)) ∧
    (∃ (s : State), (s.air.cueState = 2) ∧ (s.isDue .cueGiveUp = true)) ∧
    (∃ (s : State) (w : _), (s.air.cueState = 2) ∧ (s.cueMatches w = false)) ∧
    (∃ (s : State) (w : _), (s.air.cueState = 2) ∧ (s.cueMatches w = true) ∧ (s.rd (ob 0x4040 0x05) + 1 < 2 ^ 32)) ∧
    (∃ (s : State), (s.air.cueState ≠ 2)) ∧
    (∃ (s : State), (s.rd (ob 0x4040 0x06) + 1 < 2 ^ 32)) ∧
    (∃ (s : State), (s.air.cueState = 3) ∧ (s.isDue .cueStop = true) ∧ (s.cal.ready = []) ∧ (s.cueWanted = false)) ∧
    (∃ (s : State), (s.air.cueState = 3) ∧ (s.isDue .cueStop = true) ∧ (s.cal.ready = []) ∧ (s.cueWanted = true)) ∧
    (∃ (s : State) (c : Csma) (p g : Int), (s.dropStale = s) ∧ (s.mac.csma = some c) ∧ (c.stage = .listen) ∧ (s.isDue .lbt = true) ∧ ((s.lbtOf s.workChannel).1 ≤ s.atAntenna (s.rd (ob 0x4050 0x03)) p g) ∧ (s.rd (ob 0x4130 0x05) + 1 < 2 ^ 32)) ∧
    (∃ (s : State) (c : Csma) (p g : Int), (s.dropStale = s) ∧ (s.mac.csma = some c) ∧ (c.stage = .listen) ∧ (s.isDue .lbt = true) ∧ (s.atAntenna (s.rd (ob 0x4050 0x03)) p g < (s.lbtOf s.workChannel).1) ∧ (s.fitsSlot (s.exchangeUs c) = true)) :=
  ⟨⟨(({ (P (ob 0x6200 9) 100 (ai (O [(ob 0x1010 2, 0)]))) with air := { Air.reset with cueState := 1 } }).arm .cueListen 5 |> att 5), 5, 540, by decide⟩,
   ⟨(({ (P (ob 0x6200 9) 100 (ai (O [(ob 0x1010 2, 0)]))) with air := { Air.reset with cueState := 1 }, cal := { State.reset.cal with running := [tun 7 0x200 1 1] } }).arm .cueListen 5 |> att 5), 5, by decide, by decide, by decide, by decide, tun 7 0x200 1 1, by decide⟩,
   ⟨(({ (P (ob 0x6200 9) 100 (ai (O [(ob 0x1010 2, 0)]))) with air := { Air.reset with cueState := 1 } }).arm .cueListen 5 |> att 5), 5, 541, by decide⟩,
   ⟨(due .cueGiveUp ({ (P (ob 0x6200 9) 100 (ai (O [(ob 0x1010 2, 0)]))) with air := { Air.reset with cueState := 2 } })), by decide⟩,
   ⟨{ (P (ob 0x6200 9) 100 (ai (O [(ob 0x1010 2, 0)]))) with air := { Air.reset with cueState := 2 } }, [0], by decide⟩,
   ⟨{ O [(ob 0x4040 3, 0x102), (ob 0x4040 4, 3)] with air := { Air.reset with cueState := 2 } }, ([1, 2, 3] ++ u8 (crc8 [1, 2, 3])), by decide⟩,
   ⟨up, by decide⟩,
   ⟨up, by decide⟩,
   ⟨(due .cueStop { ai (O [(ob 0x1010 2, 2)]) with air := { Air.reset with cueState := 3 } }), by decide⟩,
   ⟨(due .cueStop { ai (O [(ob 0x1010 2, 0), (ob 0x4040 1, 1)]) with air := { Air.reset with cueState := 3 } }), by decide⟩,
   ⟨(due .lbt ({ (A 2 [(ob 0x4100 6, 3)]) with mac := { Mac.reset with csma := some (cs .listen) } })), (cs .listen), 1000, 0, by decide⟩,
   ⟨(due .lbt ({ (A 2 [(ob 0x4100 6, 3)]) with mac := { Mac.reset with csma := some (cs .listen) } })), (cs .listen), -4000, 0, by decide⟩⟩

/-- The premises of MacFramesOut can be met, each clause's. -/
theorem witness_MacFramesOut :
    (∃ (s : State), (∀ f ∈ s.mac.indirect, s.unqueued f.origin = false) ∧ (∀ o ∈ s.mac.out, s.unqueued o.kind = false) ∧ (∀ c, s.mac.csma = some c → s.unqueued c.frame.kind = false)) ∧
    (∃ (s : State), (s.dropStale = s) ∧ ((s.mac.csma ≠ none ∨ s.mac.ack ≠ none ∨ s.power.shedding = true ∨ s.airServes = false ∨ s.linkReady .air = false))) ∧
    (∃ (s : State), (s.dropStale = s) ∧ (s.mac.csma = none) ∧ (s.mac.ack = none) ∧ (s.power.shedding = false) ∧ (s.airServes = true) ∧ (s.linkReady .air = true) ∧ (s.mac.out ≠ []) ∧ (s.airState = 0)) ∧
    (∃ (s : State) (f : _), (s.dropStale = s) ∧ (s.mac.csma = none) ∧ (s.mac.ack = none) ∧ (s.power.shedding = false) ∧ (s.airServes = true) ∧ (s.linkReady .air = true) ∧ (s.airState = 2) ∧ ((∀ t : Tenant, s.reportDry t = false)) ∧ (s.nextReport = none) ∧ (s.nextOut = some f) ∧ (f ∈ s.mac.out) ∧ (s.joinState = 0) ∧ (f.kind ≠ .join)) ∧
    (∃ (s : State) (f : _) (n : _), (s.dropStale = s) ∧ (s.mac.csma = none) ∧ (s.mac.ack = none) ∧ (s.power.shedding = false) ∧ (s.airServes = true) ∧ (s.linkReady .air = true) ∧ (s.airState = 2) ∧ ((∀ t : Tenant, s.reportDry t = false)) ∧ (s.nextReport = none) ∧ (s.nextOut = some f) ∧ (f ∈ s.mac.out) ∧ (s.joinState = 3) ∧ (s.psdu f ≤ 255) ∧ (f.numbers = some n)) ∧
    (∃ (s : State) (c : Csma), (s.dropStale = s) ∧ (s.mac.csma = some c) ∧ (c.stage = .backoff) ∧ (s.isDue .backoff = true) ∧ (s.power.shedding = false)) ∧
    (∃ (s : State) (c : Csma), (s.dropStale = s) ∧ (s.mac.csma = some c) ∧ (c.stage = .backoff) ∧ (s.isDue .backoff = true) ∧ (s.power.shedding = true)) ∧
    (∃ (s : State) (a : Nat × Bool × Nat), (s.mac.ack = some a) ∧ (s.isDue .immAck = true)) ∧
    (∃ (s : State) (c : Csma) (r : RxFrame) (l : List RxFrame) (n : Nat × Nat × Nat), (s.mac.csma = some c) ∧ (s.mac.rx = r :: l) ∧ (c.stage = .ackWait) ∧ (r.frame.ftype = 2) ∧ (r.frame.fcsOk = true) ∧ (c.frame.numbers = some n) ∧ (n.1 = r.frame.seq) ∧ (s.toParent c.frame = false)) ∧
    (∃ (s : State) (c : Csma), (s.mac.csma = some c) ∧ (c.stage = .ackWait) ∧ (s.isDue .ackWait = true) ∧ (s.ackPossible = false) ∧ (s.rd (ob 0x4130 0x04) + 1 < 2 ^ 32)) ∧
    (∃ (s : State) (t : Tenant), (s.isDue (.reportRetry t) = true) ∧ ((s.sleepy = false ∨ s.airState ≠ 0))) ∧
    (∃ (s : State) (t : Tenant) (j : Job) (k : Nat), (k < 65536) ∧ (s.Writes t j 0x4120 0x04 (u16 k)) ∧ ((∀ n ∈ s.mac.neighbours, n.relation ≠ 2))) ∧
    (∃ (s : State), (s.isDue .homeSwitch = true) ∧ (s.changePending = true) ∧ (s.joinState = 5) ∧ (s.airState = 2) ∧ (s.mac.csma = none)) ∧
    (∃ (s : State), (s.isDue .slot = true) ∧ (s.hops = false)) ∧
    (∃ (s : State), (s.isDue .slot = true) ∧ (s.hops = true) ∧ (s.airState = 2) ∧ (s.joinState = 3) ∧ (s.mac.scan = none)) ∧
    (∃ (s : State), (s.isDue .slot = true) ∧ (s.hops = true) ∧ (s.airState ≠ 2)) ∧
    (∃ (s : State), (s.isDue .timeBroadcast = true) ∧ (s.role = 2) ∧ (s.joinState = 5) ∧ (s.hops = true)) ∧
    (∃ (s : State), (s.isDue .timeBroadcast = true) ∧ (s.role = 2) ∧ (s.joinState = 5) ∧ (s.hops = false)) ∧
    (∃ (s : State), (s.isDue .timeBroadcast = true) ∧ (s.role = 0)) :=
  ⟨⟨up, (fun _ h => by cases h), (fun _ h => by cases h), none_all (by decide)⟩,
   ⟨up, by decide, Or.inr (Or.inr (Or.inr (Or.inl (by decide))))⟩,
   ⟨(M { Mac.reset with out := [pf] } (A 0 [])), by decide⟩,
   ⟨(M { Mac.reset with out := [pf] } (A 2 [])), pf, by decide⟩,
   ⟨(M { Mac.reset with out := [pf] } (A 2 [(ob 0x4100 6, 3)])), pf, (7, 1, 1), by decide⟩,
   ⟨(due .backoff ({ (A 2 [(ob 0x4100 6, 3)]) with mac := { Mac.reset with csma := some (cs .backoff) } })), (cs .backoff), by decide⟩,
   ⟨(due .backoff { ({ (A 2 [(ob 0x4100 6, 3)]) with mac := { Mac.reset with csma := some (cs .backoff) } }) with power := { State.reset.power with shedding := true } }), (cs .backoff), by decide⟩,
   ⟨(due .immAck (M { Mac.reset with ack := some (7, false, 0) } (A 2 []))), (7, false, 0), by decide⟩,
   ⟨(M { Mac.reset with csma := some (cs .ackWait), rx := [⟨{ mf with ftype := 2 }, [], 0, 0, 0⟩] } (A 2 [])), (cs .ackWait), ⟨{ mf with ftype := 2 }, [], 0, 0, 0⟩, [], (7, 1, 1), by decide⟩,
   ⟨(due .ackWait ({ (A 2 [(ob 0x4100 6, 3)]) with mac := { Mac.reset with csma := some (cs .ackWait) } })), (cs .ackWait), by decide⟩,
   ⟨(due (.reportRetry 7) (A 2 [])), 7, by decide⟩,
   ⟨(req (A 2 [(ob 0x1010 2, 2), (ob 0x4000 1, 1), (ob 0x4100 7, 2)]) 0x4120 4 0 (u16 35)), 0, (jb 0x4120 4 0 (u16 35)), 35, by unfold State.Writes State.WritesAt; decide⟩,
   ⟨(due .homeSwitch (A 2 [(ob 0x4100 6, 5), (ob 0x4120 2, 3)])), by decide⟩,
   ⟨(due .slot up), by decide⟩,
   ⟨(due .slot (A 2 [(ob 0x4000 1, 2), (ob 0x4100 6, 3)])), by decide⟩,
   ⟨(due .slot (A 4 [(ob 0x4000 1, 2), (ob 0x4100 6, 3)])), by decide⟩,
   ⟨(due .timeBroadcast (A 2 [(ob 0x1010 2, 2), (ob 0x4000 1, 2), (ob 0x4100 6, 5)])), by decide⟩,
   ⟨(due .timeBroadcast (A 2 [(ob 0x1010 2, 2), (ob 0x4100 6, 5)])), by decide⟩,
   ⟨(due .timeBroadcast (A 2 [(ob 0x1010 2, 0)])), by decide⟩⟩

/-- The premises of MacFramesIn can be met, each clause's. -/
theorem witness_MacFramesIn :
    (∃ (s : State), (s.mac.rx = [])) ∧
    (∃ (s : State) (r : RxFrame) (l : List RxFrame), (s.mac.rx = r :: l) ∧ (s.mac.csma = none) ∧ (r.frame.fcsOk = false)) ∧
    (∃ (s : State) (r : RxFrame) (l : List RxFrame), (s.mac.rx = r :: l) ∧ (s.mac.csma = none) ∧ (r.frame.ftype = 1) ∧ (s.forMe r.frame = false)) ∧
    (∃ (s : State) (r : RxFrame) (l : List RxFrame), (s.mac.rx = r :: l) ∧ (s.mac.csma = none) ∧ (r.frame.fcsOk = true) ∧ (r.frame.ftype ≠ 1) ∧ (r.frame.ftype ≠ 2) ∧ (s.rd (ob 0x4130 0x0E) + 1 < 2 ^ 32)) ∧
    (∃ (s : State) (r : RxFrame) (l : List RxFrame), (s.mac.rx = r :: l) ∧ (s.mac.csma = none) ∧ (r.frame.fcsOk = true) ∧ (r.frame.ftype = 1) ∧ (s.forMe r.frame = true) ∧ (r.frame.ackReq = false) ∧ (s.mac.ack = none) ∧ (s.securedWell r.frame = false) ∧ (s.rd (ob 0x4130 0x08) + 1 < 2 ^ 32)) ∧
    (∃ (s : State) (r : RxFrame) (l : List RxFrame) (n : _), (s.mac.rx = r :: l) ∧ (s.mac.csma = none) ∧ (r.frame.fcsOk = true) ∧ (r.frame.ftype = 1) ∧ (s.forMe r.frame = true) ∧ (r.frame.ackReq = false) ∧ (s.mac.ack = none) ∧ (s.securedWell r.frame = true) ∧ (counterCheck (s.checkpointed r.frame) r.frame = n) ∧ (n = 1) ∧ (s.rd (ob 0x4130 0x06) + 1 < 2 ^ 32)) ∧
    (∃ (s : State) (r : RxFrame) (l : List RxFrame) (n : _), (s.mac.rx = r :: l) ∧ (s.mac.csma = none) ∧ (r.frame.fcsOk = true) ∧ (r.frame.ftype = 1) ∧ (s.forMe r.frame = true) ∧ (r.frame.ackReq = false) ∧ (s.mac.ack = none) ∧ (s.securedWell r.frame = true) ∧ (counterCheck (s.checkpointed r.frame) r.frame = n) ∧ (n = 2) ∧ (s.rd (ob 0x4130 0x07) + 1 < 2 ^ 32)) ∧
    (∃ (s : State) (r : RxFrame) (l : List RxFrame), let f := r.frame; let m := nonce (s.senderExt f) f.counter f.level; let p := ccmCrypt (s.netKey f.keyIndex) m f.payload; (s.mac.rx = r :: l) ∧ (s.mac.csma = none) ∧ (r.frame.fcsOk = true) ∧ (r.frame.ftype = 1) ∧ (s.forMe r.frame = true) ∧ (r.frame.ackReq = false) ∧ (s.mac.ack = none) ∧ (s.securedWell r.frame = true) ∧ (counterCheck (s.checkpointed r.frame) r.frame = 0) ∧ (ccmMic (s.netKey f.keyIndex) m f.header p (micLen f.level) ≠ f.mic)) ∧
    (∃ (s : State) (r : RxFrame) (l : List RxFrame) (w : State), let f := r.frame; let m := nonce (s.senderExt f) f.counter f.level; let p := ccmCrypt (s.netKey f.keyIndex) m f.payload; (s.mac.rx = r :: l) ∧ (s.mac.csma = none) ∧ (r.frame.fcsOk = true) ∧ (r.frame.ftype = 1) ∧ (s.forMe r.frame = true) ∧ (r.frame.ackReq = false) ∧ (s.mac.ack = none) ∧ (s.securedWell r.frame = true) ∧ (counterCheck (s.checkpointed r.frame) r.frame = 0) ∧ (ccmMic (s.netKey f.keyIndex) m f.header p (micLen f.level) = f.mic) ∧ (({ s with mac := { s.mac with rx := l } } : State).hear r = some w) ∧ (isMessage p = true)) ∧
    (∃ (s : State) (r : RxFrame) (l : List RxFrame) (w : State), let f := r.frame; let m := nonce (s.senderExt f) f.counter f.level; let p := ccmCrypt (s.netKey f.keyIndex) m f.payload; (s.mac.rx = r :: l) ∧ (s.mac.csma = none) ∧ (r.frame.fcsOk = true) ∧ (r.frame.ftype = 1) ∧ (s.forMe r.frame = true) ∧ (r.frame.ackReq = false) ∧ (s.mac.ack = none) ∧ (s.securedWell r.frame = true) ∧ (counterCheck (s.checkpointed r.frame) r.frame = 0) ∧ (ccmMic (s.netKey f.keyIndex) m f.header p (micLen f.level) = f.mic) ∧ (({ s with mac := { s.mac with rx := l } } : State).hear r = some w) ∧ (isMessage p = false) ∧ (s.rd (ob 0x4130 0x0E) + 1 < 2 ^ 32)) ∧
    (∃ (s : State) (r : RxFrame) (l : List RxFrame), let f := r.frame; let m := nonce (s.senderExt f) f.counter f.level; let p := ccmCrypt (s.netKey f.keyIndex) m f.payload; (s.mac.rx = r :: l) ∧ (s.mac.csma = none) ∧ (r.frame.fcsOk = true) ∧ (r.frame.ftype = 1) ∧ (s.forMe r.frame = true) ∧ (r.frame.ackReq = false) ∧ (s.mac.ack = none) ∧ (s.securedWell r.frame = true) ∧ (counterCheck (s.checkpointed r.frame) r.frame = 0) ∧ (ccmMic (s.netKey f.keyIndex) m f.header p (micLen f.level) = f.mic) ∧ (({ s with mac := { s.mac with rx := l } } : State).hear r = none) ∧ (s.rd (ob 0x4130 0x0E) + 1 < 2 ^ 32)) ∧
    (∃ (s : State) (r : RxFrame) (l : List RxFrame), (s.mac.rx = r :: l) ∧ (s.mac.csma = none) ∧ (r.frame.fcsOk = true) ∧ (r.frame.ftype = 1) ∧ (s.forMe r.frame = true) ∧ (r.frame.ackReq = true) ∧ (isUnicast r.frame = true)) ∧
    (∃ (s w : State) (r : RxFrame), let f := r.frame; let m := nonce (s.senderExt f) f.counter f.level; let p := ccmCrypt (s.netKey f.keyIndex) m f.payload; (s.securedWell r.frame = true) ∧ (counterCheck (s.checkpointed r.frame) r.frame = 0) ∧ (s.hear r = some w) ∧ (ccmMic (s.netKey f.keyIndex) m f.header p (micLen f.level) = f.mic) ∧ (isMessage p = true)) ∧
    (∃ (s : State) (w : State) (d : Delivered), (s.takeMessage 1 = some (d, w))) ∧
    (∃ (s : State) (w : State) (d : Delivered), (s.takeMessage 2 = some (d, w)) ∧ (s.joinState = 5) ∧ (byteAt d.payload 9 = 0) ∧ (leNat (slice 11 8 d.payload) ≠ s.ext)) ∧
    (∃ (s : State) (w : State) (d : Delivered), (s.takeMessage 2 = some (d, w)) ∧ (s.joinState = 3) ∧ (srcShort d.src = s.parent)) ∧
    (∃ (s : State) (w : State) (d : Delivered), (s.takeMessage 2 = some (d, w)) ∧ (s.joinState = 0)) ∧
    (∃ (s : State) (w : State) (d : Delivered), let p := d.payload; let key := u16At p 2 * 256 + byteAt p 7; (s.takeMessage 0x40 = some (d, w)) ∧ (key ∈ s.mac.dups) ∧ (s.rd (ob 0x4130 0x0B) + 1 < 2 ^ 32)) ∧
    (∃ (s : State) (w : State) (d : Delivered), let p := d.payload; let key := u16At p 2 * 256 + byteAt p 7; (s.takeMessage 0x40 = some (d, w)) ∧ (key ∉ s.mac.dups) ∧ (u16At p 4 = s.short)) ∧
    (∃ (s : State) (w : State) (d : Delivered), let p := d.payload; let key := u16At p 2 * 256 + byteAt p 7; (s.takeMessage 0x40 = some (d, w)) ∧ (key ∉ s.mac.dups) ∧ (u16At p 4 ≠ s.short) ∧ (s.role ≠ 0) ∧ (byteAt p 6 = 0) ∧ (s.rd (ob 0x4130 0x0A) + 1 < 2 ^ 32)) ∧
    (∃ (s : State) (w : State) (d : Delivered), let p := d.payload; let key := u16At p 2 * 256 + byteAt p 7; (s.takeMessage 0x40 = some (d, w)) ∧ (key ∉ s.mac.dups) ∧ (u16At p 4 ≠ s.short) ∧ (s.role ≠ 0) ∧ (byteAt p 6 ≠ 0) ∧ (s.rd (ob 0x4130 0x09) + 1 < 2 ^ 32)) ∧
    (∃ (s : State) (k : Nat), (s.isDue (.route k) = true)) ∧
    (∃ (s : State) (k : Nat), (s.isDue (.dup k) = true)) ∧
    (∃ (s : State), (s.isDue .unsync = true) ∧ (s.joinState = 3) ∧ (s.hops = true)) ∧
    (∃ (s : State), (s.isDue .unsyncScan = true) ∧ (s.joinState = 4)) :=
  ⟨⟨up, by decide⟩,
   ⟨(M { Mac.reset with rx := [⟨{ mf with fcsOk := false }, [], 0, 0, 0⟩] } (A 2 [(ob 0x4100 1, 0), (ob 0x4100 3, 9)])), ⟨{ mf with fcsOk := false }, [], 0, 0, 0⟩, [], by decide⟩,
   ⟨(M { Mac.reset with rx := [⟨{ mf with pan := 1 }, [], 0, 0, 0⟩] } (A 2 [(ob 0x4100 1, 0), (ob 0x4100 3, 9)])), ⟨{ mf with pan := 1 }, [], 0, 0, 0⟩, [], by decide⟩,
   ⟨(M { Mac.reset with rx := [⟨{ mf with ftype := 3 }, [], 0, 0, 0⟩] } (A 2 [(ob 0x4100 1, 0), (ob 0x4100 3, 9)])), ⟨{ mf with ftype := 3 }, [], 0, 0, 0⟩, [], by decide⟩,
   ⟨(M { Mac.reset with rx := [⟨{ mf with level := 5 }, [], 0, 0, 0⟩] } (A 2 [(ob 0x4100 1, 0), (ob 0x4100 3, 9)])), ⟨{ mf with level := 5 }, [], 0, 0, 0⟩, [], by decide⟩,
   ⟨(M { Mac.reset with rx := [⟨{ mf with level := 6, counter := 10, seq := 7 }, [], 0, 0, 0⟩], neighbours := [nb 5 0] } { A 2 [(ob 0x4100 1, 0), (ob 0x4100 3, 9)] with keys := { State.reset.keys with slots := [(0x51, List.replicate 16 1)] } }), ⟨{ mf with level := 6, counter := 10, seq := 7 }, [], 0, 0, 0⟩, [], 1, by decide⟩,
   ⟨(M { Mac.reset with rx := [⟨{ mf with level := 6, counter := 10, seq := 8 }, [], 0, 0, 0⟩], neighbours := [nb 5 0] } { A 2 [(ob 0x4100 1, 0), (ob 0x4100 3, 9)] with keys := { State.reset.keys with slots := [(0x51, List.replicate 16 1)] } }), ⟨{ mf with level := 6, counter := 10, seq := 8 }, [], 0, 0, 0⟩, [], 2, by decide⟩,
   ⟨member { good [] with frame := { (good []).frame with mic := [] } }, { good [] with frame := { (good []).frame with mic := [] } }, [], rfl, rfl, rfl, rfl, by decide, rfl, rfl, by decide, by decide, by decide⟩,
   ⟨member (good [1, 30, 0]), good [1, 30, 0], [], heard { member (good [1, 30, 0]) with mac := { (member (good [1, 30, 0])).mac with rx := [] } } (good [1, 30, 0]),
    rfl, rfl, rfl, rfl, by decide, rfl, rfl, by decide, by decide, good_mic [1, 30, 0], rfl, good_message [1, 30, 0] (by decide)⟩,
   ⟨member (good []), good [], [], heard { member (good []) with mac := { (member (good [])).mac with rx := [] } } (good []),
    rfl, rfl, rfl, rfl, by decide, rfl, rfl, by decide, by decide, good_mic [], rfl, good_other [] (by decide), by decide⟩,
   ⟨full (good []), good [], [], rfl, rfl, rfl, rfl, by decide, rfl, rfl, by decide, by decide, good_mic [], rfl, by decide⟩,
   ⟨member { good [] with frame := { (good []).frame with ackReq := true } }, { good [] with frame := { (good []).frame with ackReq := true } }, [], rfl, rfl, rfl, rfl, by decide, rfl, rfl⟩,
   ⟨member (good [1, 30, 0]), heard (member (good [1, 30, 0])) (good [1, 30, 0]), good [1, 30, 0], by decide, by decide, rfl, good_mic [1, 30, 0], good_message [1, 30, 0] (by decide)⟩,
   ⟨(M { Mac.reset with inbox := [(dv (.short 5) [1, 30, 0])] } (A 2 [])), (tk 1 (M { Mac.reset with inbox := [(dv (.short 5) [1, 30, 0])] } (A 2 []))), (dv (.short 5) [1, 30, 0]), by decide⟩,
   ⟨(M { Mac.reset with inbox := [(dv (.short 5) ([2] ++ u64 0 ++ [0, 0] ++ u64 77))] } (P (ob 0x4100 2) 5 (A 2 [(ob 0x4100 6, 5)]))), (tk 2 (M { Mac.reset with inbox := [(dv (.short 5) ([2] ++ u64 0 ++ [0, 0] ++ u64 77))] } (P (ob 0x4100 2) 5 (A 2 [(ob 0x4100 6, 5)])))), (dv (.short 5) ([2] ++ u64 0 ++ [0, 0] ++ u64 77)), by decide⟩,
   ⟨(M { Mac.reset with inbox := [(dv (.short 5) ([2] ++ u64 0 ++ [1, 0] ++ u64 77))] } (A 2 [(ob 0x4100 6, 3), (ob 0x4100 4, 5)])), (tk 2 (M { Mac.reset with inbox := [(dv (.short 5) ([2] ++ u64 0 ++ [1, 0] ++ u64 77))] } (A 2 [(ob 0x4100 6, 3), (ob 0x4100 4, 5)]))), (dv (.short 5) ([2] ++ u64 0 ++ [1, 0] ++ u64 77)), by decide⟩,
   ⟨(M { Mac.reset with inbox := [(dv (.short 5) ([2] ++ u64 0 ++ [1, 0] ++ u64 77))] } (A 2 [])), (tk 2 (M { Mac.reset with inbox := [(dv (.short 5) ([2] ++ u64 0 ++ [1, 0] ++ u64 77))] } (A 2 []))), (dv (.short 5) ([2] ++ u64 0 ++ [1, 0] ++ u64 77)), by decide⟩,
   ⟨(M { Mac.reset with inbox := [(dv (.short 5) [0x40, 1, 6, 0, 9, 0, 3, 4])], dups := [1540] } (A 2 [])), (tk 64 (M { Mac.reset with inbox := [(dv (.short 5) [0x40, 1, 6, 0, 9, 0, 3, 4])], dups := [1540] } (A 2 []))), (dv (.short 5) [0x40, 1, 6, 0, 9, 0, 3, 4]), by decide⟩,
   ⟨(M { Mac.reset with inbox := [(dv (.short 5) [0x40, 1, 6, 0, 9, 0, 3, 4])] } (A 2 [(ob 0x4100 3, 9)])), (tk 64 (M { Mac.reset with inbox := [(dv (.short 5) [0x40, 1, 6, 0, 9, 0, 3, 4])] } (A 2 [(ob 0x4100 3, 9)]))), (dv (.short 5) [0x40, 1, 6, 0, 9, 0, 3, 4]), by decide⟩,
   ⟨(M { Mac.reset with inbox := [(dv (.short 5) [0x40, 1, 6, 0, 9, 0, 0, 4])] } (A 2 [(ob 0x1010 2, 1)])), (tk 64 (M { Mac.reset with inbox := [(dv (.short 5) [0x40, 1, 6, 0, 9, 0, 0, 4])] } (A 2 [(ob 0x1010 2, 1)]))), (dv (.short 5) [0x40, 1, 6, 0, 9, 0, 0, 4]), by decide⟩,
   ⟨(M { Mac.reset with inbox := [(dv (.short 5) [0x40, 1, 6, 0, 9, 0, 3, 4])] } (A 2 [(ob 0x1010 2, 1)])), (tk 64 (M { Mac.reset with inbox := [(dv (.short 5) [0x40, 1, 6, 0, 9, 0, 3, 4])] } (A 2 [(ob 0x1010 2, 1)]))), (dv (.short 5) [0x40, 1, 6, 0, 9, 0, 3, 4]), by decide⟩,
   ⟨(due (.route 6) up), 6, by decide⟩,
   ⟨(due (.dup 6) up), 6, by decide⟩,
   ⟨(due .unsync (A 2 [(ob 0x4000 1, 2), (ob 0x4100 6, 3)])), by decide⟩,
   ⟨(due .unsyncScan (A 2 [(ob 0x4100 6, 4)])), by decide⟩⟩

/-- The premises of JoiningAndSleepers can be met, each clause's. -/
theorem witness_JoiningAndSleepers :
    (∃ (s : State) (w : State) (d : Delivered) (a : _), (s.takeMessage 3 = some (d, w)) ∧ (d.src = .short a) ∧ (s.rd (ob 0x4130 0x0E) + 1 < 2 ^ 32)) ∧
    (∃ (s : State) (w : State) (d : Delivered) (x : _), (s.takeMessage 3 = some (d, w)) ∧ (d.src = .ext x) ∧ (s.joinState = 5) ∧ (s.rd (ob 0x4100 0x0E) = 0)) ∧
    (∃ (s : State) (w : State) (d : Delivered) (x : _), (s.takeMessage 3 = some (d, w)) ∧ (d.src = .ext x) ∧ (s.joinState = 3) ∧ (s.role = 1)) ∧
    (∃ (s : State) (w : State) (d : Delivered) (c : Candidate), (s.takeMessage 4 = some (d, w)) ∧ (s.mac.target = some c) ∧ (s.joinState = 2) ∧ (srcShort d.src = c.short)) ∧
    (∃ (s : State) (w : State) (d : Delivered) (c : Candidate), (s.takeMessage 5 = some (d, w)) ∧ (s.mac.target = some c) ∧ (s.joinState = 2) ∧ (srcShort d.src = c.short)) ∧
    (∃ (s : State), (s.isDue .join = true) ∧ (s.joinState = 2)) ∧
    (∃ (s : State), (s.sleepy = false)) ∧
    (∃ (s : State) (x : Scan) (k : Nat) (l : List Nat), (s.mac.scan = some x) ∧ (s.isDue .joinScan = true) ∧ (x.left = k :: l) ∧ (x.found = [])) ∧
    (∃ (s : State) (x : Scan), (s.mac.scan = some x) ∧ (s.isDue .joinScan = true) ∧ (x.left = [])) ∧
    (∃ (s : State), (s.isDue .joinRetry = true) ∧ (s.joinState = 0) ∧ (s.canJoin = true)) ∧
    (∃ (s : State), (s.isDue .joinRetry = true) ∧ (s.joinState = 0) ∧ (s.canJoin = false)) ∧
    (∃ (s : State), (s.isDue .foreignCoord = true)) ∧
    (∃ (s : State) (t : Tenant) (j : Job) (a : Nat), (a < 65536) ∧ (s.Writes t j 0x4100 0x0F (u16 a))) ∧
    (∃ (s : State) (a : Nat), (s.isDue (.child a) = true) ∧ (s.heldFor a = [])) ∧
    (∃ (s : State) (f : Indirect), (s.mac.indirect.find? (fun g => g.id == f.id) = some f) ∧ (s.isDue (.indirect f.id) = true) ∧ (s.sendsIndirect f.id = false) ∧ (s.rd (ob 0x4130 0x0C) + 1 < 2 ^ 32)) ∧
    (∃ (s : State) (f : Indirect), (s.mac.indirect.find? (fun g => g.id == f.id) = some f) ∧ (s.isDue (.cueDelay f.id) = true)) ∧
    (∃ (s : State) (f : Indirect), (s.mac.indirect.find? (fun g => g.id == f.id) = some f) ∧ (s.isDue (.cueRetry f.id) = true)) ∧
    (∃ (s : State), (s.isDue .poll = true) ∧ (s.sleepy = true) ∧ (s.joinState = 3)) ∧
    (∃ (s : State), (s.isDue .poll = true) ∧ (s.sleepy = false)) ∧
    (∃ (s : State), (s.isDue .pendingWait = true) ∧ (s.airState = 2)) ∧
    (∃ (s : State) (n : Neighbour), (s.mac.neighbours = [n]) ∧ (n.relation = 2) ∧ (s.isDue (.sync n.short) = true)) ∧
    (∃ (s : State), ((∀ n ∈ s.mac.neighbours, s.isDue (.sync n.short) = false))) :=
  ⟨⟨(M { Mac.reset with inbox := [(dv (.short 5) [3, 0, 30, 0])] } (A 2 [])), (tk 3 (M { Mac.reset with inbox := [(dv (.short 5) [3, 0, 30, 0])] } (A 2 []))), (dv (.short 5) [3, 0, 30, 0]), 5, by decide⟩,
   ⟨(M { Mac.reset with inbox := [(dv (.ext 5) [3, 0, 30, 0])] } (A 2 [(ob 0x4100 6, 5), (ob 0x4100 0x0E, 0)])), (tk 3 (M { Mac.reset with inbox := [(dv (.ext 5) [3, 0, 30, 0])] } (A 2 [(ob 0x4100 6, 5), (ob 0x4100 0x0E, 0)]))), (dv (.ext 5) [3, 0, 30, 0]), 5, by decide⟩,
   ⟨(M { Mac.reset with inbox := [(dv (.ext 5) [3, 0, 30, 0])] } (A 2 [(ob 0x4100 6, 3), (ob 0x1010 2, 1)])), (tk 3 (M { Mac.reset with inbox := [(dv (.ext 5) [3, 0, 30, 0])] } (A 2 [(ob 0x4100 6, 3), (ob 0x1010 2, 1)]))), (dv (.ext 5) [3, 0, 30, 0]), 5, by decide⟩,
   ⟨(M { Mac.reset with inbox := [(dv (.short 5) [4, 0])], target := some ⟨5, 1, 200, 77, dv (.short 5) []⟩ } (A 2 [(ob 0x4100 6, 2)])), (tk 4 (M { Mac.reset with inbox := [(dv (.short 5) [4, 0])], target := some ⟨5, 1, 200, 77, dv (.short 5) []⟩ } (A 2 [(ob 0x4100 6, 2)]))), (dv (.short 5) [4, 0]), ⟨5, 1, 200, 77, dv (.short 5) []⟩, by decide⟩,
   ⟨(M { Mac.reset with inbox := [(dv (.short 5) [5, 0])], target := some ⟨5, 1, 200, 77, dv (.short 5) []⟩ } (A 2 [(ob 0x4100 6, 2)])), (tk 5 (M { Mac.reset with inbox := [(dv (.short 5) [5, 0])], target := some ⟨5, 1, 200, 77, dv (.short 5) []⟩ } (A 2 [(ob 0x4100 6, 2)]))), (dv (.short 5) [5, 0]), ⟨5, 1, 200, 77, dv (.short 5) []⟩, by decide⟩,
   ⟨(due .join (A 2 [(ob 0x4100 6, 2)])), by decide⟩,
   ⟨(A 2 [(ob 0x1010 2, 1)]), by decide⟩,
   ⟨(due .joinScan (M { Mac.reset with scan := some ⟨[3], 0, [], false, false, false⟩ } (A 2 []))), ⟨[3], 0, [], false, false, false⟩, 3, [], by decide⟩,
   ⟨(due .joinScan (M { Mac.reset with scan := some ⟨[], 0, [], false, false, false⟩ } (A 2 []))), ⟨[], 0, [], false, false, false⟩, by decide⟩,
   ⟨(due .joinRetry { A 0 [(ob 0x4100 1, 7), (ob 0x4000 1, 1)] with keys := { State.reset.keys with slots := [(0x51, List.replicate 16 1)] } }), by decide⟩,
   ⟨(due .joinRetry (A 0 [])), by decide⟩,
   ⟨(due .foreignCoord up), by decide⟩,
   ⟨(req (M { Mac.reset with addresses := [(9, 5)] } (A 2 [(ob 0x1010 2, 2)])) 0x4100 15 0 (u16 9)), 0, (jb 0x4100 15 0 (u16 9)), 9, by unfold State.Writes State.WritesAt; decide⟩,
   ⟨(due (.child 9) up), 9, by decide⟩,
   ⟨(due (.indirect 1) (M { Mac.reset with indirect := [⟨1, 9, [], 0, 0, 0, none, [], .poll⟩] } (A 2 []))), ⟨1, 9, [], 0, 0, 0, none, [], .poll⟩, by decide⟩,
   ⟨(due (.cueDelay 1) (M { Mac.reset with indirect := [⟨1, 9, [], 0, 0, 0, none, [], .poll⟩] } (A 2 []))), ⟨1, 9, [], 0, 0, 0, none, [], .poll⟩, by decide⟩,
   ⟨(due (.cueRetry 1) (M { Mac.reset with indirect := [⟨1, 9, [], 0, 0, 0, none, [], .poll⟩] } (A 2 []))), ⟨1, 9, [], 0, 0, 0, none, [], .poll⟩, by decide⟩,
   ⟨(due .poll (A 0 [(ob 0x1010 2, 0), (ob 0x4100 6, 3)])), by decide⟩,
   ⟨(due .poll (A 0 [(ob 0x1010 2, 1)])), by decide⟩,
   ⟨(due .pendingWait (A 2 [])), by decide⟩,
   ⟨(due (.sync 9) (M { Mac.reset with neighbours := [nb 9 2] } (A 2 []))), (nb 9 2), by decide⟩,
   ⟨(M { Mac.reset with neighbours := [nb 9 2] } (A 2 [])), by decide⟩⟩

/-- The premises of LineFrameChecks can be met, each clause's. -/
theorem witness_LineFrameChecks :
    (∃ (s : State) (f : LineIn) (r : Nat) (p : Instr × Nat), (p ∈ [(Instr.linePollReceived f, 0), (.lineEmptyReceived f, 1), (.lineDataReceived f, 2), (.lineAckReceived f, 3), (.lineNakReceived f, 4), (.lineTimeReceived f, 5), (.linePresenceReceived f, 6), (.searchStartReceived f, 7), (.searchPassReceived f, 8), (.searchEndReceived f, 9), (.assignReceived f, 0xA), (.walkProbeReceived f r, 0xB), (.walkTallyReceived f, 0xC), (.isolateReceived f, 0xD), (.reconnectReceived f, 0xE)]) ∧ (checkLine f = .framing) ∧ (s.rd (ob 0x5030 0x04) + 1 < 2 ^ 32)) ∧
    (∃ (s : State) (f : LineIn) (r : Nat) (p : Instr × Nat), (p ∈ [(Instr.linePollReceived f, 0), (.lineEmptyReceived f, 1), (.lineDataReceived f, 2), (.lineAckReceived f, 3), (.lineNakReceived f, 4), (.lineTimeReceived f, 5), (.linePresenceReceived f, 6), (.searchStartReceived f, 7), (.searchPassReceived f, 8), (.searchEndReceived f, 9), (.assignReceived f, 0xA), (.walkProbeReceived f r, 0xB), (.walkTallyReceived f, 0xC), (.isolateReceived f, 0xD), (.reconnectReceived f, 0xE)]) ∧ (checkLine f = .crc) ∧ (s.rd (ob 0x5030 0x03) + 1 < 2 ^ 32)) ∧
    (∃ (f : LineIn) (r : Nat) (p : Instr × Nat) (d : _) (x : _) (ty : _) (q : _) (b : _) (l : _), (p ∈ [(Instr.linePollReceived f, 0), (.lineEmptyReceived f, 1), (.lineDataReceived f, 2), (.lineAckReceived f, 3), (.lineNakReceived f, 4), (.lineTimeReceived f, 5), (.linePresenceReceived f, 6), (.searchStartReceived f, 7), (.searchPassReceived f, 8), (.searchEndReceived f, 9), (.assignReceived f, 0xA), (.walkProbeReceived f r, 0xB), (.walkTallyReceived f, 0xC), (.isolateReceived f, 0xD), (.reconnectReceived f, 0xE)]) ∧ (checkLine f = .good d x ty q b l) ∧ (ty ≠ p.2)) ∧
    (∃ (s : State) (f : LineIn) (r : Nat) (p : Instr × Nat) (d : _) (x : _) (q : _) (b : _) (l : _), (p ∈ [(Instr.linePollReceived f, 0), (.lineEmptyReceived f, 1), (.lineDataReceived f, 2), (.lineAckReceived f, 3), (.lineNakReceived f, 4), (.lineTimeReceived f, 5), (.linePresenceReceived f, 6), (.searchStartReceived f, 7), (.searchPassReceived f, 8), (.searchEndReceived f, 9), (.assignReceived f, 0xA), (.walkProbeReceived f r, 0xB), (.walkTallyReceived f, 0xC), (.isolateReceived f, 0xD), (.reconnectReceived f, 0xE)]) ∧ (checkLine f = .good d x p.2 q b l) ∧ (s.member = false) ∧ (s.line.ask = none) ∧ (s.rd (ob 0x5030 0x02) + 1 < 2 ^ 32)) :=
  ⟨⟨(L [] Line.reset), ⟨[], true, 0⟩, 0, (.walkProbeReceived ⟨[], true, 0⟩ 0, 0xB), by decide⟩,
   ⟨(L [] Line.reset), ⟨lineFrame 4 0 0 0 true [] |>.set 0 5, true, 0⟩, 0, (.linePollReceived ⟨lineFrame 4 0 0 0 true [] |>.set 0 5, true, 0⟩, 0), by decide⟩,
   ⟨(lin 4 0 1 0 true []), 0, (.linePollReceived (lin 4 0 1 0 true []), 0), 4, 0, 1, 0, true, [], by decide⟩,
   ⟨up, (lin 4 0 0xE 7 true []), 0, (.reconnectReceived (lin 4 0 0xE 7 true []), 0xE), 4, 0, 7, true, [], by decide⟩⟩

/-- The premises of LineMember can be met, each clause's. -/
theorem witness_LineMember :
    (∃ (s : State) (f : LineIn) (x : Nat) (q : Nat) (b : Bool) (l : Octets), (s.member = true) ∧ (s.lineAddr < 0x20) ∧ (checkLine f = .good s.lineAddr x 0 q b l) ∧ (s.lineState = 3) ∧ (s.up = false) ∧ (s.line.outBuf = none)) ∧
    (∃ (s : State) (f : LineIn) (x : Nat) (q : Nat) (b : Bool) (l : Octets) (m : _), (s.member = true) ∧ (s.lineAddr < 0x20) ∧ (checkLine f = .good s.lineAddr x 0 q b l) ∧ (s.lineState = 3) ∧ (s.up = false) ∧ (s.line.outBuf = some m) ∧ (m.tries < 3)) ∧
    (∃ (s : State) (f : LineIn) (x : Nat) (q : Nat) (l : Octets), (s.member = true) ∧ (s.lineAddr < 0x20) ∧ (checkLine f = .good s.lineAddr x 2 q true l) ∧ (s.lineDup x q = true) ∧ (s.rd (ob 0x5030 0x06) + 1 < 2 ^ 32)) ∧
    (∃ (s : State) (f : LineIn) (x : Nat) (q : Nat) (l : Octets), (s.member = true) ∧ (s.lineAddr < 0x20) ∧ (checkLine f = .good s.lineAddr x 2 q true l) ∧ (s.lineDup x q = false) ∧ (s.line.inBuf ≠ none)) ∧
    (∃ (s : State) (f : LineIn) (x : Nat) (q : Nat) (l : Octets), (s.member = true) ∧ (s.lineAddr < 0x20) ∧ (checkLine f = .good s.lineAddr x 2 q true l) ∧ (s.lineDup x q = false) ∧ (s.line.inBuf = none)) ∧
    (∃ (s : State) (f : LineIn) (x : Nat) (q : Nat) (b : Bool) (l : Octets) (m : _), (s.member = true) ∧ (s.lineAddr < 0x20) ∧ (checkLine f = .good s.lineAddr x 3 q b l) ∧ (s.line.outBuf = some m) ∧ (q = m.seq % 8) ∧ (m.tries ≠ 0) ∧ (m.report = none) ∧ (m.answers = none)) ∧
    (∃ (s : State) (f : LineIn) (d : Nat) (x : Nat) (q : Nat) (b : Bool) (l : Octets), (s.member = true) ∧ (s.lineAddr < 0x20) ∧ (checkLine f = .good d x 4 q b l)) ∧
    (∃ (s : State) (f : LineIn) (d : Nat) (x : Nat) (q : Nat) (b : Bool) (l : Octets), (s.member = true) ∧ (s.lineAddr < 0x20) ∧ (checkLine f = .good d x 6 q b l)) ∧
    (∃ (s : State) (f : LineIn) (d : Nat) (x : Nat) (q : Nat) (b : Bool) (l : Octets), (s.member = true) ∧ (s.lineAddr < 0x20) ∧ (checkLine f = .good d x 7 q b l) ∧ (s.lineState = 1)) ∧
    (∃ (s : State) (f : LineIn) (d : Nat) (x : Nat) (q : Nat) (b : Bool) (l : Octets), (s.member = true) ∧ (s.lineAddr < 0x20) ∧ (checkLine f = .good d x 8 q b l) ∧ (s.lineState = 1) ∧ (s.line.part = some (byteAt l 0))) ∧
    (∃ (s : State) (f : LineIn) (d : Nat) (x : Nat) (q : Nat) (b : Bool) (l : Octets), (s.member = true) ∧ (s.lineAddr < 0x20) ∧ (checkLine f = .good d x 9 q b l)) ∧
    (∃ (s : State) (f : LineIn) (x : Nat) (q : Nat) (b : Bool) (l : Octets) (t : Nat) (n : Nat), (s.member = true) ∧ (s.lineAddr < 0x20) ∧ (checkLine f = .good 0xFF x 5 q b l) ∧ (l.length = 8) ∧ (leNat l = n) ∧ (s.now - cellsUs f.rate (8 * f.bytes.length + 2) = t)) ∧
    (∃ (s : State) (f : LineIn) (d : Nat) (x : Nat) (q : Nat) (a : Nat) (b : Bool) (l : Octets), (s.member = true) ∧ (checkLine f = .good d x 0xA q b l) ∧ (l.length = 9) ∧ (leNat (l.take 8) = s.rd (ob 0x5000 0x02)) ∧ (byteAt l 8 = a)) ∧
    (∃ (s : State) (f : LineIn) (d : Nat) (x : Nat) (q : Nat) (b : Bool) (l : Octets), (s.member = true) ∧ (checkLine f = .good d x 0xB q b l) ∧ (byteAt l 0 = s.lineAddr)) ∧
    (∃ (s : State) (f : LineIn) (d : Nat) (x : Nat) (q : Nat) (b : Bool) (l : Octets), (s.member = true) ∧ (checkLine f = .good d x 0xB q b l) ∧ (byteAt l 0 ≠ s.lineAddr)) ∧
    (∃ (s : State) (f : LineIn) (d : Nat) (x : Nat) (q : Nat) (b : Bool) (l : Octets), (s.member = true) ∧ (checkLine f = .good d x 0xC q b l) ∧ (byteAt l 0 ∈ s.line.flags) ∧ (s.lineAddr ≠ 0xFF)) ∧
    (∃ (s : State) (f : LineIn) (x : Nat) (q : Nat) (b : Bool) (l : Octets), (s.member = true) ∧ (checkLine f = .good s.lineAddr x 0xD q b l) ∧ (s.lineAddr ≠ 0xFF)) ∧
    (∃ (s : State) (f : LineIn) (x : Nat) (q : Nat) (b : Bool) (l : Octets), (s.member = true) ∧ (checkLine f = .good 0xFF x 0xE q b l)) ∧
    (∃ (s : State), (s.isDue .bypass = true)) ∧
    (∃ (s : State), (s.isDue .addressHold = true) ∧ (s.lineAddr ≠ 0xFF) ∧ (s.member = true) ∧ (s.line.decoded = false)) ∧
    (∃ (s : State), (s.isDue .addressHold = true) ∧ (s.lineAddr ≠ 0xFF) ∧ (s.member = true) ∧ (s.line.decoded = true)) ∧
    (∃ (s : State) (b : Octets), (s.line.reply = some b) ∧ (b ≠ []) ∧ (byteAt b 2 % 16 ≠ 2) ∧ (s.member = true) ∧ (s.isDue .lineReply = true) ∧ (s.rd (ob 0x5030 0x01) + 1 < 2 ^ 32)) :=
  ⟨⟨{ (L [(ob 0x5000 1, 4), (ob 0x5000 3, 3)] Line.reset) with rst := State.reset.rst }, (lin 4 0 0 3 true []), 0, 3, true, [], by decide⟩,
   ⟨{ (L [(ob 0x5000 1, 4), (ob 0x5000 3, 3)] { Line.reset with outBuf := some (lm 2) }) with rst := State.reset.rst }, (lin 4 0 0 3 true []), 0, 3, true, [], (lm 2), by decide⟩,
   ⟨(L [(ob 0x5000 1, 4)] { Line.reset with lastSeq := [(0, 3)] }), (lin 4 0 2 3 true []), 0, 3, [], by decide⟩,
   ⟨(L [(ob 0x5000 1, 4)] { Line.reset with inBuf := some (1, []) }), (lin 4 0 2 3 true []), 0, 3, [], by decide⟩,
   ⟨(L [(ob 0x5000 1, 4)] Line.reset), (lin 4 0 2 3 true []), 0, 3, [], by decide⟩,
   ⟨(L [(ob 0x5000 1, 4)] { Line.reset with outBuf := some (lm 1) }), (lin 4 0 3 3 true []), 0, 3, true, [], (lm 1), by decide⟩,
   ⟨(L [(ob 0x5000 1, 4)] Line.reset), (lin 4 0 4 3 true []), 4, 0, 3, true, [], by decide⟩,
   ⟨(L [(ob 0x5000 1, 4)] Line.reset), (lin 0xFF 0 6 3 true []), 0xFF, 0, 3, true, [], by decide⟩,
   ⟨(L [(ob 0x5000 1, 4), (ob 0x5000 3, 1)] Line.reset), (lin 0xFE 0 7 3 true []), 0xFE, 0, 3, true, [], by decide⟩,
   ⟨(L [(ob 0x5000 1, 4), (ob 0x5000 3, 1)] { Line.reset with part := some 7 }), (lin 0xFE 0 8 3 true [7]), 0xFE, 0, 3, true, [7], by decide⟩,
   ⟨(L [(ob 0x5000 1, 4)] Line.reset), (lin 0xFE 0 9 3 true []), 0xFE, 0, 3, true, [], by decide⟩,
   ⟨(L [(ob 0x5000 1, 4)] Line.reset), (lin 0xFF 0 5 3 false (u64 500)), 0, 3, false, (u64 500), 0, 500, by decide⟩,
   ⟨(P (ob 0x5000 2) 99 (L [] Line.reset)), (lin 0xFE 0 10 3 true (u64 99 ++ [4])), 0xFE, 0, 3, 4, true, (u64 99 ++ [4]), by decide⟩,
   ⟨(L [(ob 0x5000 1, 4)] Line.reset), (lin 0xFF 0 11 3 false [4]), 0xFF, 0, 3, false, [4], by decide⟩,
   ⟨(L [(ob 0x5000 1, 4)] Line.reset), (lin 0xFF 0 11 3 false [5]), 0xFF, 0, 3, false, [5], by decide⟩,
   ⟨(L [(ob 0x5000 1, 4)] { Line.reset with flags := [5] }), (lin 0xFF 0 12 3 false [5]), 0xFF, 0, 3, false, [5], by decide⟩,
   ⟨(L [(ob 0x5000 1, 4)] Line.reset), (lin 4 0 13 3 true []), 0, 3, true, [], by decide⟩,
   ⟨(L [(ob 0x5000 1, 4)] Line.reset), (lin 0xFF 0 14 3 false []), 0, 3, false, [], by decide⟩,
   ⟨(due .bypass up), by decide⟩,
   ⟨(due .addressHold (L [(ob 0x5000 1, 4)] Line.reset)), by decide⟩,
   ⟨(due .addressHold (L [(ob 0x5000 1, 4)] { Line.reset with decoded := true })), by decide⟩,
   ⟨(due .lineReply (L [(ob 0x5000 1, 4)] { Line.reset with reply := some [0, 4, 1] })), [0, 4, 1], by decide⟩⟩

/-- The premises of LineHead can be met, each clause's. -/
theorem witness_LineHead :
    (∃ (s : State), (s.driving = true) ∧ (s.isDue .linePoll = true) ∧ (s.line.inCycle = false) ∧ (s.line.ask = none) ∧ (s.line.search = none) ∧ ((∀ t : Tenant, s.reportDry t = false)) ∧ ((∀ t : Tenant, s.mayReport t = false))) ∧
    (∃ (s : State) (x : LineAsk), (s.line.ask = some x) ∧ (s.isDue .lineWindow = true) ∧ (s.rd (ob 0x5030 0x05) + 1 < 2 ^ 32)) ∧
    (∃ (s : State) (f : LineIn) (d : Nat) (x : Nat) (q : Nat) (b : Bool) (l : Octets), (s.driving = true) ∧ (checkLine f = .good d x 1 q b l) ∧ (s.line.ask = some (.poll x))) ∧
    (∃ (s : State) (f : LineIn) (d : Nat) (x : Nat) (q : Nat) (b : Bool) (l : Octets) (m : _), (s.driving = true) ∧ (checkLine f = .good d x 4 q b l) ∧ (s.line.ask = some (.data m)) ∧ (x = m.dest) ∧ (q = m.seq % 8)) ∧
    (∃ (s : State) (f : LineIn) (d : Nat) (x : Nat) (q : Nat) (b : Bool) (l : Octets) (i : _) (n : _), (s.driving = true) ∧ (checkLine f = .good d x 3 q b l) ∧ (s.line.ask = some (.assign i x n))) ∧
    (∃ (s : State) (f : LineIn) (d : Nat) (x : Nat) (q : Nat) (b : Bool) (l : Octets) (a : _), (s.driving = true) ∧ (checkLine f = .good d x 2 q b l) ∧ (s.line.ask = some (.poll a))) ∧
    (∃ (s : State), (s.driving = true) ∧ (s.line.ask = none) ∧ (s.line.search = none) ∧ (s.isDue .lineTime = true)) ∧
    (∃ (s : State), (s.driving = true) ∧ (s.line.ask = none) ∧ (s.line.search = none) ∧ (s.line.presence = true) ∧ (s.line.inCycle = false) ∧ (s.rd (ob 0x5030 0x01) + 1 < 2 ^ 32)) ∧
    (∃ (s : State), (s.driving = true) ∧ (s.line.ask = some .presence)) ∧
    (∃ (s : State) (x : Search) (n : Nat) (p : Nat) (l : List (Nat × Nat)) (v : List (Bool × Bool)), (s.driving = true) ∧ (s.line.ask = none) ∧ (s.line.search = some x) ∧ (x.stack = (n, p) :: l) ∧ (s.rd (ob 0x5030 0x01) + 1 < 2 ^ 32) ∧ ((triplets n p (64 - n) v l).1 = none)) ∧
    (∃ (s : State) (x : Search) (n : Nat) (p : Nat) (l : List (Nat × Nat)) (v : List (Bool × Bool)) (i : _) (a : _), (s.driving = true) ∧ (s.line.ask = none) ∧ (s.line.search = some x) ∧ (x.stack = (n, p) :: l) ∧ (s.rd (ob 0x5030 0x01) + 1 < 2 ^ 32) ∧ ((triplets n p (64 - n) v l).1 = some i) ∧ (s.nodeFor i = some a)) ∧
    (∃ (s : State) (x : Search) (n : Nat) (p : Nat) (l : List (Nat × Nat)) (v : List (Bool × Bool)) (i : _), (s.driving = true) ∧ (s.line.ask = none) ∧ (s.line.search = some x) ∧ (x.stack = (n, p) :: l) ∧ (s.rd (ob 0x5030 0x01) + 1 < 2 ^ 32) ∧ ((triplets n p (64 - n) v l).1 = some i) ∧ (s.nodeFor i = none)) ∧
    (∃ (s : State), (s.driving = true) ∧ (s.line.walk = true) ∧ (s.line.ask = none) ∧ (s.line.search = none) ∧ (s.line.inCycle = false) ∧ (s.line.table = [])) ∧
    (∃ (s : State) (t : Tenant) (j : Job), (s.Writes t j 0x5020 0x09 [1])) ∧
    (∃ (s : State) (t : Tenant) (j : Job), (s.Writes t j 0x5020 0x09 [2])) ∧
    (∃ (s : State) (t : Tenant) (j : Job), (s.Writes t j 0x5020 0x09 [3])) ∧
    (∃ (s : State) (t : Tenant) (j : Job), (s.Writes t j 0x5020 0x09 [4])) ∧
    (∃ (s : State) (t : Tenant) (j : Job) (a : Nat), (a < 256) ∧ (s.Writes t j 0x5020 0x0C (u8 a))) ∧
    (∃ (s : State) (p : Instr × Timer × Nat), (p ∈ [(Instr.headConflictLapse, Timer.foreignDip, 80), (.lineOvercurrentLapse, .lineOvercurrent, 81)]) ∧ (s.isDue p.2.1 = true)) ∧
    (∃ (s : State) (n : Nat), (s.driving = true) ∧ (s.rd (ob 0x5020 0x07) < n)) ∧
    (∃ (s : State) (n : Nat), (n ≤ s.rd (ob 0x5020 0x07))) ∧
    (∃ (s : State), (s.isDue .lineOff = true)) :=
  ⟨⟨(due .linePoll (L [(ob 0x1010 4, 1)] { Line.reset with driver := true })), by decide⟩,
   ⟨(due .lineWindow (L [(ob 0x1010 4, 1)] { Line.reset with driver := true, ask := some .presence })), .presence, by decide⟩,
   ⟨(L [(ob 0x1010 4, 1)] { Line.reset with driver := true, ask := some (.poll 4) }), (lin 0 4 1 3 false []), 0, 4, 3, false, [], by decide⟩,
   ⟨(L [(ob 0x1010 4, 1)] { Line.reset with driver := true, ask := some (.data (lm 0)) }), (lin 0 4 4 3 false []), 0, 4, 3, false, [], (lm 0), by decide⟩,
   ⟨(L [(ob 0x1010 4, 1)] { Line.reset with driver := true, ask := some (.assign 99 4 0) }), (lin 0 4 3 3 false []), 0, 4, 3, false, [], 99, 0, by decide⟩,
   ⟨(L [(ob 0x1010 4, 1)] { Line.reset with driver := true, ask := some (.poll 4) }), (lin 0 4 2 3 false []), 0, 4, 3, false, [], 4, by decide⟩,
   ⟨(due .lineTime (L [(ob 0x1010 4, 1)] { Line.reset with driver := true })), by decide⟩,
   ⟨(L [(ob 0x1010 4, 1)] { Line.reset with driver := true, presence := true }), by decide⟩,
   ⟨(L [(ob 0x1010 4, 1)] { Line.reset with driver := true, ask := some .presence }), by decide⟩,
   ⟨(L [(ob 0x1010 4, 1)] { Line.reset with driver := true, search := some ⟨1, [(62, 5)], 0, false⟩ }), ⟨1, [(62, 5)], 0, false⟩, 62, 5, [], [], by decide⟩,
   ⟨(L [(ob 0x1010 4, 1)] { Line.reset with driver := true, search := some ⟨1, [(62, 5)], 0, false⟩ }), ⟨1, [(62, 5)], 0, false⟩, 62, 5, [], [(true, false), (true, false)], 5, 1, by decide⟩,
   ⟨(L [(ob 0x1010 4, 1)] { Line.reset with driver := true, search := some ⟨1, [(62, 5)], 0, false⟩, table := (List.range 31).map (fun a => (a + 1, (⟨1, 100 + a, 0, 0, 0⟩ : Node))) }), ⟨1, [(62, 5)], 0, false⟩, 62, 5, [], [(true, false), (true, false)], 5, by decide⟩,
   ⟨(L [(ob 0x1010 4, 1)] { Line.reset with driver := true, walk := true }), by decide⟩,
   ⟨(req (L [(ob 0x1010 4, 1)] { Line.reset with driver := true, table := [(1, ⟨1, 99, 0, 0, 0⟩)] }) 0x5020 9 0 [1]), 0, (jb 0x5020 9 0 [1]), by unfold State.Writes State.WritesAt; decide⟩,
   ⟨(req (L [(ob 0x1010 4, 1)] { Line.reset with driver := true, table := [(1, ⟨1, 99, 0, 0, 0⟩)] }) 0x5020 9 0 [2]), 0, (jb 0x5020 9 0 [2]), by unfold State.Writes State.WritesAt; decide⟩,
   ⟨(req (L [(ob 0x1010 4, 1)] { Line.reset with driver := true, table := [(1, ⟨1, 99, 0, 0, 0⟩)] }) 0x5020 9 0 [3]), 0, (jb 0x5020 9 0 [3]), by unfold State.Writes State.WritesAt; decide⟩,
   ⟨(req (L [(ob 0x1010 4, 1)] { Line.reset with driver := true, table := [(1, ⟨1, 99, 0, 0, 0⟩)] }) 0x5020 9 0 [4]), 0, (jb 0x5020 9 0 [4]), by unfold State.Writes State.WritesAt; decide⟩,
   ⟨(req (L [(ob 0x1010 4, 1)] { Line.reset with driver := true, table := [(1, ⟨1, 99, 0, 0, 0⟩)] }) 0x5020 12 0 (u8 1)), 0, (jb 0x5020 12 0 (u8 1)), 1, by unfold State.Writes State.WritesAt; decide⟩,
   ⟨(due .foreignDip (L [(ob 0x1010 4, 1)] { Line.reset with driver := true })), (.headConflictLapse, .foreignDip, 80), by decide⟩,
   ⟨(L [(ob 0x1010 4, 1)] { Line.reset with driver := true }), 1001, by decide⟩,
   ⟨(L [(ob 0x1010 4, 1)] { Line.reset with driver := true }), 1000, by decide⟩,
   ⟨(due .lineOff (L [(ob 0x1010 4, 1)] { Line.reset with driver := true })), by decide⟩⟩

/-- The premises of PocketCardAndField can be met, each clause's. -/
theorem witness_PocketCardAndField :
    (∃ (s : State), (s.pocket.field = false)) ∧
    (∃ (s : State), (s.pocket.field = true)) ∧
    (∃ (s : State) (mv : Nat), (s.power.powered = false) ∧ (s.pocket.running = false) ∧ (s.pocket.field = true) ∧ (1800 ≤ mv) ∧ (s.pocket.commits = [])) ∧
    (∃ (mv : Nat), (mv < 1800)) ∧
    (∃ (s : State) (mv : Nat), (s.power.powered = false) ∧ (s.pocket.running = true) ∧ (mv < 1700) ∧ (s.pocket.commits = [])) ∧
    (∃ (s : State) (w : Bool), ((s.pocket.card = .idle ∨ (s.pocket.card = .halted ∧ w = true)))) ∧
    (∃ (s : State), ((s.pocket.card = .halted ∨ s.pocket.card = .iso ∨ s.pocket.card = .off))) ∧
    (∃ (s : State) (b : _), (s.pocket.card = .ready) ∧ (b ≠ s.pocket.uid)) ∧
    (∃ (s : State), (s.pocket.card = .active)) ∧
    (∃ (s : State), (s.pocket.card = .iso)) ∧
    (∃ (s : State), ((s.pocket.card = .active ∨ s.pocket.card = .iso))) ∧
    (∃ (s : State), (s.pocketSession = 0)) ∧
    (∃ (s : State), (s.pocketSession ≠ 0)) ∧
    (∃ (s : State), (s.isDue .pocketIdle = true) ∧ (s.power.powered = true)) ∧
    (∃ (s : State) (d : Nat), (s.dueAt .bridgeWtx = some d) ∧ (d ≤ s.now) ∧ (s.pocket.bridge ≠ none)) ∧
    (∃ (s : State), (s.isDue .bridgeTimeout = true) ∧ (s.pocket.bridge ≠ none)) ∧
    (∃ (s : State) (c : PageCommit), (s.pocket.commits = [c]) ∧ (s.power.powered = true) ∧ (s.pocket.running = true) ∧ (c.phys ≠ none) ∧ (c.since + s.pocket.commitUs c ≤ s.now) ∧ (s.pocket.held = none) ∧ (c.wand = true) ∧ (c.page ≠ 3) ∧ (c.page ≠ 0x40) ∧ (s.pocket.answer = none)) ∧
    (∃ (s : State) (c : PageCommit) (k : Nat), (s.pocket.commits = [c]) ∧ (s.power.powered = true) ∧ (s.pocket.running = true) ∧ (c.phys ≠ none) ∧ (c.since + s.pocket.commitUs c ≤ s.now) ∧ (s.pocket.held = none) ∧ (c.wand = true) ∧ (c.page ≠ 3) ∧ (c.page ≠ 0x40) ∧ (s.pocket.answer = some k)) ∧
    (∃ (s : State), (s.pocket.commits = [])) :=
  ⟨⟨(K [] { Pocket.reset with field := false }), by decide⟩,
   ⟨(K [] { Pocket.reset with field := true }), by decide⟩,
   ⟨{ (K [] { Pocket.reset with field := true, running := false }) with power := { State.reset.power with powered := false } }, 1800, by decide⟩,
   ⟨1799, by decide⟩,
   ⟨{ (K [] { Pocket.reset with running := true }) with power := { State.reset.power with powered := false } }, 1699, by decide⟩,
   ⟨{ up with pocket := { Pocket.reset with card := .halted } }, true, by decide⟩,
   ⟨{ up with pocket := { Pocket.reset with card := .off } }, by decide⟩,
   ⟨{ up with pocket := { Pocket.reset with card := .ready } }, [1], by decide⟩,
   ⟨{ up with pocket := { Pocket.reset with card := .active } }, by decide⟩,
   ⟨{ up with pocket := { Pocket.reset with card := .iso } }, by decide⟩,
   ⟨{ up with pocket := { Pocket.reset with card := .iso } }, by decide⟩,
   ⟨up, by decide⟩,
   ⟨(O [(ob 0x5400 2, 1)]), by decide⟩,
   ⟨(due .pocketIdle up), by decide⟩,
   ⟨(({ up with pocket := { Pocket.reset with bridge := some (1, 0) } }).arm .bridgeWtx 5 |> att 5), 5, by decide⟩,
   ⟨(due .bridgeTimeout { up with pocket := { Pocket.reset with bridge := some (1, 0) } }), by decide⟩,
   ⟨(att 6000 { up with pocket := { Pocket.reset with commits := [⟨0x50, [], true, 0, [], some 7⟩] } }), ⟨0x50, [], true, 0, [], some 7⟩, by decide⟩,
   ⟨(att 6000 { up with pocket := { Pocket.reset with commits := [⟨0x50, [], true, 0, [], some 7⟩], answer := some 0x94 } }), ⟨0x50, [], true, 0, [], some 7⟩, 0x94, by decide⟩,
   ⟨up, by decide⟩⟩

/-- The premises of WandCommands can be met, each clause's. -/
theorem witness_WandCommands :
    (∃ (s : State) (b : Octets) (a : Apdu), (s.Hears b a .select) ∧ (a.lcOk = true) ∧ (a.data = pocketAid)) ∧
    (∃ (s : State) (b : Octets) (a : Apdu), (s.Hears b a .select) ∧ (a.lcOk = true) ∧ (a.data ≠ pocketAid)) ∧
    (∃ (s : State) (b : Octets) (a : Apdu), (s.Hears b a .getInfo) ∧ (s.pocketSession = 0)) ∧
    (∃ (s : State) (b : Octets) (a : Apdu), (s.Hears b a .dictRead) ∧ (s.pocketSession = 3) ∧ (a.cla = 0x94) ∧ (a.lcOk = true) ∧ (s.unseal a = none)) ∧
    (∃ (s : State) (b : Octets) (a : Apdu), (s.HearsPlain b a .getInfo) ∧ (a.data = []) ∧ (a.p1 = 0) ∧ (a.p2 = 0)) ∧
    (∃ (s : State) (b : Octets) (a : Apdu), (s.HearsPlain b a .read) ∧ (a.data = []) ∧ (1 ≤ a.p2) ∧ (a.p2 ≤ 4) ∧ ((∀ k < a.p2, s.readSw 0x90 (a.p1 + k) = 0x9000))) ∧
    (∃ (s : State) (b : Octets) (a : Apdu), (s.HearsPlain b a .read) ∧ (a.data = []) ∧ (1 ≤ a.p2) ∧ (a.p2 ≤ 4) ∧ (s.readSw 0x90 a.p1 ≠ 0x9000)) ∧
    (∃ (s : State) (b : Octets) (a : Apdu), (s.HearsPlain b a .getCert) ∧ (a.data = []) ∧ (a.p2 ≤ 1) ∧ (s.pocketSession = 1)) ∧
    (∃ (s : State) (b : Octets) (a : Apdu), (s.HearsPlain b a .endSession) ∧ (a.data = []) ∧ (a.p1 = 0) ∧ (a.p2 = 0)) ∧
    (∃ (s : State) (b : Octets) (a : Apdu) (n : Nat), (s.HearsPlain b a .authBegin) ∧ (a.data.length = 16) ∧ (a.p1 < 8) ∧ (a.p2 = 0) ∧ (n < authDelay s.pocket.fails)) ∧
    (∃ (s : State) (b : Octets) (a : Apdu) (n : Nat), (s.HearsPlain b a .authBegin) ∧ (a.data.length = 16) ∧ (a.p1 < 8) ∧ (a.p2 = 0) ∧ (authDelay s.pocket.fails ≤ n) ∧ (s.pocketKeyed a.p1 = false)) ∧
    (∃ (s : State) (b : Octets) (a : Apdu) (n : Nat), (s.HearsPlain b a .authBegin) ∧ (a.data.length = 16) ∧ (a.p1 < 8) ∧ (a.p2 = 0) ∧ (authDelay s.pocket.fails ≤ n) ∧ (s.pocketKeyed a.p1 = true)) ∧
    (∃ (s : State) (b : Octets) (a : Apdu) (n : Nat), (s.HearsPlain b a .authFinish) ∧ (a.data.length = 16) ∧ (a.p1 = 0) ∧ (a.p2 = 0) ∧ (s.pocketSession = 2) ∧ (s.margin n = true) ∧ (a.data = cmac (s.slotKey (0x48 + s.pocket.slot)) (u8 0x57 ++ s.pocket.rndW ++ s.pocket.rndP))) ∧
    (∃ (s : State) (b : Octets) (a : Apdu) (n : Nat), (s.HearsPlain b a .authFinish) ∧ (a.data.length = 16) ∧ (a.p1 = 0) ∧ (a.p2 = 0) ∧ (s.pocketSession = 2) ∧ (s.margin n = true) ∧ (a.data ≠ cmac (s.slotKey (0x48 + s.pocket.slot)) (u8 0x57 ++ s.pocket.rndW ++ s.pocket.rndP))) ∧
    (∃ (s : State) (b : Octets) (a : Apdu) (n : Nat) (key : Octets) (kc : Octets) (x : Octets), (s.HearsPlain b a .confirm) ∧ (a.data.length = 16) ∧ (a.p2 = 0) ∧ (s.pocket.kx = some (key, kc, x)) ∧ (s.pocketSession = 1) ∧ (s.pocketKeyed 0 = false) ∧ (s.margin n = true) ∧ (s.pocket.scrub = false) ∧ (a.data = cmac kc (u8 0x57 ++ x))) ∧
    (∃ (s : State) (b : Octets) (a : Apdu) (n : Nat) (key : Octets) (kc : Octets) (x : Octets), (s.HearsPlain b a .confirm) ∧ (a.data.length = 16) ∧ (a.p2 = 0) ∧ (s.pocket.kx = some (key, kc, x)) ∧ (s.pocketSession = 1) ∧ (s.pocketKeyed 0 = false) ∧ (s.margin n = true) ∧ (s.pocket.scrub = false) ∧ (a.data ≠ cmac kc (u8 0x57 ++ x))) ∧
    (∃ (s : State) (b : Octets) (d : Octets) (a : Apdu) (q : _), (s.HearsSecured b a .readRaw d) ∧ (d = []) ∧ (a.p2 = 0) ∧ (s.readSw 0x94 a.p1 = 0x9000) ∧ (q < 256) ∧ (s.pocket.descByte q 3 = 0x7F) ∧ (s.pocket.descByte q 0 = a.p1) ∧ ((∀ r < q, s.pocket.descByte r 3 ≠ 0x7F ∨ s.pocket.descByte r 0 ≠ a.p1))) ∧
    (∃ (s : State) (b : Octets) (d : Octets) (a : Apdu), (s.HearsSecured b a .readRaw d) ∧ (d = []) ∧ (a.p2 = 0) ∧ (s.readSw 0x94 a.p1 = 0x9000) ∧ ((∀ r < 256, s.pocket.descByte r 3 ≠ 0x7F ∨ s.pocket.descByte r 0 ≠ a.p1))) ∧
    (∃ (s : State) (b : Octets) (d : Octets) (a : Apdu), (s.HearsSecured b a .write d) ∧ (d.length = 64) ∧ (a.p2 = 0) ∧ (s.writeSw a.p1 d ≠ 0x9000)) ∧
    (∃ (s : State) (b : Octets) (d : Octets) (a : Apdu) (n : Nat), (s.HearsSecured b a .write d) ∧ (d.length = 64) ∧ (a.p2 = 0) ∧ (s.writeSw a.p1 d = 0x9000) ∧ (s.margin n = false)) ∧
    (∃ (s : State) (b : Octets) (d : Octets) (a : Apdu) (n : Nat), (s.HearsSecured b a .write d) ∧ (d.length = 64) ∧ (a.p2 = 0) ∧ (s.writeSw a.p1 d = 0x9000) ∧ (s.margin n = true) ∧ (s.pocket.scrub = false)) ∧
    (∃ (s : State) (b : Octets) (d : Octets) (a : Apdu) (t : Tenant), (s.pocketTenant = some t) ∧ (s.power.powered = true) ∧ (s.up = true) ∧ (s.linkReady .pocket = true) ∧ (s.runState = 1) ∧ (s.HearsSecured b a .dictRead d) ∧ (d.length = 4) ∧ (byteAt d 3 = 0 ∨ 200 < byteAt d 3)) ∧
    (∃ (s : State) (b : Octets) (d : Octets) (a : Apdu) (t : Tenant), (s.pocketTenant = some t) ∧ (s.power.powered = true) ∧ (s.up = true) ∧ (s.linkReady .pocket = true) ∧ (s.runState = 1) ∧ (s.HearsSecured b a .dictRead d) ∧ (d.length = 4) ∧ (1 ≤ byteAt d 3) ∧ (byteAt d 3 ≤ 200)) ∧
    (∃ (s : State) (b : Octets) (a : Apdu), (s.HearsPlain b a .agree) ∧ (a.data.length = 64) ∧ (a.p2 = 0) ∧ (s.pocketSession = 1) ∧ (s.pocketKeyed 0 = false)) ∧
    (∃ (s : State) (b : Octets) (d : Octets) (a : Apdu) (t : Tenant), (s.pocketTenant = some t) ∧ (s.power.powered = true) ∧ (s.up = true) ∧ (s.linkReady .pocket = true) ∧ (s.runState = 1) ∧ (s.HearsSecured b a .dictWrite d) ∧ (4 ≤ d.length) ∧ (d.length ≤ 199)) ∧
    (∃ (s : State) (b : Octets) (d : Octets) (a : Apdu) (t : Tenant), (s.pocketTenant = some t) ∧ (s.power.powered = true) ∧ (s.up = true) ∧ (s.linkReady .pocket = true) ∧ (s.runState = 1) ∧ (s.HearsSecured b a .reset d) ∧ (d = []) ∧ (a.p2 = 0) ∧ (s.transportOn t .pocket = true) ∧ (1 ≤ a.p1) ∧ (a.p1 ≤ 8) ∧ ((t.val = 0 ∨ a.p1 = 1))) :=
  ⟨⟨(K [] Pocket.reset), (wb 0 0xA4 4 0 pocketAid), (wa 0 0xA4 4 0 pocketAid), by unfold State.Hears; decide⟩,
   ⟨(K [] Pocket.reset), (wb 0 0xA4 4 0 [1]), (wa 0 0xA4 4 0 [1]), by unfold State.Hears; decide⟩,
   ⟨(K [] Pocket.reset), (wb 0x90 0x10 0 0 []), (wa 0x90 0x10 0 0 []), by unfold State.Hears; decide⟩,
   ⟨(K [(ob 0x5400 2, 3), (ob 0x5400 3, 0)] Pocket.reset), (wb 0x94 0x50 0 0 [1, 2, 3]), (wa 0x94 0x50 0 0 [1, 2, 3]), by unfold State.Hears; decide⟩,
   ⟨(K [(ob 0x5400 2, 1)] Pocket.reset), (wb 0x90 0x10 0 0 []), (wa 0x90 0x10 0 0 []), by unfold State.HearsPlain State.Hears; decide⟩,
   ⟨(K [(ob 0x5400 2, 1)] Pocket.reset), (wb 0x90 0x20 0 4 []), (wa 0x90 0x20 0 4 []), by unfold State.HearsPlain State.Hears; decide⟩,
   ⟨(K [(ob 0x5400 2, 1)] Pocket.reset), (wb 0x90 0x20 0xF0 1 []), (wa 0x90 0x20 0xF0 1 []), by unfold State.HearsPlain State.Hears; decide⟩,
   ⟨(K [(ob 0x5400 2, 1)] Pocket.reset), (wb 0x90 0x48 1 1 []), (wa 0x90 0x48 1 1 []), by unfold State.HearsPlain State.Hears; decide⟩,
   ⟨(K [(ob 0x5400 2, 1)] Pocket.reset), (wb 0x90 0x7E 0 0 []), (wa 0x90 0x7E 0 0 []), by unfold State.HearsPlain State.Hears; decide⟩,
   ⟨(K [(ob 0x5400 2, 1)] { Pocket.reset with fails := 5 }), (wb 0x90 0x40 7 0 (List.replicate 16 1)), (wa 0x90 0x40 7 0 (List.replicate 16 1)), 1999999, by unfold State.HearsPlain State.Hears; decide⟩,
   ⟨(K [(ob 0x5400 2, 1)] { Pocket.reset with fails := 5 }), (wb 0x90 0x40 7 0 (List.replicate 16 1)), (wa 0x90 0x40 7 0 (List.replicate 16 1)), 2000000, by unfold State.HearsPlain State.Hears; decide⟩,
   ⟨{ K [(ob 0x5400 2, 1)] Pocket.reset with keys := { State.reset.keys with slots := [(0x4F, List.replicate 16 1)] } }, (wb 0x90 0x40 7 0 (List.replicate 16 1)), (wa 0x90 0x40 7 0 (List.replicate 16 1)), 0, by unfold State.HearsPlain State.Hears; decide⟩,
   ⟨{ K [(ob 0x5400 2, 2)] Pocket.reset with keys := { State.reset.keys with slots := [(0x4F, List.replicate 16 1)] } }, (wb 0x90 0x42 0 0 (cmac (State.slotKey ({ K [(ob 0x5400 2, 2)] Pocket.reset with keys := { State.reset.keys with slots := [(0x4F, List.replicate 16 1)] } }) (0x48 + 0)) (u8 0x57 ++ [] ++ []))), (wa 0x90 0x42 0 0 (cmac (State.slotKey ({ K [(ob 0x5400 2, 2)] Pocket.reset with keys := { State.reset.keys with slots := [(0x4F, List.replicate 16 1)] } }) (0x48 + 0)) (u8 0x57 ++ [] ++ []))), 5000, ⟨⟨⟨rfl, rfl, rfl, rfl, rfl, rfl, rfl, rfl⟩, by decide, rfl, rfl⟩, by decide, rfl, rfl, by decide, by decide, rfl⟩⟩,
   ⟨{ K [(ob 0x5400 2, 2)] Pocket.reset with keys := { State.reset.keys with slots := [(0x4F, List.replicate 16 1)] } }, (wb 0x90 0x42 0 0 (((cmac (State.slotKey ({ K [(ob 0x5400 2, 2)] Pocket.reset with keys := { State.reset.keys with slots := [(0x4F, List.replicate 16 1)] } }) (0x48 + 0)) (u8 0x57 ++ [] ++ []))).map (fun x => ~~~x))), (wa 0x90 0x42 0 0 (((cmac (State.slotKey ({ K [(ob 0x5400 2, 2)] Pocket.reset with keys := { State.reset.keys with slots := [(0x4F, List.replicate 16 1)] } }) (0x48 + 0)) (u8 0x57 ++ [] ++ []))).map (fun x => ~~~x))), 5000, ⟨⟨⟨rfl, rfl, rfl, rfl, rfl, rfl, rfl, rfl⟩, by decide, rfl, rfl⟩, by decide, rfl, rfl, by decide, by decide, fun h => flip_ne _ (by decide) h⟩⟩,
   ⟨(K [(ob 0x5400 2, 1)] { Pocket.reset with kx := some ([1], [2], [3]), scrub := false }), (wb 0x90 0x48 3 0 (cmac [2] (u8 0x57 ++ [3]))), (wa 0x90 0x48 3 0 (cmac [2] (u8 0x57 ++ [3]))), 5000, [1], [2], [3], ⟨⟨⟨rfl, rfl, rfl, rfl, rfl, rfl, rfl, rfl⟩, by decide, rfl, rfl⟩, by decide, rfl, rfl, by decide, by decide, by decide, rfl, rfl⟩⟩,
   ⟨(K [(ob 0x5400 2, 1)] { Pocket.reset with kx := some ([1], [2], [3]), scrub := false }), (wb 0x90 0x48 3 0 (((cmac [2] (u8 0x57 ++ [3]))).map (fun x => ~~~x))), (wa 0x90 0x48 3 0 (((cmac [2] (u8 0x57 ++ [3]))).map (fun x => ~~~x))), 5000, [1], [2], [3], ⟨⟨⟨rfl, rfl, rfl, rfl, rfl, rfl, rfl, rfl⟩, by decide, rfl, rfl⟩, by decide, rfl, rfl, by decide, by decide, by decide, rfl, fun h => flip_ne _ (by decide) h⟩⟩,
   ⟨(K [(ob 0x5400 2, 3), (ob 0x5400 3, 0)] { Pocket.reset with desc := [(28, 0x50), (31, 0x7F)] }), (wb 0x94 0x22 0x50 0 (sd 0x22 0x50 0 [])), (ctrCrypt [] [] 0 []), (wa 0x94 0x22 0x50 0 (sd 0x22 0x50 0 [])), 7, ⟨⟨⟨rfl, rfl, rfl, rfl, rfl, rfl, rfl, rfl⟩, by decide, rfl, rfl, if_pos ⟨by decide, rfl⟩, by decide⟩, rfl, rfl, by decide, by decide, by decide, by decide, by decide⟩⟩,
   ⟨(K [(ob 0x5400 2, 3), (ob 0x5400 3, 0)] Pocket.reset), (wb 0x94 0x22 0x50 0 (sd 0x22 0x50 0 [])), (ctrCrypt [] [] 0 []), (wa 0x94 0x22 0x50 0 (sd 0x22 0x50 0 [])), ⟨⟨⟨rfl, rfl, rfl, rfl, rfl, rfl, rfl, rfl⟩, by decide, rfl, rfl, if_pos ⟨by decide, rfl⟩, by decide⟩, rfl, rfl, by decide, by decide⟩⟩,
   ⟨(K [(ob 0x5400 2, 3), (ob 0x5400 3, 0)] Pocket.reset), (wb 0x94 0x30 0x10 0 (sd 0x30 0x10 0 (List.replicate 64 1))), (ctrCrypt [] [] 0 (List.replicate 64 1)), (wa 0x94 0x30 0x10 0 (sd 0x30 0x10 0 (List.replicate 64 1))), ⟨⟨⟨rfl, rfl, rfl, rfl, rfl, rfl, rfl, rfl⟩, by decide, rfl, rfl, if_pos ⟨by decide, rfl⟩, by decide⟩, by decide, rfl, by decide⟩⟩,
   ⟨{ (K [(ob 0x5400 2, 3), (ob 0x5400 3, 0)] Pocket.reset) with power := { State.reset.power with powered := false } }, (wb 0x94 0x30 0x50 0 (sd 0x30 0x50 0 (List.replicate 64 1))), (ctrCrypt [] [] 0 (List.replicate 64 1)), (wa 0x94 0x30 0x50 0 (sd 0x30 0x50 0 (List.replicate 64 1))), 0, ⟨⟨⟨rfl, rfl, rfl, rfl, rfl, rfl, rfl, rfl⟩, by decide, rfl, rfl, if_pos ⟨by decide, rfl⟩, by decide⟩, by decide, rfl, by decide, by decide⟩⟩,
   ⟨(K [(ob 0x5400 2, 3), (ob 0x5400 3, 0)] { Pocket.reset with scrub := false }), (wb 0x94 0x30 0x50 0 (sd 0x30 0x50 0 (List.replicate 64 1))), (ctrCrypt [] [] 0 (List.replicate 64 1)), (wa 0x94 0x30 0x50 0 (sd 0x30 0x50 0 (List.replicate 64 1))), 5000, ⟨⟨⟨rfl, rfl, rfl, rfl, rfl, rfl, rfl, rfl⟩, by decide, rfl, rfl, if_pos ⟨by decide, rfl⟩, by decide⟩, by decide, rfl, by decide, by decide, by decide⟩⟩,
   ⟨(K [(ob 0x1020 1, 1), (ob 0x5400 2, 3), (ob 0x5400 3, 0)] Pocket.reset), (wb 0x94 0x50 0 0 (sd 0x50 0 0 (ctrCrypt [] [] 0 [0, 0, 0, 201]))), (ctrCrypt [] [] 0 (ctrCrypt [] [] 0 [0, 0, 0, 201])), (wa 0x94 0x50 0 0 (sd 0x50 0 0 (ctrCrypt [] [] 0 [0, 0, 0, 201]))), 0, ⟨by decide, by decide, by decide, by decide, by decide, ⟨⟨rfl, rfl, rfl, rfl, rfl, rfl, rfl, rfl⟩, by decide, rfl, rfl, if_pos ⟨by decide, rfl⟩, by decide⟩, by decide, by rw [ctrCrypt_ctrCrypt]; decide⟩⟩,
   ⟨(K [(ob 0x1020 1, 1), (ob 0x5400 2, 3), (ob 0x5400 3, 0)] Pocket.reset), (wb 0x94 0x50 0 0 (sd 0x50 0 0 (ctrCrypt [] [] 0 [0, 0, 0, 200]))), (ctrCrypt [] [] 0 (ctrCrypt [] [] 0 [0, 0, 0, 200])), (wa 0x94 0x50 0 0 (sd 0x50 0 0 (ctrCrypt [] [] 0 [0, 0, 0, 200]))), 0, ⟨by decide, by decide, by decide, by decide, by decide, ⟨⟨rfl, rfl, rfl, rfl, rfl, rfl, rfl, rfl⟩, by decide, rfl, rfl, if_pos ⟨by decide, rfl⟩, by decide⟩, by decide, by rw [ctrCrypt_ctrCrypt]; decide, by rw [ctrCrypt_ctrCrypt]; decide⟩⟩,
   ⟨(K [(ob 0x5400 2, 1)] Pocket.reset), (wb 0x90 0x48 2 0 (List.replicate 64 1)), (wa 0x90 0x48 2 0 (List.replicate 64 1)), by unfold State.HearsPlain State.Hears; decide⟩,
   ⟨(K [(ob 0x1020 1, 1), (ob 0x5400 2, 3), (ob 0x5400 3, 0)] Pocket.reset), (wb 0x94 0x52 0 0 (sd 0x52 0 0 [1, 2, 3, 4])), (ctrCrypt [] [] 0 [1, 2, 3, 4]), (wa 0x94 0x52 0 0 (sd 0x52 0 0 [1, 2, 3, 4])), 0, ⟨by decide, by decide, by decide, by decide, by decide, ⟨⟨rfl, rfl, rfl, rfl, rfl, rfl, rfl, rfl⟩, by decide, rfl, rfl, if_pos ⟨by decide, rfl⟩, by decide⟩, by decide, by decide⟩⟩,
   ⟨(K [(ob 0x1020 1, 1), (ob 0x5400 2, 3), (ob 0x5400 3, 0)] Pocket.reset), (wb 0x94 0x60 6 0 (sd 0x60 6 0 [])), (ctrCrypt [] [] 0 []), (wa 0x94 0x60 6 0 (sd 0x60 6 0 [])), 0, ⟨by decide, by decide, by decide, by decide, by decide, ⟨⟨rfl, rfl, rfl, rfl, rfl, rfl, rfl, rfl⟩, by decide, rfl, rfl, if_pos ⟨by decide, rfl⟩, by decide⟩, rfl, rfl, by decide, by decide, by decide, Or.inl rfl⟩⟩⟩

/-- The premises of ServiceRequests can be met, each clause's. -/
theorem witness_ServiceRequests :
    (∃ (s : State), ((s.svc.inbound = [] ∨ s.up = false))) ∧
    (∃ (s : State) (a : Arrival) (l : List Arrival), (s.svc.inbound = a :: l) ∧ (s.up = true) ∧ (a.sealed = false) ∧ (s.active a.tenant = true) ∧ (s.svc.queues[a.tenant].length < 32)) ∧
    (∃ (s : State) (a : Arrival) (l : List Arrival), (s.svc.inbound = a :: l) ∧ (s.up = true) ∧ (a.sealed = false) ∧ ((s.active a.tenant = false ∨ 32 ≤ s.svc.queues[a.tenant].length))) ∧
    (∃ (s : State) (a : Arrival) (l : List Arrival), let macOk := s.serviceKey a.tenant ≠ [] ∧ (cmac (s.serviceKey a.tenant) (envelopeMessage 0x51 a.peer a.tenant.val a.counter a.unit)).take 8 = a.mac; (s.svc.inbound = a :: l) ∧ (s.up = true) ∧ (a.sealed = true) ∧ (¬ macOk) ∧ (s.rd (obT 0x1040 0x05 a.tenant) + 1 < 2 ^ 32)) ∧
    (∃ (s : State) (a : Arrival) (l : List Arrival), let macOk := s.serviceKey a.tenant ≠ [] ∧ (cmac (s.serviceKey a.tenant) (envelopeMessage 0x51 a.peer a.tenant.val a.counter a.unit)).take 8 = a.mac; (s.svc.inbound = a :: l) ∧ (s.up = true) ∧ (a.sealed = true) ∧ (macOk) ∧ (a.counter ≤ s.rd (obT 0x1034 0x04 a.tenant)) ∧ (s.rd (obT 0x1040 0x06 a.tenant) + 1 < 2 ^ 32)) ∧
    (∃ (s : State) (a : Arrival) (l : List Arrival), let macOk := s.serviceKey a.tenant ≠ [] ∧ (cmac (s.serviceKey a.tenant) (envelopeMessage 0x51 a.peer a.tenant.val a.counter a.unit)).take 8 = a.mac; (s.svc.inbound = a :: l) ∧ (s.up = true) ∧ (a.sealed = true) ∧ (macOk) ∧ (s.rd (obT 0x1034 0x04 a.tenant) < a.counter) ∧ (a.counter ≤ 0xFFFFF000) ∧ (a.counter < s.svc.floorEnd[a.tenant] + 2048) ∧ (s.active a.tenant = true) ∧ (s.svc.queues[a.tenant].length < 32)) ∧
    (∃ (s : State) (t : Tenant) (j : Job) (i : Nat) (sub : Nat), (s.turn t = some j) ∧ (j.req.op = .read i sub 0 0) ∧ (s.visible t i sub = true) ∧ (s.transportOn t j.req.transport = true) ∧ (writeOnly i sub = false) ∧ (s.linkStatus i sub = 0) ∧ ((s.valueBytes t i sub).length ≤ chunk j.req.transport s.secLevel false)) ∧
    (∃ (s : State) (t : Tenant) (j : Job) (i : Nat) (sub : Nat), (s.turn t = some j) ∧ (j.req.op = .read i sub 0 0) ∧ (s.visible t i sub = false)) ∧
    (∃ (s : State) (t : Tenant) (j : Job) (i : Nat) (sub : Nat), (s.turn t = some j) ∧ (j.req.op = .describe i sub) ∧ (s.visible t i sub = true) ∧ (s.transportOn t j.req.transport = true)) ∧
    (∃ (s : State) (t : Tenant) (j : Job) (i : Nat) (sub : Nat), (s.turn t = some j) ∧ (j.req.op = .describe i sub) ∧ (s.visible t i sub = false)) ∧
    (∃ (s : State) (t : Tenant) (j : Job) (i : Nat) (sub : Nat) (p : _), (s.turn t = some j) ∧ (j.req.op = .next i sub) ∧ (s.nextObject t i sub = some p) ∧ (s.transportOn t j.req.transport = true)) ∧
    (∃ (s : State) (t : Tenant) (j : Job) (i : Nat) (sub : Nat), (s.turn t = some j) ∧ (j.req.op = .next i sub) ∧ (s.nextObject t i sub = none)) ∧
    (∃ (s : State) (t : Tenant) (j : Job) (i : Nat) (sub : Nat) (off : Nat) (v : Octets) (r : Row), (s.WritesAt t j i sub off v) ∧ (ownOf i sub v = .plain) ∧ (Dict.row? i sub = some r) ∧ (r.acc ≠ .wo)) ∧
    (∃ (s : State) (t : Tenant) (j : Job) (n : Nat), (n < 65536) ∧ (s.Writes t j 0x1061 0x01 (u16 n))) ∧
    (∃ (s : State) (t : Tenant) (j : Job) (i : Nat) (sub : Nat) (off : Nat) (st : Nat) (v : Octets), (s.turn t = some j) ∧ (j.req.op = .write i sub off v) ∧ (ownOf i sub v = .plain) ∧ (s.writeStatus t j.req.transport i sub off v = st) ∧ (st ≠ 0)) ∧
    (∃ (s : State) (t : Tenant) (j : Job) (i : Nat) (sub : Nat) (n : Nat) (k : Nat) (ev : Nat) (iv : Nat) (db : Nat), (s.turn t = some j) ∧ (j.req.op = .subscribe i sub k ev iv db) ∧ (s.visible t i sub = true) ∧ (s.transportOn t j.req.transport = true) ∧ (writeOnly i sub = false) ∧ (s.freeSub t = some n) ∧ ((s.valueBytes t i sub).length ≤ s.routeChunk t) ∧ (s.subRange t i sub k ev db = 0)) ∧
    (∃ (s : State) (t : Tenant) (j : Job) (i : Nat) (sub : Nat) (n : Nat) (ev : Nat) (iv : Nat) (db : Nat), (s.turn t = some j) ∧ (j.req.op = .subscribe i sub 2 ev iv db) ∧ (s.visible t i sub = true) ∧ (s.transportOn t j.req.transport = true) ∧ (writeOnly i sub = false) ∧ ((s.valueBytes t i sub).length ≤ s.routeChunk t) ∧ (s.freeSub t = some n) ∧ (s.couldReceive t ev = false)) ∧
    (∃ (s : State) (t : Tenant) (j : Job) (n : Nat), (s.turn t = some j) ∧ (j.req.op = .unsubscribe n) ∧ (s.transportOn t j.req.transport = true) ∧ ((∃ e ∈ s.router.boxes[t].subs, e.entry = n))) ∧
    (∃ (s : State) (t : Tenant) (j : Job) (n : Nat), (s.turn t = some j) ∧ (j.req.op = .unsubscribe n) ∧ (s.transportOn t j.req.transport = true) ∧ ((∀ e ∈ s.router.boxes[t].subs, e.entry ≠ n))) ∧
    (∃ (s : State) (t : Tenant) (n : Nat) (e : Sub), (s.router.boxes[t].subs.find? (fun e => e.entry == n) = some e) ∧ (e.held = true) ∧ (s.up = true) ∧ (e.toldAt + e.interval * 1000000 ≤ s.now)) ∧
    (∃ (s : State) (t : Tenant) (n : Nat) (e : Sub), (s.router.boxes[t].subs.find? (fun e => e.entry == n) = some e) ∧ (e.held = true) ∧ (s.up = true) ∧ (e.toldAt + e.interval * 1000000 ≤ s.now)) ∧
    (∃ (s : State) (t : Tenant) (n : Nat), ((∀ e ∈ s.router.boxes[t].subs, e.entry = n → e.held = false))) :=
  ⟨⟨up, by decide⟩,
   ⟨{ up with svc := { State.reset.svc with inbound := [⟨.host, 9, 0, 0, [], [2]⟩] } }, ⟨.host, 9, 0, 0, [], [2]⟩, [], by decide⟩,
   ⟨{ up with svc := { State.reset.svc with inbound := [⟨.host, 9, 7, 0, [], [2]⟩] } }, ⟨.host, 9, 7, 0, [], [2]⟩, [], by decide⟩,
   ⟨{ up with svc := { State.reset.svc with inbound := [⟨.mesh, 9, 7, 1, [], [2]⟩] } }, ⟨.mesh, 9, 7, 1, [], [2]⟩, [], ⟨rfl, by decide, rfl, fun h => h.1 (by decide), by decide⟩⟩,
   ⟨{ { O [(obT 0x1034 4 0, 5)] with keys := { State.reset.keys with slots := [(0x40, [1])] } } with svc := { State.reset.svc with inbound := [⟨.mesh, 9, 0, 5, ((cmac [1] (envelopeMessage 0x51 9 0 5 [2])).take 8), [2]⟩] } }, ⟨.mesh, 9, 0, 5, ((cmac [1] (envelopeMessage 0x51 9 0 5 [2])).take 8), [2]⟩, [], ⟨rfl, by decide, rfl, ⟨by decide, rfl⟩, by decide, by decide⟩⟩,
   ⟨{ { O [(obT 0x1034 4 0, 5)] with keys := { State.reset.keys with slots := [(0x40, [1])] } } with svc := { { State.reset.svc with floorEnd := Vector.replicate 8 4096 } with inbound := [⟨.mesh, 9, 0, 6, ((cmac [1] (envelopeMessage 0x51 9 0 6 [2])).take 8), [2]⟩] } }, ⟨.mesh, 9, 0, 6, ((cmac [1] (envelopeMessage 0x51 9 0 6 [2])).take 8), [2]⟩, [], ⟨rfl, by decide, rfl, ⟨by decide, rfl⟩, by decide, by decide, by decide, by decide, by decide⟩⟩,
   ⟨(rq up (.read 0x1020 1 0 0)), 0, (jq (.read 0x1020 1 0 0)), 0x1020, 1, by decide⟩,
   ⟨(rq up (.read 0x1021 1 0 0)), 0, (jq (.read 0x1021 1 0 0)), 0x1021, 1, by decide⟩,
   ⟨(rq up (.describe 0x1020 1)), 0, (jq (.describe 0x1020 1)), 0x1020, 1, by decide⟩,
   ⟨(rq up (.describe 0x1021 1)), 0, (jq (.describe 0x1021 1)), 0x1021, 1, by decide⟩,
   ⟨(rq up (.next 0x1020 1)), 0, (jq (.next 0x1020 1)), 0x1020, 1, (0x1020, 2), by decide⟩,
   ⟨(rq up (.next 0xFFFF 0xFF)), 0, (jq (.next 0xFFFF 0xFF)), 0xFFFF, 0xFF, by decide⟩,
   ⟨(req up 0x1010 1 0 [2]), 0, (jb 0x1010 1 0 [2]), 0x1010, 1, 0, [2], ⟨1, 1, .u8, .rwp, .fixed 1, .val 0, .rng 0 2, false⟩, by unfold State.WritesAt; decide⟩,
   ⟨(req up 0x1061 1 0 (u16 2800)), 0, (jb 0x1061 1 0 (u16 2800)), 2800, by unfold State.Writes State.WritesAt; decide⟩,
   ⟨(req up 0x1020 1 0 [1]), 0, (jb 0x1020 1 0 [1]), 0x1020, 1, 0, 2, [1], by decide⟩,
   ⟨(rq up (.subscribe 0x1020 1 1 0 0 0)), 0, (jq (.subscribe 0x1020 1 1 0 0 0)), 0x1020, 1, 0, 1, 0, 0, 0, by decide⟩,
   ⟨(rq up (.subscribe 0x1020 1 2 0xFFFE 0 0)), 0, (jq (.subscribe 0x1020 1 2 0xFFFE 0 0)), 0x1020, 1, 0, 0xFFFE, 0, 0, by decide⟩,
   ⟨(rq { up with router := { up.router with boxes := up.router.boxes.set 0 { Mailbox.reset with subs := [⟨3, 0x1020, 1, 1, 0, 1, 0, 0, none, none, 0, false⟩] } } } (.unsubscribe 3)), 0, (jq (.unsubscribe 3)), 3, by decide⟩,
   ⟨(rq up (.unsubscribe 3)), 0, (jq (.unsubscribe 3)), 3, by decide⟩,
   ⟨(att 1000000 { up with router := { up.router with boxes := up.router.boxes.set 7 { Mailbox.reset with subs := [⟨3, 0x1020, 1, 1, 0, 1, 0, 0, none, none, 0, true⟩] } } }), 7, 3, ⟨3, 0x1020, 1, 1, 0, 1, 0, 0, none, none, 0, true⟩, by decide⟩,
   ⟨(att 1000000 { up with router := { up.router with boxes := up.router.boxes.set 7 { Mailbox.reset with subs := [⟨3, 0x1020, 1, 1, 0, 1, 0, 0, none, some 1, 0, true⟩] } } }), 7, 3, ⟨3, 0x1020, 1, 1, 0, 1, 0, 0, none, some 1, 0, true⟩, by decide⟩,
   ⟨{ up with router := { up.router with boxes := up.router.boxes.set 7 { Mailbox.reset with subs := [⟨3, 0x1020, 1, 1, 0, 1, 0, 0, none, none, 0, false⟩] } } }, 7, 3, by decide⟩⟩

/-- The premises of BlockTransfers can be met, each clause's. -/
theorem witness_BlockTransfers :
    (∃ (s : State) (t : Tenant) (j : Job) (i : Nat) (sub : Nat), (s.turn t = some j) ∧ (j.req.op = .blockOpenRead i sub) ∧ (s.visible t i sub = true) ∧ (s.transportOn t j.req.transport = true) ∧ (writeOnly i sub = false) ∧ (s.linkStatus i sub = 0) ∧ (s.svc.blocks[t] = none)) ∧
    (∃ (s : State) (t : Tenant) (j : Job) (i : Nat) (sub : Nat), (s.turn t = some j) ∧ (j.req.op = .blockOpenRead i sub) ∧ (s.visible t i sub = true) ∧ (s.transportOn t j.req.transport = true) ∧ (writeOnly i sub = false) ∧ (s.linkStatus i sub = 0) ∧ (s.svc.blocks[t] ≠ none)) ∧
    (∃ (s : State) (t : Tenant) (j : Job) (n : Nat), (s.turn t = some j) ∧ (j.req.op = .blockOpenWrite n) ∧ (s.transportOn t j.req.transport = true) ∧ (s.svc.blocks[t] = none) ∧ (n ≤ 5120)) ∧
    (∃ (s : State) (t : Tenant) (j : Job) (n : Nat), (s.turn t = some j) ∧ (j.req.op = .blockOpenWrite n) ∧ (s.transportOn t j.req.transport = true) ∧ (s.svc.blocks[t] = none) ∧ (5120 < n)) ∧
    (∃ (s : State) (t : Tenant) (j : Job) (off : Nat) (r : Octets), (s.turn t = some j) ∧ (j.req.op = .blockData off r) ∧ (s.transportOn t j.req.transport = true) ∧ (s.svc.blocks[t] = none)) ∧
    (∃ (s : State) (t : Tenant) (j : Job) (off : Nat) (r : Octets) (b : _), (s.turn t = some j) ∧ (j.req.op = .blockData off r) ∧ (s.transportOn t j.req.transport = true) ∧ (s.svc.blocks[t] = some b) ∧ (b.write = true) ∧ (r.length ≤ chunk j.req.transport s.secLevel true) ∧ (off + r.length ≤ b.total) ∧ ((off = b.staged.length ∨ off = b.last))) ∧
    (∃ (s : State) (t : Tenant) (j : Job) (off : Nat) (r : Octets) (b : _), (s.turn t = some j) ∧ (j.req.op = .blockData off r) ∧ (s.transportOn t j.req.transport = true) ∧ (s.svc.blocks[t] = some b) ∧ (b.write = true) ∧ (r.length ≤ chunk j.req.transport s.secLevel true) ∧ (off + r.length ≤ b.total) ∧ (off ≠ b.staged.length) ∧ (off ≠ b.last)) ∧
    (∃ (s : State) (t : Tenant) (j : Job) (off : Nat) (r : Octets) (b : _), (s.turn t = some j) ∧ (j.req.op = .blockData off r) ∧ (s.transportOn t j.req.transport = true) ∧ (s.svc.blocks[t] = some b) ∧ (b.write = false) ∧ (r.length = 2) ∧ (s.visible t b.obj.1 b.obj.2 = true) ∧ (off + u16At r 0 ≤ b.total) ∧ (u16At r 0 ≤ chunk j.req.transport s.secLevel false)) ∧
    (∃ (s : State) (t : Tenant) (j : Job) (n : Nat), (s.turn t = some j) ∧ (j.req.op = .blockClose n) ∧ (s.transportOn t j.req.transport = true) ∧ (s.svc.blocks[t] = none)) ∧
    (∃ (s : State) (t : Tenant) (j : Job) (n : Nat) (b : _), (s.turn t = some j) ∧ (j.req.op = .blockClose n) ∧ (s.transportOn t j.req.transport = true) ∧ (s.svc.blocks[t] = some b) ∧ (b.write = true) ∧ (n ≠ 1)) ∧
    (∃ (s : State) (t : Tenant) (j : Job) (n : Nat) (b : _), (s.turn t = some j) ∧ (j.req.op = .blockClose n) ∧ (s.transportOn t j.req.transport = true) ∧ (s.svc.blocks[t] = some b) ∧ (b.write = true) ∧ (n = 1) ∧ (b.staged.length < b.total)) ∧
    (∃ (s : State) (t : Tenant) (j : Job) (n : Nat) (b : _), (s.turn t = some j) ∧ (j.req.op = .blockClose n) ∧ (s.transportOn t j.req.transport = true) ∧ (s.svc.blocks[t] = some b) ∧ (b.write = true) ∧ (n = 1) ∧ (b.total ≤ b.staged.length) ∧ (blockRecords b.staged.length b.staged = none)) ∧
    (∃ (s : State) (t : Tenant) (j : Job) (n : Nat) (b : _) (l : _), (s.turn t = some j) ∧ (j.req.op = .blockClose n) ∧ (s.transportOn t j.req.transport = true) ∧ (s.svc.blocks[t] = some b) ∧ (b.write = true) ∧ (n = 1) ∧ (b.total ≤ b.staged.length) ∧ (blockRecords b.staged.length b.staged = some l)) ∧
    (∃ (s : State) (t : Tenant) (j : Job) (n : Nat) (b : _) (l : _), (s.turn t = some j) ∧ (j.req.op = .blockClose n) ∧ (s.transportOn t j.req.transport = true) ∧ (s.svc.blocks[t] = some b) ∧ (b.write = true) ∧ (n = 1) ∧ (b.total ≤ b.staged.length) ∧ (blockRecords b.staged.length b.staged = some l)) ∧
    (∃ (s : State) (t : Tenant) (j : Job) (n : Nat) (b : _), (s.turn t = some j) ∧ (j.req.op = .blockClose n) ∧ (s.transportOn t j.req.transport = true) ∧ (s.svc.blocks[t] = some b) ∧ (b.write = false) ∧ (s.visible t b.obj.1 b.obj.2 = true)) ∧
    (∃ (s : State) (t : Tenant), (s.isDue (.blockLapse t) = true)) :=
  ⟨⟨(rq up (.blockOpenRead 0x1020 1)), 0, (jq (.blockOpenRead 0x1020 1)), 0x1020, 1, by decide⟩,
   ⟨(rq { up with svc := { up.svc with blocks := up.svc.blocks.set 0 (some ⟨true, 10, [], 0, (0x1020, 1)⟩) } } (.blockOpenRead 0x1020 1)), 0, (jq (.blockOpenRead 0x1020 1)), 0x1020, 1, by decide⟩,
   ⟨(rq up (.blockOpenWrite 5120)), 0, (jq (.blockOpenWrite 5120)), 5120, by decide⟩,
   ⟨(rq up (.blockOpenWrite 5121)), 0, (jq (.blockOpenWrite 5121)), 5121, by decide⟩,
   ⟨(rq up (.blockData 0 [1])), 0, (jq (.blockData 0 [1])), 0, [1], by decide⟩,
   ⟨(rq { up with svc := { up.svc with blocks := up.svc.blocks.set 0 (some ⟨true, 10, [1, 2], 0, (0x1020, 1)⟩) } } (.blockData 2 (List.replicate 8 1))), 0, (jq (.blockData 2 (List.replicate 8 1))), 2, (List.replicate 8 1), ⟨true, 10, [1, 2], 0, (0x1020, 1)⟩, by decide⟩,
   ⟨(rq { up with svc := { up.svc with blocks := up.svc.blocks.set 0 (some ⟨true, 10, [1, 2], 0, (0x1020, 1)⟩) } } (.blockData 1 [1])), 0, (jq (.blockData 1 [1])), 1, [1], ⟨true, 10, [1, 2], 0, (0x1020, 1)⟩, by decide⟩,
   ⟨(rq { up with svc := { up.svc with blocks := up.svc.blocks.set 0 (some ⟨false, 10, (List.replicate 10 1), 0, (0x1020, 1)⟩) } } (.blockData 0 (u16 10))), 0, (jq (.blockData 0 (u16 10))), 0, (u16 10), ⟨false, 10, (List.replicate 10 1), 0, (0x1020, 1)⟩, by decide⟩,
   ⟨(rq up (.blockClose 1)), 0, (jq (.blockClose 1)), 1, by decide⟩,
   ⟨(rq { up with svc := { up.svc with blocks := up.svc.blocks.set 0 (some ⟨true, 10, [1, 2], 0, (0x1020, 1)⟩) } } (.blockClose 2)), 0, (jq (.blockClose 2)), 2, ⟨true, 10, [1, 2], 0, (0x1020, 1)⟩, by decide⟩,
   ⟨(rq { up with svc := { up.svc with blocks := up.svc.blocks.set 0 (some ⟨true, 10, [1, 2], 0, (0x1020, 1)⟩) } } (.blockClose 1)), 0, (jq (.blockClose 1)), 1, ⟨true, 10, [1, 2], 0, (0x1020, 1)⟩, by decide⟩,
   ⟨(rq { up with svc := { up.svc with blocks := up.svc.blocks.set 0 (some ⟨true, 2, [1, 2], 0, (0x1020, 1)⟩) } } (.blockClose 1)), 0, (jq (.blockClose 1)), 1, ⟨true, 2, [1, 2], 0, (0x1020, 1)⟩, by decide⟩,
   ⟨(rq { up with svc := { up.svc with blocks := up.svc.blocks.set 0 (some ⟨true, 8, ([0x20, 0x10, 1, 0, 0, 1, 0, 1] : Octets), 0, (0x1020, 1)⟩) } } (.blockClose 1)), 0, (jq (.blockClose 1)), 1, ⟨true, 8, ([0x20, 0x10, 1, 0, 0, 1, 0, 1] : Octets), 0, (0x1020, 1)⟩, [(0x1020, 1, 0, [1])], by decide⟩,
   ⟨(rq { up with svc := { up.svc with blocks := up.svc.blocks.set 0 (some ⟨true, 8, ([0x10, 0x10, 1, 0, 0, 1, 0, 2] : Octets), 0, (0x1020, 1)⟩) } } (.blockClose 1)), 0, (jq (.blockClose 1)), 1, ⟨true, 8, ([0x10, 0x10, 1, 0, 0, 1, 0, 2] : Octets), 0, (0x1020, 1)⟩, [(0x1010, 1, 0, [2])], by decide⟩,
   ⟨(rq { up with svc := { up.svc with blocks := up.svc.blocks.set 0 (some ⟨false, 1, [1], 0, (0x1020, 1)⟩) } } (.blockClose 1)), 0, (jq (.blockClose 1)), 1, ⟨false, 1, [1], 0, (0x1020, 1)⟩, by decide⟩,
   ⟨(due (.blockLapse 7) up), 7, by decide⟩⟩

/-- The premises of HostPortTransactions can be met, each clause's. -/
theorem witness_HostPortTransactions :
    (∃ (s : State), (s.hostUp = true) ∧ (s.power.powered = true) ∧ (s.runState = 1)) ∧
    (∃ (s : State), (s.hostUp = false)) ∧
    (∃ (s : State) (b : Octets) (c : _), (s.hostServed = false) ∧ (c ∈ [Instr.fetchReply b, .fetchEvent b, .status b])) ∧
    (∃ (s : State) (b : Octets), (s.hostServed = true) ∧ (badSubmit b = false) ∧ (s.hostOutstanding < 4)) ∧
    (∃ (s : State) (b : Octets), (s.hostServed = true) ∧ ((badSubmit b = true ∨ 4 ≤ s.hostOutstanding))) ∧
    (∃ (s : State), (s.hostServed = true) ∧ (s.hostReply = none)) ∧
    (∃ (s : State) (r : _), (s.hostServed = true) ∧ (s.hostReply = some r)) ∧
    (∃ (s : State) (b : Octets) (t : Tenant), (s.hostServed = true) ∧ (byteAt b 0 = t.val) ∧ (s.hostEvents t = [])) ∧
    (∃ (s : State) (b : Octets) (t : Tenant) (q : _) (l : _), (s.hostServed = true) ∧ (byteAt b 0 = t.val) ∧ (s.hostEvents t = q :: l)) :=
  ⟨⟨(O [(ob 0x1020 1, 1), (ob 0x1060 6, 1)]), by decide⟩,
   ⟨(O [(ob 0x1060 6, 0)]), by decide⟩,
   ⟨(O [(ob 0x1060 6, 0)]), [], .status [], by decide⟩,
   ⟨(O [(ob 0x1020 1, 1), (ob 0x1060 6, 1)]), ([0, 3, 0, 9, 0, 1] ++ u16 (crc16 [0, 3, 0, 9, 0, 1])), by decide⟩,
   ⟨(O [(ob 0x1020 1, 1), (ob 0x1060 6, 1)]), [], by decide⟩,
   ⟨(O [(ob 0x1020 1, 1), (ob 0x1060 6, 1)]), by decide⟩,
   ⟨{ (O [(ob 0x1020 1, 1), (ob 0x1060 6, 1)]) with svc := { up.svc with replies := [⟨1, 0, (jq (.next 0 0)).req, 0, []⟩] } }, ⟨1, 0, (jq (.next 0 0)).req, 0, []⟩, by decide⟩,
   ⟨(O [(ob 0x1020 1, 1), (ob 0x1060 6, 1)]), [7], 7, by decide⟩,
   ⟨{ (O [(ob 0x1020 1, 1), (ob 0x1030 8, 4), (ob 0x1060 6, 1)]) with router := { up.router with boxes := up.router.boxes.set 7 { Mailbox.reset with queue := [⟨some 1, 5, 0, [], 4, false⟩] } } }, [7], 7, ⟨some 1, 5, 0, [], 4, false⟩, [], by decide⟩⟩

/-- The premises of NvaCommits can be met, each clause's. -/
theorem witness_NvaCommits :
    (∃ (s : State), (s.order = [])) ∧
    (∃ (s : State), (s.power.powered = true) ∧ (s.rst.waiting = []) ∧ (s.rst.quiescing = none) ∧ (s.order = [.tags])) ∧
    (∃ (s : State) (k : _) (v : _) (x : _), (s.power.powered = true) ∧ (s.rst.waiting = []) ∧ (s.rst.quiescing = none) ∧ (s.order = [.own [(k, v)]]) ∧ (x ≠ k) ∧ (k ∉ checkpointKeys)) ∧
    (∃ (s : State) (k : _) (v : _), (s.power.powered = true) ∧ (s.rst.waiting = []) ∧ (s.rst.quiescing = none) ∧ (s.order = [.own [(k, v)]]) ∧ (k ∈ checkpointKeys)) ∧
    (∃ (s : State) (t : Tenant) (j : Job) (k : Nat) (v : Nat) (d : Octets) (x : _), (s.power.powered = true) ∧ (s.rst.waiting = []) ∧ (s.rst.quiescing = none) ∧ (s.order = [.dict t j.id [(k, v)]]) ∧ (s.nva k ≠ v) ∧ (s.crypto.queues[t0] = []) ∧ (s.crypto.running = none) ∧ (s.svc.queues[t].find? (fun x => x.id == j.id) = some j) ∧ (j.phase = .committing d) ∧ (x ≠ k) ∧ (k ∉ checkpointKeys)) ∧
    (∃ (s : State) (c : Commit) (l : List Commit), (s.power.powered = true) ∧ (s.order = c :: l) ∧ (s.retried = false)) ∧
    (∃ (s : State) (c : Commit) (l : List Commit) (w : _), (s.power.powered = true) ∧ (s.order = c :: l) ∧ (s.retried = true) ∧ (c = .own w)) ∧
    (∃ (s : State) (c : Commit) (l : List Commit) (x : _), (s.power.powered = true) ∧ (s.order = c :: l) ∧ (s.retried = true) ∧ (c = .checkpoint x)) ∧
    (∃ (s : State) (c : Commit) (l : List Commit) (t : _) (id : _) (w : _), (s.power.powered = true) ∧ (s.order = c :: l) ∧ (s.retried = true) ∧ (c = .dict t id w)) ∧
    (∃ (s : State) (d : Nat) (c : Commit), (s.again = [(d, c)]) ∧ (d ≤ s.now) ∧ (s.listens = true) ∧ (s.order = [])) ∧
    (∃ (s : State), ((∀ p ∈ s.again, s.now < p.1))) :=
  ⟨⟨up, by decide⟩,
   ⟨{ up with order := [.tags] }, by decide⟩,
   ⟨{ up with order := [.own [(ob 0x1060 7, 2)]] }, (ob 0x1060 7), 2, 0, by decide⟩,
   ⟨{ up with order := [.own [(ob 0x1070 1, 2)]] }, (ob 0x1070 1), 2, by decide⟩,
   ⟨{ up with order := [.dict 0 1 [(ob 0x1060 7, 2)]], svc := { up.svc with queues := up.svc.queues.set 0 [{ jb 0x1060 7 0 [2] with phase := .committing [] }] } }, 0, { jb 0x1060 7 0 [2] with phase := .committing [] }, (ob 0x1060 7), 2, [], 0, by decide⟩,
   ⟨{ up with order := [.tags] }, .tags, [], by decide⟩,
   ⟨{ up with order := [.own []], retried := true }, (.own []), [], [], by decide⟩,
   ⟨{ up with order := [.checkpoint 7], retried := true }, (.checkpoint 7), [], 7, by decide⟩,
   ⟨{ up with order := [.dict 3 1 []], retried := true }, (.dict 3 1 []), [], 3, 1, [], by decide⟩,
   ⟨(att 5 { up with again := [(5, .tags)] }), 5, .tags, by decide⟩,
   ⟨{ up with again := [(5, .tags)] }, by decide⟩⟩

/-- The premises of TenantsAndAllotments can be met, each clause's. -/
theorem witness_TenantsAndAllotments :
    (∃ (s : State) (t : Tenant) (j : Job) (n : Tenant), (s.Writes t j 0x9000 0x01 [1]) ∧ (s.tenantTarget = n)) ∧
    (∃ (s : State) (t : Tenant) (j : Job) (n : Tenant) (k : _), let i := 0x9020 + n.val; (s.Writes t j 0x9000 0x01 [1]) ∧ (s.tenantTarget = n) ∧ (ownCopy n k = false) ∧ (k ≠ ob 0x9000 0x03) ∧ ((∀ m ∈ [1, 2, 3, 4, 5, 7, 8, 9], k ≠ ob i m))) ∧
    (∃ (s : State) (t : Tenant) (j : Job) (n : Tenant) (k : _), (s.Writes t j 0x9000 0x01 [1]) ∧ (s.tenantTarget = n) ∧ (ownCopy n k = true) ∧ (keyIndex k ≠ 0x1034)) ∧
    (∃ (s : State) (t : Tenant) (j : Job), (s.Writes t j 0x9000 0x01 [2])) ∧
    (∃ (s : State) (t : Tenant) (j : Job), (s.Writes t j 0x9000 0x01 [3])) ∧
    (∃ (s : State) (j : Job) (v st : Nat), (v = 1 ∨ v = 2 ∨ v = 3) ∧ (s.turn t0 = some j) ∧ (j.req.op = .write 0x9000 0x01 0 (u8 v)) ∧ (s.writeStatus t0 j.req.transport 0x9000 0x01 0 (u8 v) = st) ∧ (st ≠ 0)) ∧
    (∃ (s : State) (n : Tenant), (s.tenantState n ≠ 1)) ∧
    (∃ (s : State) (n : Tenant), (s.tenantState n = 1)) ∧
    (∃ (n : Tenant) (x : _), (x ≠ n)) ∧
    (∃ (s : State) (n : Tenant), (s.tenantState n = 2) ∧ (s.holdsVoice n = false) ∧ (s.up = true) ∧ (s.rd (ob (0x9020 + n.val) 0x03) + 1 < 2 ^ 32) ∧ (s.order = [])) ∧
    (∃ (s : State) (n : Tenant), ((s.tenantState n ≠ 2 ∨ s.holdsVoice n = true))) ∧
    (∃ (s : State) (n : Tenant), (s.tenantState n = 3) ∧ (s.deletionDone n = true) ∧ (s.listens = true)) ∧
    (∃ (s : State) (n : Tenant), ((s.tenantState n ≠ 3 ∨ s.deletionDone n = false))) ∧
    (∃ (s : State) (t : Tenant) (n : Tenant) (j : Job) (k : Nat) (v : Octets), (1 ≤ k) ∧ (k ≤ 8) ∧ (s.Writes t j (0x9010 + n.val) k v)) ∧
    (∃ (s : State) (n : Tenant) (k : Nat) (v : Nat), (s.rd (ob (0x9010 + n.val) k) = v)) ∧
    (∃ (s : State) (n : Tenant) (k : Nat) (v : Nat), (s.rd (ob (0x9010 + n.val) k) ≠ v) ∧ (4 ≤ k) ∧ (k ≤ 8)) :=
  ⟨⟨(req (O [(ob 0x9021 1, 0)]) 0x9000 1 0 [1]), 0, (jb 0x9000 1 0 [1]), 1, by unfold State.Writes State.WritesAt; decide⟩,
   ⟨(req (O [(ob 0x9021 1, 0)]) 0x9000 1 0 [1]), 0, (jb 0x9000 1 0 [1]), 1, 0, by unfold State.Writes State.WritesAt; decide⟩,
   ⟨(req (O [(ob 0x9021 1, 0)]) 0x9000 1 0 [1]), 0, (jb 0x9000 1 0 [1]), 1, (obT 0x1040 1 1), by unfold State.Writes State.WritesAt; decide⟩,
   ⟨(req (O [(ob 0x9021 1, 1)]) 0x9000 1 0 [2]), 0, (jb 0x9000 1 0 [2]), by unfold State.Writes State.WritesAt; decide⟩,
   ⟨(req (O [(ob 0x9021 1, 1)]) 0x9000 1 0 [3]), 0, (jb 0x9000 1 0 [3]), by unfold State.Writes State.WritesAt; decide⟩,
   ⟨(req (O [(ob 0x9021 1, 1)]) 0x9000 1 0 (u8 1)), (jb 0x9000 1 0 (u8 1)), 1, 5, by decide⟩,
   ⟨up, 1, by decide⟩,
   ⟨(O [(ob 0x9021 1, 1)]), 1, by decide⟩,
   ⟨1, 2, by decide⟩,
   ⟨(O [(ob 0x9021 1, 2)]), 1, by decide⟩,
   ⟨up, 1, by decide⟩,
   ⟨{ (O [(ob 0x9021 1, 3)]) with rst := up.rst }, 1, by decide⟩,
   ⟨up, 1, by decide⟩,
   ⟨(req (O [(ob 0x9021 1, 1)]) 0x9011 4 0 (u16 100)), 0, 1, (jb 0x9011 4 0 (u16 100)), 4, (u16 100), by unfold State.Writes State.WritesAt; decide⟩,
   ⟨(O [(ob 0x9011 4, 5)]), 1, 4, 5, by decide⟩,
   ⟨(O [(ob 0x9011 4, 5)]), 1, 4, 6, by decide⟩⟩

/-- The premises of KeysAndImages can be met, each clause's. -/
theorem witness_KeysAndImages :
    (∃ (s : State) (t : Tenant) (j : Job), (s.Writes t j 0x9200 0x04 [1])) ∧
    (∃ (s : State) (t : Tenant) (j : Job) (c : Nat), (s.Writes t j 0x9200 0x04 [2]) ∧ (s.rd (obT 0x9200 0x01 t) = c) ∧ (s.keyState c = 0)) ∧
    (∃ (s : State) (t : Tenant) (j : Job) (c : Nat), (s.Writes t j 0x9200 0x04 [2]) ∧ (s.rd (obT 0x9200 0x01 t) = c) ∧ (s.keyState c ≠ 0)) ∧
    (∃ (s : State) (t : Tenant) (id : Nat) (c : Nat), (c < 0x40) ∧ ((∀ q ∈ s.svc.queues[t], q.id ≠ id))) ∧
    (∃ (s : State) (t : Tenant) (j : Job) (d : Nat) (b : Nat), (s.Writes t j 0x9300 0x01 [1]) ∧ (s.rd (ob 0x9300 0x02) = d) ∧ (b = (if s.bankState d 0 = 5 ∨ s.bankState d 0 = 4 then 1 else 0))) ∧
    (∃ (s : State) (t : Tenant) (j : Job) (off : Nat) (v : Octets), (s.WritesAt t j 0x9310 0x00 off v)) ∧
    (∃ (s : State) (t : Tenant) (j : Job), (s.Writes t j 0x9300 0x01 [2])) ∧
    (∃ (s : State) (x : Tenant), (s.crypto.running = some (x, .verify)) ∧ (s.imageSession = 2)) ∧
    (∃ (s : State) (x : Tenant), (s.crypto.running = some (x, .verify)) ∧ (s.imageSession ≠ 2)) ∧
    (∃ (s : State), (s.crypto.running = none)) ∧
    (∃ (s : State) (d : Nat) (b : Nat), (s.keys.imageTarget = d) ∧ (s.keys.imageBank = b) ∧ (s.imageCheck d (s.bankBytes d b) ≠ 0)) ∧
    (∃ (s : State) (t : Tenant) (j : Job), (s.Writes t j 0x9300 0x01 [3])) ∧
    (∃ (s : State) (t : Tenant) (j : Job) (d : Nat) (old : Nat), (s.Writes t j 0x9300 0x01 [4]) ∧ (s.keys.trialFrom = some (d, old)) ∧ (s.runningBank d ≠ old) ∧ (s.runningBank d ≤ 1) ∧ (old ≤ 1)) ∧
    (∃ (s : State) (t : Tenant) (j : Job), (s.Writes t j 0x9300 0x01 [5]) ∧ (s.crypto.running = none) ∧ ((∀ x : Tenant, s.crypto.queues[x] = []))) ∧
    (∃ (s : State) (t : Tenant) (j : Job) (d : Nat) (b : Nat), (s.Writes t j 0x9300 0x01 [6]) ∧ (s.imageSession = 5) ∧ (s.keys.trialFrom = some (d, b))) ∧
    (∃ (s : State) (t : Tenant) (j : Job) (d : Nat) (b : Nat), (s.Writes t j 0x9300 0x01 [6]) ∧ (s.imageSession ≠ 5) ∧ (s.rd (ob 0x9300 0x02) = d) ∧ (s.bankIn d 6 = some b)) ∧
    (∃ (s : State) (d : Nat) (old : Nat), (s.keys.trialFrom = some (d, old)) ∧ (d = 1 ∨ d = 2) ∧ (s.rd (ob (0x9320 + d) 0x09) + 1 < 2 ^ 32) ∧ (s.runningBank d ≤ 1)) ∧
    (∃ (s : State) (p : Instr × Timer) (d : _) (b : _), (p ∈ [(Instr.trialWindowExpired, Timer.trial), (.trialAirReadyTimeout, .trialAir)]) ∧ (s.isDue p.2 = true) ∧ (s.imageSession = 5) ∧ (s.keys.trialFrom = some (d, b))) ∧
    (∃ (s : State) (p : Instr × Timer), (p ∈ [(Instr.trialWindowExpired, Timer.trial), (.trialAirReadyTimeout, .trialAir)]) ∧ (s.isDue p.2 = true) ∧ (s.imageSession < 4)) :=
  ⟨⟨(req (O [(obT 0x9200 1 0, 5), (obT 0x9200 6 0, 16)]) 0x9200 4 0 [1]), 0, (jb 0x9200 4 0 [1]), by unfold State.Writes State.WritesAt; decide⟩,
   ⟨(req (O [(obT 0x9200 1 0, 5)]) 0x9200 4 0 [2]), 0, (jb 0x9200 4 0 [2]), 5, by unfold State.Writes State.WritesAt; decide⟩,
   ⟨(req (O [(ob 0x9105 2, 1), (obT 0x9200 1 0, 5)]) 0x9200 4 0 [2]), 0, (jb 0x9200 4 0 [2]), 5, by unfold State.Writes State.WritesAt; decide⟩,
   ⟨up, 0, 1, 5, by decide⟩,
   ⟨(req (O [(ob 0x9300 2, 2), (ob 0x9322 2, 5)]) 0x9300 1 0 [1]), 0, (jb 0x9300 1 0 [1]), 2, 1, by unfold State.Writes State.WritesAt; decide⟩,
   ⟨(req (O [(ob 0x9300 2, 2), (ob 0x9300 3, 1)]) 0x9310 0 0 (u8 1)), 0, (jb 0x9310 0 0 (u8 1)), 0, (u8 1), by unfold State.WritesAt; decide⟩,
   ⟨(req (O [(ob 0x9300 2, 2), (ob 0x9300 3, 1)]) 0x9300 1 0 [2]), 0, (jb 0x9300 1 0 [2]), by unfold State.Writes State.WritesAt; decide⟩,
   ⟨{ O [(ob 0x9300 3, 2)] with crypto := { up.crypto with running := some (0, .verify) } }, 0, by decide⟩,
   ⟨{ up with crypto := { up.crypto with running := some (0, .verify) } }, 0, by decide⟩,
   ⟨up, by decide⟩,
   ⟨{ up with keys := { up.keys with imageTarget := 2 } }, 2, 0, by decide⟩,
   ⟨(req { O [(ob 0x9300 3, 3)] with keys := { up.keys with imageTarget := 2 } } 0x9300 1 0 [3]), 0, (jb 0x9300 1 0 [3]), by unfold State.Writes State.WritesAt; decide⟩,
   ⟨(req { O [(ob 0x9300 3, 5), (ob 0x9322 1, 1)] with keys := { up.keys with imageTarget := 2, trialFrom := some (2, 0) } } 0x9300 1 0 [4]), 0, (jb 0x9300 1 0 [4]), 2, 0, by unfold State.Writes State.WritesAt; decide⟩,
   ⟨(req (O [(ob 0x9300 3, 1)]) 0x9300 1 0 [5]), 0, (jb 0x9300 1 0 [5]), by unfold State.Writes State.WritesAt; decide⟩,
   ⟨(req { O [(ob 0x9300 3, 5), (ob 0x9322 1, 1)] with keys := { up.keys with imageTarget := 2, trialFrom := some (2, 0) } } 0x9300 1 0 [6]), 0, (jb 0x9300 1 0 [6]), 2, 0, by unfold State.Writes State.WritesAt; decide⟩,
   ⟨(req (P (ob 0x9322 8) 0 (P (ob 0x9322 2) 5 (O [(ob 0x9300 2, 2), (ob 0x9322 5, 6)]))) 0x9300 1 0 [6]), 0, (jb 0x9300 1 0 [6]), 2, 1, by unfold State.Writes State.WritesAt; decide⟩,
   ⟨{ O [(ob 0x9322 1, 1)] with keys := { up.keys with trialFrom := some (2, 0) } }, 2, 0, by decide⟩,
   ⟨(due .trial { O [(ob 0x9300 3, 5)] with keys := { up.keys with trialFrom := some (2, 0) } }), (.trialWindowExpired, .trial), 2, 0, by decide⟩,
   ⟨(due .trialAir up), (.trialAirReadyTimeout, .trialAir), by decide⟩⟩

/-- The premises of FaultsAndPins can be met, each clause's. -/
theorem witness_FaultsAndPins :
    (∃ (s : State) (f : Nat), (s.power.powered = true) ∧ (faultClass f ≠ 0) ∧ (f ≠ 2) ∧ (f ≠ 3) ∧ (momentary f = false) ∧ (s.rd (ob (0x7100 + f) 0x06) + 1 < 2 ^ 32) ∧ (f < 192) ∧ (s.isPending f t0 = true)) ∧
    (∃ (s : State) (f : Nat), (s.power.powered = true) ∧ (faultClass f ≠ 0) ∧ (f ≠ 2) ∧ (f ≠ 3) ∧ (momentary f = false) ∧ (s.rd (ob (0x7100 + f) 0x06) + 1 < 2 ^ 32) ∧ (f < 192) ∧ (s.isPending f t0 = false) ∧ (s.runState = 1) ∧ (s.up = true)) ∧
    (∃ (s : State) (f : Nat), (s.power.powered = true) ∧ (faultClass f ≠ 0) ∧ (f ≠ 2) ∧ (f ≠ 3) ∧ (momentary f = false) ∧ (s.rd (ob (0x7100 + f) 0x06) + 1 < 2 ^ 32) ∧ (f < 192) ∧ (s.isPending f t0 = false) ∧ (s.runState = 1) ∧ (s.up = false)) ∧
    (∃ (f : Nat) (t : Tenant), ((faultClass f = 0 ∨ (t ≠ t0 ∧ f ≠ 2 ∧ f ≠ 3)))) ∧
    (∃ (s : State) (f : Nat), (s.power.powered = true) ∧ ((f = 2 ∨ f = 3))) ∧
    (∃ (s : State) (f : Nat) (page : Nat) (d : Tenant), (s.openRecord d = none) ∧ (s.newPage = (page, false)) ∧ (s.resetBits f d 0 = (0, false)) ∧ (s.rd (ob 0x7000 0x04) + 1 < 2 ^ 32)) ∧
    (∃ (s : State) (d : Tenant) (page : Nat) (r : FaultRecord), (s.openRecord d = some (page, r)) ∧ (¬ (r.resets = 0 ∧ r.acked = true))) ∧
    (∃ (s : State) (d : Tenant) (page : Nat) (r : FaultRecord), (s.openRecord d = some (page, r)) ∧ (r.resets = 0) ∧ (r.acked = true) ∧ (s.recordLive r = true)) ∧
    (∃ (s : State) (d : Tenant) (page : Nat) (r : FaultRecord), (s.openRecord d = some (page, r)) ∧ (r.resets = 0) ∧ (r.acked = true) ∧ (s.recordLive r = false)) ∧
    (∃ (s : State) (t : Tenant) (page : Nat) (r : FaultRecord), (s.openRecord t = some (page, r)) ∧ (s.isDue (.handling t) = true) ∧ (s.up = true)) ∧
    (∃ (s : State) (t : Tenant) (page : Nat) (r : FaultRecord) (j : _), (s.openRecord t = some (page, r)) ∧ (s.Writes t j 0x7010 0x04 [1]) ∧ (t ≠ t0)) ∧
    (∃ (s : State) (t : Tenant) (j : Job), (s.Writes t j 0x7010 0x04 [1])) ∧
    (∃ (s : State) (t : Tenant), (s.isDue (.handling t) = true) ∧ (s.up = true) ∧ (s.openRecord t = none)) ∧
    (∃ (s : State) (t : Tenant) (j : Job) (n : Nat), (n < 256) ∧ (s.Writes t j 0x7010 0x03 (u8 n))) ∧
    (∃ (s : State) (t : Tenant) (j : Job) (n : Nat), (n < 256) ∧ (s.turn t = some j) ∧ (j.req.op = .write 0x7010 0x03 0 (u8 n)) ∧ (s.writeStatus t j.req.transport 0x7010 0x03 0 (u8 n) = 0x0C)) ∧
    (∃ (n : Nat), (n < 16 ∨ (20 < n ∧ n < 192))) ∧
    (∃ (s : State) (t : Tenant) (j : Job) (f : Nat) (x : Nat), (f < 192) ∧ (x < 256) ∧ (s.Writes t j (0x7100 + f) 0x03 (u8 x))) ∧
    (∃ (s : State), (s.isDue .copy = true) ∧ (s.up = true) ∧ (s.faults.copyDirty = true)) ∧
    (∃ (s : State), (s.isDue .copy = true) ∧ (s.up = true) ∧ (s.faults.copyDirty = false)) ∧
    (∃ (s : State) (t : Tenant) (j : Job) (g : Nat) (k : Nat) (x : Nat), (g < 16) ∧ (k ∈ [1, 2, 3, 4, 6, 7]) ∧ (x < 256) ∧ (s.Writes t j (0x1090 + g) k (u8 x))) ∧
    (∃ (s : State), (s.isOn (ob 0x1060 0x06) = false)) ∧
    (∃ (s : State) (g : Nat), (s.isOn (ob 0x1060 0x06) = true) ∧ (s.rd (ob (0x1090 + g) 0x01) = 2)) :=
  ⟨⟨{ up with faults := { up.faults with pending := [(80, 0)] } }, 80, by decide⟩,
   ⟨(O [(ob 0x1020 1, 1)]), 80, by decide⟩,
   ⟨{ O [(ob 0x1020 1, 1)] with rst := State.reset.rst }, 80, by decide⟩,
   ⟨80, 1, by decide⟩,
   ⟨up, 3, by decide⟩,
   ⟨up, 80, 0, 0, by decide⟩,
   ⟨{ up with faults := { up.faults with pending := [], ring := [(9, ⟨1, 80, 0, 0, 0, 0, 0, 0, 0, 0, 0, 2 ^ 80, false, 0, 0⟩)] } }, 0, 9, ⟨1, 80, 0, 0, 0, 0, 0, 0, 0, 0, 0, 2 ^ 80, false, 0, 0⟩, by decide⟩,
   ⟨{ up with faults := { up.faults with pending := [(80, 0)], ring := [(9, ⟨1, 80, 0, 0, 0, 0, 0, 0, 0, 0, 0, 2 ^ 80, true, 0, 0⟩)] } }, 0, 9, ⟨1, 80, 0, 0, 0, 0, 0, 0, 0, 0, 0, 2 ^ 80, true, 0, 0⟩, by decide⟩,
   ⟨{ up with faults := { up.faults with pending := [], ring := [(9, ⟨1, 80, 0, 0, 0, 0, 0, 0, 0, 0, 0, 2 ^ 80, true, 0, 0⟩)] } }, 0, 9, ⟨1, 80, 0, 0, 0, 0, 0, 0, 0, 0, 0, 2 ^ 80, true, 0, 0⟩, by decide⟩,
   ⟨(due (.handling 7) { up with faults := { up.faults with pending := [], ring := [(9, ⟨1, 80, 7, 0, 0, 0, 0, 0, 0, 0, 0, 2 ^ 80, false, 0, 0⟩)] } }), 7, 9, ⟨1, 80, 7, 0, 0, 0, 0, 0, 0, 0, 0, 2 ^ 80, false, 0, 0⟩, by decide⟩,
   ⟨(reqT 7 { (O [(ob 0x1035 8, 15), (ob 0x9027 1, 1)]) with faults := { up.faults with pending := [], ring := [(9, ⟨1, 80, 7, 0, 0, 0, 0, 0, 0, 0, 0, 2 ^ 80, false, 0, 0⟩)] } } 0x7010 4 0 [1]), 7, 9, ⟨1, 80, 7, 0, 0, 0, 0, 0, 0, 0, 0, 2 ^ 80, false, 0, 0⟩, (jb 0x7010 4 0 [1]), by unfold State.Writes State.WritesAt; decide⟩,
   ⟨(req up 0x7010 4 0 [1]), 0, (jb 0x7010 4 0 [1]), by unfold State.Writes State.WritesAt; decide⟩,
   ⟨(due (.handling 7) up), 7, by decide⟩,
   ⟨(req { up with faults := { up.faults with pending := [(80, 0)] } } 0x7010 3 0 (u8 80)), 0, (jb 0x7010 3 0 (u8 80)), 80, by unfold State.Writes State.WritesAt; decide⟩,
   ⟨(req { up with faults := { up.faults with pending := [(80, 0)], causes := [(80, 0, 0)] } } 0x7010 3 0 (u8 80)), 0, (jb 0x7010 3 0 (u8 80)), 80, by decide⟩,
   ⟨191, by decide⟩,
   ⟨(req up 0x7150 3 0 (u8 1)), 0, (jb 0x7150 3 0 (u8 1)), 80, 1, by unfold State.Writes State.WritesAt; decide⟩,
   ⟨(due .copy { up with faults := { up.faults with pending := [], copyDirty := true } }), by decide⟩,
   ⟨(due .copy up), by decide⟩,
   ⟨(req up 0x109F 1 0 (u8 1)), 0, (jb 0x109F 1 0 (u8 1)), 15, 1, 1, by unfold State.Writes State.WritesAt; decide⟩,
   ⟨(O [(ob 0x1060 6, 0)]), by decide⟩,
   ⟨(O [(ob 0x1060 6, 1), (ob 0x109F 1, 2)]), 15, by decide⟩⟩

/-! The two premises that the ciphers decide: a key exchange's secret is there or not, and an image whose signature checks is good. -/

/-- The premises of both ends of AGREE, but for the exchange's own outcome, which is one of the two. -/
theorem witness_agree :
    ∃ (s : State) (b : Octets) (a : Apdu), s.HearsPlain b a .agree ∧ a.data.length = 64 ∧ a.p2 = 0 ∧ s.pocketSession = 1 ∧
      s.pocketKeyed 0 = false ∧ (Config.ecdh 1 a.data = none ∨ ∃ z, Config.ecdh 1 a.data = some z) :=
  ⟨K [(ob 0x5400 2, 1)] Pocket.reset, wb 0x90 0x48 2 0 (List.replicate 64 1), wa 0x90 0x48 2 0 (List.replicate 64 1),
    ⟨⟨rfl, rfl, rfl, rfl, rfl, rfl, rfl, rfl⟩, by decide, rfl, rfl⟩, by decide, rfl, by decide, by decide,
    Option.eq_none_or_eq_some _⟩

/-- The header of an air image of no bytes, and the bank that holds it. -/
def imageHead : Octets := [0x56, 0x58, 0x49, 0x4D, 2, 1, 0xB1, 0] ++ List.replicate 12 0 ++ sha256 [] ++ List.replicate 12 0
def imageState : State :=
  { P (ob 0x9322 8) 0 up with
    keys := { up.keys with imageTarget := 2, banks := up.keys.banks.set 2 (imageHead ++ List.replicate 64 1) } }

/-- An image whose signature checks passes the verification. -/
theorem witness_image (h : Config.ecdsaOk (leBytes 64 (imageState.rd (ob 0x1050 0x05))) imageHead (List.replicate 64 1) = true) :
    imageState.imageCheck 2 (imageState.bankBytes 2 0) = 0 := by
  unfold State.imageCheck
  rw [if_neg (by decide), if_neg (by decide), if_neg (by decide), if_neg (by decide), if_neg (fun g => g rfl)]
  exact (if_neg (fun g => Bool.noConfusion (h.symm.trans g))).trans (if_neg (by decide))


end Sys2Proof.Tests
end

section
/-! PROOFS. Facts about single operations that the proofs of the families share: keys, little-endian bytes, timers, the device time, and
the frames of the operations that `Laws/Frames` does not name. -/

namespace Sys2Proof.Machine

/-! ### Keys and bytes -/

/-- Keys of shared objects are one for each index and subindex. -/
@[simp] theorem ob_inj {i j a b : Nat} (ha : a < 256) (hb : b < 256) : ob i a = ob j b ↔ i = j ∧ a = b := by
  unfold ob; omega

/-- Little-endian bytes spell the number that they were made from, as far as they reach. -/
theorem leNat_leBytes (n v : Nat) : leNat (leBytes n v) = v % 256 ^ n := by
  induction n generalizing v with
  | zero => simp [leBytes, leNat, Nat.mod_one]
  | succ n ih => rw [leBytes, leNat, ih, pow_succ', Nat.mod_mul]; simp

theorem leNat_u8 {v : Nat} (h : v < 256) : leNat (u8 v) = v := by rw [u8, leNat_leBytes]; omega

theorem leNat_u16 {v : Nat} (h : v < 2 ^ 16) : leNat (u16 v) = v := by rw [u16, leNat_leBytes]; omega

/-! ### Object values -/

theorem State.rd_wrInt_self (s : State) (k : Nat) (v : Int) : (s.wrInt k v).rd k = ofSigned (Dict.bits k) v :=
  State.rd_wr_self _ _ _

theorem State.rd_wrInt_other (s : State) {k j : Nat} (v : Int) (h : j ≠ k) : (s.wrInt k v).rd j = s.rd j :=
  State.rd_wr_other s _ h

theorem State.rd_incSat_self (s : State) (k : Nat) : (s.incSat k).rd k = satInc (2 ^ Dict.bits k - 1) (s.rd k) :=
  State.rd_wr_self _ _ _

/-- A signed object is read through its stored value. -/
theorem State.rdInt_congr {s t : State} {k : Nat} (h : t.rd k = s.rd k) : t.rdInt k = s.rdInt k := by
  unfold State.rdInt; rw [h]

/-! ### Timers -/

/-- Setting a timer leaves the others as they are. -/
theorem State.arm_dueAt_other (s : State) {tm um : Timer} (due : Nat) (h : um ≠ tm) : (s.arm tm due).dueAt um = s.dueAt um := by
  have hne : (tm == um) = false := beq_false_of_ne h.symm
  have hf : (s.timers.filter (fun p => p.1 != tm)).find? (fun p => p.1 == um) = s.timers.find? (fun p => p.1 == um) := by
    rw [List.find?_filter]
    congr 1
    funext p
    by_cases e : p.1 = um
    · simp [e, h]
    · simp [e]
  simp [State.dueAt, State.arm, hne, hf]

/-- Whether a timer is set is read from the timers alone. -/
theorem State.isArmed_congr {s t : State} (h : t.timers = s.timers) (tm : Timer) : t.isArmed tm = s.isArmed tm := by
  unfold State.isArmed State.dueAt; rw [h]

/-! ### Device time -/

/-- The device time is read from the time base, the running state and the rate correction. -/
theorem State.now_congr {s t : State} (ht : t.time = s.time) (hr : t.runState = s.runState)
    (hc : t.rd (ob 0x1100 0x03) = s.rd (ob 0x1100 0x03)) : t.now = s.now := by
  have hi : t.increment = s.increment := by unfold State.increment; rw [State.rdInt_congr hc]
  unfold State.now State.interpolates
  rw [ht, hr, hi]

/-- Where it is not interpolated, the device time is the count of the last tick (R35). -/
theorem State.now_of_not_interpolates {s : State} (h : s.interpolates = false) : s.now = s.time.whole := by
  rw [State.now, h, if_neg Bool.false_ne_true]

/-- A store of another object leaves the device time. -/
theorem State.now_wr (s : State) {k : Nat} (v : Nat) (hr : ob 0x1020 0x01 ≠ k) (hc : ob 0x1100 0x03 ≠ k) :
    (s.wr k v).now = s.now :=
  State.now_congr rfl (State.rd_wr_other s v hr) (State.rd_wr_other s v hc)

/-! ### Frames -/

theorem State.withTime_changes (s : State) (tb : TimeBase) : Changes [.time] [] s { s with time := tb } := by
  refine ⟨rfl, fun p hp => ?_, fun _ _ => rfl⟩
  cases p <;> first | rfl | simp at hp

theorem State.wrInt_changes (s : State) (k : Nat) (v : Int) : Changes [] [k] s (s.wrInt k v) := s.wr_changes k _
theorem State.wrFit_changes (s : State) (k v : Nat) : Changes [] [k] s (s.wrFit k v) := s.wr_changes k _
theorem State.incSat_changes (s : State) (k : Nat) : Changes [] [k] s (s.incSat k) := s.wr_changes k _
theorem State.armIn_changes (s : State) (tm : Timer) (us : Nat) : Changes [.timers] [] s (s.armIn tm us) := s.arm_changes tm _
theorem State.dropWindow_changes (s : State) : Changes [.time] [] s s.dropWindow := s.withTime_changes _

/-- An object outside a frame reads as before. -/
theorem Changes.rd {ps : List Part} {ks : List Nat} {s t : State} (h : Changes ps ks s t) {k : Nat} (hk : k ∉ ks) :
    t.rd k = s.rd k := h.2.2 k hk

/-- A part of the state outside a frame is as before. -/
theorem Changes.same {ps : List Part} {ks : List Nat} {s t : State} (h : Changes ps ks s t) {p : Part} (hp : p ∉ ps) :
    p.same s t := h.2.1 p hp

/-! ### Accepted writes -/

/-- An accepted WRITE of a whole persisted object that has a command of its own stores the value, and waits for a commit where the
value needs one (R374). -/
theorem Serves.of_writes {c : Instr} {s : State} {t : Tenant} {j : Job} {i sub : Nat} {v : Octets} {o : Own} {r : Row}
    (h : s.Writes t j i sub v) (hexec : exec c s = done (s.serveOwn t o)) (hown : ownOf i sub v = o) (hrow : Dict.row? i sub = some r)
    (hacc : r.acc = .rwp) (hty : r.ty.isOctets = false) (hi : ¬(0x9010 ≤ i ∧ i ≤ 0x9017)) :
    Serves c s (s.store t i sub (leNat v)) t j
      (if s.needsCommit (keyFor t i sub) (leNat v) then [(keyFor t i sub, leNat v)] else []) false := by
  obtain ⟨hturn, hop, hst⟩ := h
  have hv : s.spliced t i sub 0 v = leNat v := by simp [State.spliced, hrow, hty]
  have heff : s.effect t j.req.transport j.id i sub 0 v =
      { st := s.store t i sub (leNat v)
        keeps := if s.needsCommit (keyFor t i sub) (leNat v) then [(keyFor t i sub, leNat v)] else [], waits := false } := by
    simp [State.effect, hrow, hacc, hv, hi]
  unfold Serves
  rw [hexec, done_eq, State.serveOwn, hturn]
  simp only [hop, hown, if_true, State.serveWrite, hst, ne_eq, not_true, if_false, heff]

end Sys2Proof.Machine
end

section
/-! PROOFS. The time base's rate correction and its sources (chapter 2, R37 to R40 and R49). -/

namespace Sys2Proof.Machine

/-! ### The rate correction -/

/-- The temperature term is read from its two settings and the last temperature. -/
theorem State.tempTerm_congr {s t : State} (h5 : t.rd (ob 0x1100 0x05) = s.rd (ob 0x1100 0x05))
    (h6 : t.rd (ob 0x1100 0x06) = s.rd (ob 0x1100 0x06)) (ht : t.time.temp = s.time.temp) : t.tempTerm = s.tempTerm := by
  unfold State.tempTerm; rw [h5, State.rdInt_congr h6, ht]

theorem State.setRate_changes (s : State) : Changes [] [ob 0x1100 0x03] s s.setRate := s.wrInt_changes _ _

theorem State.rd_setRate_self (s : State) :
    s.setRate.rd (ob 0x1100 0x03) = ofSigned 32 (clamp (-200000) 200000 (s.tempTerm + s.rdInt (ob 0x1100 0x04))) := by
  have hb : Dict.bits (ob 0x1100 0x03) = 32 := by decide
  rw [State.setRate, State.rd_wrInt_self, hb]

/-- The same with the terms as they stand once C is stored. -/
theorem State.rd_setRate_stored (s : State) :
    s.setRate.rd (ob 0x1100 0x03) =
      ofSigned 32 (clamp (-200000) 200000 (s.setRate.tempTerm + s.setRate.rdInt (ob 0x1100 0x04))) := by
  have hc := s.setRate_changes
  rw [State.rd_setRate_self, State.tempTerm_congr (hc.rd (by simp)) (hc.rd (by simp)) rfl, State.rdInt_congr (hc.rd (by simp))]

theorem State.setTemp_changes (s : State) (c : Int) : Changes [.time] [ob 0x1100 0x03] s (s.setTemp c) :=
  (s.withTime_changes _).trans (State.setRate_changes _)

/-! ### The sources -/

theorem State.chooseSource_changes (s : State) : Changes [] [ob 0x1100 0x08] s s.chooseSource := s.wr_changes _ _

theorem State.rd_chooseSource_self (s : State) :
    s.chooseSource.rd (ob 0x1100 0x08) = if s.eligible 2 then 3 else if s.eligible 1 then 2 else if s.eligible 0 then 1 else 0 :=
  State.rd_wr_self _ _ _

/-- Which sources are eligible does not depend on the one that is active. -/
theorem State.eligible_chooseSource (s : State) (n : Nat) : s.chooseSource.eligible n = s.eligible n := by
  have hnow : s.chooseSource.now = s.now := s.now_wr _ (by simp) (by simp)
  have hrd : ∀ k, k ≠ ob 0x1100 0x08 → s.chooseSource.rd k = s.rd k := fun k hk => State.rd_wr_other s _ hk
  have hlast : s.chooseSource.lastMeasured n = s.lastMeasured n := rfl
  unfold State.eligible
  rw [hnow, hlast, hrd _ (by simp), hrd _ (by simp), hrd _ (by simp)]

/-! ### A FIELD window -/

/-- The state with the ticks of the FIELD window taken. -/
def State.windowTaken (s : State) : State := { s with time := { s.time with winTicks := 0 } }

/-- The state in which a complete FIELD window's residual is judged: the window begun anew, FIELD measured, and the source chosen. -/
def State.fieldMeasured (s : State) : State := (s.windowTaken.markMeasured 0).chooseSource

theorem State.windowTaken_changes (s : State) : Changes [.time] [] s s.windowTaken := s.withTime_changes _

theorem State.eligible_windowTaken (s : State) (n : Nat) : s.windowTaken.eligible n = s.eligible n := rfl

theorem State.fieldMeasured_changes (s : State) : Changes [.time, .timers] [ob 0x1100 0x08] s s.fieldMeasured :=
  ((s.windowTaken_changes.trans (State.withTime_changes _ _)).trans
    (State.armIn_changes _ _ _)).trans (State.chooseSource_changes _) |>.mono (by simp) (by simp)

theorem State.fieldMeasured_dueAt (s : State) : s.fieldMeasured.dueAt (.source 0) = some (s.now + 3600000000) :=
  State.arm_dueAt _ _ _

/-- A measurement of FIELD leaves the other sources as eligible as they were. -/
theorem State.eligible_two_markMeasured_zero (s : State) : (s.markMeasured 0).eligible 2 = s.eligible 2 := rfl
theorem State.eligible_one_markMeasured_zero (s : State) : (s.markMeasured 0).eligible 1 = s.eligible 1 := rfl

/-- FIELD just measured is eligible where it is enabled. -/
theorem State.eligible_zero_markMeasured_zero (s : State) (h : (s.rd (ob 0x1100 0x07)).testBit 0 = true) :
    (s.markMeasured 0).eligible 0 = true := by
  have hnow : (s.markMeasured 0).now = s.now := rfl
  have hlast : (s.markMeasured 0).lastMeasured 0 = some s.now := rfl
  have hbit : ((s.markMeasured 0).rd (ob 0x1100 0x07)).testBit 0 = true := h
  simp [State.eligible, hnow, hlast, hbit]

/-- FIELD enabled and no network source eligible: a FIELD measurement makes FIELD the active source. -/
theorem State.fieldMeasured_active (s : State) (hf : (s.rd (ob 0x1100 0x07)).testBit 0 = true) (h2 : s.eligible 2 = false)
    (h1 : s.eligible 1 = false) : s.fieldMeasured.rd (ob 0x1100 0x08) = 1 := by
  rw [State.fieldMeasured, State.rd_chooseSource_self, State.eligible_two_markMeasured_zero, State.eligible_one_markMeasured_zero,
    State.eligible_zero_markMeasured_zero s.windowTaken hf, State.eligible_windowTaken, State.eligible_windowTaken]
  simp [h2, h1]

/-- The state after a FIELD window with an accepted residual `r`: D moved by its share of the difference, and C following (R39). -/
def State.fieldApplied (s : State) (r : Int) : State :=
  (s.fieldMeasured.wrInt (ob 0x1100 0x04)
    (s.rdInt (ob 0x1100 0x04) + truncDiv (r - s.rdInt (ob 0x1100 0x04)) (2 ^ s.rd (ob 0x1100 0x0A)))).setRate

theorem State.fieldApplied_changes (s : State) (r : Int) :
    Changes [.time, .timers] [ob 0x1100 0x03, ob 0x1100 0x04, ob 0x1100 0x08] s (s.fieldApplied r) :=
  (s.fieldMeasured_changes.trans (State.wrInt_changes _ _ _)).trans (State.setRate_changes _) |>.mono (by simp) (by simp)

theorem State.rd_fieldApplied_source (s : State) (r : Int) :
    (s.fieldApplied r).rd (ob 0x1100 0x08) = s.fieldMeasured.rd (ob 0x1100 0x08) := by
  rw [State.fieldApplied, (State.setRate_changes _).rd (by simp), State.rd_wrInt_other _ _ (by simp)]

theorem State.rd_fieldApplied_discipline (s : State) (r : Int) :
    (s.fieldApplied r).rd (ob 0x1100 0x04) =
      ofSigned 32 (s.rdInt (ob 0x1100 0x04) + truncDiv (r - s.rdInt (ob 0x1100 0x04)) (2 ^ s.rd (ob 0x1100 0x0A))) := by
  have hb : Dict.bits (ob 0x1100 0x04) = 32 := by decide
  rw [State.fieldApplied, (State.setRate_changes _).rd (by simp), State.rd_wrInt_self, hb]

/-- C follows the D that is stored. -/
theorem State.rd_fieldApplied_rate (s : State) (r : Int) :
    (s.fieldApplied r).rd (ob 0x1100 0x03) =
      ofSigned 32 (clamp (-200000) 200000 (s.tempTerm + (s.fieldApplied r).rdInt (ob 0x1100 0x04))) := by
  have hc := s.fieldApplied_changes r
  have htt : (s.fieldApplied r).tempTerm = s.tempTerm := State.tempTerm_congr (hc.rd (by simp)) (hc.rd (by simp)) rfl
  rw [← htt]
  exact State.rd_setRate_stored _

/-- FIELD_WINDOW_COMPLETE of a whole window disciplines the time base by FIELD. -/
theorem exec_fieldWindowComplete (s : State) (cycles : Nat) (h0 : 0 < s.rd (ob 0x1100 0x09))
    (hw : s.rd (ob 0x1100 0x09) ≤ s.time.winTicks) :
    exec (.fieldWindowComplete cycles) s = .next (s.windowTaken.discipline 0
      (fieldCreq (s.rd (ob 0x1100 0x09)) cycles (s.rdInt (ob 0x1100 0x0B)))).settle := by
  have h : ¬(s.time.winTicks < s.rd (ob 0x1100 0x09) ∨ s.rd (ob 0x1100 0x09) = 0) := by omega
  exact if_neg h

/-- What a measurement of FIELD does once FIELD is active: a residual of more than 100,000 ppb is counted and announced, any other moves
D and with it C (R39). -/
theorem State.discipline_field (s : State) (creq : Int) (h : s.fieldMeasured.rd (ob 0x1100 0x08) = 1) :
    s.windowTaken.discipline 0 creq =
      if 100000 < (creq - s.tempTerm).natAbs then (s.fieldMeasured.incSat (ob 0x1100 0x11)).raise 1221 [t0] []
      else s.fieldApplied (creq - s.tempTerm) := by
  have hrd : ∀ k, k ∉ [ob 0x1100 0x08] → s.fieldMeasured.rd k = s.rd k := s.fieldMeasured_changes.2.2
  have htt : s.fieldMeasured.tempTerm = s.tempTerm := State.tempTerm_congr (hrd _ (by simp)) (hrd _ (by simp)) rfl
  have hd : s.fieldMeasured.rdInt (ob 0x1100 0x04) = s.rdInt (ob 0x1100 0x04) := State.rdInt_congr (hrd _ (by simp))
  unfold State.discipline
  change (if s.fieldMeasured.rd (ob 0x1100 0x08) ≠ 1 then _ else _) = _
  rw [if_neg (by simp [h])]
  change (if 100000 < (creq - s.fieldMeasured.tempTerm).natAbs then _ else
    (s.fieldMeasured.wrInt (ob 0x1100 0x04) (s.fieldMeasured.rdInt (ob 0x1100 0x04) +
      truncDiv (creq - s.fieldMeasured.tempTerm - s.fieldMeasured.rdInt (ob 0x1100 0x04))
        (2 ^ s.fieldMeasured.rd (ob 0x1100 0x0A)))).setRate) = _
  rw [htt, hd, hrd (ob 0x1100 0x0A) (by simp)]
  rfl

end Sys2Proof.Machine
end
section
/-! PROOFS. The statement `TimeBaseCorrection`, clause by clause. -/

namespace Sys2Proof.Machine

/-- An accepted write of a persisted object of the time base stores it, with the effect of R37 and R49. -/
theorem State.store_timeBase (s : State) (t : Tenant) (sub x : Nat) (hsub : sub ≠ 0x0C) (hk : keyFor t 0x1100 sub = ob 0x1100 sub) :
    s.store t 0x1100 sub x = (s.wr (ob 0x1100 sub) x).timeWrite sub := by
  unfold State.store
  rw [hk]
  simp [hsub]

/-- An accepted write of the temperature term's K (subindex 5) or T0 (subindex 6) stores it and recomputes C (R37). -/
theorem serves_temperatureTermWrite {s : State} {t : Tenant} {j : Job} {sub x : Nat} {v : Octets} (hsub : sub = 5 ∨ sub = 6)
    (hx : leNat v = x) (h : s.Writes t j 0x1100 sub v) :
    Serves (.temperatureTermWrite t) s (s.wr (ob 0x1100 sub) x).setRate t j
      (if s.needsCommit (ob 0x1100 sub) x then [(ob 0x1100 sub, x)] else []) false := by
  subst hx
  obtain rfl | rfl := hsub
  all_goals
    have hs := Serves.of_writes h (c := .temperatureTermWrite t) (o := .tempTerm) rfl rfl rfl rfl rfl (by decide)
    rwa [State.store_timeBase _ _ _ _ (by decide) rfl] at hs

/-- An accepted write of the sources (subindex 7), the window (9) or the filter shift (0x0A) stores it, with the effect of R49. -/
theorem serves_disciplineSettingWrite {s : State} {t : Tenant} {j : Job} {sub x : Nat} {v : Octets}
    (hsub : sub = 7 ∨ sub = 9 ∨ sub = 0x0A) (hx : leNat v = x) (h : s.Writes t j 0x1100 sub v) :
    Serves (.disciplineSettingWrite t) s ((s.wr (ob 0x1100 sub) x).timeWrite sub) t j
      (if s.needsCommit (ob 0x1100 sub) x then [(ob 0x1100 sub, x)] else []) false := by
  subst hx
  obtain rfl | rfl | rfl := hsub
  all_goals
    have hs := Serves.of_writes h (c := .disciplineSettingWrite t) (o := .discipline) rfl rfl rfl rfl rfl (by decide)
    rwa [State.store_timeBase _ _ _ _ (by decide) rfl] at hs

/-- Settles O14. Each clause is the behaviour of one command: the reading of the temperature, the two kinds of setting writes, a FIELD
window, and the two lapses. -/
theorem timeBaseCorrection : Obligations.TimeBaseCorrection := by
  unfold Obligations.TimeBaseCorrection
  refine ⟨?reading, ?slope, ?turnover, ?sources, ?window, ?shift, ?field, ?lapse, ?offset⟩
  case reading =>
    intro s tenths hdue
    refine ⟨(s.setTemp (roundAway tenths 10)).armIn .temperature 60000000, if_pos hdue,
      (s.setTemp_changes _).trans (State.armIn_changes _ _ _), rfl, State.arm_dueAt _ _ _, ?_⟩
    exact State.rd_setRate_self _
  case slope =>
    intro s t j k hk hw
    refine ⟨(s.wr (ob 0x1100 0x05) k).setRate, serves_temperatureTermWrite (.inl rfl) (leNat_u16 (by omega)) hw,
      (s.wr_changes _ _).trans (State.setRate_changes _), ?_, ?_⟩
    · rw [(State.setRate_changes _).rd (by simp), State.rd_wr_self]
    · rw [State.rd_setRate_self]
      simp [State.tempTerm, State.rdInt, State.rd_wr]
  case turnover =>
    intro s t j x hx hw
    have hb : Dict.bits (ob 0x1100 0x06) = 8 := by decide
    refine ⟨(s.wr (ob 0x1100 0x06) x).setRate, serves_temperatureTermWrite (.inr rfl) (leNat_u8 hx) hw,
      (s.wr_changes _ _).trans (State.setRate_changes _), ?_, ?_⟩
    · rw [(State.setRate_changes _).rd (by simp), State.rd_wr_self]
    · rw [State.rd_setRate_self]
      simp [State.tempTerm, State.rdInt, State.rd_wr, hb]
  case sources =>
    intro s t j x hx hw
    refine ⟨(s.wr (ob 0x1100 0x07) x).dropWindow.chooseSource, serves_disciplineSettingWrite (sub := 0x07) (.inl rfl) (leNat_u8 hx) hw,
      ((s.wr_changes _ _).trans (State.dropWindow_changes _)).trans (State.chooseSource_changes _), ?_, rfl, ?_⟩
    · rw [(State.chooseSource_changes _).rd (by simp), State.rd_dropWindow, State.rd_wr_self]
    · rw [State.rd_chooseSource_self]
      simp only [State.eligible_chooseSource]
  case window =>
    intro s t j x hx hw
    refine ⟨(s.wr (ob 0x1100 0x09) x).dropWindow, serves_disciplineSettingWrite (sub := 0x09) (.inr (.inl rfl)) (leNat_u16 hx) hw,
      (s.wr_changes _ _).trans (State.dropWindow_changes _), ?_, rfl⟩
    rw [State.rd_dropWindow, State.rd_wr_self]
  case shift =>
    intro s t j x hx hw
    refine ⟨(s.wr (ob 0x1100 0x0A) x).dropWindow, serves_disciplineSettingWrite (sub := 0x0A) (.inr (.inr rfl)) (leNat_u8 hx) hw,
      (s.wr_changes _ _).trans (State.dropWindow_changes _), ?_, rfl⟩
    rw [State.rd_dropWindow, State.rd_wr_self]
  case field =>
    intro s cycles h0 hw hf h2 h1
    have hact : s.fieldMeasured.rd (ob 0x1100 0x08) = 1 := s.fieldMeasured_active hf h2 h1
    have hexec := exec_fieldWindowComplete s cycles h0 hw
    rw [s.discipline_field _ hact] at hexec
    dsimp only
    split_ifs at hexec ⊢ with hbig
    · refine ⟨s.fieldMeasured.incSat (ob 0x1100 0x11), ?_, rfl, rfl, s.fieldMeasured_dueAt, ?_, hexec, ?_, ?_⟩
      · exact (s.fieldMeasured_changes.trans (State.incSat_changes _ _)).mono (by simp) (by simp)
      · rw [State.rd_incSat_other _ (by simp), hact]
      · rw [State.rd_incSat_other _ (by simp), s.fieldMeasured_changes.rd (by simp)]
      · have hb : Dict.bits (ob 0x1100 0x11) = 16 := by decide
        rw [State.rd_incSat_self, hb, s.fieldMeasured_changes.rd (by simp)]
        rfl
    · refine ⟨s.fieldApplied _, (s.fieldApplied_changes _).mono (by simp) (by simp), rfl, rfl, s.fieldMeasured_dueAt, ?_, hexec,
        s.rd_fieldApplied_discipline _, s.rd_fieldApplied_rate _, (s.fieldApplied_changes _).rd (by simp)⟩
      rw [State.rd_fieldApplied_source, hact]
  case lapse =>
    intro s n hdue
    refine ⟨(s.cancel (.source n)).chooseSource, if_pos hdue, (s.cancel_changes _).trans (State.chooseSource_changes _),
      State.cancel_isArmed _ _, ?_⟩
    exact State.rd_chooseSource_self _
  case offset =>
    intro s hdue
    exact ⟨(s.cancel .netOffset).wr (ob 0x1100 0x10) 0, if_pos hdue, (s.cancel_changes _).trans (State.wr_changes _ _ _),
      State.cancel_isArmed _ _, State.rd_wr_self _ _ _⟩

end Sys2Proof.Machine
end
section
/-! PROOFS. Checkpoints, the tempo meter, Rest and waking (R41 to R44, R562, R563), and the statement `CheckpointTempoAndWaking`. -/

namespace Sys2Proof.Machine

/-! ### The NVA order -/

/-- A checkpoint put in the waiting commits is among them, joined with a waiting one or put before all. -/
theorem mem_queueCommit_checkpoint (n : Nat) (l : List Commit) : Commit.checkpoint n ∈ queueCommit (.checkpoint n) l := by
  unfold queueCommit
  split
  · next h =>
    simp only [Bool.and_eq_true, List.any_eq_true] at h
    obtain ⟨-, d, hd, hk⟩ := h
    exact List.mem_map.2 ⟨d, hd, if_pos hk⟩
  · simp [Commit.isCheckpoint]

/-- A checkpoint committed is in the NVA order. -/
theorem State.mem_order_commit_checkpoint (s : State) (n : Nat) : Commit.checkpoint n ∈ (s.commit (.checkpoint n)).order := by
  unfold State.commit
  split
  · simp
  · exact List.mem_cons_of_mem _ (mem_queueCommit_checkpoint n _)

/-! ### The tempo meter -/

/-- What a tempo measurement records: tempo and laps, the instant, and the lower of the tempo and the last minimum. -/
def State.tempoRecorded (s : State) (q laps low : Nat) : State :=
  let u := (s.wrFit (ob 0x1110 0x01) q).wrFit (ob 0x1110 0x02) laps
  u.wrAll [(ob 0x1110 0x04, u.now), (ob 0x1110 0x08, low)]

/-- TEMPO_MEASUREMENT that is due in Running records, governs and checks the floor, and the next is set. -/
theorem exec_tempoMeasurement (s : State) (laps : Nat) (hdue : s.gateDue = true) (hrun : s.runState = 1) :
    exec (.tempoMeasurement laps) s = .next (((((s.tempoRecorded (s.tempoOf laps) laps
      (min (s.tempoOf laps) (s.rd (ob 0x1110 0x08)))).govern (s.tempoOf laps)).tempoFloor (s.tempoOf laps)).nextGate).settle) :=
  if_pos ⟨hdue, hrun⟩

theorem State.tempoRecorded_changes (s : State) (q laps low : Nat) :
    Changes [] [ob 0x1110 0x01, ob 0x1110 0x02, ob 0x1110 0x04, ob 0x1110 0x08] s (s.tempoRecorded q laps low) :=
  ((s.wrFit_changes _ _).trans (State.wrFit_changes _ _ _)).trans (State.wrAll_changes _ _)

theorem State.rd_tempoRecorded_tempo (s : State) (q laps low : Nat) (h : q < 65536) :
    (s.tempoRecorded q laps low).rd (ob 0x1110 0x01) = q := by
  have hb : Dict.bits (ob 0x1110 0x01) = 16 := by decide
  rw [State.tempoRecorded, State.rd_wrAll_other _ _ _ (by simp), State.rd_wrFit_other _ _ (by simp),
    State.rd_wrFit_self _ _ _ (by rw [hb]; exact h)]

theorem State.rd_tempoRecorded_laps (s : State) (q laps low : Nat) (h : laps < 65536) :
    (s.tempoRecorded q laps low).rd (ob 0x1110 0x02) = laps := by
  have hb : Dict.bits (ob 0x1110 0x02) = 16 := by decide
  rw [State.tempoRecorded, State.rd_wrAll_other _ _ _ (by simp), State.rd_wrFit_self _ _ _ (by rw [hb]; exact h)]

theorem State.rd_tempoRecorded_instant (s : State) (q laps low : Nat) :
    (s.tempoRecorded q laps low).rd (ob 0x1110 0x04) = s.now := by
  have hnow : ((s.wrFit (ob 0x1110 0x01) q).wrFit (ob 0x1110 0x02) laps).now = s.now :=
    (State.now_wr _ _ (by simp) (by simp)).trans (s.now_wr _ (by simp) (by simp))
  rw [State.tempoRecorded, State.wrAll_cons, State.rd_wrAll_other _ _ _ (by simp), State.rd_wr_self, hnow]

theorem State.rd_tempoRecorded_minimum (s : State) (q laps low : Nat) :
    (s.tempoRecorded q laps low).rd (ob 0x1110 0x08) = low := by
  rw [State.tempoRecorded, State.wrAll_cons, State.wrAll_cons, State.wrAll_nil, State.rd_wr_self]

theorem State.govern_changes (s : State) (q : Nat) : Changes [] [ob 0x1110 0x06] s (s.govern q) := by
  unfold State.govern
  dsimp only
  split_ifs
  · exact s.wr_changes _ _
  · exact s.wr_changes _ _
  · exact (Changes.refl s).mono (by simp) (by simp)

/-- The governor's core voltage (R43). -/
theorem State.rd_govern_voltage (s : State) (q : Nat) :
    (s.govern q).rd (ob 0x1110 0x06) =
      if q < s.rd (ob 0x1110 0x05) then min 900 (s.rd (ob 0x1110 0x06) + 10)
      else if s.rd (ob 0x1110 0x05) + 0x0400 < q then max 500 (s.rd (ob 0x1110 0x06) - 10) else s.rd (ob 0x1110 0x06) := by
  unfold State.govern
  dsimp only
  split_ifs
  · exact State.rd_wr_self _ _ _
  · exact State.rd_wr_self _ _ _
  · rfl

/-! ### Waking -/

/-- The oscillator's restart begun where it is stopped (R35). -/
def State.oscStarted (s : State) : State :=
  if s.osc27Stopped then ({ s with time := { s.time with restart := true } } : State).armIn .osc27 500 else s

/-- What a wake records and restores before the block enters Running: the source and its instant, and the core voltage (R43, R563). -/
def State.wakeNoted (s : State) (source : Nat) : State :=
  s.oscStarted.wrAll [(ob 0x1080 0x04, source), (ob 0x1080 0x05, s.oscStarted.now), (ob 0x1110 0x06, s.oscStarted.time.resumeMv)]

/-- A wake source takes a block in Dozing or Rest to Running. -/
theorem State.wakeBy_asleep (s : State) (source : Nat) (h : s.runState = 2 ∨ s.runState = 3) :
    s.wakeBy source = ((s.wakeNoted source).setRun 1).openGate := by
  rw [State.wakeBy, if_pos h, State.wakeNoted, State.oscStarted]

theorem State.oscStarted_changes (s : State) : Changes [.timers, .time] [] s s.oscStarted := by
  unfold State.oscStarted
  split
  · exact ((s.withTime_changes _).trans (State.armIn_changes _ _ _)).mono (by simp) (by simp)
  · exact (Changes.refl s).mono (by simp) (by simp)

theorem State.oscStarted_time (s : State) :
    s.oscStarted.time = { s.time with restart := s.time.restart || s.osc27Stopped } := by
  unfold State.oscStarted
  split
  · next h => rw [h, Bool.or_true]; rfl
  · next h => rw [Bool.not_eq_true] at h; rw [h, Bool.or_false]

/-- Outside Running the device time is the count of the last tick, which a restart of the oscillator leaves. -/
theorem State.now_oscStarted (s : State) (h : s.runState ≠ 1) : s.oscStarted.now = s.now := by
  have hrun : s.oscStarted.runState = s.runState := s.oscStarted_changes.rd (by simp)
  have hi : s.interpolates = false := by simp [State.interpolates, h]
  have hi' : s.oscStarted.interpolates = false := by simp [State.interpolates, hrun, h]
  rw [State.now_of_not_interpolates hi, State.now_of_not_interpolates hi', s.oscStarted_time, TimeBase.whole, TimeBase.whole]

theorem State.oscStarted_dueAt (s : State) (h : s.osc27Stopped = true) (hrun : s.runState ≠ 1) :
    s.oscStarted.dueAt .osc27 = some (s.now + 500) := by
  have hnow := s.now_oscStarted hrun
  rw [State.oscStarted, if_pos h] at hnow ⊢
  rw [← hnow]
  exact State.arm_dueAt _ _ _

theorem State.oscStarted_dueAt_other (s : State) {tm : Timer} (h : tm ≠ .osc27) : s.oscStarted.dueAt tm = s.dueAt tm := by
  unfold State.oscStarted
  split
  · exact State.arm_dueAt_other _ _ h
  · rfl

theorem State.wakeNoted_changes (s : State) (source : Nat) :
    Changes [.timers, .time] [ob 0x1080 0x04, ob 0x1080 0x05, ob 0x1110 0x06] s (s.wakeNoted source) :=
  s.oscStarted_changes.trans (State.wrAll_changes _ _)

theorem State.wakeNoted_time (s : State) (source : Nat) :
    (s.wakeNoted source).time = { s.time with restart := s.time.restart || s.osc27Stopped } :=
  (State.wrAll_time _ _).trans s.oscStarted_time

theorem State.wakeNoted_dueAt (s : State) (source : Nat) (tm : Timer) : (s.wakeNoted source).dueAt tm = s.oscStarted.dueAt tm := rfl

theorem State.rd_wakeNoted_source (s : State) (source : Nat) : (s.wakeNoted source).rd (ob 0x1080 0x04) = source := by
  rw [State.wakeNoted, State.wrAll_cons, State.rd_wrAll_other _ _ _ (by simp), State.rd_wr_self]

theorem State.rd_wakeNoted_instant (s : State) (source : Nat) (h : s.runState ≠ 1) :
    (s.wakeNoted source).rd (ob 0x1080 0x05) = s.now := by
  rw [State.wakeNoted, State.wrAll_cons, State.wrAll_cons, State.rd_wrAll_other _ _ _ (by simp), State.rd_wr_self, s.now_oscStarted h]

theorem State.rd_wakeNoted_voltage (s : State) (source : Nat) : (s.wakeNoted source).rd (ob 0x1110 0x06) = s.time.resumeMv := by
  rw [State.wakeNoted, State.wrAll_cons, State.wrAll_cons, State.wrAll_cons, State.wrAll_nil, State.rd_wr_self, s.oscStarted_time]

/-- CHECKPOINT_DUE at or after its tick commits the count, and sets the next (R41). -/
theorem exec_checkpointDue (s : State) {d : Nat} (hd : s.dueAt .checkpoint = some d) (hle : d ≤ s.time.whole) :
    Ends .checkpointDue s ((s.commit (.checkpoint s.time.whole)).arm .checkpoint (s.time.whole + s.checkpointUs)) := by
  change execCheckpointDue s = _
  rw [execCheckpointDue, hd]
  exact if_neg (by omega)

/-- Settles O15. Each clause is the behaviour of one command: checkpoint, tempo measurement, entry to Rest, wake, and the end of the
oscillator's restart. -/
theorem checkpointTempoAndWaking : Obligations.CheckpointTempoAndWaking := by
  unfold Obligations.CheckpointTempoAndWaking
  refine ⟨?checkpoint, ?tempo, ?rest, ?wake, ?restart⟩
  case checkpoint =>
    intro s d hd hle
    exact ⟨_, exec_checkpointDue s hd hle, (s.commit_changes _).trans (State.arm_changes _ _ _), rfl,
      s.mem_order_commit_checkpoint _, State.arm_dueAt _ _ _⟩
  case tempo =>
    intro s laps hdue hrun
    have hexec := exec_tempoMeasurement s laps hdue hrun
    dsimp only
    have hrec := s.tempoRecorded_changes (s.tempoOf laps) laps (min (s.tempoOf laps) (s.rd (ob 0x1110 0x08)))
    have hgov := State.govern_changes (s.tempoRecorded (s.tempoOf laps) laps (min (s.tempoOf laps) (s.rd (ob 0x1110 0x08))))
      (s.tempoOf laps)
    refine ⟨_, (hrec.trans hgov).mono (by simp) (by simp), fun hq => ?_, fun hl => ?_, ?_, ?_, ?_, hexec⟩
    · rw [hgov.rd (by simp)]; exact s.rd_tempoRecorded_tempo _ _ _ hq
    · rw [hgov.rd (by simp)]; exact s.rd_tempoRecorded_laps _ _ _ hl
    · rw [hgov.rd (by simp)]; exact s.rd_tempoRecorded_instant _ _ _
    · rw [hgov.rd (by simp)]; exact s.rd_tempoRecorded_minimum _ _ _
    · rw [State.rd_govern_voltage, hrec.rd (by simp), hrec.rd (by simp)]; rfl
  case rest =>
    intro s hrun hdue hmay
    have hb : Dict.bits (ob 0x1080 0x03) = 32 := by decide
    refine ⟨((s.cancel .rest).inc (ob 0x1080 0x03)).wr (ob 0x1110 0x06) 500, if_pos ⟨hrun, hdue, hmay⟩,
      ((s.cancel_changes _).trans (State.inc_changes _ _)).trans (State.wr_changes _ _ _), ?_, State.rd_wr_self _ _ _, fun hlt => ?_⟩
    · rw [State.isArmed_congr (s := s.cancel .rest) (by simp), State.cancel_isArmed]
    · rw [State.rd_wr_other _ _ (by simp), State.rd_inc_self _ _ (by rw [hb]; exact hlt)]
      rfl
  case wake =>
    intro s n h1 h8 hrun
    have hasleep : (s.cancel .rest).runState = 2 ∨ (s.cancel .rest).runState = 3 := hrun.imp_right (·.1)
    have hnot : (s.cancel .rest).runState ≠ 1 := by omega
    have hwakes : 1 ≤ n ∧ n ≤ 8 ∧ (n ≠ 6 ∨ s.runState = 2) := ⟨h1, h8, by omega⟩
    refine ⟨(s.cancel .rest).wakeNoted n, ?_, (s.cancel_changes _).trans (State.wakeNoted_changes _ _) |>.mono (by simp) (by simp), ?_,
      State.rd_wakeNoted_source _ _, State.rd_wakeNoted_instant _ _ hnot, State.rd_wakeNoted_voltage _ _, State.wakeNoted_time _ _,
      fun hstop => State.oscStarted_dueAt _ hstop hnot⟩
    · rw [← State.wakeBy_asleep _ _ hasleep]
      exact if_pos hwakes
    · rw [State.isArmed, State.wakeNoted_dueAt, State.oscStarted_dueAt_other _ (by simp), State.cancel_dueAt]
      rfl
  case restart =>
    intro s harm
    exact ⟨{ s.cancel .osc27 with time := { s.time with restart := false } }, if_pos harm,
      (s.cancel_changes _).trans (State.withTime_changes _ _), State.cancel_isArmed _ _, rfl⟩

end Sys2Proof.Machine
end
section
/-! PROOFS. The statement `TickIncrement`: why it fails. A step on an empty queue first tests the tunings that are APPLYING (log entry 38) and
only then lets time pass, so it can change more than the time base. -/

namespace Sys2Proof.Machine

/-! ### What an idle step leaves of the calibration's state -/

@[simp] theorem State.pass_cal (s : State) : s.pass.cal = s.cal := by
  unfold State.pass
  split_ifs <;> rfl

@[simp] theorem State.setRun_cal (s : State) (n : Nat) : (s.setRun n).cal = s.cal := by
  unfold State.setRun
  dsimp only
  split <;> simp

@[simp] theorem State.doze_cal (s : State) : s.doze.cal = s.cal := by
  unfold State.doze
  dsimp only
  split_ifs <;> simp

/-- An idle step leaves of the calibration's state what the test of the APPLYING tunings leaves. -/
theorem State.idle_cal (s : State) : s.idle.cal = s.judgeApplying.cal := by rw [State.idle, State.doze_cal, State.pass_cal]

/-! ### A tuning that ends with PARK_UNREACHABLE -/

/-- A tuning whose voice no longer serves it, ended with PARK_UNREACHABLE (status 3, R211), is neither under way nor waiting. -/
theorem State.endTuning_cal (s : State) (u : Tuning) (hv : ∀ v, u.voice = some v → s.voices[v].serves u = false) :
    (s.endTuning u 3).cal =
      { s.cal with running := s.cal.running.filter (· != u), queue := s.cal.queue.filter (· != u) } := by
  unfold State.endTuning State.calEvent
  cases hu : u.voice with
  | none => cases ha : u.auto <;> simp
  | some v =>
    have hs : s.voices[v.val].serves u = false := hv v hu
    cases ha : u.auto <;> simp [hs]

theorem State.nextTunings_of_none_waiting (s : State) (h : s.cal.queue = []) : s.nextTunings = s := by
  rw [State.nextTunings, h, List.foldl_nil]

/-- One APPLYING tuning with its repeat run made is tested. -/
theorem State.judgeApplying_single (s : State) {u : Tuning} {r : Run} (h : s.cal.running.filter (fun w => w.stage == 4) = [u])
    (hr : u.last = some r) : s.judgeApplying = s.judgeTuning u r := by
  simp [State.judgeApplying, h, hr]

/-! ### The counterexample -/

/-- A run of an ANT_TUNE that found no park code. -/
def parklessRun : Run := ⟨[0, 0, 0, -1], true⟩

/-- An ANT_TUNE of antenna channel 0 whose two runs found no park code, its voice at FLOOR again: it is APPLYING (Table 8-5). -/
def parkless : Tuning :=
  { tenant := 0, kind := 1, target := 0, method := 1, auto := false, stage := 4, first := some parklessRun, last := some parklessRun,
    voice := some 0, status := 0 }

/-- The block Running with its start complete, the oscillator restarting (so the time is not interpolated), and that tuning under way. -/
def restartingApplying : State :=
  { State.reset with
    objs := [(ob 0x1020 0x01, 1)], rst := { State.reset.rst with conductor := .running }
    time := { State.reset.time with restart := true }, cal := { State.reset.cal with running := [parkless] } }

/-- The tuning fails its test (R211). -/
theorem State.judgeTuning_parkless (s : State) :
    s.judgeTuning parkless parklessRun = (s.endTuning parkless 3).nextTunings := by
  have hst : judgeRuns parkless.kind parklessRun parklessRun = 3 := by decide
  simp only [State.judgeTuning, parkless] at hst ⊢
  simp [hst]

/-- The idle step tests the tuning and ends it. -/
theorem restartingApplying_idle_running : restartingApplying.idle.cal.running = [] := by
  have hjudge : restartingApplying.judgeApplying = restartingApplying.judgeTuning parkless parklessRun :=
    State.judgeApplying_single _ (by decide) rfl
  have hend := restartingApplying.endTuning_cal parkless (by intro v hv; cases hv; rfl)
  have hqueue : (restartingApplying.endTuning parkless 3).cal.queue = [] := by rw [hend]; rfl
  rw [State.idle_cal, hjudge, State.judgeTuning_parkless, State.nextTunings_of_none_waiting _ hqueue, hend]
  decide

/-- Refutes O7: while the time is not interpolated, a step on an empty queue changes more than the time base where a tuning is APPLYING,
for it is tested before time passes (log entry 38). Here the test ends the tuning, which leaves the tunings under way. -/
theorem not_tickIncrement : ¬ Obligations.TickIncrement := by
  unfold Obligations.TickIncrement
  rintro ⟨htick, -, -⟩
  obtain ⟨t, hstep, hframe, -⟩ := htick restartingApplying rfl rfl rfl
  have ht : restartingApplying.idle = t := Host.Outcome.next.inj hstep
  have hcal : t.cal = restartingApplying.cal := hframe.same (p := .cal) (by simp)
  have hrun : restartingApplying.cal.running = [] := by rw [← hcal, ← ht, restartingApplying_idle_running]
  exact absurd hrun (List.cons_ne_nil _ _)

end Sys2Proof.Machine
end
section
/-! PROOFS. What the shared operations of chapters 3, 6, 8 and 18 leave of the voices. Three frames, each kept by composition: the objects
of some keys (`Keeps`), the voices whole (`SparesVoices`), and what the voices are granted (`KeepsGrants`). -/

namespace Sys2Proof.Machine

/-! ### Keys of a voice's record -/

/-- Whether a key belongs to a voice's record (0x2000 to 0x2003). -/
def voiceKey (k : Nat) : Bool := decide (0x2000 ≤ keyIndex k) && decide (keyIndex k ≤ 0x2003)

/-- Whether it is a setting or a counter there: none of state, selected channel, power, VFLD requirement and tenant, which a voice's way to
the floor sets. -/
def voiceSettingKey (k : Nat) : Bool := voiceKey k && !([1, 2, 6, 7, 8].contains (keySub k))

@[simp] theorem keyIndex_ob {i n : Nat} (hn : n < 256) : keyIndex (ob i n) = i := by unfold keyIndex ob; omega
@[simp] theorem keySub_ob {i n : Nat} (hn : n < 256) : keySub (ob i n) = n := by unfold keySub ob; omega
@[simp] theorem keyIndex_obT {i n : Nat} (t : Tenant) (hn : n < 256) : keyIndex (obT i n t) = i := by
  have ht := t.isLt
  unfold keyIndex obT ob
  omega

theorem voiceKey_ob (v : VoiceId) {n : Nat} (hn : n < 256) : voiceKey (ob (0x2000 + v.val) n) = true := by
  have hv := v.isLt
  simp only [voiceKey, keyIndex_ob hn, Bool.and_eq_true, decide_eq_true_eq]
  omega

theorem voiceKey_ob_outside {i n : Nat} (hi : i < 0x2000 ∨ 0x2003 < i) (hn : n < 256) : voiceKey (ob i n) = false := by
  simp only [voiceKey, keyIndex_ob hn, Bool.and_eq_false_iff, decide_eq_false_iff_not]
  omega

theorem voiceKey_obT_outside {i n : Nat} (t : Tenant) (hi : i < 0x2000 ∨ 0x2003 < i) (hn : n < 256) : voiceKey (obT i n t) = false := by
  simp only [voiceKey, keyIndex_obT t hn, Bool.and_eq_false_iff, decide_eq_false_iff_not]
  omega

theorem voiceSettingKey_ob (v : VoiceId) {n : Nat} (hn : n < 256) (hs : n ∉ [1, 2, 6, 7, 8]) :
    voiceSettingKey (ob (0x2000 + v.val) n) = true := by
  simpa [voiceSettingKey, voiceKey_ob v hn, keySub_ob hn] using hs

/-- What a voice's way to the floor sets is no setting. -/
theorem voiceSettingKey_live {i n : Nat} (hs : n ∈ [1, 2, 6, 7, 8]) : voiceSettingKey (ob i n) = false := by
  have hn : n < 256 := by
    simp only [List.mem_cons, List.not_mem_nil, or_false] at hs
    omega
  simp only [voiceSettingKey, keySub_ob hn, List.contains_eq_mem, decide_eq_true hs, Bool.not_true, Bool.and_false]

theorem metroKey_of_voiceKey {k : Nat} (h : voiceKey k = true) : metroKey k = false := by
  simp only [voiceKey, Bool.and_eq_true, decide_eq_true_eq] at h
  simp only [metroKey, Bool.and_eq_false_iff, decide_eq_false_iff_not]
  omega

theorem voiceKey_of_setting {k : Nat} (h : voiceSettingKey k = true) : voiceKey k = true := (Bool.and_eq_true_iff.1 h).1

/-! ### The frame of some objects -/

/-- Every object of the keys `P` reads in `t` as in `s`. -/
def Keeps (P : Nat → Bool) (s t : State) : Prop := ∀ k, P k = true → t.rd k = s.rd k

section
variable {P : Nat → Bool} {s t u : State}

theorem Keeps.refl (s : State) : Keeps P s s := fun _ _ => rfl

theorem Keeps.trans (h : Keeps P s t) (g : Keeps P t u) : Keeps P s u := fun k hk => (g k hk).trans (h k hk)

theorem Keeps.of_objs (h : t.objs = s.objs) : Keeps P s t := fun k _ => State.rd_congr h k

theorem Keeps.ite {c : Prop} [Decidable c] (h : Keeps P s t) (g : Keeps P s u) : Keeps P s (if c then t else u) := by
  split
  · exact h
  · exact g

theorem Keeps.foldl {α : Type} (f : State → α → State) (hf : ∀ s a, Keeps P s (f s a)) (l : List α) (s : State) :
    Keeps P s (l.foldl f s) := by
  induction l generalizing s with
  | nil => exact .refl s
  | cons a l ih => exact (hf s a).trans (ih (f s a))

/-- What keeps a voice's whole record keeps its settings. -/
theorem Keeps.settings (h : Keeps voiceKey s t) : Keeps voiceSettingKey s t := fun k hk => h k (voiceKey_of_setting hk)

end

theorem State.wr_keeps {P : Nat → Bool} (s : State) {k : Nat} (v : Nat) (hk : P k = false) : Keeps P s (s.wr k v) :=
  fun j hj => State.rd_wr_other s v (fun e => by simp [e, hk] at hj)

theorem State.add_keeps {P : Nat → Bool} (s : State) {k : Nat} (n : Nat) (hk : P k = false) : Keeps P s (s.add k n) :=
  fun j hj => State.rd_add_other s n (fun e => by simp [e, hk] at hj)

theorem State.wrAll_keeps {P : Nat → Bool} (s : State) (l : List (Nat × Nat)) (hl : ∀ p ∈ l, P p.1 = false) :
    Keeps P s (s.wrAll l) :=
  fun j hj => State.rd_wrAll_other l s j (fun p hp e => by simp [e, hl p hp] at hj)

/-! ### The voices left whole -/

/-- Whether a timer is a voice's. -/
def voiceTimer : Timer → Bool
  | .select _ | .rampUp _ | .settle _ | .slew _ | .rampDown _ | .dwell _ | .frameEnd _ | .windowOpen _ | .eof _ | .close _ | .wtx _ => true
  | _ => false

/-- Nothing of the voices differs: their engines, what is due on them, their objects and their timers. -/
structure SparesVoices (s t : State) : Prop where
  voices : t.voices = s.voices
  dues : t.dues = s.dues
  keeps : Keeps voiceKey s t
  timers : ∀ tm, voiceTimer tm = true → t.dueAt tm = s.dueAt tm

section
variable {s t u : State}

theorem SparesVoices.refl (s : State) : SparesVoices s s := ⟨rfl, rfl, .refl s, fun _ _ => rfl⟩

theorem SparesVoices.trans (h : SparesVoices s t) (g : SparesVoices t u) : SparesVoices s u :=
  ⟨g.voices.trans h.voices, g.dues.trans h.dues, h.keeps.trans g.keeps, fun tm htm => (g.timers tm htm).trans (h.timers tm htm)⟩

theorem SparesVoices.ite {c : Prop} [Decidable c] (h : SparesVoices s t) (g : SparesVoices s u) : SparesVoices s (if c then t else u) := by
  split
  · exact h
  · exact g

theorem SparesVoices.foldl {α : Type} (f : State → α → State) (hf : ∀ s a, SparesVoices s (f s a)) (l : List α) (s : State) :
    SparesVoices s (l.foldl f s) := by
  induction l generalizing s with
  | nil => exact .refl s
  | cons a l ih => exact (hf s a).trans (ih (f s a))

/-- A state with the same voices, dues, objects and timers. -/
theorem SparesVoices.of_eq (hv : t.voices = s.voices) (hd : t.dues = s.dues) (ho : t.objs = s.objs) (ht : t.timers = s.timers) :
    SparesVoices s t :=
  ⟨hv, hd, .of_objs ho, fun tm _ => by unfold State.dueAt; rw [ht]⟩

theorem SparesVoices.voiceState (h : SparesVoices s t) (v : VoiceId) : t.voiceState v = s.voiceState v :=
  h.keeps _ (voiceKey_ob v (by decide))

end

theorem State.wr_spares (s : State) {k : Nat} (v : Nat)
    (hk : voiceKey k = false := by simp (disch := omega) only [voiceKey_ob_outside, voiceKey_obT_outside]) : SparesVoices s (s.wr k v) :=
  ⟨rfl, rfl, s.wr_keeps v hk, fun _ _ => rfl⟩

theorem State.add_spares (s : State) {k : Nat} (n : Nat)
    (hk : voiceKey k = false := by simp (disch := omega) only [voiceKey_ob_outside, voiceKey_obT_outside]) :
    SparesVoices s (s.add k n) := by
  unfold State.add
  exact .ite (s.wr_spares _ hk) (s.wr_spares _ hk)

theorem State.inc_spares (s : State) {k : Nat}
    (hk : voiceKey k = false := by simp (disch := omega) only [voiceKey_ob_outside, voiceKey_obT_outside]) : SparesVoices s (s.inc k) :=
  s.add_spares 1 hk

theorem State.wrAll_spares (s : State) (l : List (Nat × Nat)) (hl : ∀ p ∈ l, voiceKey p.1 = false := by
    simp (disch := omega) [voiceKey_ob_outside, voiceKey_obT_outside]) : SparesVoices s (s.wrAll l) := by
  have hobjs := s.wrAll_eq l
  exact ⟨by rw [hobjs], by rw [hobjs], s.wrAll_keeps l hl, fun tm _ => by rw [hobjs]; rfl⟩

/-- Cancelling a timer leaves the others as they are. -/
theorem State.cancel_dueAt_other (s : State) {tm um : Timer} (h : um ≠ tm) : (s.cancel tm).dueAt um = s.dueAt um := by
  simpa [State.dueAt, State.arm, State.cancel, beq_false_of_ne h.symm] using s.arm_dueAt_other 0 h

/-- Timers removed together are not set. -/
theorem State.cancelAll_isArmed (s : State) {p : Timer → Bool} {tm : Timer} (h : p tm = true) : (s.cancelAll p).isArmed tm = false := by
  have hf : (s.timers.filter (fun x => !p x.1)).find? (fun x => x.1 == tm) = none := by
    rw [List.find?_eq_none]
    intro x hx e
    simp only [List.mem_filter, Bool.not_eq_true'] at hx
    rw [eq_of_beq e, h] at hx
    exact absurd hx.2 (by decide)
  simp [State.isArmed, State.dueAt, State.cancelAll, hf]

theorem ne_of_voiceTimer {tm um : Timer} (hum : voiceTimer um = true) (htm : voiceTimer tm = false) : um ≠ tm := by
  rintro rfl
  simp [hum] at htm

theorem State.arm_spares (s : State) {tm : Timer} (due : Nat) (h : voiceTimer tm = false := by rfl) : SparesVoices s (s.arm tm due) :=
  ⟨rfl, rfl, .refl s, fun _ hum => s.arm_dueAt_other due (ne_of_voiceTimer hum h)⟩

theorem State.armIn_spares (s : State) {tm : Timer} (us : Nat) (h : voiceTimer tm = false := by rfl) : SparesVoices s (s.armIn tm us) :=
  s.arm_spares _ h

theorem State.cancel_spares (s : State) {tm : Timer} (h : voiceTimer tm = false := by rfl) : SparesVoices s (s.cancel tm) :=
  ⟨rfl, rfl, .refl s, fun _ hum => s.cancel_dueAt_other (ne_of_voiceTimer hum h)⟩

theorem SameButEvents.spares {s t : State} (h : SameButEvents s t) : SparesVoices s t := by
  obtain ⟨r, o, sc, m, ob, rfl, hk⟩ := h
  exact ⟨rfl, rfl, fun k hv => hk k (metroKey_of_voiceKey hv), fun _ _ => rfl⟩

theorem State.raise_spares (s : State) (e : Nat) (l : List Tenant) (d : Octets) : SparesVoices s (s.raise e l d) :=
  (s.raise_events e l d).spares

theorem State.commit_spares (s : State) (c : Commit) : SparesVoices s (s.commit c) := (s.commit_same c).events.spares

theorem State.settle_spares (s : State) : SparesVoices s s.settle := s.settle_same.events.spares

/-! Parts of the state that are no voice's. -/

section
variable (s : State)

theorem State.withFree_spares (n : Nat) : SparesVoices s { s with free := n } := .of_eq rfl rfl rfl rfl
theorem State.withPower_spares (p : Power) : SparesVoices s { s with power := p } := .of_eq rfl rfl rfl rfl
theorem State.withTime_spares (t : TimeBase) : SparesVoices s { s with time := t } := .of_eq rfl rfl rfl rfl
theorem State.withPins_spares (p : Pins) : SparesVoices s { s with pins := p } := .of_eq rfl rfl rfl rfl
theorem State.withFaults_spares (f : Faults) : SparesVoices s { s with faults := f } := .of_eq rfl rfl rfl rfl
theorem State.withCal_spares (c : Cal) : SparesVoices s { s with cal := c } := .of_eq rfl rfl rfl rfl
theorem State.withTagsCal_spares (l : List (Nat × Tag)) (c : Cal) : SparesVoices s { s with tags := l, cal := c } :=
  .of_eq rfl rfl rfl rfl

theorem State.fieldStopped_spares : SparesVoices s s.fieldStopped := s.withTime_spares _

end

/-! ### The boost -/

theorem State.setpoint_eq (s : State) (mv : Nat) : s.setpoint mv =
    ({ s with free := s.free + 1 } : State).wrAll [(ob 0x2010 0x02, mv), (ob 0x2010 0x09, Config.freeValue s.free % 256)] := rfl

theorem State.setpoint_spares (s : State) (mv : Nat) : SparesVoices s (s.setpoint mv) := by
  rw [State.setpoint_eq]
  exact (s.withFree_spares _).trans (State.wrAll_spares _ _)

theorem State.boostStart_spares (s : State) : SparesVoices s s.boostStart := by
  unfold State.boostStart
  refine .ite (.refl s) (.trans (.trans (.trans ?_ (State.withPins_spares _ _)) (State.cancel_spares _)) (State.armIn_spares _ _))
  exact ((s.setpoint_spares _).trans (State.wr_spares _ _)).trans (State.inc_spares _)

theorem State.boostFollow_spares (s : State) : SparesVoices s s.boostFollow := by
  have hset := s.setpoint_spares s.vfldWanted
  have hslew := hset.trans (State.wr_spares (s.setpoint s.vfldWanted) (k := ob 0x2010 0x01) 3)
  unfold State.boostFollow
  refine .ite (.refl s) ?_
  split
  · exact s.boostStart_spares
  · exact .ite hset (.refl s)
  · exact .ite (hslew.trans (State.armIn_spares _ _)) (.ite hslew (.refl s))
  · exact .ite (hset.trans (State.armIn_spares _ _)) (.ite (hset.trans (State.cancel_spares _)) (.refl s))
  · exact .refl s

theorem State.boostCut_spares (s : State) : SparesVoices s s.boostCut := by
  have hcut := ((((s.cancel_spares (tm := .boostStart)).trans (State.cancel_spares _ (tm := .boostSlew))).trans
    (State.cancel_spares _ (tm := .boostHold))).trans (State.cancel_spares _ (tm := .boostStop))).trans
    (State.withPins_spares _ { s.pins with vfldEn := false, discharge := false })
  unfold State.boostCut
  exact .ite hcut (hcut.trans (State.wr_spares _ _))

theorem State.boostIdle_spares (s : State) : SparesVoices s s.boostIdle := by
  unfold State.boostIdle
  exact .ite (.ite (.refl s) s.boostCut_spares) (.ite (.ite (.refl s) (State.armIn_spares _ _)) (State.cancel_spares _))

/-! ### Channels let go, detectors paused -/

/-- The receive objects of a channel at their defaults. -/
theorem State.resetReceive_spares (s : State) (ch : Nat) (l : List Nat) (hl : ∀ n ∈ l, n < 256) :
    SparesVoices s (l.foldl (fun s n => s.reset1 (ob (0x2200 + ch) n)) s) := by
  induction l generalizing s with
  | nil => exact .refl s
  | cons n l ih =>
    have hn : n < 256 := hl n (by simp)
    exact (State.wr_spares s (k := ob (0x2200 + ch) n) _).trans (ih _ (fun m hm => hl m (by simp [hm])))

theorem State.channelFresh_spares (s : State) (ch : Nat) : SparesVoices s (s.channelFresh ch) := by
  unfold State.channelFresh
  refine .trans (.trans ?_ (State.wr_spares _ _)) (.ite (State.commit_spares _ _) (.refl _))
  exact s.resetReceive_spares ch [1, 2, 3, 4, 5, 6, 7, 8] (by decide)

theorem State.allotNow_spares (s : State) (ch : Nat) : SparesVoices s (s.allotNow ch) := by
  unfold State.allotNow
  refine .ite (.refl s) (.trans (.trans (.trans ?_ (State.wr_spares _ _)) (State.channelFresh_spares _ _))
    (.ite (.refl _) (State.commit_spares _ _)))
  exact s.withTagsCal_spares _ _

theorem State.letGo_spares (s : State) (l : List Nat) : SparesVoices s (s.letGo l) :=
  SparesVoices.foldl _ (fun s c => .ite (.refl s) (s.allotNow_spares c)) l s

theorem State.pauseDetection_spares (s : State) : SparesVoices s s.pauseDetection :=
  SparesVoices.foldl _ (fun s _ => .ite (State.wr_spares s _) (.refl s)) channels s

/-! ### Running states -/

theorem State.setRun_spares (s : State) (n : Nat) : SparesVoices s (s.setRun n) := by
  unfold State.setRun
  refine .trans (.trans (.trans ?_ (State.wrAll_spares _ _)) (State.withPower_spares _ _)) (State.raise_spares _ _ _ _)
  split
  · next h => exact s.add_spares _
  · exact .refl s

theorem State.doze_spares (s : State) : SparesVoices s s.doze := by
  unfold State.doze
  refine .ite (.trans (.trans ?_ (State.setRun_spares _ _)) (State.armIn_spares _ _)) (.refl s)
  exact ((s.withTime_spares _).trans (State.fieldStopped_spares _)).trans (.ite (State.armIn_spares _ _) (.refl _))

theorem State.wakeBy_spares (s : State) (source : Nat) : SparesVoices s (s.wakeBy source) := by
  unfold State.wakeBy
  refine .ite (.trans (.trans (.trans ?_ (State.wrAll_spares _ _)) (State.setRun_spares _ _)) (State.withTime_spares _ _)) (.refl s)
  exact .ite ((s.withTime_spares _).trans (State.armIn_spares _ _)) (.refl s)

end Sys2Proof.Machine
end
section
/-! PROOFS. Faults, runs of scores and tunings: what they leave of the voices. -/

namespace Sys2Proof.Machine

/-! ### Faults -/

theorem State.causeEnd_spares (s : State) (f : Nat) : SparesVoices s (s.causeEnd f) := s.withFaults_spares _
theorem State.causeEndKey_spares (s : State) (f key : Nat) : SparesVoices s (s.causeEndKey f key) := s.withFaults_spares _
theorem State.causeBegin_spares (s : State) (f : Nat) (d : Tenant) (key : Nat) : SparesVoices s (s.causeBegin f d key) :=
  s.withFaults_spares _

theorem State.countReset_spares (s : State) (f bits : Nat) : SparesVoices s (s.countReset f bits) := by
  unfold State.countReset
  exact .ite (.refl s) (s.withFaults_spares _)

theorem State.formRecord_spares (s : State) (f : Nat) (d : Tenant) (detail stamp : Nat) :
    SparesVoices s (s.formRecord f d detail stamp) := by
  unfold State.formRecord
  split
  · refine .trans ?_ (.ite (State.raise_spares _ _ _ _) (.refl _))
    refine .trans (.trans (.trans ?_ (State.countReset_spares _ _ _)) (State.arm_spares _ _)) (State.commit_spares _ _)
    refine .trans (.trans (.trans ?_ (State.withFaults_spares _ _)) (State.inc_spares _)) (State.wr_spares _ _)
    exact .ite (State.inc_spares _) (.refl _)
  · refine .trans ?_ (.ite (State.raise_spares _ _ _ _) (.refl _))
    refine .trans ?_ (.ite (.refl _) (State.commit_spares _ _))
    exact (s.withFaults_spares _).trans (State.countReset_spares _ _ _)

theorem State.faultKeyed_spares (s : State) (f : Nat) (d : Tenant) (detail key : Nat) :
    SparesVoices s (s.faultKeyed f d detail key) := by
  unfold State.faultKeyed
  refine .trans (.trans ((State.inc_spares s).trans (State.wr_spares _ _)) (.ite (.refl _) (State.causeBegin_spares _ _ _ _)))
    (.ite (.refl _) ?_)
  exact (((State.wr_spares _ _).trans (State.withFaults_spares _ _)).trans (State.wakeBy_spares _ _)).trans
    (.ite (State.formRecord_spares _ _ _ _ _) (State.withFaults_spares _ _))

theorem State.fault_spares (s : State) (f detail : Nat) : SparesVoices s (s.fault f detail) := s.faultKeyed_spares f t0 detail 0

/-! ### Tunings that hold no voice -/

theorem State.tuneState_spares (s : State) (u : Tuning) (st : Nat) : SparesVoices s (s.tuneState u st) := by
  unfold State.tuneState
  exact .ite (.refl s) (State.wr_spares s _)

theorem State.firstRun_spares (s : State) (u : Tuning) : SparesVoices s (s.firstRun u) := by
  unfold State.firstRun State.dropWindows
  exact ((s.withCal_spares _).trans (State.withCal_spares _ _)).trans (State.tuneState_spares _ _ _)

theorem State.applying_spares (s : State) (v : VoiceId) : SparesVoices s (s.applying v) := by
  unfold State.applying
  split
  · exact (s.withCal_spares _).trans (State.tuneState_spares _ _ _)
  · exact .refl s

/-! ### Runs of scores (R153, R154) -/

theorem State.setScore_keeps {P : Nat → Bool} (s : State) (i : ScoreId) (f : Score → Score) : Keeps P s (s.setScore i f) := .of_objs rfl
theorem State.armIn_keeps {P : Nat → Bool} (s : State) (tm : Timer) (us : Nat) : Keeps P s (s.armIn tm us) := .of_objs rfl
theorem State.cancelAll_keeps {P : Nat → Bool} (s : State) (p : Timer → Bool) : Keeps P s (s.cancelAll p) := .of_objs rfl
theorem State.setVoice_keeps {P : Nat → Bool} (s : State) (v : VoiceId) (f : Voice → Voice) : Keeps P s (s.setVoice v f) := .of_objs rfl
theorem State.withDues_keeps {P : Nat → Bool} (s : State) (l : List DueStep) : Keeps P s { s with dues := l } := .of_objs rfl

theorem State.channelEvent_keeps (s : State) (ch k : Nat) (l : List Tenant) (d : Octets) : Keeps voiceKey s (s.channelEvent ch k l d) :=
  (s.raise_spares _ _ _).keeps

theorem State.deliverResult_keeps (s : State) (d : DueStep) (e : End) (stamp count rounds : Nat) (q : Octets) (full : Bool) :
    Keeps voiceKey s (s.deliverResult d e stamp count rounds q full) := by
  unfold State.deliverResult
  exact .trans (.ite (State.wr_spares s _).keeps (.refl s)) (State.channelEvent_keeps _ _ _ _ _)

theorem State.countWrite_keeps (s : State) (d : DueStep) (e : End) : Keeps voiceKey s (s.countWrite d e) := by
  unfold State.countWrite
  refine .ite (.refl s) ?_
  split
  · exact .ite (State.inc_spares s).keeps (.refl s)
  iterate 4 exact (State.inc_spares s).keeps
  · exact .refl s

theorem State.scoreRest_keeps (s : State) (i : ScoreId) : Keeps voiceKey s (s.scoreRest i) := by
  unfold State.scoreRest
  exact (State.wrAll_spares s _).keeps.trans (State.setScore_keeps _ _ _)

theorem State.runEnd_keeps (s : State) (i : ScoreId) : Keeps voiceKey s (s.runEnd i) := by
  unfold State.runEnd
  exact .trans (.trans (.ite (State.inc_spares s).keeps (.refl s)) (State.wr_spares _ _).keeps) (State.scoreRest_keeps _ _)

theorem State.runHalt_keeps (s : State) (i : ScoreId) (k : Nat) (r : Octets) (t : Tenant) : Keeps voiceKey s (s.runHalt i k r t) := by
  unfold State.runHalt
  exact ((State.wrAll_spares s _).keeps.trans (State.setScore_keeps _ _ _)).trans (State.channelEvent_keeps _ _ _ _ _)

theorem State.groupStep_keeps (i : ScoreId) (t : Tenant) (f : Nat) (s : State) (k : Nat) : Keeps voiceKey s (s.groupStep i t f k) := by
  induction f generalizing s k with
  | zero => exact .refl s
  | succ f ih =>
    rw [State.groupStep]
    refine .ite (s.setScore_keeps _ _) ?_
    dsimp only
    refine .ite (s.runHalt_keeps _ _ _ _) (.ite (s.setScore_keeps _ _) (.ite ?wait ?step))
    case wait => exact .trans ((s.setScore_keeps _ _).trans (State.armIn_keeps _ _ _)) (.ite (ih _ _) (State.setScore_keeps _ _ _))
    case step =>
      split
      · exact .trans (((s.deliverResult_keeps _ _ _ _ _ _ _).trans (State.countWrite_keeps _ _ _)).trans (State.setScore_keeps _ _ _))
          (.ite (ih _ _) (State.setScore_keeps _ _ _))
      · refine .trans (.trans ((s.withDues_keeps _).trans (State.setScore_keeps _ _ _)) (.ite (.refl _) (State.armIn_keeps _ _ _)))
          (.ite (ih _ _) (State.setScore_keeps _ _ _))

theorem State.advance_keeps (i : ScoreId) (f : Nat) (s : State) : Keeps voiceKey s (s.advance i f) := by
  induction f generalizing s with
  | zero => exact .refl s
  | succ f ih =>
    rw [State.advance]
    refine .ite (.refl s) (.ite (.refl s) (.ite (s.runEnd_keeps i) ?_))
    split
    · exact s.runEnd_keeps i
    · split
      · refine .ite (s.runHalt_keeps _ _ _ _) ?_
        exact (((s.setScore_keeps _ _).trans (State.wr_spares _ _).keeps).trans (State.groupStep_keeps _ _ _ _ _)).trans (ih _)
      · exact ((State.wr_spares s _).keeps.trans (State.groupStep_keeps _ _ _ _ _)).trans (ih _)

theorem State.stepEnded_keeps (s : State) (d : DueStep) (ok : Bool) : Keeps voiceKey s (s.stepEnded d ok) := by
  unfold State.stepEnded
  exact .ite (.refl s) (.ite ((s.setScore_keeps _ _).trans (State.advance_keeps _ _ _)) (.refl s))

theorem State.endDue_keeps (s : State) (d : DueStep) (e : End) : Keeps voiceKey s (s.endDue d e) := by
  unfold State.endDue
  refine .trans (.trans (.trans ?_ (State.deliverResult_keeps _ _ _ _ _ _ _ _)) (State.countWrite_keeps _ _ _))
    (State.stepEnded_keeps _ _ _)
  exact .of_objs rfl

/-- Due steps that end without a grant leave every object of the voices. -/
theorem State.cutDues_keeps (s : State) (p : DueStep → Bool) (outcome : Nat) : Keeps voiceKey s (s.cutDues p outcome) :=
  Keeps.foldl _ (fun s d => s.endDue_keeps d _) _ s

/-! ### A voice on its way to the floor -/

/-- Stores of what a voice's way to the floor sets leave its settings and counters. -/
theorem State.wrAll_live_keeps (s : State) (i : Nat) (l : List (Nat × Nat)) (hl : ∀ p ∈ l, p.1 ∈ [1, 2, 6, 7, 8]) :
    Keeps voiceSettingKey s (s.wrAll (l.map (fun p => (ob i p.1, p.2)))) := by
  refine s.wrAll_keeps _ ?_
  intro p hp
  obtain ⟨q, hq, rfl⟩ := List.mem_map.1 hp
  exact voiceSettingKey_live (hl q hq)

theorem State.wr_live_keeps (s : State) {i n : Nat} (x : Nat) (hn : n ∈ [1, 2, 6, 7, 8] := by decide) :
    Keeps voiceSettingKey s (s.wr (ob i n) x) := s.wr_keeps x (voiceSettingKey_live hn)

theorem State.unselect_keeps (s : State) (v : VoiceId) : Keeps voiceSettingKey s (s.unselect v) := by
  unfold State.unselect
  exact .trans (s.wr_live_keeps _) (.ite (.of_objs rfl) (.refl _))

theorem State.reachFloor_keeps (s : State) (v : VoiceId) : Keeps voiceSettingKey s (s.reachFloor v) := by
  unfold State.reachFloor
  refine .trans (.trans (.trans (.trans ?_ (State.fieldStopped_spares _).keeps.settings) (State.letGo_spares _ _).keeps.settings)
    (State.boostFollow_spares _).keeps.settings) (State.boostIdle_spares _).keeps.settings
  exact ((s.unselect_keeps v).trans (State.setVoice_keeps _ _ _)).trans
    (State.wrAll_live_keeps _ _ [(1, _), (6, 0), (7, 0), (8, 0xFF)] (by simp))

theorem State.rampDown_keeps (s : State) (v : VoiceId) (ramp : Nat) : Keeps voiceSettingKey s (s.rampDown v ramp) := by
  unfold State.rampDown
  exact .trans (.trans (.trans (s.cancelAll_keeps _) (State.wr_live_keeps _ _)) (State.setVoice_keeps _ _ _))
    (State.armIn_keeps _ _ _)

theorem State.releaseVoice_keeps (s : State) (v : VoiceId) : Keeps voiceSettingKey s (s.releaseVoice v) := by
  unfold State.releaseVoice
  refine .trans ?_ (.ite (.refl _) (.ite (State.rampDown_keeps _ _ _) (State.reachFloor_keeps _ _)))
  exact ((s.cancelAll_keeps _).trans (State.setVoice_keeps _ _ _)).trans (State.wr_live_keeps _ _)

theorem State.cutStep_keeps (s : State) (v : VoiceId) (outcome : Nat) : Keeps voiceSettingKey s (s.cutStep v outcome) := by
  unfold State.cutStep
  refine .trans ?_ (Keeps.foldl _ (fun s g => (s.stepEnded_keeps _ _).settings) _ _)
  refine .trans (.trans (.trans (.ite (.refl s) ?results) (State.setVoice_keeps _ _ _)) (State.cancelAll_keeps _ _))
    (State.wr_live_keeps _ _)
  refine Keeps.foldl _ (fun s p => ?_) _ s
  exact .ite (.refl s) ((s.deliverResult_keeps _ _ _ _ _ _ _).trans (State.countWrite_keeps _ _ _)).settings

/-! ### Tunings ended and taken up (R201 to R204) -/

theorem State.endTuning_keeps (s : State) (u : Tuning) (status : Nat) : Keeps voiceSettingKey s (s.endTuning u status) := by
  unfold State.endTuning
  refine .trans ?_ (State.raise_spares _ _ _ _).keeps.settings
  refine .trans ?_ (SparesVoices.keeps (.ite ((State.causeEndKey_spares _ _ _).trans (State.causeEndKey_spares _ _ _))
    (.ite (State.faultKeyed_spares _ _ _ _ _) (.ite (State.faultKeyed_spares _ _ _ _ _) (.refl _))))).settings
  refine .trans ?_ (SparesVoices.keeps (.ite ((State.inc_spares _).trans (State.wr_spares _ _))
    ((State.inc_spares _).trans (State.wrAll_spares _ _)))).settings
  refine .trans ?_ (SparesVoices.keeps (.ite (.refl _) (State.wrAll_spares _ _))).settings
  refine .trans ?_ ((State.cancel_spares _).trans (State.cancel_spares _)).keeps.settings
  cases u.voice with
  | none => exact .of_objs rfl
  | some v =>
    refine .trans ?_ (.ite (State.releaseVoice_keeps _ _) (.refl _))
    exact .of_objs rfl

theorem State.takeTuning_keeps (s : State) (u : Tuning) : Keeps voiceSettingKey s (s.takeTuning u) := by
  unfold State.takeTuning
  split
  · refine .ite (.of_objs rfl) (.trans (.of_objs rfl) (State.firstRun_spares _ _).keeps.settings)
  · refine .trans (s.withCal_spares _).keeps.settings (.ite (.ite (State.endTuning_keeps _ _ _) ?_) (.ite ?_ ?_))
    · exact ((State.firstRun_spares _ _).trans (State.armIn_spares _ _)).keeps.settings
    · exact .trans (State.firstRun_spares _ _).keeps.settings (.of_objs rfl)
    · exact (State.firstRun_spares _ _).keeps.settings

theorem State.nextTunings_keeps (s : State) : Keeps voiceSettingKey s s.nextTunings :=
  Keeps.foldl _ (fun s u => .ite (.refl s) (.ite (.refl s) (s.takeTuning_keeps u))) _ s

theorem State.abortOn_keeps (s : State) (v : VoiceId) : Keeps voiceSettingKey s (s.abortOn v) :=
  (Keeps.foldl _ (fun s u => s.endTuning_keeps u 5) _ s).trans (State.nextTunings_keeps _)

end Sys2Proof.Machine
end
section
/-! PROOFS. Grants (R54, R68, R71, R72, R157): what a voice is granted after a step is taken up, deferred or reversed to, and the statement
`VoiceGrantAndSelection`. -/

namespace Sys2Proof.Machine

/-! ### What a voice is granted -/

/-- What a grant sets of a voice. -/
structure Granted where
  grant : Option Grant
  deferred : Option Grant
  held : Option Nat
  owner : Option Tenant
  lastTenant : Tenant

/-- What a voice is granted. -/
def Voice.granted (x : Voice) : Granted := ⟨x.grant, x.deferred, x.held, x.owner, x.lastTenant⟩

/-- The voices are granted what they were, the same steps are due, and no dwell begins or ends. -/
structure KeepsGrants (s t : State) : Prop where
  dues : t.dues = s.dues
  granted : ∀ v : VoiceId, t.voices[v].granted = s.voices[v].granted
  dwell : ∀ v : VoiceId, t.dueAt (.dwell v) = s.dueAt (.dwell v)

/-- The voice `v` is granted `c` in `t`, with the dues and the dwells of `s`. -/
structure Takes (v : VoiceId) (c : Granted) (s t : State) : Prop where
  dues : t.dues = s.dues
  granted : t.voices[v].granted = c
  dwell : ∀ w : VoiceId, t.dueAt (.dwell w) = s.dueAt (.dwell w)

section
variable {s t u : State}

theorem KeepsGrants.refl (s : State) : KeepsGrants s s := ⟨rfl, fun _ => rfl, fun _ => rfl⟩

theorem KeepsGrants.trans (h : KeepsGrants s t) (g : KeepsGrants t u) : KeepsGrants s u :=
  ⟨g.dues.trans h.dues, fun v => (g.granted v).trans (h.granted v), fun v => (g.dwell v).trans (h.dwell v)⟩

theorem KeepsGrants.ite {c : Prop} [Decidable c] (h : KeepsGrants s t) (g : KeepsGrants s u) : KeepsGrants s (if c then t else u) := by
  split
  · exact h
  · exact g

theorem SparesVoices.grants (h : SparesVoices s t) : KeepsGrants s t :=
  ⟨h.dues, fun v => by rw [h.voices], fun v => h.timers (.dwell v) rfl⟩

theorem Takes.grant_eq {v : VoiceId} {c : Granted} (h : Takes v c s t) : t.voices[v].grant = c.grant := congrArg Granted.grant h.granted
theorem Takes.deferred_eq {v : VoiceId} {c : Granted} (h : Takes v c s t) : t.voices[v].deferred = c.deferred :=
  congrArg Granted.deferred h.granted
theorem Takes.held_eq {v : VoiceId} {c : Granted} (h : Takes v c s t) : t.voices[v].held = c.held := congrArg Granted.held h.granted
theorem Takes.owner_eq {v : VoiceId} {c : Granted} (h : Takes v c s t) : t.voices[v].owner = c.owner := congrArg Granted.owner h.granted
theorem Takes.lastTenant_eq {v : VoiceId} {c : Granted} (h : Takes v c s t) : t.voices[v].lastTenant = c.lastTenant :=
  congrArg Granted.lastTenant h.granted

/-- A dwell that is over does not begin again. -/
theorem Takes.dwell_off {v : VoiceId} {c : Granted} (h : Takes v c (s.cancel (.dwell v)) t) : t.isArmed (.dwell v) = false := by
  rw [State.isArmed, h.dwell v, State.cancel_dueAt]
  rfl

theorem Takes.keeps {v : VoiceId} {c : Granted} (h : Takes v c s t) (g : KeepsGrants t u) : Takes v c s u :=
  ⟨g.dues.trans h.dues, (g.granted v).trans h.granted, fun w => (g.dwell w).trans (h.dwell w)⟩

theorem Takes.after {v : VoiceId} {c : Granted} (h : KeepsGrants s t) (g : Takes v c t u) : Takes v c s u :=
  ⟨g.dues.trans h.dues, g.granted, fun w => (g.dwell w).trans (h.dwell w)⟩

end

theorem State.setVoice_grants (s : State) (v : VoiceId) (f : Voice → Voice) (hf : ∀ x, (f x).granted = x.granted := by intro x; rfl) :
    KeepsGrants s (s.setVoice v f) := by
  refine ⟨rfl, fun w => ?_, fun _ => rfl⟩
  by_cases hw : w = v
  · subst hw
    simp [hf]
  · simp [State.setVoice_other s v w f hw]

theorem State.setVoice_takes (s : State) (v : VoiceId) (f : Voice → Voice) {c : Granted} (hc : (f s.voices[v]).granted = c := by rfl) :
    Takes v c s (s.setVoice v f) :=
  ⟨rfl, by simpa using hc, fun _ => rfl⟩

theorem State.wr_grants (s : State) (k x : Nat) : KeepsGrants s (s.wr k x) := ⟨rfl, fun _ => rfl, fun _ => rfl⟩

theorem State.wrAll_grants (s : State) (l : List (Nat × Nat)) : KeepsGrants s (s.wrAll l) := by
  rw [State.wrAll_eq]
  exact ⟨rfl, fun _ => rfl, fun _ => rfl⟩

theorem State.inc_grants (s : State) (k : Nat) : KeepsGrants s (s.inc k) := by
  unfold State.inc State.add
  exact .ite (s.wr_grants _ _) (s.wr_grants _ _)

/-- Setting a timer other than a dwell's. -/
theorem State.arm_grants (s : State) {tm : Timer} (due : Nat) (h : ∀ v : VoiceId, Timer.dwell v ≠ tm := by simp) :
    KeepsGrants s (s.arm tm due) :=
  ⟨rfl, fun _ => rfl, fun v => s.arm_dueAt_other due (h v)⟩

theorem State.armIn_grants (s : State) {tm : Timer} (us : Nat) (h : ∀ v : VoiceId, Timer.dwell v ≠ tm := by simp) :
    KeepsGrants s (s.armIn tm us) := s.arm_grants _ h

theorem State.cancel_grants (s : State) {tm : Timer} (h : ∀ v : VoiceId, Timer.dwell v ≠ tm := by simp) : KeepsGrants s (s.cancel tm) :=
  ⟨rfl, fun _ => rfl, fun v => s.cancel_dueAt_other (h v)⟩

theorem State.voiceEvent_grants (s : State) (v : VoiceId) (k : Nat) (l : List Tenant) (ch p : Nat) :
    KeepsGrants s (s.voiceEvent v k l ch p) := (s.raise_spares _ _ _).grants

/-! ### Selection and the up-ramp -/

theorem State.setBank1_grants (s : State) (ch : Nat) (b : TuningBank) : KeepsGrants s (s.setBank1 ch b) := s.setVoice_grants _ _
theorem State.loadBank_grants (s : State) (ch damping : Nat) : KeepsGrants s (s.loadBank ch damping) := s.setBank1_grants _ _

theorem State.unselect_grants (s : State) (v : VoiceId) : KeepsGrants s (s.unselect v) := by
  unfold State.unselect
  exact .trans (s.wr_grants _ _) (.ite (State.setBank1_grants _ _ _) (.refl _))

theorem State.rampUp_grants (s : State) (v : VoiceId) (g : Grant) : KeepsGrants s (s.rampUp v g) := by
  unfold State.rampUp
  refine .trans (.trans ?_ (State.armIn_grants _ _)) (.ite (.trans (State.inc_grants _ _) (State.voiceEvent_grants _ _ _ _ _ _)) (.refl _))
  exact (s.wr_grants _ _).trans (State.setVoice_grants _ _ _)

theorem State.raiseCarrier_grants (s : State) (v : VoiceId) : KeepsGrants s (s.raiseCarrier v) := by
  unfold State.raiseCarrier
  split
  · exact .refl s
  · exact .ite (.refl s) (.ite (.ite (s.rampUp_grants v _) (s.wr_grants _ _)) (.refl s))

/-- A voice whose connection is broken has no channel selected. -/
theorem State.rd_unselect_selected (s : State) (v : VoiceId) : (s.unselect v).rd (ob (0x2000 + v.val) 0x02) = 0xFF := by
  unfold State.unselect
  dsimp only
  split
  · exact State.rd_wr_self _ _ _
  · exact State.rd_wr_self _ _ _

/-! ### A grant taken up at the floor -/

/-- A grant that emits, taken up: the voice holds its channel for its tenant. -/
theorem State.takeUp_takes (s : State) (v : VoiceId) (g : Grant) :
    Takes v ⟨some g, none, some g.step.channel, some g.step.tenant, s.voices[v].lastTenant⟩ s (s.takeUp v g) := by
  unfold State.takeUp
  refine .keeps ?_ (.ite (State.armIn_grants _ _) (State.raiseCarrier_grants _ _))
  refine .keeps ?_ (.trans (.trans (.trans (State.letGo_spares _ _).grants (State.cancel_grants _)) (State.boostFollow_spares _).grants)
    (State.pauseDetection_spares _).grants)
  refine .keeps ?_ (.ite (State.unselect_grants _ _) (State.loadBank_grants _ _ _))
  exact .keeps (s.setVoice_takes v _) (State.wrAll_grants _ _)

/-- A grant that emits nothing, taken up: the voice holds no channel. -/
theorem State.takeQuiet_takes (s : State) (v : VoiceId) (g : Grant) :
    Takes v ⟨some g, none, none, some g.step.tenant, (s.unselect v).voices[v].lastTenant⟩ s (s.takeQuiet v g) := by
  unfold State.takeQuiet
  refine .keeps ?_ ((State.letGo_spares _ _).trans (State.boostFollow_spares _)).grants
  exact .keeps (.after (s.unselect_grants v) (State.setVoice_takes _ v _)) (State.wrAll_grants _ _)

/-- It is at FLOOR. -/
theorem State.takeQuiet_voiceState (s : State) (v : VoiceId) (g : Grant) : (s.takeQuiet v g).voiceState v = 0 := by
  unfold State.takeQuiet
  rw [((State.letGo_spares _ _).trans (State.boostFollow_spares _)).voiceState v]
  simp [State.voiceState, vi, State.rd_wr]

/-- It has no channel selected. -/
theorem State.takeQuiet_selected (s : State) (v : VoiceId) (g : Grant) : (s.takeQuiet v g).rd (ob (0x2000 + v.val) 0x02) = 0xFF := by
  unfold State.takeQuiet
  rw [((State.letGo_spares _ _).trans (State.boostFollow_spares _)).keeps _ (voiceKey_ob v (by decide))]
  simp [vi, State.rd_wr, State.rd_unselect_selected]

/-! ### A step granted (R71, R72) -/

@[simp] theorem State.grantOf_step (s : State) (d : DueStep) : (s.grantOf d).step = d := rfl

/-- A down-ramp reversed into a grant. -/
theorem State.reverse_takes (s : State) (v : VoiceId) (g : Grant) (k : Nat) :
    Takes v ⟨some g, s.voices[v].deferred, s.voices[v].held, some g.step.tenant, s.voices[v].lastTenant⟩ s (s.reverse v g k) := by
  unfold State.reverse
  refine .keeps ?_ (State.arm_grants _ _)
  refine .keeps ?_ (.ite (.trans (State.inc_grants _ _) (State.voiceEvent_grants _ _ _ _ _ _)) (.refl _))
  refine .keeps ?_ (.trans (.trans (State.inc_grants _ _) (State.voiceEvent_grants _ _ _ _ _ _)) (State.boostFollow_spares _).grants)
  refine .keeps ?_ (.trans (State.loadBank_grants _ _ _) (State.wrAll_grants _ _))
  exact .after (State.cancel_grants s) (State.setVoice_takes _ v _)

/-- A chosen step granted: the voice's grant or its deferred grant is that step (R71, R72). -/
theorem State.grant_takes (s : State) (v : VoiceId) (d : DueStep) (he : d.emits = true) :
    ∃ c : Granted, Takes v c (s.takeDue v d) (s.grant v d) ∧ c.lastTenant = (s.takeDue v d).voices[v].lastTenant ∧
      (c.grant = some (s.grantOf d) ∨ c.deferred = some (s.grantOf d)) := by
  simp only [State.grant, he, if_true]
  split
  · split
    · exact ⟨_, State.reverse_takes _ v _ _, rfl, .inl rfl⟩
    · refine ⟨_, .keeps (.keeps (State.setVoice_takes _ v _) (.trans (State.inc_grants _ _) (State.voiceEvent_grants _ _ _ _ _ _)))
        (.trans (.trans (State.wrAll_grants _ _) (State.boostFollow_spares _).grants) (State.pauseDetection_spares _).grants),
        rfl, .inr rfl⟩
  · exact ⟨_, State.takeUp_takes _ v _, rfl, .inl rfl⟩

/-- A step taken off the list at its grant is due no longer, and its tenant is the one last served (R157). -/
theorem State.takeDue_not_due (s : State) (v : VoiceId) (d : DueStep) : ∀ x ∈ (s.takeDue v d).dues, x.same d = false := by
  intro x hx
  simpa using (List.mem_filter.1 hx).2

theorem State.takeDue_lastTenant (s : State) (v : VoiceId) (d : DueStep) : (s.takeDue v d).voices[v].lastTenant = d.tenant := by
  simp [State.takeDue]

/-! ### The commands -/

/-- VOICE_GRANT with a step chosen for a free voice ends the step or grants it, as the checks of its dispatch say (R157). -/
theorem exec_voiceGrant_chosen {s s0 w : State} {v : VoiceId} {d : DueStep}
    (hs0 : s0 = if s.up && s.linkReady .field then s.loadLimits else s)
    (h7 : s0.voiceState v ≠ 7) (h8 : s0.voiceState v ≠ 8) (hg : s0.granting = true) (hf : s0.voiceFree v = true)
    (hc : s0.choose v ((s0.dueOrder v).filter (fun d => !s0.tuningBlocked d)) = (some d, w)) :
    exec (.voiceGrant v) s = match w.dispatchEnd d with
      | some e => .next (w.endDue d e).settle
      | none => .next (if d.emits || (w.grant v d).voices[v].grant.isNone then w.grant v d else (w.grant v d).quietRun v).settle := by
  subst hs0
  change execVoiceGrant v s = _
  unfold execVoiceGrant
  simp only [h7, h8, hg, hf, hc, if_false, Bool.and_self, if_true]
  cases w.dispatchEnd d with
  | some e => rfl
  | none => exact (apply_ite done _ _ _).symm

/-- A step of a score emits. -/
theorem DueStep.emits_of_step {d : DueStep} (h : d.tuning = none) : d.emits = true := by simp [DueStep.emits, h]

/-- FLOOR_DWELL_ELAPSED takes the deferred grant up (R71). -/
theorem exec_floorDwellElapsed {s : State} {v : VoiceId} {g : Grant} (hg : s.voices[v].deferred = some g) (h6 : s.voiceState v = 6)
    (hdue : s.isDue (.dwell v) = true) :
    exec (.floorDwellElapsed v) s = .next (if g.step.emits then (s.cancel (.dwell v)).takeUp v g
      else ((s.cancel (.dwell v)).takeQuiet v g).quietRun v).settle := by
  change execFloorDwellElapsed v s = _
  simp only [execFloorDwellElapsed, hg, h6, hdue, and_self, if_true]
  rfl

/-- Settles O27, clause by clause: a step chosen and granted or ended, the steps of a HALTED or DISABLED voice, the selected channel, and
the deferred grant after the floor dwell. -/
theorem voiceGrantAndSelection : Obligations.VoiceGrantAndSelection := by
  unfold Obligations.VoiceGrantAndSelection
  refine ⟨?granted, ?ended, ?stopped, ?selected, ?unselected, ?quiet, ?taken⟩
  case granted =>
    rintro s w v d ⟨h7, h8, hg, hf, hc, hend, htun⟩
    have hemits := DueStep.emits_of_step htun
    obtain ⟨c, ht, hlast, hstep⟩ := w.grant_takes v d hemits
    have hset := ht.keeps (State.settle_spares _).grants
    refine ⟨(w.grant v d).settle, ?_, ?_, ?_, ?_⟩
    · simpa [hend, hemits] using exec_voiceGrant_chosen rfl h7 h8 hg hf hc
    · rw [hset.dues]
      exact w.takeDue_not_due v d
    · exact (hset.lastTenant_eq.trans hlast).trans (w.takeDue_lastTenant v d)
    · exact hstep.imp (fun h => ⟨_, hset.grant_eq.trans h, w.grantOf_step d⟩)
        (fun h => ⟨_, hset.deferred_eq.trans h, w.grantOf_step d⟩)
  case ended =>
    rintro s w v d e ⟨h7, h8, hg, hf, hc, hend⟩
    simpa [Ends, hend] using exec_voiceGrant_chosen rfl h7 h8 hg hf hc
  case stopped =>
    intro s v hlink hstate
    change execVoiceGrant v s = _
    simp only [execVoiceGrant, hlink, Bool.and_false, Bool.false_eq_true, if_false]
    obtain h | h := hstate <;> simp [h, done_eq]
  case selected =>
    intro s v g hg hsel
    refine ⟨(s.cancel (.select v)).setVoice v (fun x => { x with selecting := false }), _,
      ((s.cancel_changes _).trans (State.setVoice_changes _ _ _)).mono (by simp) (by simp), ?_, ?_, ?_, rfl, ?_, ?_⟩
    · simp
    · intro x hx
      exact State.setVoice_other _ v x _ hx
    · exact State.cancel_isArmed s _
    · exact State.rd_wr_self _ _ _
    · change execChannelSelected v s = _
      simp only [execChannelSelected, hg, hsel, if_true]
      rfl
  case unselected =>
    intro s v h
    change execChannelSelected v s = _
    unfold execChannelSelected
    cases hg : s.voices[v].grant with
    | none => rfl
    | some g =>
      have hsel : s.voices[v].selecting = false := h.resolve_left (by rw [hg]; exact Option.some_ne_none g)
      change (if s.voices[v].selecting = true then _ else done s) = _
      rw [hsel]
      rfl
  case quiet =>
    intro s v g hg h6 hdue hemits
    have ht := (s.cancel (.dwell v)).takeQuiet_takes v g
    refine ⟨_, ?_, ht.grant_eq, ht.deferred_eq,
      ht.held_eq, ht.owner_eq, State.takeQuiet_voiceState _ v g,
      State.takeQuiet_selected _ v g, ht.dwell_off⟩
    simpa [Ends, hemits] using exec_floorDwellElapsed hg h6 hdue
  case taken =>
    intro s v g hg h6 hdue hemits
    have ht := ((s.cancel (.dwell v)).takeUp_takes v g).keeps (State.settle_spares _).grants
    refine ⟨((s.cancel (.dwell v)).takeUp v g).settle, ?_, ht.grant_eq, ht.deferred_eq,
      ht.held_eq, ht.owner_eq, ht.dwell_off⟩
    simpa [hemits] using exec_floorDwellElapsed hg h6 hdue

end Sys2Proof.Machine
end
section
/-! PROOFS. The boost's sequence (R63, R64, R66): the statement `BoostSequence`. -/

namespace Sys2Proof.Machine

/-- The device time does not change with what a frame names, unless it names the time base, the running state or the rate correction. -/
theorem Changes.now {ps : List Part} {ks : List Nat} {s t : State} (h : Changes ps ks s t) (hp : Part.time ∉ ps)
    (hr : ob 0x1020 0x01 ∉ ks) (hc : ob 0x1100 0x03 ∉ ks) : t.now = s.now :=
  State.now_congr (h.same hp) (h.rd hr) (h.rd hc)

/-- Cancelling a timer sets no other. -/
theorem State.cancel_isArmed_of {s : State} {tm um : Timer} (h : s.isArmed um = false) : (s.cancel tm).isArmed um = false := by
  by_cases e : um = tm
  · subst e
    exact s.cancel_isArmed um
  · rwa [State.isArmed, s.cancel_dueAt_other e]

theorem State.arm_isArmed_of {s : State} {tm um : Timer} (due : Nat) (hne : um ≠ tm) (h : s.isArmed um = false) :
    (s.arm tm due).isArmed um = false := by
  rwa [State.isArmed, s.arm_dueAt_other due hne]

theorem State.withPins_changes (s : State) (p : Pins) : Changes [.pins] [] s { s with pins := p } := by
  refine ⟨rfl, fun q hq => ?_, fun _ _ => rfl⟩
  cases q <;> first | rfl | simp at hq

/-- The voices at FLOOR or DISABLED are quiet. -/
theorem State.voicesQuiet_of {s : State} (h : ∀ v : VoiceId, s.voiceState v = 0 ∨ s.voiceState v = 8) : s.voicesQuiet = true := by
  simpa [State.voicesQuiet] using fun v _ => h v

/-! ### READY -/

/-- VFLD within 3 % of the setpoint (R63). -/
theorem exec_boostReady {s : State} {mv : Nat} (hb : s.boost = 1 ∨ s.boost = 3) (hlo : 97 * s.rd (ob 0x2010 0x02) ≤ 100 * mv)
    (hhi : 100 * mv ≤ 103 * s.rd (ob 0x2010 0x02)) :
    exec (.boostReady mv) s = .next (((((s.cancel .boostStart).cancel .boostSlew).wrAll
      [(ob 0x2010 0x01, 2), (ob 0x2010 0x03, mv)]).raise 816 [0] []).liftWaiting).boostFollow.settle := by
  have hnear : 100 * (if mv ≤ s.rd (ob 0x2010 0x02) then s.rd (ob 0x2010 0x02) - mv else mv - s.rd (ob 0x2010 0x02)) ≤
      3 * s.rd (ob 0x2010 0x02) := by split <;> omega
  exact if_pos ⟨hb, decide_eq_true hnear⟩

/-! ### FAILED -/

/-- The state in which a failure of the boost is reported: FAILED with its cause, counted, VFLD_EN low and the switch open (R66). -/
def State.boostFailed (s : State) (cause mv : Nat) : State :=
  let s := (((s.cancel .boostStart).cancel .boostSlew).cancel .boostHold).cancel .boostStop
  let s := (s.wrAll [(ob 0x2010 0x01, 5), (ob 0x2010 0x03, mv), (ob 0x2010 0x0A, cause)]).inc (ob 0x2010 0x08)
  { s with pins := { s.pins with vfldEn := false, discharge := false } }

theorem State.boostFailed_changes (s : State) (cause mv : Nat) :
    Changes [.timers, .pins] [ob 0x2010 0x01, ob 0x2010 0x03, ob 0x2010 0x0A, ob 0x2010 0x08] s (s.boostFailed cause mv) := by
  refine (((((((s.cancel_changes .boostStart).trans (State.cancel_changes _ .boostSlew)).trans (State.cancel_changes _ .boostHold)).trans
    (State.cancel_changes _ .boostStop)).trans (State.wrAll_changes _ _)).trans (State.inc_changes _ _)).trans
    (State.withPins_changes _ _)).mono (by simp) (by simp)

/-- What the failure stores beside the count. -/
theorem State.rd_boostFailed (s : State) (cause mv : Nat) :
    (s.boostFailed cause mv).boost = 5 ∧ (s.boostFailed cause mv).rd (ob 0x2010 0x03) = mv ∧
      (s.boostFailed cause mv).rd (ob 0x2010 0x0A) = cause := by
  refine ⟨?_, ?_, ?_⟩ <;> refine (State.rd_inc_other _ (by simp)).trans ?_ <;> simp [State.rd_wr]

theorem State.boostFailed_pins (s : State) (cause mv : Nat) :
    (s.boostFailed cause mv).pins = { s.pins with vfldEn := false, discharge := false } := by
  simp [State.boostFailed]

/-- The failure is counted. -/
theorem State.rd_boostFailed_count (s : State) (cause mv : Nat) (h : s.rd (ob 0x2010 0x08) + 1 < 2 ^ 16) :
    (s.boostFailed cause mv).rd (ob 0x2010 0x08) = s.rd (ob 0x2010 0x08) + 1 := by
  have hbits : Dict.bits (ob 0x2010 0x08) = 16 := by decide
  have hrd : (((((s.cancel .boostStart).cancel .boostSlew).cancel .boostHold).cancel .boostStop).wrAll
      [(ob 0x2010 0x01, 5), (ob 0x2010 0x03, mv), (ob 0x2010 0x0A, cause)]).rd (ob 0x2010 0x08) = s.rd (ob 0x2010 0x08) := by
    simp [State.rd_wr]
  refine (State.rd_inc_self _ _ ?_).trans (by rw [hrd])
  rwa [hrd, hbits]

theorem State.failBoost_eq (s : State) (cause mv : Nat) :
    s.failBoost cause mv = voiceIds.foldl (fun s v => s.dropVoice v 0x13)
      (if cause = 3 then ((s.boostFailed cause mv).fault 20 cause).raise 818 [0] []
        else (((s.boostFailed cause mv).fault 20 cause).raise 818 [0] []).causeEnd 20) := rfl

/-- A start or a slew that takes too long, and VFLD too high or too low: each of the four commands fails the boost with its cause. -/
theorem exec_boostFailure {s : State} {c : Instr} {cause mv : Nat}
    (h : (c = .boostStartTimeout ∧ s.isDue .boostStart = true ∧ s.boost = 1 ∧ cause = 1 ∧ mv = s.rd (ob 0x2010 0x03)) ∨
     (c = .boostSlewTimeout ∧ s.isDue .boostSlew = true ∧ s.boost = 3 ∧ cause = 2 ∧ mv = s.rd (ob 0x2010 0x03)) ∨
     (c = .vfldOvervoltage mv ∧ s.rd (ob 0x2010 0x05) + 600 < mv ∧ s.boost ≠ 5 ∧ cause = 3) ∨
     (c = .vfldUndervoltage mv ∧ mv < 4000 ∧ (∃ v : VoiceId, s.emitting v = true) ∧ s.boost ≠ 5 ∧ cause = 4)) :
    Ends c s (s.failBoost cause mv) := by
  obtain ⟨rfl, hdue, hb, rfl, rfl⟩ | ⟨rfl, hdue, hb, rfl, rfl⟩ | ⟨rfl, hmv, hb, rfl⟩ | ⟨rfl, hmv, ⟨v, hv⟩, hb, rfl⟩ := h
  · exact if_pos ⟨hdue, hb⟩
  · exact if_pos ⟨hdue, hb⟩
  · exact if_pos ⟨hmv, hb⟩
  · exact if_pos ⟨hmv, List.any_eq_true.2 ⟨v, List.mem_finRange v, hv⟩, hb⟩

/-- Settles O29: READY, the hold-off, the stop and the failures of the boost. -/
theorem boostSequence : Obligations.BoostSequence := by
  unfold Obligations.BoostSequence
  refine ⟨?ready, ?holdOff, ?stop, ?failure⟩
  case ready =>
    intro s mv hb hlo hhi
    refine ⟨((s.cancel .boostStart).cancel .boostSlew).wrAll [(ob 0x2010 0x01, 2), (ob 0x2010 0x03, mv)],
      (((s.cancel_changes _).trans (State.cancel_changes _ _)).trans (State.wrAll_changes _ _)).mono (by simp) (by simp), ?_, ?_, ?_, ?_,
      exec_boostReady hb hlo hhi⟩
    · simp [State.boost, State.rd_wr]
    · simp
    · exact State.cancel_isArmed_of (s.cancel_isArmed _)
    · exact State.cancel_isArmed _ _
  case holdOff =>
    intro s hdue hquiet hb
    have hon : (s.boost == 1 || s.boost == 2 || s.boost == 3) = true := by simpa [or_assoc] using hb
    refine ⟨_, if_pos (by rw [hdue, s.voicesQuiet_of hquiet, hon]; rfl), ?_, ?_, rfl, ?_, ?_⟩
    · exact ((((((s.cancel_changes _).trans (State.cancel_changes _ _)).trans (State.cancel_changes _ _)).trans
        (State.withPins_changes _ _)).trans (State.wr_changes _ _ _)).trans (State.armIn_changes _ _ _)).mono (by simp) (by simp)
    · rw [State.boost, State.rd_armIn, State.rd_wr_self]
    · refine (State.arm_dueAt _ _ _).trans ?_
      rw [State.now_wr _ _ (by simp) (by simp)]
      rfl
    · exact State.arm_isArmed_of _ (by simp) (State.cancel_isArmed_of (State.cancel_isArmed_of (s.cancel_isArmed _)))
  case stop =>
    intro s mv hb hlow
    refine ⟨(({ s with pins := { s.pins with discharge := false } } : State).cancel .boostStop).wrAll
        [(ob 0x2010 0x01, 0), (ob 0x2010 0x03, mv)],
      if_pos ⟨hb, hlow⟩, ?_, ?_, ?_, rfl, ?_⟩
    · exact (((s.withPins_changes _).trans (State.cancel_changes _ _)).trans (State.wrAll_changes _ _)).mono (by simp) (by simp)
    · simp [State.boost, State.rd_wr]
    · simp
    · exact State.cancel_isArmed _ _
  case failure =>
    intro s c cause mv h
    obtain ⟨hboost, hmv, hcause⟩ := s.rd_boostFailed cause mv
    have hends := exec_boostFailure h
    rw [State.failBoost_eq] at hends
    exact ⟨s.boostFailed cause mv, ((s.boostFailed cause mv).fault 20 cause).raise 818 [0] [], s.boostFailed_changes cause mv, hboost,
      hmv, hcause, s.rd_boostFailed_count cause mv, s.boostFailed_pins cause mv, rfl, hends⟩

end Sys2Proof.Machine
end
section
/-! PROOFS. Ramps, settling and the way back to the floor (R69 to R71, R565): the statement `VoiceRamps`. -/

namespace Sys2Proof.Machine

/-! ### Up-ramps, slews, settling -/

theorem State.setVoiceState_changes (s : State) (v : VoiceId) (n : Nat) : Changes [] [ob (0x2000 + v.val) 0x01] s (s.setVoiceState v n) :=
  s.wr_changes _ n

theorem State.voiceState_setVoiceState (s : State) (v : VoiceId) (n : Nat) : (s.setVoiceState v n).voiceState v = n :=
  State.rd_wr_self _ _ _

/-! The device time is not read from a voice's record. -/

theorem runState_not_voiceKey (v : VoiceId) {n : Nat} (hn : n < 256) : ob 0x1020 0x01 ≠ ob (0x2000 + v.val) n := by
  rw [Ne, ob_inj (by decide) hn]
  omega

theorem rate_not_voiceKey (v : VoiceId) {n : Nat} (hn : n < 256) : ob 0x1100 0x03 ≠ ob (0x2000 + v.val) n := by
  rw [Ne, ob_inj (by decide) hn]
  omega

theorem State.now_setVoiceState (s : State) (v : VoiceId) (n : Nat) : (s.setVoiceState v n).now = s.now :=
  s.now_wr n (runState_not_voiceKey v (by decide)) (rate_not_voiceKey v (by decide))

/-- The voice settles for the grant's settling time, once the timer that ended is cancelled. -/
def State.settling (s : State) (v : VoiceId) (g : Grant) (tm : Timer) : State :=
  ((s.cancel tm).setVoiceState v 3).armIn (.settle v) g.settle

theorem State.settling_changes (s : State) (v : VoiceId) (g : Grant) (tm : Timer) :
    Changes [.timers] [ob (0x2000 + v.val) 0x01] s (s.settling v g tm) :=
  ((s.cancel_changes tm).trans (State.setVoiceState_changes _ v 3)).trans (State.armIn_changes _ _ _) |>.mono (by simp) (by simp)

theorem State.settling_voiceState (s : State) (v : VoiceId) (g : Grant) (tm : Timer) : (s.settling v g tm).voiceState v = 3 :=
  State.rd_wr_self _ _ _

theorem State.settling_dueAt (s : State) (v : VoiceId) (g : Grant) (tm : Timer) :
    (s.settling v g tm).dueAt (.settle v) = some (s.now + g.settle) := by
  refine (State.arm_dueAt _ _ _).trans ?_
  rw [State.now_setVoiceState]
  rfl

theorem State.settling_isArmed (s : State) (v : VoiceId) (g : Grant) {tm : Timer} (h : tm ≠ .settle v) :
    (s.settling v g tm).isArmed tm = false := State.arm_isArmed_of _ h (s.cancel_isArmed tm)

/-! ### The account of an emission -/

theorem dict_bits_carrierTime (v : VoiceId) : Dict.bits (ob (0x2000 + v.val) 0x0D) = 64 := by revert v; decide
theorem dict_bits_channelTime (ch : Channel) : Dict.bits (ob (0x2100 + ch.val) 0x0B) = 64 := by revert ch; decide
theorem dict_bits_tenantEnergy (o : Tenant) : Dict.bits (obT 0x1071 0x01 o) = 64 := by revert o; decide

theorem obT_ne_ob {i j a b : Nat} (t : Tenant) (ha : a < 256) (hb : b < 256) (h : i ≠ j) : obT i a t ≠ ob j b := by
  intro e
  have hk := congrArg keyIndex e
  rw [keyIndex_obT t ha, keyIndex_ob hb] at hk
  exact h hk

/-- The state after the time of an emission of voice `v` since `a` is added to the voice and to its channel `ch` (Tables 3-5, 3-6). -/
def State.emissionTimed (s : State) (v : VoiceId) (ch : Channel) (a : Nat) : State :=
  ((((s.cancel (.rampDown v)).add (ob (0x2000 + v.val) 0x0D) (s.now - a)).add (ob (0x2100 + ch.val) 0x0B) (s.now - a)).wr
    (ob (0x2100 + ch.val) 0x0C) s.now).setVoice v (fun x => { x with emitAt := none })

/-- The state after its energy is charged to the tenant `o` as well (R565, R566). -/
def State.emissionCounted (s : State) (v : VoiceId) (ch : Channel) (o : Tenant) (a energy : Nat) : State :=
  ((s.emissionTimed v ch a).add (ob 0x1070 0x03) energy).add (obT 0x1071 0x01 o) energy

theorem State.emissionTimed_changes (s : State) (v : VoiceId) (ch : Channel) (a : Nat) :
    Changes [.timers, .voices] [ob (0x2000 + v.val) 0x0D, ob (0x2100 + ch.val) 0x0B, ob (0x2100 + ch.val) 0x0C] s
      (s.emissionTimed v ch a) :=
  (((((s.cancel_changes _).trans (State.add_changes _ _ _)).trans (State.add_changes _ _ _)).trans (State.wr_changes _ _ _)).trans
    (State.setVoice_changes _ _ _)).mono (by simp) (by simp)

theorem State.emissionCounted_changes (s : State) (v : VoiceId) (ch : Channel) (o : Tenant) (a energy : Nat) :
    Changes [.timers, .voices] [ob (0x2000 + v.val) 0x0D, ob (0x2100 + ch.val) 0x0B, ob (0x2100 + ch.val) 0x0C, ob 0x1070 0x03,
      obT 0x1071 0x01 o] s (s.emissionCounted v ch o a energy) :=
  (((s.emissionTimed_changes v ch a).trans (State.add_changes _ _ _)).trans (State.add_changes _ _ _)).mono (by simp) (by simp)

theorem State.emissionTimed_voice (s : State) (v : VoiceId) (ch : Channel) (a : Nat) :
    (s.emissionTimed v ch a).voices[v] = { s.voices[v] with emitAt := none } := by
  simp [State.emissionTimed]

theorem State.emissionCounted_voice (s : State) (v : VoiceId) (ch : Channel) (o : Tenant) (a energy : Nat) :
    (s.emissionCounted v ch o a energy).voices[v] = { s.voices[v] with emitAt := none } := by
  rw [State.emissionCounted, State.add_voices, State.add_voices, State.emissionTimed_voice]

/-- Counting comes first at the end of a down-ramp. -/
theorem State.countCarrier_eq {s : State} {v : VoiceId} {ch : Channel} {a : Nat} (hh : s.voices[v].held = some ch.val)
    (ha : s.voices[v].emitAt = some a) : (s.cancel (.rampDown v)).countCarrier v = s.emissionTimed v ch a := by
  have hnow : (((s.cancel (.rampDown v)).add (ob (0x2000 + v.val) 0x0D) (s.now - a)).add
      (ob (0x2100 + ch.val) 0x0B) (s.now - a)).now = s.now :=
    (((s.cancel_changes _).trans (State.add_changes _ _ _)).trans (State.add_changes _ _ _)).now (by simp) (by simp) (by simp)
  have hc : (s.cancel (.rampDown v)).now = s.now := rfl
  simp only [State.countCarrier, State.cancel_voices, hh, ha, vi, hc, hnow, State.emissionTimed]

/-- Charging follows. -/
theorem State.chargeEnergy_emissionTimed {s : State} {v : VoiceId} {ch : Channel} {o : Tenant} {a energy : Nat}
    (ho : s.voices[v].owner = some o) : (s.emissionTimed v ch a).chargeEnergy v energy = s.emissionCounted v ch o a energy := by
  simp only [State.chargeEnergy, State.add_voices, State.emissionTimed_voice, ho, State.emissionCounted]

section
variable {s : State} {v : VoiceId} {ch : Channel} {o : Tenant} {a energy : Nat}

/-- The keys of the energy are none of the others. -/
theorem State.rd_emissionCounted_of_ne {i n : Nat} (hn : n < 256) (h0 : i ≠ 0x1070) (h1 : i ≠ 0x1071) :
    (s.emissionCounted v ch o a energy).rd (ob i n) = (s.emissionTimed v ch a).rd (ob i n) := by
  rw [State.emissionCounted, State.rd_add_other _ _ (obT_ne_ob o (by decide) hn h1.symm).symm,
    State.rd_add_other _ _ (by rw [Ne, ob_inj hn (by decide)]; exact fun e => h0 e.1)]

/-- The emission's time is added to the voice's. -/
theorem State.rd_emissionCounted_voice (h : s.rd (ob (0x2000 + v.val) 0x0D) + (s.now - a) < 2 ^ 64) :
    (s.emissionCounted v ch o a energy).rd (ob (0x2000 + v.val) 0x0D) = s.rd (ob (0x2000 + v.val) 0x0D) + (s.now - a) := by
  rw [State.rd_emissionCounted_of_ne (by decide) (by omega) (by omega), State.emissionTimed, State.rd_setVoice,
    State.rd_wr_other _ _ (by simp), State.rd_add_other _ _ (by simp), State.rd_add_self, State.rd_cancel]
  rwa [dict_bits_carrierTime]

/-- It is added to the channel's. -/
theorem State.rd_emissionCounted_channel (h : s.rd (ob (0x2100 + ch.val) 0x0B) + (s.now - a) < 2 ^ 64) :
    (s.emissionCounted v ch o a energy).rd (ob (0x2100 + ch.val) 0x0B) = s.rd (ob (0x2100 + ch.val) 0x0B) + (s.now - a) := by
  have hrd : ((s.cancel (.rampDown v)).add (ob (0x2000 + v.val) 0x0D) (s.now - a)).rd (ob (0x2100 + ch.val) 0x0B) =
      s.rd (ob (0x2100 + ch.val) 0x0B) := State.rd_add_other _ _ (by simp)
  rw [State.rd_emissionCounted_of_ne (by decide) (by omega) (by omega), State.emissionTimed, State.rd_setVoice,
    State.rd_wr_other _ _ (by simp), State.rd_add_self, hrd]
  rwa [hrd, dict_bits_channelTime]

/-- The voice's other objects stay as they are. -/
theorem State.rd_emissionCounted_other {n : Nat} (hn : n < 256) (h : n ≠ 0x0D) :
    (s.emissionCounted v ch o a energy).rd (ob (0x2000 + v.val) n) = s.rd (ob (0x2000 + v.val) n) := by
  rw [State.rd_emissionCounted_of_ne hn (by omega) (by omega)]
  refine (s.emissionTimed_changes v ch a).rd ?_
  simp only [List.mem_cons, List.not_mem_nil, or_false, not_or, ob_inj hn (show 0x0D < 256 by decide),
    ob_inj hn (show 0x0B < 256 by decide), ob_inj hn (show 0x0C < 256 by decide)]
  omega

/-- The channel's last emission ends now. -/
theorem State.rd_emissionCounted_end : (s.emissionCounted v ch o a energy).rd (ob (0x2100 + ch.val) 0x0C) = s.now := by
  rw [State.rd_emissionCounted_of_ne (by decide) (by omega) (by omega), State.emissionTimed, State.rd_setVoice, State.rd_wr_self]

/-- The energy is added to the VFLD total. -/
theorem State.rd_emissionCounted_total (h : s.rd (ob 0x1070 0x03) + energy < 2 ^ 64) :
    (s.emissionCounted v ch o a energy).rd (ob 0x1070 0x03) = s.rd (ob 0x1070 0x03) + energy := by
  have hrd : (s.emissionTimed v ch a).rd (ob 0x1070 0x03) = s.rd (ob 0x1070 0x03) := (s.emissionTimed_changes v ch a).rd (by simp)
  have hbits : Dict.bits (ob 0x1070 0x03) = 64 := by decide
  rw [State.emissionCounted, State.rd_add_other _ _ (obT_ne_ob o (by decide) (by decide) (by decide)).symm, State.rd_add_self, hrd]
  rwa [hrd, hbits]

/-- The energy is charged to the tenant. -/
theorem State.rd_emissionCounted_tenant (h : s.rd (obT 0x1071 0x01 o) + energy < 2 ^ 64) :
    (s.emissionCounted v ch o a energy).rd (obT 0x1071 0x01 o) = s.rd (obT 0x1071 0x01 o) + energy := by
  have hne : ∀ {j b : Nat}, b < 256 → 0x1071 ≠ j → obT 0x1071 0x01 o ≠ ob j b := fun hb hj => obT_ne_ob o (by decide) hb hj
  have hrd : ((s.emissionTimed v ch a).add (ob 0x1070 0x03) energy).rd (obT 0x1071 0x01 o) = s.rd (obT 0x1071 0x01 o) := by
    rw [State.rd_add_other _ _ (hne (by decide) (by decide))]
    refine (s.emissionTimed_changes v ch a).rd ?_
    simp only [List.mem_cons, List.not_mem_nil, or_false, not_or]
    exact ⟨hne (by decide) (by omega), hne (by decide) (by omega), hne (by decide) (by omega)⟩
  rw [State.emissionCounted, State.rd_add_self, hrd]
  rwa [hrd, dict_bits_tenantEnergy]

end

/-! ### At the floor -/

/-- AT_FLOOR, to the tenant of the emission with its channel and drive (R474). -/
theorem State.atFloor_eq {s : State} {v : VoiceId} {ch : Channel} {o : Tenant} (hh : s.voices[v].held = some ch.val)
    (ho : s.voices[v].owner = some o) :
    s.atFloor v = s.raise (769 + 12 * v.val) [o] (u8 ch.val ++ u16 (milliwatts s.voices[v].drive)) := by
  have hn : 768 + 12 * v.val + 1 = 769 + 12 * v.val := by omega
  simp only [State.atFloor, State.voiceEvent, hh, ho, hn]

/-- The state after an emission is counted, charged and announced, and its tuning, if its runs are over, APPLYING (Table 8-5). -/
def State.emissionEnded (s : State) (v : VoiceId) (ch : Channel) (o : Tenant) (a energy : Nat) : State :=
  ((s.emissionCounted v ch o a energy).raise (769 + 12 * v.val) [o] (u8 ch.val ++ u16 (milliwatts s.voices[v].drive))).applying v

theorem State.emissionEnded_spares (s : State) (v : VoiceId) (ch : Channel) (o : Tenant) (a energy : Nat) :
    SparesVoices (s.emissionCounted v ch o a energy) (s.emissionEnded v ch o a energy) :=
  (State.raise_spares _ _ _ _).trans (State.applying_spares _ v)

theorem State.emissionEnded_deferred (s : State) (v : VoiceId) (ch : Channel) (o : Tenant) (a energy : Nat) :
    (s.emissionEnded v ch o a energy).voices[v].deferred = s.voices[v].deferred := by
  rw [(s.emissionEnded_spares v ch o a energy).voices, State.emissionCounted_voice]

theorem State.rd_emissionEnded (s : State) (v : VoiceId) (ch : Channel) (o : Tenant) (a energy : Nat) {n : Nat} (hn : n < 256)
    (h : n ≠ 0x0D) : (s.emissionEnded v ch o a energy).rd (ob (0x2000 + v.val) n) = s.rd (ob (0x2000 + v.val) n) :=
  ((s.emissionEnded_spares v ch o a energy).keeps _ (voiceKey_ob v hn)).trans (State.rd_emissionCounted_other hn h)

/-- A voice come to the floor with no grant, before its channels are let go: DISABLED where it is switched off (R55, R76). -/
def State.floored (s : State) (v : VoiceId) : State :=
  ((s.unselect v).setVoice v (fun x => { x with
      grant := none, deferred := none, held := none, also := [], owner := none, drive := 0,
      session := none, exchange := none, selecting := false, disable := false, emitAt := none })).wrAll
    [(ob (vi v) 0x01, if s.rd (ob (vi v) 0x03) == 0 then 8 else 0), (ob (vi v) 0x06, 0), (ob (vi v) 0x07, 0), (ob (vi v) 0x08, 0xFF)]

/-- What follows spares the voices. -/
theorem State.reachFloor_spares (s : State) (v : VoiceId) : SparesVoices (s.floored v) (s.reachFloor v) :=
  (((State.fieldStopped_spares _).trans (State.letGo_spares _ _)).trans (State.boostFollow_spares _)).trans (State.boostIdle_spares _)

theorem State.floored_voiceState (s : State) (v : VoiceId) :
    (s.floored v).voiceState v = if s.rd (ob (0x2000 + v.val) 0x03) = 0 then 8 else 0 := by
  simp [State.floored, State.voiceState, vi, State.rd_wr]

theorem State.floored_selected (s : State) (v : VoiceId) : (s.floored v).rd (ob (0x2000 + v.val) 0x02) = 0xFF := by
  simp [State.floored, vi, State.rd_wr, State.rd_unselect_selected]

theorem State.floored_power (s : State) (v : VoiceId) : (s.floored v).rd (ob (0x2000 + v.val) 0x06) = 0 := by
  simp [State.floored, vi, State.rd_wr]

theorem State.floored_voice (s : State) (v : VoiceId) : (s.floored v).voices[v].grant = none ∧ (s.floored v).voices[v].held = none := by
  simp [State.floored]

/-- The voice dwells at the floor before its deferred grant `g`, the channels held (R71). -/
def State.dwelling (s : State) (v : VoiceId) (g : Grant) : State :=
  let s := s.setVoice v (fun x => { x with grant := none, session := none, exchange := none, drive := 0, emitAt := none })
  let s := s.wrAll [(ob (vi v) 0x01, 6), (ob (vi v) 0x06, 0), (ob (vi v) 0x07, g.vreq)]
  s.armIn (.dwell v) (s.rd (ob (vi v) 0x05))

theorem State.dwelling_voiceState (s : State) (v : VoiceId) (g : Grant) : (s.dwelling v g).voiceState v = 6 := by
  simp [State.dwelling, State.voiceState, State.rd_wr, vi]

theorem State.dwelling_vreq (s : State) (v : VoiceId) (g : Grant) : (s.dwelling v g).rd (ob (0x2000 + v.val) 0x07) = g.vreq := by
  simp [State.dwelling, State.rd_wr, vi]

theorem State.dwelling_dueAt (s : State) (v : VoiceId) (g : Grant) :
    (s.dwelling v g).dueAt (.dwell v) = some (s.now + s.rd (ob (0x2000 + v.val) 0x05)) := by
  have hframe := (s.setVoice_changes v (fun x =>
    { x with grant := none, session := none, exchange := none, drive := 0, emitAt := none })).trans
    (State.wrAll_changes _ [(ob (vi v) 0x01, 6), (ob (vi v) 0x06, 0), (ob (vi v) 0x07, g.vreq)])
  have hnow := hframe.now (by simp) (by simp [vi]; omega) (by simp [vi])
  have hrd := hframe.rd (k := ob (vi v) 0x05) (by simp [vi])
  exact (State.arm_dueAt _ _ _).trans (by rw [hnow, hrd]; rfl)

/-! ### The commands -/

/-- SETTLE_ELAPSED (R69). -/
theorem exec_settleElapsed {s : State} {v : VoiceId} {g : Grant} {mw : Nat} (hg : s.voices[v].grant = some g) (h3 : s.voiceState v = 3)
    (hdue : s.isDue (.settle v) = true) (hmw : mw < 65536) :
    let w := (((s.cancel (.settle v)).setVoiceState v 4).wr (ob (0x2000 + v.val) 0x06) mw).raise (768 + 12 * v.val) [g.step.tenant]
      (u8 g.step.channel ++ u16 (milliwatts g.drive))
    Ends (.settleElapsed v mw) s (match w.tuningOn v with
      | some x => w.firstRun x
      | none => (match w.begin v g with | (b, some e) => b.endStep v e | (b, none) => b)) := by
  intro w
  have hexec : execSettleElapsed v mw s = (match w.tuningOn v with
      | some u => done (w.firstRun u)
      | none => match w.begin v g with
        | (b, e) => match e with
          | some e => done (b.endStep v e)
          | none => done b) := by
    simp only [execSettleElapsed, hg, h3, hdue, and_self, if_true, Nat.mod_eq_of_lt hmw]
    rfl
  change execSettleElapsed v mw s = _
  rw [hexec]
  cases w.tuningOn v with
  | some u => rfl
  | none =>
    obtain ⟨b, e⟩ := w.begin v g
    cases e <;> rfl

/-- RAMP_DOWN_DONE: FLOOR, or the dwell before a deferred grant (R69, R71). -/
theorem exec_rampDownDone {s : State} {v : VoiceId} {ch : Channel} {o : Tenant} {a energy : Nat} (h5 : s.voiceState v = 5)
    (hdue : s.isDue (.rampDown v) = true) (hh : s.voices[v].held = some ch.val) (ho : s.voices[v].owner = some o)
    (ha : s.voices[v].emitAt = some a) :
    exec (.rampDownDone v energy) s = match s.voices[v].deferred with
      | none => .next ((s.emissionEnded v ch o a energy).reachFloor v).doze.settle
      | some g => .next ((s.emissionEnded v ch o a energy).dwelling v g).boostFollow.settle := by
  have hvoice := s.emissionCounted_voice v ch o a energy
  have hended : ((((s.cancel (.rampDown v)).countCarrier v).chargeEnergy v energy).atFloor v).applying v =
      s.emissionEnded v ch o a energy := by
    rw [State.countCarrier_eq hh ha, State.chargeEnergy_emissionTimed ho,
      State.atFloor_eq (by rw [hvoice]; exact hh) (by rw [hvoice]; exact ho), hvoice]
    rfl
  rw [← s.emissionEnded_deferred v ch o a energy]
  change execRampDownDone v energy s = _
  simp only [execRampDownDone, h5, hdue, and_self, if_true, hended]
  cases (s.emissionEnded v ch o a energy).voices[v].deferred <;> rfl

/-- Settles O28: the ends of up-ramp, slew and settling, and the end of a down-ramp without and with a deferred grant. -/
theorem voiceRamps : Obligations.VoiceRamps := by
  unfold Obligations.VoiceRamps
  refine ⟨?rampUp, ?slew, ?settle, ?rampDown⟩
  case rampUp =>
    intro s v g hg h2 hdue
    refine ⟨s.settling v g (.rampUp v), ?_, s.settling_changes v g _, s.settling_voiceState v g _, s.settling_dueAt v g _,
      s.settling_isArmed v g (by simp)⟩
    change execRampUpDone v s = _
    simp only [execRampUpDone, hg, h2, hdue, and_self, if_true]
    rfl
  case slew =>
    intro s v g hg h2 hdue
    have hset := s.setVoice_changes v (fun x => { x with drive := g.drive })
    refine ⟨(s.setVoice v (fun x => { x with drive := g.drive })).settling v g (.slew v), ?_,
      (hset.trans (State.settling_changes _ v g _)).mono (by simp) (by simp), State.settling_voiceState _ v g _, ?_,
      State.settling_dueAt _ v g _, State.settling_isArmed _ v g (by simp)⟩
    · change execSlewDone v s = _
      simp only [execSlewDone, hg, h2, hdue, and_self, if_true]
      rfl
    · simp [State.settling, State.setVoiceState]
  case settle =>
    intro s v g mw hg h3 hdue hmw
    refine ⟨((s.cancel (.settle v)).setVoiceState v 4).wr (ob (0x2000 + v.val) 0x06) mw, _,
      ((s.cancel_changes _).trans (State.setVoiceState_changes _ v 4)).trans (State.wr_changes _ _ _) |>.mono (by simp) (by simp), ?_,
      State.rd_wr_self _ _ _, State.cancel_isArmed _ _, rfl, exec_settleElapsed hg h3 hdue hmw⟩
    exact (State.rd_wr_other _ _ (by simp [vi])).trans (State.voiceState_setVoiceState _ v 4)
  case rampDown =>
    intro s v energy ch o a h5 hdue hh ho ha hvoice hchannel htotal htenant
    have hexec := exec_rampDownDone (energy := energy) h5 hdue hh ho ha
    have hsetting := fun {n : Nat} => s.rd_emissionEnded v ch o a energy (n := n)
    refine ⟨s.emissionCounted v ch o a energy, s.emissionEnded v ch o a energy, s.emissionCounted_changes v ch o a energy,
      State.rd_emissionCounted_voice hvoice, State.rd_emissionCounted_channel hchannel, State.rd_emissionCounted_end,
      State.rd_emissionCounted_total htotal, State.rd_emissionCounted_tenant htenant, rfl, ?floor, ?dwell⟩
    case floor =>
      intro hd
      rw [hd] at hexec
      have ht := ((State.reachFloor_spares (s.emissionEnded v ch o a energy) v).trans (State.doze_spares _)).trans (State.settle_spares _)
      obtain ⟨hgrant, hheld⟩ := State.floored_voice (s.emissionEnded v ch o a energy) v
      refine ⟨_, hexec, rfl, ?_, ?_, ?_, ?_, ?_⟩
      · rw [ht.voiceState, State.floored_voiceState, hsetting (by decide) (by decide)]
      · rw [ht.keeps _ (voiceKey_ob v (by decide)), State.floored_selected]
      · rw [ht.keeps _ (voiceKey_ob v (by decide)), State.floored_power]
      · rw [ht.voices, hgrant]
      · rw [ht.voices, hheld]
    case dwell =>
      intro g hd
      rw [hd] at hexec
      have ht := (State.boostFollow_spares ((s.emissionEnded v ch o a energy).dwelling v g)).trans (State.settle_spares _)
      refine ⟨_, hexec, ?_, ?_, ?_⟩
      · rw [ht.voiceState, State.dwelling_voiceState]
      · rw [ht.timers _ rfl, State.dwelling_dueAt, hsetting (by decide) (by decide)]
      · rw [ht.keeps _ (voiceKey_ob v (by decide)), State.dwelling_vreq]

end Sys2Proof.Machine
end
section
/-! PROOFS. Overcurrent, the voice switch and the coupling map (R67, R75, R76, R82): the statement `VoiceProtectionAndSwitches`. -/

namespace Sys2Proof.Machine

/-! ### Overcurrent (R75) -/

/-- The carrier's account leaves the voice's other objects. -/
theorem State.rd_countCarrier (s : State) (v : VoiceId) {n : Nat} (hn : n < 256) (h : n ≠ 0x0D) :
    (s.countCarrier v).rd (ob (0x2000 + v.val) n) = s.rd (ob (0x2000 + v.val) n) := by
  have htime : ob (0x2000 + v.val) n ≠ ob (0x2000 + v.val) 0x0D := by
    rw [Ne, ob_inj hn (by decide)]
    exact fun e => h e.2
  have hchannel : ∀ ch m, m < 256 → ob (0x2000 + v.val) n ≠ ob (0x2100 + ch) m := by
    intro ch m hm
    rw [Ne, ob_inj hn hm]
    omega
  unfold State.countCarrier
  split
  · rw [State.rd_setVoice, State.rd_wr_other _ _ (hchannel _ _ (by decide)), State.rd_add_other _ _ (hchannel _ _ (by decide))]
    exact State.rd_add_other _ _ htime
  · rfl

theorem State.chargeEnergy_spares (s : State) (v : VoiceId) (energy : Nat) : SparesVoices s (s.chargeEnergy v energy) := by
  unfold State.chargeEnergy
  dsimp only
  split
  · exact (s.add_spares _).trans (State.add_spares _ _)
  · exact s.add_spares _

/-- The state in which a voice tripped by an overcurrent is taken to the floor: the trip counted and reported, its step or tuning ended,
its ramp stopped. -/
def State.tripped (s : State) (v : VoiceId) (energy : Nat) : State :=
  let x := s.voices[v]
  let ch := match x.held with | some c => c | none => 0xFF
  let to_ := t0 :: (match x.grant with | some g => [g.step.tenant] | none => x.owner.toList)
  let s := (((s.countCarrier v).chargeEnergy v energy).incSat (ob (vi v) 0x0C)).voiceEvent v 7 to_ ch x.drive
  let s := (s.fault (16 + v.val) ch).causeEnd (16 + v.val)
  ((s.abortOn v).cutStep v 0x12).cancelAll (fun tm => tm == .rampUp v || tm == .settle v || tm == .slew v || tm == .rampDown v)

theorem exec_voiceOvercurrent {s : State} {v : VoiceId} {energy : Nat} (h : s.emitting v = true) :
    Ends (.voiceOvercurrent v energy) s
      (((((s.tripped v energy).reachFloor v).wr (ob (0x2000 + v.val) 0x01) 7).cutDues
        (fun d => voiceOf d.channel == v) 0x12).boostIdle) := by
  change execVoiceOvercurrent v energy s = _
  rw [execVoiceOvercurrent, if_pos h, State.tripped]
  rfl

theorem State.tripped_isArmed (s : State) (v : VoiceId) (energy : Nat) {tm : Timer}
    (h : (tm == .rampUp v || tm == .settle v || tm == .slew v || tm == .rampDown v) = true) :
    (s.tripped v energy).isArmed tm = false := by
  unfold State.tripped
  exact State.cancelAll_isArmed _ h

/-- The trip is counted. -/
theorem State.rd_tripped_count (s : State) (v : VoiceId) (energy : Nat) :
    (s.tripped v energy).rd (ob (0x2000 + v.val) 0x0C) =
      satInc (2 ^ Dict.bits (ob (0x2000 + v.val) 0x0C) - 1) (s.rd (ob (0x2000 + v.val) 0x0C)) := by
  have hcounted : (((s.countCarrier v).chargeEnergy v energy).incSat (ob (0x2000 + v.val) 0x0C)).rd (ob (0x2000 + v.val) 0x0C) =
      satInc (2 ^ Dict.bits (ob (0x2000 + v.val) 0x0C) - 1) (s.rd (ob (0x2000 + v.val) 0x0C)) := by
    rw [State.rd_incSat_self, (State.chargeEnergy_spares _ v energy).keeps _ (voiceKey_ob v (by decide)),
      State.rd_countCarrier s v (by decide) (by decide)]
  have hkeeps : Keeps voiceSettingKey (((s.countCarrier v).chargeEnergy v energy).incSat (ob (0x2000 + v.val) 0x0C))
      (s.tripped v energy) := by
    unfold State.tripped
    refine .trans (.trans (.trans ?_ (State.abortOn_keeps _ v)) (State.cutStep_keeps _ v 0x12)) (State.cancelAll_keeps _ _)
    exact (((State.raise_spares _ _ _ _).trans (State.fault_spares _ _ _)).trans (State.causeEnd_spares _ _)).keeps.settings
  rw [hkeeps _ (voiceSettingKey_ob v (by decide) (by decide)), hcounted]

/-! ### The switch of a voice (R76) -/

/-- A voice's switch stored and, where it changes, announced. -/
def State.switched (s : State) (v : VoiceId) (on : Bool) : State :=
  let x := s.voices[v]
  let w := s.wr (ob (vi v) 0x03) (if on then 1 else 0)
  if s.isOn (ob (vi v) 0x03) = on then w
  else w.voiceEvent v 8 (t0 :: (x.grant.toList.map (fun g => g.step.tenant))) (match x.held with | some c => c | none => 0xFF) x.drive

/-- Beside the switch the voices are left whole. -/
theorem State.switched_spares (s : State) (v : VoiceId) (on : Bool) :
    SparesVoices (s.wr (ob (vi v) 0x03) (if on then 1 else 0)) (s.switched v on) :=
  .ite (.refl _) (State.raise_spares _ _ _ _)

theorem State.switched_voices (s : State) (v : VoiceId) (on : Bool) : (s.switched v on).voices = s.voices := (s.switched_spares v on).voices
theorem State.switched_dues (s : State) (v : VoiceId) (on : Bool) : (s.switched v on).dues = s.dues := (s.switched_spares v on).dues

theorem State.switched_timers (s : State) (v : VoiceId) (on : Bool) : (s.switched v on).timers = s.timers := by
  unfold State.switched State.voiceEvent
  dsimp only
  split
  · rfl
  · exact State.raise_timers _ _ _ _

theorem State.switched_pins (s : State) (v : VoiceId) (on : Bool) : (s.switched v on).pins = s.pins := by
  unfold State.switched State.voiceEvent
  dsimp only
  split
  · rfl
  · exact State.raise_pins _ _ _ _

theorem State.rd_switched (s : State) (v : VoiceId) (on : Bool) : (s.switched v on).rd (ob (0x2000 + v.val) 0x03) = if on then 1 else 0 :=
  ((s.switched_spares v on).keeps _ (voiceKey_ob v (by decide))).trans (State.rd_wr_self _ _ _)

theorem State.switched_voiceState (s : State) (v : VoiceId) (on : Bool) : (s.switched v on).voiceState v = s.voiceState v :=
  ((s.switched_spares v on).voiceState v).trans (State.rd_wr_other _ _ (by simp [vi]))

/-- With nothing due on a voice, no step is cut short there. -/
theorem State.cutDues_of_none {s : State} {p : DueStep → Bool} {outcome : Nat} (h : ∀ d ∈ s.dues, p d = false) :
    s.cutDues p outcome = s := by
  have hnil : s.dues.filter (fun d => p d && d.tuning.isNone) = [] := by
    rw [List.filter_eq_nil_iff]
    intro d hd
    simp [h d hd]
  rw [State.cutDues, hnil]
  rfl

theorem State.cutDeferred_of_none {s : State} {v : VoiceId} {outcome : Nat} (h : s.voices[v].deferred = none) :
    s.cutDeferred v outcome = s := by
  simp only [State.cutDeferred, h]

/-- A DISABLED voice switched on is at FLOOR. -/
theorem State.enableVoice_on {s : State} {v : VoiceId} (h8 : s.voiceState v = 8) :
    s.enableVoice v true = ((s.switched v true).setVoice v (fun x => { x with disable := false })).setVoiceState v 0 := by
  have hstate : ((s.switched v true).setVoice v (fun x => { x with disable := false })).voiceState v = 8 :=
    (s.switched_voiceState v true).trans h8
  exact if_pos hstate

/-- Switching a voice off ends what is due on it; then a voice that emits or is being tuned finishes that first, and any other loses its
step and is at the floor. -/
theorem State.enableVoice_off {s : State} {v : VoiceId} (h7 : s.voiceState v ≠ 7) (h8 : s.voiceState v ≠ 8) :
    s.enableVoice v false =
      let w := (s.switched v false).cutDues (fun d => voiceOf d.channel == v) 0x11
      if s.emitting v || (s.voices[v].grant.toList ++ s.voices[v].deferred.toList).any (fun g => g.step.tuning.isSome)
        then (w.cutDeferred v 0x11).setVoice v (fun x => { x with disable := true })
      else (w.cutStep v 0x11).reachFloor v := by
  have hstate : ((s.switched v false).cutDues (fun d => voiceOf d.channel == v) 0x11).voiceState v = s.voiceState v :=
    (State.cutDues_keeps _ _ _ _ (voiceKey_ob v (by decide))).trans (s.switched_voiceState v false)
  have hemit : ((s.switched v false).cutDues (fun d => voiceOf d.channel == v) 0x11).emitting v = s.emitting v := by
    rw [State.emitting, hstate]
    rfl
  have hnot : ¬(((s.switched v false).cutDues (fun d => voiceOf d.channel == v) 0x11).voiceState v = 7 ∨
      ((s.switched v false).cutDues (fun d => voiceOf d.channel == v) 0x11).voiceState v = 8) := by
    rw [hstate]
    exact not_or.2 ⟨h7, h8⟩
  rw [← hemit]
  exact if_neg hnot

/-- A voice that emits is neither HALTED nor DISABLED. -/
theorem State.voiceState_of_emitting {s : State} {v : VoiceId} (h : s.emitting v = true) :
    s.voiceState v ≠ 7 ∧ s.voiceState v ≠ 8 := by
  simp only [State.emitting, Bool.and_eq_true, decide_eq_true_eq] at h
  omega

/-! ### The writes -/

/-- The row of a voice's switch, and of the coupling map. -/
theorem dict_row_voiceSwitch (v : VoiceId) : Dict.row? (0x2000 + v.val) 0x03 =
    some ⟨0x03, 0x03, .bool, .rwp, .fixed 0x01, .val 1, .rng 0 1, false⟩ := by
  revert v; decide

theorem dict_row_coupling (ch : Channel) : Dict.row? 0x2020 (ch.val + 1) =
    some ⟨0x01, 0x40, .u64, .rwp, .fixed 0x01, .val 0, .any, false⟩ := by
  revert ch; decide

theorem State.store_voiceSwitch (s : State) (t : Tenant) (v : VoiceId) (x : Nat) :
    s.store t (0x2000 + v.val) 0x03 x = s.enableVoice v (x != 0) := by
  have hv : (⟨(0x2000 + v.val - 0x2000) % 4, Nat.mod_lt _ (by decide)⟩ : VoiceId) = v := Fin.ext (by simp)
  have hlt := v.isLt
  unfold State.store
  rw [if_neg (by omega), if_neg (by omega), if_pos (by omega), hv]

/-- An accepted write of a voice's switch. -/
theorem serves_voiceEnableWrite {s : State} {t : Tenant} {j : Job} {v : VoiceId} {b : BitVec 8}
    (h : s.Writes t j (0x2000 + v.val) 0x03 [b]) :
    Serves (.voiceEnableWrite t) s (s.enableVoice v (b.toNat != 0)) t j
      (if s.needsCommit (ob (0x2000 + v.val) 0x03) b.toNat then [(ob (0x2000 + v.val) 0x03, b.toNat)] else []) false := by
  have hlt := v.isLt
  have hown : ownOf (0x2000 + v.val) 0x03 [b] = .voiceEnable := by
    unfold ownOf
    rw [if_neg (fun e => by omega), if_neg (fun e => by omega), if_neg (by omega), if_neg (fun e => by omega), if_neg (by omega),
      if_pos ⟨by omega, by omega, rfl⟩]
  have hkey : keyFor t (0x2000 + v.val) 0x03 = ob (0x2000 + v.val) 0x03 := by simp [keyFor, dict_row_voiceSwitch]
  have hs := Serves.of_writes h (c := .voiceEnableWrite t) rfl hown (dict_row_voiceSwitch v) rfl rfl (by omega)
  rw [hkey, State.store_voiceSwitch] at hs
  simpa [leNat] using hs

/-- An accepted write of an entry of the coupling map. -/
theorem serves_couplingMapWrite {s : State} {t : Tenant} {j : Job} {ch : Channel} {x : Nat} (hx : x < 2 ^ 64)
    (h : s.Writes t j 0x2020 (ch.val + 1) (u64 x)) :
    Serves (.couplingMapWrite t) s (s.coupling (ch.val + 1) x) t j
      (if s.needsCommit (ob 0x2020 (ch.val + 1)) x then [(ob 0x2020 (ch.val + 1), x)] else []) false := by
  have hval : leNat (u64 x) = x := by
    rw [u64, leNat_leBytes]
    exact Nat.mod_eq_of_lt hx
  have hkey : keyFor t 0x2020 (ch.val + 1) = ob 0x2020 (ch.val + 1) := by simp [keyFor, dict_row_coupling]
  have hs := Serves.of_writes h (c := .couplingMapWrite t) rfl (by simp [ownOf]) (dict_row_coupling ch) rfl rfl (by decide)
  rw [hkey, hval] at hs
  exact hs

/-- Settles O30: the trip of an overcurrent, the switch of a voice in each of its states, and the coupling map. -/
theorem voiceProtectionAndSwitches : Obligations.VoiceProtectionAndSwitches := by
  unfold Obligations.VoiceProtectionAndSwitches
  refine ⟨?overcurrent, ?on, ?granted, ?emitting, ?floor, ?coupling⟩
  case overcurrent =>
    intro s v energy h
    exact ⟨s.tripped v energy, s.rd_tripped_count v energy, s.tripped_isArmed v energy (by simp), s.tripped_isArmed v energy (by simp),
      s.tripped_isArmed v energy (by simp), s.tripped_isArmed v energy (by simp), exec_voiceOvercurrent h⟩
  case on =>
    intro s t j v hw h8
    have hs := serves_voiceEnableWrite hw
    refine ⟨s.enableVoice v true, hs, ?_⟩
    rw [State.enableVoice_on h8]
    refine ⟨(State.rd_wr_other _ _ (by simp [vi])).trans (s.rd_switched v true), State.voiceState_setVoiceState _ v 0, ?_,
      s.switched_dues v true, s.switched_timers v true, s.switched_pins v true, fun w hne => ?_⟩
    · simp [State.setVoiceState, State.switched_voices]
    · have hother := State.setVoice_other (s.switched v true) v w (fun x => { x with disable := false }) hne
      rw [State.switched_voices] at hother
      exact hother
  case granted =>
    intro s t j v hw hemit h7 h8 htun
    have hs := serves_voiceEnableWrite hw
    have hnone : (s.voices[v].grant.toList ++ s.voices[v].deferred.toList).any (fun g => g.step.tuning.isSome) = false := by
      rw [List.any_eq_false]
      intro g hg
      simp [htun g hg]
    have hoff := State.enableVoice_off h7 h8
    simp only [hemit, hnone, Bool.or_self, Bool.false_eq_true, if_false] at hoff
    refine ⟨s.switched v false, _, ?_, rfl, s.rd_switched v false, s.switched_voices v false, s.switched_dues v false⟩
    rw [← hoff]
    exact hs
  case emitting =>
    intro s t j v hw hemit hdef hdues
    have hs := serves_voiceEnableWrite hw
    obtain ⟨h7, h8⟩ := State.voiceState_of_emitting hemit
    have hoff := State.enableVoice_off h7 h8
    have hcut : (s.switched v false).cutDues (fun d => voiceOf d.channel == v) 0x11 = s.switched v false :=
      State.cutDues_of_none (by rw [State.switched_dues]; simpa using hdues)
    have hdef' : (s.switched v false).cutDeferred v 0x11 = s.switched v false :=
      State.cutDeferred_of_none (by rw [State.switched_voices]; exact hdef)
    simp only [hemit, Bool.true_or, if_true, hcut, hdef'] at hoff
    refine ⟨s.enableVoice v false, hs, ?_⟩
    rw [hoff]
    refine ⟨s.rd_switched v false, s.switched_voiceState v false, ?_, s.switched_dues v false, s.switched_timers v false,
      s.switched_pins v false, fun w hne => ?_⟩
    · simp [State.switched_voices]
    · have hother := State.setVoice_other (s.switched v false) v w (fun x => { x with disable := true }) hne
      rw [State.switched_voices] at hother
      exact hother
  case floor =>
    intro s t j v hw h0 hg hd _
    have hs := serves_voiceEnableWrite hw
    refine ⟨s.enableVoice v false, hs, ?_⟩
    have hoff := State.enableVoice_off (s := s) (v := v) (by omega) (by omega)
    have hemit : s.emitting v = false := by simp [State.emitting, h0]
    have hkeeps := (State.cutDues_keeps (s.switched v false) (fun d => voiceOf d.channel == v) 0x11).settings.trans
      (State.cutStep_keeps _ v 0x11)
    have hswitch := (hkeeps _ (voiceSettingKey_ob v (by decide) (by decide))).trans (s.rd_switched v false)
    simp only [hemit, hg, hd, Option.toList_none, List.append_nil, List.any_nil, Bool.or_self, Bool.false_eq_true, if_false] at hoff
    rw [hoff]
    refine ⟨(State.reachFloor_keeps _ v _ (voiceSettingKey_ob v (by decide) (by decide))).trans hswitch, ?_⟩
    rw [(State.reachFloor_spares _ v).voiceState, State.floored_voiceState, hswitch]
    rfl
  case coupling =>
    intro s t j ch x hx hw
    exact ⟨s.wr (ob 0x2020 (ch.val + 1)) x, s.wr_changes _ _, State.rd_wr_self _ _ _, serves_couplingMapWrite hx hw⟩

end Sys2Proof.Machine
end

section
/-! PROOFS. Refused writes (R378) and the rule between the two thresholds of a receiver (R97): the statement `ThresholdRule`. -/

namespace Sys2Proof.Machine

/-! ### The first of several statuses (R378) -/

theorem firstOf_eq_left {st a : Nat} (h : a = st ∨ statusRank st < statusRank a) : firstOf st a = st := by
  obtain rfl | h := h
  · exact ite_self _
  · exact if_pos (by omega)

theorem firstOf_eq_right {st a : Nat} (h : statusRank st < statusRank a) : firstOf a st = st := if_neg (by omega)

/-- A status that applies and comes before every other one that applies is the one given. -/
theorem foldl_firstOf_eq {st : Nat} (l : List Nat) (a : Nat) (ha : a = st ∨ statusRank st < statusRank a)
    (hl : ∀ b ∈ l, b = st ∨ statusRank st < statusRank b) (hmem : a = st ∨ st ∈ l) : l.foldl firstOf a = st := by
  induction l generalizing a with
  | nil => simpa using hmem
  | cons b l ih =>
    obtain ⟨hb, hl⟩ := List.forall_mem_cons.1 hl
    rw [List.foldl_cons]
    obtain rfl | hlt := ha
    · rw [firstOf_eq_left hb]
      exact ih _ (.inl rfl) hl (.inl rfl)
    · obtain rfl | hb := hb
      · rw [firstOf_eq_right hlt]
        exact ih _ (.inl rfl) hl (.inl rfl)
      · have hmem' : st ∈ l := by
          obtain rfl | hmem := hmem
          · exact absurd hlt (lt_irrefl _)
          · obtain rfl | hmem := List.mem_cons.1 hmem
            · exact absurd hb (lt_irrefl _)
            · exact hmem
        have hout : statusRank st < statusRank (firstOf a b) := by
          unfold firstOf
          split <;> assumption
        exact ih _ (.inr hout) hl (.inr hmem')

theorem firstStatus_eq {st : Nat} {l : List Nat} (hmem : st ∈ l) (hl : ∀ b ∈ l, b = st ∨ statusRank st < statusRank b)
    (hst : statusRank st < statusRank sOK) : firstStatus l = st :=
  foldl_firstOf_eq l sOK (.inr hst) hl (.inr hmem)

/-- A status under a condition is that status or comes after the one sought. -/
theorem when_after {st a : Nat} (c : Bool) (h : a = st ∨ statusRank st < statusRank a) (hst : statusRank st < statusRank sOK) :
    when c a = st ∨ statusRank st < statusRank (when c a) := by
  cases c
  · exact .inr hst
  · exact h

/-! ### A refused WRITE -/

/-- A WRITE without a row of its own that is refused, and whose refusal does nothing else, is answered with its status. -/
theorem Answers.of_refused {s : State} {t : Tenant} {j : Job} {i sub off st : Nat} {v : Octets} (hturn : s.turn t = some j)
    (hop : j.req.op = .write i sub off v) (hown : ownOf i sub v = .plain)
    (hst : s.writeStatus t j.req.transport i sub off v = st) (h0 : st ≠ 0) (heff : s.refusedEffect t i sub v st = s) :
    Answers (.serviceWrite t) s s t j st [] := by
  have hexec : exec (.serviceWrite t) s = done (s.serveOwn t .plain) := by
    change execServiceWrite t s = _
    unfold execServiceWrite
    simp only [hturn, hop]
  have hserve : s.serveOwn t .plain = s.reply t j st [] := by
    unfold State.serveOwn State.serveWrite
    simp only [hturn, hop, hown, if_true, hst, ne_eq, h0, not_false_iff, heff]
  rw [Answers, hexec, hserve, done_eq]

/-- A whole value that its object's own rules refuse with VALUE_RANGE is refused so, where it comes over an open transport from a tenant
that sees the object: only a ceiling or a retired link stands beside it, and both come after it (R378). -/
theorem State.writeStatus_range {s : State} {t : Tenant} {tr : Transport} {i sub : Nat} {v : Octets} {r : Row} {lo hi : Nat}
    (hrow : Dict.row? i sub = some r) (hacc : r.acc = .rwp) (hty : r.ty = .u16) (hchk : r.chk = .rng lo hi) (hv : v.length = 2)
    (hvis : s.visible t i sub = true) (htr : s.transportOn t tr = true)
    (hrule : s.ruleStatus t i sub 0 v (leNat v) = sRange) : s.writeStatus t tr i sub 0 v = sRange := by
  have hfirst : statusRank sRange < statusRank sOK := by decide
  have hsplice : s.spliced t i sub 0 v = leNat v := by simp [State.spliced, hrow, hty, Ty.isOctets]
  have hchunk : 2 ≤ chunk tr (s.rd (ob 0x4100 0x08)) true := by
    cases tr with
    | mesh => unfold chunk; dsimp only; split <;> omega
    | _ => simp [chunk]
  have hvalue : s.valueStatus t i sub 0 v = sRange := by
    have hread : when (r.acc == .const || r.acc == .ro) sReadOnly = 0 := by rw [hacc]; rfl
    have hlen : r.ty.writeLength 0 v.length = 0 := by rw [hty, hv]; rfl
    have hown : r.valueStatus (leNat v) = sRange ∨ statusRank sRange < statusRank (r.valueStatus (leNat v)) := by
      unfold Row.valueStatus
      rw [hchk]
      exact when_after _ (.inl rfl) hfirst
    unfold State.valueStatus
    simp only [hrow]
    rw [hread, hlen, if_neg (by simp), hsplice, hrule, hacc]
    refine firstStatus_eq (by simp) ?_ hfirst
    exact List.forall_mem_cons.2 ⟨hown, List.forall_mem_cons.2 ⟨.inl rfl, List.forall_mem_cons.2
      ⟨when_after _ (.inr (by decide)) hfirst, List.forall_mem_singleton.2 (when_after _ (.inr (by decide)) hfirst)⟩⟩⟩
  have hsmall : decide (chunk tr (s.rd (ob 0x4100 0x08)) true < v.length) = false := by
    rw [hv]
    exact decide_eq_false (by omega)
  rw [State.writeStatus, hvis, htr, hsmall, hvalue]
  rfl

/-! ### The thresholds (R97) -/

theorem dict_row_highThreshold (v : VoiceId) : Dict.row? (0x2280 + v.val) 0x01 =
    some ⟨0x01, 0x01, .u16, .rwp, .fixed 0x01, .val 1900, .rng 1024 2040, false⟩ := by
  revert v; decide

theorem dict_row_lowThreshold (v : VoiceId) : Dict.row? (0x2280 + v.val) 0x02 =
    some ⟨0x02, 0x02, .u16, .rwp, .fixed 0x01, .val 380, .rng 64 512, false⟩ := by
  revert v; decide

/-- A receiver's objects have no command of their own. -/
theorem ownOf_receiver (v : VoiceId) (sub : Nat) (b : Octets) : ownOf (0x2280 + v.val) sub b = .plain := by
  have hv := v.isLt
  unfold ownOf
  dsimp only
  repeat rw [if_neg (fun e => by omega)]

/-- The own rule of a receiver's objects: only the pair of thresholds that the write would leave. -/
theorem State.ruleStatus_receiver (s : State) (t : Tenant) (v : VoiceId) (sub off : Nat) (b : Octets) (x : Nat) :
    s.ruleStatus t (0x2280 + v.val) sub off b x =
      when ((sub == 1 || sub == 2) && decide (10 * (if sub = 1 then x else s.rd (ob (0x2280 + v.val) 0x01)) <
        42 * (if sub = 2 then x else s.rd (ob (0x2280 + v.val) 0x02)))) sRange := by
  have hv := v.isLt
  unfold State.ruleStatus
  rw [if_neg (by omega), if_neg (by omega), if_neg (by omega), if_pos (by omega)]

/-- Refusing a write to a receiver's objects does nothing else. -/
theorem State.refusedEffect_receiver (s : State) (t : Tenant) (v : VoiceId) (sub : Nat) (b : Octets) (st : Nat) :
    s.refusedEffect t (0x2280 + v.val) sub b st = s := by
  have hv := v.isLt
  unfold State.refusedEffect
  rw [if_neg (by omega), if_neg (by omega), if_neg (by omega), if_neg (by omega)]

/-- A threshold that its own rule refuses is answered VALUE_RANGE. -/
theorem answers_threshold_range {s : State} {t : Tenant} {j : Job} {v : VoiceId} {sub x lo hi : Nat} {r : Row}
    (hrow : Dict.row? (0x2280 + v.val) sub = some r) (hacc : r.acc = .rwp) (hty : r.ty = .u16) (hchk : r.chk = .rng lo hi)
    (hx : x < 65536) (hturn : s.turn t = some j) (hvis : s.visible t (0x2280 + v.val) sub = true)
    (htr : s.transportOn t j.req.transport = true) (hop : j.req.op = .write (0x2280 + v.val) sub 0 (u16 x))
    (hrule : s.ruleStatus t (0x2280 + v.val) sub 0 (u16 x) x = sRange) : Answers (.serviceWrite t) s s t j sRange [] := by
  have hval : s.ruleStatus t (0x2280 + v.val) sub 0 (u16 x) (leNat (u16 x)) = sRange := by rw [leNat_u16 hx, hrule]
  exact Answers.of_refused hturn hop (ownOf_receiver v _ _)
    (State.writeStatus_range hrow hacc hty hchk (leBytes_length 2 x) hvis htr hval) (by decide) (s.refusedEffect_receiver t v _ _ _)

/-- Settles O36: the rule between the thresholds gives VALUE_RANGE, which is the first status of those that can apply. -/
theorem thresholdRule : Obligations.ThresholdRule := by
  unfold Obligations.ThresholdRule
  refine ⟨?high, ?low⟩
  case high =>
    intro s t j n x hn hx hturn hvis htr hop hlt
    refine answers_threshold_range (dict_row_highThreshold ⟨n, hn⟩) rfl rfl rfl hx hturn hvis htr hop ?_
    rw [State.ruleStatus_receiver]
    simp [when, hlt]
  case low =>
    intro s t j n x hn hx hturn hvis htr hop hlt
    refine answers_threshold_range (dict_row_lowThreshold ⟨n, hn⟩) rfl rfl rfl hx hturn hvis htr hop ?_
    rw [State.ruleStatus_receiver]
    simp [when, hlt]

end Sys2Proof.Machine
end

section
/-! PROOFS. A voice's exchange and its response window (chapter 4, R84 to R88, R95, R110, R111, R122): the statement `ResponseWindows`. -/

namespace Sys2Proof.Machine

/-! ### The exchange of a voice -/

theorem State.setExchange_changes (s : State) (v : VoiceId) (x : Exchange) : Changes [.voices] [] s (s.setExchange v x) :=
  s.setVoice_changes v _

@[simp] theorem State.setExchange_self (s : State) (v : VoiceId) (x : Exchange) :
    (s.setExchange v x).voices[v] = { s.voices[v] with exchange := some x } := s.setVoice_self v _

theorem State.setExchange_other (s : State) (v w : VoiceId) (x : Exchange) (h : w ≠ v) : (s.setExchange v x).voices[w] = s.voices[w] :=
  s.setVoice_other v w _ h

theorem State.setExchange_cal (s : State) (v : VoiceId) (x : Exchange) : (s.setExchange v x).cal = s.cal := rfl

theorem State.withCal_changes (s : State) (c : Cal) : Changes [.cal] [] s { s with cal := c } := by
  refine ⟨rfl, fun p hp => ?_, fun _ _ => rfl⟩
  cases p <;> first | rfl | simp at hp

/-! A window counted for a background tuning (R213) touches the calibration's state, and nothing that waits there. -/

theorem State.countWindow_ready (s : State) (k n : Nat) : (s.countWindow k n).cal.ready = s.cal.ready := rfl
theorem State.countWindow_changes (s : State) (k n : Nat) : Changes [.cal] [] s (s.countWindow k n) := s.withCal_changes _

/-- With nothing waiting for its application point, that point passes unnoticed. -/
theorem State.receivePoint_of_none {s : State} (v : VoiceId) (h : s.cal.ready = []) : s.receivePoint v = s := by
  have hself : { s with cal := { s.cal with ready := s.cal.ready } } = s := rfl
  unfold State.receivePoint State.applyReady
  simp only [h, List.filter_nil, List.foldl_nil]
  rwa [h] at hself

/-! ### Counters of frame statuses (Table 5-8) -/

/-- From `s` to `t` the voice's counters have counted one frame with the status `st`. -/
def CountsStatus (s t : State) (v : VoiceId) (st : Nat) : Prop :=
  t.rd (ob (0x2480 + v.val) 0x02) = s.rd (ob (0x2480 + v.val) 0x02) + (if st = 2 then 1 else 0) ∧
  t.rd (ob (0x2480 + v.val) 0x07) = s.rd (ob (0x2480 + v.val) 0x07) + (if st = 1 then 1 else 0) ∧
  t.rd (ob (0x2480 + v.val) 0x03) = s.rd (ob (0x2480 + v.val) 0x03) + (if st = 7 then 1 else 0) ∧
  t.rd (ob (0x2480 + v.val) 0x04) = s.rd (ob (0x2480 + v.val) 0x04) + (if st = 1 ∨ (3 ≤ st ∧ st ≤ 6) ∨ st = 8 then 1 else 0)

theorem dict_bits_statusCounter (v : VoiceId) : ∀ n ∈ [0x02, 0x03, 0x04, 0x07], Dict.bits (ob (0x2480 + v.val) n) = 32 := by
  revert v; decide

theorem State.countStatus_changes (s : State) (v : VoiceId) (st : Nat) :
    Changes [] [ob (0x2480 + v.val) 0x02, ob (0x2480 + v.val) 0x03, ob (0x2480 + v.val) 0x04, ob (0x2480 + v.val) 0x07] s
      (s.countStatus v st) := by
  have hearly : Changes [] [ob (0x2480 + v.val) 0x07] s (if st = 1 then s.inc (ob (0x2480 + v.val) 0x07) else s) := by
    split
    · exact s.inc_changes _
    · exact (Changes.refl s).mono (by simp) (by simp)
  unfold State.countStatus
  dsimp only
  split
  · exact (hearly.trans (State.inc_changes _ _)).mono (by simp) (by simp)
  split
  · exact (hearly.trans (State.inc_changes _ _)).mono (by simp) (by simp)
  split
  · exact (hearly.trans (State.inc_changes _ _)).mono (by simp) (by simp)
  · exact hearly.mono (by simp) (by simp)

theorem State.rd_inc_statusCounter {s : State} {v : VoiceId} {n : Nat} (hn : n ∈ [0x02, 0x03, 0x04, 0x07])
    (h : s.rd (ob (0x2480 + v.val) n) + 1 < 2 ^ 32) :
    (s.inc (ob (0x2480 + v.val) n)).rd (ob (0x2480 + v.val) n) = s.rd (ob (0x2480 + v.val) n) + 1 :=
  s.rd_inc_self _ (by rwa [dict_bits_statusCounter v n hn])

/-- EARLY_REPLY is counted twice, as what it is and as a failed frame. -/
theorem State.countStatus_early (s : State) (v : VoiceId) :
    s.countStatus v 1 = (s.inc (ob (0x2480 + v.val) 0x07)).inc (ob (0x2480 + v.val) 0x04) := rfl

theorem State.countStatus_counts (s : State) (v : VoiceId) (st : Nat)
    (hcap : ∀ n ∈ [0x02, 0x03, 0x04, 0x07], s.rd (ob (0x2480 + v.val) n) + 1 < 2 ^ 32) : CountsStatus s (s.countStatus v st) v st := by
  have hinc := fun n hn => State.rd_inc_statusCounter (v := v) hn (hcap n hn)
  by_cases h1 : st = 1
  · subst h1
    have hfour : (s.inc (ob (0x2480 + v.val) 0x07)).rd (ob (0x2480 + v.val) 0x04) = s.rd (ob (0x2480 + v.val) 0x04) :=
      s.rd_inc_other (by simp)
    have hinc4 := State.rd_inc_statusCounter (s := s.inc (ob (0x2480 + v.val) 0x07)) (v := v) (n := 0x04) (by simp)
      (by rw [hfour]; exact hcap _ (by simp))
    rw [State.countStatus_early]
    simp [CountsStatus, State.rd_inc_other, hinc4, hinc]
  · by_cases h2 : st = 2
    · simp [CountsStatus, State.countStatus, h2, State.rd_inc_other, hinc]
    by_cases h7 : st = 7
    · simp [CountsStatus, State.countStatus, h7, State.rd_inc_other, hinc]
    by_cases hf : (3 ≤ st ∧ st ≤ 6) ∨ st = 8
    · simp [CountsStatus, State.countStatus, h1, h2, h7, hf, State.rd_inc_other, hinc]
    · simp [CountsStatus, State.countStatus, h1, h2, h7, hf]

/-! ### The start of a reply (R88, R95, R122) -/

/-- Acquisition keeps what each of its steps keeps. -/
theorem acquire_keeps {gains : List Nat} {start : Nat} {auto : Bool} {P : Acquisition → Prop}
    (hP : ∀ a x, P a → P (a.next gains start auto x).1) (l : List Sample) (a : Acquisition) (h : P a) :
    P (acquire gains start auto a l).1 := by
  induction l generalizing a with
  | nil => exact h
  | cons x l ih => exact ih _ (hP a x h)

theorem acquireCells_keeps {gains : List Nat} {start : Nat} {auto : Bool} {P : Acquisition → Prop}
    (hP : ∀ a x, P a → P (a.next gains start auto x).1) (l : List Cell) (a : Acquisition) (h : P a) :
    P (acquireCells gains start auto a l).1 := by
  induction l generalizing a with
  | nil => exact h
  | cons c l ih => exact ih _ (acquire_keeps hP c.second _ (acquire_keeps hP c.first a h))

/-- The steps of a reply start are those of an acquisition that every property kept by its steps holds of. -/
theorem hear_steps {c : TagCoding} {latch : List Nat} {range : Nat} {before : List Sample} {sof : List Cell} {P : Acquisition → Prop}
    (hP : ∀ a x, P a → P (a.next (latch.drop 5) range (latch.getD 4 0 != 1) x).1)
    (h : P { range := range, since := 14, skip := 0, steps := 0 }) :
    ∃ a, P a ∧ (hear c latch range before sof).steps = a.steps :=
  ⟨_, acquireCells_keeps hP sof _ (acquire_keeps hP before _ h), rfl⟩

/-- Each step goes one range down. -/
theorem Acquisition.next_balance (gains : List Nat) (start : Nat) (auto : Bool) (a : Acquisition) (x : Sample) :
    (a.next gains start auto x).1.steps + (a.next gains start auto x).1.range = a.steps + a.range := by
  unfold Acquisition.next
  dsimp only
  split
  · next h =>
    simp only [Bool.and_eq_true, decide_eq_true_eq] at h
    dsimp only
    omega
  · rfl

/-- In FIXED there is no step. -/
theorem Acquisition.next_fixed (gains : List Nat) (start : Nat) (a : Acquisition) (x : Sample) :
    (a.next gains start false x).1.steps = a.steps := rfl

/-- No more steps than the start range allows (R88). -/
theorem hear_steps_le (c : TagCoding) (latch : List Nat) (range : Nat) (before : List Sample) (sof : List Cell) :
    (hear c latch range before sof).steps ≤ range := by
  obtain ⟨a, ha, he⟩ := hear_steps (c := c) (latch := latch) (range := range) (before := before) (sof := sof)
    (P := fun a => a.steps + a.range = range) (fun a x h => (Acquisition.next_balance _ _ _ a x).trans h) (Nat.zero_add _)
  rw [he]
  omega

theorem hear_steps_fixed (c : TagCoding) {latch : List Nat} (range : Nat) (before : List Sample) (sof : List Cell)
    (h : latch.getD 4 0 = 1) : (hear c latch range before sof).steps = 0 := by
  have hauto : (latch.getD 4 0 != 1) = false := by rw [h]; rfl
  obtain ⟨a, ha, he⟩ := hear_steps (c := c) (latch := latch) (range := range) (before := before) (sof := sof)
    (P := fun a => a.steps = 0) (fun a x h => by rw [hauto]; exact h) rfl
  rw [he, ha]

/-- The time of an S(WTX) summed up to a reply start (R122). -/
def BlockEx.repliedAt (p : BlockEx) (instant : Nat) : BlockEx :=
  match p.wtxFrom with
  | some at_ => { p with wtxSum := p.wtxSum + (instant - at_), wtxFrom := none }
  | none => p

theorem BlockEx.repliedAt_none {p : BlockEx} (instant : Nat) (h : p.wtxFrom = none) : p.repliedAt instant = p := by
  simp only [BlockEx.repliedAt, h]

theorem BlockEx.repliedAt_some {p : BlockEx} {at_ : Nat} (instant : Nat) (h : p.wtxFrom = some at_) :
    p.repliedAt instant = { p with wtxSum := p.wtxSum + (instant - at_), wtxFrom := none } := by
  simp only [BlockEx.repliedAt, h]

/-- A sequencer's block exchange changed is the one it is in the middle of. -/
@[simp] theorem Prog.blockEx_setBlock (p : Prog) (f : BlockEx → BlockEx) : (p.setBlock f).blockEx = p.blockEx.map f := by
  cases p <;> rfl

/-- A change that leaves the block exchange leaves the sequencer. -/
theorem Prog.setBlock_eq_self {p : Prog} {f : BlockEx → BlockEx} (h : ∀ b, p.blockEx = some b → f b = b) : p.setBlock f = p := by
  cases p with
  | apdu b => exact congrArg Prog.apdu (h b rfl)
  | ndef4 stage off left cc got b => exact congrArg (Prog.ndef4 stage off left cc got) (h b rfl)
  | _ => rfl

/-- The exchange once its reply has started at `off`, with what acquisition gave. -/
def Exchange.receiving (x : Exchange) (off : Nat) (h : Heard) : Exchange :=
  { x with
    air := .receiving, prog := x.prog.setBlock (fun p => p.repliedAt (x.ref + off)), opened := off, acq := h.steps, phase := h.phase,
    noise := h.noise, shortNoise := decide (off - x.frame.window.opens - 400 < 800), rx := h.rx }

theorem Exchange.receiving_shortNoise (x : Exchange) (off : Nat) (h : Heard) :
    (x.receiving off h).shortNoise = decide (off - x.frame.window.opens - 400 < 800) := by
  rw [Exchange.receiving]

/-- The state once a voice's reply has started. -/
def State.replyStarted (s : State) (v : VoiceId) (x : Exchange) (off : Nat) (h : Heard) : State :=
  (((s.cancel (.close v)).cancel (.wtx v)).setExchange v (x.receiving off h)).countWindow (calKey 4 (0x100 + v.val)) h.count

theorem State.replyStarted_changes (s : State) (v : VoiceId) (x : Exchange) (off : Nat) (h : Heard) :
    Changes [.voices, .timers, .cal] [] s (s.replyStarted v x off h) :=
  ((((s.cancel_changes _).trans (State.cancel_changes _ _)).trans (State.setExchange_changes _ _ _)).trans
    (State.countWindow_changes _ _ _)).mono (by simp) (by simp)

theorem State.replyStarted_isArmed (s : State) (v : VoiceId) (x : Exchange) (off : Nat) (h : Heard) {tm : Timer}
    (htm : tm ∈ [.close v, .wtx v]) : (s.replyStarted v x off h).isArmed tm = false := by
  change ((s.cancel (.close v)).cancel (.wtx v)).isArmed tm = false
  simp only [List.mem_cons, List.not_mem_nil, or_false] at htm
  obtain rfl | rfl := htm
  · exact State.cancel_isArmed_of (State.cancel_isArmed _ _)
  · exact State.cancel_isArmed _ _

section replyStart
variable {s : State} {v : VoiceId} {g : Grant} {x : Exchange} {off : Nat} (b : List Sample) (lead sof : List Cell)
  (hg : s.voices[v].grant = some g) (hx : s.voices[v].exchange = some x)
include hg hx

/-- A start where no window is open, or outside of it, or in the future, changes nothing. -/
theorem ends_replyStart_outside
    (h : x.air ≠ .open ∨ off < x.frame.window.opens ∨ x.frame.window.latest < off ∨ 100 * (s.now + 1) ≤ x.ref + off) :
    Ends (.replyStart v off b lead sof) s s := by
  change execReplyStart v off b lead sof s = _
  unfold execReplyStart
  simp only [hg, hx]
  rw [if_pos (by tauto), done_eq]

/-- What a start in the window does (R110, R111, R173). -/
theorem exec_replyStart_inside (hair : x.air = .open) (hnow : x.ref + off < 100 * (s.now + 1)) (ho : x.frame.window.opens ≤ off)
    (hl : off ≤ x.frame.window.latest) :
    exec (.replyStart v off b lead sof) s =
      if off < x.frame.window.earliest then .next (s.shutWindow v g.step x 1 (x.ref + off)).settle
      else if x.frame.window = .iso15Write ∧ inSubWindow off = false then .next (s.shutWindow v g.step x 4 (x.ref + off)).settle
      else .next (s.replyStarted v x off
        (hear (replyCoding s v g.step x) x.latch x.range (samplesBefore x off b) (lead ++ sof))).settle := by
  have hin : ¬(x.air ≠ .open ∨ 100 * (s.now + 1) ≤ x.ref + off ∨ off < x.frame.window.opens ∨ x.frame.window.latest < off) := by
    simp only [hair, ne_eq, not_true, false_or]
    omega
  change execReplyStart v off b lead sof s = _
  unfold execReplyStart
  simp only [hg, hx]
  rw [if_neg hin]
  rfl

end replyStart

/-! ### Windows opened and closed (R87, R100, R103, R111) -/

/-- Whether another voice is sending when a window opens (R99). -/
def State.disturbs (s : State) (v : VoiceId) : Bool :=
  voiceIds.any (fun w => w != v && (match s.voices[w].exchange with | some y => y.air == .sending | none => false))

/-- The exchange with its window opened: the start range of its channel and the receive settings of its voice latched. -/
def State.windowOpened (s : State) (v : VoiceId) (ch : Nat) (x : Exchange) : Exchange :=
  { x with
    air := .open, acq := 0, phase := 0, noise := none, shortNoise := false, rx := Reception.blank, modulated := s.disturbs v
    range := if s.rd (ob (0x2200 + ch) 0x01) < 4 then s.rd (ob (0x2200 + ch) 0x01) else s.rd (ob (0x2200 + ch) 0x03) % 4
    latch := [s.rd (ob (0x2280 + v.val) 0x01), s.rd (ob (0x2280 + v.val) 0x02), s.rd (ob (0x2280 + v.val) 0x03),
      s.rd (ob (0x2280 + v.val) 0x04), s.rd (ob (0x2200 + ch) 0x02), s.rd (ob (0x2280 + v.val) 0x05),
      s.rd (ob (0x2280 + v.val) 0x06), s.rd (ob (0x2280 + v.val) 0x07), s.rd (ob (0x2280 + v.val) 0x08)] }

theorem ends_responseWindowOpen {s : State} {v : VoiceId} {g : Grant} {x : Exchange} (hg : s.voices[v].grant = some g)
    (hx : s.voices[v].exchange = some x) (hair : x.air = .windowWait) (hdue : s.isDue (.windowOpen v) = true) :
    Ends (.responseWindowOpen v) s ((s.cancel (.windowOpen v)).setExchange v (s.windowOpened v g.step.channel x)) := by
  change execResponseWindowOpen v s = _
  unfold execResponseWindowOpen
  simp only [hg, hx]
  rw [if_pos ⟨hair, hdue⟩, done_eq]
  rfl

theorem ends_responseWindowClose {s : State} {v : VoiceId} {g : Grant} {x : Exchange} (hg : s.voices[v].grant = some g)
    (hx : s.voices[v].exchange = some x) (hair : x.air = .open) (hdue : s.isDue (.close v) = true) :
    Ends (.responseWindowClose v) s (s.shutWindow v g.step x 2 (s.closesAt v g.step x)) := by
  change execResponseWindowClose v s = _
  unfold execResponseWindowClose
  simp only [hg, hx]
  rw [if_pos ⟨hair, hdue⟩, done_eq]

/-- The exchange with its window shut. -/
def Exchange.shut (x : Exchange) (st closed : Nat) : Exchange :=
  { x with air := .none, status := st, detail := 0, stamp := closed / 100, gap := closed }

/-- The state in which the sequencer takes its turn after a window has been shut. -/
def State.windowShut (s : State) (v : VoiceId) (x : Exchange) (st closed : Nat) : State :=
  ((s.cancel (.close v)).countStatus v st).setExchange v (x.shut st closed)

theorem State.shutWindow_eq {s : State} (v : VoiceId) (d : DueStep) (x : Exchange) (st closed : Nat) (h : s.cal.ready = []) :
    s.shutWindow v d x st closed = State.took v (react (s.windowShut v x st closed) v d (x.shut st closed) [] 0) := by
  have hcal : ((s.cancel (.close v)).countStatus v st).cal = s.cal := (State.countStatus_changes _ v st).same (p := .cal) (by simp)
  have hready : (s.windowShut v x st closed).cal.ready = [] := (congrArg Cal.ready hcal).trans h
  have hpoint := State.receivePoint_of_none v hready
  unfold State.shutWindow
  change State.took v (react ((s.windowShut v x st closed).receivePoint v) v d (x.shut st closed) [] 0) = _
  rw [hpoint]

theorem State.windowShut_counts {s : State} (v : VoiceId) (x : Exchange) (st closed : Nat)
    (hcap : ∀ n ∈ [0x02, 0x03, 0x04, 0x07], s.rd (ob (0x2480 + v.val) n) + 1 < 2 ^ 32) :
    CountsStatus s (s.windowShut v x st closed) v st :=
  State.countStatus_counts (s.cancel (.close v)) v st hcap

theorem State.windowShut_isArmed (s : State) (v : VoiceId) (x : Exchange) (st closed : Nat) :
    (s.windowShut v x st closed).isArmed (.close v) = false := by
  have htimers : (s.windowShut v x st closed).timers = (s.cancel (.close v)).timers :=
    (State.countStatus_changes (s.cancel (.close v)) v st).same (p := .timers) (by simp)
  rw [State.isArmed_congr htimers]
  exact s.cancel_isArmed _

/-! ### The S(WTX) budget (R122) -/

/-- The exchange whose S(WTX) budget has run out now. -/
def State.budgetExchange (s : State) (x : Exchange) (p : BlockEx) : Exchange :=
  { x with air := .none, status := 0x0D, detail := min 255 p.wtxN, stamp := s.now, gap := max x.gap (100 * s.now) }

/-- The state in which S(DESELECT) goes out after the S(WTX) budget. -/
def State.budgetOut (s : State) (v : VoiceId) (x : Exchange) (p : BlockEx) : State :=
  (((s.cancel (.wtx v)).cancel (.close v)).cancel (.windowOpen v)).setExchange v (s.budgetExchange x p)

theorem State.budgetOut_changes (s : State) (v : VoiceId) (x : Exchange) (p : BlockEx) :
    Changes [.voices, .timers] [] s (s.budgetOut v x p) :=
  ((((s.cancel_changes _).trans (State.cancel_changes _ _)).trans (State.cancel_changes _ _)).trans
    (State.setExchange_changes _ _ _)).mono (by simp) (by simp)

theorem State.budgetOut_isArmed (s : State) (v : VoiceId) (x : Exchange) (p : BlockEx) {tm : Timer}
    (h : tm ∈ [.wtx v, .close v, .windowOpen v]) : (s.budgetOut v x p).isArmed tm = false := by
  change (((s.cancel (.wtx v)).cancel (.close v)).cancel (.windowOpen v)).isArmed tm = false
  simp only [List.mem_cons, List.not_mem_nil, or_false] at h
  obtain rfl | rfl | rfl := h
  · exact State.cancel_isArmed_of (State.cancel_isArmed_of (State.cancel_isArmed _ _))
  · exact State.cancel_isArmed_of (State.cancel_isArmed _ _)
  · exact State.cancel_isArmed _ _

theorem exec_wtxBudgetExpired {s : State} {v : VoiceId} {g : Grant} {x : Exchange} {p : BlockEx} (hg : s.voices[v].grant = some g)
    (hx : s.voices[v].exchange = some x) (hp : x.prog.blockEx = some p) (hair : x.air = .open ∨ x.air = .windowWait ∨ x.air = .ready)
    (hdue : s.isDue (.wtx v) = true) (hready : s.cal.ready = []) :
    exec (.wtxBudgetExpired v) s = .next (State.took v
      (deselect (s.budgetOut v x p) v g.step (s.budgetExchange x p) ⟨0, 0x0D, min 255 p.wtxN, []⟩)).settle := by
  have hpoint : (s.budgetOut v x p).receivePoint v = s.budgetOut v x p := State.receivePoint_of_none v hready
  have hexec : exec (.wtxBudgetExpired v) s = done (State.took v
      (deselect ((s.budgetOut v x p).receivePoint v) v g.step (s.budgetExchange x p) ⟨0, 0x0D, min 255 p.wtxN, []⟩)) := by
    change execWtxBudgetExpired v s = _
    unfold execWtxBudgetExpired
    simp only [hg, hx, hp]
    rw [if_pos ⟨hair, hdue⟩]
    rfl
  rw [hexec, hpoint, done_eq]

/-- Settles O32: the window's opening, a reply start in each of its places, the window's closing, and the S(WTX) budget. -/
theorem responseWindows : Obligations.ResponseWindows := by
  unfold Obligations.ResponseWindows
  refine ⟨?opens, ?starts, ?outside, ?closes, ?shut, ?budget⟩
  case opens =>
    intro s v g x hg hx hair hdue
    refine ⟨_, s.windowOpened v g.step.channel x, ends_responseWindowOpen hg hx hair hdue,
      ((s.cancel_changes _).trans (State.setExchange_changes _ _ _)).mono (by simp) (by simp), s.cancel_isArmed _,
      State.setExchange_self _ v _, fun w hw => State.setExchange_other _ v w _ hw, rfl, rfl, rfl, rfl, rfl, rfl, rfl⟩
  case starts =>
    intro s v g x off b lead sof hg hx hair hnow ho hl
    have hexec := exec_replyStart_inside b lead sof hg hx hair hnow ho hl
    refine ⟨fun he hsub => ?_, fun he => ?_, fun he hw hsub => ?_⟩
    · have hnot : ¬(x.frame.window = .iso15Write ∧ inSubWindow off = false) := by
        rintro ⟨hw, hout⟩
        exact Bool.false_ne_true (hout.symm.trans (hsub hw))
      have hle := hear_steps_le (replyCoding s v g.step x) x.latch x.range (samplesBefore x off b) (lead ++ sof)
      have hfixed := hear_steps_fixed (replyCoding s v g.step x) (latch := x.latch) x.range (samplesBefore x off b) (lead ++ sof)
      rw [if_neg (not_lt.2 he), if_neg hnot] at hexec
      generalize hear (replyCoding s v g.step x) x.latch x.range (samplesBefore x off b) (lead ++ sof) = h at hle hfixed hexec ⊢
      refine ⟨_, x.receiving off h, hexec, s.replyStarted_changes v x off h, s.replyStarted_isArmed v x off h (by simp),
        s.replyStarted_isArmed v x off h (by simp), State.setExchange_self _ v _, fun w hw => State.setExchange_other _ v w _ hw,
        rfl, rfl, rfl, rfl, rfl, rfl, rfl, rfl, rfl, hle, hfixed, x.receiving_shortNoise off h, fun hp => ?_, fun p at_ hp hfrom => ?_⟩
      · exact Prog.setBlock_eq_self fun p h => p.repliedAt_none _ (hp p h)
      · rw [Exchange.receiving, Prog.blockEx_setBlock, hp, Option.map_some, p.repliedAt_some _ hfrom]
    · rw [if_pos he] at hexec
      exact hexec
    · rw [if_neg (not_lt.2 he), if_pos ⟨hw, hsub⟩] at hexec
      exact hexec
  case outside =>
    intro s v g x off b lead sof hg hx h
    exact ends_replyStart_outside b lead sof hg hx h
  case closes =>
    intro s v g x hg hx hair hdue
    exact ends_responseWindowClose hg hx hair hdue
  case shut =>
    intro s v g x st at_ hair hready hst hcap
    obtain ⟨hnone, hearly, hcrc, hother⟩ := State.windowShut_counts v x st at_ hcap
    exact ⟨s.windowShut v x st at_, x.shut st at_, State.shutWindow_eq v g.step x st at_ hready, rfl, rfl, rfl, rfl, rfl, rfl,
      s.windowShut_isArmed v x st at_, hnone, hearly, hcrc, hother⟩
  case budget =>
    intro s v g x p hg hx hp hair hdue hready
    exact ⟨_, s.budgetExchange x p, exec_wtxBudgetExpired hg hx hp hair hdue hready, s.budgetOut_changes v x p,
      s.budgetOut_isArmed v x p (by simp), s.budgetOut_isArmed v x p (by simp), s.budgetOut_isArmed v x p (by simp), rfl, rfl, rfl, rfl⟩

end Sys2Proof.Machine
end

section
/-! PROOFS. A received frame decided, judged and recorded (chapter 4, R92 to R94): the statement `ReplyFrames`. -/

namespace Sys2Proof.Machine

/-! ### What a frame leaves in the objects of its channel and voice -/

theorem metroKey_ob_outside {i n : Nat} (hi : i < 0x8000 ∨ 0x800F < i) (hn : n < 256) : metroKey (ob i n) = false := by
  simp only [metroKey, keyIndex_ob hn, Bool.and_eq_false_iff, decide_eq_false_iff_not]
  omega

theorem dict_bits_frameCounter {ch : Nat} (hch : ch < 64) : ∀ n ∈ [0x06, 0x08], Dict.bits (ob (0x2200 + ch) n) = 32 := by
  have h : ∀ ch : Channel, ∀ n ∈ [0x06, 0x08], Dict.bits (ob (0x2200 + ch.val) n) = 32 := by decide
  exact h ⟨ch, hch⟩

/-- A frame counted in the objects of its channel: frames, clipped frames and changes of range. -/
def State.frameTallied (s : State) (ch : Nat) (r : CellRun) : State :=
  let s := s.inc (ob (0x2200 + ch) 0x06)
  let s := if r.clipped then s.inc (ob (0x2200 + ch) 0x07) else s
  s.add (ob (0x2200 + ch) 0x08) r.changes

/-- The lock of a frame's range noted: counted in its voice and announced (R92). -/
def State.lockNoted (s : State) (v : VoiceId) (g : Grant) (r : CellRun) : State :=
  if r.locked then (s.inc (ob (0x2280 + v.val) 0x09)).voiceEvent v 9 [g.step.tenant] g.step.channel g.drive else s

/-- The clipping of a frame announced (R92). -/
def State.clipNoted (s : State) (v : VoiceId) (g : Grant) (r : CellRun) : State :=
  if r.clipped then s.voiceEvent v 10 [g.step.tenant] g.step.channel g.drive else s

theorem State.countFrame_eq (s : State) (v : VoiceId) (g : Grant) (r : CellRun) :
    s.countFrame v g r = ((s.frameTallied g.step.channel r).lockNoted v g r).clipNoted v g r := rfl

theorem State.rd_lockNoted (s : State) (v : VoiceId) (g : Grant) (r : CellRun) {k : Nat} (hk : k ≠ ob (0x2280 + v.val) 0x09)
    (hm : metroKey k = false) : (s.lockNoted v g r).rd k = s.rd k := by
  unfold State.lockNoted
  split
  · rw [State.voiceEvent, State.rd_raise _ _ _ _ _ hm, State.rd_inc_other _ hk]
  · rfl

theorem State.rd_clipNoted (s : State) (v : VoiceId) (g : Grant) (r : CellRun) {k : Nat} (hm : metroKey k = false) :
    (s.clipNoted v g r).rd k = s.rd k := by
  unfold State.clipNoted
  split
  · rw [State.voiceEvent, State.rd_raise _ _ _ _ _ hm]
  · rfl

/-- Beside the channel's counters and the voice's count of locks (0x228n.09), a frame raises events. -/
theorem State.rd_countFrame (s : State) (v : VoiceId) (g : Grant) (r : CellRun) {k : Nat} (hk : k ≠ ob (0x2280 + v.val) 0x09)
    (hm : metroKey k = false) : (s.countFrame v g r).rd k = (s.frameTallied g.step.channel r).rd k := by
  rw [State.countFrame_eq, State.rd_clipNoted _ _ _ _ hm, State.rd_lockNoted _ _ _ _ hk hm]

/-- A channel's counters leave every other object. -/
theorem State.frameTallied_changes (s : State) (ch : Nat) (r : CellRun) :
    Changes [] [ob (0x2200 + ch) 0x06, ob (0x2200 + ch) 0x07, ob (0x2200 + ch) 0x08] s (s.frameTallied ch r) := by
  unfold State.frameTallied
  dsimp only
  split
  · exact ((s.inc_changes _).trans (State.inc_changes _ _)).trans (State.add_changes _ _ _)
  · exact ((s.inc_changes _).trans (State.add_changes _ _ _)).mono (by simp) (by simp)

/-- Events and counts leave the calibration's state. -/
theorem State.countFrame_cal (s : State) (v : VoiceId) (g : Grant) (r : CellRun) : (s.countFrame v g r).cal = s.cal := by
  have htally : (s.frameTallied g.step.channel r).cal = s.cal := (s.frameTallied_changes _ r).same (p := .cal) (by simp)
  rw [State.countFrame_eq, ← htally]
  unfold State.clipNoted State.lockNoted State.voiceEvent
  split_ifs <;> simp

theorem State.rd_frameTallied_frames {s : State} {ch : Nat} (hch : ch < 64) (r : CellRun)
    (h : s.rd (ob (0x2200 + ch) 0x06) + 1 < 2 ^ 32) :
    (s.frameTallied ch r).rd (ob (0x2200 + ch) 0x06) = s.rd (ob (0x2200 + ch) 0x06) + 1 := by
  have hinc := s.rd_inc_self (ob (0x2200 + ch) 0x06) (by rwa [dict_bits_frameCounter hch _ (by simp)])
  unfold State.frameTallied
  dsimp only
  rw [State.rd_add_other _ _ (by simp)]
  split
  · rw [State.rd_inc_other _ (by simp), hinc]
  · exact hinc

theorem State.rd_frameTallied_changes {s : State} {ch : Nat} (hch : ch < 64) (r : CellRun)
    (h : s.rd (ob (0x2200 + ch) 0x08) + r.changes < 2 ^ 32) :
    (s.frameTallied ch r).rd (ob (0x2200 + ch) 0x08) = s.rd (ob (0x2200 + ch) 0x08) + r.changes := by
  have hbefore : (if r.clipped then (s.inc (ob (0x2200 + ch) 0x06)).inc (ob (0x2200 + ch) 0x07) else s.inc (ob (0x2200 + ch) 0x06)).rd
      (ob (0x2200 + ch) 0x08) = s.rd (ob (0x2200 + ch) 0x08) := by
    split
    · rw [State.rd_inc_other _ (by simp), State.rd_inc_other _ (by simp)]
    · exact State.rd_inc_other _ (by simp)
  unfold State.frameTallied
  dsimp only
  rw [State.rd_add_self, hbefore]
  rwa [hbefore, dict_bits_frameCounter hch _ (by simp)]

/-! ### A frame judged (R93, Table 4-5) -/

theorem State.judged_changes (s : State) (v : VoiceId) (ch : Nat) (x : Exchange) (range : Nat) :
    Changes [] [ob (0x2480 + v.val) 0x02, ob (0x2480 + v.val) 0x03, ob (0x2480 + v.val) 0x04, ob (0x2480 + v.val) 0x07,
      ob (0x2200 + ch) 0x03, ob (0x2200 + ch) 0x04, ob (0x2200 + ch) 0x05] s (s.judged v ch x range) := by
  unfold State.judged
  dsimp only
  split
  · exact (s.countStatus_changes v x.status).trans (State.wrAll_changes _ _)
  · exact (s.countStatus_changes v x.status).mono (by simp) (by simp)

/-- An accepted frame leaves its end range, its quality record and its instant. -/
theorem State.rd_judged_accepted (s : State) (v : VoiceId) (ch : Nat) {x : Exchange} (range : Nat) (h : x.status = 0) :
    (s.judged v ch x range).rd (ob (0x2200 + ch) 0x03) = range ∧
    (s.judged v ch x range).rd (ob (0x2200 + ch) 0x04) = leNat x.quality ∧
    (s.judged v ch x range).rd (ob (0x2200 + ch) 0x05) = x.stamp := by
  simp [State.judged, h, State.rd_wr]

theorem State.judged_refused (s : State) (v : VoiceId) (ch : Nat) {x : Exchange} (range : Nat) (h : x.status ≠ 0) :
    s.judged v ch x range = s.countStatus v x.status := if_neg h

/-- No object of a channel's receiver is one of a voice's tag exchange. -/
theorem channelKey_ne_counterKey {ch : Nat} (v : VoiceId) {m n : Nat} (hch : ch < 64) (hm : m < 256) (hn : n < 256) :
    ob (0x2200 + ch) m ≠ ob (0x2480 + v.val) n := by
  rw [Ne, ob_inj hm hn]
  omega

/-- The status of a frame is counted whether it is accepted or not. -/
theorem State.judged_counts (s : State) (v : VoiceId) {ch : Nat} (x : Exchange) (range : Nat) (hch : ch < 64)
    (hcap : ∀ n ∈ [0x02, 0x03, 0x04, 0x07], s.rd (ob (0x2480 + v.val) n) + 1 < 2 ^ 32) :
    CountsStatus s (s.judged v ch x range) v x.status := by
  have hcounts := s.countStatus_counts v x.status hcap
  have hrd : ∀ n < 256, (s.judged v ch x range).rd (ob (0x2480 + v.val) n) = (s.countStatus v x.status).rd (ob (0x2480 + v.val) n) := by
    intro n hn
    unfold State.judged
    dsimp only
    split
    · refine State.rd_wrAll_other _ _ _ ?_
      simp only [List.forall_mem_cons, List.not_mem_nil, false_imp_iff, implies_true, and_true]
      exact ⟨(channelKey_ne_counterKey v hch (by decide) hn).symm, (channelKey_ne_counterKey v hch (by decide) hn).symm,
        (channelKey_ne_counterKey v hch (by decide) hn).symm⟩
    · rfl
  rw [CountsStatus, hrd _ (by decide), hrd _ (by decide), hrd _ (by decide), hrd _ (by decide)]
  exact hcounts

/-! ### The end of a frame (R86, R89 to R94, R112) -/

section replyFrameEnd
variable (s : State) (v : VoiceId) (g : Grant) (x : Exchange) (f : TagFrame)

/-- The reply that a received frame spells. -/
def State.heardReply : TagReply := (s.decoding v g.step x f).reply x.frame (s.rates v g.step).2 f.delims

/-- The exchange at the end of a received frame: status and detail of the checks, stamp, gap, quality record and margin. -/
def State.frameEnded : Exchange :=
  let dec := s.decoding v g.step x f
  let reply := s.heardReply v g x f
  let endAt := s.replyEnd v g.step x f dec.truncated.isNone
  let st := frameStatus x.frame.expect x.frame.typeB reply
  let q := qualityRecord x dec (!x.frame.typeB && reply.collision.isSome)
  { x with
    air := .none, status := st.1, detail := st.2, stamp := endAt / 100, gap := endAt + replyGap x.frame, quality := q
    marginOk := if st.1 = 0 then
      marginMet q (s.rd (obT 0x3100 0x01 g.step.tenant)) (s.rd (obT 0x3100 0x02 g.step.tenant)) (s.rdInt (obT 0x3100 0x03 g.step.tenant)) &&
        !g.limited
      else x.marginOk }

/-- The state in which the sequencer takes its turn after a received frame: the frame counted, in its channel, its voice and the windows
of the background tunings (R213). -/
def State.frameHeard : State :=
  let run := (s.decoding v g.step x f).run
  (((s.countFrame v g run).setExchange v (s.frameEnded v g x f)).countWindow (calKey 3 g.step.channel) 1).countWindow
    (calKey 5 (0x100 + v.val)) run.changes

/-- The sequencer's turn from the state `w` after a frame that has left the exchange `y`: its frame judged, and a qualifying one taken for
the phase of its tag (R213). -/
def State.replyTaken (w : State) (v : VoiceId) (d : DueStep) (y : Exchange) (b : Octets) (bits range : Nat) : State :=
  let turn := react w v d y b bits
  let turn := (turn.1.judged v d.channel { turn.2.1 with quality := y.quality, stamp := y.stamp } range, turn.2)
  let clean := (byteAt y.quality 14 &&& 0x2F) == 0 && y.status == 0 && w.isOn (ob (0x6100 + d.channel) 0x07) && !w.referenceRuns d.channel
  let w := match clean, frameHandle d y.refreshed turn.2.1.refreshed with
    | true, some h => turn.1.anchorFrame d.channel h y.phase
    | _, _ => turn.1
  State.took v (w, turn.2)

/-- Without background antenna correction on its channel a frame is taken for no phase. -/
theorem State.replyTaken_uncorrected {w : State} (v : VoiceId) {d : DueStep} (y : Exchange) (b : Octets) (bits range : Nat)
    (h : w.rd (ob (0x6100 + d.channel) 0x07) = 0) :
    w.replyTaken v d y b bits range = State.took v
      ((react w v d y b bits).1.judged v d.channel { (react w v d y b bits).2.1 with quality := y.quality, stamp := y.stamp } range,
        (react w v d y b bits).2) := by
  have hoff : w.isOn (ob (0x6100 + d.channel) 0x07) = false := by rw [State.isOn, h]; rfl
  unfold State.replyTaken
  simp only [hoff, Bool.and_false, Bool.false_and]

theorem State.frameHeard_changes :
    Changes [.voices, .cal] [] (s.countFrame v g (s.decoding v g.step x f).run) (s.frameHeard v g x f) := by
  unfold State.frameHeard
  exact (((State.setExchange_changes _ _ _).trans (State.countWindow_changes _ _ _)).trans (State.countWindow_changes _ _ _)).mono
    (by simp) (by simp)

theorem State.rd_frameHeard {k : Nat} (hk : k ≠ ob (0x2280 + v.val) 0x09) (hm : metroKey k = false) :
    (s.frameHeard v g x f).rd k = (s.frameTallied g.step.channel (s.decoding v g.step x f).run).rd k :=
  (s.frameHeard_changes v g x f).rd List.not_mem_nil |>.trans (s.rd_countFrame v g _ hk hm)

theorem State.frameHeard_ready : (s.frameHeard v g x f).cal.ready = s.cal.ready := by
  unfold State.frameHeard
  dsimp only
  rw [State.countWindow_ready, State.countWindow_ready, State.setExchange_cal, State.countFrame_cal]

variable {s v g x} (hg : s.voices[v].grant = some g) (hx : s.voices[v].exchange = some x)
include hg hx

theorem exec_replyFrameEnd (hair : x.air = .receiving)
    (hend : s.replyEnd v g.step x f (s.decoding v g.step x f).truncated.isNone < 100 * (s.now + 1)) :
    Ends (.replyFrameEnd v f) s (((s.frameHeard v g x f).receivePoint v).replyTaken v g.step (s.frameEnded v g x f)
      (s.heardReply v g x f).bytes (s.heardReply v g x f).bits (s.decoding v g.step x f).run.range) := by
  change execReplyFrameEnd v f s = _
  unfold execReplyFrameEnd
  simp only [hg, hx]
  rw [if_neg (not_or.2 ⟨not_not.2 hair, not_le.2 hend⟩), done_eq]
  rfl

/-- A frame that is not being received, or that ends later, changes nothing. -/
theorem ends_replyFrameEnd_outside
    (h : x.air ≠ .receiving ∨ 100 * (s.now + 1) ≤ s.replyEnd v g.step x f (s.decoding v g.step x f).truncated.isNone) :
    Ends (.replyFrameEnd v f) s s := by
  change execReplyFrameEnd v f s = _
  unfold execReplyFrameEnd
  simp only [hg, hx]
  rw [if_pos h, done_eq]

end replyFrameEnd

/-- Settles O33: the turn after a received frame, what judging a frame leaves, and the frames that change nothing. -/
theorem replyFrames : Obligations.ReplyFrames := by
  unfold Obligations.ReplyFrames
  refine ⟨?ended, ?judged, ?outside⟩
  case ended =>
    intro s v g x f hg hx hair hready hcorr hch i dec endAt reply st q hend hframes hchanges
    have hv := v.isLt
    have hrd : ∀ {i n : Nat}, n < 256 → i < 0x8000 → i ≠ 0x2280 + v.val →
        (s.frameHeard v g x f).rd (ob i n) = (s.frameTallied g.step.channel (s.decoding v g.step x f).run).rd (ob i n) := by
      intro i n hn hi hne
      exact s.rd_frameHeard v g x f (by rw [Ne, ob_inj hn (by decide)]; exact fun e => hne e.1) (metroKey_ob_outside (.inl hi) hn)
    have htally := s.frameTallied_changes g.step.channel (s.decoding v g.step x f).run
    have hkept : ∀ n ∈ [0x03, 0x04, 0x05],
        (s.frameHeard v g x f).rd (ob (0x2200 + g.step.channel) n) = s.rd (ob (0x2200 + g.step.channel) n) := by
      simp only [List.forall_mem_cons, List.not_mem_nil, false_imp_iff, implies_true, and_true]
      refine ⟨?_, ?_, ?_⟩ <;> exact (hrd (by decide) (by omega) (by omega)).trans (htally.rd (by simp))
    have huncorrected : (s.frameHeard v g x f).rd (ob (0x6100 + g.step.channel) 0x07) = 0 := by
      rw [hrd (by decide) (by omega) (by omega), htally.rd (by simp), hcorr]
    have hpoint : (s.frameHeard v g x f).receivePoint v = s.frameHeard v g x f :=
      State.receivePoint_of_none v ((s.frameHeard_ready v g x f).trans hready)
    have hexec := exec_replyFrameEnd f hg hx hair hend
    rw [hpoint, State.replyTaken_uncorrected v _ _ _ _ huncorrected] at hexec
    exact ⟨s.frameHeard v g x f, s.frameEnded v g x f, hexec,
      (hrd (by decide) (by omega) (by omega)).trans (State.rd_frameTallied_frames hch _ hframes),
      (hrd (by decide) (by omega) (by omega)).trans (State.rd_frameTallied_changes hch _ hchanges),
      hkept _ (by simp), hkept _ (by simp), hkept _ (by simp), rfl, rfl, rfl, rfl, rfl, rfl, rfl⟩
  case judged =>
    intro s v ch range x hch hcap
    obtain ⟨hnone, hearly, hcrc, hother⟩ := s.judged_counts v x range hch hcap
    refine ⟨s.judged_changes v ch x range, s.rd_judged_accepted v ch range, fun h n hn => ?_, hnone, hearly, hcrc, hother⟩
    have hn' : n < 256 := by
      simp only [List.mem_cons, List.not_mem_nil, or_false] at hn
      omega
    rw [s.judged_refused v ch range h]
    refine (s.countStatus_changes v x.status).rd ?_
    simp only [List.mem_cons, List.not_mem_nil, or_false, not_or]
    exact ⟨channelKey_ne_counterKey v hch hn' (by decide), channelKey_ne_counterKey v hch hn' (by decide),
      channelKey_ne_counterKey v hch hn' (by decide), channelKey_ne_counterKey v hch hn' (by decide)⟩
  case outside =>
    intro s v g x f hg hx h
    exact ends_replyFrameEnd_outside f hg hx h

end Sys2Proof.Machine
end

section
/-! PROOFS. Request frames on the air (chapter 5, R99, R108, R110, R112, R114, R122): the statement `RequestFrames`. -/

namespace Sys2Proof.Machine

/-! ### Windows of other voices disturbed (R99) -/

/-- The exchange with an open window marked. -/
def Exchange.disturbed (x : Exchange) : Exchange :=
  if x.air == .open || x.air == .receiving then { x with modulated := true } else x

/-- The voice `w` while the voice `v` modulates. -/
def Voice.besides (v w : VoiceId) (y : Voice) : Voice :=
  if w = v then y else { y with exchange := y.exchange.map Exchange.disturbed }

theorem State.setVoice_eq_self {s : State} {v : VoiceId} {f : Voice → Voice} (h : f s.voices[v] = s.voices[v]) : s.setVoice v f = s := by
  have hset : s.voices.set v s.voices[v] = s.voices := Vector.set_getElem_self v.isLt
  unfold State.setVoice
  rw [h, hset]

/-- A voice is marked exactly where its window is open. -/
theorem State.besides_voice (s : State) {v w : VoiceId} (h : w ≠ v) :
    s.voices[w].besides v w = if s.windowOpen w then
      { s.voices[w] with exchange := s.voices[w].exchange.map (fun y => { y with modulated := true }) } else s.voices[w] := by
  have hself : { s.voices[w] with exchange := s.voices[w].exchange } = s.voices[w] := rfl
  unfold Voice.besides State.windowOpen
  rw [if_neg h]
  cases he : s.voices[w].exchange with
  | none => rwa [he] at hself
  | some x =>
    rw [he] at hself
    dsimp only [Option.map_some, Exchange.disturbed]
    split
    · rfl
    · exact hself

theorem State.setVoice_besides (s : State) (v w : VoiceId) : s.setVoice w (Voice.besides v w) =
    if w = v then s else if s.windowOpen w then
      s.setVoice w (fun y => { y with exchange := y.exchange.map (fun x => { x with modulated := true }) }) else s := by
  by_cases h : w = v
  · rw [if_pos h]
    exact State.setVoice_eq_self (if_pos h)
  · have hb := s.besides_voice h
    rw [if_neg h]
    split
    · next ho =>
      unfold State.setVoice
      rw [hb, if_pos ho]
    · next ho =>
      exact State.setVoice_eq_self (hb.trans (if_neg ho))

theorem State.modulating_eq (s : State) (v : VoiceId) :
    s.modulating v = voiceIds.foldl (fun s w => s.setVoice w (Voice.besides v w)) s := by
  simp only [State.setVoice_besides]
  rfl

/-- Each voice of a list set once. -/
theorem State.foldl_setVoice_voices (f : VoiceId → Voice → Voice) {l : List VoiceId} (hl : l.Nodup) (s : State) (w : VoiceId) :
    (l.foldl (fun s a => s.setVoice a (f a)) s).voices[w] = if w ∈ l then f w s.voices[w] else s.voices[w] := by
  induction l generalizing s with
  | nil => rfl
  | cons a l ih =>
    obtain ⟨ha, hl⟩ := List.nodup_cons.1 hl
    rw [List.foldl_cons, ih hl]
    by_cases hw : w = a
    · subst hw
      simp [ha]
    · simp [hw, State.setVoice_other s a w (f a) hw]

theorem State.foldl_setVoice_changes (f : VoiceId → Voice → Voice) (l : List VoiceId) (s : State) :
    Changes [.voices] [] s (l.foldl (fun s a => s.setVoice a (f a)) s) := by
  induction l generalizing s with
  | nil => exact (Changes.refl s).mono (by simp) (by simp)
  | cons a l ih => exact ((s.setVoice_changes a (f a)).trans (ih _)).mono (by simp) (by simp)

theorem State.modulating_voices (s : State) (v w : VoiceId) : (s.modulating v).voices[w] = s.voices[w].besides v w := by
  rw [State.modulating_eq]
  exact (State.foldl_setVoice_voices (Voice.besides v) (List.nodup_finRange 4) s w).trans (if_pos (List.mem_finRange w))

theorem State.modulating_self (s : State) (v : VoiceId) : (s.modulating v).voices[v] = s.voices[v] :=
  (s.modulating_voices v v).trans (if_pos rfl)

theorem State.modulating_changes (s : State) (v : VoiceId) : Changes [.voices] [] s (s.modulating v) := by
  rw [State.modulating_eq]
  exact State.foldl_setVoice_changes _ _ s

/-! ### The frame in the buffer begins (R108, R112, R140) -/

theorem dict_bits_requestCounter (v : VoiceId) : Dict.bits (ob (0x2480 + v.val) 0x01) = 32 := by
  revert v; decide

/-- When the frame in the buffer ends, if it begins now. -/
def State.sendsUntil (s : State) (v : VoiceId) (d : DueStep) (x : Exchange) : Nat :=
  (if x.advances then x.gap else max x.gap (100 * s.now)) + x.frame.duration d.settings.coding (s.rates v d).1

/-- The voice that sends its frame until `e`. -/
def Voice.sendingUntil (y : Voice) (g : Grant) (x : Exchange) (e : Nat) : Voice :=
  { y with
    exchange := some { x with air := .sending, ref := e, opened := 0, modulated := false }
    ask := x.frame.modulation g.step g.askLow }

/-- The state once a voice's frame, which ends at `e`, has begun. -/
def State.frameBegun (s : State) (v : VoiceId) (g : Grant) (x : Exchange) (e : Nat) : State :=
  (((s.setVoice v (fun y => y.sendingUntil g x e)).modulating v).inc (ob (0x2480 + v.val) 0x01)).arm (.frameEnd v) (e / 100)

/-- Two changes of one voice are one. -/
theorem State.setVoice_setVoice (s : State) (v : VoiceId) (f h : Voice → Voice) :
    (s.setVoice v f).setVoice v h = s.setVoice v (fun y => h (f y)) := by
  have hself : (s.voices.set v (f s.voices[v]))[v] = f s.voices[v] := s.setVoice_self v f
  have hset : (s.voices.set v (f s.voices[v])).set v (h (f s.voices[v])) = s.voices.set v (h (f s.voices[v])) :=
    Vector.set_set ..
  unfold State.setVoice
  dsimp only
  rw [hself, hset]

theorem State.frameBegun_changes (s : State) (v : VoiceId) (g : Grant) (x : Exchange) (e : Nat) :
    Changes [.voices, .timers] [ob (0x2480 + v.val) 0x01] s (s.frameBegun v g x e) :=
  ((((s.setVoice_changes v _).trans (State.modulating_changes _ v)).trans (State.inc_changes _ _)).trans
    (State.arm_changes _ _ _)).mono (by simp) (by simp)

theorem State.rd_frameBegun (s : State) (v : VoiceId) (g : Grant) (x : Exchange) (e : Nat)
    (h : s.rd (ob (0x2480 + v.val) 0x01) + 1 < 2 ^ 32) :
    (s.frameBegun v g x e).rd (ob (0x2480 + v.val) 0x01) = s.rd (ob (0x2480 + v.val) 0x01) + 1 := by
  have hrd : ((s.setVoice v (fun y => y.sendingUntil g x e)).modulating v).rd (ob (0x2480 + v.val) 0x01) =
      s.rd (ob (0x2480 + v.val) 0x01) := ((s.setVoice_changes v _).trans (State.modulating_changes _ v)).rd (by simp)
  refine (State.rd_inc_self _ _ ?_).trans (by rw [hrd])
  rwa [hrd, dict_bits_requestCounter]

theorem State.frameBegun_voices (s : State) (v : VoiceId) (g : Grant) (x : Exchange) (e : Nat) :
    (s.frameBegun v g x e).voices = ((s.setVoice v (fun y => y.sendingUntil g x e)).modulating v).voices := by
  rw [State.frameBegun, State.arm_voices, State.inc_voices]

theorem State.frameBegun_self (s : State) (v : VoiceId) (g : Grant) (x : Exchange) (e : Nat) :
    (s.frameBegun v g x e).voices[v] = s.voices[v].sendingUntil g x e := by
  rw [State.frameBegun_voices]
  exact (State.modulating_self _ v).trans (s.setVoice_self v _)

theorem State.frameBegun_other (s : State) (v : VoiceId) (g : Grant) (x : Exchange) (e : Nat) {w : VoiceId} (h : w ≠ v) :
    (s.frameBegun v g x e).voices[w] = if s.windowOpen w then
      { s.voices[w] with exchange := s.voices[w].exchange.map (fun y => { y with modulated := true }) } else s.voices[w] := by
  have hw : (s.setVoice v (fun y => y.sendingUntil g x e)).voices[w] = s.voices[w] := s.setVoice_other v w _ h
  rw [State.frameBegun_voices, State.modulating_voices, hw]
  exact s.besides_voice h

theorem ends_requestFrameStart {s : State} {v : VoiceId} {g : Grant} {x : Exchange} (hg : s.voices[v].grant = some g)
    (hx : s.voices[v].exchange = some x) (hlevel : s.voiceState v = 4) (hair : x.air = .ready) (hgap : x.gap < 100 * (s.now + 1))
    (hlink : s.linkReady .field = true) :
    Ends (.requestFrameStart v) s (s.frameBegun v g x (s.sendsUntil v g.step x)) := by
  change execRequestFrameStart v s = _
  unfold execRequestFrameStart
  simp only [hg, hx]
  rw [if_pos ⟨hlevel, hair, hgap, hlink⟩, done_eq, State.setExchange, State.setVoice_setVoice]
  rfl

/-- Before the minimum gap is past nothing changes. -/
theorem ends_requestFrameStart_early {s : State} {v : VoiceId} {g : Grant} {x : Exchange} (hg : s.voices[v].grant = some g)
    (hx : s.voices[v].exchange = some x) (h : 100 * (s.now + 1) ≤ x.gap) : Ends (.requestFrameStart v) s s := by
  change execRequestFrameStart v s = _
  unfold execRequestFrameStart
  simp only [hg, hx]
  rw [if_neg (fun ⟨_, _, hgap, _⟩ => absurd hgap (not_lt.2 h)), done_eq]

/-! ### The window of a request set out (R110, R122) -/

/-- The state with the instants set at which a window opens and closes, counted from the reference `ref`. -/
def State.windowSet (s : State) (v : VoiceId) (d : DueStep) (x : Exchange) (ref : Nat) : State :=
  (s.arm (.windowOpen v) ((ref + x.frame.window.opens) / 100)).arm (.close v)
    ((ref + x.frame.window.closes d.settings.mode (s.rates v d).2) / 100)

/-- A block exchange at the end `e` of its request: that of an S(WTX) response starts the time it is granted (R122). -/
def BlockEx.sentAt (p : BlockEx) (e : Nat) : BlockEx :=
  if p.temp.isSome then { p with temp := none, wtxFrom := some e } else p

/-- The end of an S(WTX) response sets the instant at which what is left of the budget runs out (R122). -/
def State.budgetSet (s : State) (v : VoiceId) (d : DueStep) (x : Exchange) : State :=
  match x.prog.blockEx with
  | some p => if p.temp.isSome then s.arm (.wtx v) ((x.ref + d.settings.budget * 100 - p.wtxSum) / 100) else s
  | none => s

/-- The exchange that awaits its window. -/
def Exchange.awaiting (x : Exchange) : Exchange :=
  { x with air := .windowWait, ref := x.frame.reference x.ref, prog := x.prog.setBlock (fun p => p.sentAt x.ref) }

theorem Prog.setBlock_congr {p : Prog} {f h : BlockEx → BlockEx} (hfh : ∀ b, p.blockEx = some b → f b = h b) :
    p.setBlock f = p.setBlock h := by
  cases p with
  | apdu b => exact congrArg Prog.apdu (hfh b rfl)
  | ndef4 stage off left cc got b => exact congrArg (Prog.ndef4 stage off left cc got) (hfh b rfl)
  | _ => rfl

/-- What a write notes when its request has been sent touches no block exchange. -/
@[simp] theorem Prog.blockEx_sent (p : Prog) (r : Octets) : (p.sent r).blockEx = p.blockEx := by
  cases p <;> rfl

theorem Prog.sent_of_blockEx {p : Prog} {b : BlockEx} (r : Octets) (h : p.blockEx = some b) : p.sent r = p := by
  cases p with
  | writing w => exact absurd h (by simp [Prog.blockEx])
  | _ => rfl

/-- Outside the end of an S(WTX) response the sequencer stays as it is. -/
theorem Prog.setBlock_sentAt_of_none {p : Prog} (e : Nat) (h : ∀ b, p.blockEx = some b → b.temp = none) :
    p.setBlock (fun b => b.sentAt e) = p :=
  Prog.setBlock_eq_self fun b hb => by simp [BlockEx.sentAt, h b hb]

theorem Prog.setBlock_sentAt_of_some {p : Prog} {b : BlockEx} (e : Nat) (hb : p.blockEx = some b) (ht : b.temp.isSome = true) :
    p.setBlock (fun b => b.sentAt e) = p.setBlock (fun b => { b with temp := none, wtxFrom := some e }) := by
  refine Prog.setBlock_congr fun c hc => ?_
  obtain rfl := Option.some.inj (hc.symm.trans hb)
  exact if_pos ht

theorem State.budgetSet_of_none {s : State} {v : VoiceId} {d : DueStep} {x : Exchange}
    (h : ∀ p, x.prog.blockEx = some p → p.temp = none) : s.budgetSet v d x = s := by
  unfold State.budgetSet
  split
  · next p hp => simp [h p hp]
  · rfl

theorem State.budgetSet_of_some {s : State} {v : VoiceId} {d : DueStep} {x : Exchange} {p : BlockEx} (hp : x.prog.blockEx = some p)
    (ht : p.temp.isSome = true) :
    s.budgetSet v d x = s.arm (.wtx v) ((x.ref + d.settings.budget * 100 - p.wtxSum) / 100) := by
  simp [State.budgetSet, hp, ht]

/-- The budget touches its own timer alone. -/
theorem State.budgetSet_frame (s : State) (v : VoiceId) (d : DueStep) (x : Exchange) :
    Changes [.timers] [] s (s.budgetSet v d x) ∧ ∀ tm, tm ≠ .wtx v → (s.budgetSet v d x).dueAt tm = s.dueAt tm := by
  have hkept : Changes [.timers] [] s s ∧ ∀ tm, tm ≠ .wtx v → s.dueAt tm = s.dueAt tm :=
    ⟨(Changes.refl s).mono (by simp) (by simp), fun _ _ => rfl⟩
  unfold State.budgetSet
  split
  · split
    · exact ⟨s.arm_changes _ _, fun tm htm => s.arm_dueAt_other _ htm⟩
    · exact hkept
  · exact hkept

theorem State.awaitReply_eq (s : State) (v : VoiceId) (d : DueStep) (x : Exchange) :
    s.awaitReply v d x = ((s.windowSet v d x (x.frame.reference x.ref)).setExchange v x.awaiting).budgetSet v d x := by
  by_cases h : ∃ p, x.prog.blockEx = some p ∧ p.temp.isSome = true
  · obtain ⟨p, hp, ht⟩ := h
    rw [State.budgetSet_of_some hp ht, Exchange.awaiting, Prog.setBlock_sentAt_of_some _ hp ht]
    simp only [State.awaitReply, hp, ht, if_true]
    rfl
  · have hnone : ∀ p, x.prog.blockEx = some p → p.temp = none := fun p hp => by simpa using fun ht => h ⟨p, hp, ht⟩
    rw [State.budgetSet_of_none hnone, Exchange.awaiting, Prog.setBlock_sentAt_of_none _ hnone]
    unfold State.awaitReply
    dsimp only
    split
    · next p hp =>
      rw [hnone p hp]
      rfl
    · rfl

section awaitReply
variable (s : State) (v : VoiceId) (d : DueStep) (x : Exchange)

theorem State.awaitReply_changes : Changes [.voices, .timers] [] s (s.awaitReply v d x) := by
  rw [State.awaitReply_eq]
  exact ((((s.arm_changes _ _).trans (State.arm_changes _ _ _)).trans (State.setExchange_changes _ v _)).trans
    (State.budgetSet_frame _ v d x).1).mono (by simp) (by simp)

theorem State.awaitReply_voices : (s.awaitReply v d x).voices = (s.setExchange v x.awaiting).voices := by
  rw [State.awaitReply_eq]
  exact (State.budgetSet_frame _ v d x).1.same (p := .voices) (by simp)

/-- The timers but the budget's. -/
theorem State.awaitReply_dueAt {tm : Timer} (h : tm ≠ .wtx v) :
    (s.awaitReply v d x).dueAt tm = (s.windowSet v d x (x.frame.reference x.ref)).dueAt tm := by
  rw [State.awaitReply_eq]
  exact (State.budgetSet_frame _ v d x).2 tm h

theorem State.awaitReply_dueAt_windowOpen :
    (s.awaitReply v d x).dueAt (.windowOpen v) = some ((x.frame.reference x.ref + x.frame.window.opens) / 100) :=
  (s.awaitReply_dueAt v d x (by simp)).trans ((State.arm_dueAt_other _ _ (by simp)).trans (State.arm_dueAt _ _ _))

theorem State.awaitReply_dueAt_close : (s.awaitReply v d x).dueAt (.close v) =
    some ((x.frame.reference x.ref + x.frame.window.closes d.settings.mode (s.rates v d).2) / 100) :=
  (s.awaitReply_dueAt v d x (by simp)).trans (State.arm_dueAt _ _ _)

variable {x}

theorem State.awaitReply_dueAt_wtx_of_none (h : ∀ p, x.prog.blockEx = some p → p.temp = none) :
    (s.awaitReply v d x).dueAt (.wtx v) = s.dueAt (.wtx v) := by
  rw [State.awaitReply_eq, State.budgetSet_of_none h]
  exact (State.arm_dueAt_other _ _ (by simp)).trans (State.arm_dueAt_other _ _ (by simp))

theorem State.awaitReply_dueAt_wtx_of_some {p : BlockEx} (hp : x.prog.blockEx = some p) (ht : p.temp.isSome = true) :
    (s.awaitReply v d x).dueAt (.wtx v) = some ((x.ref + d.settings.budget * 100 - p.wtxSum) / 100) := by
  rw [State.awaitReply_eq, State.budgetSet_of_some hp ht]
  exact State.arm_dueAt _ _ _

end awaitReply

/-! ### The end of a frame (R27, R110, R112, R114) -/

/-- The exchange whose request has been sent. -/
def Exchange.requested (x : Exchange) (d : DueStep) : Exchange := { x with prog := x.prog.sent d.record }

/-- The exchange after a request that expects nothing: the gap of its kind counts from its end. -/
def State.unanswered (s : State) (v : VoiceId) (d : DueStep) (x : Exchange) : Exchange :=
  { x with
    air := .none, stamp := x.ref / 100
    gap := if x.frame.window = .none then x.ref + x.frame.idle
      else x.frame.reference x.ref + x.frame.window.closes d.settings.mode (s.rates v d).2 }

/-- What follows the frame of a step that has not been abandoned: its separate EOF, its turn or its window. -/
def State.frameOver (s : State) (v : VoiceId) (d : DueStep) (x : Exchange) : State :=
  match x.frame.eof with
  | some w => ((s.cancel (.frameEnd v)).setExchange v { x.requested d with air := .eofWait }).arm (.eof v) ((x.ref + w) / 100)
  | none =>
    if x.frame.expect = .nothing then State.took v (react (s.cancel (.frameEnd v)) v d (s.unanswered v d (x.requested d)) [] 0)
    else (s.cancel (.frameEnd v)).awaitReply v d (x.requested d)

theorem State.frameOver_of_eof (s : State) (v : VoiceId) (d : DueStep) {x : Exchange} {w : Nat} (h : x.frame.eof = some w) :
    s.frameOver v d x =
      ((s.cancel (.frameEnd v)).setExchange v { x.requested d with air := .eofWait }).arm (.eof v) ((x.ref + w) / 100) := by
  simp only [State.frameOver, h]

theorem State.frameOver_of_nothing (s : State) (v : VoiceId) (d : DueStep) {x : Exchange} (h : x.frame.eof = none)
    (he : x.frame.expect = .nothing) :
    s.frameOver v d x = State.took v (react (s.cancel (.frameEnd v)) v d (s.unanswered v d (x.requested d)) [] 0) := by
  simp only [State.frameOver, h, he, if_true]

theorem State.frameOver_of_reply (s : State) (v : VoiceId) (d : DueStep) {x : Exchange} (h : x.frame.eof = none)
    (he : x.frame.expect ≠ .nothing) : s.frameOver v d x = (s.cancel (.frameEnd v)).awaitReply v d (x.requested d) := by
  simp only [State.frameOver, h, he, if_false]

section requestFrameEnd
variable {s : State} {v : VoiceId} {g : Grant} {x : Exchange} (hg : s.voices[v].grant = some g) (hx : s.voices[v].exchange = some x)
  (hair : x.air = .sending) (hdue : s.isDue (.frameEnd v) = true)
include hg hx hair hdue

/-- The frame of an abandoned grant is the voice's last (R27). -/
theorem ends_requestFrameEnd_abandoned (h : s.voices[v].abandoned = true) :
    Ends (.requestFrameEnd v) s ((s.cancel (.frameEnd v)).releaseVoice v) := by
  change execRequestFrameEnd v s = _
  unfold execRequestFrameEnd
  simp only [hg, hx]
  exact (if_pos ⟨hair, hdue⟩).trans ((if_pos h).trans (done_eq _))

theorem ends_requestFrameEnd (h : s.voices[v].abandoned = false) : Ends (.requestFrameEnd v) s (s.frameOver v g.step x) := by
  change execRequestFrameEnd v s = _
  unfold execRequestFrameEnd State.frameOver
  simp only [hg, hx]
  refine (if_pos ⟨hair, hdue⟩).trans ((if_neg (fun e => Bool.false_ne_true (h.symm.trans e))).trans ?_)
  cases x.frame.eof with
  | some w => rfl
  | none => exact (apply_ite done _ _ _).symm

end requestFrameEnd

/-! ### The separate EOF (R114) -/

/-- The exchange whose separate EOF is sent until `e`. -/
def Exchange.eofSent (x : Exchange) (e : Nat) : Exchange :=
  { x with air := .sending, ref := e, frame := { x.frame with bytes := [], eofOnly := true, eof := none } }

/-- The state once a voice's separate EOF, which ends at `e`, has begun. -/
def State.eofBegun (s : State) (v : VoiceId) (x : Exchange) (e : Nat) : State :=
  (((s.cancel (.eof v)).setExchange v (x.eofSent e)).modulating v).arm (.frameEnd v) (e / 100)

theorem State.eofBegun_changes (s : State) (v : VoiceId) (x : Exchange) (e : Nat) :
    Changes [.voices, .timers] [] s (s.eofBegun v x e) :=
  ((((s.cancel_changes _).trans (State.setExchange_changes _ v _)).trans (State.modulating_changes _ v)).trans
    (State.arm_changes _ _ _)).mono (by simp) (by simp)

theorem State.eofBegun_isArmed (s : State) (v : VoiceId) (x : Exchange) (e : Nat) : (s.eofBegun v x e).isArmed (.eof v) = false := by
  have htimers : (((s.cancel (.eof v)).setExchange v (x.eofSent e)).modulating v).timers = (s.cancel (.eof v)).timers :=
    ((State.setExchange_changes _ v _).trans (State.modulating_changes _ v)).same (p := .timers) (by simp)
  exact State.arm_isArmed_of _ (by simp) ((State.isArmed_congr htimers _).trans (s.cancel_isArmed _))

theorem State.eofBegun_self (s : State) (v : VoiceId) (x : Exchange) (e : Nat) :
    (s.eofBegun v x e).voices[v] = { s.voices[v] with exchange := some (x.eofSent e) } :=
  (State.modulating_self _ v).trans (State.setExchange_self _ v _)

/-- A voice without an open window is not disturbed. -/
theorem State.eofBegun_other (s : State) (v : VoiceId) (x : Exchange) (e : Nat) {w : VoiceId} (hw : w ≠ v) (h : s.windowOpen w = false) :
    (s.eofBegun v x e).voices[w] = s.voices[w] := by
  have hkept : ((s.cancel (.eof v)).setExchange v (x.eofSent e)).voices[w] = s.voices[w] := State.setExchange_other _ v w _ hw
  refine (State.modulating_voices _ v w).trans ?_
  rw [hkept, s.besides_voice hw, h]
  rfl

theorem ends_separateEofDue {s : State} {v : VoiceId} {x : Exchange} {w : Nat} (hx : s.voices[v].exchange = some x)
    (hair : x.air = .eofWait) (heof : x.frame.eof = some w) (hdue : s.isDue (.eof v) = true) :
    Ends (.separateEofDue v) s (s.eofBegun v x (x.ref + w + 3776)) := by
  change execSeparateEofDue v s = _
  unfold execSeparateEofDue
  simp only [hx]
  rw [if_pos ⟨hair, hdue⟩, heof, done_eq]
  rfl

/-- Settles O31: a frame's beginning and its gap, its end in each of its four ways, and the separate EOF. -/
theorem requestFrames : Obligations.RequestFrames := by
  unfold Obligations.RequestFrames
  refine ⟨?begins, ?early, ?ends, ?eof⟩
  case begins =>
    intro s v g x hg hx hlevel hair hgap hlink hcap
    exact ⟨_, ends_requestFrameStart hg hx hlevel hair hgap hlink, s.frameBegun_changes v g x _, s.rd_frameBegun v g x _ hcap,
      ⟨State.arm_dueAt _ _ _, s.frameBegun_self v g x _⟩, fun w hw => s.frameBegun_other v g x _ hw⟩
  case early =>
    intro s v g x hg hx h
    exact ends_requestFrameStart_early hg hx h
  case ends =>
    intro s v g x hg hx hair hdue
    have hkept : ∀ y : Exchange, ∀ w : VoiceId, w ≠ v → ((s.cancel (.frameEnd v)).setExchange v y).voices[w] = s.voices[w] :=
      fun y w hw => State.setExchange_other _ v w y hw
    refine ⟨ends_requestFrameEnd_abandoned hg hx hair hdue, fun hab w heof => ?_, fun hab heof hexpect => ?_,
      fun hab heof hexpect => ?_⟩
    · have hends := ends_requestFrameEnd hg hx hair hdue hab
      rw [State.frameOver_of_eof s v g.step heof] at hends
      exact ⟨_, hends, (((s.cancel_changes _).trans (State.setExchange_changes _ v _)).trans (State.arm_changes _ _ _)).mono
        (by simp) (by simp), State.arm_dueAt _ _ _, State.setExchange_self _ v _, hkept _⟩
    · have hends := ends_requestFrameEnd hg hx hair hdue hab
      rw [State.frameOver_of_reply s v g.step heof hexpect] at hends
      have hvoices := (s.cancel (.frameEnd v)).awaitReply_voices v g.step (x.requested g.step)
      have hblock : (x.requested g.step).prog.blockEx = x.prog.blockEx := Prog.blockEx_sent _ _
      refine ⟨_, (x.requested g.step).awaiting.prog, hends,
        ((s.cancel_changes _).trans (State.awaitReply_changes _ v _ _)).mono (by simp) (by simp),
        ⟨State.awaitReply_dueAt_windowOpen _ v _ _, State.awaitReply_dueAt_close _ v _ _, ?_⟩, fun w hw => ?_, fun h => ?_,
        fun p hp ht => ?_⟩
      · rw [hvoices]
        exact State.setExchange_self _ v _
      · rw [hvoices]
        exact hkept _ w hw
      · rw [← hblock] at h
        exact ⟨Prog.setBlock_sentAt_of_none _ h,
          (State.awaitReply_dueAt_wtx_of_none _ v _ h).trans (s.cancel_dueAt_other (by simp))⟩
      · have hsent : (x.requested g.step).prog = x.prog := Prog.sent_of_blockEx _ hp
        refine ⟨?_, State.awaitReply_dueAt_wtx_of_some _ v _ (hblock.trans hp) ht⟩
        rw [← hsent]
        exact Prog.setBlock_sentAt_of_some _ (hblock.trans hp) ht
    · have hends := ends_requestFrameEnd hg hx hair hdue hab
      rwa [State.frameOver_of_nothing s v g.step heof hexpect] at hends
  case eof =>
    intro s v x w hx hair heof hdue hquiet
    exact ⟨_, ends_separateEofDue hx hair heof hdue, s.eofBegun_changes v x _, State.arm_dueAt _ _ _, s.eofBegun_isArmed v x _,
      s.eofBegun_self v x _, fun w hw => s.eofBegun_other v x _ hw (hquiet w hw)⟩

end Sys2Proof.Machine
end

section
/-! PROOFS. Card detection (R55, R135, R136): the statement `CardDetection`. -/

namespace Sys2Proof.Machine

/-! ### The drop and the baseline (R136) -/

/-- The baseline moves down by its share of a drop. -/
theorem baseline_down {a b : Nat} (n : Nat) (h : a ≤ b) : ((b : Int) + truncDiv ((a : Int) - b) (2 ^ n)).toNat = b - (b - a) / 2 ^ n := by
  have hneg : (a : Int) - b = -((b - a : Nat) : Int) := by omega
  rw [truncDiv, hneg, Int.neg_tdiv, Int.tdiv_eq_ediv_of_nonneg (Int.natCast_nonneg _), ← Int.natCast_ediv]
  omega

/-- It moves up by its share of a rise. -/
theorem baseline_up {a b : Nat} (n : Nat) (h : b ≤ a) : ((b : Int) + truncDiv ((a : Int) - b) (2 ^ n)).toNat = b + (a - b) / 2 ^ n := by
  have hpos : (a : Int) - b = ((a - b : Nat) : Int) := by omega
  rw [truncDiv, hpos, Int.tdiv_eq_ediv_of_nonneg (Int.natCast_nonneg _), ← Int.natCast_ediv, ← Int.natCast_add,
    Int.toNat_natCast]

/-! ### The judgement of a probe (R136) -/

section judgeProbe
variable {s : State} {ch a b th : Nat}

/-- After a pause, or without a baseline, the amplitude is the baseline and the detector ABSENT. -/
theorem State.judgeProbe_of_fresh (h : s.rd (ob (0x2500 + ch) 0x06) = 2 ∨ s.rd (ob (0x2500 + ch) 0x04) = 0) :
    s.judgeProbe ch a = (s.wr (ob (0x2500 + ch) 0x04) a).wr (ob (0x2500 + ch) 0x06) 0 := if_pos h

variable (hb : s.rd (ob (0x2500 + ch) 0x04) = b) (hth : s.rd (ob (0x2500 + ch) 0x03) = th) (h0 : 0 < b)
include hb hth h0

section absent
variable (hst : s.rd (ob (0x2500 + ch) 0x06) = 0)
include hst

/-- What an ABSENT detector makes of a probe. -/
theorem State.judgeProbe_of_absent : s.judgeProbe ch a =
    if (th : Int) * b ≤ ((b : Int) - a) * 1000 then ((s.wr (ob (0x2500 + ch) 0x06) 1).wakeBy 6).cardEvent ch 0 a b
    else s.wr (ob (0x2500 + ch) 0x04) ((b : Int) + truncDiv ((a : Int) - b) (2 ^ s.rd (ob (0x2500 + ch) 0x05))).toNat := by
  subst hb hth
  have hnot : ¬(s.rd (ob (0x2500 + ch) 0x06) = 2 ∨ s.rd (ob (0x2500 + ch) 0x04) = 0) := by omega
  exact (if_neg hnot).trans (if_neg (by omega))

theorem State.judgeProbe_of_drop (hle : a ≤ b) (hdrop : th * b ≤ (b - a) * 1000) :
    s.judgeProbe ch a = ((s.wr (ob (0x2500 + ch) 0x06) 1).wakeBy 6).cardEvent ch 0 a b := by
  zify [hle] at hdrop
  rw [State.judgeProbe_of_absent hb hth h0 hst, if_pos hdrop]

theorem State.judgeProbe_of_small_drop (hle : a ≤ b) (hdrop : (b - a) * 1000 < th * b) :
    s.judgeProbe ch a = s.wr (ob (0x2500 + ch) 0x04) (b - (b - a) / 2 ^ s.rd (ob (0x2500 + ch) 0x05)) := by
  zify [hle] at hdrop
  rw [State.judgeProbe_of_absent hb hth h0 hst, if_neg (not_le.2 hdrop), baseline_down _ hle]

theorem State.judgeProbe_of_rise (hlt : b < a) :
    s.judgeProbe ch a = s.wr (ob (0x2500 + ch) 0x04) (b + (a - b) / 2 ^ s.rd (ob (0x2500 + ch) 0x05)) := by
  have hpos : (0 : Int) ≤ (th : Int) * b := by positivity
  rw [State.judgeProbe_of_absent hb hth h0 hst, if_neg (by omega), baseline_up _ hlt.le]

end absent

section present
variable (hst : s.rd (ob (0x2500 + ch) 0x06) = 1)
include hst

/-- What a PRESENT detector makes of a probe. -/
theorem State.judgeProbe_of_present : s.judgeProbe ch a =
    if ((b : Int) - a) * 2000 < (th : Int) * b then ((s.wr (ob (0x2500 + ch) 0x06) 0).wakeBy 6).cardEvent ch 6 a b else s := by
  subst hb hth
  have hnot : ¬(s.rd (ob (0x2500 + ch) 0x06) = 2 ∨ s.rd (ob (0x2500 + ch) 0x04) = 0) := by omega
  exact (if_neg hnot).trans (if_pos hst)

/-- An amplitude above the baseline is a negative drop, which is below half of any threshold. -/
theorem State.judgeProbe_of_gone (hdrop : b < a ∨ (b - a) * 2000 < th * b) :
    s.judgeProbe ch a = ((s.wr (ob (0x2500 + ch) 0x06) 0).wakeBy 6).cardEvent ch 6 a b := by
  have hint : ((b : Int) - a) * 2000 < (th : Int) * b := by
    obtain hlt | hdrop := hdrop
    · have hpos : (0 : Int) ≤ (th : Int) * b := by positivity
      omega
    · zify at hdrop
      omega
  rw [State.judgeProbe_of_present hb hth h0 hst, if_pos hint]

theorem State.judgeProbe_of_held (hle : a ≤ b) (hdrop : th * b ≤ (b - a) * 2000) : s.judgeProbe ch a = s := by
  zify [hle] at hdrop
  rw [State.judgeProbe_of_present hb hth h0 hst, if_neg (not_lt.2 hdrop)]

end present

end judgeProbe

/-! ### A probe made (R55, R135) -/

/-- A probe made: the next is set an interval on, and the group is being probed for ten microseconds. -/
def State.probeMade (s : State) (ch : Channel) : State :=
  (s.armIn (.probe ch) (s.rd (ob (0x2500 + ch.val) 0x02) * 1000)).setVoice (voiceOf ch.val) (fun x => { x with probeEnd := s.now + 10 })

theorem State.probeMade_changes (s : State) (ch : Channel) : Changes [.timers, .voices] [] s (s.probeMade ch) :=
  (s.armIn_changes _ _).trans (State.setVoice_changes _ _ _)

@[simp] theorem State.rd_probeMade (s : State) (ch : Channel) (k : Nat) : (s.probeMade ch).rd k = s.rd k := rfl

theorem State.probeMade_voice (s : State) (ch : Channel) :
    (s.probeMade ch).voices[voiceOf ch.val] = { s.voices[voiceOf ch.val] with probeEnd := s.now + 10 } := State.setVoice_self _ _ _

theorem State.probeMade_voice_other (s : State) (ch : Channel) (w : VoiceId) (h : w ≠ voiceOf ch.val) :
    (s.probeMade ch).voices[w] = s.voices[w] := State.setVoice_other _ _ _ _ h

theorem State.probeMade_dueAt (s : State) (ch : Channel) :
    (s.probeMade ch).dueAt (.probe ch) = some (s.now + s.rd (ob (0x2500 + ch.val) 0x02) * 1000) := State.arm_dueAt _ _ _

section cardProbe
variable {s : State} {ch : Channel} {a : Nat}

/-- A probe that is not due changes nothing. -/
theorem ends_cardProbe_of_not_due (h : s.isDue (.probe ch) = false) : Ends (.cardProbe ch a) s s :=
  if_neg (by simp [h])

variable (hon : s.rd (ob (0x2500 + ch.val) 0x01) ≠ 0) (hdue : s.isDue (.probe ch) = true) (hlink : s.linkReady .field = true)
include hon hdue hlink

/-- What a due probe of an enabled channel does. -/
theorem exec_cardProbe_of_due : exec (.cardProbe ch a) s =
    if s.detBlocked ch.val then
      done ((s.armIn (.probe ch) (s.rd (ob (0x2500 + ch.val) 0x02) * 1000)).wr (ob (0x2500 + ch.val) 0x06) 2)
    else if s.now < s.voices[voiceOf ch.val].probeEnd then done (s.arm (.probe ch) s.voices[voiceOf ch.val].probeEnd)
    else done (((s.probeMade ch).judgeProbe ch.val (a % 65536)).wr (ob (0x2500 + ch.val) 0x07) (a % 65536)) :=
  if_pos (by simp [State.isOn, hon, hdue, hlink])

theorem ends_cardProbe_of_blocked (hbl : s.detBlocked ch.val = true) : Ends (.cardProbe ch a) s
    ((s.armIn (.probe ch) (s.rd (ob (0x2500 + ch.val) 0x02) * 1000)).wr (ob (0x2500 + ch.val) 0x06) 2) :=
  (exec_cardProbe_of_due hon hdue hlink).trans (if_pos hbl)

theorem ends_cardProbe_of_group_probed (hbl : s.detBlocked ch.val = false) (h : s.now < s.voices[voiceOf ch.val].probeEnd) :
    Ends (.cardProbe ch a) s (s.arm (.probe ch) s.voices[voiceOf ch.val].probeEnd) := by
  rw [Ends, exec_cardProbe_of_due hon hdue hlink, if_neg (by simp [hbl]), if_pos h, done_eq]

/-- A probe made is judged in the state in which its voice and its timer are already set, and its amplitude is kept. -/
theorem ends_cardProbe_of_made {w : State} (hbl : s.detBlocked ch.val = false)
    (hfree : s.voices[voiceOf ch.val].probeEnd ≤ s.now ∧ a < 65536) (hjudge : (s.probeMade ch).judgeProbe ch.val a = w) :
    Ends (.cardProbe ch a) s (w.wr (ob (0x2500 + ch.val) 0x07) a) := by
  obtain ⟨hend, ha⟩ := hfree
  rw [← hjudge, Ends, exec_cardProbe_of_due hon hdue hlink, if_neg (by simp [hbl]), if_neg (by omega), Nat.mod_eq_of_lt ha, done_eq]

end cardProbe

/-- Settles O34. A probe made is judged from the state in which its voice and its timer are already set; each clause then is one branch of
the judgement. -/
theorem cardDetection : Obligations.CardDetection := by
  unfold Obligations.CardDetection
  refine ⟨fun s ch a hon hdue hlink => ?_, fun s ch a h => ends_cardProbe_of_not_due h⟩
  have hends := fun w => ends_cardProbe_of_made (a := a) (w := w) hon hdue hlink
  have hmade := s.probeMade_changes ch
  have hprobed := And.intro (s.probeMade_voice ch) (And.intro (s.probeMade_voice_other ch) (s.probeMade_dueAt ch))
  refine ⟨?paused, ?delayed, ?fresh, ?appears, ?falls, ?rises, ?gone, ?held⟩
  case paused =>
    intro hbl
    exact ⟨_, ends_cardProbe_of_blocked hon hdue hlink hbl, (s.armIn_changes _ _).trans (State.wr_changes _ _ _),
      State.rd_wr_self _ _ _, s.arm_dueAt _ _⟩
  case delayed =>
    intro hbl h
    exact ⟨_, ends_cardProbe_of_group_probed hon hdue hlink hbl h, s.arm_changes _ _, s.arm_dueAt _ _⟩
  case fresh =>
    intro hbl hfree h
    exact ⟨_, hends _ hbl hfree (State.judgeProbe_of_fresh h),
      ((hmade.trans (State.wr_changes _ _ _)).trans (State.wr_changes _ _ _)).trans (State.wr_changes _ _ _), hprobed,
      by simp [State.rd_wr], by simp [State.rd_wr], State.rd_wr_self _ _ _⟩
  case appears =>
    intro hbl hfree hst hb hle hdrop
    exact ⟨_, hends _ hbl hfree (State.judgeProbe_of_drop rfl rfl hb hst hle hdrop), hmade.trans (State.wr_changes _ _ _), hprobed,
      State.rd_wr_self _ _ _⟩
  case falls =>
    intro hbl hfree hst hb hle hdrop
    exact ⟨_, hends _ hbl hfree (State.judgeProbe_of_small_drop rfl rfl hb hst hle hdrop),
      (hmade.trans (State.wr_changes _ _ _)).trans (State.wr_changes _ _ _), hprobed, State.rd_wr_self _ _ _, by simp [State.rd_wr]⟩
  case rises =>
    intro hbl hfree hst hb hlt
    exact ⟨_, hends _ hbl hfree (State.judgeProbe_of_rise rfl rfl hb hst hlt),
      (hmade.trans (State.wr_changes _ _ _)).trans (State.wr_changes _ _ _), hprobed, State.rd_wr_self _ _ _, by simp [State.rd_wr]⟩
  case gone =>
    intro hbl hfree hst hb hdrop
    exact ⟨_, hends _ hbl hfree (State.judgeProbe_of_gone rfl rfl hb hst hdrop), hmade.trans (State.wr_changes _ _ _), hprobed,
      State.rd_wr_self _ _ _⟩
  case held =>
    intro hbl hfree hst hb hle hdrop
    exact ⟨_, hends _ hbl hfree (State.judgeProbe_of_held rfl rfl hb hst hle hdrop), hmade.trans (State.wr_changes _ _ _), hprobed,
      State.rd_wr_self _ _ _⟩

end Sys2Proof.Machine
end

section
/-! PROOFS. Triggers, commands, step records, deadlines and waits of a score (R153, R154, R158, R162): the statement `ScoresRunAndStop`. -/

namespace Sys2Proof.Machine

/-! ### Rows of a score -/

theorem dict_bits_overruns (i : ScoreId) : Dict.bits (ob (0xA000 + i.val) 0x09) = 32 := by revert i; decide

theorem dict_row_scoreCommand (i : ScoreId) : Dict.row? (0xA000 + i.val) 0x05 =
    some ⟨0x05, 0x05, .u8, .wo, .score, .live, .rng 1 2, false⟩ := by
  revert i; decide

theorem dict_rows_steps (i : ScoreId) : Dict.rowsOf (0xA100 + i.val) = Dict.rowsA1ss := by revert i; decide

theorem dict_row_step (i : ScoreId) {k : Nat} (h1 : 1 ≤ k) (h128 : k ≤ 128) : Dict.row? (0xA100 + i.val) k =
    some ⟨0x01, 0x80, .octets 32, .rwp, .score, .val 0, .any, false⟩ := by
  have h0 : ¬k ≤ 0 := by omega
  simp [Dict.row?, dict_rows_steps, Dict.rowsA1ss, h0, h1, h128]

theorem keyFor_step (t : Tenant) (i : ScoreId) {k : Nat} (h1 : 1 ≤ k) (h128 : k ≤ 128) :
    keyFor t (0xA100 + i.val) k = ob (0xA100 + i.val) k := by
  simp [keyFor, dict_row_step i h1 h128]

theorem slotOf_head (i : ScoreId) : slotOf (0xA000 + i.val) = i := by revert i; decide
theorem slotOf_steps (i : ScoreId) : slotOf (0xA100 + i.val) = i := by revert i; decide

/-- The objects of a score's steps are none of its head's. -/
theorem step_ne_head (i : ScoreId) {k n : Nat} (hk : k < 256) (hn : n < 256) : ob (0xA100 + i.val) k ≠ ob (0xA000 + i.val) n := by
  rw [ne_eq, ob_inj hk hn]
  omega

/-! ### Runs started, overruns, rest (R153, R162) -/

/-- A run about to start at step 1. -/
def State.runBegun (s : State) (i : ScoreId) : State :=
  (s.wr (ob (0xA000 + i.val) 0x02) 1).setScore i (fun x => { x with open_ := [], next := 1, failed := none, ending := false })

theorem State.runStart_eq (s : State) (i : ScoreId) : s.runStart i = (s.runBegun i).advance i 256 := rfl

theorem State.runBegun_changes (s : State) (i : ScoreId) : Changes [.scores] [ob (0xA000 + i.val) 0x02] s (s.runBegun i) :=
  (s.wr_changes _ _).trans (State.setScore_changes _ _ _)

theorem State.runBegun_scoreState (s : State) (i : ScoreId) : (s.runBegun i).scoreState i = 1 := State.rd_wr_self s _ _

theorem State.runBegun_score (s : State) (i : ScoreId) : (s.runBegun i).scores[i] =
    { triggers := s.scores[i].triggers, open_ := [], next := 1, failed := none, ending := false } := State.setScore_self _ _ _

/-- A running or stopping score counts an overrun. -/
theorem State.rd_inc_overruns (s : State) (i : ScoreId) (h : s.rd (ob (0xA000 + i.val) 0x09) + 1 < 2 ^ 32) :
    (s.inc (ob (0xA000 + i.val) 0x09)).rd (ob (0xA000 + i.val) 0x09) = s.rd (ob (0xA000 + i.val) 0x09) + 1 :=
  s.rd_inc_self _ (by rwa [dict_bits_overruns])

theorem State.scoreRest_changes (s : State) (i : ScoreId) :
    Changes [.scores] [ob (0xA000 + i.val) 0x02, ob (0xA000 + i.val) 0x06] s (s.scoreRest i) :=
  (s.wrAll_changes _).trans (State.setScore_changes _ _ _)

/-- A score at rest is IDLE, or DISABLED where it is switched off. -/
theorem State.scoreRest_scoreState (s : State) (i : ScoreId) :
    (s.scoreRest i).scoreState i = if s.rd (ob (0xA000 + i.val) 0x0A) = 0 then 4 else 0 := by
  simp [State.scoreRest, State.scoreState, State.rd_wr, State.isOn]

/-! ### Triggers (R153) -/

/-- One delivered trigger used up. -/
def State.triggerUsed (s : State) (i : ScoreId) : State := s.setScore i (fun x => { x with triggers := x.triggers - 1 })

theorem State.triggerUsed_changes (s : State) (i : ScoreId) : Changes [.scores] [] s (s.triggerUsed i) := s.setScore_changes _ _

theorem State.triggerUsed_score (s : State) (i : ScoreId) :
    (s.triggerUsed i).scores[i] = { s.scores[i] with triggers := s.scores[i].triggers - 1 } := s.setScore_self _ _

/-- A delivered trigger is used up, and then does what a start command does. -/
theorem ends_scoreTrigger {s : State} {i : ScoreId} (h : 0 < s.scores[i].triggers) :
    Ends (.scoreTrigger i) s ((s.triggerUsed i).scoreStart i) := by
  refine (if_neg (by omega)).trans ?_
  rw [← done_eq, State.scoreStart, State.triggerUsed]
  generalize (s.setScore i _).scoreState i = n
  match n with
  | 0 | 1 | 2 | _ + 3 => rfl

theorem State.scoreStart_of_idle {s : State} {i : ScoreId} (h : s.scoreState i = 0) : s.scoreStart i = (s.runBegun i).advance i 256 := by
  simp only [State.scoreStart, h, State.runStart_eq]

theorem State.scoreStart_of_running {s : State} {i : ScoreId} (h : s.scoreState i = 1 ∨ s.scoreState i = 2) :
    s.scoreStart i = s.inc (ob (0xA000 + i.val) 0x09) := by
  obtain h | h := h <;> simp only [State.scoreStart, h]

/-! ### Writes of a score's objects -/

/-- An accepted WRITE that is a command of its own has its effect, and then its request is finished. -/
theorem exec_of_writesAt {c : Instr} {s : State} {t : Tenant} {j : Job} {i sub off : Nat} {v : Octets} {o : Own}
    (h : s.WritesAt t j i sub off v) (hexec : exec c s = done (s.serveOwn t o)) (hown : ownOf i sub v = o) :
    exec c s = .next (State.finish (s.effect t j.req.transport j.id i sub off v) t j []).settle := by
  obtain ⟨hturn, hop, hst⟩ := h
  rw [hexec, done_eq, State.serveOwn, hturn]
  simp only [hop, hown, if_true, State.serveWrite, hst, ne_eq, not_true, if_false]

/-- What a write to a score's command object does. -/
theorem State.effect_scoreCommand (s : State) (t : Tenant) (tr : Transport) (id : Nat) (i : ScoreId) (off : Nat) (v : Octets) :
    s.effect t tr id (0xA000 + i.val) 0x05 off v = (if leNat v = 1 then s.scoreStart i else s.scoreStop i).only := by
  have hi := i.isLt
  simp only [State.effect, dict_row_scoreCommand, if_true]
  unfold State.act
  simp only [slotOf_head]
  repeat rw [if_neg (by omega)]
  rw [if_pos (by omega)]

theorem ownOf_scoreCommand (i : ScoreId) (b : BitVec 8) : ownOf (0xA000 + i.val) 0x05 [b] =
    if b.toNat = 1 then .scoreStart else if b.toNat = 2 then .scoreStop else .plain := by
  have hi := i.isLt
  unfold ownOf
  rw [if_neg (fun e => by omega), if_neg (fun e => by omega), if_neg (by omega), if_pos ⟨by omega, by omega, rfl, rfl⟩]
  rfl

theorem serves_scoreStartCommand {s : State} {t : Tenant} {j : Job} {i : ScoreId} (h : s.Writes t j (0xA000 + i.val) 0x05 [1]) :
    Serves (.scoreStartCommand t) s (s.scoreStart i) t j [] false := by
  have hexec := exec_of_writesAt h (c := .scoreStartCommand t) rfl (ownOf_scoreCommand i 1)
  rwa [State.effect_scoreCommand] at hexec

theorem serves_scoreStopCommand {s : State} {t : Tenant} {j : Job} {i : ScoreId} (h : s.Writes t j (0xA000 + i.val) 0x05 [2]) :
    Serves (.scoreStopCommand t) s (s.scoreStop i) t j [] false := by
  have hexec := exec_of_writesAt h (c := .scoreStopCommand t) rfl (ownOf_scoreCommand i 2)
  rwa [State.effect_scoreCommand] at hexec

/-- A step record written is stored, after which a HALTED score is at rest again. -/
theorem State.store_step (s : State) (t : Tenant) (i : ScoreId) {k : Nat} (x : Nat) (h1 : 1 ≤ k) (h128 : k ≤ 128) :
    s.store t (0xA100 + i.val) k x = (s.wr (ob (0xA100 + i.val) k) x).stepStored i := by
  have hi := i.isLt
  unfold State.store
  simp only [keyFor_step t i h1 h128, slotOf_steps]
  repeat rw [if_neg (by omega)]
  rw [if_pos (by omega)]

/-- An accepted write of a part of a step record. -/
theorem serves_stepRecordWrite {s : State} {t : Tenant} {j : Job} {i : ScoreId} {k off x : Nat} {v : Octets}
    (h1 : 1 ≤ k) (h128 : k ≤ 128) (h : s.WritesAt t j (0xA100 + i.val) k off v)
    (hx : leNat (splice off v (s.valueBytes t (0xA100 + i.val) k)) = x) :
    Serves (.stepRecordWrite t) s ((s.wr (ob (0xA100 + i.val) k) x).stepStored i) t j
      (if s.needsCommit (ob (0xA100 + i.val) k) x then [(ob (0xA100 + i.val) k, x)] else []) false := by
  have hi := i.isLt
  have hown : ownOf (0xA100 + i.val) k v = .stepRecord := by
    unfold ownOf
    rw [if_neg (fun e => by omega), if_neg (fun e => by omega), if_neg (by omega), if_neg (fun e => by omega), if_pos (by omega)]
  have hsplice : s.spliced t (0xA100 + i.val) k off v = x := by simp [State.spliced, dict_row_step i h1 h128, Ty.isOctets, hx]
  have hnot : ¬(0x9010 ≤ 0xA100 + i.val ∧ 0xA100 + i.val ≤ 0x9017) := by omega
  have heff : s.effect t j.req.transport j.id (0xA100 + i.val) k off v =
      { st := (s.wr (ob (0xA100 + i.val) k) x).stepStored i
        keeps := if s.needsCommit (ob (0xA100 + i.val) k) x then [(ob (0xA100 + i.val) k, x)] else [], waits := false } := by
    simp [State.effect, dict_row_step i h1 h128, hsplice, keyFor_step t i h1 h128, State.store_step s t i x h1 h128, hnot]
  have hexec := exec_of_writesAt h (c := .stepRecordWrite t) rfl hown
  rwa [heff] at hexec

theorem State.stepStored_changes (s : State) (i : ScoreId) :
    Changes [.scores] [ob (0xA000 + i.val) 0x02, ob (0xA000 + i.val) 0x06] s (s.stepStored i) := by
  unfold State.stepStored
  split
  · exact s.scoreRest_changes i
  · exact (Changes.refl s).mono (by simp) (by simp)

theorem State.stepStored_scoreState (s : State) (i : ScoreId) : (s.stepStored i).scoreState i =
    if s.scoreState i = 3 then (if s.rd (ob (0xA000 + i.val) 0x0A) = 0 then 4 else 0) else s.scoreState i := by
  unfold State.stepStored
  split
  · exact s.scoreRest_scoreState i
  · rfl

/-! ### Deadlines and waits (R154, R158) -/

/-- The deadline of a step that is due and held by no voice ends it. -/
theorem ends_stepDeadlineExpired {s : State} {i : ScoreId} {k : Nat} {d : DueStep} (hdue : s.isDue (.deadline i k) = true)
    (hd : s.dues.find? (fun d => d.score == i.val && d.step == k && d.tuning.isNone) = some d) :
    Ends (.stepDeadlineExpired i k) s ((s.cancel (.deadline i k)).endDue d (noFrame 0x16 (cutData d none))) := by
  refine (if_pos hdue).trans ?_
  simp only [State.cancel_dues, hd, done_eq]

/-- A WAIT's step closed. -/
def State.waitOver (s : State) (i : ScoreId) (k : Nat) : State := (s.cancel (.wait i k)).setScore i (fun x => x.closed k true 0)

theorem State.waitOver_changes (s : State) (i : ScoreId) (k : Nat) : Changes [.scores, .timers] [] s (s.waitOver i k) :=
  ((s.cancel_changes _).trans (State.setScore_changes _ _ _)).mono (by simp) (by simp)

theorem State.waitOver_score (s : State) (i : ScoreId) (k : Nat) :
    (s.waitOver i k).scores[i] = { s.scores[i] with open_ := s.scores[i].open_.filter (· != k) } := State.setScore_self _ _ _

theorem ends_waitStepElapsed {s : State} {i : ScoreId} {k : Nat} (hdue : s.isDue (.wait i k) = true)
    (hopen : s.scores[i].open_.contains k = true) : Ends (.waitStepElapsed i k) s ((s.waitOver i k).advance i 256) :=
  (if_pos hdue).trans (if_pos hopen)

/-- Settles O26: a trigger and the two commands in each state of the score, a step record, a deadline and a wait. -/
theorem scoresRunAndStop : Obligations.ScoresRunAndStop := by
  unfold Obligations.ScoresRunAndStop
  refine ⟨?triggerIdle, ?triggerBusy, ?startIdle, ?startBusy, ?stop, ?record, ?deadline, ?wait⟩
  case triggerIdle =>
    intro s i h h0
    have hends := ends_scoreTrigger h
    rw [State.scoreStart_of_idle (s := s.triggerUsed i) h0] at hends
    refine ⟨_, hends, ((s.triggerUsed_changes i).trans (State.runBegun_changes _ i)).mono (by simp) (by simp),
      State.runBegun_scoreState _ i, ?_⟩
    rw [State.runBegun_score, State.triggerUsed_score]
  case triggerBusy =>
    intro s i h hrun hover
    have hends := ends_scoreTrigger h
    rw [State.scoreStart_of_running (s := s.triggerUsed i) hrun] at hends
    refine ⟨_, hends, (s.triggerUsed_changes i).trans (State.inc_changes _ _), (s.triggerUsed i).rd_inc_overruns i hover, ?_⟩
    rw [State.inc_scores, State.triggerUsed_score]
  case startIdle =>
    intro s t j i hw h0
    have hs := serves_scoreStartCommand hw
    rw [State.scoreStart_of_idle h0] at hs
    exact ⟨_, hs, s.runBegun_changes i, s.runBegun_scoreState i, s.runBegun_score i⟩
  case startBusy =>
    intro s t j i hw hrun hover
    have hs := serves_scoreStartCommand hw
    rw [State.scoreStart_of_running hrun] at hs
    exact ⟨_, hs, s.inc_changes _, s.rd_inc_overruns i hover⟩
  case stop =>
    intro s t j i hw
    exact ⟨s.wr (ob (0xA000 + i.val) 0x02) 2, serves_scoreStopCommand hw, s.wr_changes _ _, s.rd_wr_self _ _⟩
  case record =>
    intro s t j i k off v h1 h128 hw
    have hne (n : Nat) (hn : n < 256) := step_ne_head i (k := k) (by omega) hn
    refine ⟨_, serves_stepRecordWrite h1 h128 hw rfl, (s.wr_changes _ _).trans (State.stepStored_changes _ i), ?_, ?_⟩
    · rw [(State.stepStored_changes _ i).rd (by simp [hne]), State.rd_wr_self]
    · rw [State.stepStored_scoreState, State.scoreState, State.rd_wr_other s _ (hne _ (by decide)).symm,
        State.rd_wr_other s _ (hne _ (by decide)).symm, State.scoreState]
  case deadline =>
    intro s i k d hdue hd
    exact ends_stepDeadlineExpired hdue hd
  case wait =>
    intro s i k hdue hopen
    exact ⟨_, ends_waitStepElapsed hdue hopen, s.waitOver_changes i k, s.waitOver_score i k, s.cancel_isArmed _⟩

end Sys2Proof.Machine
end

section
/-! PROOFS. The end of a key's suspension and the crypto engine's jobs (R185, R189, R197, R430): the statement `KeySuspensionAndCrypto`. -/

namespace Sys2Proof.Machine

/-! ### The crypto engine -/

theorem State.withCrypto_changes (s : State) (c : Crypto) : Changes [.crypto] [] s { s with crypto := c } := by
  refine ⟨rfl, fun p hp => ?_, fun _ _ => rfl⟩
  cases p <;> first | rfl | simp at hp

/-- Taking the next job touches the engine alone. -/
theorem State.cryptoNext_eq (s : State) : ∃ c, s.cryptoNext = { s with crypto := c } := by
  unfold State.cryptoNext
  split
  · exact ⟨_, rfl⟩
  · split
    · exact ⟨_, rfl⟩
    · split <;> exact ⟨_, rfl⟩

theorem State.cryptoNext_changes (s : State) : Changes [.crypto] [] s s.cryptoNext := by
  obtain ⟨c, hc⟩ := s.cryptoNext_eq
  rw [hc]
  exact s.withCrypto_changes c

@[simp] theorem State.rd_cryptoNext (s : State) (k : Nat) : s.cryptoNext.rd k = s.rd k := s.cryptoNext_changes.rd (by simp)

theorem dict_bits_cryptoJobs (t : Tenant) : Dict.bits (ob (0x9020 + t.val) 0x09) = 32 := by revert t; decide

theorem State.jobOver_changes (s : State) (t : Tenant) : Changes [.crypto] [ob (0x9020 + t.val) 0x09] s (s.jobOver t) :=
  (((s.withCrypto_changes _).trans (State.inc_changes _ _)).trans (State.cryptoNext_changes _)).mono (by simp) (by simp)

/-- A job done is counted for its tenant. -/
theorem State.jobOver_counts (s : State) (t : Tenant) (h : s.rd (ob (0x9020 + t.val) 0x09) + 1 < 2 ^ 32) :
    (s.jobOver t).rd (ob (0x9020 + t.val) 0x09) = s.rd (ob (0x9020 + t.val) 0x09) + 1 :=
  (State.rd_cryptoNext _ _).trans (State.rd_inc_self _ _ (by rwa [dict_bits_cryptoJobs]))

theorem exec_cryptoJobDone (s : State) : exec .cryptoJobDone s = execCryptoJobDone s := rfl

theorem ends_cryptoJobDone_of_auth {s : State} {t : Tenant} {v : VoiceId} {g : Nat} (h : s.crypto.running = some (t, .auth v g)) :
    Ends .cryptoJobDone s (if (s.jobOver t).grantedAt v = g then (s.jobOver t).authJobDone v else s.jobOver t) := by
  simp only [Ends, exec_cryptoJobDone, execCryptoJobDone, h, done_eq]

theorem ends_cryptoJobDone_of_import {s : State} {t u : Tenant} {id : Nat} (h : s.crypto.running = some (t, .import_ u id)) :
    Ends .cryptoJobDone s ((s.jobOver t).importDone u id) := by
  simp only [Ends, exec_cryptoJobDone, execCryptoJobDone, h, done_eq]

/-- An idle engine has no job to end, and an image verification ends through its own command. -/
theorem ends_cryptoJobDone_of_other {s : State} (h : s.crypto.running = none ∨ ∃ t, s.crypto.running = some (t, .verify)) :
    Ends .cryptoJobDone s s := by
  obtain h | ⟨t, h⟩ := h <;> simp only [Ends, exec_cryptoJobDone, execCryptoJobDone, h, done_eq]

/-! ### Suspensions of keys -/

/-- The suspension of a key slot ended: LOADED, no failures counted, no timer. -/
def State.suspensionOver (s : State) (c : Nat) : State :=
  (s.cancel (.suspension c)).wrAll [(ob (0x9100 + c) 0x02, 1), (ob (0x9100 + c) 0x05, 0)]

theorem State.suspensionOver_changes (s : State) (c : Nat) :
    Changes [.timers] [ob (0x9100 + c) 0x02, ob (0x9100 + c) 0x05] s (s.suspensionOver c) :=
  (s.cancel_changes _).trans (State.wrAll_changes _ _)

theorem State.suspensionOver_isArmed (s : State) (c : Nat) : (s.suspensionOver c).isArmed (.suspension c) = false :=
  s.cancel_isArmed (.suspension c)

theorem ends_keySuspensionEnd {s : State} {c : Nat} (hdue : s.isDue (.suspension c) = true) (hst : s.rd (ob (0x9100 + c) 0x02) = 2) :
    Ends (.keySuspensionEnd c) s (s.suspensionOver c) :=
  (if_pos hdue).trans (if_pos ((s.rd_cancel _ _).trans hst))

/-- Settles O35: a suspension that ends, and the engine's four cases: an AUTH job, an import, a verification and none. -/
theorem keySuspensionAndCrypto : Obligations.KeySuspensionAndCrypto := by
  unfold Obligations.KeySuspensionAndCrypto
  refine ⟨?suspension, ?auth, ?imported, ?other⟩
  case suspension =>
    intro s c hdue hst
    exact ⟨_, ends_keySuspensionEnd hdue hst, s.suspensionOver_changes c, by simp [State.suspensionOver, State.rd_wr],
      by simp [State.suspensionOver], s.suspensionOver_isArmed c⟩
  case auth =>
    intro s t v g h
    exact ⟨ends_cryptoJobDone_of_auth h, s.jobOver_changes t, s.jobOver_counts t⟩
  case imported =>
    intro s t u id h
    exact ends_cryptoJobDone_of_import h
  case other =>
    intro s h
    exact ends_cryptoJobDone_of_other h

end Sys2Proof.Machine
end
section
/-! PROOFS. What a fault and the calibration's own small operations leave (chapters 8 and 18): shared by the proofs about tunings. -/

namespace Sys2Proof.Machine

/-! ### What a fault can touch (R490 to R500) -/

/-- The parts of the state that a fault may touch: its records and what they commit, the wake of a resting block, and the events. -/
def faultParts : List Part := [.faults, .time, .timers, .power, .order, .router, .scores, .metros]

/-- Whether a key lies outside the objects of the field die, the air die, the line, the pocket die and the calibration. -/
def faultKey (k : Nat) : Bool := decide (keyIndex k < 0x2000) || decide (0x7000 ≤ keyIndex k)

/-- What a fault leaves unchanged: every part but `faultParts`, and every object of 0x2000 to 0x6FFF. -/
structure FaultOnly (s t : State) : Prop where
  same : ∀ p : Part, p ∉ faultParts → p.same s t
  rd : ∀ k, faultKey k = false → t.rd k = s.rd k

section
variable {s t u : State}

theorem FaultOnly.trans (h : FaultOnly s t) (g : FaultOnly t u) : FaultOnly s u :=
  ⟨fun p hp => Part.same_trans (h.same p hp) (g.same p hp), fun k hk => (g.rd k hk).trans (h.rd k hk)⟩

theorem FaultOnly.of_changes {ps : List Part} {ks : List Nat} (h : Changes ps ks s t) (hp : ∀ p ∈ ps, p ∈ faultParts)
    (hk : ∀ k ∈ ks, faultKey k = true) : FaultOnly s t :=
  ⟨fun p hn => h.same (fun e => hn (hp p e)), fun k hn => h.rd (fun e => by simp [hk k e] at hn)⟩

theorem FaultOnly.refl (s : State) : FaultOnly s s := .of_changes (Changes.refl s) (by simp) (by simp)

theorem FaultOnly.ite {c : Prop} [Decidable c] (h : FaultOnly s t) (g : FaultOnly s u) : FaultOnly s (if c then t else u) := by
  split
  · exact h
  · exact g

theorem FaultOnly.cal (h : FaultOnly s t) : t.cal = s.cal := h.same .cal (by decide)

/-- An event touches less than a fault. -/
theorem SameButEvents.faultOnly (h : SameButEvents s t) : FaultOnly s t := by
  obtain ⟨-, hparts, hkeys⟩ := h.only
  have hsub : ∀ p ∈ [Part.router, Part.order, Part.scores, Part.metros], p ∈ faultParts := by decide
  refine ⟨fun p hp => hparts p (fun e => hp (hsub p e)), fun k hk => hkeys k ?_⟩
  simp only [faultKey, Bool.or_eq_false_iff, decide_eq_false_iff_not] at hk
  simp only [metroKey, Bool.and_eq_false_iff, decide_eq_false_iff_not]
  omega

end

theorem faultKey_ob {i n : Nat} (hi : i < 0x2000 ∨ 0x7000 ≤ i) (hn : n < 256) : faultKey (ob i n) = true := by
  simpa [faultKey, keyIndex_ob hn] using hi

theorem faultKey_ob_outside {i n : Nat} (hlo : 0x2000 ≤ i) (hhi : i < 0x7000) (hn : n < 256) : faultKey (ob i n) = false := by
  simp only [faultKey, keyIndex_ob hn, Bool.or_eq_false_iff, decide_eq_false_iff_not]
  omega

theorem faultKey_obT_outside {i n : Nat} (t : Tenant) (hlo : 0x2000 ≤ i) (hhi : i < 0x7000) (hn : n < 256) :
    faultKey (obT i n t) = false := by
  simp only [faultKey, keyIndex_obT t hn, Bool.or_eq_false_iff, decide_eq_false_iff_not]
  omega

section
variable (s : State)

theorem State.wr_faultOnly {k : Nat} (v : Nat) (hk : faultKey k = true) : FaultOnly s (s.wr k v) :=
  .of_changes (s.wr_changes k v) (by simp) (by simpa using hk)

theorem State.add_faultOnly {k : Nat} (n : Nat) (hk : faultKey k = true) : FaultOnly s (s.add k n) :=
  .of_changes (s.add_changes k n) (by simp) (by simpa using hk)

theorem State.inc_faultOnly {k : Nat} (hk : faultKey k = true) : FaultOnly s (s.inc k) := s.add_faultOnly 1 hk

theorem State.wrAll_faultOnly (l : List (Nat × Nat)) (hl : ∀ p ∈ l, faultKey p.1 = true) : FaultOnly s (s.wrAll l) := by
  refine .of_changes (s.wrAll_changes l) (by simp) (fun k hk => ?_)
  obtain ⟨p, hp, rfl⟩ := List.mem_map.1 hk
  exact hl p hp

theorem State.arm_faultOnly (tm : Timer) (due : Nat) : FaultOnly s (s.arm tm due) :=
  .of_changes (s.arm_changes tm due) (by decide) (by simp)

theorem State.commit_faultOnly (c : Commit) : FaultOnly s (s.commit c) := (s.commit_same c).events.faultOnly

theorem State.raise_faultOnly (e : Nat) (l : List Tenant) (d : Octets) : FaultOnly s (s.raise e l d) := (s.raise_events e l d).faultOnly

theorem State.calEvent_faultOnly (e kind target status : Nat) (t : Tenant) : FaultOnly s (s.calEvent e kind target status t) :=
  s.raise_faultOnly _ _ _

theorem State.withFaults_changes (f : Faults) : Changes [.faults] [] s { s with faults := f } := by
  refine ⟨rfl, fun p hp => ?_, fun _ _ => rfl⟩
  cases p
  case faults => exact absurd (List.mem_singleton_self _) hp
  all_goals rfl

theorem State.withFaults_faultOnly (f : Faults) : FaultOnly s { s with faults := f } :=
  .of_changes (s.withFaults_changes f) (by decide) (by simp)

theorem State.withTime_faultOnly (t : TimeBase) : FaultOnly s { s with time := t } :=
  .of_changes (s.withTime_changes t) (by decide) (by simp)

theorem State.withPower_faultOnly (p : Power) : FaultOnly s { s with power := p } := by
  refine ⟨fun q hq => ?_, fun _ _ => rfl⟩
  cases q
  case power => exact absurd (by decide) hq
  all_goals rfl

theorem State.setRun_faultOnly (n : Nat) : FaultOnly s (s.setRun n) := by
  unfold State.setRun
  refine .trans (.trans (.trans ?_ (State.wrAll_faultOnly _ _ ?_)) (State.withPower_faultOnly _ _)) (State.raise_faultOnly _ _ _ _)
  · split
    · next h => exact s.add_faultOnly _ (faultKey_ob (by decide) (by omega))
    · exact .refl s
  · simp (disch := decide) [faultKey_ob]

/-- A resting block that wakes touches the time base and the running state. -/
theorem State.wakeBy_faultOnly (source : Nat) : FaultOnly s (s.wakeBy source) := by
  unfold State.wakeBy
  refine .ite (.trans (.trans (.trans ?_ (State.wrAll_faultOnly _ _ ?_)) (State.setRun_faultOnly _ _)) (State.withTime_faultOnly _ _))
    (.refl s)
  · exact .ite ((s.withTime_faultOnly _).trans (State.arm_faultOnly _ _ _)) (.refl s)
  · simp (disch := decide) [faultKey_ob]

theorem State.countReset_faultOnly (f bits : Nat) : FaultOnly s (s.countReset f bits) := by
  unfold State.countReset
  exact .ite (.refl s) (s.withFaults_faultOnly _)

theorem State.formRecord_faultOnly (f : Nat) (d : Tenant) (detail stamp : Nat) : FaultOnly s (s.formRecord f d detail stamp) := by
  have hown {n : Nat} (hn : n < 256) : faultKey (ob 0x7000 n) = true := faultKey_ob (by decide) hn
  unfold State.formRecord
  split
  · refine .trans ?_ (.ite (State.raise_faultOnly _ _ _ _) (.refl _))
    refine .trans (.trans (.trans ?_ (State.countReset_faultOnly _ _ _)) (State.arm_faultOnly _ _ _)) (State.commit_faultOnly _ _)
    refine .trans (.trans (.trans ?_ (State.withFaults_faultOnly _ _)) (State.inc_faultOnly _ (hown (by decide))))
      (State.wr_faultOnly _ _ (hown (by decide)))
    exact .ite (State.inc_faultOnly _ (hown (by decide))) (.refl _)
  · refine .trans ?_ (.ite (State.raise_faultOnly _ _ _ _) (.refl _))
    refine .trans ?_ (.ite (.refl _) (State.commit_faultOnly _ _))
    exact (s.withFaults_faultOnly _).trans (State.countReset_faultOnly _ _ _)

theorem State.faultKeyed_faultOnly (f : Nat) (d : Tenant) (detail key : Nat) : FaultOnly s (s.faultKeyed f d detail key) := by
  have hown {n : Nat} (hn : n < 256) : faultKey (ob (0x7100 + f) n) = true := faultKey_ob (by omega) hn
  unfold State.faultKeyed
  refine .trans (.trans ((s.inc_faultOnly (hown (by decide))).trans (State.wr_faultOnly _ _ (hown (by decide))))
    (.ite (.refl _) (State.withFaults_faultOnly _ _))) (.ite (.refl _) ?_)
  exact (((State.wr_faultOnly _ _ (hown (by decide))).trans (State.withFaults_faultOnly _ _)).trans (State.wakeBy_faultOnly _ _)).trans
    (.ite (State.formRecord_faultOnly _ _ _ _ _) (State.withFaults_faultOnly _ _))

@[simp] theorem State.causeEndKey_cal (f key : Nat) : (s.causeEndKey f key).cal = s.cal := rfl
@[simp] theorem State.calEvent_cal (e kind target status : Nat) (t : Tenant) : (s.calEvent e kind target status t).cal = s.cal :=
  State.raise_cal _ _ _ _

theorem State.causeEndKey_faultOnly (f key : Nat) : FaultOnly s (s.causeEndKey f key) := s.withFaults_faultOnly _

end

/-! ### The request object and the lists of tunings (R201) -/

theorem obT_inj {i a b : Nat} (t : Tenant) : obT i a t = obT i b t ↔ a = b := by
  unfold obT ob; omega

theorem ob_ne_obT {i j a b : Nat} (t : Tenant) (ha : a < 256) (hb : b < 256) (h : j ≠ i) : ob j b ≠ obT i a t :=
  (obT_ne_ob t ha hb h.symm).symm

/-- The counters of a kind of tuning (Table 8-13) are 32 bits wide. -/
theorem dict_bits_tuningCounter {kind : Nat} (h0 : 0 < kind) (h12 : kind < 12) :
    ∀ n ∈ [0x01, 0x02, 0x03], Dict.bits (ob (0x6300 + kind) n) = 32 := by
  have hall : ∀ k : Fin 12, 0 < k.val → ∀ n ∈ [0x01, 0x02, 0x03], Dict.bits (ob (0x6300 + k.val) n) = 32 := by decide
  exact hall ⟨kind, h12⟩ h0

section
variable (s : State) (u : Tuning) (st : Nat)

@[simp] theorem State.tuneState_cal : (s.tuneState u st).cal = s.cal := by
  unfold State.tuneState
  split <;> rfl

theorem State.tuneState_changes : Changes [] (if u.auto then [] else [obT 0x6000 0x05 u.tenant]) s (s.tuneState u st) := by
  unfold State.tuneState
  split
  · exact .refl s
  · exact s.wr_changes _ _

theorem State.rd_tuneState {u : Tuning} (h : u.auto = false) : (s.tuneState u st).rd (obT 0x6000 0x05 u.tenant) = st := by
  simp [State.tuneState, h]

end

end Sys2Proof.Machine
end
section
/-! PROOFS. Starts, reverts and aborts of tunings, and automatic tunings (R199 to R202, R204, R207, R223): the statement `TuningRequests`. -/

namespace Sys2Proof.Machine

/-! ### Commands of the request object (R201) -/

theorem firstOf_rank_le (a b : Nat) : statusRank (firstOf a b) ≤ statusRank a ∧ statusRank (firstOf a b) ≤ statusRank b := by
  unfold firstOf
  split <;> omega

/-- The status given when several apply comes after none of them in the order of R378. -/
theorem firstStatus_rank_le {l : List Nat} {b : Nat} (hb : b ∈ l) : statusRank (firstStatus l) ≤ statusRank b := by
  have hfold (l : List Nat) (a : Nat) : statusRank (l.foldl firstOf a) ≤ statusRank a ∧
      ∀ b ∈ l, statusRank (l.foldl firstOf a) ≤ statusRank b := by
    induction l generalizing a with
    | nil => simp
    | cons c l ih =>
      obtain ⟨ha, hl⟩ := ih (firstOf a c)
      obtain ⟨hac, hc⟩ := firstOf_rank_le a c
      exact ⟨ha.trans hac, List.forall_mem_cons.2 ⟨ha.trans hc, hl⟩⟩
  exact (hfold l sOK).2 b hb

/-- An accepted write is one that its object's own rules let pass. -/
theorem State.WritesAt.ruleStatus_rank {s : State} {t : Tenant} {j : Job} {i sub off : Nat} {v : Octets} {r : Row}
    (h : s.WritesAt t j i sub off v) (hrow : Dict.row? i sub = some r) (hread : (r.acc == .const || r.acc == .ro) = false)
    (hlen : r.ty.writeLength off v.length = 0) :
    statusRank sOK ≤ statusRank (s.ruleStatus t i sub off v (s.spliced t i sub off v)) := by
  obtain ⟨-, -, hst⟩ := h
  have hvalue : statusRank sOK ≤ statusRank (s.valueStatus t i sub off v) := by
    have hle : statusRank (s.writeStatus t j.req.transport i sub off v) ≤ statusRank (s.valueStatus t i sub off v) :=
      firstStatus_rank_le (by simp)
    rwa [hst] at hle
  refine hvalue.trans ?_
  unfold State.valueStatus
  simp only [hrow, hread, hlen]
  exact firstStatus_rank_le (by simp)

theorem dict_row_tuneCommand : Dict.row? 0x6000 0x04 = some ⟨0x04, 0x04, .u8, .wo, .all, .live, .rng 1 3, true⟩ := by decide

/-- A start of a kind that does not take its target and method is refused. -/
theorem State.tuneCheck_start_of_not_takes {s : State} {t : Tenant}
    (h : kindTakes (s.rd (obT 0x6000 0x01 t)) (s.rd (obT 0x6000 0x02 t)) (s.rd (obT 0x6000 0x03 t)) = false) :
    s.tuneCheck t 1 = sRange := by
  have hrange (b : Bool) : firstOf sRange (when b sInUse) = sRange :=
    firstOf_eq_left (when_after b (.inr (by decide)) (by decide))
  simp only [State.tuneCheck, State.tuneRequest, h, Bool.not_false, Bool.true_or]
  exact hrange _

/-- An accepted start is of a kind that takes its target and method. -/
theorem kindTakes_of_start {s : State} {t : Tenant} {j : Job} (h : s.Writes t j 0x6000 0x04 [1]) :
    kindTakes (s.rd (obT 0x6000 0x01 t)) (s.rd (obT 0x6000 0x02 t)) (s.rd (obT 0x6000 0x03 t)) = true := by
  by_contra hnot
  have hrank := State.WritesAt.ruleStatus_rank h dict_row_tuneCommand rfl rfl
  have hval : s.spliced t 0x6000 0x04 0 [1] = 1 := by simp [State.spliced, dict_row_tuneCommand, Ty.isOctets, leNat]
  have hrule : s.ruleStatus t 0x6000 0x04 0 [1] 1 = s.tuneCheck t 1 := rfl
  rw [hval, hrule, State.tuneCheck_start_of_not_takes (by simpa using hnot)] at hrank
  exact absurd hrank (by decide)

theorem kind_pos_of_start {s : State} {t : Tenant} {j : Job} (h : s.Writes t j 0x6000 0x04 [1]) : 0 < s.rd (obT 0x6000 0x01 t) := by
  have htakes := kindTakes_of_start h
  refine Nat.pos_of_ne_zero (fun e => ?_)
  rw [e] at htakes
  exact Bool.false_ne_true htakes

/-- The tuning that a tenant's request object asks for (R201). -/
def State.requestedTuning (s : State) (t : Tenant) : Tuning :=
  { tenant := t, kind := s.rd (obT 0x6000 0x01 t), target := s.rd (obT 0x6000 0x02 t), method := s.rd (obT 0x6000 0x03 t), auto := false,
    stage := 0, first := none, last := none, voice := none, status := 0 }

/-- What a write to the command of the request object does. -/
theorem State.effect_tuneCommand (s : State) (t : Tenant) (tr : Transport) (id off : Nat) (v : Octets) :
    s.effect t tr id 0x6000 0x04 off v = (match leNat v with
      | 1 => s.startTuning (s.requestedTuning t)
      | 2 => s.revertTuning (s.rd (obT 0x6000 0x01 t)) (s.rd (obT 0x6000 0x02 t))
      | _ => s.abortTunings (fun u => u.tenant == t && !u.auto)).only := by
  simp only [State.effect, dict_row_tuneCommand, if_true]
  rfl

theorem serves_tuningStart {s : State} {t : Tenant} {j : Job} (h : s.Writes t j 0x6000 0x04 [1]) :
    Serves (.tuningStart t) s (s.startTuning (s.requestedTuning t)) t j [] false := by
  have hexec := exec_of_writesAt h (c := .tuningStart t) (o := .tuneStart) rfl rfl
  rwa [State.effect_tuneCommand] at hexec

theorem serves_tuningRevert {s : State} {t : Tenant} {j : Job} (h : s.Writes t j 0x6000 0x04 [2]) :
    Serves (.tuningRevert t) s (s.revertTuning (s.rd (obT 0x6000 0x01 t)) (s.rd (obT 0x6000 0x02 t))) t j [] false := by
  have hexec := exec_of_writesAt h (c := .tuningRevert t) (o := .tuneRevert) rfl rfl
  rwa [State.effect_tuneCommand] at hexec

theorem serves_tuningAbort {s : State} {t : Tenant} {j : Job} (h : s.Writes t j 0x6000 0x04 [3]) :
    Serves (.tuningAbort t) s (s.abortTunings (fun u => u.tenant == t && !u.auto)) t j [] false := by
  have hexec := exec_of_writesAt h (c := .tuningAbort t) (o := .tuneAbort) rfl rfl
  rwa [State.effect_tuneCommand] at hexec

/-! ### A tuning started (R201, R202) -/

/-- A tuning counted, shown as WAITING and put at the end of the waiting ones. -/
def State.tuningQueued (s : State) (u : Tuning) : State :=
  let w := (s.inc (ob (0x6300 + u.kind) 0x01)).tuneState u 1
  { w with cal := { w.cal with queue := w.cal.queue ++ [u] } }

theorem State.startTuning_eq (s : State) (u : Tuning) : s.startTuning u = (s.tuningQueued u).nextTunings := rfl

theorem State.tuningQueued_cal (s : State) (u : Tuning) :
    (s.tuningQueued u).cal = { s.cal with queue := s.cal.queue ++ [u] } := by
  simp [State.tuningQueued]

theorem State.tuningQueued_changes (s : State) {u : Tuning} (ha : u.auto = false) :
    Changes [.cal] [ob (0x6300 + u.kind) 0x01, obT 0x6000 0x05 u.tenant] s (s.tuningQueued u) := by
  have hstate := (s.inc (ob (0x6300 + u.kind) 0x01)).tuneState_changes u 1
  rw [ha] at hstate
  exact (((s.inc_changes _).trans hstate).trans (State.withCal_changes _ _)).mono (by simp) (by simp)

theorem State.rd_tuningQueued_state (s : State) {u : Tuning} (ha : u.auto = false) :
    (s.tuningQueued u).rd (obT 0x6000 0x05 u.tenant) = 1 :=
  State.rd_tuneState _ 1 ha

theorem State.rd_tuningQueued_count (s : State) {u : Tuning} (h0 : 0 < u.kind) (h12 : u.kind < 12)
    (hc : s.rd (ob (0x6300 + u.kind) 0x01) + 1 < 2 ^ 32) :
    (s.tuningQueued u).rd (ob (0x6300 + u.kind) 0x01) = s.rd (ob (0x6300 + u.kind) 0x01) + 1 := by
  have hkey : ob (0x6300 + u.kind) 0x01 ∉ (if u.auto then [] else [obT 0x6000 0x05 u.tenant]) := by
    have hne := ob_ne_obT (i := 0x6000) (j := 0x6300 + u.kind) (a := 0x05) (b := 0x01) u.tenant (by decide) (by decide) (by omega)
    split <;> simp [hne]
  have hbits := dict_bits_tuningCounter h0 h12 0x01 (by decide)
  calc (s.tuningQueued u).rd (ob (0x6300 + u.kind) 0x01)
    _ = (s.inc (ob (0x6300 + u.kind) 0x01)).rd (ob (0x6300 + u.kind) 0x01) := (State.tuneState_changes _ u 1).rd hkey
    _ = s.rd (ob (0x6300 + u.kind) 0x01) + 1 := s.rd_inc_self _ (by rwa [hbits])

/-! ### The user values' marks (R200) -/

theorem State.setUser_cal (s : State) (kind target : Nat) :
    (s.setUser kind target false).cal = { s.cal with user := s.cal.user.filter (fun k => k != calKey kind target) } := by
  simp only [State.setUser, Bool.false_eq_true, if_false]
  split <;> rfl

theorem calKey_notMem_setUser (s : State) (kind target : Nat) : calKey kind target ∉ (s.setUser kind target false).cal.user := by
  simp [State.setUser_cal]

theorem notMem_setUser {s : State} {k : Nat} (h : k ∉ s.cal.user) (kind target : Nat) :
    k ∉ (s.setUser kind target false).cal.user := by
  rw [State.setUser_cal]
  exact fun e => h (List.mem_of_mem_filter e)

theorem State.restPins_cal (s : State) : s.restPins.cal = s.cal := by
  unfold State.restPins
  split_ifs <;> rfl

theorem State.tune_cal (s : State) (k : Nat) : (s.tune k).cal = s.cal := by
  unfold State.tune
  split <;> rfl

theorem State.stopReceiver_cal (s : State) : s.stopReceiver.cal = s.cal := by
  unfold State.stopReceiver
  split_ifs <;> simp only [State.restPins_cal, State.tune_cal, State.setAir, State.wr_cal]

theorem State.fault_cal (s : State) (f detail : Nat) : (s.fault f detail).cal = s.cal := (s.faultKeyed_faultOnly f t0 detail 0).cal

theorem State.arrangeSlices_cal (s : State) (retired : Nat) : (s.arrangeSlices retired).cal = s.cal := by
  have hend (s : State) (f : Nat) : (s.causeEnd f).cal = s.cal := rfl
  unfold State.arrangeSlices
  simp only [State.stopReceiver_cal, apply_ite State.cal, hend, State.raise_cal, State.fault_cal, State.calEvent_cal, State.wrAll_eq,
    ite_self]

theorem State.sliceEvents_cal (s : State) (fresh : Nat) : (s.sliceEvents fresh).cal = s.cal := by
  unfold State.sliceEvents
  generalize slicesOf fresh = l
  induction l generalizing s with
  | nil => rfl
  | cons i l ih => rw [List.foldl_cons, ih, State.calEvent_cal]

/-- The marks of the user values stand whatever result is put in force. -/
theorem State.applyWhole_user (s : State) (kind target : Nat) (l : List Int) : (s.applyWhole kind target l).cal.user = s.cal.user := by
  unfold State.applyWhole
  split
  case h_8 => rw [State.applySlices, State.sliceEvents_cal, State.arrangeSlices_cal, State.setSlices, State.wrAll_eq]
  all_goals simp [State.wrAll_eq, State.dropAnchors]

theorem State.applyRevert_user (s : State) (kind target : Nat) (l : List Int) :
    (s.applyRevert kind target l).cal.user = s.cal.user := by
  unfold State.applyRevert
  split
  case h_3 => rw [State.arrangeSlices_cal, State.wr_cal, State.setSlices, State.wrAll_eq]
  all_goals simp [State.applyWhole_user]

theorem State.applyAt_revert_user (s : State) (kind target : Nat) (l : List Int) :
    (s.applyAt kind target .revert l).cal.user = s.cal.user := by
  unfold State.applyAt
  dsimp only
  split
  · exact State.applyRevert_user _ _ _ _
  · rfl

/-! ### A revert (R200, R204) -/

/-- A kind and target noted for the commit of tunings that is still to be entered. -/
def State.dirty (s : State) (kind target : Nat) : State :=
  { s with cal := { s.cal with dirty := (kind, target) :: s.cal.dirty.filter (fun d => d != (kind, target)) } }

theorem State.dirtied_eq (s : State) (kind target : Nat) : s.dirtied kind target = (s.dirty kind target).commit .tunings := rfl

/-- The mark of a pair and the causes of its two tuning faults cleared. -/
def State.unmarked (s : State) (kind target : Nat) : State :=
  ((s.setUser kind target false).causeEndKey 2 (calKey kind target)).causeEndKey 3 (calKey kind target)

/-- A synthesiser entry reverted. -/
def State.entryReverted (s : State) (e : Nat) : State := ((s.setUser 9 e false).applyAt 9 e .revert []).dirtied 9 e

/-- A revert up to the commit that ends it. -/
def State.reverted (s : State) (kind target : Nat) : State :=
  let s := s.unmarked kind target
  if kind = 9 then
    ((if target = 0x600 then (s.air.store ++ s.cal.nvaStore).map (fun p => 0x400 + p.1) else [target]).eraseDups).foldl State.entryReverted s
  else (s.applyAt kind target .revert (factoryValues kind target)).dirtied kind target

theorem State.revertTuning_eq (s : State) (kind target : Nat) : s.revertTuning kind target = (s.reverted kind target).commit .tunings := rfl

theorem notMem_entryReverted {s : State} {k : Nat} (h : k ∉ s.cal.user) (e : Nat) : k ∉ (s.entryReverted e).cal.user := by
  rw [State.entryReverted, State.dirtied_eq, State.commit_cal, State.dirty, State.applyAt_revert_user]
  exact notMem_setUser h 9 e

theorem notMem_foldl_entryReverted (l : List Nat) {s : State} {k : Nat} (h : k ∉ s.cal.user) :
    k ∉ (l.foldl State.entryReverted s).cal.user := by
  induction l generalizing s with
  | nil => exact h
  | cons e l ih => exact ih (notMem_entryReverted h e)

/-- After a revert its pair has no user-value mark. -/
theorem calKey_notMem_reverted (s : State) (kind target : Nat) : calKey kind target ∉ (s.reverted kind target).cal.user := by
  have hmark : calKey kind target ∉ (s.unmarked kind target).cal.user := calKey_notMem_setUser s kind target
  unfold State.reverted
  dsimp only
  split
  · exact notMem_foldl_entryReverted _ hmark
  · rw [State.dirtied_eq, State.commit_cal, State.dirty, State.applyAt_revert_user]
    exact hmark

/-- What is put in force at an application point that is not open waits for it (R205). -/
theorem State.applyAt_of_closed {s : State} {kind target : Nat} (form : ApplyForm) (l : List Int) (h : s.pointOpen kind target = false) :
    s.applyAt kind target form l = { s with cal := { s.cal with
      ready := s.cal.ready.filter (fun r => !(r.kind == kind && r.target == target && (form != .step || r.form == .step))) ++
        [⟨kind, target, form, l⟩] } } := by
  unfold State.applyAt
  exact if_neg (by rw [Bool.not_eq_true]; exact h)

/-- The revert of a channel's offset codes, its commit still to be entered: the factory's zeros wait for the next selection. -/
def State.offsetReverted (s : State) (ch : Nat) : State :=
  let w := s.unmarked 3 ch
  ({ w with cal := { w.cal with
    ready := w.cal.ready.filter (fun r => !(r.kind == 3 && r.target == ch)) ++ [⟨3, ch, .revert, [0, 0]⟩] } } : State).dirty 3 ch

theorem State.reverted_offset (s : State) (ch : Nat) : s.reverted 3 ch = (s.offsetReverted ch).commit .tunings := by
  have hforms : (fun r : Ready => !(r.kind == 3 && r.target == ch && (ApplyForm.revert != .step || r.form == .step))) =
      fun r => !(r.kind == 3 && r.target == ch) := by
    funext r
    simp
  rw [State.reverted, if_neg (by decide), State.applyAt_of_closed _ _ rfl, State.dirtied_eq, hforms]
  rfl

theorem State.offsetReverted_cal (s : State) (ch : Nat) : (s.offsetReverted ch).cal = { s.cal with
    user := s.cal.user.filter (fun k => k != calKey 3 ch)
    ready := s.cal.ready.filter (fun r => !(r.kind == 3 && r.target == ch)) ++ [⟨3, ch, .revert, [0, 0]⟩]
    dirty := (3, ch) :: s.cal.dirty.filter (fun d => d != (3, ch)) } := by
  simp only [State.offsetReverted, State.dirty, State.unmarked, State.causeEndKey_cal, State.setUser_cal]

theorem State.offsetReverted_changes (s : State) (ch : Nat) : Changes [.cal, .faults] [] s (s.offsetReverted ch) := by
  have hmark : Changes [.cal] [] s (s.setUser 3 ch false) := s.withCal_changes _
  exact ((hmark.trans (State.withFaults_changes _ _)).trans ((State.withFaults_changes _ _).trans
    ((State.withCal_changes _ _).trans (State.withCal_changes _ _)))).mono (by simp) (by simp)

theorem serves_offsetRevert {s : State} {t : Tenant} {j : Job} (h : s.Writes t j 0x6000 0x04 [2]) (h3 : s.rd (obT 0x6000 0x01 t) = 3) :
    Serves (.tuningRevert t) s (((s.offsetReverted (s.rd (obT 0x6000 0x02 t))).commit .tunings).commit .tunings) t j [] false := by
  have hserves := serves_tuningRevert h
  rwa [h3, State.revertTuning_eq, State.reverted_offset] at hserves

/-! ### Aborts (R223) and automatic tunings (R207) -/

theorem State.abortTunings_of_none {s : State} {p : Tuning → Bool} (h : (s.cal.running ++ s.cal.queue).filter p = []) :
    s.abortTunings p = s.nextTunings := by
  rw [State.abortTunings, h, List.foldl_nil]

theorem State.abortTunings_of_one {s : State} {p : Tuning → Bool} {u : Tuning} (h : (s.cal.running ++ s.cal.queue).filter p = [u]) :
    s.abortTunings p = (s.endTuning u 5).nextTunings := by
  rw [State.abortTunings, h, List.foldl_cons, List.foldl_nil]

/-- An automatic tuning no longer due. -/
def State.autoTaken (s : State) (kind target : Nat) : State :=
  { s with cal := { s.cal with autos := s.cal.autos.filter (fun p => p != (kind, target)) } }

theorem ends_autoTuningStart {s : State} {kind target : Nat} (hm : (kind, target) ∈ s.cal.autos) (hi : s.targetIdle kind target = true) :
    Ends (.autoTuningStart kind target) s ((s.autoTaken kind target).startTuning (autoTuning kind target)) :=
  if_pos (by simp [hm, hi])

theorem ends_autoTuningStart_of_not {s : State} {kind target : Nat}
    (h : (kind, target) ∉ s.cal.autos ∨ s.targetIdle kind target = false) : Ends (.autoTuningStart kind target) s s := by
  refine if_neg ?_
  obtain h | h := h <;> simp [h]

/-- Settles O37: start, revert (of any kind, then of offset codes), abort, and an automatic tuning that can begin or cannot. -/
theorem tuningRequests : Obligations.TuningRequests := by
  unfold Obligations.TuningRequests
  refine ⟨?start, ?revert, ?offset, ?abort, ?auto, ?kept⟩
  case start =>
    intro s t j hw h12 hcount
    have hserves := serves_tuningStart hw
    rw [State.startTuning_eq] at hserves
    exact ⟨s.tuningQueued (s.requestedTuning t), hserves, s.tuningQueued_changes (u := s.requestedTuning t) rfl, s.tuningQueued_cal _,
      s.rd_tuningQueued_state (u := s.requestedTuning t) rfl, s.rd_tuningQueued_count (u := s.requestedTuning t) (kind_pos_of_start hw) h12 hcount⟩
  case revert =>
    intro s t j hw
    exact ⟨_, serves_tuningRevert hw, calKey_notMem_reverted s _ _⟩
  case offset =>
    intro s t j hw h3
    refine ⟨_, serves_offsetRevert hw h3, s.offsetReverted_changes _, ?_⟩
    rw [State.offsetReverted_cal]
    exact ⟨rfl, rfl, List.mem_cons_self⟩
  case abort =>
    intro s t j hw
    refine ⟨fun hnone hqueue => ?_, fun u hone => ?_⟩
    · have hserves := serves_tuningAbort hw
      rwa [State.abortTunings_of_none hnone, State.nextTunings_of_none_waiting s hqueue] at hserves
    · have hserves := serves_tuningAbort hw
      rwa [State.abortTunings_of_one hone] at hserves
  case auto =>
    intro s k x hm hi
    exact ⟨s.autoTaken k x, ends_autoTuningStart hm hi, s.withCal_changes _, rfl⟩
  case kept =>
    intro s k x h
    exact ends_autoTuningStart_of_not h

end Sys2Proof.Machine
end
section
/-! PROOFS. A tuning's two runs, its test and its end (R201, R203, R204, Table 8-1): the statement `TuningRuns`. -/

namespace Sys2Proof.Machine

/-! ### The first run (R203) -/

theorem State.repeatRun_cal (s : State) (u : Tuning) (r : Run) : (s.repeatRun u r).cal = { s.cal with
    running := s.cal.running.map (fun x => if x = u then { u with stage := 2, first := some r } else x) } := by
  rw [State.repeatRun, State.tuneState_cal]

theorem State.repeatRun_changes (s : State) (u : Tuning) (r : Run) :
    Changes [.cal] (if u.auto then [] else [obT 0x6000 0x05 u.tenant]) s (s.repeatRun u r) :=
  (s.withCal_changes _).trans (State.tuneState_changes _ u 3)

theorem State.rd_repeatRun_state (s : State) {u : Tuning} (r : Run) (ha : u.auto = false) :
    (s.repeatRun u r).rd (obT 0x6000 0x05 u.tenant) = 3 :=
  State.rd_tuneState _ 3 ha

/-- The run of any kind but OSC_40 is judged as reported. -/
theorem State.asRun_of_ne (s : State) {u : Tuning} (r : Run) (h : u.kind ≠ 0x0B) : s.asRun u r = r := if_neg h

theorem ends_tuningFirstRunDone {s : State} {u : Tuning} {r : Run} (h : s.tuningAt 1 = some u) (hk : u.kind ≠ 0x0B) :
    Ends (.tuningFirstRunDone r) s (s.repeatRun u r) := by
  change execTuningFirstRunDone r s = _
  simp only [execTuningFirstRunDone, h, s.asRun_of_ne r hk, done_eq]

theorem ends_tuningFirstRunDone_of_none {s : State} {r : Run} (h : s.tuningAt 1 = none) : Ends (.tuningFirstRunDone r) s s := by
  change execTuningFirstRunDone r s = _
  simp only [execTuningFirstRunDone, h, done_eq]

/-! ### The repeat run and the test of R203 -/

/-- Out of range comes before apart; PARK_UNREACHABLE is an ANT_TUNE's alone (R203, R211). -/
theorem judgeRuns_of_ne {kind : Nat} (a b : Run) (h : kind ≠ 1) :
    judgeRuns kind a b = if (runInRange kind a && runInRange kind b) = false then 2 else if runsAgree kind a b then 0 else 1 := by
  simp only [judgeRuns, h, false_and, if_false, Bool.not_eq_true']

section
variable {s : State} {u : Tuning} {a b : Run}

theorem State.judgeTuning_of_accepted (hk : u.kind ≠ 1) (hf : u.first = some a) (ha : runInRange u.kind a = true)
    (hb : runInRange u.kind b = true) (hab : runsAgree u.kind a b = true) :
    s.judgeTuning u b = (s.acceptTuning u b.values).nextTunings := by
  have hst : judgeRuns u.kind a b = 0 := by simp [judgeRuns_of_ne a b hk, ha, hb, hab]
  simp only [State.judgeTuning, hf, hst, if_true]

theorem State.judgeTuning_of_out_of_range (hk : u.kind ≠ 1) (hf : u.first = some a)
    (hab : (runInRange u.kind a && runInRange u.kind b) = false) : s.judgeTuning u b = (s.endTuning u 2).nextTunings := by
  have hst : judgeRuns u.kind a b = 2 := by rw [judgeRuns_of_ne a b hk, if_pos hab]
  simp only [State.judgeTuning, hf, hst, OfNat.ofNat_ne_zero, if_false]

theorem State.judgeTuning_of_apart (hk : u.kind ≠ 1) (hf : u.first = some a) (ha : runInRange u.kind a = true)
    (hb : runInRange u.kind b = true) (hab : runsAgree u.kind a b = false) :
    s.judgeTuning u b = (s.endTuning u 1).nextTunings := by
  have hst : judgeRuns u.kind a b = 1 := by simp [judgeRuns_of_ne a b hk, ha, hb, hab]
  simp only [State.judgeTuning, hf, hst, one_ne_zero, if_false]

/-- The repeat run of a tuning that emits nothing is tested at once. -/
theorem ends_tuningRepeatDone (h : s.tuningAt 2 = some u) (hq : u.voice = none ∨ u.emits = false) (hk : u.kind ≠ 0x0B) :
    Ends (.tuningRepeatDone b) s (s.judgeTuning u b) := by
  change execTuningRepeatDone b s = _
  simp only [execTuningRepeatDone, h, s.asRun_of_ne b hk]
  cases hv : u.voice with
  | none => rfl
  | some v =>
    have he : u.emits = false := hq.resolve_left (by simp [hv])
    simp only [he]
    rfl

theorem ends_tuningRepeatDone_of_none (h : s.tuningAt 2 = none) : Ends (.tuningRepeatDone b) s s := by
  change execTuningRepeatDone b s = _
  simp only [execTuningRepeatDone, h, done_eq]

/-- An idle step tests the one tuning that is APPLYING before time passes. -/
theorem State.idle_of_applying (h : s.cal.running.filter (fun w => w.stage == 4) = [u]) (hl : u.last = some b) :
    s.idle = (s.judgeTuning u b).pass.doze := by
  rw [State.idle, s.judgeApplying_single h hl]

end

/-! ### The repeat run of a tuning that emits (Table 8-5) -/

/-- The step that a voice serves taken from it. -/
def State.voiceFreed (s : State) (v : VoiceId) : State :=
  ((s.cancelAll (fun tm => tm == .select v || tm == .dwell v)).setVoice v
    (fun x => { x.undefer with grant := none, abandoned := false, exchange := none, session := none })).wr (ob (vi v) 0x08) 0xFF

/-- The time of the down-ramp that gives a voice back. -/
def State.releaseRamp (s : State) (v : VoiceId) : Nat :=
  max (match s.voices[v].grant with | some g => g.ramp | none => s.minRamp) (s.voiceFreed v).minRamp

theorem State.releaseVoice_eq (s : State) (v : VoiceId) : s.releaseVoice v =
    if (s.voiceFreed v).voiceState v = 5 then s.voiceFreed v
    else if (s.voiceFreed v).emitting v then (s.voiceFreed v).rampDown v (s.releaseRamp v)
    else (s.voiceFreed v).reachFloor v := rfl

theorem State.voiceFreed_voiceState (s : State) (v : VoiceId) : (s.voiceFreed v).voiceState v = s.voiceState v :=
  State.rd_wr_other _ _ (by simp [vi])

/-- An emitting voice that is given back ramps down: nothing is due or tuned otherwise. -/
theorem State.releaseVoice_of_emitting {s : State} {v : VoiceId} (h : s.emitting v = true) :
    (s.releaseVoice v).voiceState v = 5 ∧ (s.releaseVoice v).dues = s.dues ∧ (s.releaseVoice v).cal = s.cal := by
  have hfreed : (s.voiceFreed v).emitting v = true := by rwa [State.emitting, s.voiceFreed_voiceState]
  have hramp (w : State) (n : Nat) : (w.rampDown v n).voiceState v = 5 :=
    (State.rd_armIn _ _ _ _).trans (State.rd_wr_self _ _ _)
  rw [s.releaseVoice_eq]
  by_cases h5 : (s.voiceFreed v).voiceState v = 5
  · rw [if_pos h5]
    exact ⟨h5, rfl, rfl⟩
  · rw [if_neg h5, if_pos hfreed]
    exact ⟨hramp _ _, rfl, rfl⟩

theorem ne_osc40_of_emits {u : Tuning} (h : u.emits = true) : u.kind ≠ 0x0B := by
  rintro e
  simp [Tuning.emits, e] at h

theorem State.rampTuning_of_emitting {s : State} {u : Tuning} {v : VoiceId} {b : Run} (hs : s.voices[v].serves u = true)
    (he : s.emitting v = true) :
    s.rampTuning u v b = (s.setTuning u { u with stage := 3, last := some b }).releaseVoice v := by
  obtain ⟨hstate, -, -⟩ := State.releaseVoice_of_emitting (s := s.setTuning u { u with stage := 3, last := some b }) he
  have hs' : (s.setTuning u { u with stage := 3, last := some b }).voices[v].serves u = true := hs
  simp only [State.rampTuning, hs', hstate, if_true]

theorem ends_tuningRepeatDone_of_emitting {s : State} {u : Tuning} {v : VoiceId} {b : Run} (h : s.tuningAt 2 = some u)
    (hv : u.voice = some v) (he : u.emits = true) (hs : s.voices[v].serves u = true) (hemit : s.emitting v = true) :
    Ends (.tuningRepeatDone b) s ((s.setTuning u { u with stage := 3, last := some b }).releaseVoice v) := by
  change execTuningRepeatDone b s = _
  simp only [execTuningRepeatDone, h, s.asRun_of_ne b (ne_osc40_of_emits he), hv, he, if_true, done_eq,
    State.rampTuning_of_emitting hs hemit]

/-! ### The end of a tuning (R201 to R204) -/

/-- A tuning that holds no voice off the lists, its timers gone. -/
def State.tuningLeft (s : State) (u : Tuning) : State :=
  (({ s with
    cal := { s.cal with running := s.cal.running.filter (· != u), queue := s.cal.queue.filter (· != u) }
    dues := s.dues.filter (fun d => !(d.tuning == some (u.kind, u.target) && d.tenant == u.tenant)) } : State).cancel
      (.refEdge u.tenant)).cancel (.refGate u.tenant)

/-- The request object of a tuning that was asked for: IDLE, its status and its instant. -/
def State.requestEnded (s : State) (u : Tuning) (st : Nat) : State :=
  if u.auto then s
  else s.wrAll [(obT 0x6000 0x05 u.tenant, 0), (obT 0x6000 0x06 u.tenant, st), (obT 0x6000 0x07 u.tenant, s.now)]

/-- The records of its kind. -/
def State.kindCounted (s : State) (u : Tuning) (st : Nat) : State :=
  if st = 0 then (s.inc (ob (0x6300 + u.kind) 0x02)).wr (ob (0x6300 + u.kind) 0x05) s.now
  else (s.inc (ob (0x6300 + u.kind) 0x03)).wrAll [(ob (0x6300 + u.kind) 0x06, s.now), (ob (0x6300 + u.kind) 0x07, u.target),
    (ob (0x6300 + u.kind) 0x08, st)]

/-- The causes of its two faults, and its event. -/
def State.endAnnounced (s : State) (u : Tuning) (st : Nat) : State :=
  let key := calKey u.kind u.target
  let s := if st = 0 then (s.causeEndKey 2 key).causeEndKey 3 key
    else if st = 1 then s.faultKeyed 2 u.tenant key key
    else if st = 2 then s.faultKeyed 3 u.tenant key key else s
  s.calEvent (if airKind u.kind then (if st = 0 then 944 else 945) else if st = 0 then 821 else 822) u.kind u.target st u.tenant

theorem State.endTuning_of_voiceless (s : State) {u : Tuning} (st : Nat) (h : u.voice = none) :
    s.endTuning u st = (((s.tuningLeft u).requestEnded u st).kindCounted u st).endAnnounced u st := by
  unfold State.endTuning
  rw [h]
  rfl

theorem State.endAnnounced_faultOnly (s : State) (u : Tuning) (st : Nat) : FaultOnly s (s.endAnnounced u st) := by
  unfold State.endAnnounced
  refine .trans (.ite ?_ (.ite (s.faultKeyed_faultOnly _ _ _ _) (.ite (s.faultKeyed_faultOnly _ _ _ _) (.refl s))))
    (State.calEvent_faultOnly _ _ _ _ _ _)
  exact (s.causeEndKey_faultOnly _ _).trans (State.causeEndKey_faultOnly _ _ _)

theorem State.kindCounted_changes (s : State) (u : Tuning) (st : Nat) :
    Changes [] ([0x02, 0x03, 0x05, 0x06, 0x07, 0x08].map (ob (0x6300 + u.kind))) s (s.kindCounted u st) := by
  unfold State.kindCounted
  split
  · exact ((s.inc_changes _).trans (State.wr_changes _ _ _)).mono (by simp) (by simp)
  · exact ((s.inc_changes _).trans (State.wrAll_changes _ _)).mono (by simp) (by simp)

theorem State.requestEnded_changes (s : State) (u : Tuning) (st : Nat) :
    Changes [] ([0x05, 0x06, 0x07].map (fun n => obT 0x6000 n u.tenant)) s (s.requestEnded u st) := by
  unfold State.requestEnded
  split
  · exact (Changes.refl s).mono (by simp) (by simp)
  · exact s.wrAll_changes _

theorem State.rd_requestEnded (s : State) {u : Tuning} (st : Nat) (h : u.auto = false) :
    (s.requestEnded u st).rd (obT 0x6000 0x05 u.tenant) = 0 ∧ (s.requestEnded u st).rd (obT 0x6000 0x06 u.tenant) = st := by
  simp [State.requestEnded, h, State.rd_wr, obT_inj]

/-- A counter goes up where its condition holds. -/
theorem State.rd_kindCounted (s : State) {u : Tuning} (st : Nat) (h0 : 0 < u.kind) (h12 : u.kind < 12)
    (h2 : s.rd (ob (0x6300 + u.kind) 0x02) + 1 < 2 ^ 32) (h3 : s.rd (ob (0x6300 + u.kind) 0x03) + 1 < 2 ^ 32) :
    (s.kindCounted u st).rd (ob (0x6300 + u.kind) 0x02) = s.rd (ob (0x6300 + u.kind) 0x02) + (if st = 0 then 1 else 0) ∧
    (s.kindCounted u st).rd (ob (0x6300 + u.kind) 0x03) = s.rd (ob (0x6300 + u.kind) 0x03) + (if st = 0 then 0 else 1) := by
  have hbits := dict_bits_tuningCounter h0 h12
  have hinc2 := s.rd_inc_self (ob (0x6300 + u.kind) 0x02) (by rw [hbits _ (by decide)]; exact h2)
  have hinc3 := s.rd_inc_self (ob (0x6300 + u.kind) 0x03) (by rw [hbits _ (by decide)]; exact h3)
  unfold State.kindCounted
  split <;> simp [State.rd_wr, State.rd_inc_other, hinc2, hinc3]

/-- The state at the end of a tuning that holds no voice, before its kind's records are written. -/
def State.tuningClosed (s : State) (u : Tuning) (st : Nat) : State := (s.tuningLeft u).requestEnded u st

theorem State.tuningClosed_cal (s : State) (u : Tuning) (st : Nat) : (s.tuningClosed u st).cal =
    { s.cal with running := s.cal.running.filter (· != u), queue := s.cal.queue.filter (· != u) } := by
  have hrequest : (s.tuningClosed u st).cal = (s.tuningLeft u).cal := (State.requestEnded_changes _ u st).same (p := .cal) (by simp)
  rw [hrequest]
  rfl

theorem State.rd_tuningClosed_record (s : State) (u : Tuning) (st : Nat) {n : Nat} (hn : n < 256) :
    (s.tuningClosed u st).rd (ob (0x6300 + u.kind) n) = s.rd (ob (0x6300 + u.kind) n) := by
  refine (State.requestEnded_changes (s.tuningLeft u) u st).rd (fun hm => ?_)
  obtain ⟨m, hm, e⟩ := List.mem_map.1 hm
  have hsub : ∀ m ∈ [0x05, 0x06, 0x07], m < 256 := by decide
  exact obT_ne_ob u.tenant (hsub m hm) hn (by omega) e

theorem State.endTuning_closed_cal (s : State) {u : Tuning} (st : Nat) (h : u.voice = none) :
    (s.endTuning u st).cal = (s.tuningClosed u st).cal := by
  have hcounted : ((s.tuningClosed u st).kindCounted u st).cal = (s.tuningClosed u st).cal :=
    (State.kindCounted_changes _ u st).same (p := .cal) (by simp)
  rw [s.endTuning_of_voiceless st h, (State.endAnnounced_faultOnly _ u st).cal]
  exact hcounted

/-- What follows leaves the request object. -/
theorem State.rd_endTuning_request (s : State) {u : Tuning} (st : Nat) (h : u.voice = none) {n : Nat} (hn : n < 256) :
    (s.endTuning u st).rd (obT 0x6000 n u.tenant) = (s.tuningClosed u st).rd (obT 0x6000 n u.tenant) := by
  rw [s.endTuning_of_voiceless st h, (State.endAnnounced_faultOnly _ u st).rd _ (faultKey_obT_outside _ (by decide) (by decide) hn)]
  refine (State.kindCounted_changes _ u st).rd (fun hm => ?_)
  obtain ⟨m, hm, e⟩ := List.mem_map.1 hm
  have hsub : ∀ m ∈ [0x02, 0x03, 0x05, 0x06, 0x07, 0x08], m < 256 := by decide
  exact obT_ne_ob u.tenant hn (hsub m hm) (by omega) e.symm

/-- The faults and the event leave the kind's records. -/
theorem State.rd_endTuning_record (s : State) {u : Tuning} (st : Nat) (h : u.voice = none) (h12 : u.kind < 12) {n : Nat} (hn : n < 256) :
    (s.endTuning u st).rd (ob (0x6300 + u.kind) n) = ((s.tuningClosed u st).kindCounted u st).rd (ob (0x6300 + u.kind) n) := by
  rw [s.endTuning_of_voiceless st h, (State.endAnnounced_faultOnly _ u st).rd _ (faultKey_ob_outside (by omega) (by omega) hn)]
  rfl

/-- Settles O38: the first run's report, the repeat run's of a tuning that emits and of one that does not, the test at an idle step, and
the end of a tuning that holds no voice. -/
theorem tuningRuns : Obligations.TuningRuns := by
  unfold Obligations.TuningRuns
  refine ⟨?first, ?noFirst, ?emitting, ?applying, ?quiet, ?noRepeat, ?ended⟩
  case first =>
    intro s u r h hk
    exact ⟨_, ends_tuningFirstRunDone h hk, s.repeatRun_changes u r, s.rd_repeatRun_state r, s.repeatRun_cal u r⟩
  case noFirst =>
    intro s r h
    exact ends_tuningFirstRunDone_of_none h
  case emitting =>
    intro s u v b h hv he hs hemit
    obtain ⟨hstate, hdues, hcal⟩ := State.releaseVoice_of_emitting (s := s.setTuning u { u with stage := 3, last := some b }) hemit
    exact ⟨_, ends_tuningRepeatDone_of_emitting h hv he hs hemit, hstate, hdues, hcal⟩
  case applying =>
    intro s u a b h hk hf hl
    rw [State.idle_of_applying h hl]
    refine ⟨fun ha hb hab => ?_, fun hab => ?_, fun ha hb hab => ?_⟩
    · rw [State.judgeTuning_of_accepted hk hf ha hb hab]
    · rw [State.judgeTuning_of_out_of_range hk hf hab]
    · rw [State.judgeTuning_of_apart hk hf ha hb hab]
  case quiet =>
    intro s u a b h hq hk hk1 hf
    have hends := ends_tuningRepeatDone (b := b) h hq hk
    refine ⟨fun ha hb hab => ?_, fun hab => ?_, fun ha hb hab => ?_⟩
    · rwa [State.judgeTuning_of_accepted hk1 hf ha hb hab] at hends
    · rwa [State.judgeTuning_of_out_of_range hk1 hf hab] at hends
    · rwa [State.judgeTuning_of_apart hk1 hf ha hb hab] at hends
  case noRepeat =>
    intro s r h
    exact ends_tuningRepeatDone_of_none h
  case ended =>
    intro s u st h0 h12 hv h2 h3
    have hcal := s.endTuning_closed_cal st hv
    rw [State.tuningClosed_cal] at hcal
    have hrecord {n : Nat} (hn : n < 256) := s.rd_tuningClosed_record u st hn
    obtain ⟨haccepted, hrejected⟩ := (s.tuningClosed u st).rd_kindCounted st h0 h12
      (by rw [hrecord (by decide)]; exact h2) (by rw [hrecord (by decide)]; exact h3)
    rw [hrecord (by decide)] at haccepted hrejected
    refine ⟨by simp [hcal], by simp [hcal], fun ha => ?_, ?_, ?_⟩
    · obtain ⟨hidle, hstatus⟩ := (s.tuningLeft u).rd_requestEnded st ha
      exact ⟨(s.rd_endTuning_request st hv (by decide)).trans hidle, (s.rd_endTuning_request st hv (by decide)).trans hstatus⟩
    · exact (s.rd_endTuning_record st hv h12 (by decide)).trans haccepted
    · exact (s.rd_endTuning_record st hv h12 (by decide)).trans hrejected

end Sys2Proof.Machine
end
section
/-! PROOFS. Slice retirement, the hourly cue check and the external reference (R217, R218, R220): the statement
`SlicesCueAndReference`. -/

namespace Sys2Proof.Machine

/-! ### Slice retirement (R217) -/

theorem ends_sliceRetirement {s : State} {i : Fin 12} {w : List Int}
    (hw : s.cal.windows.find? (fun p => p.1 == calKey 8 0x200) = some (calKey 8 0x200, w))
    (hi : (s.rd (ob 0x6200 0x01)).testBit i.val = true) (hb : sliceBad w i.val = true) (hf : s.inAirFrame = false) :
    Ends (.sliceRetirement i) s
      (((s.arrangeSlices (s.rd (ob 0x6200 0x02) ||| 2 ^ i.val)).calEvent 946 8 0x200 0 t0).noteAuto 8 0x200) := by
  change execSliceRetirement i s = _
  simp only [execSliceRetirement, hw, hi, hb, hf, Bool.not_false, Bool.and_self, if_true, done_eq]

/-- A slice that is not active is not retired. -/
theorem ends_sliceRetirement_of_inactive {s : State} {i : Fin 12} (h : (s.rd (ob 0x6200 0x01)).testBit i.val = false) :
    Ends (.sliceRetirement i) s s := by
  change execSliceRetirement i s = _
  unfold execSliceRetirement
  split
  · rfl
  · simp only [h, Bool.false_and, Bool.false_eq_true, if_false, done_eq]

/-! ### The hourly check of the cue receiver (R218) -/

/-- The hour's false wakes begun anew, the ended hour's count left for the next check as `hour`. -/
def State.hourBegun (s : State) (hour : Option Nat) : State :=
  ({ s with cal := { s.cal with wakes := 0, heard := false, hour := hour } } : State).armIn .cueHour 3600000000

theorem State.hourBegun_changes (s : State) (hour : Option Nat) : Changes [.cal, .timers] [] s (s.hourBegun hour) :=
  (s.withCal_changes _).trans (State.armIn_changes _ _ _)

theorem State.hourBegun_dueAt (s : State) (hour : Option Nat) : (s.hourBegun hour).dueAt .cueHour = some (s.now + 3600000000) :=
  (State.arm_dueAt _ _ _).trans (by rw [(s.withCal_changes _).now (by simp) (by simp) (by simp)])

/-- An hour in which background correction is off or stopped, or the receiver has not listened, counts nothing. -/
theorem ends_cueHourlyCheck_of_unused {s : State} (hdue : s.isDue .cueHour = true)
    (h : s.rd (ob 0x6200 0x07) = 0 ∨ s.cal.heard = false ∨ s.referenceRuns 0x200 = true) :
    Ends .cueHourlyCheck s (s.hourBegun none) := by
  have hunused : (!s.isOn (ob 0x6200 0x07) || !s.cal.heard || s.referenceRuns 0x200) = true := by
    obtain h | h | h := h <;> simp [State.isOn, h]
  exact (if_pos hdue).trans (if_pos hunused)

theorem cueHour_used {s : State} (hon : s.rd (ob 0x6200 0x07) ≠ 0) (href : s.referenceRuns 0x200 = false)
    (hheard : s.cal.heard = true) : ¬(!s.isOn (ob 0x6200 0x07) || !s.cal.heard || s.referenceRuns 0x200) = true := by
  simp [State.isOn, hon, href, hheard]

/-- An hour that counts, where none before it did, is only kept. -/
theorem ends_cueHourlyCheck_of_first {s : State} (hdue : s.isDue .cueHour = true) (hon : s.rd (ob 0x6200 0x07) ≠ 0)
    (href : s.referenceRuns 0x200 = false) (hheard : s.cal.heard = true) (hm : s.cal.hour = none) :
    Ends .cueHourlyCheck s (s.hourBegun (some s.cal.wakes)) := by
  refine (if_pos hdue).trans ((if_neg (cueHour_used hon href hheard)).trans ?_)
  rw [hm]
  rfl

/-- An hour that counts is judged with the hour before. -/
theorem ends_cueHourlyCheck_of_second {s : State} {m : Nat} (hdue : s.isDue .cueHour = true) (hon : s.rd (ob 0x6200 0x07) ≠ 0)
    (href : s.referenceRuns 0x200 = false) (hheard : s.cal.heard = true) (hm : s.cal.hour = some m) :
    Ends .cueHourlyCheck s (if 4 < m ∧ 4 < s.cal.wakes then (s.hourBegun (some s.cal.wakes)).applyAt 7 0x200 .step [1]
      else if m = 0 ∧ s.cal.wakes = 0 then (s.hourBegun (some s.cal.wakes)).applyAt 7 0x200 .step [-1]
      else s.hourBegun (some s.cal.wakes)) := by
  refine (if_pos hdue).trans ((if_neg (cueHour_used hon href hheard)).trans ?_)
  rw [hm, ← done_eq, apply_ite done, apply_ite done]
  rfl

/-! ### The external reference (R220) -/

/-- An edge that does not come ends the tuning that waits for it. -/
theorem ends_refEdgeTimeout {s : State} {t : Tenant} {u : Tuning} (hdue : s.isDue (.refEdge t) = true)
    (hu : s.cal.running.find? (fun u => u.method == 2 && u.tenant == t) = some u) :
    Ends (.refEdgeTimeout t) s (s.endTuning u 4).nextTunings := by
  change execRefEdgeTimeout t s = _
  simp only [execRefEdgeTimeout, hdue, if_true, hu, done_eq]

theorem ends_refEdgeTimeout_of_none {s : State} {t : Tenant} (hdue : s.isDue (.refEdge t) = true)
    (hu : s.cal.running.find? (fun u => u.method == 2 && u.tenant == t) = none) :
    Ends (.refEdgeTimeout t) s (s.cancel (.refEdge t)) := by
  change execRefEdgeTimeout t s = _
  simp only [execRefEdgeTimeout, hdue, if_true, hu, done_eq]

/-- The run that a steady gate of `n` cycles of the field island gives (R220). -/
def State.gateRun (s : State) (n : Nat) : Run :=
  { values := [gateError n (s.rdInt (ob 0x6010 0x03)) (27120000 * s.rd (ob 0x6010 0x04))], inRange := true }

theorem ends_refGateEnd_of_unsteady {s : State} {u : Tuning} (h : s.gated = some u) (n : Nat) :
    Ends (.refGateEnd n false) s ((s.cancel (.refEdge u.tenant)).endTuning u 4).nextTunings := by
  change execRefGateEnd n false s = _
  simp only [execRefGateEnd, h, Bool.not_false, if_true, done_eq]

/-- The first gate of an OSC_27 tuning makes its first run. -/
theorem ends_refGateEnd_of_first {s : State} {u : Tuning} (h : s.gated = some u) (n : Nat) (h1 : u.stage = 1) (hk : u.kind = 0x0A) :
    Ends (.refGateEnd n true) s ((s.cancel (.refEdge u.tenant)).repeatRun u (s.gateRun n)) := by
  change execRefGateEnd n true s = _
  simp only [execRefGateEnd, h, Bool.not_true, Bool.false_eq_true, if_false, h1, if_true, State.nominal, hk, done_eq]
  rfl

theorem ends_refGateEnd_of_none {s : State} (h : s.gated = none) (n : Nat) (b : Bool) : Ends (.refGateEnd n b) s s := by
  change execRefGateEnd n b s = _
  simp only [execRefGateEnd, h, done_eq]

/-- A tuning under way is, once its first run is made, under way in its repeat run. -/
theorem mem_repeatRun_running {s : State} {u : Tuning} (h : u ∈ s.cal.running) (r : Run) :
    { u with stage := 2, first := some r } ∈ (s.repeatRun u r).cal.running := by
  rw [State.repeatRun_cal]
  exact List.mem_map.2 ⟨u, h, if_pos rfl⟩

/-- Settles O40: a slice retired or not active, the cue receiver's hour that counts or does not, the edge that does not come, and the end
of a gate. -/
theorem slicesCueAndReference : Obligations.SlicesCueAndReference := by
  unfold Obligations.SlicesCueAndReference
  refine ⟨?retired, ?inactive, ?used, ?unused, ?edge, ?gate, ?noGate⟩
  case retired =>
    intro s i w hw hi hb hf
    exact ends_sliceRetirement hw hi hb hf
  case inactive =>
    intro s i h
    exact ends_sliceRetirement_of_inactive h
  case used =>
    intro s hdue hon href hheard
    exact ⟨s.hourBegun (some s.cal.wakes), s.hourBegun_changes _, rfl, s.hourBegun_dueAt _,
      ends_cueHourlyCheck_of_first hdue hon href hheard, fun m => ends_cueHourlyCheck_of_second hdue hon href hheard⟩
  case unused =>
    intro s hdue h
    exact ⟨s.hourBegun none, ends_cueHourlyCheck_of_unused hdue h, s.hourBegun_changes _, s.hourBegun_dueAt _, rfl⟩
  case edge =>
    intro s t hdue
    refine ⟨fun u hu => ends_refEdgeTimeout hdue hu, fun hu => ?_⟩
    exact ⟨_, ends_refEdgeTimeout_of_none hdue hu, s.cancel_changes _, s.cancel_isArmed _⟩
  case gate =>
    intro s n u h
    refine ⟨ends_refGateEnd_of_unsteady h n, fun h1 hk => ?_⟩
    have hchanges := (s.cancel_changes (.refEdge u.tenant)).trans (State.repeatRun_changes _ u (s.gateRun n))
    exact ⟨_, ends_refGateEnd_of_first h n h1 hk, hchanges.mono (by simp) (by simp),
      mem_repeatRun_running (s := s.cancel (.refEdge u.tenant)) (List.mem_of_find?_eq_some h) _⟩
  case noGate =>
    intro s n b h
    exact ends_refGateEnd_of_none h n b

end Sys2Proof.Machine
end
section
/-! PROOFS. What the air die's shared operations set and leave (chapters 8 to 10, R229, R239, R252): shared by the proofs about the air die. -/

namespace Sys2Proof.Machine

/-! ### Frames -/

theorem State.withAir_changes (s : State) (a : Air) : Changes [.air] [] s { s with air := a } := by
  refine ⟨rfl, fun p hp => ?_, fun _ _ => rfl⟩
  cases p
  case air => exact absurd (List.mem_singleton_self _) hp
  all_goals rfl

theorem State.withMac_changes (s : State) (m : Mac) : Changes [.mac] [] s { s with mac := m } := by
  refine ⟨rfl, fun p hp => ?_, fun _ _ => rfl⟩
  cases p
  case mac => exact absurd (List.mem_singleton_self _) hp
  all_goals rfl

theorem State.causeEnd_changes (s : State) (f : Nat) : Changes [.faults] [] s (s.causeEnd f) := s.withFaults_changes _

theorem Changes.ite {ps : List Part} {ks : List Nat} {s t u : State} {c : Prop} [Decidable c] (h : Changes ps ks s t)
    (g : Changes ps ks s u) : Changes ps ks s (if c then t else u) := by
  split
  · exact h
  · exact g

/-! ### Timers -/

/-- Where a timer is set is read from the timers alone. -/
theorem State.dueAt_congr {s t : State} (h : t.timers = s.timers) (tm : Timer) : t.dueAt tm = s.dueAt tm := by
  unfold State.dueAt; rw [h]

/-- A timer set some time from now, where `t` has the device time of `s`. -/
theorem State.armIn_dueAt {s t : State} (h : t.now = s.now) (tm : Timer) (us : Nat) : (t.armIn tm us).dueAt tm = some (s.now + us) := by
  rw [State.armIn, State.arm_dueAt, h]

theorem State.isDue_of_le {s : State} {tm : Timer} {d : Nat} (h : s.dueAt tm = some d) (hd : d ≤ s.now) : s.isDue tm = true := by
  simp [State.isDue, h, hd]

/-! ### The air die's state and the front end (R229, R252) -/

theorem State.setAir_changes (s : State) (n : Nat) : Changes [] [ob 0x4050 0x04] s (s.setAir n) := s.wr_changes _ _

@[simp] theorem State.airState_setAir (s : State) (n : Nat) : (s.setAir n).airState = n := s.rd_wr_self _ _

/-- The state of the air die stands with the objects but for its own. -/
theorem Changes.airState {ps : List Part} {ks : List Nat} {s t : State} (h : Changes ps ks s t) (hk : ob 0x4050 0x04 ∉ ks) :
    t.airState = s.airState := h.rd hk

theorem Changes.frontEnd {ps : List Part} {ks : List Nat} {s t : State} (h : Changes ps ks s t) (hk : ob 0x4030 0x01 ∉ ks) :
    t.frontEnd = s.frontEnd := by unfold State.frontEnd State.isOn; rw [h.rd hk]

theorem State.fePins_changes (s : State) (en on sw lna byp : Bool) : Changes [.pins] [] s (s.fePins en on sw lna byp) :=
  s.withPins_changes _

theorem State.restPins_changes (s : State) : Changes [.pins] [] s s.restPins :=
  .ite (s.withPins_changes _) (.ite (s.fePins_changes _ _ _ _ _) (s.fePins_changes _ _ _ _ _))

theorem State.restPins_air (s : State) : s.restPins.air = s.air := s.restPins_changes.same (p := .air) (by decide)

/-- In LISTEN a declared front end has its low-noise amplifier on. -/
theorem State.restPins_of_listening {s : State} (h : s.airServes = true) (h2 : s.airState = 2) :
    s.restPins = s.fePins false false false true false := by
  simp [State.restPins, h, h2]

/-! ### Application points (R205, Table 8-3) -/

/-- With nothing ready for an application point, it passes unnoticed. -/
theorem State.applyReady_of_none {s : State} (p : Ready → Bool) (h : s.cal.ready = []) : s.applyReady p = s := by
  have hself : { s with cal := { s.cal with ready := s.cal.ready } } = s := rfl
  unfold State.applyReady
  simp only [h, List.filter_nil, List.foldl_nil]
  rwa [h] at hself

/-! ### The receiver's channel (R239, R280, R285) -/

/-- The channel of the node's work depends on neither the die's state nor the front end's balls. -/
theorem Changes.listenChannel {s t : State} (h : Changes [.air, .pins] [ob 0x4050 0x04] s t) : t.listenChannel = s.listenChannel := by
  have hmac : t.mac = s.mac := h.same (p := .mac) (by decide)
  have hnow : t.now = s.now := h.now (by decide) (by simp) (by simp)
  have hrd {i n : Nat} (hi : i ≠ 0x4050) (hn : n < 256) : t.rd (ob i n) = s.rd (ob i n) := h.rd (by simp [hn, hi])
  have hint {i n : Nat} (hi : i ≠ 0x4050) (hn : n < 256) : t.rdInt (ob i n) = s.rdInt (ob i n) := State.rdInt_congr (hrd hi hn)
  unfold State.listenChannel State.workChannel State.slotChannel State.slot State.netTime State.hops State.hopN State.hopAt
    State.profile State.role State.joinState
  simp (disch := decide) only [hmac, hnow, hrd, hint]

theorem State.tune_changes (s : State) (k : Nat) : Changes [.air] [] s (s.tune k) := by
  unfold State.tune
  split
  · exact s.withAir_changes _
  · exact (Changes.refl s).mono (by simp) (by simp)

end Sys2Proof.Machine
end
section
/-! PROOFS. The air die's start and stop, and its receiver (chapter 9, R230, R241 to R243, R263): the statement `AirStartAndReceiver`. -/

namespace Sys2Proof.Machine

/-! ### Start (R230) -/

/-- The air die starting, its source switched on, while the cue receiver is off. -/
def State.airStarting (s : State) : State :=
  ({ s.setAir 1 with air := { s.air with stop := false, cueAgain := false } } : State).armIn .airStart (s.rd (ob 0x4050 0x02) + 31)

/-- A cue receiver that is off has nothing to stop. -/
theorem State.cueStop_of_off {s : State} (h : s.air.cueState = 0) : s.cueStop = { s with air := { s.air with cueAgain := false } } := by
  simp [State.cueStop, h]

theorem State.airStart_of_off {s : State} (h0 : s.airState = 0) (hs : s.airServes = true) (hc : s.air.cueState = 0) :
    s.airStart = s.airStarting :=
  (if_pos ⟨h0, hs⟩).trans (congrArg (fun t : State => t.armIn .airStart _) (State.cueStop_of_off hc))

theorem State.airStarting_changes (s : State) : Changes [.air, .timers] [ob 0x4050 0x04] s s.airStarting :=
  (((s.setAir_changes 1).trans (State.withAir_changes _ _)).trans (State.armIn_changes _ _ _)).mono (by simp) (by simp)

theorem State.airStart_of_on {s : State} (h : s.airState ≠ 0) : s.airStart = s := if_neg fun e => h e.1

theorem State.airStarting_dueAt (s : State) : s.airStarting.dueAt .airStart = some (s.now + (s.rd (ob 0x4050 0x02) + 31)) :=
  State.armIn_dueAt (((s.setAir_changes 1).trans (State.withAir_changes _ _)).now (by simp) (by simp) (by simp)) _ _

/-- The clock counted within its bounds: AIR_READY follows 70 us later. -/
def State.clockCounted (s : State) : State := ((s.cancel .airStart).causeEnd 32).armIn .airClock 70

theorem State.clockCounted_changes (s : State) : Changes [.timers, .faults] [] s s.clockCounted :=
  (((s.cancel_changes _).trans (State.causeEnd_changes _ _)).trans (State.armIn_changes _ _ _)).mono (by simp) (by simp)

theorem ends_airClockCheck {s : State} {n : Nat} (h1 : s.airState = 1) (hdue : s.isDue .airStart = true) :
    Ends (.airClockCheck n) s (if 1219 ≤ n ∧ n ≤ 1222 then s.clockCounted
      else (((s.cancel .airStart).airOff).raise 847 [t0] []).fault 32 n) := by
  refine (if_pos ⟨h1, hdue⟩).trans ?_
  rw [← done_eq, apply_ite done]
  rfl

/-! ### LISTEN (R239, R263) -/

/-- The die in a receiving state with the idle attenuation and its balls at rest, before its channel is chosen. -/
def State.receiving (s : State) (n : Nat) : State :=
  (({ s with air := { s.air with atten := s.rd (ob 0x4050 0x03) } } : State).setAir n).restPins

theorem State.receiving_changes (s : State) (n : Nat) : Changes [.air, .pins] [ob 0x4050 0x04] s (s.receiving n) :=
  (((s.withAir_changes _).trans (State.setAir_changes _ _)).trans (State.restPins_changes _)).mono (by simp) (by simp)

theorem State.receiving_airState (s : State) (n : Nat) : (s.receiving n).airState = n :=
  ((State.restPins_changes _).airState (by simp)).trans (State.airState_setAir _ _)

theorem State.receiving_air (s : State) (n : Nat) : (s.receiving n).air = { s.air with atten := s.rd (ob 0x4050 0x03) } :=
  State.restPins_air _

theorem State.receiving_pins {s : State} (h : s.airServes = true) :
    (s.receiving 2).pins.xlnaEn = s.frontEnd ∧ (s.receiving 2).pins.xswTx = false := by
  have hrest : s.receiving 2 = _ := State.restPins_of_listening h (State.airState_setAir _ _)
  have hfe : (({ s with air := { s.air with atten := s.rd (ob 0x4050 0x03) } } : State).setAir 2).frontEnd = s.frontEnd :=
    ((s.withAir_changes _).trans (State.setAir_changes _ _)).frontEnd (by simp)
  rw [hrest]
  simp [State.fePins, hfe]

/-- The die in a receiving state on the channel of the node's work. -/
def State.tunedIn (s : State) (n : Nat) : State := (s.receiving n).tune (s.receiving n).listenChannel

theorem State.toListen_eq (s : State) : s.toListen =
    if ((s.tunedIn (if s.rd (ob 0x6200 0x03) = 2 then 8 else 2)).airPoint).airState = 2 ∧
        ((s.tunedIn (if s.rd (ob 0x6200 0x03) = 2 then 8 else 2)).airPoint).air.stop = true
      then ((s.tunedIn (if s.rd (ob 0x6200 0x03) = 2 then 8 else 2)).airPoint).airOff
      else ((s.tunedIn (if s.rd (ob 0x6200 0x03) = 2 then 8 else 2)).airPoint).nextTunings := rfl

theorem State.tunedIn_changes (s : State) (n : Nat) : Changes [.air, .pins] [ob 0x4050 0x04] s (s.tunedIn n) :=
  ((s.receiving_changes n).trans (State.tune_changes _ _)).mono (by simp) (by simp)

theorem State.tunedIn_airState (s : State) (n : Nat) : (s.tunedIn n).airState = n :=
  ((State.tune_changes _ _).airState (by simp)).trans (s.receiving_airState n)

theorem State.tunedIn_pins (s : State) (n : Nat) : (s.tunedIn n).pins = (s.receiving n).pins :=
  (State.tune_changes _ _).same (p := .pins) (by decide)

/-- The receiver's channel in LISTEN: unchanged where it is the one of the node's work, else a word for it written now. -/
theorem State.tunedIn_air (s : State) : (s.tunedIn 2).air =
    if s.listenChannel = s.air.channel then { s.air with atten := s.rd (ob 0x4050 0x03) }
    else { s.air with atten := s.rd (ob 0x4050 0x03), channel := s.listenChannel, before := s.rxChannel, tunedAt := s.now } := by
  have hc := s.receiving_changes 2
  have hnow : (s.receiving 2).now = s.now := hc.now (by decide) (by simp) (by simp)
  have hrx : (s.receiving 2).rxChannel = s.rxChannel := by
    unfold State.rxChannel
    rw [hnow, s.receiving_air]
  unfold State.tunedIn State.tune
  rw [hc.listenChannel, hrx, hnow, s.receiving_airState, s.receiving_air]
  by_cases h : s.listenChannel = s.air.channel
  · rw [if_neg (fun e => e.2 h), if_pos h, s.receiving_air]
  · rw [if_pos ⟨rfl, h⟩, if_neg h]

/-- With five slices healthy, no stop waiting and nothing to apply or to tune, the die comes to LISTEN and stays there. -/
theorem State.toListen_of_idle {s : State} (hmode : s.rd (ob 0x6200 0x03) ≠ 2) (hstop : s.air.stop = false) (hready : s.cal.ready = [])
    (hqueue : s.cal.queue = []) : s.toListen = s.tunedIn 2 := by
  have hcal : (s.tunedIn 2).cal = s.cal := (s.tunedIn_changes 2).same (p := .cal) (by decide)
  have hair : (s.tunedIn 2).air.stop = false := by
    rw [s.tunedIn_air]
    split <;> exact hstop
  have hpoint : (s.tunedIn 2).airPoint = s.tunedIn 2 := State.applyReady_of_none _ (by rw [hcal, hready])
  rw [s.toListen_eq, if_neg hmode, hpoint, if_neg (by simp [hair]), State.nextTunings_of_none_waiting _ (by rw [hcal, hqueue])]

/-! ### A frame received (R241 to R243) -/

/-- PREAMBLE with the channel settled and the idle attenuation, before its timeout is set. -/
def State.inPreamble (s : State) : State :=
  { s.settleChannel.setAir 3 with air := { s.settleChannel.air with atten := s.rd (ob 0x4050 0x03), changes := 0 } }

theorem State.inPreamble_changes (s : State) : Changes [.air] [ob 0x4050 0x04] s s.inPreamble :=
  ((((s.withAir_changes _ : Changes _ _ s s.settleChannel).trans (State.setAir_changes _ 3)).trans
    (State.withAir_changes _ _))).mono (by simp) (by simp)

/-- PREAMBLE begun, from the state of the frame's application point. -/
def State.preambleBegun (s : State) : State := s.inPreamble.armIn .preamble (s.rd (ob 0x4050 0x05))

theorem State.preambleBegun_changes (s : State) : Changes [.air, .timers] [ob 0x4050 0x04] s s.preambleBegun :=
  (s.inPreamble_changes.trans (State.armIn_changes _ _ _)).mono (by simp) (by simp)

theorem State.preambleBegun_dueAt (s : State) : s.preambleBegun.dueAt .preamble = some (s.now + s.rd (ob 0x4050 0x05)) :=
  State.armIn_dueAt (s.inPreamble_changes.now (by simp) (by simp) (by simp)) _ _

theorem ends_airEnergyDetect {s : State} (h2 : s.airState = 2) (ht : s.slicesTuned = false) :
    Ends .airEnergyDetect s s.framePoint.preambleBegun := by
  have hexec : exec .airEnergyDetect s = if s.airState = 2 ∧ s.slicesTuned = false then
      done (s.framePoint.inPreamble.armIn .preamble (s.framePoint.inPreamble.rd (ob 0x4050 0x05))) else done s := rfl
  rw [Ends, hexec, if_pos ⟨h2, ht⟩, s.framePoint.inPreamble_changes.rd (by simp), done_eq, State.preambleBegun]

/-- FRAME begun: the attenuator locked as the judged groups lead it, and the SFD's end noted. -/
def State.frameBegins (s : State) (l : List Nat) : State :=
  let c := attenWalk (s.rd (ob 0x4050 0x03)) s.air.atten s.air.changes l
  { (s.setAir 4).cancel .preamble with air := { s.air with atten := c.1, changes := c.2, sfdAt := s.now } }

theorem State.frameBegins_changes (s : State) (l : List Nat) : Changes [.air, .timers] [ob 0x4050 0x04] s (s.frameBegins l) :=
  (((s.setAir_changes 4).trans (State.cancel_changes _ _)).trans (State.withAir_changes _ _)).mono (by simp) (by simp)

theorem ends_airSfdFound {s : State} (h3 : s.airState = 3) (l : List Nat) :
    Ends (.airSfdFound l) s ((s.frameBegins l).inc (ob 0x4050 0x06)) := if_pos h3

theorem ends_preambleTimeout {s : State} (h3 : s.airState = 3) (hdue : s.isDue .preamble = true) (l : List Nat) :
    Ends (.preambleTimeout l) s ((s.cancel .preamble).inc (ob 0x4050 0x08)).toListen := if_pos ⟨h3, hdue⟩

/-- The record under which a frame's octets pass to the MAC (Table 9-5). -/
def State.frameRecord (s : State) (f : AirIn) (x : AirSignal) : RxFrame :=
  { frame := parseMac f, quality := s.airQuality x, sfdAt := s.air.sfdAt, endAt := s.now, index := s.air.channel }

/-- The end of a frame that did not reach the converter's limit: passed on, or discarded and counted (R242, R266). -/
theorem ends_airRxFrameEnd {s : State} {f : AirIn} {x : AirSignal} (h4 : s.airState = 4) (hp : x.peak < 511) :
    Ends (.airRxFrameEnd f x) s (if f.modeSwitch || decide (255 < f.psdu.length) then s.inc (ob 0x4130 0x0E)
      else { s with mac := { s.mac with rx := s.mac.rx ++ [s.frameRecord f x] } }).toListen := by
  have hclip : ¬ 511 ≤ x.peak := by omega
  change execAirRxFrameEnd f x s = _
  unfold execAirRxFrameEnd
  simp only [h4, if_true, hclip, if_false, done_eq]
  rfl

/-- The counters of the receiver (Tables 9-12 and 10-8) are 32 bits wide. -/
theorem dict_bits_receiverCounter : ∀ k ∈ [ob 0x4050 0x06, ob 0x4050 0x08, ob 0x4130 0x0E], Dict.bits k = 32 := by decide

/-- A counter of the receiver goes up by one. -/
theorem State.rd_inc_receiverCounter {s t : State} {k : Nat} (hk : k ∈ [ob 0x4050 0x06, ob 0x4050 0x08, ob 0x4130 0x0E])
    (hrd : t.rd k = s.rd k) (h : s.rd k + 1 < 2 ^ 32) : (t.inc k).rd k = s.rd k + 1 := by
  rw [State.rd_inc_self _ _ (by rw [dict_bits_receiverCounter k hk, hrd]; exact h), hrd]

/-- Settles O41, clause by clause: the die's start, AIR_READY and LISTEN, its stop, and the receiver from energy to frame end. -/
theorem airStartAndReceiver : Obligations.AirStartAndReceiver := by
  unfold Obligations.AirStartAndReceiver
  refine ⟨?start, ?started, ?clock, ?ready, ?listen, ?stop, ?energy, ?sfd, ?timeout, ?frame, ?discarded⟩
  case start =>
    intro s h0 hs hc
    refine ⟨s.airStarting, ?_, s.airStarting_changes, State.airState_setAir s 1, s.airStarting_dueAt⟩
    rw [← State.airStart_of_off h0 hs hc]
    rfl
  case started =>
    intro s h
    have hexec : Ends .airStartRequest s s.airStart := rfl
    rwa [State.airStart_of_on h] at hexec
  case clock =>
    intro s n h1 hdue
    have hexec := ends_airClockCheck (n := n) h1 hdue
    refine ⟨fun hlo hhi => ⟨s.clockCounted, ?_, s.clockCounted_changes, State.armIn_dueAt rfl _ _, ?_⟩, fun hout => ?_⟩
    · rwa [if_pos ⟨hlo, hhi⟩] at hexec
    · exact State.arm_isArmed_of _ (by simp) (s.cancel_isArmed _)
    · rwa [if_neg (by omega)] at hexec
  case ready =>
    intro s h1 hdue
    exact if_pos ⟨h1, hdue⟩
  case listen =>
    intro s hmode hstop hready hqueue hs
    rw [State.toListen_of_idle hmode hstop hready hqueue, s.tunedIn_pins]
    exact ⟨s.tunedIn_changes 2, s.tunedIn_airState 2, s.tunedIn_air, State.receiving_pins hs⟩
  case stop =>
    intro s
    have hexec : exec .airStopRequest s = done s.airStop := rfl
    refine ⟨fun h0 => ?_, fun h2 => ?_, fun h0 h2 => ⟨_, ?_, s.withAir_changes _, rfl⟩⟩
    · rw [Ends, hexec, State.airStop, if_pos h0, done_eq]
    · rw [Ends, hexec, State.airStop, if_neg (by omega), if_pos h2, done_eq]
    · rw [Ends, hexec, State.airStop, if_neg h0, if_neg h2, done_eq]
  case energy =>
    intro s h2 ht
    exact ⟨_, ends_airEnergyDetect h2 ht, State.preambleBegun_changes _, State.airState_setAir _ 3, rfl, State.preambleBegun_dueAt _⟩
  case sfd =>
    intro s l h3 hlt
    have hair : ((s.frameBegins l).inc (ob 0x4050 0x06)).air = (s.frameBegins l).air := State.add_air _ _ _
    refine ⟨_, ends_airSfdFound h3 l, ((s.frameBegins_changes l).trans (State.inc_changes _ _)).mono (by simp) (by simp), ?_, ?_, ?_, ?_, ?_⟩
    · exact ((State.inc_changes _ _).airState (by simp)).trans (State.airState_setAir s 4)
    · exact State.rd_inc_receiverCounter (by simp) ((s.frameBegins_changes l).rd (by simp)) hlt
    · exact (State.isArmed_congr (State.add_timers _ _ _) _).trans ((s.setAir 4).cancel_isArmed .preamble)
    · rw [hair]; rfl
    · rw [hair]; rfl
  case timeout =>
    intro s l h3 hdue hlt
    refine ⟨_, ends_preambleTimeout h3 hdue l, ((s.cancel_changes _).trans (State.inc_changes _ _)).mono (by simp) (by simp), ?_, ?_⟩
    · exact State.rd_inc_receiverCounter (by simp) (s.rd_cancel _ _) hlt
    · exact (State.isArmed_congr (State.add_timers _ _ _) _).trans (s.cancel_isArmed _)
  case frame =>
    intro s f x h4 hp hm hlen
    have hexec := ends_airRxFrameEnd (f := f) h4 hp
    rw [if_neg (by simp [hm, hlen])] at hexec
    exact ⟨_, hexec, s.withMac_changes _, rfl⟩
  case discarded =>
    intro s f x h4 hp hbad hlt
    have hexec := ends_airRxFrameEnd (f := f) h4 hp
    rw [if_pos (by simpa using hbad)] at hexec
    exact ⟨_, hexec, s.inc_changes _, State.rd_inc_receiverCounter (by simp) rfl hlt⟩

end Sys2Proof.Machine
end
section
/-! PROOFS. Transmit requests and the on sequence (chapter 9, R245, R248 to R250, R252, R253, R260): the statement `AirTransmitOn`. -/

namespace Sys2Proof.Machine

/-! ### The oldest request (R253, R260, R541) -/

theorem ends_airTxRequest_of_none {s : State} (h : s.air.requests = []) : Ends .airTxRequest s s := by
  change execAirTxRequest s = _
  simp only [execAirTxRequest, h, done_eq]

/-- A request that finds the die not serving ends LINK_RETIRED. -/
theorem ends_airTxRequest_of_retired {s : State} {r : TxReq} {l : List TxReq} (hr : s.air.requests = r :: l)
    (h : s.airServes = false ∨ s.linkReady .air = false) : Ends .airTxRequest s (s.dropRequest.txEnded r 9) := by
  have hout : (!s.airServes || !s.linkReady .air) = true := by simpa using h
  change execAirTxRequest s = _
  simp only [execAirTxRequest, hr, hout, if_true, done_eq]

/-- The die serves, and neither a tuning nor a quiesce holds its requests back. -/
structure TakesRequests (s : State) (r : TxReq) (l : List TxReq) : Prop where
  requests : s.air.requests = r :: l
  serves : s.airServes = true
  ready : s.linkReady .air = true
  slices : s.slicesTuned = false
  entry : s.air.first = none
  quiesce : s.rst.quiescing = none

section
variable {s : State} {r : TxReq} {l : List TxReq} (h : TakesRequests s r l)
include h

/-- In OFF the die is started first. -/
theorem ends_airTxRequest_of_off (h0 : s.airState = 0) : Ends .airTxRequest s s.airStart := by
  obtain ⟨hr, hs, hl, ht, hf, hq⟩ := h
  change execAirTxRequest s = _
  simp only [execAirTxRequest, hr, hs, hl, ht, hf, hq, h0, Bool.not_true, Bool.or_self, Bool.false_eq_true, if_false, if_true,
    Option.isSome_none, done_eq]

/-- In LISTEN, or in TX_OFF with none deferred, a request that fails a check is refused with its number. -/
theorem ends_airTxRequest_of_refused {n : Nat} (hst : s.airState = 2 ∨ s.airState = 8 ∨ (s.airState = 7 ∧ s.air.counted = false))
    (hn : s.txCheck r = .inl n) : Ends .airTxRequest s (s.dropRequest.refuseTx r n) := by
  obtain ⟨hr, hs, hl, ht, hf, hq⟩ := h
  have h0 : s.airState ≠ 0 := by omega
  change execAirTxRequest s = _
  simp only [execAirTxRequest, hr, hs, hl, ht, hf, hq, h0, hst, hn, Bool.not_true, Bool.or_self, Bool.false_eq_true, if_false, if_true,
    Option.isSome_none, done_eq]

/-- In LISTEN a request that passes its checks begins. -/
theorem ends_airTxRequest_of_begun {q : TxReq} (h2 : s.airState = 2) (hq : s.txCheck r = .inr q) :
    Ends .airTxRequest s (s.airPoint.framePoint.dropRequest.txBegin q) := by
  obtain ⟨hr, hs, hl, ht, hf, hqu⟩ := h
  change execAirTxRequest s = _
  simp only [execAirTxRequest, hr, hs, hl, ht, hf, hqu, h2, hq, Bool.not_true, Bool.or_self, Bool.false_eq_true, if_false, if_true,
    Option.isSome_none, done_eq, OfNat.ofNat_ne_zero, true_or]

/-- The state in which a request is deferred to the end of the frame before it, and counted (R253). -/
def State.deferredFor (s : State) (q : TxReq) (l : List TxReq) : State :=
  ({ s with air := { s.air with requests := q :: l, counted := true } } : State).inc (ob 0x4030 0x09)

/-- In TX_OFF a request that passes its checks is deferred. -/
theorem ends_airTxRequest_of_deferred {q : TxReq} (h7 : s.airState = 7) (hc : s.air.counted = false) (hq : s.txCheck r = .inr q) :
    Ends .airTxRequest s ((s.deferredFor q l).raise 841 [t0] []) := by
  obtain ⟨hr, hs, hl, ht, hf, hqu⟩ := h
  change execAirTxRequest s = _
  simp only [execAirTxRequest, hr, hs, hl, ht, hf, hqu, h7, hc, hq, Bool.not_true, Bool.or_self, Bool.false_eq_true, if_false, if_true,
    Option.isSome_none, done_eq, OfNat.ofNat_ne_zero, Nat.reduceEqDiff, and_self, or_true, State.deferredFor]

end

theorem State.deferredFor_changes (s : State) (q : TxReq) (l : List TxReq) : Changes [.air] [ob 0x4030 0x09] s (s.deferredFor q l) :=
  ((s.withAir_changes _).trans (State.inc_changes _ _)).mono (by simp) (by simp)

theorem State.txCheck_of_unsealed {s : State} (r : TxReq) (h : s.profile = 0) : s.txCheck r = .inl 1 := if_pos h

theorem State.txCheck_of_stopped {s : State} (r : TxReq) (h : s.profile ≠ 0) (h8 : s.airState = 8) : s.txCheck r = .inl 2 :=
  (if_neg h).trans (if_pos h8)

/-! ### The step of the front end's sequence (Table 9-7) -/

/-- The step shown in 0x4030.08, where a front end is declared. -/
def State.feStep (s : State) (n : Nat) : State := if s.frontEnd then s.wr (ob 0x4030 0x08) n else s

theorem State.feStep_changes (s : State) (n : Nat) : Changes [] [ob 0x4030 0x08] s (s.feStep n) :=
  .ite (s.wr_changes _ _) ((Changes.refl s).mono (by simp) (by simp))

theorem State.feStep_air (s : State) (n : Nat) : (s.feStep n).air = s.air := (s.feStep_changes n).same (p := .air) (by decide)

theorem State.feStep_timers (s : State) (n : Nat) : (s.feStep n).timers = s.timers := (s.feStep_changes n).same (p := .timers) (by decide)

theorem State.rd_feStep_self (s : State) (n : Nat) :
    (s.feStep n).rd (ob 0x4030 0x08) = if s.frontEnd then n else s.rd (ob 0x4030 0x08) := by
  unfold State.feStep
  split
  · exact s.rd_wr_self _ _
  · rfl

/-! ### The octets on air (R267, R282) -/

section
variable (s : State) (r : TxReq) (start : Nat)

theorem State.compose_changes : Changes [.air, .mac] [] s (s.compose r start) := by
  have hair (a : Air) : Changes [.air, .mac] [] s { s with air := a } := (s.withAir_changes a).mono (by simp) (by simp)
  unfold State.compose
  split
  · exact hair _
  · exact hair _
  · split
    · exact (Changes.refl s).mono (by simp) (by simp)
    · exact (s.withAir_changes _).trans (State.withMac_changes _ _)

/-- Making up a frame changes no more of the air die than its octets. -/
theorem State.compose_air : ∃ b, (s.compose r start).air = { s.air with onAir := b } := by
  unfold State.compose
  split
  · exact ⟨_, rfl⟩
  · exact ⟨_, rfl⟩
  · split
    · exact ⟨s.air.onAir, rfl⟩
    · exact ⟨_, rfl⟩

variable {s r}

theorem State.compose_of_ack {seq at_ : Nat} {more : Bool} (h : r.use = .ack seq more at_) :
    s.compose r start = { s with air := { s.air with onAir := airFrame (s.rd (ob 0x4100 0x10)) (ackPsdu seq more) } } := by
  simp only [State.compose, h]

/-- A data frame is made up for its first transmission; a retransmission repeats its octets. -/
theorem State.compose_of_data {x : Csma} (h : r.use = .data) (hx : s.mac.csma = some x) :
    ∃ f : OutFrame, (s.compose r start).mac = { s.mac with csma := some { x with frame := f } } ∧
      (s.compose r start).air.onAir = airFrame (s.rd (ob 0x4100 0x10)) f.psdu ∧ (x.frame.psdu ≠ [] → f = x.frame) := by
  refine ⟨if x.frame.psdu.isEmpty then s.composed x.frame start else x.frame, ?_, ?_, fun hne => if_neg (by simpa using hne)⟩
  · simp only [State.compose, h, hx]
    rfl
  · simp only [State.compose, h, hx]
    rfl

end

/-! ### The up-ramp (R245, R250) -/

/-- A request's power code and output set, before its octets are made up. -/
def State.powered (s : State) (r : TxReq) : State :=
  (({ s with air := { s.air with rampAt := s.firstBit r - r.edgeUs } } : State).wr (ob 0x4030 0x0C) r.code).wrInt (ob 0x4030 0x0D) r.out

/-- The up-ramp of a request begun: its octets made up, and its first bit timed. -/
def State.ramped (s : State) (r : TxReq) : State := ((s.powered r).compose r (s.firstBit r)).arm .paUp (s.firstBit r)

theorem State.tryRamp_of_ready {s : State} {r : TxReq} (h5 : s.airState = 5) (hb : s.air.biasDone = true) (hl : s.air.synLocked = true)
    (hp : s.isArmed .paUp = false) (htx : s.air.tx = some r) : s.tryRamp = s.ramped r := by
  unfold State.tryRamp
  rw [if_pos (by simp [h5, hb, hl, hp]), htx]
  rfl

theorem State.tryRamp_of_waiting {s : State} (h : s.air.biasDone = false ∨ s.air.synLocked = false) : s.tryRamp = s :=
  if_neg (by obtain h | h := h <;> simp [h])

theorem State.tryRamp_cases (s : State) : s.tryRamp = s ∨ ∃ r, s.tryRamp = s.ramped r := by
  unfold State.tryRamp
  split
  · split
    · next r _ => exact .inr ⟨r, rfl⟩
    · exact .inl rfl
  · exact .inl rfl

section
variable (s : State) (r : TxReq)

/-- The request's first bit depends on the device time alone. -/
theorem State.firstBit_congr {s t : State} (h : t.now = s.now) : t.firstBit r = s.firstBit r := by
  unfold State.firstBit; rw [h]

theorem State.powered_changes : Changes [.air] [ob 0x4030 0x0C, ob 0x4030 0x0D] s (s.powered r) :=
  (((s.withAir_changes _).trans (State.wr_changes _ _ _)).trans (State.wrInt_changes _ _ _)).mono (by simp) (by simp)

theorem State.ramped_changes : Changes [.air, .timers, .mac] [ob 0x4030 0x0C, ob 0x4030 0x0D] s (s.ramped r) :=
  (((s.powered_changes r).trans (State.compose_changes _ _ _)).trans (State.arm_changes _ _ _)).mono (by simp) (by simp)

theorem State.ramped_dueAt : (s.ramped r).dueAt .paUp = some (s.firstBit r) := State.arm_dueAt _ _ _

theorem State.rd_ramped (k : Nat) : (s.ramped r).rd k = (s.powered r).rd k :=
  ((State.compose_changes _ _ _).trans (State.arm_changes _ _ _)).rd (by simp)

theorem State.rd_ramped_code : (s.ramped r).rd (ob 0x4030 0x0C) = r.code :=
  (s.rd_ramped r _).trans ((State.rd_wrInt_other _ _ (by simp)).trans (State.rd_wr_self _ _ _))

theorem State.rdInt_ramped_out : (s.ramped r).rdInt (ob 0x4030 0x0D) = toSigned 16 (ofSigned 16 r.out) := by
  have hbits : Dict.bits (ob 0x4030 0x0D) = 16 := by decide
  rw [State.rdInt, s.rd_ramped, State.powered, State.rd_wrInt_self, hbits]

theorem State.ramped_air : ∃ b, (s.ramped r).air = { s.air with rampAt := s.firstBit r - r.edgeUs, onAir := b } :=
  State.compose_air _ r _

theorem State.ramped_isArmed {tm : Timer} (hne : tm ≠ .paUp) (h : s.isArmed tm = false) : (s.ramped r).isArmed tm = false := by
  rw [State.ramped]
  refine State.arm_isArmed_of _ hne ?_
  rwa [State.isArmed_congr ((State.compose_changes _ _ _).same (p := .timers) (by decide))]

theorem State.rd_powered_preamble : (s.powered r).rd (ob 0x4100 0x10) = s.rd (ob 0x4100 0x10) := (s.powered_changes r).rd (by simp)

variable {s r}

theorem State.ramped_of_ack {seq at_ : Nat} {more : Bool} (h : r.use = .ack seq more at_) :
    (s.ramped r).mac = s.mac ∧ (s.ramped r).air.onAir = airFrame (s.rd (ob 0x4100 0x10)) (ackPsdu seq more) := by
  have hcompose := State.compose_of_ack (s := s.powered r) (s.firstBit r) h
  rw [State.ramped, hcompose, s.rd_powered_preamble]
  exact ⟨rfl, rfl⟩

theorem State.ramped_of_data {x : Csma} (h : r.use = .data) (hx : s.mac.csma = some x) :
    ∃ f : OutFrame, (s.ramped r).mac = { s.mac with csma := some { x with frame := f } } ∧
      (s.ramped r).air.onAir = airFrame (s.rd (ob 0x4100 0x10)) f.psdu ∧ (x.frame.psdu ≠ [] → f = x.frame) := by
  have hcompose := State.compose_of_data (s := s.powered r) (s.firstBit r) h hx
  rwa [s.rd_powered_preamble] at hcompose

end

/-! ### The on sequence begun (R252) -/

/-- The die in TX_ON with a request, its entry taken up and no lock held over from before. -/
structure OnSequence (s : State) (r : TxReq) : Prop where
  state : s.airState = 5
  tx : s.air.tx = some r
  entry : s.air.synEntry = some r.index
  hold : s.isArmed .synHold = false

section
variable {s t : State} {r : TxReq}

theorem OnSequence.keep (h : OnSequence s r) (hst : t.airState = s.airState) (hair : t.air = s.air) (ht : t.timers = s.timers) :
    OnSequence t r :=
  ⟨hst.trans h.state, by rw [hair, h.tx], by rw [hair, h.entry], by rw [State.isArmed_congr ht, h.hold]⟩

theorem OnSequence.ite {c : Prop} [Decidable c] {u : State} (h : OnSequence t r) (g : OnSequence u r) :
    OnSequence (if c then t else u) r := by
  split
  · exact h
  · exact g

theorem OnSequence.armIn (h : OnSequence s r) {tm : Timer} (us : Nat) (hne : Timer.synHold ≠ tm) : OnSequence (s.armIn tm us) r :=
  ⟨h.state, h.tx, h.entry, State.arm_isArmed_of _ hne h.hold⟩

theorem OnSequence.raise (h : OnSequence s r) (e : Nat) (l : List Tenant) (d : Octets) : OnSequence (s.raise e l d) r :=
  h.keep (State.rd_raise _ _ _ _ _ (by decide)) (State.raise_air _ _ _ _) (State.raise_timers _ _ _ _)

theorem OnSequence.inc (h : OnSequence s r) {k : Nat} (hk : ob 0x4050 0x04 ≠ k) : OnSequence (s.inc k) r :=
  h.keep (State.rd_inc_other s hk) (State.add_air _ _ _) (State.add_timers _ _ _)

theorem OnSequence.fePins (h : OnSequence s r) (en on sw lna byp : Bool) : OnSequence (s.fePins en on sw lna byp) r :=
  h.keep rfl rfl rfl

theorem OnSequence.tryRamp (h : OnSequence s r) : OnSequence s.tryRamp r := by
  obtain he | ⟨q, he⟩ := s.tryRamp_cases
  · rwa [he]
  · obtain ⟨b, hair⟩ := s.ramped_air q
    rw [he]
    exact ⟨((s.ramped_changes q).airState (by simp)).trans h.state, by rw [hair, ← h.tx], by rw [hair, ← h.entry],
      s.ramped_isArmed q (by simp) h.hold⟩

/-- The die just in TX_ON with a request, before anything of its sequence is timed. -/
def State.onBegun (s : State) (r : TxReq) : State :=
  let s := ((s.cancel .synHold).setAir 5).feStep 1
  { s with air := { s.air with tx := some r, counted := false, biasDone := r.path != 1, synEntry := some r.index,
                                synLocked := s.air.synLocked && s.air.synEntry == some r.index } }

theorem State.onBegun_onSequence (s : State) (r : TxReq) : OnSequence (s.onBegun r) r := by
  refine ⟨?_, rfl, rfl, ?_⟩
  · exact ((State.feStep_changes _ _).airState (by simp)).trans (State.airState_setAir _ _)
  · exact (State.isArmed_congr (State.feStep_timers _ _) _).trans (s.cancel_isArmed _)

theorem State.txBegin_onSequence (s : State) (r : TxReq) : OnSequence (s.txBegin r) r := by
  have h0 := s.onBegun_onSequence r
  unfold State.txBegin
  refine OnSequence.tryRamp (.ite (.raise ?pins _ _ _) ?pins)
  refine .ite (.armIn (.fePins ?lock ..) _ (by simp)) (.fePins ?lock ..)
  exact .ite (.raise (.inc (.ite h0 (.armIn h0 _ (by simp))) (by simp)) _ _ _) (.ite h0 (.armIn h0 _ (by simp)))

end

/-! ### The front end, the bias and the lock (R245, R252) -/

/-- XPA_EN on: the PA's supply settles next. -/
def State.paEnabled (s : State) : State :=
  ((s.cancel .xpaEnOn).fePins true false true false false).armIn .paSupply (s.rd (ob 0x4030 0x05))

/-- The PA's supply on: the bias settles next. -/
def State.paSupplied (s : State) : State :=
  ((s.cancel .paSupply).fePins true true true false false).armIn .bias (s.rd (ob 0x4030 0x06))

theorem State.paEnabled_changes (s : State) : Changes [.pins, .timers] [] s s.paEnabled :=
  (((s.cancel_changes _).trans (State.fePins_changes _ _ _ _ _ _)).trans (State.armIn_changes _ _ _)).mono (by simp) (by simp)

theorem State.paSupplied_changes (s : State) : Changes [.pins, .timers] [] s s.paSupplied :=
  (((s.cancel_changes _).trans (State.fePins_changes _ _ _ _ _ _)).trans (State.armIn_changes _ _ _)).mono (by simp) (by simp)

/-- The balls as a front end has them; the low-noise amplifier and the bypass off. -/
theorem State.fePins_pins {s : State} (h : s.frontEnd = true) (en on sw : Bool) :
    (s.fePins en on sw false false).pins = { s.pins with xpaEn := en, xpaOn := on, xswTx := sw, xlnaEn := false, xbyp := false } := by
  simp [State.fePins, h]

/-- The bias settled. -/
def State.biased (s : State) : State := { s.cancel .bias with air := { s.air with biasDone := true } }

theorem State.biased_changes (s : State) : Changes [.air, .timers] [] s s.biased :=
  ((s.cancel_changes _).trans (State.withAir_changes _ _)).mono (by simp) (by simp)

theorem ends_biasSettled {s : State} (h5 : s.airState = 5) (hdue : s.isDue .bias = true) : Ends .biasSettled s s.biased.tryRamp :=
  if_pos ⟨h5, hdue⟩

/-- The synthesiser locked on its entry. -/
def State.onEntry (s : State) : State :=
  { s.cancel .synLock with air := { s.air with
    synLocked := true, synFailed := s.air.synFailed.filter (· != s.air.synEntry.getD 0) } }

/-- The synthesiser locked, with the end of SYN_LOCK_FAIL's cause where no entry has failed last. -/
def State.locked (s : State) : State := if s.onEntry.air.synFailed.isEmpty then s.onEntry.causeEnd 33 else s.onEntry

theorem State.locked_changes (s : State) : Changes [.air, .timers, .faults] [] s s.locked := by
  have hentry : Changes [.timers, .air] [] s s.onEntry := (s.cancel_changes _).trans (State.withAir_changes _ _)
  exact .ite ((hentry.trans (State.causeEnd_changes _ _)).mono (by simp) (by simp)) (hentry.mono (by simp) (by simp))

theorem State.locked_air (s : State) : s.locked.air = s.onEntry.air := by
  unfold State.locked
  split <;> rfl

theorem State.locked_timers (s : State) : s.locked.timers = (s.cancel .synLock).timers := by
  unfold State.locked
  split <;> rfl

theorem ends_synLockDone {s : State} (h5 : s.airState = 5) (hl : s.isArmed .synLock = true) : Ends .synLockDone s s.locked.tryRamp :=
  if_pos ⟨h5, hl⟩

/-- Whichever of bias and lock comes last, the up-ramp begins from the state in which both are there. -/
theorem ends_of_bias_and_lock {s : State} {r : TxReq} {c : Instr} (h5 : s.airState = 5) (htx : s.air.tx = some r)
    (hp : s.isArmed .paUp = false)
    (hc : (c = .biasSettled ∧ s.isDue .bias = true ∧ s.air.synLocked = true) ∨
      (c = .synLockDone ∧ s.isArmed .synLock = true ∧ s.air.biasDone = true)) :
    ∃ w : State, Ends c s (w.ramped r) ∧ Changes [.air, .timers, .faults] [] s w ∧ w.air.synLocked = true ∧ w.air.biasDone = true := by
  obtain ⟨rfl, hdue, hl⟩ | ⟨rfl, hl, hb⟩ := hc
  · have hexec := ends_biasSettled h5 hdue
    rw [State.tryRamp_of_ready (s := s.biased) h5 rfl hl (State.cancel_isArmed_of hp) htx] at hexec
    exact ⟨s.biased, hexec, s.biased_changes.mono (by simp) (by simp), hl, rfl⟩
  · have hexec := ends_synLockDone h5 hl
    have hlock : s.locked.air.synLocked = true := by rw [s.locked_air]; rfl
    have hbias : s.locked.air.biasDone = true := by rw [s.locked_air]; exact hb
    have hup : s.locked.isArmed .paUp = false := (State.isArmed_congr s.locked_timers _).trans (State.cancel_isArmed_of hp)
    rw [State.tryRamp_of_ready ((s.locked_changes.airState (by simp)).trans h5) hbias hlock hup (by rw [s.locked_air]; exact htx)] at hexec
    exact ⟨s.locked, hexec, s.locked_changes, hlock, hbias⟩

/-! ### A lock that does not come (R245, R260) -/

/-- The transmission dropped with its entry, which leaves the store. -/
def State.entryDropped (s : State) (r : TxReq) : State :=
  let s := s.cancel .synLock
  { s with air := { s.air with
    tx := none, synEntry := none, synLocked := false, synFailed := r.index :: s.air.synFailed.filter (· != r.index)
    store := s.air.store.filter (fun p => p.1 != r.index) } }

/-- The failed lock counted and reported, and the die on its way off. -/
def State.lockFailed (s : State) (r : TxReq) : State :=
  ((((s.entryDropped r).inc (ob 0x4020 0x05)).fault 33 r.index).setAir 7).feStep 3

theorem exec_synLockTimeout {s : State} {r : TxReq} (h5 : s.airState = 5) (htx : s.air.tx = some r) (hdue : s.isDue .synLock = true) :
    exec .synLockTimeout s = .next ((s.lockFailed r).feOff.refuseTx r 8).settle := by
  refine (if_pos ⟨h5, hdue⟩).trans ?_
  rw [htx]
  rfl

theorem State.fault_faultOnly (s : State) (f detail : Nat) : FaultOnly s (s.fault f detail) := s.faultKeyed_faultOnly f t0 detail 0

theorem State.lockFailed_airState (s : State) (r : TxReq) : (s.lockFailed r).airState = 7 :=
  ((State.feStep_changes _ _).airState (by simp)).trans (State.airState_setAir _ _)

theorem State.lockFailed_air (s : State) (r : TxReq) : (s.lockFailed r).air = (s.entryDropped r).air := by
  have hfault := (State.fault_faultOnly ((s.entryDropped r).inc (ob 0x4020 0x05)) 33 r.index).same .air (by decide)
  exact (State.feStep_air _ _).trans (hfault.trans (State.add_air _ _ _))

theorem State.rd_lockFailed_count (s : State) (r : TxReq) (h : s.rd (ob 0x4020 0x05) + 1 < 2 ^ 16) :
    (s.lockFailed r).rd (ob 0x4020 0x05) = s.rd (ob 0x4020 0x05) + 1 := by
  have hbits : Dict.bits (ob 0x4020 0x05) = 16 := by decide
  have hfault := (State.fault_faultOnly ((s.entryDropped r).inc (ob 0x4020 0x05)) 33 r.index).rd (ob 0x4020 0x05) (by decide)
  have hcount : ((s.entryDropped r).inc (ob 0x4020 0x05)).rd (ob 0x4020 0x05) = s.rd (ob 0x4020 0x05) + 1 :=
    State.rd_inc_self _ _ (by rwa [hbits])
  rw [State.lockFailed, (State.feStep_changes _ _).rd (by simp), (State.setAir_changes _ _).rd (by simp), hfault, hcount]

/-! ### On air (R250) -/

/-- The frame on air: the ramp is over, and the last bit is timed. -/
def State.onAirNow (s : State) (r : TxReq) : State := (((s.cancel .paUp).setAir 6).feStep 2).armIn .txEnd r.time

/-- The down-ramp begun at the last bit. -/
def State.rampingDown (s : State) (r : TxReq) : State := (((s.cancel .txEnd).setAir 7).feStep 3).armIn .paDown r.edgeUs

/-- A step of the sequence: a timer is over, the die's state and the front end's step follow. -/
theorem State.sequenceStep_changes (s : State) (tm : Timer) (st n : Nat) :
    Changes [.timers] [ob 0x4050 0x04, ob 0x4030 0x08] s (((s.cancel tm).setAir st).feStep n) :=
  (((s.cancel_changes _).trans (State.setAir_changes _ _)).trans (State.feStep_changes _ _)).mono (by simp) (by simp)

theorem State.sequenceStep_airState (s : State) (tm : Timer) (st n : Nat) : (((s.cancel tm).setAir st).feStep n).airState = st :=
  ((State.feStep_changes _ _).airState (by simp)).trans (State.airState_setAir _ _)

theorem State.rd_sequenceStep (s : State) (tm : Timer) (st n : Nat) :
    (((s.cancel tm).setAir st).feStep n).rd (ob 0x4030 0x08) = if s.frontEnd then n else s.rd (ob 0x4030 0x08) := by
  have hset := (s.cancel_changes tm).trans (State.setAir_changes _ st)
  rw [State.rd_feStep_self, hset.frontEnd (by simp), hset.rd (by simp)]

theorem State.sequenceStep_dueAt (s : State) (tm um : Timer) (st n us : Nat) :
    ((((s.cancel tm).setAir st).feStep n).armIn um us).dueAt um = some (s.now + us) :=
  State.armIn_dueAt ((s.sequenceStep_changes tm st n).now (by simp) (by simp) (by simp)) _ _

theorem ends_paRampUpDone {s : State} {r : TxReq} (h5 : s.airState = 5) (htx : s.air.tx = some r) (hdue : s.isDue .paUp = true) :
    Ends .paRampUpDone s (s.onAirNow r) := by
  change execPaRampUpDone s = _
  simp only [execPaRampUpDone, htx, h5, hdue, and_self, if_true, done_eq]
  rfl

theorem exec_airTxLastBit {s : State} {r : TxReq} (h6 : s.airState = 6) (htx : s.air.tx = some r) (hdue : s.isDue .txEnd = true) :
    exec .airTxLastBit s = .next ((s.rampingDown r).txEnded r 0).settle := by
  change execAirTxLastBit s = _
  simp only [execAirTxLastBit, htx, h6, hdue, and_self, if_true, done_eq]
  rfl

/-- Settles O42, clause by clause: the request in each state of the die, what TX_ON takes up, the front end's waits, bias and lock, a lock
that does not come, and the frame on air to its last bit. -/
theorem airTransmitOn : Obligations.AirTransmitOn := by
  unfold Obligations.AirTransmitOn
  refine ⟨?none, ?request, ?begun, ?frontEnd, ?bias, ?ramp, ?lock, ?timeout, ?onAir, ?lastBit⟩
  case none =>
    intro s h
    exact ends_airTxRequest_of_none h
  case request =>
    intro s r l hr
    refine ⟨ends_airTxRequest_of_retired hr, fun hs hl ht hf hq => ?_⟩
    have h : TakesRequests s r l := ⟨hr, hs, hl, ht, hf, hq⟩
    refine ⟨ends_airTxRequest_of_off h, fun h2 => ⟨fun n => ends_airTxRequest_of_refused h (.inl h2), fun q => ends_airTxRequest_of_begun h h2⟩,
      fun h7 hc => ⟨fun n => ends_airTxRequest_of_refused h (.inr (.inr ⟨h7, hc⟩)), fun q hq => ?_⟩⟩
    exact ⟨s.deferredFor q l, ends_airTxRequest_of_deferred h h7 hc hq, s.deferredFor_changes q l, State.add_air _ _ _⟩
  case begun =>
    intro s r
    obtain ⟨hst, htx, hentry, hhold⟩ := s.txBegin_onSequence r
    exact ⟨s.txCheck_of_unsealed r, s.txCheck_of_stopped r, hst, htx, hentry, hhold⟩
  case frontEnd =>
    intro s h5 hfe
    have hpins (tm : Timer) (en on sw : Bool) := State.fePins_pins (s := s.cancel tm) hfe en on sw
    refine ⟨fun hdue => ⟨s.paEnabled, if_pos ⟨h5, hdue⟩, s.paEnabled_changes, ?_⟩,
      fun hdue => ⟨s.paSupplied, if_pos ⟨h5, hdue⟩, s.paSupplied_changes, ?_⟩⟩
    · simp only [State.paEnabled, State.armIn_pins, hpins, true_and]
      exact State.armIn_dueAt rfl _ _
    · simp only [State.paSupplied, State.armIn_pins, hpins, true_and]
      exact State.armIn_dueAt rfl _ _
  case bias =>
    intro s h5 hdue hl
    have hexec := ends_biasSettled h5 hdue
    rw [State.tryRamp_of_waiting (s := s.biased) (.inr hl)] at hexec
    exact ⟨s.biased, hexec, s.biased_changes, rfl, s.cancel_isArmed .bias⟩
  case ramp =>
    intro s r c h5 htx hp hc first
    obtain ⟨w, hexec, hw, hlock, hbias⟩ := ends_of_bias_and_lock h5 htx hp hc
    obtain ⟨b, hair⟩ := w.ramped_air r
    have hmac : w.mac = s.mac := hw.same (p := .mac) (by decide)
    have hpre : w.rd (ob 0x4100 0x10) = s.rd (ob 0x4100 0x10) := hw.rd (by simp)
    have hfirst : w.firstBit r = first :=
      (State.firstBit_congr r (hw.now (by decide) (by simp) (by simp))).trans (by obtain ⟨_ | _ | _⟩ := r <;> rfl)
    have hedge : r.edgeUs = (match r.use with | .cue _ _ => 2 | _ => 16) := by obtain ⟨_ | _ | _⟩ := r <;> rfl
    refine ⟨_, hexec, (hw.trans (w.ramped_changes r)).mono (by simp) (by simp), by rw [hair, hlock], by rw [hair, hbias], ?_, ?_,
      w.rd_ramped_code r, w.rdInt_ramped_out r, fun seq more start huse => ?_, fun x huse hx => ?_⟩
    · rw [hair, hfirst, hedge] <;> rfl
    · rw [w.ramped_dueAt, hfirst]
    · rw [← hmac, ← hpre]
      exact State.ramped_of_ack huse
    · rw [← hmac, ← hpre]
      exact State.ramped_of_data huse (hmac ▸ hx)
  case lock =>
    intro s h5 hl hb
    have hexec := ends_synLockDone h5 hl
    rw [State.tryRamp_of_waiting (.inl (by rw [s.locked_air]; exact hb))] at hexec
    exact ⟨s.locked, hexec, s.locked_changes, by rw [s.locked_air]; rfl,
      (State.isArmed_congr s.locked_timers _).trans (s.cancel_isArmed .synLock)⟩
  case timeout =>
    intro s r h5 htx hdue hlt
    refine ⟨s.lockFailed r, exec_synLockTimeout h5 htx hdue, s.lockFailed_airState r, ?_⟩
    rw [s.lockFailed_air]
    exact ⟨rfl, rfl, List.mem_cons_self, fun e he => by simp [State.entryDropped] at he, s.rd_lockFailed_count r hlt⟩
  case onAir =>
    intro s r h5 htx hdue
    exact ⟨s.onAirNow r, ends_paRampUpDone h5 htx hdue,
      ((s.sequenceStep_changes .paUp 6 2).trans (State.armIn_changes _ _ _)).mono (by simp) (by simp), s.sequenceStep_airState .paUp 6 2,
      s.rd_sequenceStep .paUp 6 2, s.sequenceStep_dueAt _ _ _ _ _⟩
  case lastBit =>
    intro s r h6 htx hdue
    refine ⟨s.rampingDown r, exec_airTxLastBit h6 htx hdue,
      ((s.sequenceStep_changes .txEnd 7 3).trans (State.armIn_changes _ _ _)).mono (by simp) (by simp), s.sequenceStep_airState .txEnd 7 3, ?_⟩
    refine (s.sequenceStep_dueAt _ _ _ _ _).trans ?_
    obtain ⟨_ | _ | _⟩ := r <;> rfl

end Sys2Proof.Machine
end
section
/-! PROOFS. The off sequence, the held lock and the ledgers (chapters 9 and 14, R236, R237, R245, R252, R253, R417): the statement
`AirTransmitOff`. -/

namespace Sys2Proof.Machine

/-! ### The down-ramp (R236, R252) -/

/-- Entering an on-time touches the ledgers of the air die. -/
theorem State.enterOnTime_changes (s : State) (r : TxReq) : Changes [.air] [] s (s.enterOnTime r) := s.withAir_changes _

/-- A frame's on-time, from the beginning of its up-ramp, enters its tenant's ledger. -/
theorem State.enterOnTime_tenantAir {s : State} {r : TxReq} (h : ∀ c p, r.use ≠ .cue c p) :
    (s.enterOnTime r).air.tenantAir = ledgerAdd s.air.tenantAir r.tenant.val s.now (s.now - s.air.rampAt) := by
  have hspent : s.spentOn r = s.now - s.air.rampAt := by
    unfold State.spentOn
    split
    · next c p huse => exact absurd huse (h c p)
    · rfl
  unfold State.enterOnTime
  simp only [hspent]
  split_ifs <;> rfl

/-- The request deferred behind the frame under way stands while its on-time is entered. -/
theorem State.enterOnTime_counted (s : State) (r : TxReq) : (s.enterOnTime r).air.counted = s.air.counted := by
  unfold State.enterOnTime
  simp only
  split_ifs <;> rfl

/-- The down-ramp over, with the frame's on-time entered. -/
def State.rampedDown (s : State) (r : TxReq) : State := (s.cancel .paDown).enterOnTime r

theorem State.rampedDown_changes (s : State) (r : TxReq) : Changes [.timers, .air] [] s (s.rampedDown r) :=
  (s.cancel_changes _).trans (State.enterOnTime_changes _ _)

section
variable {s : State} {r : TxReq} (h7 : s.airState = 7) (htx : s.air.tx = some r) (hdue : s.isDue .paDown = true)
include h7 htx hdue

/-- Over the PA, XPA_EN goes 2 us later. -/
theorem ends_paRampDownDone_of_pa (hp : r.path = 1) :
    Ends .paRampDownDone s (((s.rampedDown r).fePins true false true false false).armIn .xpaEnOff 2) := by
  change execPaRampDownDone s = _
  simp only [execPaRampDownDone, htx, h7, hdue, hp, and_self, if_true, done_eq]
  rfl

/-- Over another path with no request deferred, the off sequence ends at once, or 1 us later with a front end. -/
theorem ends_paRampDownDone_of_other (hp : r.path ≠ 1) (hc : s.air.counted = false) :
    Ends .paRampDownDone s
      (((s.rampedDown r).fePins false false false false (r.path == 2)).armIn .offDone (if s.frontEnd then 1 else 0)) := by
  have hcounted : ((s.cancel .paDown).enterOnTime r).air.counted = false := (State.enterOnTime_counted _ r).trans hc
  change execPaRampDownDone s = _
  simp only [execPaRampDownDone, htx, h7, hdue, hp, hcounted, and_self, if_true, if_false, Bool.false_eq_true, done_eq]
  rfl

end

/-! ### XPA_EN, the discharge and the switch (R252, R253) -/

/-- The PA let go: its supply discharges. -/
def State.paReleased (s : State) : State :=
  ((s.cancel .xpaEnOff).fePins false false true false false).armIn .discharge (s.rd (ob 0x4030 0x07))

/-- The supply discharged, every ball of the front end low. -/
def State.discharged (s : State) : State := (s.cancel .discharge).fePins false false false false false

theorem State.paReleased_changes (s : State) : Changes [.pins, .timers] [] s s.paReleased :=
  (((s.cancel_changes _).trans (State.fePins_changes _ _ _ _ _ _)).trans (State.armIn_changes _ _ _)).mono (by simp) (by simp)

theorem State.discharged_changes (s : State) : Changes [.pins, .timers] [] s s.discharged :=
  ((s.cancel_changes _).trans (State.fePins_changes _ _ _ _ _ _)).mono (by simp) (by simp)

theorem ends_dischargeElapsed {s : State} (hdue : s.isDue .discharge = true) : Ends .dischargeElapsed s
    (if s.air.counted && s.airState == 7 then s.discharged.beginDeferred else s.discharged.armIn .offDone 1) := if_pos hdue

/-- Charging a frame's energy leaves the air die. -/
theorem State.chargeAir_air (s : State) (r : TxReq) : (s.chargeAir r).air = s.air := by
  unfold State.chargeAir State.free1
  simp

theorem State.chargeAir_links (s : State) (r : TxReq) : (s.chargeAir r).links = s.links := by
  unfold State.chargeAir State.free1
  simp

/-- The frame under transmission charged, where there is one. -/
def State.airCharged (s : State) : State := match s.air.tx with | some r => s.chargeAir r | none => s

theorem State.airCharged_air (s : State) : s.airCharged.air = s.air := by
  unfold State.airCharged
  split
  · exact s.chargeAir_air _
  · rfl

theorem State.airCharged_links (s : State) : s.airCharged.links = s.links := by
  unfold State.airCharged
  split
  · exact s.chargeAir_links _
  · rfl

/-- The frame before it charged, a deferred request begins. -/
theorem State.beginDeferred_of_cons {s : State} {r : TxReq} {l : List TxReq} (h : s.air.requests = r :: l) :
    s.beginDeferred = s.airCharged.framePoint.dropRequest.txBegin r := by
  have hr : s.airCharged.air.requests = r :: l := by rw [s.airCharged_air, h]
  change (match s.airCharged.air.requests with
    | [] => { s.airCharged with air := { s.airCharged.air with counted := false } }
    | r :: _ => s.airCharged.framePoint.dropRequest.txBegin r) = _
  rw [hr]

/-! ### The end of the off sequence (R245, R261, R548) -/

/-- The die in OFF, the cue receiver aside. -/
def State.atRest (s : State) : State :=
  let s := ((s.cancel .preamble).cancel .airStart).cancel .airClock
  ({ s.setAir 0 with air := { s.air with stop := false, atten := s.rd (ob 0x4050 0x03) } } : State).restPins

theorem State.airOff_eq (s : State) : s.airOff = s.atRest.cueStart := rfl

theorem State.atRest_changes (s : State) : Changes [.timers, .air, .pins] [ob 0x4050 0x04] s s.atRest :=
  ((((((s.cancel_changes .preamble).trans (State.cancel_changes _ .airStart)).trans (State.cancel_changes _ .airClock)).trans
    (State.setAir_changes _ 0)).trans (State.withAir_changes _ _)).trans (State.restPins_changes _)).mono (by simp) (by simp)

theorem State.atRest_airState (s : State) : s.atRest.airState = 0 :=
  ((State.restPins_changes _).airState (by simp)).trans
    (State.airState_setAir (((s.cancel .preamble).cancel .airStart).cancel .airClock) 0)

theorem State.atRest_air (s : State) : s.atRest.air = { s.air with stop := false, atten := s.rd (ob 0x4050 0x03) } := State.restPins_air _

/-- A die that does not serve has no cue receiver. -/
theorem State.airOff_of_retired {s : State} (h : s.airServes = false) : s.airOff = s.atRest := by
  have hlinks : s.atRest.links = s.links := s.atRest_changes.same (p := .links) (by decide)
  have hserves : s.atRest.airServes = false := by rwa [State.airServes, hlinks]
  rw [s.airOff_eq, State.cueStart, if_pos (by simp [State.cueWanted, hserves])]

/-- The frame over, with its energy charged and no transmission left. -/
def State.airFrameOver (s : State) : State :=
  { s.airCharged.wr (ob 0x4030 0x08) 0 with air := { s.airCharged.air with tx := none } }

theorem State.airFrameOver_air (s : State) : s.airFrameOver.air = { s.air with tx := none } := by
  rw [State.airFrameOver, s.airCharged_air]

theorem State.airFrameOver_airServes (s : State) : s.airFrameOver.airServes = s.airServes :=
  congrArg (fun l => l[Die.air.link].up) s.airCharged_links

theorem State.rd_airFrameOver_step (s : State) : s.airFrameOver.rd (ob 0x4030 0x08) = 0 := s.airCharged.rd_wr_self (ob 0x4030 0x08) 0

/-- With no lock to hold, a die that does not serve is off once its frame is over. -/
theorem State.txOver_of_retired {s : State} (hs : s.airServes = false) (hl : s.air.synLocked = false) : s.txOver = s.airFrameOver.atRest := by
  have hlock : s.airFrameOver.air.synLocked = false := by rw [s.airFrameOver_air, hl]
  have hserves : s.airFrameOver.airServes = false := s.airFrameOver_airServes.trans hs
  have heq (t : State) (hlt : t.air.synLocked = false) (hst : t.airServes = false) :
      (let t := if t.air.synLocked then t.armIn .synHold 200 else t
       if t.airServes && t.linkReady .air then (t.setAir 2).toListen else t.airOff) = t.atRest := by
    simp only [hlt, hst, Bool.false_eq_true, if_false, Bool.false_and]
    exact State.airOff_of_retired hst
  exact heq s.airFrameOver hlock hserves

/-! ### The held lock (R245) -/

/-- The synthesiser's lock let go. -/
def State.lockReleased (s : State) : State := { s.cancel .synHold with air := { s.air with synLocked := false, synEntry := none } }

theorem State.lockReleased_changes (s : State) : Changes [.air, .timers] [] s s.lockReleased :=
  ((s.cancel_changes _).trans (State.withAir_changes _ _)).mono (by simp) (by simp)

theorem ends_synHoldExpired {s : State} (hdue : s.isDue .synHold = true) (hready : s.cal.ready = []) :
    Ends .synHoldExpired s s.lockReleased := by
  have hexec : Ends .synHoldExpired s (s.lockReleased.applyReady (fun r => r.kind == 9)) := if_pos hdue
  rwa [State.applyReady_of_none (s := s.lockReleased) _ hready] at hexec

/-! ### The ledgers' bins (R236, R417) -/

/-- What a bin gives to a sum is counted from the sum's start. -/
theorem foldl_ledger_add (l : List (Nat × Nat × Nat)) (k now n : Nat) :
    l.foldl (fun n e => if e.1 = k ∧ binOf now < e.2.1 + 60 ∧ e.2.1 ≤ binOf now then n + e.2.2 else n) n = n + ledgerSum l k now := by
  unfold ledgerSum
  induction l generalizing n with
  | nil => rfl
  | cons e l ih =>
    rw [List.foldl_cons, List.foldl_cons]
    by_cases he : e.1 = k ∧ binOf now < e.2.1 + 60 ∧ e.2.1 ≤ binOf now
    · rw [if_pos he, if_pos he, ih (n + e.2.2), ih (0 + e.2.2)]
      omega
    · rw [if_neg he, if_neg he, ih n]

theorem ledgerSum_cons (e : Nat × Nat × Nat) (l : List (Nat × Nat × Nat)) (k now : Nat) : ledgerSum (e :: l) k now =
    (if e.1 = k ∧ binOf now < e.2.1 + 60 ∧ e.2.1 ≤ binOf now then e.2.2 else 0) + ledgerSum l k now := by
  rw [ledgerSum, List.foldl_cons, foldl_ledger_add, Nat.zero_add]

/-- Bins that have left every rolling sum give it nothing. -/
theorem ledgerSum_trim (l : List (Nat × Nat × Nat)) (k now : Nat) : ledgerSum (ledgerTrim l now) k now = ledgerSum l k now := by
  induction l with
  | nil => rfl
  | cons e l ih =>
    rw [ledgerSum_cons]
    by_cases he : binOf now < e.2.1 + 60
    · rw [ledgerTrim, List.filter_cons_of_pos (by simpa using he), ← ledgerTrim, ledgerSum_cons, ih]
    · rw [ledgerTrim, List.filter_cons_of_neg (by simpa using he), ← ledgerTrim, ih, if_neg (fun e => he e.2.1), Nat.zero_add]

/-- The ledgers without the bins that have left every sum, and the next rollover set. -/
def State.binsTrimmed (s : State) : State :=
  let n := s.now
  ({ s with air := { s.air with
      dc := ledgerTrim s.air.dc n, lbt := ledgerTrim s.air.lbt n, tenantAir := ledgerTrim s.air.tenantAir n
      dwell := s.air.dwell.filter (fun e => decide (n < e.2.2 + 20000000))
      quotaTold := s.air.quotaTold.filter (fun e => decide (e.2 = binOf n)) } } : State).arm .airBin ((binOf n + 1) * 60000000)

theorem State.binsTrimmed_changes (s : State) : Changes [.air, .timers] [] s s.binsTrimmed :=
  (s.withAir_changes _).trans (State.arm_changes _ _ _)

theorem ends_ledgerBinRollover {s : State} (hdue : s.isDue .airBin = true) : Ends .ledgerBinRollover s s.binsTrimmed := if_pos hdue

/-- Settles O43, clause by clause: the down-ramp's end, the PA let go and discharged, a deferred request, the sequence's end, the held lock,
and the ledgers' minute. -/
theorem airTransmitOff : Obligations.AirTransmitOff := by
  unfold Obligations.AirTransmitOff
  refine ⟨?rampDown, ?xpaEn, ?discharge, ?deferred, ?ended, ?retired, ?hold, ?bins⟩
  case rampDown =>
    intro s r h7 htx hdue huse
    have hc := s.rampedDown_changes r
    have hnow : (s.rampedDown r).now = s.now := hc.now (by decide) (by simp) (by simp)
    have hfe : (s.rampedDown r).frontEnd = s.frontEnd := hc.frontEnd (by simp)
    have hair : (s.rampedDown r).air.tenantAir = ledgerAdd s.air.tenantAir r.tenant.val s.now (s.now - s.air.rampAt) :=
      State.enterOnTime_tenantAir (s := s.cancel .paDown) huse
    refine ⟨fun hp => ⟨_, ends_paRampDownDone_of_pa h7 htx hdue hp, ?_, State.armIn_dueAt hnow _ _, ?_, ?_, hair⟩,
      fun hp hcount => ⟨_, ends_paRampDownDone_of_other h7 htx hdue hp hcount, ?_, State.armIn_dueAt hnow _ _, ?_, hair⟩⟩
    · exact ((hc.trans (State.fePins_changes _ _ _ _ _ _)).trans (State.armIn_changes _ _ _)).mono (by simp) (by simp)
    · simp [State.fePins]
    · simp [State.fePins, hfe]
    · exact ((hc.trans (State.fePins_changes _ _ _ _ _ _)).trans (State.armIn_changes _ _ _)).mono (by simp) (by simp)
    · simp [State.fePins]
  case xpaEn =>
    intro s hdue
    exact ⟨s.paReleased, if_pos hdue, s.paReleased_changes, Bool.and_false _, Bool.and_true _, State.armIn_dueAt rfl _ _⟩
  case discharge =>
    intro s hdue hc
    have hexec := ends_dischargeElapsed hdue
    rw [if_neg (by simp [hc])] at hexec
    exact ⟨_, hexec, (s.discharged_changes.trans (State.armIn_changes _ _ _)).mono (by simp) (by simp), Bool.and_false _, Bool.and_false _,
      State.armIn_dueAt rfl _ _⟩
  case deferred =>
    intro s r l hdue hc h7 hr
    have hexec := ends_dischargeElapsed hdue
    rw [if_pos (by simp [hc, h7]), State.beginDeferred_of_cons (s := s.discharged) hr] at hexec
    exact ⟨s.discharged, _, hexec, s.discharged_changes, rfl⟩
  case ended =>
    intro s h7 hdue hc
    refine (if_pos ⟨h7, hdue⟩).trans ?_
    have hno : ¬ (s.cancel .offDone).air.counted = true := by simp [hc]
    exact congrArg done (if_neg hno)
  case retired =>
    intro s hs hl _
    rw [State.txOver_of_retired hs hl, State.atRest_air, s.airFrameOver_air, s.airFrameOver.atRest_changes.rd (by simp)]
    exact ⟨State.atRest_airState _, rfl, s.rd_airFrameOver_step⟩
  case hold =>
    intro s hdue hready
    exact ⟨s.lockReleased, ends_synHoldExpired hdue hready, s.lockReleased_changes, rfl, s.cancel_isArmed .synHold⟩
  case bins =>
    intro s hdue
    exact ⟨s.binsTrimmed, ends_ledgerBinRollover hdue, s.binsTrimmed_changes, State.arm_dueAt _ _ _,
      fun b => ⟨ledgerSum_trim _ _ _, ledgerSum_trim _ _ _, ledgerSum_trim _ _ _⟩⟩

end Sys2Proof.Machine
end
section
/-! PROOFS. Sealing a region, the declared gains, and the synthesiser's store (chapters 8 and 9, R219, R231, R232, R246, R247, R251, R264):
the statement `SealingAndStore`. -/

namespace Sys2Proof.Machine

/-! ### The seal request and its confirm (R231) -/

theorem dict_row_sealRequest : Dict.row? 0x4000 0x02 = some ⟨0x02, 0x02, .u8, .wo, .fixed 0x01, .live, .rng 1 2, false⟩ := by decide
theorem dict_row_sealConfirm : Dict.row? 0x4000 0x03 = some ⟨0x03, 0x03, .u8, .wo, .fixed 0x01, .live, .any, false⟩ := by decide

/-- What a write to a command of the seal does. -/
theorem State.effect_seal (s : State) (t : Tenant) (tr : Transport) (id : Nat) {sub v : Nat} (hsub : sub = 2 ∨ sub = 3) (hv : v < 256) :
    s.effect t tr id 0x4000 sub 0 (u8 v) = (s.sealWrite sub v).only := by
  have hact : s.act t tr id 0x4000 sub (u8 v) = (s.sealWrite sub (leNat (u8 v))).only := rfl
  rw [leNat_u8 hv] at hact
  obtain rfl | rfl := hsub
  · simp only [State.effect, dict_row_sealRequest, if_true, hact]
  · simp only [State.effect, dict_row_sealConfirm, if_true, hact]

/-- The seal request pending, with the status it came from. -/
def State.sealPending (s : State) (v : Nat) : State :=
  (({ s with air := { s.air with sealing := some (v, s.rd (ob 0x4000 0x04)) } } : State).wr (ob 0x4000 0x04) 5).armIn .sealWindow 10000000

/-- The seal being written. -/
def State.sealBegun (s : State) : State := ((s.cancel .sealWindow).wr (ob 0x4000 0x04) 6).armIn .sealWrite 50000

theorem State.sealPending_changes (s : State) (v : Nat) : Changes [.air, .timers] [ob 0x4000 0x04] s (s.sealPending v) :=
  (((s.withAir_changes _).trans (State.wr_changes _ _ _)).trans (State.armIn_changes _ _ _)).mono (by simp) (by simp)

theorem State.sealBegun_changes (s : State) : Changes [.timers] [ob 0x4000 0x04] s s.sealBegun :=
  (((s.cancel_changes _).trans (State.wr_changes _ _ _)).trans (State.armIn_changes _ _ _)).mono (by simp) (by simp)

theorem State.sealPending_dueAt (s : State) (v : Nat) : (s.sealPending v).dueAt .sealWindow = some (s.now + 10000000) :=
  State.armIn_dueAt (((s.withAir_changes _).trans (State.wr_changes _ _ _)).now (by decide) (by decide) (by decide)) _ _

theorem State.sealBegun_dueAt (s : State) : s.sealBegun.dueAt .sealWrite = some (s.now + 50000) :=
  State.armIn_dueAt (((s.cancel_changes _).trans (State.wr_changes _ _ _)).now (by decide) (by decide) (by decide)) _ _

/-- The window is over once the seal is being written. -/
theorem State.sealBegun_isArmed (s : State) : s.sealBegun.isArmed .sealWindow = false :=
  State.arm_isArmed_of _ (by decide) (s.cancel_isArmed .sealWindow)

theorem serves_sealRequest {s : State} {t : Tenant} {j : Job} {v : Nat} (hv : v < 256) (h : s.Writes t j 0x4000 0x02 (u8 v))
    (hnone : s.air.sealing = none) : Serves (.sealRequest t) s (s.sealPending v) t j [] false := by
  have hexec := exec_of_writesAt h (c := .sealRequest t) (o := .sealRequest) rfl rfl
  have hwrite : s.sealWrite 2 v = s.sealPending v := by
    unfold State.sealWrite
    rw [if_pos rfl, hnone]
    rfl
  rwa [State.effect_seal _ _ _ _ (.inl rfl) hv, hwrite] at hexec

theorem serves_sealConfirm {s : State} {t : Tenant} {j : Job} {v : Nat} (hv : v < 256) (h : s.Writes t j 0x4000 0x03 (u8 v)) :
    Serves (.sealConfirm t) s s.sealBegun t j [] false := by
  have hexec := exec_of_writesAt h (c := .sealConfirm t) (o := .sealConfirm) rfl rfl
  rwa [State.effect_seal _ _ _ _ (.inr rfl) hv] at hexec

/-- A confirm that its own rule lets pass is the complement of a pending request. -/
theorem sealing_of_sealCheck {s : State} {v : Nat} (h : statusRank sOK ≤ statusRank (s.sealCheck 3 v)) :
    ∃ c b, s.air.sealing = some (c, b) ∧ v = c ^^^ 0xFF := by
  have hrange : ¬ statusRank sOK ≤ statusRank sRange := by decide
  have huse : ¬ statusRank sOK ≤ statusRank sInUse := by decide
  unfold State.sealCheck at h
  simp only at h
  rw [if_neg (show ¬ (3 = 2) by decide)] at h
  split_ifs at h with h1 h6
  · exact absurd h hrange
  · exact absurd h huse
  · cases hs : s.air.sealing with
    | none => exact absurd (by simpa only [hs] using h) hrange
    | some p =>
      obtain ⟨c, b⟩ := p
      refine ⟨c, b, rfl, ?_⟩
      by_contra hne
      simp only [hs] at h
      have hbad : (s.isDue .sealWindow && decide ((s.dueAt .sealWindow).getD 0 < s.now) || v != c ^^^ 0xFF) = true := by simp [hne]
      rw [hbad] at h
      exact hrange h

theorem sealing_of_confirm {s : State} {t : Tenant} {j : Job} {v : Nat} (hv : v < 256) (h : s.Writes t j 0x4000 0x03 (u8 v)) :
    ∃ c b, s.air.sealing = some (c, b) ∧ v = c ^^^ 0xFF := by
  have hrank := State.WritesAt.ruleStatus_rank h dict_row_sealConfirm rfl rfl
  have hval : s.spliced t 0x4000 0x03 0 (u8 v) = v := by
    simp [State.spliced, dict_row_sealConfirm, Ty.isOctets, leNat_u8 hv]
  have hrule : s.ruleStatus t 0x4000 0x03 0 (u8 v) v = s.sealCheck 3 v := rfl
  rw [hval, hrule] at hrank
  exact sealing_of_sealCheck hrank

/-! ### The seal's write and its window (R231, R232) -/

/-- The request over, with the fuse record slot that it used. -/
def State.slotUsed (s : State) (code : Nat) (ok : Bool) : State :=
  let s := s.cancel .sealWrite
  { s with air := { s.air with sealing := none, slots := s.air.slots ++ [(code, ok)] } }

/-- The region sealed with its instant. -/
def State.regionSealed (s : State) (code : Nat) : State :=
  (s.slotUsed code true).wrAll [(ob 0x4000 0x01, code), (ob 0x4000 0x04, 1), (ob 0x4000 0x05, (s.slotUsed code true).now)]

theorem State.slotUsed_changes (s : State) (code : Nat) (ok : Bool) : Changes [.air, .timers] [] s (s.slotUsed code ok) :=
  ((s.cancel_changes _).trans (State.withAir_changes _ _)).mono (by simp) (by simp)

theorem State.regionSealed_changes (s : State) (code : Nat) :
    Changes [.air, .timers] [ob 0x4000 0x01, ob 0x4000 0x04, ob 0x4000 0x05] s (s.regionSealed code) :=
  ((s.slotUsed_changes code true).trans (State.wrAll_changes _ _)).mono (by simp) (by simp)

theorem State.rd_regionSealed (s : State) (code : Nat) : (s.regionSealed code).rd (ob 0x4000 0x01) = code ∧
    (s.regionSealed code).rd (ob 0x4000 0x04) = 1 ∧ (s.regionSealed code).rd (ob 0x4000 0x05) = s.now := by
  have hnow : (s.slotUsed code true).now = s.now := rfl
  simp [State.regionSealed, State.rd_wr, hnow]

theorem State.regionSealed_air (s : State) (code : Nat) : (s.regionSealed code).air = (s.slotUsed code true).air := State.wrAll_air _ _

theorem State.slots_of_failed_write (s : State) (c : Nat) :
    ((s.slotUsed c false).raise 834 [t0] []).air.slots.length = s.air.slots.length + 1 := by
  rw [State.raise_air]
  exact List.length_append

section
variable {s : State} {c b : Nat} (hs : s.air.sealing = some (c, b)) (h6 : s.rd (ob 0x4000 0x04) = 6)
include hs h6

theorem ends_sealWriteDone_of_good : Ends (.sealWriteDone true) s
    ((if (((s.regionSealed c).raise 833 [t0] []).copyLimits).linkReady .field
      then (((s.regionSealed c).raise 833 [t0] []).copyLimits).loadLimits
      else ((s.regionSealed c).raise 833 [t0] []).copyLimits).noteAuto 9 0x600).commissionPage.joinNow := by
  change execSealWriteDone true s = _
  unfold execSealWriteDone
  rw [hs]
  dsimp only
  rw [if_neg (not_not.2 h6), if_pos rfl, done_eq]
  rfl

/-- What a seal's write that does not read back does, with its slot counted. -/
theorem exec_sealWriteDone_of_bad : exec (.sealWriteDone false) s =
    if 3 ≤ ((s.slotUsed c false).raise 834 [t0] []).air.slots.length
    then done ((((s.slotUsed c false).raise 834 [t0] []).wr (ob 0x4000 0x04) 4).fault 36
      ((s.slotUsed c false).raise 834 [t0] []).air.slots.length)
    else done (((s.slotUsed c false).raise 834 [t0] []).wr (ob 0x4000 0x04) 3) := by
  change execSealWriteDone false s = _
  unfold execSealWriteDone
  rw [hs]
  dsimp only
  rw [if_neg (not_not.2 h6), if_neg Bool.false_ne_true]
  rfl

/-- A first or second failure leaves the seal to be asked for again. -/
theorem ends_sealWriteDone_of_bad (hlen : s.air.slots.length < 2) :
    Ends (.sealWriteDone false) s (((s.slotUsed c false).raise 834 [t0] []).wr (ob 0x4000 0x04) 3) := by
  have hexec := exec_sealWriteDone_of_bad hs h6
  rwa [State.slots_of_failed_write, if_neg (by omega)] at hexec

/-- The third failure leaves the seal FAILED. -/
theorem ends_sealWriteDone_of_failed (hlen : s.air.slots.length = 2) :
    Ends (.sealWriteDone false) s ((((s.slotUsed c false).raise 834 [t0] []).wr (ob 0x4000 0x04) 4).fault 36 3) := by
  have hexec := exec_sealWriteDone_of_bad hs h6
  rwa [State.slots_of_failed_write, hlen, if_pos (by decide)] at hexec

end

theorem State.sealDropped_changes (s : State) : Changes [.air, .timers] [ob 0x4000 0x04] s s.sealDropped :=
  (((s.withAir_changes _).trans (State.cancel_changes _ _)).trans (State.wr_changes _ _ _)).mono (by simp) (by simp)

theorem ends_sealWindowExpired {s : State} {d : Nat} (h : s.dueAt .sealWindow = some d) :
    Ends .sealWindowExpired s (if d < s.now then s.sealDropped else s) := by
  change execSealWindowExpired s = _
  by_cases hd : d < s.now
  · have hdue := State.isDue_of_le h hd.le
    simp [execSealWindowExpired, h, hdue, hd, done_eq]
  · simp [execSealWindowExpired, h, hd, done_eq]

/-! ### The declared gains (R251) -/

theorem dict_row_gain2 : Dict.row? 0x4030 2 = some ⟨0x02, 0x02, .i16, .rwp, .fixed 0x01, .val 300, .srng 0 300, false⟩ := by decide
theorem dict_row_gain3 : Dict.row? 0x4030 3 = some ⟨0x03, 0x03, .i16, .rwp, .fixed 0x01, .val 0, .srng (-60) 0, false⟩ := by decide
theorem dict_row_gain4 : Dict.row? 0x4030 4 = some ⟨0x04, 0x04, .i16, .rwp, .fixed 0x01, .val 0, .srng 0 250, false⟩ := by decide

/-- The rows of the declared gains: kept objects of their own, of two octets. -/
theorem dict_row_gain {n : Nat} (hn : n ∈ [2, 3, 4]) :
    ∃ r, Dict.row? 0x4030 n = some r ∧ r.acc = .rwp ∧ r.ty.isOctets = false ∧ r.per = false := by
  simp only [List.mem_cons, List.not_mem_nil, or_false] at hn
  obtain rfl | rfl | rfl := hn
  · exact ⟨_, dict_row_gain2, rfl, rfl, rfl⟩
  · exact ⟨_, dict_row_gain3, rfl, rfl, rfl⟩
  · exact ⟨_, dict_row_gain4, rfl, rfl, rfl⟩

theorem ownOf_gain {n : Nat} (hn : n ∈ [2, 3, 4]) (v : Octets) : ownOf 0x4030 n v = .paGain := by
  have hrange : 2 ≤ n ∧ n ≤ 4 := by
    simp only [List.mem_cons, List.not_mem_nil, or_false] at hn
    omega
  simp [ownOf, hrange]

theorem State.store_gain (s : State) (t : Tenant) {n : Nat} (hn : n ∈ [2, 3, 4]) (x : Nat) :
    s.store t 0x4030 n x = s.wr (keyFor t 0x4030 n) x := by
  have hne : n ≠ 1 := by
    rintro rfl
    simp at hn
  simp [State.store, hne]

/-- An accepted write of a declared gain is stored and kept. -/
theorem serves_paGainWrite {s : State} {t : Tenant} {j : Job} {n x : Nat} (hn : n ∈ [2, 3, 4]) (hx : x < 2 ^ 16)
    (h : s.Writes t j 0x4030 n (u16 x)) : Serves (.paGainWrite t) s (s.wr (ob 0x4030 n) x) t j
      (if s.needsCommit (ob 0x4030 n) x then [(ob 0x4030 n, x)] else []) false := by
  obtain ⟨r, hrow, hacc, hty, hper⟩ := dict_row_gain hn
  have hkey : keyFor t 0x4030 n = ob 0x4030 n := by simp [keyFor, hrow, hper]
  have hs := Serves.of_writes h (c := .paGainWrite t) rfl (ownOf_gain hn _) hrow hacc hty (by decide)
  rwa [leNat_u16 (by omega), State.store_gain _ _ hn, hkey] at hs

/-- After sealing the gains of the paths may not fall and the LNA's may not rise. -/
theorem State.gainCheck_eq_region_iff {s : State} {n x : Nat} (hn : n ∈ [2, 3, 4]) (hp : s.profile ≠ 0) : s.gainCheck n x = 0x07 ↔
    (n ≠ 4 ∧ toSigned 16 x < s.rdInt (ob 0x4030 n)) ∨ (n = 4 ∧ s.rdInt (ob 0x4030 n) < toSigned 16 x) := by
  have hwhen : ∀ b : Bool, when b sRegion = 0x07 ↔ b = true := by decide
  unfold State.gainCheck
  rw [hwhen]
  simp only [List.mem_cons, List.not_mem_nil, or_false] at hn
  obtain rfl | rfl | rfl := hn <;> simp [hp]

/-! ### The store of the synthesiser (R219, R246, R247, R264) -/

/-- The first run of a store entry kept. -/
theorem ends_synEntryRunDone_of_first {s : State} {r : Run} {k : Nat} {l : List Nat} {u : Tuning} (hl : s.air.retune = k :: l)
    (hu : s.cal.running.find? (fun u => u.kind == 9) = some u) (h2 : s.airState = 2) (hf : s.air.first = none) (ha : u.auto = true) :
    Ends (.synEntryRunDone r) s { s with air := { s.air with first := some r } } := by
  change execSynEntryRunDone r s = _
  unfold execSynEntryRunDone
  rw [hl, hu]
  dsimp only
  rw [if_neg (by omega), hf]
  dsimp only
  rw [State.tuneState, if_pos ha, done_eq]

/-- The last entry of a list judged, with the tuning's status. -/
def State.entryJudged (s : State) (u v : Tuning) : State :=
  { s.setTuning u v with air := { s.air with retune := [], first := none } }

theorem State.entryJudged_changes (s : State) (u v : Tuning) : Changes [.air, .cal] [] s (s.entryJudged u v) :=
  ((s.withCal_changes _).trans (State.withAir_changes _ _)).mono (by simp) (by simp)

section
variable {s : State} {r a : Run} {k : Nat} {u : Tuning} (hl : s.air.retune = [k])
  (hu : s.cal.running.find? (fun u => u.kind == 9) = some u) (h2 : s.airState = 2) (hf : s.air.first = some a)
include hl hu h2 hf

/-- The last entry's second run fails: the tuning ends with its status. -/
theorem ends_synEntryRunDone_of_failed (hst : judgeRuns 9 a r ≠ 0) : Ends (.synEntryRunDone r) s
    ((s.entryJudged u { u with status := judgeRuns 9 a r }).endTuning { u with status := judgeRuns 9 a r } (judgeRuns 9 a r)).nextTunings := by
  change execSynEntryRunDone r s = _
  unfold execSynEntryRunDone
  rw [hl, hu]
  dsimp only
  rw [if_neg (by omega), hf]
  dsimp only
  rw [if_neg hst, if_neg hst]
  rfl

/-- The last entry's runs agree: it is accepted, and the tuning ends with the status that the entries before it left. -/
theorem ends_synEntryRunDone_of_agreed (hst : judgeRuns 9 a r = 0) : Ends (.synEntryRunDone r) s
    (((s.acceptEntry k r.values).entryJudged u u).endTuning u u.status).nextTunings := by
  change execSynEntryRunDone r s = _
  unfold execSynEntryRunDone
  rw [hl, hu]
  dsimp only
  rw [if_neg (by omega), hf]
  dsimp only
  rw [if_pos hst, if_pos hst]
  rfl

end

/-- An automatic retune waits for an idle transmitter and for the end of a seal. -/
theorem ends_autoSynRetune_of_waiting {s : State} (h : s.txIdle = false ∨ 5 ≤ s.rd (ob 0x4000 0x04)) : Ends .autoSynRetune s s := by
  refine if_pos ?_
  obtain h | h := h <;> simp [h]

theorem ends_autoSynRetune_of_list {s : State} (hi : s.txIdle = true) (hseal : s.rd (ob 0x4000 0x04) < 5)
    (hbusy : ∀ u ∈ s.cal.queue ++ s.cal.running, u.kind ≠ 9) (hm : (9, 0x600) ∈ s.cal.autos) :
    Ends .autoSynRetune s ((s.autoTaken 9 0x600).startTuning (autoTuning 9 0x600)) := by
  have hbusy' : (s.cal.queue ++ s.cal.running).any (fun u => u.kind == 9) = false := by
    simpa only [List.any_eq_false, beq_iff_eq] using hbusy
  change execAutoSynRetune s = _
  unfold execAutoSynRetune
  dsimp only
  rw [if_neg (by simp [hi, hbusy', hseal]), if_pos (by simpa using hm)]
  rfl

/-- Settles O44: the seal's request, confirm, write and window; the declared gains and their rule; the runs of a store entry; an automatic
retune that waits or begins. -/
theorem sealingAndStore : Obligations.SealingAndStore := by
  unfold Obligations.SealingAndStore
  refine ⟨?request, ?confirm, ?written, ?window, ?gain, ?region, ?firstRun, ?lastEntry, ?waiting, ?retune⟩
  case request =>
    intro s t j v hv hw hnone
    exact ⟨_, serves_sealRequest (by omega) hw hnone, s.sealPending_changes v, by simp [State.sealPending, State.rd_wr_self], rfl,
      s.sealPending_dueAt v⟩
  case confirm =>
    intro s t j v hw hv
    exact ⟨_, serves_sealConfirm hv hw, s.sealBegun_changes, by simp [State.sealBegun], s.sealBegun_isArmed, s.sealBegun_dueAt,
      sealing_of_confirm hv hw⟩
  case written =>
    intro s c b hs h6
    refine ⟨?good, fun hlen => ?again, fun hlen => ?failed⟩
    case good =>
      obtain ⟨hcode, hstatus, hat⟩ := s.rd_regionSealed c
      have hair := s.regionSealed_air c
      exact ⟨_, _, s.regionSealed_changes c, hcode, hstatus, hat, by rw [hair]; rfl, by rw [hair]; rfl, rfl, ends_sealWriteDone_of_good hs h6⟩
    case again => exact ⟨_, ends_sealWriteDone_of_bad hs h6 hlen, s.slotUsed_changes c false, rfl, rfl⟩
    case failed => exact ⟨_, ends_sealWriteDone_of_failed hs h6 hlen, s.slotUsed_changes c false, rfl⟩
  case window =>
    intro s d h
    have hexec := ends_sealWindowExpired h
    refine ⟨fun hd => ⟨_, by rwa [if_pos hd] at hexec, s.sealDropped_changes, State.rd_wr_self _ _ _, rfl,
      State.cancel_isArmed _ _⟩, fun hd => by rwa [if_neg hd.not_gt] at hexec⟩
  case gain =>
    intro s t j n x hn hx hw
    exact ⟨_, serves_paGainWrite hn hx hw, s.wr_changes _ _, State.rd_wr_self _ _ _⟩
  case region => exact fun s n x hn hp => State.gainCheck_eq_region_iff hn hp
  case firstRun =>
    intro s r k l u hl hu h2 hf ha
    exact ⟨_, ends_synEntryRunDone_of_first hl hu h2 hf ha, s.withAir_changes _, rfl⟩
  case lastEntry =>
    intro s r a k u hl hu h2 hf st
    exact ⟨fun hst => ⟨_, ends_synEntryRunDone_of_failed hl hu h2 hf hst, s.entryJudged_changes _ _, rfl, rfl⟩,
      fun hst => ⟨_, ends_synEntryRunDone_of_agreed hl hu h2 hf hst, State.entryJudged_changes _ _ _, rfl, rfl⟩⟩
  case waiting => exact fun s h => ends_autoSynRetune_of_waiting h
  case retune =>
    intro s hi hseal hbusy hm
    exact ⟨_, ends_autoSynRetune_of_list hi hseal hbusy hm, s.withCal_changes _, rfl⟩

end Sys2Proof.Machine
end
section
/-! PROOFS. The cue receiver and the listen before talk (chapters 9 and 10, R254 to R258, R281, R301): the statement `CueReceiver`. -/

namespace Sys2Proof.Machine

/-! ### The next listen (R254) -/

/-- The next listen is read from the device time and the interval alone. -/
theorem State.nextListen_congr {s t : State} (hnow : t.now = s.now) (hi : t.rd (ob 0x4040 0x02) = s.rd (ob 0x4040 0x02)) :
    t.nextListen = s.nextListen := by
  unfold State.nextListen
  rw [hnow, hi]

theorem Changes.nextListen {ps : List Part} {ks : List Nat} {s t : State} (h : Changes ps ks s t) (hp : Part.time ∉ ps)
    (hr : ob 0x1020 0x01 ∉ ks) (hc : ob 0x1100 0x03 ∉ ks) (hi : ob 0x4040 0x02 ∉ ks) : t.nextListen = s.nextListen :=
  State.nextListen_congr (h.now hp hr hc) (h.rd hi)

theorem State.raise_now (s : State) (e : Nat) (to_ : List Tenant) (d : Octets) : (s.raise e to_ d).now = s.now :=
  State.now_congr (s.raise_time e to_ d) (s.rd_raise _ _ _ _ (by decide)) (s.rd_raise _ _ _ _ (by decide))

theorem State.raise_nextListen (s : State) (e : Nat) (to_ : List Tenant) (d : Octets) : (s.raise e to_ d).nextListen = s.nextListen :=
  State.nextListen_congr (s.raise_now e to_ d) (s.rd_raise _ _ _ _ (by decide))

/-! ### A listen (R254) -/

/-- A listen over: something was heard of the band, and nothing waits for the receiver. -/
def State.cueListened (s : State) : State := { s.cancel .cueListen with cal := { s.cal with heard := true } }

/-- The receiver reading what woke it in a listen that began at tick `start`, until its time to give up. -/
def State.cueReading (s : State) (start : Nat) : State :=
  let s : State := { s with air := { s.air with cueState := 2 } }
  s.arm .cueGiveUp (tickUs (start + s.rd (ob 0x4040 0x02) + 16))

/-- The level of a listen judged: above the threshold the receiver reads, else the next listen is set. -/
def State.cueJudged (s : State) (start : Nat) (x : Int) : Result :=
  if s.cueThreshold < x then done (s.cueReading start) else done (s.arm .cueListen s.nextListen)

theorem execCueListen_eq (x : Int) (s : State) : execCueListen x s =
    if s.air.cueState = 1 ∧ s.isDue .cueListen = true then
      if (s.cancel .cueListen).cal.running.any (fun u => u.kind == 7)
      then done ((s.cancel .cueListen).arm .cueListen (s.cancel .cueListen).nextListen)
      else (s.cueListened.applyReady (fun r => r.kind == 7)).cueJudged (ticksAt ((s.dueAt .cueListen).getD 0) - 2) x
    else done s := rfl

theorem State.cueListened_changes (s : State) : Changes [.timers, .cal] [] s s.cueListened :=
  ((s.cancel_changes _).trans (State.withCal_changes _ _)).mono (by simp) (by simp)

theorem State.cueReading_changes (s : State) (start : Nat) : Changes [.air, .timers] [] s (s.cueReading start) :=
  ((s.withAir_changes _).trans (State.arm_changes _ _ _)).mono (by simp) (by simp)

section
variable {s : State} {d : Nat} {x : Int} (h1 : s.air.cueState = 1) (hd : s.dueAt .cueListen = some d) (hdue : d ≤ s.now)
include h1 hd hdue

/-- A tuning of the cue receiver has it to itself: the listen is put off. -/
theorem ends_cueListen_of_tuning (h7 : ∃ u ∈ s.cal.running, u.kind = 7) :
    Ends (.cueListen x) s ((s.cancel .cueListen).arm .cueListen s.nextListen) := by
  have hany : (s.cancel .cueListen).cal.running.any (fun u => u.kind == 7) = true := by simpa using h7
  change execCueListen x s = _
  rw [execCueListen_eq, if_pos ⟨h1, State.isDue_of_le hd hdue⟩, if_pos hany, done_eq]
  rfl

/-- A listen that is not put off, with nothing ready for the receiver's application point. -/
theorem exec_cueListen (hready : s.cal.ready = []) (h7 : ∀ u ∈ s.cal.running, u.kind ≠ 7) :
    exec (.cueListen x) s = s.cueListened.cueJudged (ticksAt d - 2) x := by
  have hany : ¬ (s.cancel .cueListen).cal.running.any (fun u => u.kind == 7) = true := by simpa using h7
  change execCueListen x s = _
  rw [execCueListen_eq, if_pos ⟨h1, State.isDue_of_le hd hdue⟩, if_neg hany, State.applyReady_of_none (s := s.cueListened) _ hready,
    hd, Option.getD_some]

theorem ends_cueListen_of_quiet (hready : s.cal.ready = []) (h7 : ∀ u ∈ s.cal.running, u.kind ≠ 7) (hx : x ≤ s.cueThreshold) :
    Ends (.cueListen x) s (s.cueListened.arm .cueListen s.cueListened.nextListen) :=
  (exec_cueListen h1 hd hdue hready h7).trans (if_neg (not_lt.2 hx))

theorem ends_cueListen_of_heard (hready : s.cal.ready = []) (h7 : ∀ u ∈ s.cal.running, u.kind ≠ 7) (hx : s.cueThreshold < x) :
    Ends (.cueListen x) s (s.cueListened.cueReading (ticksAt d - 2)) :=
  (exec_cueListen h1 hd hdue hready h7).trans (if_pos hx)

end

/-! ### A word, and its absence (R254, R256) -/

/-- The receiver listening again after a word. -/
def State.wordHeard (s : State) : State := { s.cancel .cueGiveUp with air := { s.air with cueState := 1 } }

/-- A matching word counted and stamped. -/
def State.wordStamped (s : State) : State := (s.wordHeard.inc (ob 0x4040 0x05)).wr (ob 0x4040 0x09) s.wordHeard.now

theorem State.wordHeard_changes (s : State) : Changes [.air, .timers] [] s s.wordHeard :=
  ((s.cancel_changes _).trans (State.withAir_changes _ _)).mono (by simp) (by simp)

theorem State.wordStamped_changes (s : State) : Changes [.air, .timers] [ob 0x4040 0x05, ob 0x4040 0x09] s s.wordStamped :=
  ((s.wordHeard_changes.trans (State.inc_changes _ _)).trans (State.wr_changes _ _ _)).mono (by simp) (by simp)

theorem dict_bits_cueWords : Dict.bits (ob 0x4040 0x05) = 32 := by decide
theorem dict_bits_cueWakes : Dict.bits (ob 0x4040 0x06) = 32 := by decide

theorem State.rd_wordStamped_count {s : State} (h : s.rd (ob 0x4040 0x05) + 1 < 2 ^ 32) :
    s.wordStamped.rd (ob 0x4040 0x05) = s.rd (ob 0x4040 0x05) + 1 := by
  rw [State.wordStamped, State.rd_wr_other _ _ (by decide)]
  exact State.rd_inc_self _ _ (by rw [dict_bits_cueWords]; exact h)

theorem State.rd_wordStamped_instant (s : State) : s.wordStamped.rd (ob 0x4040 0x09) = s.now := by
  rw [State.wordStamped, State.rd_wr_self]
  exact s.wordHeard_changes.now (by decide) (by decide) (by decide)

theorem State.wordStamped_air (s : State) : s.wordStamped.air = { s.air with cueState := 1 } := by
  rw [State.wordStamped, State.wr_air, State.inc_air, State.wordHeard]

theorem State.wordStamped_isArmed (s : State) : s.wordStamped.isArmed .cueGiveUp = false :=
  (State.isArmed_congr (by rw [State.wordStamped, State.wr_timers, State.inc_timers, State.wordHeard]) _).trans
    (s.cancel_isArmed .cueGiveUp)

theorem ends_cueGiveUp {s : State} (h2 : s.air.cueState = 2) (hdue : s.isDue .cueGiveUp = true) : Ends .cueGiveUp s s.falseWake :=
  if_pos ⟨h2, hdue⟩

theorem ends_cueWordReceived_of_not_reading {s : State} (w : Octets) (h : s.air.cueState ≠ 2) : Ends (.cueWordReceived w) s s := if_pos h

theorem ends_cueWordReceived_of_other {s : State} {w : Octets} (h2 : s.air.cueState = 2) (hw : s.cueMatches w = false) :
    Ends (.cueWordReceived w) s s.falseWake :=
  (if_neg (not_not.2 h2)).trans (if_neg (by simp [hw]))

theorem execCueWordReceived_eq (w : Octets) (s : State) : execCueWordReceived w s =
    if s.air.cueState ≠ 2 then done s
    else if s.cueMatches w then done (((s.wordStamped.raise 842 [t0] []).wakeBy 2).wantPoll.airStart).nextTunings
    else done s.falseWake := rfl

theorem ends_cueWordReceived_of_match {s : State} {w : Octets} (h2 : s.air.cueState = 2) (hw : s.cueMatches w = true) :
    Ends (.cueWordReceived w) s ((((s.wordStamped.raise 842 [t0] []).wakeBy 2).wantPoll.airStart).nextTunings) :=
  (if_neg (not_not.2 h2)).trans (if_pos hw)

/-- A false wake counted against the threshold, with the receiver listening. -/
def State.wakeCounted (s : State) : State := { s with air := { s.air with cueState := 1 }, cal := { s.cal with wakes := s.cal.wakes + 1 } }

/-- The receiver listening again after a false wake, its next listen set. -/
def State.listenAgain (s : State) : State :=
  (s.cancel .cueGiveUp).wakeCounted.arm .cueListen (s.cancel .cueGiveUp).nextListen

theorem State.wakeCounted_changes (s : State) : Changes [.air, .cal] [] s s.wakeCounted :=
  (s.withAir_changes { s.air with cueState := 1 }).trans (State.withCal_changes _ { s.cal with wakes := s.cal.wakes + 1 })

theorem State.falseWake_eq (s : State) : s.falseWake = ((s.inc (ob 0x4040 0x06)).raise 843 [t0] []).listenAgain.nextTunings :=
  rfl

theorem State.listenAgain_changes (s : State) : Changes [.air, .cal, .timers] [] s s.listenAgain :=
  (((s.cancel_changes _).trans (State.wakeCounted_changes _)).trans (State.arm_changes _ _ _)).mono (by simp) (by simp)

theorem State.listenAgain_air (s : State) : s.listenAgain.air = { s.air with cueState := 1 } := rfl

theorem State.listenAgain_cal (s : State) : s.listenAgain.cal = { s.cal with wakes := s.cal.wakes + 1 } := rfl

theorem State.listenAgain_isArmed (s : State) : s.listenAgain.isArmed .cueGiveUp = false :=
  State.arm_isArmed_of _ (by decide) (s.cancel_isArmed .cueGiveUp)

theorem State.listenAgain_dueAt (s : State) : s.listenAgain.dueAt .cueListen = some s.nextListen := State.arm_dueAt _ _ _

/-! ### The end of a stop (R258) -/

/-- The receiver off. -/
def State.cueStopped (s : State) : State := { s.cancel .cueStop with air := { s.air with cueState := 0, cueAgain := false } }

theorem State.cueStopped_changes (s : State) : Changes [.air, .timers] [] s s.cueStopped :=
  ((s.cancel_changes _).trans (State.withAir_changes _ _)).mono (by simp) (by simp)

theorem ends_cueStopDone {s : State} (h3 : s.air.cueState = 3) (hdue : s.isDue .cueStop = true) (hready : s.cal.ready = []) :
    Ends .cueStopDone s s.cueStopped.cueStart := by
  have hnone : s.cueStopped.applyReady (fun r => r.kind == 7) = s.cueStopped := State.applyReady_of_none _ hready
  exact (if_pos ⟨h3, hdue⟩).trans (congrArg (fun t : State => done t.cueStart) hnone)

/-- The receiver listening from OFF. -/
def State.cueOn (s : State) : State := ({ s with air := { s.air with cueState := 1 } } : State).arm .cueListen s.nextListen

theorem State.cueOn_changes (s : State) : Changes [.air, .timers] [] s s.cueOn :=
  ((s.withAir_changes _).trans (State.arm_changes _ _ _)).mono (by simp) (by simp)

theorem State.cueStart_of_unwanted {s : State} (h : s.cueWanted = false) : s.cueStart = s := by
  simp [State.cueStart, h]

theorem State.cueStart_of_off {s : State} (h : s.cueWanted = true) (h0 : s.air.cueState = 0) : s.cueStart = s.cueOn := by
  unfold State.cueStart
  rw [h, if_neg (by decide), if_pos h0]
  rfl

/-- What the receiver is to do does not depend on what it does. -/
theorem State.cueStopped_cueWanted (s : State) : s.cueStopped.cueWanted = s.cueWanted := rfl

/-! ### The listen before talk (R281) -/

theorem dict_bits_busyChannels : Dict.bits (ob 0x4130 0x05) = 32 := by decide

/-- A busy channel counted, with the listen over. -/
def State.busyCounted (s : State) : State := (s.cancel .lbt).inc (ob 0x4130 0x05)

theorem State.busyCounted_changes (s : State) : Changes [.timers] [ob 0x4130 0x05] s s.busyCounted :=
  ((s.cancel_changes _).trans (State.inc_changes _ _)).mono (by simp) (by simp)

theorem State.busyCounted_isArmed (s : State) : s.busyCounted.isArmed .lbt = false :=
  (State.isArmed_congr (by rw [State.busyCounted, State.inc_timers]) _).trans (s.cancel_isArmed .lbt)

theorem State.rd_busyCounted {s : State} (h : s.rd (ob 0x4130 0x05) + 1 < 2 ^ 32) :
    s.busyCounted.rd (ob 0x4130 0x05) = s.rd (ob 0x4130 0x05) + 1 :=
  State.rd_inc_self _ _ (by rw [dict_bits_busyChannels]; exact h)

/-- A frame about to go on air, its payload stamped. -/
def State.csmaStamped (s : State) (c : Csma) : Csma := { c with frame := { c.frame with payload := s.stamped c }, stage := .air }

/-- The transmit request of a frame added behind the others. -/
def State.requested (s : State) (c : Csma) : State :=
  let s := s.setCsma c
  { s with air := { s.air with requests := s.air.requests ++ [s.dataRequest c] } }

theorem State.requested_changes (s : State) (c : Csma) : Changes [.mac, .air] [] s (s.requested c) :=
  (s.withMac_changes _).trans (State.withAir_changes _ _)

/-- What a listen is judged by does not depend on the timers. -/
theorem State.cancel_lbtOf (s : State) (tm : Timer) : (s.cancel tm).lbtOf (s.cancel tm).workChannel = s.lbtOf s.workChannel := rfl

theorem State.cancel_atAntenna (s : State) (tm : Timer) (p g : Int) :
    (s.cancel tm).atAntenna ((s.cancel tm).rd (ob 0x4050 0x03)) p g = s.atAntenna (s.rd (ob 0x4050 0x03)) p g := rfl

theorem State.cancel_fitsSlot (s : State) (tm : Timer) (c : Csma) :
    (s.cancel tm).fitsSlot ((s.cancel tm).exchangeUs c) = s.fitsSlot (s.exchangeUs c) := rfl

section
variable {w s : State} {c : Csma} {p g : Int} (hw : w.dropStale = s) (hc : s.mac.csma = some c) (hl : c.stage = .listen)
  (hdue : s.isDue .lbt = true)
include hw hc hl hdue

theorem exec_lbtListenEnd : exec (.lbtListenEnd ⟨p, g⟩) w =
    let u := s.cancel .lbt
    if (u.lbtOf u.workChannel).1 ≤ u.atAntenna (u.rd (ob 0x4050 0x03)) p g then
      if s.busyCounted.rd (ob 0x4100 0x0C) < c.nb + 1 then done (s.busyCounted.endFrame 1 c.attempt)
      else done (s.busyCounted.backoff { c with nb := c.nb + 1, be := min (c.be + 1) (s.busyCounted.rd (ob 0x4100 0x0B)) })
    else if !u.fitsSlot (u.exchangeUs c) then
      done ((u.setCsma { c with stage := .backoff }).arm .backoff (u.deviceAt ((u.slot + 1) * 100000 + u.guard)))
    else done (u.requested (u.csmaStamped c)) := by
  change execLbtListenEnd ⟨p, g⟩ w = _
  unfold execLbtListenEnd
  rw [hw]
  dsimp only
  rw [hc]
  dsimp only
  rw [if_neg (by simp [hl, hdue])]
  rfl

/-- On a busy channel the listen is counted, and the frame ends or backs off. -/
theorem ends_lbtListenEnd_of_busy (hbusy : (s.lbtOf s.workChannel).1 ≤ s.atAntenna (s.rd (ob 0x4050 0x03)) p g) :
    Ends (.lbtListenEnd ⟨p, g⟩) w (if s.rd (ob 0x4100 0x0C) < c.nb + 1 then s.busyCounted.endFrame 1 c.attempt
      else s.busyCounted.backoff { c with nb := c.nb + 1, be := min (c.be + 1) (s.rd (ob 0x4100 0x0B)) }) := by
  have hmost : s.busyCounted.rd (ob 0x4100 0x0C) = s.rd (ob 0x4100 0x0C) := s.busyCounted_changes.rd (by decide)
  have hmaxBe : s.busyCounted.rd (ob 0x4100 0x0B) = s.rd (ob 0x4100 0x0B) := s.busyCounted_changes.rd (by decide)
  unfold Ends
  rw [exec_lbtListenEnd hw hc hl hdue]
  dsimp only
  rw [State.cancel_lbtOf, State.cancel_atAntenna, if_pos hbusy, hmost, hmaxBe]
  split <;> rfl

/-- On a clear channel a frame that fits its slot is requested of the air die. -/
theorem ends_lbtListenEnd_of_clear (hclear : s.atAntenna (s.rd (ob 0x4050 0x03)) p g < (s.lbtOf s.workChannel).1)
    (hfit : s.fitsSlot (s.exchangeUs c) = true) :
    Ends (.lbtListenEnd ⟨p, g⟩) w ((s.cancel .lbt).requested ((s.cancel .lbt).csmaStamped c)) := by
  unfold Ends
  rw [exec_lbtListenEnd hw hc hl hdue]
  dsimp only
  rw [State.cancel_lbtOf, State.cancel_atAntenna, if_neg (not_le.2 hclear), State.cancel_fitsSlot, hfit, if_neg (by decide), done_eq]

end

/-- Settles O45: the listens of the cue receiver, what it reads, a false wake, the end of its stop, and the listen before talk. -/
theorem cueReceiver : Obligations.CueReceiver := by
  unfold Obligations.CueReceiver
  refine ⟨?listen, ?word, ?ignored, ?falseWake, ?stop, ?lbt⟩
  case listen =>
    intro s d x h1 hd hdue hready
    refine ⟨fun h7 => ?tuning, fun hx h7 => ?quiet, fun hx h7 => ?heard⟩
    case tuning =>
      exact ⟨_, ends_cueListen_of_tuning h1 hd hdue h7, ((s.cancel_changes _).trans (State.arm_changes _ _ _)).mono (by simp) (by simp),
        State.arm_dueAt _ _ _⟩
    case quiet =>
      exact ⟨_, ends_cueListen_of_quiet h1 hd hdue hready h7 hx,
        (s.cueListened_changes.trans (State.arm_changes _ _ _)).mono (by simp) (by simp), rfl, State.arm_dueAt _ _ _⟩
    case heard =>
      exact ⟨_, ends_cueListen_of_heard h1 hd hdue hready h7 hx,
        (s.cueListened_changes.trans (State.cueReading_changes _ _)).mono (by simp) (by simp), rfl, rfl,
        State.arm_isArmed_of _ (by decide) (s.cancel_isArmed .cueListen), State.arm_dueAt _ _ _⟩
  case word =>
    intro s h2
    exact ⟨ends_cueGiveUp h2, fun w hw => ends_cueWordReceived_of_other h2 hw, fun w hw hcount =>
      ⟨_, ends_cueWordReceived_of_match h2 hw, s.wordStamped_changes, s.wordStamped_air, s.wordStamped_isArmed,
        State.rd_wordStamped_count hcount, s.rd_wordStamped_instant⟩⟩
  case ignored => exact fun s w h => ends_cueWordReceived_of_not_reading w h
  case falseWake =>
    intro s hcount
    have hair : ((s.inc (ob 0x4040 0x06)).raise 843 [t0] []).air = s.air := by rw [State.raise_air, State.inc_air]
    have hcal : ((s.inc (ob 0x4040 0x06)).raise 843 [t0] []).cal = s.cal := by rw [State.raise_cal, State.inc_cal]
    have hnext : ((s.inc (ob 0x4040 0x06)).raise 843 [t0] []).nextListen = s.nextListen :=
      (State.raise_nextListen _ _ _ _).trans ((s.inc_changes _).nextListen (by decide) (by decide) (by decide) (by decide))
    exact ⟨_, _, s.falseWake_eq, s.inc_changes _, State.rd_inc_self _ _ (by rwa [dict_bits_cueWakes]), State.listenAgain_changes _,
      (State.listenAgain_air _).trans (by rw [hair]), (State.listenAgain_cal _).trans (by rw [hcal]), State.listenAgain_isArmed _,
      (State.listenAgain_dueAt _).trans (congrArg some hnext)⟩
  case stop =>
    intro s h3 hdue hready
    have hexec := ends_cueStopDone h3 hdue hready
    refine ⟨fun hw => ⟨s.cueStopped, ?_, s.cueStopped_changes, rfl, s.cancel_isArmed .cueStop⟩,
      fun hw => ⟨s.cueStopped.cueOn, ?_, (s.cueStopped_changes.trans (State.cueOn_changes _)).mono (by simp) (by simp), rfl,
        State.arm_dueAt _ _ _⟩⟩
    · rwa [State.cueStart_of_unwanted (s.cueStopped_cueWanted.trans hw)] at hexec
    · rwa [State.cueStart_of_off (s.cueStopped_cueWanted.trans hw) rfl] at hexec
  case lbt =>
    intro w s c p g hw hc hl hdue
    exact ⟨fun hbusy hcount => ⟨s.busyCounted, s.busyCounted_changes, s.rd_busyCounted hcount, s.busyCounted_isArmed,
        ends_lbtListenEnd_of_busy hw hc hl hdue hbusy⟩,
      fun hclear hfit => ⟨_, _, ends_lbtListenEnd_of_clear hw hc hl hdue hclear hfit,
        ((s.cancel_changes _).trans (State.requested_changes _ _)).mono (by simp) (by simp), s.cancel_isArmed .lbt, rfl, rfl, rfl⟩⟩

end Sys2Proof.Machine
end
section
/-! PROOFS. What the mesh MAC's shared operations set and leave (chapter 10): shared by the proofs about the mesh. -/

namespace Sys2Proof.Machine

/-! ### Counters (Table 10-8) -/

/-- The counters of the mesh are 32 bits wide. -/
theorem dict_bits_meshCounter : ∀ k ∈ [ob 0x4130 0x04, ob 0x4130 0x06, ob 0x4130 0x07, ob 0x4130 0x08, ob 0x4130 0x09, ob 0x4130 0x0A,
    ob 0x4130 0x0B, ob 0x4130 0x0C, ob 0x4130 0x0E], Dict.bits k = 32 := by decide

/-- A counter of the mesh goes up by one, and nothing else changes; `t` has its value from `s`. -/
theorem State.inc_counts {s t : State} {k : Nat} (h : s.rd k + 1 < 2 ^ 32) (hrd : t.rd k = s.rd k := by rfl)
    (hk : k ∈ [ob 0x4130 0x04, ob 0x4130 0x06, ob 0x4130 0x07, ob 0x4130 0x08, ob 0x4130 0x09, ob 0x4130 0x0A, ob 0x4130 0x0B,
      ob 0x4130 0x0C, ob 0x4130 0x0E] := by decide) :
    Changes [] [k] t (t.inc k) ∧ (t.inc k).rd k = s.rd k + 1 := by
  refine ⟨t.inc_changes k, ?_⟩
  rw [State.rd_inc_self _ _ (by rwa [dict_bits_meshCounter k hk, hrd]), hrd]

/-! ### The NVA order -/

/-- Values of the conductor's own are entered last. -/
theorem State.mem_order_commit_own (s : State) (l : List (Nat × Nat)) : Commit.own l ∈ (s.commit (.own l)).order := by
  unfold State.commit
  split
  · exact List.mem_singleton_self _
  · simp [queueCommit, Commit.kind, Commit.isCheckpoint, Commit.isFault]

theorem State.wrKeep_changes (s : State) (l : List (Nat × Nat)) : Changes [.order] (l.map (·.1)) s (s.wrKeep l) :=
  ((s.wrAll_changes l).trans (State.commit_changes _ _)).mono (by simp) (by simp)

/-! ### Writes of a command object -/

/-- A write to a command object is its command. -/
theorem State.effect_of_command {i sub : Nat} (h : (Dict.row? i sub).map Row.acc = some .wo) (s : State) (t : Tenant) (tr : Transport)
    (id off : Nat) (v : Octets) : s.effect t tr id i sub off v = s.act t tr id i sub v := by
  obtain ⟨r, hrow, hacc⟩ := Option.map_eq_some_iff.1 h
  simp only [State.effect, hrow, hacc, if_true]

/-! ### The receiver's channel (R239) -/

/-- The receiver is tuned in LISTEN, where its channel changes. -/
theorem State.tune_air (s : State) (k : Nat) : (s.tune k).air =
    if s.airState = 2 ∧ k ≠ s.air.channel then { s.air with channel := k, before := s.rxChannel, tunedAt := s.now } else s.air :=
  apply_ite State.air _ _ _

/-! ### Received frames -/

/-- The received frames as they are left. -/
def State.withRx (s : State) (l : List RxFrame) : State := { s with mac := { s.mac with rx := l } }

theorem State.withRx_changes (s : State) (l : List RxFrame) : Changes [.mac] [] s (s.withRx l) := s.withMac_changes _

/-! ### Delivered messages -/

/-- A delivered message taken. -/
def State.withoutMessage (s : State) (d : Delivered) : State := { s with mac := { s.mac with inbox := s.mac.inbox.erase d } }

theorem State.takeMessage_eq_some {s w : State} {n : Nat} {d : Delivered} (h : s.takeMessage n = some (d, w)) : w = s.withoutMessage d := by
  unfold State.takeMessage at h
  split at h
  · cases h
  · cases h
    rfl

/-! ### Frames of the statements -/

/-- What several changes in a row leave. -/
theorem Changes.foldl {α : Type} {ps : List Part} {ks : List Nat} {f : State → α → State} (hf : ∀ s a, Changes ps ks s (f s a))
    (l : List α) (s : State) : Changes ps ks s (l.foldl f s) := by
  induction l generalizing s with
  | nil => exact (Changes.refl s).mono (by simp) (by simp)
  | cons a l ih => exact ((hf s a).trans (ih (f s a))).mono (by simp) (by simp)

/-! ### Frames abandoned (R478) -/

/-- Where no frame's kind is to go, dropping frames changes nothing. -/
theorem State.dropFrames_of_none {s : State} {p : OutKind → Bool} (hi : ∀ f ∈ s.mac.indirect, p f.origin = false)
    (ho : ∀ o ∈ s.mac.out, p o.kind = false) (hc : ∀ c, s.mac.csma = some c → p c.frame.kind = false) : s.dropFrames p = s := by
  have hgone : s.mac.indirect.filter (fun f => p f.origin) = [] := List.filter_eq_nil_iff.2 fun f hf => by simp [hi f hf]
  have hleft : s.mac.indirect.filter (fun f => !p f.origin) = s.mac.indirect := List.filter_eq_self.2 fun f hf => by simp [hi f hf]
  have hout : s.mac.out.filter (fun o => !p o.kind) = s.mac.out := List.filter_eq_self.2 fun o h => by simp [ho o h]
  have htimers (f : Timer → Bool) (hf : ∀ tm, f tm = false) : s.cancelAll f = s := by
    simp [State.cancelAll, hf]
  unfold State.dropFrames
  simp only [hgone, List.map_nil]
  rw [htimers _ (fun tm => by cases tm <;> rfl)]
  simp only [List.any_nil, Bool.not_false, Bool.and_true, hleft, hout]
  cases hs : s.mac.csma with
  | none => simp only [← hs]
  | some c => simp only [hc c hs, Bool.false_and, Bool.false_eq_true, if_false, ← hs]

end Sys2Proof.Machine
end
section
/-! PROOFS. Frames of the mesh MAC going out (chapter 10, R281 to R288, R296, R303): the statement `MacFramesOut`. -/

namespace Sys2Proof.Machine

/-! ### A pending frame begins (R277, R281, R284, R296) -/

/-- What becomes of a frame whose turn has come: it ends at once where something blocks it, else it takes its numbers and listens. -/
def State.frameTurn (s : State) (f : OutFrame) : Result :=
  let (st, d) := s.macBlock f
  if st ≠ 0 then
    let s := ((s.takeOut f).setCsma (s.csmaOf f)).endFrame st d
    done (if st = 8 then s.faultKeyed 65 t0 d d else s)
  else match f.numbers with
    | some _ => done ((s.takeOut f).listenStart (s.csmaOf f))
    | none =>
      match s.number with
      | (none, s') => done s'
      | (some n, s') => done ((s'.takeOut f).listenStart (s'.csmaOf { f with numbers := some n }))

theorem State.frameTurn_of_blocked {s : State} {f : OutFrame} {st d : Nat} (h : s.macBlock f = (st, d)) (h0 : st ≠ 0) (h8 : st ≠ 8) :
    s.frameTurn f = done (((s.takeOut f).setCsma (s.csmaOf f)).endFrame st d) := by
  simp only [State.frameTurn, h, h0, h8, ne_eq, not_false_eq_true, if_true, if_false]

theorem State.frameTurn_of_numbered {s : State} {f : OutFrame} {n : Nat × Nat × Nat} (h : s.macBlock f = (0, 0))
    (hn : f.numbers = some n) :
    s.frameTurn f = done ((s.takeOut f).listenStart (s.csmaOf f)) := by
  simp only [State.frameTurn, h, hn, ne_eq, not_true, if_false]

section
variable {w s : State} (hw : w.dropStale = s)
include hw

/-- Nothing begins beside a frame or an Imm-Ack under way, while shedding, or without the air die. -/
theorem ends_macFrameSend_of_busy
    (h : s.mac.csma ≠ none ∨ s.mac.ack ≠ none ∨ s.power.shedding = true ∨ s.airServes = false ∨ s.linkReady .air = false) :
    Ends .macFrameSend w s := by
  rw [← Option.isSome_iff_ne_none, ← Option.isSome_iff_ne_none] at h
  change execMacFrameSend w = _
  unfold execMacFrameSend
  rw [hw]
  exact if_pos h

variable (hc : s.mac.csma = none) (ha : s.mac.ack = none) (hshed : s.power.shedding = false) (hserves : s.airServes = true)
  (hlink : s.linkReady .air = true) (hout : s.mac.out ≠ [])
include hc ha hshed hserves hlink hout

/-- With a frame pending and nothing in its way, the air die is started where it is off, waited for where it starts, and else the turn is
the next frame's. -/
theorem exec_macFrameSend : exec .macFrameSend w =
    if s.airState = 0 then done s.airStart
    else if s.airState = 1 then done s
    else match s.reserveReports.pickReport.nextOut with
      | none => done s.reserveReports.pickReport
      | some f => s.reserveReports.pickReport.frameTurn f := by
  change execMacFrameSend w = _
  unfold execMacFrameSend
  rw [hw]
  dsimp only
  rw [if_neg (by simp [hc, ha, hshed, hserves, hlink]), if_neg (by simp [hout])]
  rfl

theorem ends_macFrameSend_of_off (h0 : s.airState = 0) : Ends .macFrameSend w s.airStart :=
  (exec_macFrameSend hw hc ha hshed hserves hlink hout).trans (if_pos h0)

/-- In LISTEN, with no report to make, the turn is the next frame's. -/
theorem exec_macFrameSend_of_turn (h2 : s.airState = 2) (hdry : ∀ t : Tenant, s.reportDry t = false) (hnone : s.nextReport = none)
    {f : OutFrame} (hf : s.nextOut = some f) : exec .macFrameSend w = s.frameTurn f := by
  have hreserve : s.reserveReports = s := if_neg (by simp [hdry])
  have hpick : s.pickReport = s := by simp only [State.pickReport, hnone]
  rw [exec_macFrameSend hw hc ha hshed hserves hlink hout, if_neg (by omega), if_neg (by omega), hreserve, hpick]
  simp only [hf]

end

/-- Before it has joined, a node sends nothing but its join (R296). -/
theorem State.macBlock_of_unjoined {s : State} {f : OutFrame} (h0 : s.joinState = 0) (hk : f.kind ≠ .join) : s.macBlock f = (3, 0) := by
  simp [State.macBlock, h0, hk]

/-- Nothing blocks a numbered frame of a joined node that is short enough. -/
theorem State.macBlock_of_free {s : State} {f : OutFrame} {n : Nat × Nat × Nat} (h3 : s.joinState = 3) (hlen : s.psdu f ≤ 255)
    (hn : f.numbers = some n) (h2 : s.airState = 2) : s.macBlock f = (0, 0) := by
  simp [State.macBlock, h3, hlen, hn, h2]

/-! ### The backoff and the Imm-Ack (R281, R282) -/

theorem exec_backoffExpired {w s : State} {c : Csma} (hw : w.dropStale = s) (hc : s.mac.csma = some c) : exec .backoffExpired w =
    if c.stage = .backoff ∧ s.isDue .backoff = true ∧ s.power.shedding = false then done ((s.cancel .backoff).listenStart c)
    else done s := by
  change execBackoffExpired w = _
  unfold execBackoffExpired
  rw [hw]
  simp only [hc]

/-- The Imm-Ack of a frame as a request of the air die. -/
def State.ackRequest (s : State) (seq : Nat) (more : Bool) (start : Nat) : TxReq :=
  { use := .ack seq more start, tenant := t0, quota := false, index := s.air.channel, mode := s.opMode, power := 0,
    time := s.frameUs 7, listen := none, hop := false, path := 0, code := 0, out := 0, on := 0 }

/-- An Imm-Ack requested ahead of every other request. -/
def State.ackRequested (s : State) (r : TxReq) : State :=
  { s.cancel .immAck with mac := { s.mac with ack := none }, air := { s.air with requests := r :: s.air.requests } }

theorem State.ackRequested_changes (s : State) (r : TxReq) : Changes [.mac, .air, .timers] [] s (s.ackRequested r) :=
  (((s.cancel_changes .immAck).trans (State.withMac_changes _ { s.mac with ack := none })).trans
    (State.withAir_changes _ { s.air with requests := r :: s.air.requests })).mono (by simp) (by simp)

theorem ends_immAckDue {s : State} {seq start : Nat} {more : Bool} (ha : s.mac.ack = some (seq, more, start))
    (hdue : s.isDue .immAck = true) : Ends .immAckDue s (s.ackRequested (s.ackRequest seq more start)) := by
  change execImmAckDue s = _
  unfold execImmAckDue
  simp only [ha, hdue, if_true, done_eq]
  rfl

theorem execImmAckReceived_eq (s : State) : execImmAckReceived s =
    match s.mac.rx, s.mac.csma with
    | r :: l, some c =>
      if c.stage = .ackWait ∧ r.frame.ftype = 2 ∧ r.frame.fcsOk = true ∧ (c.frame.numbers.map (fun n => n.1)) = some r.frame.seq then
        done ((if s.toParent c.frame && s.joinState == 3 then (s.withRx l).pendingWait r.frame.more r.endAt else s.withRx l).endFrame 0
          (c.attempt + 1))
      else done s
    | _, _ => done s := rfl

/-- The Imm-Ack that a frame waits for ends it OK; only one from the parent says anything of the receiver. -/
theorem ends_immAckReceived {s : State} {c : Csma} {r : RxFrame} {l : List RxFrame} {n : Nat × Nat × Nat} (hc : s.mac.csma = some c)
    (hrx : s.mac.rx = r :: l) (hwait : c.stage = .ackWait) (htype : r.frame.ftype = 2) (hfcs : r.frame.fcsOk = true)
    (hn : c.frame.numbers = some n) (hseq : n.1 = r.frame.seq) (hparent : s.toParent c.frame = false) :
    Ends .immAckReceived s ((s.withRx l).endFrame 0 (c.attempt + 1)) := by
  have hnumber : c.frame.numbers.map (fun n => n.1) = some r.frame.seq := by rw [hn, Option.map_some, hseq]
  change execImmAckReceived s = _
  rw [execImmAckReceived_eq]
  simp only [hrx, hc, hparent, if_pos (⟨hwait, htype, hfcs, hnumber⟩ : _ ∧ _ ∧ _ ∧ _), Bool.false_and, Bool.false_eq_true,
    if_false, done_eq]

/-! ### The end of a wait (R281, R282, R290) -/

/-- A wait without an Imm-Ack over and counted. -/
def State.waitCounted (s : State) : State := (s.cancel .ackWait).inc (ob 0x4130 0x04)

theorem State.waitCounted_changes (s : State) : Changes [.timers] [ob 0x4130 0x04] s s.waitCounted :=
  ((s.cancel_changes _).trans (State.inc_changes _ _)).mono (by simp) (by simp)

theorem State.waitCounted_isArmed (s : State) : s.waitCounted.isArmed .ackWait = false :=
  (State.isArmed_congr (by rw [State.waitCounted, State.inc_timers]) _).trans (s.cancel_isArmed .ackWait)

/-- Whether a frame has one attempt only: an indirect frame's, one for each poll. -/
def OutKind.once : OutKind → Bool
  | .indirect _ => true
  | _ => false

theorem ends_ackWaitClosed {s : State} {c : Csma} (hc : s.mac.csma = some c) (hwait : c.stage = .ackWait) (hdue : s.isDue .ackWait = true)
    (hack : s.ackPossible = false) : Ends .ackWaitClosed s
      (if c.frame.kind.once = true ∨ s.rd (ob 0x4100 0x09) < c.attempt + 1 then s.waitCounted.endFrame 2 (c.attempt + 1)
        else s.waitCounted.backoff { c with attempt := c.attempt + 1, nb := 0, be := s.rd (ob 0x4100 0x0A) }) := by
  have hmost : s.waitCounted.rd (ob 0x4100 0x09) = s.rd (ob 0x4100 0x09) := s.waitCounted_changes.rd (by decide)
  have hbe : s.waitCounted.rd (ob 0x4100 0x0A) = s.rd (ob 0x4100 0x0A) := s.waitCounted_changes.rd (by decide)
  have hexec : execAckWaitClosed s =
      if (c.frame.kind.once || decide (s.waitCounted.rd (ob 0x4100 0x09) < c.attempt + 1)) = true
      then done (s.waitCounted.endFrame 2 (c.attempt + 1))
      else done (s.waitCounted.backoff { c with attempt := c.attempt + 1, nb := 0, be := s.waitCounted.rd (ob 0x4100 0x0A) }) := by
    unfold execAckWaitClosed
    simp only [hc]
    rw [if_neg (by simp [hwait, hdue, hack])]
    rfl
  change execAckWaitClosed s = _
  rw [hexec, hmost, hbe]
  simp only [Bool.or_eq_true, decide_eq_true_eq]
  split <;> rfl

/-! ### A report's hold-off (R283) -/

theorem ends_reportRetryDue {s : State} {t : Tenant} (hdue : s.isDue (.reportRetry t) = true) (h : s.sleepy = false ∨ s.airState ≠ 0) :
    Ends (.reportRetryDue t) s (s.freeReport t) := by
  refine if_pos ?_
  simpa [hdue, Decidable.imp_iff_not_or] using h

theorem State.freeReport_changes (s : State) (t : Tenant) : Changes [.mac, .timers] [] s (s.freeReport t) :=
  ((s.withMac_changes _).trans (State.cancel_changes _ _)).mono (by simp) (by simp)

theorem State.not_mem_freeReport (s : State) (t : Tenant) : t ∉ (s.freeReport t).mac.held := by
  simp [State.freeReport, State.cancel]

/-! ### The home channel (R288, R303) -/

/-- A home channel and the network time of its change noted. -/
def State.changeNoted (s : State) (k n : Nat) : State := s.wrAll [(ob 0x4120 0x02, k), (ob 0x4120 0x03, n)]

theorem State.changeNoted_changes (s : State) (k n : Nat) : Changes [] [ob 0x4120 0x02, ob 0x4120 0x03] s (s.changeNoted k n) :=
  s.wrAll_changes _

theorem State.rd_changeNoted (s : State) (k n : Nat) :
    (s.changeNoted k n).rd (ob 0x4120 0x02) = k ∧ (s.changeNoted k n).rd (ob 0x4120 0x03) = n := by
  simp [State.changeNoted, State.rd_wr]

/-- Network time at which a change requested now is due. -/
def State.changeAt (s : State) : Nat := s.netTime s.now + (2 * s.rd (ob 0x4110 0x04) + 60) * 1000000

/-- A change to a home channel requested: noted, announced, and timed. -/
def State.changeRequested (s : State) (k : Nat) : State :=
  ((s.changeNoted k s.changeAt).raise 972 [t0] []).arm .homeSwitch ((s.changeNoted k s.changeAt).deviceAt s.changeAt)

theorem State.homeRequest_eq (s : State) (k : Nat) : s.homeRequest k =
    ((s.changeRequested k).mac.neighbours.filter (fun n => n.relation == 2)).foldl
      (fun s n => s.holdFor .timeCast n.short (s.timeMessage s.now) false true) (s.changeRequested k) := rfl

/-- Only sleepy children are told of a request by frames of their own. -/
theorem State.homeRequest_of_awake {s : State} (k : Nat) (h : ∀ n ∈ s.mac.neighbours, n.relation ≠ 2) :
    s.homeRequest k = s.changeRequested k := by
  have hmac : (s.changeRequested k).mac = s.mac :=
    (State.arm_mac _ _ _).trans ((State.raise_mac _ _ _ _).trans (State.wrAll_mac _ _))
  have hnone : (s.changeRequested k).mac.neighbours.filter (fun n => n.relation == 2) = [] := by simpa [hmac] using h
  rw [State.homeRequest_eq, hnone, List.foldl_nil]

theorem serves_homeChannelChangeRequest {s : State} {t : Tenant} {j : Job} {k : Nat} (hk : k < 65536)
    (hj : s.Writes t j 0x4120 0x04 (u16 k)) (h : ∀ n ∈ s.mac.neighbours, n.relation ≠ 2) :
    Serves (.homeChannelChangeRequest t) s (s.changeRequested k) t j [] false := by
  have hexec := exec_of_writesAt hj (c := .homeChannelChangeRequest t) (o := .homeChannel) rfl rfl
  have hact : s.act t j.req.transport j.id 0x4120 0x04 (u16 k) = (s.homeRequest (leNat (u16 k))).only := rfl
  rwa [State.effect_of_command (by decide), hact, leNat_u16 hk, State.homeRequest_of_awake k h] at hexec

/-- The pending home channel taken. -/
def State.homeTaken (s : State) : State :=
  ((s.cancel .homeSwitch).wrKeep [(ob 0x4120 0x01, s.rd (ob 0x4120 0x02))]).wr (ob 0x4120 0x02) 0xFFFF

theorem State.homeTaken_changes (s : State) : Changes [.timers, .order] [ob 0x4120 0x01, ob 0x4120 0x02] s s.homeTaken :=
  (((s.cancel_changes _).trans (State.wrKeep_changes _ _)).trans (State.wr_changes _ _ _)).mono (by simp) (by simp)

theorem State.rd_homeTaken (s : State) :
    s.homeTaken.rd (ob 0x4120 0x01) = s.rd (ob 0x4120 0x02) ∧ s.homeTaken.rd (ob 0x4120 0x02) = 0xFFFF := by
  simp [State.homeTaken, State.wrKeep, State.rd_wr]

theorem State.mem_order_homeTaken (s : State) : Commit.own [(ob 0x4120 0x01, s.rd (ob 0x4120 0x02))] ∈ s.homeTaken.order :=
  State.mem_order_commit_own _ _

/-- The change is made when it is due and the radio is idle. -/
theorem ends_homeChannelSwitch {s : State} (hdue : s.isDue .homeSwitch = true) (hpending : s.changePending = true)
    (h5 : s.joinState = 5) (h2 : s.airState = 2) (hc : s.mac.csma = none) :
    Ends .homeChannelSwitch s ((s.homeTaken.tune (s.rd (ob 0x4120 0x02))).raise 973 [t0] []) := by
  change execHomeChannelSwitch s = _
  unfold execHomeChannelSwitch
  simp only [hc]
  exact if_pos ⟨hdue, hpending, .inr h5, by simp [h2]⟩

/-! ### Slots (R239, R285) -/

/-- The channel of the receiver does not move the slots. -/
theorem State.tune_armSlot (s : State) (k : Nat) (h : s.hops = true) :
    (s.tune k).armSlot = (s.tune k).arm .slot (s.deviceAt ((s.slot + 1) * 100000)) := by
  have hhops : (s.tune k).hops = true := by
    unfold State.tune
    split <;> exact h
  have hnext : (s.tune k).deviceAt (((s.tune k).slot + 1) * 100000) = s.deviceAt ((s.slot + 1) * 100000) := by
    unfold State.tune
    split <;> rfl
  rw [State.armSlot, if_pos hhops, hnext]

/-- At a slot boundary a network that hops has its receiver tuned, and the next boundary set. -/
theorem ends_slotBoundary {s : State} (hdue : s.isDue .slot = true) (h : s.hops = true) :
    Ends .slotBoundary s ((s.tune s.listenChannel).arm .slot (s.deviceAt ((s.slot + 1) * 100000))) := by
  change execSlotBoundary s = _
  unfold execSlotBoundary
  rw [if_pos hdue, h, if_neg (by decide), State.tune_armSlot _ _ h, done_eq]

theorem ends_slotBoundary_of_fixed {s : State} (hdue : s.isDue .slot = true) (h : s.hops = false) :
    Ends .slotBoundary s (s.cancel .slot) := by
  change execSlotBoundary s = _
  unfold execSlotBoundary
  rw [if_pos hdue, h]
  rfl

/-- A joined node that scans nothing listens on the slot's channel. -/
theorem State.listenChannel_of_joined {s : State} (h : s.hops = true) (h3 : s.joinState = 3) (hscan : s.mac.scan = none) :
    s.listenChannel = s.slotChannel s.slot := by
  simp [State.listenChannel, hscan, h3, State.workChannel, h]

theorem State.tune_of_not_listening {s : State} (h : s.airState ≠ 2) (k : Nat) : s.tune k = s := if_neg (by tauto)

/-! ### TIME broadcasts (R287) -/

/-- A TIME message to all entered. -/
def State.timeCast (s : State) : State := (s.cancel .timeBroadcast).sendMac .timeCast (.short 0xFFFF) (s.timeMessage s.now)

theorem State.timeCast_changes (s : State) : Changes [.mac, .timers] [] s s.timeCast :=
  ((s.cancel_changes _).trans (State.withMac_changes _ _)).mono (by simp) (by simp)

theorem State.random_changes (s : State) (n : Nat) : Changes [.crypto] [] s (s.random n).2 := s.withCrypto_changes _

theorem State.random_lt (s : State) {n : Nat} (h : 0 < n) : (s.random n).1 < n := Nat.mod_lt _ h

theorem State.armBroadcast_of_hops {s : State} (h0 : s.role ≠ 0) (h : s.hops = true) : s.armBroadcast =
    (s.random 20001).2.arm .timeBroadcast (s.deviceAt ((s.slot / 8 + 1) * 800000 + (s.random 20001).1)) := by
  rw [State.armBroadcast, if_neg h0, if_pos h, show (s.slot / 8 + 1) * 800000 = (s.slot / 8 + 1) * 8 * 100000 by omega]
  rfl

theorem State.armBroadcast_of_fixed {s : State} (h0 : s.role ≠ 0) (h : s.hops = false) : s.armBroadcast =
    (s.random 1000001).2.arm .timeBroadcast
      ((s.now / (max 1 (s.rd (ob 0x4110 0x03)) * 1000000) + 1) * (max 1 (s.rd (ob 0x4110 0x03)) * 1000000) + (s.random 1000001).1) := by
  rw [State.armBroadcast, if_neg h0, h, if_neg (by decide)]
  rfl

theorem State.armBroadcast_changes {s : State} (h0 : s.role ≠ 0) : Changes [.crypto, .timers] [] s s.armBroadcast := by
  cases h : s.hops with
  | true =>
    rw [State.armBroadcast_of_hops h0 h]
    exact (s.random_changes _).trans (State.arm_changes _ _ _)
  | false =>
    rw [State.armBroadcast_of_fixed h0 h]
    exact (s.random_changes _).trans (State.arm_changes _ _ _)

theorem State.armBroadcast_mac {s : State} (h0 : s.role ≠ 0) : s.armBroadcast.mac = s.mac :=
  (State.armBroadcast_changes h0).same (p := .mac) (by decide)

/-- A coordinator enters a TIME message and sets the next broadcast. -/
theorem ends_timeBroadcastDue {s : State} (hdue : s.isDue .timeBroadcast = true) (h2 : s.role = 2) (h5 : s.joinState = 5) :
    Ends .timeBroadcastDue s s.timeCast.armBroadcast := by
  have hgo : ¬ ((s.cancel .timeBroadcast).role = 0 ∨
      (s.cancel .timeBroadcast).joinState ≠ 3 ∧ (s.cancel .timeBroadcast).joinState ≠ 5) := by
    rintro (h | h)
    · exact absurd (h2.symm.trans h) (by decide)
    · exact h.2 h5
  exact (if_pos hdue).trans (if_neg hgo)

theorem ends_timeBroadcastDue_of_leaf {s : State} (hdue : s.isDue .timeBroadcast = true) (h0 : s.role = 0) :
    Ends .timeBroadcastDue s (s.cancel .timeBroadcast) :=
  (if_pos hdue).trans (if_pos (.inl h0))

/-! ### The statement -/

/-- Settles O46, clause by clause: reports abandoned, a frame begun, its backoff and its Imm-Ack, the home channel, slots and broadcasts. -/
theorem macFramesOut : Obligations.MacFramesOut := by
  unfold Obligations.MacFramesOut
  refine ⟨?stale, ?busy, ?begin, ?backoff, ?ackDue, ?acked, ?unacked, ?report, ?request, ?switch, ?slot, ?broadcast⟩
  case stale => exact fun s hi ho hc => State.dropFrames_of_none hi ho hc
  case busy => exact fun w s hw h => ends_macFrameSend_of_busy hw h
  case begin =>
    intro w s hw hc ha hshed hserves hlink
    refine ⟨fun hout h0 => ends_macFrameSend_of_off hw hc ha hshed hserves hlink hout h0, fun h2 hdry hnone f hf hmem => ?_⟩
    have hout : s.mac.out ≠ [] := List.ne_nil_of_mem hmem
    have hturn := exec_macFrameSend_of_turn hw hc ha hshed hserves hlink hout h2 hdry hnone hf
    exact ⟨fun h0 hk => hturn.trans (State.frameTurn_of_blocked (State.macBlock_of_unjoined h0 hk) (by decide) (by decide)),
      fun n h3 hlen hn => hturn.trans (State.frameTurn_of_numbered (State.macBlock_of_free h3 hlen hn h2) hn)⟩
  case backoff =>
    intro w s c hw hc hb hdue
    exact ⟨fun hshed => (exec_backoffExpired hw hc).trans (if_pos ⟨hb, hdue, hshed⟩),
      fun hshed => (exec_backoffExpired hw hc).trans (if_neg (by simp [hshed]))⟩
  case ackDue =>
    intro s seq start more ha hdue
    exact ⟨_, _, ends_immAckDue ha hdue, s.ackRequested_changes _, rfl, rfl, rfl, rfl, s.cancel_isArmed .immAck⟩
  case acked =>
    intro s c r l n hc hrx hwait htype hfcs hn hseq hparent
    exact ⟨_, ends_immAckReceived hc hrx hwait htype hfcs hn hseq hparent, s.withRx_changes l, rfl⟩
  case unacked =>
    intro s c hc hwait hdue hack hcount
    exact ⟨s.waitCounted, s.waitCounted_changes, (State.inc_counts hcount).2, s.waitCounted_isArmed,
      ends_ackWaitClosed hc hwait hdue hack⟩
  case report =>
    intro s t hdue h
    exact ⟨_, ends_reportRetryDue hdue h, s.freeReport_changes t, s.not_mem_freeReport t, State.cancel_isArmed _ _⟩
  case request =>
    intro s t j k hk hj h
    exact ⟨_, serves_homeChannelChangeRequest hk hj h, s.changeNoted_changes k _, s.rd_changeNoted k _⟩
  case switch =>
    intro s hdue hpending h5 h2 hc
    exact ⟨_, ends_homeChannelSwitch hdue hpending h5 h2 hc, s.homeTaken_changes, s.rd_homeTaken.1, s.rd_homeTaken.2,
      s.mem_order_homeTaken⟩
  case slot =>
    intro s hdue
    refine ⟨fun h => ?fixed, fun h h2 h3 hscan => ?listening, fun h h2 => ?deaf⟩
    case fixed => exact ⟨_, ends_slotBoundary_of_fixed hdue h, s.cancel_changes _, s.cancel_isArmed .slot⟩
    case listening =>
      refine ⟨_, ends_slotBoundary hdue h, ((s.tune_changes _).trans (State.arm_changes _ _ _)).mono (by simp) (by simp), ?_,
        State.arm_dueAt _ _ _⟩
      rw [State.arm_air, State.tune_air, State.listenChannel_of_joined h h3 hscan]
      simp [h2]
    case deaf =>
      refine ⟨_, ends_slotBoundary hdue h, ?_, State.arm_dueAt _ _ _⟩
      rw [State.tune_of_not_listening h2]
      exact s.arm_changes _ _
  case broadcast =>
    intro s hdue
    refine ⟨fun h2 h5 => ⟨_, ends_timeBroadcastDue hdue h2 h5, ?_⟩,
      fun h0 => ⟨_, ends_timeBroadcastDue_of_leaf hdue h0, s.cancel_changes _, s.cancel_isArmed .timeBroadcast⟩⟩
    have h0 : s.timeCast.role ≠ 0 := fun h => absurd (h2.symm.trans h) (by decide)
    refine ⟨(s.timeCast_changes.trans (State.armBroadcast_changes h0)).mono (by simp) (by simp), State.armBroadcast_mac h0,
      fun h => ⟨(s.timeCast.random 20001).1, Nat.le_of_lt_succ (State.random_lt _ (by decide)), ?_⟩,
      fun h => ⟨(s.timeCast.random 1000001).1, Nat.le_of_lt_succ (State.random_lt _ (by decide)), ?_⟩⟩
    · rw [State.armBroadcast_of_hops h0 (show s.timeCast.hops = true from h), State.arm_dueAt]
      rfl
    · rw [State.armBroadcast_of_fixed h0 (show s.timeCast.hops = false from h), State.arm_dueAt]
      rfl

end Sys2Proof.Machine
end
section
/-! PROOFS. Frames of the mesh coming in: their checks, polls, time and forwarding (chapter 10, R274 to R278, R282, R286, R290, R295): the
statement `MacFramesIn`. -/

namespace Sys2Proof.Machine

/-! ### What a received frame brings (R276, R278) -/

/-- The payload of a received frame in clear (R276). -/
def State.opened (s : State) (f : MacIn) : Octets :=
  ccmCrypt (s.netKey f.keyIndex) (nonce (s.senderExt f) f.counter f.level) f.payload

/-- The MIC that a received frame is to have (R276). -/
def State.micOf (s : State) (f : MacIn) : Octets :=
  ccmMic (s.netKey f.keyIndex) (nonce (s.senderExt f) f.counter f.level) f.header (s.opened f) (micLen f.level)

/-- The message of a frame that passed every check, delivered. -/
def State.delivered (s : State) (r : RxFrame) (p : Octets) : State :=
  { s with mac := { s.mac with
    inbox := s.mac.inbox ++ [{ src := r.frame.src, payload := p, quality := r.quality, sfdAt := r.sfdAt, more := r.frame.more }] } }

/-- A delivered message taken for a poll where a unicast that is none brings it (R290). -/
def State.deliveredFrom (s : State) (r : RxFrame) (p : Octets) : State :=
  if isUnicast r.frame = true ∧ byteAt p 0 ≠ 1 then (s.delivered r p).polled (srcShort r.frame.src) else s.delivered r p

theorem State.letIn_eq (s : State) (r : RxFrame) : s.letIn r =
    if !s.securedWell r.frame then s.inc (ob 0x4130 0x08)
    else match counterCheck (s.checkpointed r.frame) r.frame with
      | 1 => s.inc (ob 0x4130 0x06)
      | 2 => (s.inc (ob 0x4130 0x07)).raise 967 [t0] []
      | _ =>
        if s.micOf r.frame ≠ r.frame.mic then (s.inc (ob 0x4130 0x08)).raise 966 [t0] []
        else match s.hear r with
          | none => s.inc (ob 0x4130 0x0E)
          | some w =>
            if !isMessage (s.opened r.frame) then w.inc (ob 0x4130 0x0E)
            else if isUnicast r.frame && byteAt (s.opened r.frame) 0 != 1 then
              (w.delivered r (s.opened r.frame)).polled (srcShort r.frame.src)
            else w.delivered r (s.opened r.frame) := rfl

section
variable {s : State} {r : RxFrame}

theorem State.letIn_of_unsecured (h : s.securedWell r.frame = false) : s.letIn r = s.inc (ob 0x4130 0x08) := by
  rw [State.letIn_eq, h]
  rfl

variable (h : s.securedWell r.frame = true)
include h

theorem State.letIn_of_duplicate (h1 : counterCheck (s.checkpointed r.frame) r.frame = 1) : s.letIn r = s.inc (ob 0x4130 0x06) := by
  rw [State.letIn_eq, h, h1]
  rfl

theorem State.letIn_of_replay (h2 : counterCheck (s.checkpointed r.frame) r.frame = 2) :
    s.letIn r = (s.inc (ob 0x4130 0x07)).raise 967 [t0] [] := by
  rw [State.letIn_eq, h, h2]
  rfl

variable (h1 : counterCheck (s.checkpointed r.frame) r.frame ≠ 1) (h2 : counterCheck (s.checkpointed r.frame) r.frame ≠ 2)
include h1 h2

/-- A frame with a fresh counter is judged by its MIC and its sender. -/
theorem State.letIn_of_fresh : s.letIn r =
    if s.micOf r.frame ≠ r.frame.mic then (s.inc (ob 0x4130 0x08)).raise 966 [t0] []
    else match s.hear r with
      | none => s.inc (ob 0x4130 0x0E)
      | some w => if isMessage (s.opened r.frame) = true then w.deliveredFrom r (s.opened r.frame) else w.inc (ob 0x4130 0x0E) := by
  rw [State.letIn_eq, h]
  simp only [Bool.not_true, Bool.false_eq_true, if_false]
  congr 1
  cases s.hear r with
  | none => rfl
  | some w => cases isMessage (s.opened r.frame) <;> simp [State.deliveredFrom]

theorem State.letIn_of_forged (hmic : s.micOf r.frame ≠ r.frame.mic) : s.letIn r = (s.inc (ob 0x4130 0x08)).raise 966 [t0] [] :=
  (State.letIn_of_fresh h h1 h2).trans (if_pos hmic)

variable (hmic : s.micOf r.frame = r.frame.mic)
include hmic

theorem State.letIn_of_heard {w : State} (hw : s.hear r = some w) :
    s.letIn r = if isMessage (s.opened r.frame) = true then w.deliveredFrom r (s.opened r.frame) else w.inc (ob 0x4130 0x0E) := by
  rw [State.letIn_of_fresh h h1 h2, if_neg (not_not.2 hmic), hw]

/-- No place can be had for the sender. -/
theorem State.letIn_of_crowded (hw : s.hear r = none) : s.letIn r = s.inc (ob 0x4130 0x0E) := by
  rw [State.letIn_of_fresh h h1 h2, if_neg (not_not.2 hmic), hw]

end

/-- Hearing a sender touches the neighbours alone. -/
theorem State.takeNeighbour_changes {s w : State} {n : Neighbour} (h : s.takeNeighbour n = some w) : Changes [.mac] [] s w := by
  unfold State.takeNeighbour at h
  dsimp only at h
  split at h
  · cases h
    exact s.withMac_changes _
  · split at h
    · cases h
    · cases h
      exact s.withMac_changes _

theorem State.hear_changes {s w : State} {r : RxFrame} (h : s.hear r = some w) : Changes [.mac] [] s w := by
  unfold State.hear at h
  dsimp only at h
  split at h
  · cases h
    exact s.withMac_changes _
  · exact State.takeNeighbour_changes h

/-! ### The Imm-Ack of a received frame (R282, R289) -/

theorem State.pendingWait_changes (s : State) (more : Bool) (at_ : Nat) : Changes [.mac, .timers] [] s (s.pendingWait more at_) := by
  unfold State.pendingWait
  split
  · exact (Changes.refl s).mono (by simp) (by simp)
  · exact .ite (((s.withMac_changes _).trans (State.arm_changes _ _ _)).mono (by simp) (by simp))
      (((s.withMac_changes _).trans (State.cancel_changes _ _)).mono (by simp) (by simp))

/-- A sleepy end node keeps its receiver on for what is pending, and until it has joined. -/
theorem State.pendingWait_mac (s : State) (more : Bool) (at_ : Nat) : (s.pendingWait more at_).mac =
    { s.mac with listening := if s.sleepy then more || s.joinState != 3 else s.mac.listening } := by
  unfold State.pendingWait
  cases s.sleepy <;> cases more <;> rfl

theorem State.pendingWait_dueAt (s : State) (more : Bool) (at_ : Nat) {tm : Timer} (h : tm ≠ .pendingWait) :
    (s.pendingWait more at_).dueAt tm = s.dueAt tm := by
  unfold State.pendingWait
  split
  · rfl
  · cases more
    · exact State.cancel_dueAt_other _ h
    · exact State.arm_dueAt_other _ _ h

/-- A frame's Imm-Ack made ready, and the receiver kept on for what the frame says is pending. -/
def State.answering (s : State) (r : RxFrame) : State :=
  if isUnicast r.frame && (s.ackFrame r).mac.ack.isSome then
    (s.ackFrame r).pendingWait r.frame.more (r.endAt + 1000 + (s.ackFrame r).frameUs 7)
  else s.ackFrame r

/-- An Imm-Ack set for its instant. -/
def State.ackSet (s : State) (r : RxFrame) : State :=
  ({ s with mac := { s.mac with
      ack := some (r.frame.seq, !(s.heldFor (srcShort r.frame.src)).isEmpty || s.isDue (.sync (srcShort r.frame.src)),
        r.endAt + 1000) } } : State).arm .immAck (r.endAt + 1000 - (s.onSequence s.air.channel + 16))

theorem State.ackSet_changes (s : State) (r : RxFrame) : Changes [.mac, .timers] [] s (s.ackSet r) :=
  (s.withMac_changes _).trans (State.arm_changes _ _ _)

/-- A frame that asks for nothing is answered by nothing. -/
theorem State.answering_of_unasked {s : State} {r : RxFrame} (h : r.frame.ackReq = false) (hnone : s.mac.ack = none) :
    s.answering r = s := by
  have hack : s.ackFrame r = s := if_pos (by simp [h])
  unfold State.answering
  rw [hack, if_neg (by simp [hnone])]

/-- A unicast that asks for it is answered where nothing is sent. -/
theorem State.answering_of_asked {s : State} {r : RxFrame} (h : r.frame.ackReq = true) (hone : isUnicast r.frame = true)
    (hc : s.mac.csma = none) : s.answering r = (s.ackSet r).pendingWait r.frame.more (r.endAt + 1000 + (s.ackSet r).frameUs 7) := by
  have hack : s.ackFrame r = s.ackSet r := by
    unfold State.ackFrame
    dsimp only
    rw [if_neg (by simp [h, hone, hc])]
    rfl
  unfold State.answering
  rw [hack, hone]
  rfl

/-! ### A received frame (R278) -/

theorem execMacFrameReceived_eq (s : State) : execMacFrameReceived s =
    match s.mac.rx with
    | [] => done s
    | r :: l =>
      if r.frame.ftype = 2 then
        (match s.mac.csma with
         | some c =>
           if c.stage = .ackWait ∧ r.frame.fcsOk = true ∧ (c.frame.numbers.map (fun n => n.1)) = some r.frame.seq then done s
           else done (s.withRx l).sleepIdle
         | none => done (s.withRx l).sleepIdle)
      else if !r.frame.fcsOk then done (s.withRx l).sleepIdle
      else if r.frame.ftype ≠ 1 then done ((s.withRx l).inc (ob 0x4130 0x0E)).sleepIdle
      else if !(s.withRx l).forMe r.frame then done (s.withRx l).sleepIdle
      else done (((s.withRx l).answering r).letIn r).sleepIdle := rfl

section
variable {s : State} {r : RxFrame} {l : List RxFrame} (hrx : s.mac.rx = r :: l)
include hrx

/-- With a wrong FCS a frame is dropped. -/
theorem ends_macFrameReceived_of_corrupt (hc : s.mac.csma = none) (hfcs : r.frame.fcsOk = false) :
    Ends .macFrameReceived s (s.withRx l).sleepIdle := by
  change execMacFrameReceived s = _
  rw [execMacFrameReceived_eq]
  simp [hrx, hc, hfcs, done_eq]

/-- A data frame for another node is dropped. -/
theorem ends_macFrameReceived_of_other (htype : r.frame.ftype = 1) (hme : s.forMe r.frame = false) :
    Ends .macFrameReceived s (s.withRx l).sleepIdle := by
  have hforMe : (s.withRx l).forMe r.frame = false := hme
  change execMacFrameReceived s = _
  rw [execMacFrameReceived_eq]
  simp [hrx, htype, hforMe, done_eq]

theorem ends_macFrameReceived_of_unknown (hfcs : r.frame.fcsOk = true) (h1 : r.frame.ftype ≠ 1) (h2 : r.frame.ftype ≠ 2) :
    Ends .macFrameReceived s ((s.withRx l).inc (ob 0x4130 0x0E)).sleepIdle := by
  change execMacFrameReceived s = _
  rw [execMacFrameReceived_eq]
  simp [hrx, hfcs, h1, h2, done_eq]

/-- A data frame for the node is answered, then let in. -/
theorem ends_macFrameReceived_of_data (hfcs : r.frame.fcsOk = true) (htype : r.frame.ftype = 1) (hme : s.forMe r.frame = true) :
    Ends .macFrameReceived s (((s.withRx l).answering r).letIn r).sleepIdle := by
  have hforMe : (s.withRx l).forMe r.frame = true := hme
  change execMacFrameReceived s = _
  rw [execMacFrameReceived_eq]
  simp [hrx, hfcs, htype, hforMe, done_eq]

/-- One that asks for nothing is let in as it is. -/
theorem ends_macFrameReceived_of_unasked (hfcs : r.frame.fcsOk = true) (htype : r.frame.ftype = 1) (hme : s.forMe r.frame = true)
    (hreq : r.frame.ackReq = false) (hnone : s.mac.ack = none) : Ends .macFrameReceived s ((s.withRx l).letIn r).sleepIdle := by
  have hends := ends_macFrameReceived_of_data hrx hfcs htype hme
  rwa [State.answering_of_unasked (s := s.withRx l) hreq hnone] at hends

end

theorem ends_macFrameReceived_of_none {s : State} (h : s.mac.rx = []) : Ends .macFrameReceived s s := by
  change execMacFrameReceived s = _
  rw [execMacFrameReceived_eq]
  simp only [h, done_eq]

/-! ### Polls and TIME (R274, R286, R290, R292) -/

theorem ends_poll {s w : State} {d : Delivered} (h : s.takeMessage 1 = some (d, w)) :
    Ends .poll s (((w.setNeighbour (srcShort d.src) (fun n => { n with poll := u16At d.payload 1 })).polled
      (srcShort d.src)).sleepIdle) := by
  change execPoll s = _
  unfold execPoll
  rw [h]
  rfl

/-- A TIME message noted of its sender, and heard by a scan. -/
def State.timeHeard (s : State) (d : Delivered) : State :=
  (s.setNeighbour (srcShort d.src) (fun n => { n with depth := byteAt d.payload 9 })).scanHears d

theorem State.scanHears_changes (s : State) (d : Delivered) : Changes [.mac] [] s (s.scanHears d) := by
  unfold State.scanHears
  split
  · exact (Changes.refl s).mono (by simp) (by simp)
  · exact s.withMac_changes _

theorem State.timeHeard_changes (s : State) (d : Delivered) : Changes [.mac] [] s (s.timeHeard d) :=
  ((s.withMac_changes _).trans (State.scanHears_changes _ d)).mono (by simp) (by simp)

/-- The TIME of another coordinator: a conflict. -/
def State.foreignHeard (s : State) (coord : Nat) : State :=
  ((s.raise 971 [t0] []).fault 64 (coord % 2 ^ 32)).armIn .foreignCoord 3600000000

theorem exec_time {s w : State} {d : Delivered} (h : s.takeMessage 2 = some (d, w)) : exec .time s =
    let u := w.timeHeard d
    let coord := leNat (slice 11 8 d.payload)
    if u.joinState = 5 then
      if byteAt d.payload 9 = 0 ∧ coord ≠ u.ext then done (u.foreignHeard coord) else done u
    else if (u.joinState = 3 ∨ u.joinState = 4) ∧ srcShort d.src = u.parent then done (u.acceptTime d).sleepIdle
    else if u.joinState = 2 ∧ (u.mac.target.map (fun c => c.short)) = some (srcShort d.src) then done (u.acceptTime d).sleepIdle
    else done u.sleepIdle := by
  change execTime s = _
  unfold execTime
  rw [h]
  rfl

section
variable {s w : State} {d : Delivered} (h : s.takeMessage 2 = some (d, w))
include h

/-- The sender's entry and the scan do not say who the node is. -/
theorem timeHeard_rd (k : Nat) : (w.timeHeard d).rd k = s.rd k := by
  rw [(w.timeHeard_changes d).rd (by simp), State.takeMessage_eq_some h]
  rfl

theorem ends_time_of_foreign (h5 : s.joinState = 5) (h0 : byteAt d.payload 9 = 0) (hext : leNat (slice 11 8 d.payload) ≠ s.ext) :
    Ends .time s ((w.timeHeard d).foreignHeard (leNat (slice 11 8 d.payload))) := by
  have hjoin : (w.timeHeard d).joinState = 5 := (timeHeard_rd h _).trans h5
  have hown : (w.timeHeard d).ext = s.ext := timeHeard_rd h _
  exact (exec_time h).trans ((if_pos hjoin).trans (if_pos ⟨h0, by rwa [hown]⟩))

theorem ends_time_of_parent (h3 : s.joinState = 3) (hp : srcShort d.src = s.parent) :
    Ends .time s ((w.timeHeard d).acceptTime d).sleepIdle := by
  have hjoin : (w.timeHeard d).joinState = 3 := (timeHeard_rd h _).trans h3
  have hparent : (w.timeHeard d).parent = s.parent := timeHeard_rd h _
  exact (exec_time h).trans ((if_neg (by omega)).trans (if_pos ⟨.inl hjoin, by rwa [hparent]⟩))

theorem ends_time_of_unjoined (h0 : s.joinState = 0) : Ends .time s (w.timeHeard d).sleepIdle := by
  have hjoin : (w.timeHeard d).joinState = 0 := (timeHeard_rd h _).trans h0
  exact (exec_time h).trans ((if_neg (by omega)).trans ((if_neg (by omega)).trans (if_neg (by omega))))

end

/-! ### Forwarding (R295) -/

/-- A route is left as it is, or recorded for an hour. -/
theorem State.learnRoute_cases (s : State) (x via : Nat) : s.learnRoute x via = s ∨
    ∃ l, s.learnRoute x via = ({ s with mac := { s.mac with routes := l } } : State).armIn (.route x) 3600000000 := by
  unfold State.learnRoute
  dsimp only
  split_ifs
  · exact .inl rfl
  · exact .inl rfl
  · exact .inr ⟨_, rfl⟩
  · exact .inl rfl
  · exact .inr ⟨_, rfl⟩

theorem State.learnRoute_changes (s : State) (x via : Nat) : Changes [.mac, .timers] [] s (s.learnRoute x via) := by
  obtain h | ⟨l, h⟩ := s.learnRoute_cases x via
  · rw [h]
    exact (Changes.refl s).mono (by simp) (by simp)
  · rw [h]
    exact (s.withMac_changes _).trans (State.armIn_changes _ _ _)

/-- A route learnt notes no pair. -/
theorem State.learnRoute_dups (s : State) (x via : Nat) : (s.learnRoute x via).mac.dups = s.mac.dups := by
  obtain h | ⟨l, h⟩ := s.learnRoute_cases x via
  · rw [h]
  · rw [h]
    rfl

/-- The seen pairs with room for one more. -/
def State.pairRoom (s : State) : List Nat × State :=
  if 64 ≤ s.mac.dups.length then (s.mac.dups.take 63, (s.mac.dups.drop 63).foldl (fun s k => s.cancel (.dup k)) s) else (s.mac.dups, s)

theorem State.pairRoom_changes (s : State) : Changes [.timers] [] s s.pairRoom.2 := by
  unfold State.pairRoom
  split
  · exact Changes.foldl (fun s k => s.cancel_changes _) _ _
  · exact (Changes.refl s).mono (by simp) (by simp)

theorem State.noteDup_eq (s : State) (key : Nat) : s.noteDup key =
    ({ s.pairRoom.2 with mac := { s.pairRoom.2.mac with dups := key :: s.pairRoom.1 } } : State).armIn (.dup key) 60000000 := rfl

theorem State.noteDup_changes (s : State) (key : Nat) : Changes [.mac, .timers] [] s (s.noteDup key) := by
  rw [State.noteDup_eq]
  exact ((s.pairRoom_changes.trans (State.withMac_changes _ _)).trans (State.armIn_changes _ _ _)).mono (by simp) (by simp)

theorem exec_mesh {s w : State} {d : Delivered} (h : s.takeMessage 0x40 = some (d, w)) : exec .mesh s =
    let p := d.payload
    let key := u16At p 2 * 256 + byteAt p 7
    let y := w.learnRoute (u16At p 2) (srcShort d.src)
    let x := y.noteDup key
    if y.mac.dups.contains key = true then done (y.inc (ob 0x4130 0x0B)).sleepIdle
    else if u16At p 4 = x.short then done (x.meshInner (u16At p 2) (byteAt p 6) (byteAt p 8) (p.drop 9)).sleepIdle
    else if x.role = 0 then done x.sleepIdle
    else if byteAt p 6 = 0 then done (x.inc (ob 0x4130 0x0A))
    else done ((x.inc (ob 0x4130 0x09)).passMesh .forward (u16At p 4) (splice 6 (u8 (byteAt p 6 - 1)) p)) := by
  change execMesh s = _
  unfold execMesh
  rw [h]

section
variable {s w : State} {d : Delivered} {n : Nat} (h : s.takeMessage n = some (d, w)) (x via key : Nat)
include h

/-- Neither the message taken nor the route learnt is a pair or an object. -/
theorem learnRoute_dups_of_taken : (w.learnRoute x via).mac.dups = s.mac.dups := by
  rw [State.learnRoute_dups, State.takeMessage_eq_some h]
  rfl

theorem rd_learnRoute_of_taken (k : Nat) : (w.learnRoute x via).rd k = s.rd k := by
  rw [(w.learnRoute_changes x via).rd (by simp), State.takeMessage_eq_some h]
  rfl

theorem rd_noteDup_of_taken (k : Nat) : ((w.learnRoute x via).noteDup key).rd k = s.rd k :=
  ((State.noteDup_changes _ key).rd (by simp)).trans (rd_learnRoute_of_taken h x via k)

end

/-! ### What lapses (R295) -/

/-- A route gone. -/
def State.routeGone (s : State) (k : Nat) : State :=
  { s.cancel (.route k) with mac := { s.mac with routes := s.mac.routes.filter (fun r => r.1 != k) } }

/-- A seen pair gone. -/
def State.dupGone (s : State) (k : Nat) : State :=
  { s.cancel (.dup k) with mac := { s.mac with dups := s.mac.dups.filter (fun x => x != k) } }

theorem State.routeGone_changes (s : State) (k : Nat) : Changes [.mac, .timers] [] s (s.routeGone k) :=
  ((s.cancel_changes _).trans (State.withMac_changes _ _)).mono (by simp) (by simp)

theorem State.dupGone_changes (s : State) (k : Nat) : Changes [.mac, .timers] [] s (s.dupGone k) :=
  ((s.cancel_changes _).trans (State.withMac_changes _ _)).mono (by simp) (by simp)

/-! ### A node out of step (R275, R286) -/

/-- The guard used up: the node is UNSYNCHRONISED. -/
def State.outOfStep (s : State) : State := (s.cancel .unsync).wr (ob 0x4100 0x06) 4

theorem State.outOfStep_changes (s : State) : Changes [.timers] [ob 0x4100 0x06] s s.outOfStep :=
  ((s.cancel_changes _).trans (State.wr_changes _ _ _)).mono (by simp) (by simp)

theorem State.outOfStep_joinState (s : State) : s.outOfStep.joinState = 4 := (s.cancel .unsync).rd_wr_self _ _

theorem State.outOfStep_isArmed (s : State) : s.outOfStep.isArmed .unsync = false :=
  (State.isArmed_congr (State.wr_timers _ _ _) _).trans (s.cancel_isArmed .unsync)

/-- An unsynchronised node told of, its receiver on. -/
def State.outOfStepTold (s : State) : State := { s.outOfStep.raise 974 [t0] [] with mac := { s.mac with listening := true } }

theorem State.rd_outOfStepTold (s : State) {k : Nat} (h : k ≠ ob 0x4100 0x06) (hm : metroKey k = false) : s.outOfStepTold.rd k = s.rd k :=
  (s.outOfStep.rd_raise 974 [t0] [] k hm).trans (s.outOfStep_changes.rd (by simpa using h))

theorem ends_unsynchronised {s : State} (hdue : s.isDue .unsync = true) (h3 : s.joinState = 3) (h : s.hops = true) :
    Ends .unsynchronised s (((s.outOfStepTold.tune (s.hopAt 0)).airStart).armIn .unsyncScan (8 * s.hopN * 100000)) := by
  have hhop : s.outOfStepTold.hopAt 0 = s.hopAt 0 := by
    unfold State.hopAt
    rw [s.rd_outOfStepTold (by decide) (by decide)]
  have hcount : s.outOfStepTold.hopN = s.hopN := s.rd_outOfStepTold (by decide) (by decide)
  have hexec : execUnsynchronised s = done (((s.outOfStepTold.tune (s.outOfStepTold.hopAt 0)).airStart).armIn .unsyncScan
    (8 * s.outOfStepTold.hopN * 100000)) := if_pos ⟨hdue, h3, h⟩
  change execUnsynchronised s = _
  rw [hexec, hhop, hcount, done_eq]

/-! ### The statement -/

/-- Settles O47, clause by clause: the checks of a received frame in their order, its message and its Imm-Ack, a POLL, a TIME, a MESH
message, what lapses, and a node out of step. -/
theorem macFramesIn : Obligations.MacFramesIn := by
  unfold Obligations.MacFramesIn
  refine ⟨?none, ?received, ?message, ?poll, ?time, ?mesh, ?route, ?pair, ?unsync, ?unsyncOver⟩
  case none => exact fun s h => ends_macFrameReceived_of_none h
  case received =>
    intro s r l hrx hc u
    refine ⟨fun hfcs => ends_macFrameReceived_of_corrupt hrx hc hfcs, fun htype hme => ends_macFrameReceived_of_other hrx htype hme,
      fun hfcs h1 h2 hcount => ⟨_, ends_macFrameReceived_of_unknown hrx hfcs h1 h2, State.inc_counts hcount⟩, ?unsecured, ?secured,
      ?asked⟩
    case unsecured =>
      intro hfcs htype hme hreq hnone hsec hcount
      have hends : Ends .macFrameReceived s (u.letIn r).sleepIdle := ends_macFrameReceived_of_unasked hrx hfcs htype hme hreq hnone
      rw [State.letIn_of_unsecured (s := u) hsec] at hends
      exact ⟨_, hends, State.inc_counts hcount⟩
    case secured =>
      intro n hfcs htype hme hreq hnone hsec hn
      have hends : Ends .macFrameReceived s (u.letIn r).sleepIdle := ends_macFrameReceived_of_unasked hrx hfcs htype hme hreq hnone
      have hcheck : counterCheck (u.checkpointed r.frame) r.frame = n := hn
      refine ⟨fun h1 hcount => ?duplicate, fun h2 hcount => ?replay, fun h1 h2 hmic hcount => ?forged, fun w h1 h2 hmic hw => ?heard,
        fun h1 h2 hmic hw hcount => ?crowded⟩
      case duplicate =>
        rw [State.letIn_of_duplicate (s := u) hsec (hcheck.trans h1)] at hends
        exact ⟨_, hends, State.inc_counts hcount⟩
      case replay =>
        rw [State.letIn_of_replay (s := u) hsec (hcheck.trans h2)] at hends
        exact ⟨_, hends, State.inc_counts hcount⟩
      all_goals rw [← hcheck] at h1 h2
      case forged =>
        rw [State.letIn_of_forged (s := u) hsec h1 h2 hmic] at hends
        exact ⟨_, hends, State.inc_counts hcount⟩
      case heard =>
        have hstands : Changes [.mac] [] s w := ((s.withRx_changes l).trans (State.hear_changes hw)).mono (by simp) (by simp)
        rw [State.letIn_of_heard (s := u) hsec h1 h2 hmic hw] at hends
        refine ⟨hstands, fun hmsg => ?_, fun hmsg hcount => ⟨_, ?_, State.inc_counts hcount (hstands.rd (by simp))⟩⟩
        · rwa [if_pos (show isMessage (u.opened r.frame) = true from hmsg)] at hends
        · rwa [if_neg (ne_true_of_eq_false (show isMessage (u.opened r.frame) = false from hmsg))] at hends
      case crowded =>
        rw [State.letIn_of_crowded (s := u) hsec h1 h2 hmic hw] at hends
        exact ⟨_, hends, State.inc_counts hcount⟩
    case asked =>
      intro hfcs htype hme hreq hone
      have hends := ends_macFrameReceived_of_data hrx hfcs htype hme
      rw [State.answering_of_asked (s := s.withRx l) hreq hone hc] at hends
      refine ⟨_, hends, (((s.withRx_changes l).trans (State.ackSet_changes _ _)).trans (State.pendingWait_changes _ _ _)).mono
        (by simp) (by simp), State.pendingWait_mac _ _ _, ?_⟩
      rw [State.pendingWait_dueAt _ _ _ (by decide)]
      exact State.arm_dueAt _ _ _
  case message =>
    intro s w r hsec h0 hw f m p hmic hmsg
    exact (State.letIn_of_heard hsec (by omega) (by omega) hmic hw).trans (if_pos hmsg)
  case poll => exact fun s w d h => ends_poll h
  case time =>
    intro s w d h
    exact ⟨ends_time_of_foreign h, ends_time_of_parent h, ends_time_of_unjoined h⟩
  case mesh =>
    intro s w d h p key y x
    have hexec := exec_mesh h
    have hdups : y.mac.dups = s.mac.dups := learnRoute_dups_of_taken h _ _
    have hrd (k : Nat) : x.rd k = s.rd k := rd_noteDup_of_taken h _ _ _ k
    have hshort : x.short = s.short := hrd _
    have hrole : x.role = s.role := hrd _
    have hseen : y.mac.dups.contains key = true ↔ key ∈ s.mac.dups := by rw [hdups, List.contains_iff_mem]
    dsimp only at hexec
    refine ⟨fun hk hcount => ?seen, fun hk hme => ?mine, fun hk hme hleaf hhops hcount => ?exhausted,
      fun hk hme hleaf hhops hcount => ?passed⟩
    case seen =>
      exact ⟨_, hexec.trans (if_pos (hseen.2 hk)), State.inc_counts hcount (rd_learnRoute_of_taken h _ _ _)⟩
    case mine => exact hexec.trans ((if_neg (mt hseen.1 hk)).trans (if_pos (hme.trans hshort.symm)))
    all_goals
      rw [if_neg (mt hseen.1 hk), if_neg (fun e => hme (e.trans hshort)), if_neg (fun e => hleaf (hrole.symm.trans e))] at hexec
    case exhausted => exact ⟨_, hexec.trans (if_pos hhops), State.inc_counts hcount (hrd _)⟩
    case passed => exact ⟨_, hexec.trans (if_neg hhops), State.inc_counts hcount (hrd _)⟩
  case route => exact fun s k hdue => ⟨_, if_pos hdue, s.routeGone_changes k, rfl, s.cancel_isArmed (.route k)⟩
  case pair => exact fun s k hdue => ⟨_, if_pos hdue, s.dupGone_changes k, rfl, s.cancel_isArmed (.dup k)⟩
  case unsync =>
    intro s hdue h3 h
    exact ⟨s.outOfStep, s.outOfStep_changes, s.outOfStep_joinState, s.outOfStep_isArmed, ends_unsynchronised hdue h3 h⟩
  case unsyncOver => exact fun s hdue h4 => if_pos ⟨hdue, h4⟩

end Sys2Proof.Machine
end
section
/-! PROOFS. Joining a network, and a parent's sleepy children (chapter 10, R270 to R275, R289 to R291): the statement
`JoiningAndSleepers`. -/

namespace Sys2Proof.Machine

/-! ### A JOIN_REQUEST (R271) -/

/-- A joining node noted, with the role and the poll interval that it asks for. -/
def State.joinerNoted (s : State) (x : Nat) (d : Delivered) : State :=
  { s with mac := { s.mac with joiners := (x, byteAt d.payload 1, u16At d.payload 2) :: s.mac.joiners.filter (fun j => j.1 != x) } }

theorem exec_joinRequest {s w : State} {d : Delivered} (h : s.takeMessage 3 = some (d, w)) : exec .joinRequest s =
    match d.src with
    | .short _ => done (w.inc (ob 0x4130 0x0E))
    | .ext x =>
      let u := w.joinerNoted x d
      if u.joinState = 5 then
        let (m, u) := u.joinAnswer x 0 1
        done (u.deliverAnswer x m)
      else if u.joinState = 3 ∧ u.role = 1 then done (u.originate .join 0 3 false (relayed x d.payload))
      else done u := by
  change execJoinRequest s = _
  unfold execJoinRequest
  rw [h]
  rfl

/-- While it does not permit joining, a coordinator denies it (JOIN_DENY 2). -/
theorem State.joinAnswer_of_closed {s : State} (h : s.rd (ob 0x4100 0x0E) = 0) (ext parent depth : Nat) :
    s.joinAnswer ext parent depth = (u8 5 ++ u8 2, s) :=
  if_pos (by simp [State.isOn, h])

section
variable {s w : State} {d : Delivered} (h : s.takeMessage 3 = some (d, w))
include h

theorem ends_joinRequest_of_short {a : Nat} (hsrc : d.src = .short a) : Ends .joinRequest s (w.inc (ob 0x4130 0x0E)) := by
  have hexec := exec_joinRequest h
  rwa [hsrc] at hexec

variable {x : Nat} (hsrc : d.src = .ext x)
include hsrc

theorem ends_joinRequest_of_closed (h5 : s.joinState = 5) (h0 : s.rd (ob 0x4100 0x0E) = 0) :
    Ends .joinRequest s ((w.joinerNoted x d).deliverAnswer x (u8 5 ++ u8 2)) := by
  obtain rfl := State.takeMessage_eq_some h
  have hclosed := State.joinAnswer_of_closed (s := (s.withoutMessage d).joinerNoted x d) h0 x 0 1
  have hexec := exec_joinRequest h
  simp only [hsrc, hclosed] at hexec
  exact hexec.trans (if_pos h5)

theorem ends_joinRequest_of_router (h3 : s.joinState = 3) (h1 : s.role = 1) :
    Ends .joinRequest s ((w.joinerNoted x d).originate .join 0 3 false (u64 x ++ d.payload)) := by
  obtain rfl := State.takeMessage_eq_some h
  have h5 : ¬ ((s.withoutMessage d).joinerNoted x d).joinState = 5 := fun e => absurd (h3.symm.trans e) (by decide)
  have hexec := exec_joinRequest h
  simp only [hsrc] at hexec
  exact hexec.trans ((if_neg h5).trans (if_pos ⟨h3, h1⟩))

end

/-! ### The answer (R271) -/

/-- The objects that a JOIN_ACCEPT overwrites kept, and no answer waited for. -/
def State.acceptKept (s : State) (d : Delivered) : State := ((s.cancel .join).cancel .joinRetry).wrKeep (acceptWrites d.payload)

/-- The place in the network that its parent gives a node. -/
def State.placed (s : State) (d : Delivered) (c : Candidate) : State :=
  s.wrAll [(ob 0x4100 0x03, u16At d.payload 1), (ob 0x4100 0x04, c.short), (ob 0x4100 0x05, c.depth + 1), (ob 0x4100 0x06, 3)]

/-- A node that takes the place its parent gives it. -/
def State.accepted (s : State) (d : Delivered) (c : Candidate) : State :=
  let s := (s.acceptKept d).placed d c
  { s with mac := { s.mac with
      listening := false, noAck := 0
      neighbours := s.mac.neighbours.map (fun n =>
        { n with relation := if n.short = c.short then 0 else if n.relation = 0 then 3 else n.relation }) } }

theorem State.placed_place (s : State) (d : Delivered) (c : Candidate) : (s.placed d c).joinState = 3 ∧
    (s.placed d c).short = u16At d.payload 1 ∧ (s.placed d c).parent = c.short ∧ (s.placed d c).rd (ob 0x4100 0x05) = c.depth + 1 := by
  simp [State.placed, State.joinState, State.short, State.parent, State.rd_wr]

theorem State.accepted_place (s : State) (d : Delivered) (c : Candidate) : (s.accepted d c).joinState = 3 ∧
    (s.accepted d c).short = u16At d.payload 1 ∧ (s.accepted d c).parent = c.short ∧
    (s.accepted d c).rd (ob 0x4100 0x05) = c.depth + 1 :=
  (s.acceptKept d).placed_place d c

theorem State.accepted_isArmed (s : State) (d : Delivered) (c : Candidate) : (s.accepted d c).isArmed .join = false := by
  have htimers : (s.accepted d c).timers = ((s.cancel .join).cancel .joinRetry).timers :=
    (State.wrAll_timers _ _).trans ((State.commit_timers _ _).trans (State.wrAll_timers _ _))
  exact (State.isArmed_congr htimers _).trans (State.cancel_isArmed_of (s.cancel_isArmed .join))

theorem State.mem_order_accepted (s : State) (d : Delivered) (c : Candidate) :
    Commit.own (acceptWrites d.payload) ∈ (s.accepted d c).order := by
  have horder : (s.accepted d c).order = (s.acceptKept d).order := State.wrAll_order _ _
  rw [horder]
  exact State.mem_order_commit_own _ _

section
variable {s w : State} {d : Delivered} {c : Candidate} (ht : s.mac.target = some c) (h2 : s.joinState = 2) (hsrc : srcShort d.src = c.short)
include ht h2 hsrc

theorem ends_joinAccept (h : s.takeMessage 4 = some (d, w)) :
    Ends .joinAccept s (((w.accepted d c).raise 960 [t0] []).joinedWork).sleepIdle := by
  obtain rfl := State.takeMessage_eq_some h
  have htarget : (s.withoutMessage d).mac.target = some c := ht
  have hchosen : ¬ ((s.withoutMessage d).joinState ≠ 2 ∨ srcShort d.src ≠ c.short) := by
    rintro (e | e)
    · exact e h2
    · exact e hsrc
  change execJoinAccept s = _
  unfold execJoinAccept
  rw [h]
  simp only [htarget]
  exact if_neg hchosen

theorem ends_joinDeny (h : s.takeMessage 5 = some (d, w)) : Ends .joinDeny s w.joinFailed := by
  obtain rfl := State.takeMessage_eq_some h
  have hchosen : (s.withoutMessage d).mac.target.map (fun c => c.short) = some (srcShort d.src) := by
    rw [hsrc, show (s.withoutMessage d).mac.target = some c from ht, Option.map_some]
  change execJoinDeny s = _
  unfold execJoinDeny
  rw [h]
  exact if_pos ⟨h2, hchosen⟩

end

/-! ### A join that fails (R271) -/

/-- A join given up. -/
def State.joinDropped (s : State) : State :=
  ({ (s.cancel .join).cancel .joinScan with mac := { s.mac with scan := none, listening := false } } : State).wr (ob 0x4100 0x06) 0

theorem State.joinDropped_changes (s : State) : Changes [.timers, .mac] [ob 0x4100 0x06] s s.joinDropped :=
  ((((s.cancel_changes _).trans (State.cancel_changes _ _)).trans (State.withMac_changes _ _)).trans (State.wr_changes _ _ _)).mono
    (by simp) (by simp)

theorem State.joinDropped_joinState (s : State) : s.joinDropped.joinState = 0 := State.rd_wr_self _ _ _

/-- A node that does not sleep tries again after its hold-off, its air die as it is. -/
theorem State.joinFailed_of_awake {s : State} (h : s.sleepy = false) :
    s.joinFailed = (s.joinDropped.raise 961 [t0] []).armIn .joinRetry (s.rd (ob 0x4110 0x06)) := by
  have hrole : ((s.joinDropped.raise 961 [t0] []).armIn .joinRetry (s.rd (ob 0x4110 0x06))).role = s.role :=
    (State.rd_raise _ _ _ _ _ (by decide)).trans (s.joinDropped_changes.rd (by decide))
  have hawake : ((s.joinDropped.raise 961 [t0] []).armIn .joinRetry (s.rd (ob 0x4110 0x06))).sleepy = false := by
    rwa [State.sleepy, hrole]
  exact if_neg (ne_true_of_eq_false hawake)

/-! ### A scan's next channel (R271, R272) -/

/-- A scan moved to its next channel. -/
def State.scanMoved (s : State) (x : Scan) (k : Nat) (l : List Nat) : State :=
  { s with mac := { s.mac with scan := some { x with left := l, channel := k } } }

theorem execJoinScanEnd_of_due {s : State} {x : Scan} (hx : s.mac.scan = some x) (hdue : s.isDue .joinScan = true) : execJoinScanEnd s =
    match x.left with
    | k :: l =>
      if x.found.isEmpty then done (((s.scanMoved x k l).tune k).armIn .joinScan s.scanUs)
      else done (s.scanDone x)
    | [] => done (s.scanDone x) := by
  unfold execJoinScanEnd
  split
  · next h => cases hx.symm.trans h
  · next y h =>
    obtain rfl : x = y := Option.some.inj (hx.symm.trans h)
    rw [hdue]
    rfl

/-- A scan with channels left and no candidate listens on the next one. -/
theorem ends_joinScanEnd_of_next {s : State} {x : Scan} {k : Nat} {l : List Nat} (hx : s.mac.scan = some x)
    (hdue : s.isDue .joinScan = true) (hl : x.left = k :: l) (hnone : x.found = []) :
    Ends .joinScanEnd s (((s.scanMoved x k l).tune k).armIn .joinScan s.scanUs) := by
  change execJoinScanEnd s = _
  rw [execJoinScanEnd_of_due hx hdue]
  simp only [hl, hnone, List.isEmpty_nil, if_true, done_eq]

theorem ends_joinScanEnd_of_over {s : State} {x : Scan} (hx : s.mac.scan = some x) (hdue : s.isDue .joinScan = true)
    (h : x.left = [] ∨ x.found ≠ []) : Ends .joinScanEnd s (s.scanDone x) := by
  change execJoinScanEnd s = _
  rw [execJoinScanEnd_of_due hx hdue]
  cases hl : x.left with
  | nil => rfl
  | cons k l =>
    have hfound : x.found ≠ [] := h.resolve_left (by simp [hl])
    exact if_neg (by simpa using hfound)

theorem State.scanMoved_changes (s : State) (x : Scan) (k : Nat) (l : List Nat) : Changes [.mac] [] s (s.scanMoved x k l) :=
  s.withMac_changes _

theorem State.tune_mac (s : State) (k : Nat) : (s.tune k).mac = s.mac := (s.tune_changes k).same (p := .mac) (by decide)

/-! ### An address freed (R270) -/

/-- An address without its entry. -/
def State.addressFreed (s : State) (a : Nat) : State :=
  { s with mac := { s.mac with addresses := s.mac.addresses.filter (fun p => p.1 != a) } }

theorem serves_meshAddressRelease {s : State} {t : Tenant} {j : Job} {a : Nat} (ha : a < 65536) (hj : s.Writes t j 0x4100 0x0F (u16 a)) :
    Serves (.meshAddressRelease t) s ((s.addressFreed a).commit (.own [])) t j [] false := by
  have hexec := exec_of_writesAt hj (c := .meshAddressRelease t) (o := .meshRelease) rfl rfl
  have hact : s.act t j.req.transport j.id 0x4100 0x0F (u16 a) = (s.releaseAddress (leNat (u16 a))).only := rfl
  rwa [State.effect_of_command (by decide), hact, leNat_u16 ha] at hexec

/-! ### The children of a parent (R290) -/

/-- A child without held frames gone from the table. -/
def State.childGone (s : State) (a : Nat) : State :=
  { (s.cancel (.child a)).cancel (.sync a) with
    mac := { s.mac with neighbours := s.mac.neighbours.filter (fun n => !(n.short == a && n.child)) } }

theorem State.childGone_changes (s : State) (a : Nat) : Changes [.mac, .timers] [] s (s.childGone a) :=
  (((s.cancel_changes _).trans (State.cancel_changes _ _)).trans (State.withMac_changes _ _)).mono (by simp) (by simp)

theorem State.childGone_isArmed (s : State) (a : Nat) : (s.childGone a).isArmed (.child a) = false :=
  State.cancel_isArmed_of (s.cancel_isArmed (.child a))

theorem ends_childExpired {s : State} {a : Nat} (hdue : s.isDue (.child a) = true) (hnone : s.heldFor a = []) :
    Ends (.childExpired a) s ((s.childGone a).raise 964 [t0] []) := by
  have hheld : ((s.cancel (.child a)).cancel (.sync a)).heldFor a = [] := hnone
  change execChildExpired a s = _
  unfold execChildExpired
  rw [if_pos hdue]
  dsimp only
  rw [hheld]
  rfl

theorem State.dropIndirect_changes (s : State) (id : Nat) : Changes [.mac, .timers] [] s (s.dropIndirect id) :=
  ((((s.cancel_changes _).trans (State.cancel_changes _ _)).trans (State.cancel_changes _ _)).trans (State.withMac_changes _ _)).mono
    (by simp) (by simp)

/-- An indirect frame gone from its queue and counted as expired. -/
def State.expiredCounted (s : State) (id : Nat) : State := (s.dropIndirect id).inc (ob 0x4130 0x0C)

theorem State.expiredCounted_changes (s : State) (id : Nat) : Changes [.mac, .timers] [ob 0x4130 0x0C] s (s.expiredCounted id) :=
  ((s.dropIndirect_changes id).trans (State.inc_changes _ _)).mono (by simp) (by simp)

theorem State.ne_of_mem_expiredCounted {s : State} {id : Nat} {g : Indirect} (h : g ∈ (s.expiredCounted id).mac.indirect) :
    g.id ≠ id := by
  rw [State.expiredCounted, State.inc_mac] at h
  simpa using (List.mem_filter.1 h).2

theorem State.expiredCounted_isArmed (s : State) (id : Nat) : (s.expiredCounted id).isArmed (.indirect id) = false :=
  (State.isArmed_congr (State.inc_timers _ _) _).trans
    (State.cancel_isArmed_of (State.cancel_isArmed_of (s.cancel_isArmed (.indirect id))))

section
variable {s : State} {f : Indirect} (hf : s.mac.indirect.find? (fun g => g.id == f.id) = some f)
include hf

theorem ends_indirectExpired (hdue : s.isDue (.indirect f.id) = true) (hsends : s.sendsIndirect f.id = false) :
    Ends (.indirectExpired f.id) s
      ((((s.expiredCounted f.id).raise 975 [t0] []).kindEnded f.origin 5).txFailed f.origin.tenant 5 0 f.child) := by
  change execIndirectExpired f.id s = _
  unfold execIndirectExpired
  rw [hf]
  exact if_pos (by rw [hdue, hsends]; rfl)

/-- A frame that no cue pattern was sent for sends one after its delay. -/
theorem ends_cueDelayExpired (hdue : s.isDue (.cueDelay f.id) = true) : Ends (.cueDelayExpired f.id) s
    (if f.cues = 0 then (s.cancel (.cueDelay f.id)).cueFor f else s.cancel (.cueDelay f.id)) := by
  change execCueDelayExpired f.id s = _
  unfold execCueDelayExpired
  rw [hf]
  exact if_pos hdue

/-- A pattern is repeated three times at most. -/
theorem ends_cueRetryDue (hdue : s.isDue (.cueRetry f.id) = true) : Ends (.cueRetryDue f.id) s
    (if f.cues ≤ 3 then (s.cancel (.cueRetry f.id)).cueFor f else s.cancel (.cueRetry f.id)) := by
  change execCueRetryDue f.id s = _
  unfold execCueRetryDue
  rw [hf]
  exact if_pos hdue

end

/-! ### TIME for sleepy children (R290) -/

/-- A TIME message held for a sleepy child whose sync interval has passed. -/
def State.syncInserted (s : State) (n : Neighbour) : State :=
  if n.relation = 2 ∧ s.isDue (.sync n.short) = true then
    (s.holdFor .timeCast n.short (s.timeMessage s.now) false true).armIn (.sync n.short) (s.rd (ob 0x4110 0x04) * 1000000)
  else s

theorem ends_syncTimeInsert (s : State) : Ends .syncTimeInsert s (s.mac.neighbours.foldl State.syncInserted s) := rfl

/-- With no interval passed nothing is held. -/
theorem State.syncInserted_of_early {s : State} {l : List Neighbour} (h : ∀ n ∈ l, s.isDue (.sync n.short) = false) :
    l.foldl State.syncInserted s = s := by
  induction l with
  | nil => rfl
  | cons n l ih =>
    have hkept : s.syncInserted n = s := if_neg (by simp [h n (List.mem_cons_self ..)])
    rw [List.foldl_cons, hkept, ih fun m hm => h m (List.mem_cons_of_mem _ hm)]

/-! ### The statement -/

/-- Settles O48, clause by clause: a JOIN_REQUEST, its answers, a failed join, scans, addresses, children, their frames, cues and polls. -/
theorem joiningAndSleepers : Obligations.JoiningAndSleepers := by
  unfold Obligations.JoiningAndSleepers
  refine ⟨?request, ?accept, ?deny, ?timeout, ?failed, ?scan, ?retry, ?conflict, ?release, ?child, ?expired, ?cue, ?poll, ?pending, ?sync,
    ?early⟩
  case request =>
    intro s w d h
    exact ⟨fun a hsrc hcount => ⟨_, ends_joinRequest_of_short h hsrc,
        State.inc_counts hcount (by rw [State.takeMessage_eq_some h]; rfl)⟩,
      fun x hsrc => ⟨ends_joinRequest_of_closed h hsrc, ends_joinRequest_of_router h hsrc⟩⟩
  case accept =>
    intro s w d c h ht h2 hsrc
    obtain ⟨hjoin, hshort, hparent, hdepth⟩ := w.accepted_place d c
    exact ⟨_, ends_joinAccept ht h2 hsrc h, hjoin, hshort, hparent, hdepth, w.accepted_isArmed d c, w.mem_order_accepted d c, rfl⟩
  case deny => exact fun s w d c h ht h2 hsrc => ends_joinDeny ht h2 hsrc h
  case timeout => exact fun s hdue h2 => if_pos ⟨hdue, h2⟩
  case failed => exact fun s h => ⟨_, State.joinFailed_of_awake h, s.joinDropped_changes, s.joinDropped_joinState, rfl⟩
  case scan =>
    intro s x k l hx hdue
    refine ⟨fun hl hnone => ⟨_, ends_joinScanEnd_of_next hx hdue hl hnone, ?_, State.tune_mac _ _, State.tune_air _ _, ?_⟩,
      ends_joinScanEnd_of_over hx hdue⟩
    · exact (((s.scanMoved_changes x k l).trans (State.tune_changes _ _)).trans (State.armIn_changes _ _ _)).mono (by simp) (by simp)
    · exact State.armIn_dueAt (((s.scanMoved_changes x k l).trans (State.tune_changes _ _)).now (by decide) (by decide) (by decide)) _ _
  case retry =>
    intro s hdue h0
    exact ⟨fun hcan => (if_pos ⟨hdue, h0⟩).trans (congrArg done (if_pos hcan)),
      fun hcan => (if_pos ⟨hdue, h0⟩).trans (congrArg done (if_neg (by rw [Bool.not_eq_true]; exact hcan)))⟩
  case conflict =>
    intro s hdue
    exact ⟨_, if_pos hdue, ((s.cancel_changes _).trans (State.causeEnd_changes _ _)).mono (by simp) (by simp),
      s.cancel_isArmed .foreignCoord, rfl⟩
  case release => exact fun s t j a ha hj => ⟨_, serves_meshAddressRelease ha hj, s.withMac_changes _, rfl⟩
  case child =>
    exact fun s a hdue hnone => ⟨_, ends_childExpired hdue hnone, s.childGone_changes a, rfl, s.childGone_isArmed a⟩
  case expired =>
    intro s f hf hdue hsends hcount
    exact ⟨_, ends_indirectExpired hf hdue hsends, s.expiredCounted_changes f.id, (State.inc_counts hcount).2,
      fun g hg => State.ne_of_mem_expiredCounted hg, s.expiredCounted_isArmed f.id⟩
  case cue => exact fun s f hf => ⟨ends_cueDelayExpired hf, ends_cueRetryDue hf⟩
  case poll =>
    intro s hdue
    exact ⟨fun hsleepy h3 => (if_pos hdue).trans (if_pos ⟨hsleepy, h3⟩),
      fun hawake => (if_pos hdue).trans (if_neg (by simp [hawake]))⟩
  case pending =>
    intro s hdue h2
    have hgo : (s.isDue .pendingWait && !(s.airState == 4 && decide (s.air.sfdAt ≤ (s.dueAt .pendingWait).getD 0))) = true := by
      simp [hdue, h2]
    exact ⟨{ s.cancel .pendingWait with mac := { s.mac with listening := false } }, if_pos hgo,
      ((s.cancel_changes _).trans (State.withMac_changes _ _)).mono (by simp) (by simp), rfl, s.cancel_isArmed .pendingWait⟩
  case sync =>
    intro s n hn hrel hdue
    have hends := ends_syncTimeInsert s
    rwa [hn, List.foldl_cons, List.foldl_nil, State.syncInserted, if_pos ⟨hrel, hdue⟩] at hends
  case early =>
    intro s h
    have hends := ends_syncTimeInsert s
    rwa [State.syncInserted_of_early h] at hends

end Sys2Proof.Machine
end
section
/-! PROOFS. What the Garlys Line's shared operations set and leave (chapter 11): shared by the proofs about the line. -/

namespace Sys2Proof.Machine

/-! ### Counters (0x5030) -/

/-- The counters of the line are 32 bits wide. -/
theorem dict_bits_lineCounter : ∀ n ∈ [0x01, 0x02, 0x03, 0x04, 0x05], Dict.bits (ob 0x5030 n) = 32 := by decide

/-- A counter of the line goes up by one. -/
theorem State.rd_inc_lineCounter {s : State} {n : Nat} (h : s.rd (ob 0x5030 n) + 1 < 2 ^ 32)
    (hn : n ∈ [0x01, 0x02, 0x03, 0x04, 0x05] := by decide) : (s.inc (ob 0x5030 n)).rd (ob 0x5030 n) = s.rd (ob 0x5030 n) + 1 :=
  State.rd_inc_self _ _ (by rwa [dict_bits_lineCounter n hn])

/-! ### The line die's state and its roles -/

theorem State.withLine_changes (s : State) (l : Line) : Changes [.line] [] s { s with line := l } := by
  refine ⟨rfl, fun p hp => ?_, fun _ _ => rfl⟩
  cases p
  case line => exact absurd (List.mem_singleton_self _) hp
  all_goals rfl

theorem Changes.head {ps : List Part} {ks : List Nat} {s t : State} (h : Changes ps ks s t) (hk : ob 0x1010 0x04 ∉ ks) :
    t.head = s.head := by unfold State.head; rw [h.rd hk]

theorem Changes.member {ps : List Part} {ks : List Nat} {s t : State} (h : Changes ps ks s t) (hp : Part.links ∉ ps)
    (hk : ob 0x1010 0x04 ∉ ks) : t.member = s.member := by
  have hlinks : t.links = s.links := h.same hp
  unfold State.member
  rw [h.head hk, hlinks]

theorem Changes.driving {ps : List Part} {ks : List Nat} {s t : State} (h : Changes ps ks s t) (hp : Part.links ∉ ps)
    (hk : ob 0x1010 0x04 ∉ ks) (hd : t.line.driver = s.line.driver) : t.driving = s.driving := by
  have hlinks : t.links = s.links := h.same hp
  unfold State.driving
  rw [h.head hk, hd, hlinks]

theorem State.head_of_driving {s : State} (h : s.driving = true) : s.head = true := by
  simp only [State.driving, Bool.and_eq_true] at h
  exact h.1.1

/-! ### Frames in (R313) -/

/-- A frame with a framing error is counted. -/
theorem State.lineIn_of_framing {s : State} {f : LineIn} (h : checkLine f = .framing) (n : Nat) :
    s.lineIn f n = .inl (s.inc (ob 0x5030 0x04)) := by
  unfold State.lineIn
  rw [h]

/-- A frame whose CRC is wrong is counted. -/
theorem State.lineIn_of_crc {s : State} {f : LineIn} (h : checkLine f = .crc) (n : Nat) :
    s.lineIn f n = .inl (s.inc (ob 0x5030 0x03)) := by
  unfold State.lineIn
  rw [h]

/-- A good frame of another type is not the command's. -/
theorem State.lineIn_of_other {s : State} {f : LineIn} {d x ty q n : Nat} {b : Bool} {l : Octets}
    (h : checkLine f = .good d x ty q b l) (hne : ty ≠ n) : s.lineIn f n = .inl s := by
  unfold State.lineIn
  rw [h]
  exact if_pos hne

/-- A good frame of the command's type is counted and taken apart. -/
theorem State.lineIn_of_good {s : State} {f : LineIn} {d x q n : Nat} {b : Bool} {l : Octets}
    (h : checkLine f = .good d x n q b l) : s.lineIn f n = .inr (d, x, q, b, l, s.inc (ob 0x5030 0x02)) := by
  unfold State.lineIn
  rw [h]
  exact if_neg (fun hne => hne rfl)

end Sys2Proof.Machine
end
section
/-! PROOFS. The checks on a received line frame (R312, R313, Table 11-4): the statement `LineFrameChecks`. -/

namespace Sys2Proof.Machine

/-- The commands of the received line frames, each with the type of its frames (Table 11-4). -/
def lineReceivers (f : LineIn) (r : Nat) : List (Instr × Nat) :=
  [(.linePollReceived f, 0), (.lineEmptyReceived f, 1), (.lineDataReceived f, 2), (.lineAckReceived f, 3), (.lineNakReceived f, 4),
    (.lineTimeReceived f, 5), (.linePresenceReceived f, 6), (.searchStartReceived f, 7), (.searchPassReceived f, 8),
    (.searchEndReceived f, 9), (.assignReceived f, 0xA), (.walkProbeReceived f r, 0xB), (.walkTallyReceived f, 0xC),
    (.isolateReceived f, 0xD), (.reconnectReceived f, 0xE)]

/-- `u` is what `lineIn` leaves of a frame, and no more is to be done: the frame is discarded, or it is good and neither the head
awaits anything nor a member receives it. -/
def State.LineDone (s u : State) (f : LineIn) (n : Nat) : Prop :=
  s.lineIn f n = .inl u ∨ ∃ d x q b l, s.lineIn f n = .inr (d, x, q, b, l, u) ∧ u.member = false ∧ u.line.ask = none

/-- Each of the commands reads its frame through `lineIn` and ends where no more is to be done. -/
theorem ends_lineReceiver {s u : State} {f : LineIn} {r : Nat} : ∀ p ∈ lineReceivers f r, s.LineDone u f p.2 → Ends p.1 s u := by
  simp only [lineReceivers, List.forall_mem_cons, List.not_mem_nil, false_implies, implies_true, and_true]
  and_intros
  all_goals
    unfold Ends exec execLinePollReceived execLineEmptyReceived execLineDataReceived execLineAckReceived execLineNakReceived
      execLineTimeReceived execLinePresenceReceived execSearchStartReceived execSearchPassReceived execSearchEndReceived
      execAssignReceived execWalkProbeReceived execWalkTallyReceived execIsolateReceived execReconnectReceived
    rintro (h | ⟨d, x, q, b, l, h, hm, hask⟩)
    · simp only [h, done_eq]
    · simp [h, hm, hask, done_eq]

/-- Settles O49: each frame's command goes on from what `lineIn` leaves of it. -/
theorem lineFrameChecks : Obligations.LineFrameChecks := by
  unfold Obligations.LineFrameChecks
  intro s f r p hp
  refine ⟨fun h hcount => ?framing, fun h hcount => ?crc, fun d x ty q b l h hne => ?other, fun d x q b l h hm hask hcount => ?unheard⟩
  case framing =>
    exact ⟨_, ends_lineReceiver p hp (.inl (State.lineIn_of_framing h _)), s.inc_changes _, State.rd_inc_lineCounter hcount⟩
  case crc => exact ⟨_, ends_lineReceiver p hp (.inl (State.lineIn_of_crc h _)), s.inc_changes _, State.rd_inc_lineCounter hcount⟩
  case other => exact ends_lineReceiver p hp (.inl (State.lineIn_of_other h hne))
  case unheard =>
    have hcounted := s.inc_changes (ob 0x5030 0x02)
    have hm' : (s.inc (ob 0x5030 0x02)).member = false := (hcounted.member (by decide) (by decide)).trans hm
    have hask' : (s.inc (ob 0x5030 0x02)).line.ask = none := by rw [State.inc_line, hask]
    exact ⟨_, ends_lineReceiver p hp (.inr ⟨_, _, _, _, _, State.lineIn_of_good h, hm', hask'⟩), hcounted,
      State.rd_inc_lineCounter hcount⟩

end Sys2Proof.Machine
end
section
/-! PROOFS. The statement `LineMember`: why it fails. A POLL in a member that has sent its DATA three times gives the DATA up and raises
NO_ACK (R315), which no clause of the statement leaves room for. -/

namespace Sys2Proof.Machine

/-- A DATA frame that a member with address 4 has sent its head three times. -/
def spentFrame : LineMsg := { dest := 0, src := 4, payload := [], seq := 0, tries := 3, report := none, tenant := none, answers := none }

/-- A member with address 4, ADDRESSED, whose conductor has not started, and that frame in its outgoing buffer. -/
def spentMember : State :=
  { State.reset with
    objs := [(ob 0x5000 0x01, 4), (ob 0x5000 0x03, 3)], links := State.reset.links.set 2 ⟨1, true, [], [], false⟩
    line := { Line.reset with outBuf := some spentFrame } }

/-- The head's POLL of address 4. -/
def pollOfFour : LineIn := { bytes := lineFrame 4 0 0 0 true [], valid := true, rate := 0 }

/-- The events that a command's next state holds for the start of the conductor. -/
def heldAfter : Result → Nat
  | .next t => t.router.held.length
  | _ => 0

/-- The POLL raises the event of the frame given up. -/
theorem heldAfter_pollOfFour : heldAfter (exec (.linePollReceived pollOfFour) spentMember) = 1 := by decide

/-- Refutes O50: the clause of the POLL leaves the router as it is, also where the DATA in the buffer has been tried three times. -/
theorem not_lineMember : ¬ Obligations.LineMember := by
  unfold Obligations.LineMember
  rintro ⟨hmember, -⟩
  obtain ⟨hpoll, -⟩ := hmember spentMember pollOfFour 4 0 0 true [] (by decide) (by decide)
  obtain ⟨u, hends, hframe, -⟩ := hpoll (by decide) (by decide) (by decide)
  have hrst : u.rst = spentMember.rst := hframe.same (p := .rst) (by decide)
  have hrouter : u.router = spentMember.router := hframe.same (p := .router) (by decide)
  have hup : u.up = false := by rw [State.up, hrst]; decide
  have hsettle : u.settle = u := if_neg (by simp [hup])
  have hheld : heldAfter (exec (.linePollReceived pollOfFour) spentMember) = spentMember.router.held.length := by
    rw [hends, hsettle, heldAfter, hrouter]
  exact absurd (heldAfter_pollOfFour.symm.trans hheld) (by decide)

end Sys2Proof.Machine
end
section
/-! PROOFS. The line head's cycle, exchanges, search, commands and faults (chapter 11, R314 to R331): the statement `LineHead`. -/

namespace Sys2Proof.Machine

/-! ### A frame of the head (R314) -/

section
variable (s : State) (dst type seq : Nat) (ask : Option LineAsk) (payload : Octets) (src : Nat)

theorem State.headSend_changes : Changes [.line, .timers] [ob 0x5030 0x01] s (s.headSend dst type seq ask payload src) := by
  have hsent (l : Line) : Changes [.line] [ob 0x5030 0x01] s (({ s with line := l } : State).inc (ob 0x5030 0x01)) :=
    (s.withLine_changes l).trans (State.inc_changes _ _)
  unfold State.headSend
  exact .ite (((hsent _).trans (State.armIn_changes _ _ _)).mono (by simp) (by simp))
    (((hsent _).trans (State.cancel_changes _ _)).mono (by simp) (by simp))

theorem State.headSend_line : (s.headSend dst type seq ask payload src).line =
    { s.line with sent := lineFrame dst src type seq ask.isSome payload, ask := ask } := by
  unfold State.headSend
  cases ask <;> exact State.inc_line _ _

/-- A frame that asks for a reply opens its window. -/
theorem State.headSend_isArmed (x : LineAsk) : (s.headSend dst type seq (some x) payload src).isArmed .lineWindow = true :=
  State.arm_isArmed _ _ _

theorem State.headSend_now : (s.headSend dst type seq ask payload src).now = s.now :=
  (s.headSend_changes dst type seq ask payload src).now (by decide) (by decide) (by decide)

end

/-! ### The cycle (R317) -/

/-- A cycle begun at the rate that is set, and the next one timed. -/
def State.cycleBegun (s : State) : State :=
  ({ s with line := { s.line with rate := s.rd (ob 0x5020 0x01), cycle := s.cycleOf, inCycle := true, skipData := false } } : State).armIn
    .linePoll (s.rd (ob 0x5020 0x03))

theorem State.cycleBegun_changes (s : State) : Changes [.line, .timers] [] s s.cycleBegun :=
  (s.withLine_changes _).trans (State.armIn_changes _ _ _)

theorem State.cycleBegun_dueAt (s : State) : s.cycleBegun.dueAt .linePoll = some (s.now + s.rd (ob 0x5020 0x03)) :=
  State.armIn_dueAt rfl _ _

/-- A DATA frame put in the queue. -/
def State.lineQueued (s : State) (m : LineMsg) : State := { s with line := { s.line with queue := s.line.queue ++ [m] } }

/-- The next report of the head's own tenants put in its queue (R319). -/
def State.reportQueued (s : State) : State :=
  let s := s.reserveReports
  match s.nextLineReport with
  | some (t, q) => (s.lineReport t q 0).2.lineQueued (s.lineReport t q 0).1
  | none => s

theorem State.nextLineReport_of_none {s : State} (h : ∀ t : Tenant, s.mayReport t = false) : s.nextLineReport = none := by
  unfold State.nextLineReport
  refine List.foldl_fixed' (fun t => ?_) tenants
  exact if_pos (by simp [h t])

theorem State.reportQueued_of_none {s : State} (hdry : ∀ t : Tenant, s.reportDry t = false)
    (hmay : ∀ t : Tenant, s.mayReport t = false) : s.reportQueued = s := by
  have hreserve : s.reserveReports = s := if_neg (by simp [hdry])
  unfold State.reportQueued
  simp only [hreserve, State.nextLineReport_of_none hmay]

theorem ends_headPollCycle {s : State} (hdrv : s.driving = true) (hdue : s.isDue .linePoll = true) (hcyc : s.line.inCycle = false)
    (hask : s.line.ask = none) (hsearch : s.line.search = none) :
    Ends .headPollCycle s s.cycleBegun.reportQueued.lineNext :=
  if_pos (by simp [hdrv, hdue, hcyc, hask, hsearch])

/-! ### A window that closes empty (R314, R315, R318) -/

/-- A reply window closed with no reply. -/
def State.windowMissed (s : State) : State := s.answered.inc (ob 0x5030 0x05)

theorem State.answered_changes (s : State) : Changes [.line, .timers] [] s s.answered :=
  (s.withLine_changes _).trans (State.cancel_changes _ _)

theorem State.windowMissed_changes (s : State) : Changes [.line, .timers] [ob 0x5030 0x05] s s.windowMissed :=
  s.answered_changes.trans (State.inc_changes _ _)

theorem State.windowMissed_line (s : State) : s.windowMissed.line = { s.line with ask := none } := State.inc_line _ _

theorem State.windowMissed_isArmed (s : State) : s.windowMissed.isArmed .lineWindow = false :=
  (State.isArmed_congr (State.inc_timers _ _) _).trans (State.cancel_isArmed _ _)

theorem State.rd_windowMissed {s : State} (h : s.rd (ob 0x5030 0x05) + 1 < 2 ^ 32) :
    s.windowMissed.rd (ob 0x5030 0x05) = s.rd (ob 0x5030 0x05) + 1 := State.rd_inc_lineCounter (s := s.answered) h

/-- What the head does when nobody has answered. -/
def State.afterMiss (s : State) : LineAsk → State
  | .poll a => (s.nodeMissed a).lineNext
  | .data m => (s.headUnacked m).lineNext
  | .isolate a => (s.raise 1040 [t0] (u8 1 ++ u8 1 ++ u8 a)).lineNext
  | .presence => s.lineNext
  | .assign i a n => s.assignFailed i a n

theorem ends_lineReplyWindowClose {s : State} {x : LineAsk} (hask : s.line.ask = some x) (hdue : s.isDue .lineWindow = true) :
    Ends .lineReplyWindowClose s (s.windowMissed.afterMiss x) := by
  change execLineReplyWindowClose s = _
  unfold execLineReplyWindowClose
  simp only [hask, hdue, Bool.not_true, Bool.false_eq_true, if_false]
  cases x <;> rfl

/-! ### Replies (R315, R317, R318, R329) -/

section
variable {s : State} {f : LineIn} {d x q : Nat} {b : Bool} {l : Octets} (hdrv : s.driving = true)
include hdrv

/-- The head drives the line after a frame has been counted. -/
theorem State.driving_inc : (s.inc (ob 0x5030 0x02)).driving = true :=
  ((s.inc_changes _).driving (by decide) (by decide) (by rw [State.inc_line])).trans hdrv

theorem ends_lineEmptyReceived_of_polled (h : checkLine f = .good d x 1 q b l) (hask : s.line.ask = some (.poll x)) :
    Ends (.lineEmptyReceived f) s (((s.inc (ob 0x5030 0x02)).answered.nodeHeard x).lineNext) := by
  change execLineEmptyReceived f s = _
  unfold execLineEmptyReceived
  rw [State.lineIn_of_good h]
  exact if_pos ⟨State.driving_inc hdrv, by rw [State.inc_line, hask]⟩

theorem ends_lineNakReceived_of_sent {m : LineMsg} (h : checkLine f = .good d x 4 q b l) (hask : s.line.ask = some (.data m))
    (hx : x = m.dest) (hq : q = m.seq % 8) :
    Ends (.lineNakReceived f) s (((s.inc (ob 0x5030 0x02)).answered.nodeHeard x).headUnacked m).lineNext := by
  have hgo := State.driving_inc hdrv
  change execLineNakReceived f s = _
  unfold execLineNakReceived
  rw [State.lineIn_of_good h]
  simp only [State.head_of_driving hgo, if_true, State.inc_line, hask]
  exact if_pos ⟨hgo, hx, hq⟩

theorem ends_lineAckReceived_of_assigned {i n : Nat} (h : checkLine f = .good d x 3 q b l) (hask : s.line.ask = some (.assign i x n)) :
    Ends (.lineAckReceived f) s ((s.inc (ob 0x5030 0x02)).answered.nodeAssigned i x) := by
  have hgo := State.driving_inc hdrv
  change execLineAckReceived f s = _
  unfold execLineAckReceived
  rw [State.lineIn_of_good h]
  simp only [State.head_of_driving hgo, if_true, State.inc_line, hask]
  exact if_pos ⟨hgo, trivial⟩

theorem ends_lineDataReceived_of_polled {a : Nat} (h : checkLine f = .good d x 2 q b l) (hask : s.line.ask = some (.poll a)) :
    Ends (.lineDataReceived f) s ((s.inc (ob 0x5030 0x02)).headData d a q l) := by
  have hgo := State.driving_inc hdrv
  change execLineDataReceived f s = _
  unfold execLineDataReceived
  rw [State.lineIn_of_good h]
  simp only [State.head_of_driving hgo, if_true, State.inc_line, hask]
  exact if_pos hgo

end

/-! ### TIME and PRESENCE (R325, R326) -/

theorem ends_lineTimeDue {s : State} (hdrv : s.driving = true) (hdue : s.isDue .lineTime = true) (hask : s.line.ask = none)
    (hsearch : s.line.search = none) : Ends .lineTimeDue s ((s.armIn .lineTime (s.rd (ob 0x5020 0x06) * 1000000)).headSend 0xFF 5 0 none
      (u64 (s.now + cellsUs s.line.rate 14)) 0) := by
  have hrate : (s.armIn .lineTime (s.rd (ob 0x5020 0x06) * 1000000)).lineRate = s.line.rate := if_pos (State.head_of_driving hdrv)
  rw [← hrate]
  exact if_pos (by simp [hdrv, hdue, hask, hsearch])

/-- PRESENCE sent, and the next one timed. -/
def State.presenceSent (s : State) : State :=
  (({ s with line := { s.line with presence := false } } : State).headSend 0xFF 6 0 (some .presence) [] 0).armIn .presence
    (s.rd (ob 0x5020 0x04))

theorem State.presenceSent_changes (s : State) : Changes [.line, .timers] [ob 0x5030 0x01] s s.presenceSent :=
  (((s.withLine_changes _).trans (State.headSend_changes _ _ _ _ _ _ _)).trans (State.armIn_changes _ _ _)).mono (by simp) (by simp)

theorem State.presenceSent_line (s : State) : s.presenceSent.line =
    { s.line with presence := false, sent := lineFrame 0xFF 0 6 0 true [], ask := some .presence } := State.headSend_line _ _ _ _ _ _ _

theorem State.presenceSent_dueAt (s : State) : s.presenceSent.dueAt .presence = some (s.now + s.rd (ob 0x5020 0x04)) :=
  State.armIn_dueAt (State.headSend_now _ _ _ _ _ _ _) _ _

theorem State.presenceSent_isArmed (s : State) : s.presenceSent.isArmed .lineWindow = true := by
  rw [State.isArmed, State.presenceSent, State.armIn, State.arm_dueAt_other _ _ (by decide)]
  exact State.headSend_isArmed _ _ _ _ _ _ _

theorem ends_presenceDue {s : State} (hdrv : s.driving = true) (hask : s.line.ask = none) (hsearch : s.line.search = none)
    (hpres : s.line.presence = true) (hcyc : s.line.inCycle = false) : Ends .presenceDue s s.presenceSent :=
  if_pos (by simp [hdrv, hask, hsearch, hpres, hcyc])

/-! ### A pass of the search (R328 to R330) -/

/-- A pass made: the path taken, and the branches it leaves. -/
def State.passMade (s : State) (x : Search) (n p : Nat) (l : List (Nat × Nat)) (v : List (Bool × Bool)) : State :=
  let w := s.headSend 0xFF 8 0 none (u8 x.number ++ u8 n ++ u64 p) 0
  { w with line := { w.line with search := some { x with stack := (triplets n p (64 - n) v l).2, passes := x.passes + 1 } } }

section
variable (s : State) (x : Search) (n p : Nat) (l : List (Nat × Nat)) (v : List (Bool × Bool))

theorem State.passMade_changes : Changes [.line, .timers] [ob 0x5030 0x01] s (s.passMade x n p l v) :=
  ((s.headSend_changes _ _ _ _ _ _).trans (State.withLine_changes _ _)).mono (by simp) (by simp)

/-- A pass leaves the node table. -/
theorem State.passMade_nodeFor (i : Nat) : (s.passMade x n p l v).nodeFor i = s.nodeFor i := by
  have htable : (s.passMade x n p l v).line.table = s.line.table := by
    rw [State.passMade, State.headSend_line]
  unfold State.nodeFor State.node
  rw [htable]

end

theorem exec_headSearchPass {s : State} {x : Search} {n p : Nat} {l : List (Nat × Nat)} {v : List (Bool × Bool)} (hdrv : s.driving = true)
    (hask : s.line.ask = none) (hsearch : s.line.search = some x) (hstack : x.stack = (n, p) :: l) : exec (.headSearchPass v) s =
    match (triplets n p (64 - n) v l).1 with
    | none => done ((s.passMade x n p l v).vanished 0 0).searchOn
    | some i =>
      match (s.passMade x n p l v).nodeFor i with
      | some a => done ((s.passMade x n p l v).sendAssign i a 0)
      | none => done ((s.passMade x n p l v).raise 1030 [t0] (u8 0xFF ++ u64 i)).searchOn := by
  change execHeadSearchPass v s = _
  unfold execHeadSearchPass
  simp only [hsearch, hstack]
  rw [if_neg (by simp [hdrv, hask])]
  rfl

/-! ### The walk (R331) -/

theorem ends_headWalk_of_none {s : State} (v : List WalkSeen) (hdrv : s.driving = true) (hwalk : s.line.walk = true)
    (hask : s.line.ask = none) (hsearch : s.line.search = none) (hcyc : s.line.inCycle = false) (htable : s.line.table = []) :
    Ends (.headWalk v) s
      ((({ s with line := { s.line with walk := false } } : State).commit (.own [])).raise 1034 [t0] []) := by
  refine (if_pos (by simp [hdrv, hwalk, hask, hsearch, hcyc])).trans ?_
  simp only [htable, List.map_nil, List.mergeSort_nil, List.foldl_nil]
  rfl

/-! ### The head's commands (R320, R324, R330, R331) -/

/-- An accepted write of a command object of the head brings it to what the command does. -/
theorem serves_lineCommand {c : Instr} {s u : State} {t : Tenant} {j : Job} {sub : Nat} {v : Octets} {o : Own}
    (hj : s.Writes t j 0x5020 sub v) (hexec : exec c s = done (s.serveOwn t o)) (hown : ownOf 0x5020 sub v = o)
    (hrow : (Dict.row? 0x5020 sub).map Row.acc = some .wo)
    (hact : s.act t j.req.transport j.id 0x5020 sub v = u.only) : Serves c s u t j [] false := by
  have h := exec_of_writesAt hj hexec hown
  rwa [State.effect_of_command hrow, hact] at h

/-- An address without its entry in the table and in the cycle. -/
def State.nodeFreed (s : State) (a : Nat) : State :=
  { s with line := { s.line with table := s.line.table.filter (fun p => p.1 != a), cycle := s.line.cycle.filter (· != a) } }

theorem State.node_nodeFreed (s : State) (a : Nat) : (s.nodeFreed a).node a = none := by
  simp [State.node, State.nodeFreed, List.find?_eq_none]

theorem State.not_mem_cycle_nodeFreed (s : State) (a : Nat) : a ∉ (s.nodeFreed a).line.cycle := by simp [State.nodeFreed]

theorem serves_lineAddressRelease {s : State} {t : Tenant} {j : Job} {a : Nat} (ha : a < 256) (hj : s.Writes t j 0x5020 0x0C (u8 a)) :
    Serves (.lineAddressRelease t) s ((s.nodeFreed a).commit (.own [])) t j [] false := by
  have hact : s.act t j.req.transport j.id 0x5020 0x0C (u8 a) = (s.releaseNode (leNat (u8 a))).only := rfl
  rw [leNat_u8 ha] at hact
  exact serves_lineCommand hj rfl rfl (by decide) hact

/-! ### Overcurrent (R323) -/

/-- The line switched off, with nothing awaited and no cycle under way. -/
def State.lineSwitchedOff (s : State) : State :=
  { s.answered with line := { s.answered.line with driver := false, inCycle := false, cycle := [] } }

/-- The line rises again. -/
def State.lineRisen (s : State) : State :=
  (({ s.cancel .lineOff with line := { s.line with driver := s.head } } : State).armIn .lineOvercurrent 1000000).armIn .linePoll 0

theorem State.lineRisen_changes (s : State) : Changes [.line, .timers] [] s s.lineRisen :=
  ((((s.cancel_changes .lineOff).trans (State.withLine_changes _ _)).trans (State.armIn_changes _ _ _)).trans
    (State.armIn_changes _ _ _)).mono (by simp) (by simp)

theorem State.lineRisen_dueAt (s : State) :
    s.lineRisen.dueAt .linePoll = some s.now ∧ s.lineRisen.dueAt .lineOvercurrent = some (s.now + 1000000) :=
  ⟨State.arm_dueAt _ _ _, (State.arm_dueAt_other _ _ (by decide)).trans (State.arm_dueAt _ _ _)⟩

theorem State.lineRisen_isArmed (s : State) : s.lineRisen.isArmed .lineOff = false :=
  State.arm_isArmed_of _ (by decide) (State.arm_isArmed_of _ (by decide) (s.cancel_isArmed .lineOff))

/-! ### The statement -/

/-- Settles O51, clause by clause: the cycle, its windows and replies, TIME, PRESENCE, the search, the walk, the commands, a foreign dip
and an overcurrent. -/
theorem lineHead : Obligations.LineHead := by
  unfold Obligations.LineHead
  refine ⟨?cycle, ?window, ?replies, ?time, ?seen, ?pass, ?walk, ?commands, ?dip, ?lapse, ?overcurrent, ?below, ?rise⟩
  case cycle =>
    intro s hdrv hdue hcyc hask hsearch hdry hmay
    have hends := ends_headPollCycle hdrv hdue hcyc hask hsearch
    rw [State.reportQueued_of_none (s := s.cycleBegun) hdry hmay] at hends
    exact ⟨s.cycleBegun, hends, s.cycleBegun_changes, s.cycleBegun_dueAt, rfl⟩
  case window =>
    intro s x hask hdue hcount
    refine ⟨s.windowMissed, s.windowMissed_changes, State.rd_windowMissed hcount, s.windowMissed_line, s.windowMissed_isArmed, ?_⟩
    have hends := ends_lineReplyWindowClose hask hdue
    cases x <;> exact hends
  case replies =>
    exact fun s f d x q b l hdrv => ⟨ends_lineEmptyReceived_of_polled hdrv, fun m => ends_lineNakReceived_of_sent hdrv,
      fun i n => ends_lineAckReceived_of_assigned hdrv, fun a => ends_lineDataReceived_of_polled hdrv⟩
  case time =>
    intro s hdrv hask hsearch
    refine ⟨fun hdue => ends_lineTimeDue hdrv hdue hask hsearch, fun hpres hcyc _ => ⟨s.presenceSent,
      ends_presenceDue hdrv hask hsearch hpres hcyc, s.presenceSent_changes, ?_, ?_, s.presenceSent_dueAt, s.presenceSent_isArmed⟩⟩
    all_goals rw [State.presenceSent_line]
  case seen => exact fun s hdrv hask => if_pos ⟨hdrv, hask⟩
  case pass =>
    intro s x n p l v hdrv hask hsearch hstack _
    have hexec := exec_headSearchPass (v := v) hdrv hask hsearch hstack
    refine ⟨s.passMade x n p l v, s.passMade_changes x n p l v, rfl, fun hnone => ?_, fun i a hi ha => ?_, fun i hi ha => ?_⟩
    · rwa [hnone] at hexec
    all_goals
      simp only [hi, State.passMade_nodeFor, ha] at hexec
      exact hexec
  case walk =>
    exact fun s v hdrv hwalk hask hsearch hcyc htable => ⟨_, ends_headWalk_of_none v hdrv hwalk hask hsearch hcyc htable,
      s.withLine_changes _, rfl⟩
  case commands =>
    intro s t j a
    refine ⟨?searchNow, ?walkNow, ?isolateNow, ?reconnectNow, ?release⟩
    case release =>
      exact fun ha hj => ⟨_, serves_lineAddressRelease ha hj, s.withLine_changes _, s.node_nodeFreed a, s.not_mem_cycle_nodeFreed a⟩
    all_goals exact fun hj => ⟨_, serves_lineCommand hj rfl rfl (by decide) rfl, s.withLine_changes _, rfl⟩
  case dip => exact fun s hdrv => if_pos hdrv
  case lapse =>
    intro s p hp
    simp only [List.mem_cons, List.not_mem_nil, or_false] at hp
    obtain rfl | rfl := hp <;> intro hdue
    all_goals
      exact ⟨_, if_pos hdue, ((s.cancel_changes _).trans (State.causeEnd_changes _ _)).mono (by simp) (by simp),
        s.cancel_isArmed _, rfl⟩
  case overcurrent =>
    exact fun s n hdrv hn => ⟨s.lineSwitchedOff, if_pos ⟨hdrv, hn⟩, (s.answered_changes.trans (State.withLine_changes _ _)).mono
      (by simp) (by simp), rfl⟩
  case below => exact fun s n hn => if_neg (fun h => absurd h.2 (by omega))
  case rise =>
    intro s hdue
    obtain ⟨hpoll, hcurrent⟩ := s.lineRisen_dueAt
    exact ⟨s.lineRisen, if_pos hdue, s.lineRisen_changes, rfl, hpoll, hcurrent, s.lineRisen_isArmed⟩

end Sys2Proof.Machine
end
section
/-! PROOFS. The canonical forms (R343, R374): the relation `Kept` that every operation of the model keeps, its rules for choices,
folds and updates of the record, and the canonical forms of tables and of the pocket die's array. -/

namespace Sys2Proof.Machine

/-! ### The relation -/

/-- `s` carries on from `s₀`: with the same commands waiting, and in canonical form where `s₀` is. -/
structure Kept (s₀ s : State) : Prop where
  queue : s.pending = s₀.pending
  forms : s₀.canonical = true → s.canonical = true

/-- The next state that a command answers, if any, carries on from `s₀`. -/
def KeptBy (s₀ : State) (o : Result) : Prop := ∀ ⦃t⦄, o = .next t → Kept s₀ t

/-- A state that may be answered carries on from `s₀`. -/
def KeptOpt (s₀ : State) (o : Option State) : Prop := ∀ ⦃t⦄, o = some t → Kept s₀ t

/-- The state that may be answered beside another value carries on from `s₀`. -/
def KeptOptSnd {α : Type} (s₀ : State) (o : Option (α × State)) : Prop := ∀ ⦃a t⦄, o = some (a, t) → Kept s₀ t

/-- The state of a pair whose first component it is carries on from `s₀`. -/
def KeptFst {α : Type} (s₀ : State) (p : State × α) : Prop := Kept s₀ p.1

/-- The state of a pair whose second component it is carries on from `s₀`. -/
def KeptSnd {α : Type} (s₀ : State) (p : α × State) : Prop := Kept s₀ p.2

/-- The state of a write's effect carries on from `s₀`. -/
def KeptSt (s₀ : State) (e : Effect) : Prop := Kept s₀ e.st

/-- The state of a block exchange's turn or end carries on from `s₀`. -/
def KeptBlock (s₀ : State) : BlockOut → Prop
  | .turn t => KeptFst s₀ t
  | .done s _ _ => Kept s₀ s

theorem Kept.refl (s : State) : Kept s s := ⟨rfl, id⟩

section
variable {s₀ s : State} {α : Type}

theorem Kept.fst {a : α} (h : Kept s₀ s) : KeptFst s₀ (s, a) := h
theorem Kept.snd {a : α} (h : Kept s₀ s) : KeptSnd s₀ (a, s) := h
theorem Kept.next (h : Kept s₀ s) : KeptBy s₀ (.next s) := fun _ e => by cases e; exact h
theorem Kept.some (h : Kept s₀ s) : KeptOpt s₀ (some s) := fun _ e => by cases e; exact h
theorem KeptBy.fault {f : Fault} : KeptBy s₀ (.fault f) := fun _ h => nomatch h
theorem KeptOpt.none : KeptOpt s₀ none := fun _ h => nomatch h
theorem KeptOptSnd.none : KeptOptSnd (α := α) s₀ none := fun _ _ h => nomatch h

theorem KeptFst.of_eq {p : State × α} {a : α} (h : KeptFst s₀ p) (e : p = (s, a)) : Kept s₀ s := by subst e; exact h
theorem KeptSnd.of_eq {p : α × State} {a : α} (h : KeptSnd s₀ p) (e : p = (a, s)) : Kept s₀ s := by subst e; exact h

theorem KeptBlock.turn {o : BlockOut} {t : Turn} (h : KeptBlock s₀ o) (e : o = .turn t) : KeptFst s₀ t := by
  subst e; exact h

theorem KeptBlock.done {o : BlockOut} {x : Exchange} {r : Octets} (h : KeptBlock s₀ o) (e : o = .done s x r) : Kept s₀ s := by
  subst e; exact h

theorem KeptOpt.getD {o : Option State} (h : KeptOpt s₀ o) (hs : Kept s₀ s) : Kept s₀ (o.getD s) := by
  cases o with
  | none => exact hs
  | some t => exact h rfl

theorem KeptOpt.orElse {o : Option State} {p : Unit → Option State} (h : KeptOpt s₀ o) (hp : KeptOpt s₀ (p ())) :
    KeptOpt s₀ (o.orElse p) := by
  cases o with
  | none => exact hp
  | some t => exact h

theorem Kept.foldl {l : List α} {f : State → α → State} (h : Kept s₀ s) (hf : ∀ s a, Kept s₀ s → Kept s₀ (f s a)) :
    Kept s₀ (l.foldl f s) := by
  induction l generalizing s with
  | nil => exact h
  | cons a l ih => exact ih (hf s a h)

end

/-! A choice carries on when both of its branches do. -/

section
variable {s₀ : State} {α : Type} {c : Prop} {_ : Decidable c}

theorem Kept.ite {s t : State} (hs : Kept s₀ s) (ht : Kept s₀ t) : Kept s₀ (if c then s else t) := by
  split <;> assumption

theorem KeptBy.ite {a b : Result} (hs : KeptBy s₀ a) (ht : KeptBy s₀ b) : KeptBy s₀ (if c then a else b) := by
  split <;> assumption

theorem KeptOpt.ite {a b : Option State} (hs : KeptOpt s₀ a) (ht : KeptOpt s₀ b) : KeptOpt s₀ (if c then a else b) := by
  split <;> assumption

theorem KeptFst.ite {a b : State × α} (hs : KeptFst s₀ a) (ht : KeptFst s₀ b) : KeptFst s₀ (if c then a else b) := by
  split <;> assumption

theorem KeptSnd.ite {a b : α × State} (hs : KeptSnd s₀ a) (ht : KeptSnd s₀ b) : KeptSnd s₀ (if c then a else b) := by
  split <;> assumption

theorem KeptSt.ite {a b : Effect} (hs : KeptSt s₀ a) (ht : KeptSt s₀ b) : KeptSt s₀ (if c then a else b) := by
  split <;> assumption

theorem KeptBlock.ite {a b : BlockOut} (hs : KeptBlock s₀ a) (ht : KeptBlock s₀ b) : KeptBlock s₀ (if c then a else b) := by
  split <;> assumption

end

/-! ### Canonical forms: a table filtered, and the pocket die's array -/

theorem Tab.wfFrom_filter (d : Nat → Nat) (p : Nat × Nat → Bool) (t : Tab) (lo : Option Nat) (h : Tab.wfFrom d lo t = true) :
    Tab.wfFrom d lo (t.filter p) = true := by
  induction t generalizing lo with
  | nil => rfl
  | cons e t ih =>
    obtain ⟨k, v⟩ := e
    simp only [Tab.wfFrom, Bool.and_eq_true, decide_eq_true_eq] at h
    obtain ⟨⟨hlo, hv⟩, ht⟩ := h
    by_cases hp : p (k, v) = true
    · simp only [List.filter, hp, Tab.wfFrom, Bool.and_eq_true, decide_eq_true_eq]
      exact ⟨⟨hlo, hv⟩, ih _ ht⟩
    · simp only [List.filter, hp]
      cases lo with
      | none => exact ih _ (Tab.wfFrom_weaken d t ht)
      | some a => exact ih _ (Tab.wfFrom_lower d t (le_of_lt (of_decide_eq_true hlo)) ht)

theorem Tab.wf_filter (d : Nat → Nat) (p : Nat × Nat → Bool) (t : Tab) (h : Tab.wf d t = true) : Tab.wf d (t.filter p) = true :=
  Tab.wfFrom_filter d p t none h

/-- The mailbox array and its descriptors are in canonical form. -/
structure Pocket.Formed (p : Pocket) : Prop where
  mail : Mem.wf p.mail = true
  desc : Mem.wf p.desc = true

namespace Pocket.Formed
variable {p : Pocket}

theorem ite {q : Pocket} {c : Prop} {_ : Decidable c} (hp : p.Formed) (hq : q.Formed) : Pocket.Formed (if c then p else q) := by
  split <;> assumption

theorem state {q v : Nat} (h : p.Formed) : (p.state q v).Formed := ⟨h.mail, Mem.wf_program _ _ _ h.desc⟩

theorem retireAll {l : List Nat} (h : p.Formed) : (p.retireAll l).Formed := by
  unfold Pocket.retireAll
  induction l generalizing p with
  | nil => exact h
  | cons q l ih => exact ih h.state

theorem erase {q : Nat} (h : p.Formed) : (p.erase q).Formed := ⟨Mem.wf_eraseAll _ _ _ h.mail, Mem.wf_eraseAll _ _ _ h.desc⟩

theorem programDesc {a : Nat} {b : Octets} (h : p.Formed) : Pocket.Formed { p with desc := Mem.programAll p.desc a b } :=
  ⟨h.mail, Mem.wf_programAll _ _ _ h.desc⟩

theorem programMail {a : Nat} {b : Octets} (h : p.Formed) : Pocket.Formed { p with mail := Mem.programAll p.mail a b } :=
  ⟨Mem.wf_programAll _ _ _ h.mail, h.desc⟩

theorem finish {c : PageCommit} {ok : Bool} (h : p.Formed) : (p.finish c ok).Formed := by
  unfold Pocket.finish
  split
  · exact h
  · extract_lets p₁ old d p₂ p₃
    have h₂ : p₂.Formed := .ite h.retireAll h.retireAll.erase
    have h₃ : p₃.Formed := h₂.programMail.programDesc
    clear_value old p₃
    refine .ite ?_ h₃
    split
    · exact h₃.state
    · exact h₃

theorem halfScrubbed {l : List Nat} {e x : Nat} (h : p.Formed) : (p.halfScrubbed l e x).Formed := by
  have hs : Pocket.Formed (match l[e / 40]? with
      | some q => (p.retireAll (l.take (e / 40))).state q (0x1F ||| x % 256)
      | none => p.retireAll (l.take (e / 40))) := by
    split
    · exact h.retireAll.state
    · exact h.retireAll
  exact ⟨hs.mail, hs.desc⟩

theorem torn {c : PageCommit} {e x : Nat} (h : p.Formed) : (p.torn c e x).Formed := by
  unfold Pocket.torn
  split
  · exact h
  · extract_lets e p' d e' p'' part u w
    have hp : p'.Formed := h.retireAll
    have hp' : p''.Formed := .ite hp hp.erase
    have hu : u.Formed := hp'.programDesc
    have hw : w.Formed := hu.programMail
    exact .ite h.halfScrubbed (.ite (.ite hp.erase hp) (.ite hp'.programDesc (.ite hu.programMail (.ite hw hw.state))))

end Pocket.Formed

/-! ### Updates of the state's record -/

theorem State.canonical_iff {s : State} : s.canonical = true ↔
    ((Tab.wf Dict.dflt s.objs = true ∧ Tab.wf Dict.dflt s.nvaObjs = true) ∧ Mem.wf s.pocket.mail = true) ∧
      Mem.wf s.pocket.desc = true := by
  simp [State.canonical]

section
variable {s₀ s : State}

/-- What touches neither the queue, the values nor the pocket die's array carries on. -/
theorem Kept.same {t : State} (h : Kept s₀ s) (hq : t.pending = s.pending := by rfl) (ho : t.objs = s.objs := by rfl)
    (hn : t.nvaObjs = s.nvaObjs := by rfl) (hm : t.pocket.mail = s.pocket.mail := by rfl)
    (hd : t.pocket.desc = s.pocket.desc := by rfl) : Kept s₀ t :=
  ⟨hq.trans h.queue, fun h0 => by simpa only [State.canonical, ho, hn, hm, hd] using h.forms h0⟩

/-- An update of the record that touches none of these. Each other field is a variable of its own, so that the rule meets any such update
wherever it stands in a chain of operations. -/
theorem Kept.set {free : Nat} {power : Power} {time : TimeBase} {timers : List (Timer × Nat)} {charges : List (Nat × Tenant)}
    {ckpt : Checkpoint} {order : List Commit} {retried : Bool} {again : List (Nat × Commit)} {nvaTags : List (Nat × Tag)}
    {rst : ResetCtl} {links : Vector Link 4} {svc : Service} {host : HostPort} {router : Router} {faults : Faults} {pins : Pins}
    {voices : Vector Voice 4} {dues : List DueStep} {scores : Vector Score 32} {tags : List (Nat × Tag)} {crypto : Crypto}
    {keys : Keys} {cal : Cal} {metros : Vector Metro 16} {air : Air} {mac : Mac} {line : Line} (h : Kept s₀ s) :
    Kept s₀ ⟨s.pending, free, power, time, timers, s.objs, s.nvaObjs, charges, ckpt, order, retried, again, nvaTags, rst, links, svc,
      host, router, faults, pins, voices, dues, scores, tags, crypto, keys, cal, metros, air, mac, line, s.pocket⟩ :=
  h.same

/-- What keeps the two tables canonical, and touches nothing else of the canonical forms, carries on. -/
theorem Kept.setTabs {o n : Tab} (h : Kept s₀ s) (ho : Tab.wf Dict.dflt s.objs = true → Tab.wf Dict.dflt o = true)
    (hn : Tab.wf Dict.dflt s.nvaObjs = true → Tab.wf Dict.dflt n = true) : Kept s₀ { s with objs := o, nvaObjs := n } := by
  refine ⟨h.queue, fun h0 => ?_⟩
  obtain ⟨⟨⟨hobjs, hnva⟩, hmail⟩, hdesc⟩ := State.canonical_iff.1 (h.forms h0)
  exact State.canonical_iff.2 ⟨⟨⟨ho hobjs, hn hnva⟩, hmail⟩, hdesc⟩

theorem Kept.setFlash {f : Pocket → Pocket} (h : Kept s₀ s) (hf : s.pocket.Formed → (f s.pocket).Formed) :
    Kept s₀ (s.setPocket f) := by
  refine ⟨h.queue, fun h0 => ?_⟩
  obtain ⟨⟨⟨hobjs, hnva⟩, hmail⟩, hdesc⟩ := State.canonical_iff.1 (h.forms h0)
  obtain ⟨hm, hd⟩ := hf ⟨hmail, hdesc⟩
  exact State.canonical_iff.2 ⟨⟨⟨hobjs, hnva⟩, hm⟩, hd⟩

/-- What leaves the mailbox array and its descriptors alone in the pocket die carries on. -/
theorem Kept.setPocket {f : Pocket → Pocket} (h : Kept s₀ s) (hm : (f s.pocket).mail = s.pocket.mail := by rfl)
    (hd : (f s.pocket).desc = s.pocket.desc := by rfl) : Kept s₀ (s.setPocket f) :=
  h.setFlash fun hp => ⟨hm ▸ hp.mail, hd ▸ hp.desc⟩

end

end Sys2Proof.Machine
end

section
/-! PROOFS. The canonical forms: objects, timers, events, faults, replies and the time base carry on (`Kept`), operation by operation in the
model's order. -/

namespace Sys2Proof.Machine

section
set_option Elab.async false -- as tasks, these many short proofs would each hold a thread and its stack
variable {s₀ s : State}

/-! ### Machine/Ops -/

theorem Kept.wr {k v : Nat} (h : Kept s₀ s) : Kept s₀ (s.wr k v) := h.setTabs (Tab.wf_set _ _ _ _) id
theorem Kept.wrAll {l : List (Nat × Nat)} (h : Kept s₀ s) : Kept s₀ (s.wrAll l) := h.foldl fun _ _ h => h.wr
theorem Kept.wrInt {k : Nat} {v : Int} (h : Kept s₀ s) : Kept s₀ (s.wrInt k v) := h.wr
theorem Kept.add {k n : Nat} (h : Kept s₀ s) : Kept s₀ (s.add k n) := .ite h.wr h.wr
theorem Kept.wrFit {k v : Nat} (h : Kept s₀ s) : Kept s₀ (s.wrFit k v) := h.wr
theorem Kept.inc {k : Nat} (h : Kept s₀ s) : Kept s₀ (s.inc k) := h.add
theorem Kept.incSat {k : Nat} (h : Kept s₀ s) : Kept s₀ (s.incSat k) := h.wr
theorem Kept.reset1 {k : Nat} (h : Kept s₀ s) : Kept s₀ (s.reset1 k) := h.wr
theorem Kept.fieldStopped (h : Kept s₀ s) : Kept s₀ s.fieldStopped := h.set
theorem Kept.dropWindow (h : Kept s₀ s) : Kept s₀ s.dropWindow := h.set
theorem Kept.tick (h : Kept s₀ s) : Kept s₀ s.tick := h.set
theorem Kept.pass (h : Kept s₀ s) : Kept s₀ s.pass := .ite h (.ite (.ite h.tick.set h.set) h.tick.set)
theorem Kept.cancel {tm : Timer} (h : Kept s₀ s) : Kept s₀ (s.cancel tm) := h.set
theorem Kept.arm {tm : Timer} {due : Nat} (h : Kept s₀ s) : Kept s₀ (s.arm tm due) := h.set
theorem Kept.armIn {tm : Timer} {us : Nat} (h : Kept s₀ s) : Kept s₀ (s.armIn tm us) := h.arm
theorem Kept.cancelAll {p : Timer → Bool} (h : Kept s₀ s) : Kept s₀ (s.cancelAll p) := h.set
theorem Kept.free1 {n : Nat} (h : Kept s₀ s) : KeptSnd s₀ (s.free1 n) := h.set.snd
theorem Kept.random {n : Nat} (h : Kept s₀ s) : KeptSnd s₀ (s.random n) := h.set.snd
theorem Kept.randomBytes {n : Nat} (h : Kept s₀ s) : KeptSnd s₀ (s.randomBytes n) := h.set.snd
theorem Kept.setVoice {v : VoiceId} {f : Voice → Voice} (h : Kept s₀ s) : Kept s₀ (s.setVoice v f) := h.set
theorem Kept.setScore {i : ScoreId} {f : Score → Score} (h : Kept s₀ s) : Kept s₀ (s.setScore i f) := h.set
theorem Kept.setMetro {m : MetroId} {f : Metro → Metro} (h : Kept s₀ s) : Kept s₀ (s.setMetro m f) := h.set
theorem Kept.setBox {t : Tenant} {f : Mailbox → Mailbox} (h : Kept s₀ s) : Kept s₀ (s.setBox t f) := h.set
theorem Kept.setQueue {t : Tenant} {f : List Job → List Job} (h : Kept s₀ s) : Kept s₀ (s.setQueue t f) := h.set
theorem Kept.setLink {d : Die} {f : Link → Link} (h : Kept s₀ s) : Kept s₀ (s.setLink d f) := h.set

theorem Kept.commit {c : Commit} (h : Kept s₀ s) : Kept s₀ (s.commit c) := by
  unfold State.commit
  split
  · exact h.set
  · exact h.set

theorem Kept.keep {l : List (Nat × Nat)} (h : Kept s₀ s) : Kept s₀ (s.keep l) := h.setTabs id (Tab.wf_setAll _ _ _)
theorem Kept.wrKeep {l : List (Nat × Nat)} (h : Kept s₀ s) : Kept s₀ (s.wrKeep l) := h.wrAll.commit

/-! ### Machine/AirBase -/

theorem Kept.setAir {n : Nat} (h : Kept s₀ s) : Kept s₀ (s.setAir n) := h.wr
theorem Kept.fePins {en on sw lna byp : Bool} (h : Kept s₀ s) : Kept s₀ (s.fePins en on sw lna byp) := h.set
theorem Kept.restPins (h : Kept s₀ s) : Kept s₀ s.restPins := .ite h.set (.ite h.fePins h.fePins)
theorem Kept.frontEndWrite {x : Nat} (h : Kept s₀ s) : Kept s₀ (s.frontEndWrite x) := .ite (.ite h.wr.fePins h.wr) (.ite h.wr h.wr.restPins)
theorem Kept.tune {k : Nat} (h : Kept s₀ s) : Kept s₀ (s.tune k) := .ite h.set h
theorem Kept.settleChannel (h : Kept s₀ s) : Kept s₀ s.settleChannel := h.set

/-! ### Machine/Carrier -/

theorem Kept.setBank1 {ch : Nat} {b : TuningBank} (h : Kept s₀ s) : Kept s₀ (s.setBank1 ch b) := h.setVoice
theorem Kept.loadBank {ch damping : Nat} (h : Kept s₀ s) : Kept s₀ (s.loadBank ch damping) := h.setBank1
theorem Kept.park {ch : Nat} (h : Kept s₀ s) : Kept s₀ (s.park ch) := h.setBank1
theorem Kept.unselect {v : VoiceId} (h : Kept s₀ s) : Kept s₀ (s.unselect v) := .ite h.wr.park h.wr
theorem Kept.select {v : VoiceId} {ch damping : Nat} (h : Kept s₀ s) : Kept s₀ (s.select v ch damping) := h.wr.loadBank

/-! ### Machine/Events -/

theorem Kept.metroRun {m : MetroId} {at_ : Nat} (h : Kept s₀ s) : Kept s₀ (s.metroRun m at_) := by
  unfold State.metroRun
  dsimp only
  exact h.wrAll.setMetro

theorem Kept.metroArm {m : MetroId} {w : Nat} {aligned : Bool} (h : Kept s₀ s) : Kept s₀ (s.metroArm m w aligned) :=
  .ite h (.ite h.wrAll.setMetro h.metroRun)

theorem Kept.metroStart {m : MetroId} {w : Nat} (h : Kept s₀ s) : Kept s₀ (s.metroStart m w) := .ite h.metroArm h
theorem Kept.metroRestart {m : MetroId} {w : Nat} (h : Kept s₀ s) : Kept s₀ (s.metroRestart m w) := .ite h h.metroRun
theorem Kept.metroStop {m : MetroId} {w : Nat} (h : Kept s₀ s) : Kept s₀ (s.metroStop m w) := .ite h h.wr.setMetro

theorem Kept.metroDefaults {m : MetroId} (h : Kept s₀ s) : Kept s₀ (s.metroDefaults m) := by
  unfold State.metroDefaults
  dsimp only
  exact (h.foldl fun _ _ h => .ite h h.reset1).setMetro

theorem Kept.links1 {t : Tenant} {e stamp : Nat} (h : Kept s₀ s) : Kept s₀ (s.links1 t e stamp) :=
  h.foldl fun _ _ h => .ite (.ite h.metroRestart h.metroStart) h

theorem Kept.reserve {t : Tenant} (h : Kept s₀ s) : Kept s₀ (s.reserve t) := .ite h.setBox.commit h

theorem Kept.enqueue {t : Tenant} {e stamp : Nat} {data : Octets} (h : Kept s₀ s) : KeptFst s₀ (s.enqueue t e stamp data) :=
  h.setBox.reserve.fst

theorem Kept.notify {t : Tenant} {e : Sub} {stamp : Nat} (h : Kept s₀ s) : Kept s₀ (s.notify t e stamp) := h.setBox.enqueue
theorem Kept.triggers {t : Tenant} {e : Nat} (h : Kept s₀ s) : Kept s₀ (s.triggers t e) := h.foldl fun _ _ h => .ite h.setScore h
theorem Kept.onEvent {t : Tenant} {e stamp : Nat} (h : Kept s₀ s) : Kept s₀ (s.onEvent t e stamp) := h.foldl fun _ _ h => h.notify

theorem Kept.deliverQueue {t : Tenant} {e stamp : Nat} {data : Octets} (h : Kept s₀ s) : Kept s₀ (s.deliverQueue t e stamp data) := by
  unfold State.deliverQueue
  dsimp only
  exact .ite h.triggers.enqueue.onEvent h.triggers.enqueue

theorem Kept.deliver {t : Tenant} {e stamp : Nat} {data : Octets} (h : Kept s₀ s) : Kept s₀ (s.deliver t e stamp data) := by
  unfold State.deliver
  exact h.links1.deliverQueue

theorem Kept.raiseAt {e : Nat} {to_ : List Tenant} {data : Octets} {stamp : Nat} (h : Kept s₀ s) : Kept s₀ (s.raiseAt e to_ data stamp) :=
  .ite (h.foldl fun _ _ h => h.deliver) h.set

theorem Kept.raise {e : Nat} {to_ : List Tenant} {data : Octets} (h : Kept s₀ s) : Kept s₀ (s.raise e to_ data) := h.raiseAt

theorem Kept.judge {t : Tenant} {e : Sub} (h : Kept s₀ s) : Kept s₀ (s.judge t e) :=
  .ite (.ite h.setBox.setBox (.ite h.setBox.notify h.setBox)) h

theorem Kept.settle (h : Kept s₀ s) : Kept s₀ s.settle := .ite (h.foldl fun _ _ h => h.foldl fun _ _ h => h.judge) h
theorem Kept.done (h : Kept s₀ s) : KeptBy s₀ (Machine.done s) := h.settle.next

theorem Kept.freed {t : Tenant} (h : Kept s₀ s) : Kept s₀ (s.freed t) := by
  unfold State.freed
  split
  · exact h
  · exact h.setBox.reserve.onEvent

theorem Kept.accept {t : Tenant} {seq route : Nat} (h : Kept s₀ s) : Kept s₀ (s.accept t seq route) := .ite h.setBox.freed h.setBox
theorem Kept.readEvent {t : Tenant} {seq : Nat} (h : Kept s₀ s) : Kept s₀ (s.readEvent t seq) := h.setBox.freed

/-! ### Machine/FaultOps -/

theorem Kept.setRun {n : Nat} (h : Kept s₀ s) : Kept s₀ (s.setRun n) := (Kept.ite h.add h).wrAll.set.raise
theorem Kept.openGate (h : Kept s₀ s) : Kept s₀ s.openGate := h.set
theorem Kept.wakeBy {source : Nat} (h : Kept s₀ s) : Kept s₀ (s.wakeBy source) := .ite (Kept.ite h.set.armIn h).wrAll.setRun.openGate h
theorem Kept.causeEnd {f : Nat} (h : Kept s₀ s) : Kept s₀ (s.causeEnd f) := h.set
theorem Kept.causeEndKey {f key : Nat} (h : Kept s₀ s) : Kept s₀ (s.causeEndKey f key) := h.set
theorem Kept.causeBegin {f : Nat} {d : Tenant} {key : Nat} (h : Kept s₀ s) : Kept s₀ (s.causeBegin f d key) := h.set
theorem Kept.setRecord {page : Nat} {f : FaultRecord → FaultRecord} (h : Kept s₀ s) : Kept s₀ (s.setRecord page f) := h.set
theorem Kept.countReset {f bits : Nat} (h : Kept s₀ s) : Kept s₀ (s.countReset f bits) := .ite h h.set

theorem Kept.formRecord {f : Nat} {d : Tenant} {detail stamp : Nat} (h : Kept s₀ s) : Kept s₀ (s.formRecord f d detail stamp) := by
  unfold State.formRecord
  dsimp only
  split
  · exact .ite (Kept.ite h.inc h).set.inc.wr.countReset.arm.commit.raise (Kept.ite h.inc h).set.inc.wr.countReset.arm.commit
  · refine .ite (Kept.ite h.setRecord.countReset h.setRecord.countReset.commit).raise ?_
    exact .ite h.setRecord.countReset h.setRecord.countReset.commit

theorem Kept.faultKeyed {f : Nat} {d : Tenant} {detail key : Nat} (h : Kept s₀ s) : Kept s₀ (s.faultKeyed f d detail key) := by
  unfold State.faultKeyed
  dsimp only
  refine .ite (.ite h.inc.wr h.inc.wr.causeBegin) ?_
  exact .ite (Kept.ite h.inc.wr h.inc.wr.causeBegin).wr.set.wakeBy.formRecord (Kept.ite h.inc.wr h.inc.wr.causeBegin).wr.set.wakeBy.set

theorem Kept.fault {f detail : Nat} (h : Kept s₀ s) : Kept s₀ (s.fault f detail) := h.faultKeyed

theorem Kept.formLatched (h : Kept s₀ s) : Kept s₀ s.formLatched := by
  unfold State.formLatched
  dsimp only
  refine h.set.foldl fun _ _ h => ?_
  split
  · exact h.formRecord
  · exact h

theorem Kept.clearRecord {page : Nat} {r : FaultRecord} (h : Kept s₀ s) : Kept s₀ (s.clearRecord page r) :=
  .ite h.setRecord.commit.raise h.setRecord.commit

theorem Kept.leaveOpen {d : Tenant} (h : Kept s₀ s) : Kept s₀ (s.leaveOpen d) := by
  unfold State.leaveOpen
  split
  · exact h
  · exact .ite (.ite h.setRecord.commit h.clearRecord) h

theorem Kept.clearRecords (h : Kept s₀ s) : Kept s₀ s.clearRecords := h.foldl fun _ _ h => .ite h.clearRecord h
theorem Kept.resetReleased {bits : Nat} (h : Kept s₀ s) : Kept s₀ (s.resetReleased bits) := h.set.foldl fun _ _ h => h.leaveOpen
theorem Kept.clearSources {t : Tenant} {n : Nat} (h : Kept s₀ s) : Kept s₀ (s.clearSources t n) := h.set.clearRecords

/-! ### Machine/ServiceOps -/

theorem Kept.setJob {t : Tenant} {id : Nat} {f : Job → Job} (h : Kept s₀ s) : Kept s₀ (s.setJob t id f) := h.setQueue
theorem Kept.leaveQueue {r : Reply} (h : Kept s₀ s) : Kept s₀ (s.leaveQueue r) := h.setQueue.set
theorem Kept.replyOut {id : Nat} (h : Kept s₀ s) : Kept s₀ (s.replyOut id) := h.set
theorem Kept.handOver {r : Reply} (h : Kept s₀ s) : Kept s₀ (s.handOver r) := h.leaveQueue.replyOut
theorem Kept.serviceLow {t : Tenant} {n v : Nat} (h : Kept s₀ s) : Kept s₀ (s.serviceLow t n v) := h.raise
theorem Kept.floorLow {t : Tenant} {old new : Nat} (h : Kept s₀ s) : Kept s₀ (s.floorLow t old new) := .ite h.serviceLow h
theorem Kept.charge {t : Tenant} {k v : Nat} (h : Kept s₀ s) : Kept s₀ (s.charge t k v) := .ite h h.set

/-! ### Machine/Time -/

theorem Kept.setRate (h : Kept s₀ s) : Kept s₀ s.setRate := h.wrInt
theorem Kept.setTemp {t : Int} (h : Kept s₀ s) : Kept s₀ (s.setTemp t) := h.set.setRate
theorem Kept.markMeasured {n : Fin 3} (h : Kept s₀ s) : Kept s₀ (s.markMeasured n) := h.set.armIn
theorem Kept.chooseSource (h : Kept s₀ s) : Kept s₀ s.chooseSource := h.wr

theorem Kept.discipline {n : Fin 3} {creq : Int} (h : Kept s₀ s) : Kept s₀ (s.discipline n creq) :=
  .ite h.markMeasured.chooseSource (.ite h.markMeasured.chooseSource.incSat.raise h.markMeasured.chooseSource.wrInt.setRate)

theorem Kept.setOffset {src : Nat} {network : Int} (h : Kept s₀ s) : Kept s₀ (s.setOffset src network) := .ite h.wrInt.wr.armIn h

theorem Kept.execFieldWindowComplete {cycles : Nat} (h : Kept s₀ s) : KeptBy s₀ (Machine.execFieldWindowComplete cycles s) :=
  .ite h.done h.set.discipline.done

theorem Kept.execSourceEligibilityLapse {source : Fin 3} (h : Kept s₀ s) : KeptBy s₀ (Machine.execSourceEligibilityLapse source s) :=
  .ite h.cancel.chooseSource.done h.done

theorem Kept.execNetworkOffsetLapse (h : Kept s₀ s) : KeptBy s₀ (Machine.execNetworkOffsetLapse s) := .ite h.cancel.wr.done h.done

theorem Kept.execCheckpointDue (h : Kept s₀ s) : KeptBy s₀ (Machine.execCheckpointDue s) := by
  unfold Machine.execCheckpointDue
  split
  · exact h.done
  · exact .ite h.done h.commit.arm.done

theorem Kept.resumeTime (h : Kept s₀ s) : Kept s₀ s.resumeTime := h.same.incSat.wr.raiseAt.commit.arm
theorem Kept.govern {tempo : Nat} (h : Kept s₀ s) : Kept s₀ (s.govern tempo) := .ite h.wr (.ite h.wr h)
theorem Kept.tempoFloor {tempo : Nat} (h : Kept s₀ s) : Kept s₀ (s.tempoFloor tempo) := .ite h.inc.fault h.causeEnd
theorem Kept.nextGate (h : Kept s₀ s) : Kept s₀ s.nextGate := h.set

theorem Kept.execTempoMeasurement {laps : Nat} (h : Kept s₀ s) : KeptBy s₀ (Machine.execTempoMeasurement laps s) :=
  .ite h.wrFit.wrFit.wrAll.govern.tempoFloor.nextGate.done h.done

theorem Kept.timeWrite {sub : Nat} (h : Kept s₀ s) : Kept s₀ (s.timeWrite sub) :=
  .ite h.setRate (.ite h.dropWindow.chooseSource (.ite h.dropWindow h))

end

end Sys2Proof.Machine
end

section
/-! PROOFS. The canonical forms: voices, the exchanges with tags, and scores carry on (`Kept`), operation by operation in the model's order.
-/

namespace Sys2Proof.Machine

section
set_option Elab.async false -- as tasks, these many short proofs would each hold a thread and its stack
variable {s₀ s : State}

/-! ### Machine/VoiceOps -/

theorem Kept.setVoiceState {v : VoiceId} {st : Nat} (h : Kept s₀ s) : Kept s₀ (s.setVoiceState v st) := h.wr
theorem Kept.copyLimits (h : Kept s₀ s) : Kept s₀ s.copyLimits := h.wrAll
theorem Kept.loadLimits (h : Kept s₀ s) : Kept s₀ s.loadLimits := .ite h.wr.raise h
theorem Kept.pauseDetection (h : Kept s₀ s) : Kept s₀ s.pauseDetection := h.foldl fun _ _ h => .ite h.wr h

theorem Kept.voiceEvent {v : VoiceId} {k : Nat} {to_ : List Tenant} {ch p : Nat} (h : Kept s₀ s) : Kept s₀ (s.voiceEvent v k to_ ch p) :=
  h.raise

theorem Kept.channelEvent {ch k : Nat} {to_ : List Tenant} {data : Octets} (h : Kept s₀ s) : Kept s₀ (s.channelEvent ch k to_ data) :=
  h.raise

theorem Kept.setpoint {mv : Nat} (h : Kept s₀ s) : Kept s₀ (s.setpoint mv) := by
  unfold State.setpoint
  dsimp only
  exact h.free1.wrAll

theorem Kept.boostStart (h : Kept s₀ s) : Kept s₀ s.boostStart := .ite h h.setpoint.wr.inc.set.cancel.armIn

theorem Kept.boostFollow (h : Kept s₀ s) : Kept s₀ s.boostFollow := by
  unfold State.boostFollow
  dsimp only
  refine .ite h ?_
  split
  · exact h.boostStart
  · exact .ite h.setpoint h
  · exact .ite h.setpoint.wr.armIn (.ite h.setpoint.wr h)
  · exact .ite h.setpoint.armIn (.ite h.setpoint.cancel h)
  · exact h

theorem Kept.boostCut (h : Kept s₀ s) : Kept s₀ s.boostCut := .ite h.cancel.cancel.cancel.cancel.set h.cancel.cancel.cancel.cancel.set.wr
theorem Kept.boostIdle (h : Kept s₀ s) : Kept s₀ s.boostIdle := .ite (.ite h h.boostCut) (.ite (.ite h h.armIn) h.cancel)

theorem Kept.rampUp {v : VoiceId} {g : Grant} (h : Kept s₀ s) : Kept s₀ (s.rampUp v g) :=
  .ite h.setVoiceState.setVoice.armIn.inc.voiceEvent h.setVoiceState.setVoice.armIn

theorem Kept.raiseCarrier {v : VoiceId} (h : Kept s₀ s) : Kept s₀ (s.raiseCarrier v) := by
  unfold State.raiseCarrier
  split
  · exact h
  · exact .ite h (.ite (.ite h.rampUp h.setVoiceState) h)

theorem Kept.rampDown {v : VoiceId} {ramp : Nat} (h : Kept s₀ s) : Kept s₀ (s.rampDown v ramp) := h.cancelAll.setVoiceState.setVoice.armIn

theorem Kept.countCarrier {v : VoiceId} (h : Kept s₀ s) : Kept s₀ (s.countCarrier v) := by
  unfold State.countCarrier
  dsimp only
  split
  · exact h.add.add.wr.setVoice
  · exact h

theorem Kept.channelFresh {ch : Nat} (h : Kept s₀ s) : Kept s₀ (s.channelFresh ch) :=
  .ite (h.foldl fun _ _ h => h.reset1).wr.commit (h.foldl fun _ _ h => h.reset1).wr

theorem Kept.allotNow {ch : Nat} (h : Kept s₀ s) : Kept s₀ (s.allotNow ch) :=
  .ite h (.ite h.set.wr.channelFresh h.set.wr.channelFresh.commit)

theorem Kept.allot {ch : Nat} (h : Kept s₀ s) : Kept s₀ (s.allot ch) := .ite h h.allotNow
theorem Kept.letGo {l : List Nat} (h : Kept s₀ s) : Kept s₀ (s.letGo l) := h.foldl fun _ _ h => h.allot

theorem Kept.takeUp {v : VoiceId} {g : Grant} (h : Kept s₀ s) : Kept s₀ (s.takeUp v g) := by
  unfold State.takeUp
  dsimp only
  refine .ite ?_ ?_
  · exact (Kept.ite h.setVoice.wrAll.unselect h.setVoice.wrAll.loadBank).letGo.cancel.boostFollow.pauseDetection.armIn
  · exact (Kept.ite h.setVoice.wrAll.unselect h.setVoice.wrAll.loadBank).letGo.cancel.boostFollow.pauseDetection.raiseCarrier

theorem Kept.takeQuiet {v : VoiceId} {g : Grant} (h : Kept s₀ s) : Kept s₀ (s.takeQuiet v g) := h.unselect.setVoice.wrAll.letGo.boostFollow

theorem Kept.reachFloor {v : VoiceId} (h : Kept s₀ s) : Kept s₀ (s.reachFloor v) :=
  h.unselect.setVoice.wrAll.fieldStopped.letGo.boostFollow.boostIdle

theorem Kept.markWaiting {v : VoiceId} {d : DueStep} {why : Nat} (h : Kept s₀ s) : Kept s₀ (s.markWaiting v d why) :=
  .ite h.set (.ite h.set.voiceEvent h.set.voiceEvent.channelEvent)

theorem Kept.choose {v : VoiceId} {l : List DueStep} (h : Kept s₀ s) : KeptSnd s₀ (s.choose v l) := by
  induction l generalizing s with
  | nil => exact h
  | cons d l ih =>
    unfold State.choose
    refine .ite (ih (.ite h.markWaiting h)) ?_
    split
    · exact h
    · exact ih h.markWaiting

theorem Kept.takeDue {v : VoiceId} {d : DueStep} (h : Kept s₀ s) : Kept s₀ (s.takeDue v d) := by
  unfold State.takeDue
  dsimp only
  exact h.set.cancel.wr.setVoice

/-! ### Machine/TagOps -/

theorem Kept.setTag {h₁ : Nat} {e : Tag} (h : Kept s₀ s) : Kept s₀ (s.setTag h₁ e) := h.set

theorem Kept.single {d : DueStep} {proto : Nat} {uid : Octets} {typ stamp : Nat} (h : Kept s₀ s) :
    KeptFst s₀ (s.single d proto uid typ stamp) := by
  have hslot : KeptOptSnd s₀ (if decide (s.tagCeiling d.tenant ≤ (s.tags.filter (fun p => p.2.owner == d.tenant)).length) = true then
      match s.oldestLost d.tenant with
      | Option.some h => Option.some (h, { s with tags := s.tags.filter (fun p => p.1 != h) })
      | none => none
      else s.freeHandle.map (fun h => (h, s))) := by
    intro a t e
    split at e
    · split at e
      · cases e; exact h.set
      · cases e
    · obtain ⟨b, -, hb⟩ := Option.map_eq_some_iff.1 e
      cases hb; exact h
  unfold State.single
  dsimp only
  split
  · exact .ite h.setTag.commit.channelEvent h.setTag
  · split
    · exact h.channelEvent
    · next e => exact (hslot e).setTag.commit.channelEvent

theorem Kept.countMisses {d : DueStep} {proto : Nat} {seen : List Nat} (h : Kept s₀ s) : Kept s₀ (s.countMisses d proto seen) :=
  h.foldl fun _ _ h => .ite (.ite h.setTag.commit.channelEvent h.setTag) h

/-! ### Machine/Sequencers -/

theorem Kept.send {x : Exchange} {p : Prog} {f : Frame} (h : Kept s₀ s) : KeptFst s₀ (Machine.send s x p f) := h.fst

theorem Kept.stop {x : Exchange} {outcome status detail : Nat} {data : Octets} (h : Kept s₀ s) :
    KeptFst s₀ (Machine.stop s x outcome status detail data) :=
  h.fst

theorem Kept.stopFrame {x : Exchange} {data : Octets} (h : Kept s₀ s) : KeptFst s₀ (Machine.stopFrame s x data) := h.stop

theorem Kept.setSession {v : VoiceId} {d : DueStep} {f : TagSession → TagSession} (h : Kept s₀ s) : Kept s₀ (s.setSession v d f) := by
  unfold State.setSession
  dsimp only
  exact h.setVoice

theorem Kept.inv15Next {d : DueStep} {x : Exchange} {p : Inv15} (h : Kept s₀ s) : KeptFst s₀ (Machine.inv15Next s d x p) := by
  unfold Machine.inv15Next
  dsimp only
  split
  · exact h.stop
  · exact .ite h.stop h.send

theorem Kept.inv15Quiet {d : DueStep} {x : Exchange} {p : Inv15} (h : Kept s₀ s) : KeptFst s₀ (Machine.inv15Quiet s d x p) := by
  unfold Machine.inv15Quiet
  split
  · exact h.inv15Next
  · exact h.send

theorem Kept.inv15Slot {d : DueStep} {x : Exchange} {p : Inv15} {b : Octets} (h : Kept s₀ s) :
    KeptFst s₀ (Machine.inv15Slot s d x p b) := by
  unfold Machine.inv15Slot
  dsimp only
  refine .ite (.send ?_) (.inv15Quiet ?_) <;>
    exact KeptFst.ite h.single.fst (KeptFst.ite h.fst (.ite h.fst (.ite h.fst h.fst)))

theorem Kept.invARound {d : DueStep} {x : Exchange} {p : InvA} (h : Kept s₀ s) : KeptFst s₀ (Machine.invARound s d x p) := h.send

theorem Kept.invAEnd {d : DueStep} {x : Exchange} {p : InvA} {bad : Bool} (h : Kept s₀ s) : KeptFst s₀ (Machine.invAEnd s d x p bad) :=
  .ite (.ite h.stop h.stop) h.invARound

theorem Kept.invAReply {d : DueStep} {x : Exchange} {prog : Prog} {b : Octets} {bits : Nat} (h : Kept s₀ s) :
    KeptFst s₀ (Machine.invAReply s d x prog b bits) := by
  unfold Machine.invAReply
  dsimp only
  split
  · exact .ite h.stop (.ite h.send h.invAEnd)
  · exact .ite (.ite h.send h.invAEnd) (.ite (.ite h.invAEnd h.send) h.invAEnd)
  · exact .ite h.invAEnd (.ite (.ite h.send h.invAEnd) (.ite h.single.send h.single.invAEnd))
  · exact h.invAEnd
  · exact h.stopFrame

theorem Kept.invBRound {d : DueStep} {x : Exchange} {p : InvB} (h : Kept s₀ s) : KeptFst s₀ (Machine.invBRound s d x p) := h.send

theorem Kept.invBNext {d : DueStep} {x : Exchange} {p : InvB} (h : Kept s₀ s) : KeptFst s₀ (Machine.invBNext s d x p) :=
  .ite h.send (.ite h.stop (.ite (.ite h.stop h.stop) h.invBRound))

theorem Kept.invBReply {d : DueStep} {x : Exchange} {prog : Prog} {b : Octets} (h : Kept s₀ s) :
    KeptFst s₀ (Machine.invBReply s d x prog b) := by
  unfold Machine.invBReply
  dsimp only
  split
  · exact .ite h.invBNext (.ite h.single.send h.invBNext)
  · exact h.invBNext
  · exact h.stopFrame

theorem Kept.deselect {v : VoiceId} {d : DueStep} {x : Exchange} {e : End} (h : Kept s₀ s) : KeptFst s₀ (Machine.deselect s v d x e) :=
  h.cancel.send

theorem Kept.closeSession {v : VoiceId} {d : DueStep} (h : Kept s₀ s) : Kept s₀ (s.closeSession v d) := h.setSession

theorem Kept.blockFail {v : VoiceId} {d : DueStep} {x : Exchange} {p : BlockEx} {wrap : BlockEx → Prog} (h : Kept s₀ s) :
    KeptFst s₀ (Machine.blockFail s v d x p wrap) :=
  .ite h.inc.send (.ite h.deselect h.deselect)

theorem Kept.blockWrong {x : Exchange} {detail : Nat} (h : Kept s₀ s) : KeptFst s₀ (Machine.blockWrong s x detail) := h.stop

theorem Kept.blockReply {v : VoiceId} {d : DueStep} {x : Exchange} {p : BlockEx} {wrap : BlockEx → Prog} {b : Octets} (h : Kept s₀ s) :
    KeptBlock s₀ (Machine.blockReply s v d x p wrap b) := by
  unfold Machine.blockReply
  dsimp only
  refine .ite h.blockFail (.ite h.stopFrame (.ite (.ite h.inc.blockWrong h.inc.send) (.ite (.ite h.blockWrong ?_) ?_)))
  · exact .ite h.setSession.deselect (.ite h.setSession.send h.setSession)
  · exact .ite (.ite h.setSession.send h.blockWrong) h.blockWrong

theorem Kept.blockStart {v : VoiceId} {d : DueStep} {x : Exchange} {cmd : Octets} {wrap : BlockEx → Prog} (h : Kept s₀ s) :
    KeptFst s₀ (Machine.blockStart s v d x cmd wrap) :=
  h.send

theorem Kept.sendRats {d : DueStep} {x : Exchange} (h : Kept s₀ s) : KeptFst s₀ (Machine.sendRats s d x) := h.send

theorem Kept.afterAts {v : VoiceId} {d : DueStep} {x : Exchange} {b : Octets} (h : Kept s₀ s) : KeptFst s₀ (Machine.afterAts s v d x b) :=
  .ite h.setSession.stop h.setSession.send

theorem Kept.actReply {v : VoiceId} {d : DueStep} {x : Exchange} {prog : Prog} {b : Octets} (h : Kept s₀ s) :
    KeptFst s₀ (Machine.actReply s v d x prog b) := by
  unfold Machine.actReply
  dsimp only
  split
  · exact .ite h.afterAts h.stopFrame
  · exact (Kept.ite h.setSession h).stop
  · split
    · exact h.stop
    · exact .ite h.stopFrame (.ite h.stop h.setSession.send)
  · exact .ite h.setSession.stop h.stopFrame
  · exact h.stopFrame

theorem Kept.ndef2Step {d : DueStep} {x : Exchange} {pos : Nat} {cc got : Octets} (h : Kept s₀ s) :
    KeptFst s₀ (Machine.ndef2Step s d x pos cc got) := by
  unfold Machine.ndef2Step
  dsimp only
  split
  · exact h.stop
  · exact h.stop
  · exact h.stop
  · exact .ite h.stop h.send

theorem Kept.ndef2Reply {d : DueStep} {x : Exchange} {pos : Nat} {cc got b : Octets} (h : Kept s₀ s) :
    KeptFst s₀ (Machine.ndef2Reply s d x pos cc got b) :=
  .ite h.stopFrame (.ite (.ite h.stop h.ndef2Step) h.ndef2Step)

theorem Kept.ndef5Step {d : DueStep} {x : Exchange} {uid : Octets} {pos size : Nat} {cc got : Octets} (h : Kept s₀ s) :
    KeptFst s₀ (Machine.ndef5Step s d x uid pos size cc got) := by
  unfold Machine.ndef5Step
  dsimp only
  refine .ite h.send ?_
  split
  · exact h.stop
  · exact h.stop
  · exact h.stop
  · exact h.send

theorem Kept.ndef5Reply {d : DueStep} {x : Exchange} {pos size : Nat} {cc got b : Octets} (h : Kept s₀ s) :
    KeptFst s₀ (Machine.ndef5Reply s d x pos size cc got b) := by
  unfold Machine.ndef5Reply
  dsimp only
  split
  · exact h.stop
  · exact .ite h.stopFrame (.ite (.ite h.stop h.ndef5Step) h.ndef5Step)

theorem Kept.ndef4Done {v : VoiceId} {d : DueStep} {x : Exchange} {stage off left : Nat} {cc got resp : Octets} (h : Kept s₀ s) :
    KeptFst s₀ (Machine.ndef4Done s v d x stage off left cc got resp) := by
  unfold Machine.ndef4Done
  dsimp only
  refine .ite h.stop ?_
  split
  · exact h.blockStart
  · exact h.blockStart
  · exact .ite h.stop (.ite h.stop h.blockStart)
  · exact h.blockStart
  · exact .ite h.stop (.ite h.stop h.blockStart)
  · exact .ite h.stop (.ite h.stop h.blockStart)

theorem Kept.writeStop {x : Exchange} {a : WriteArgs} {p : WriteJob} {outcome status detail : Nat} {more : Octets} (h : Kept s₀ s) :
    KeptFst s₀ (Machine.writeStop s x a p outcome status detail more) :=
  h.stop

theorem Kept.writeGo {d : DueStep} {x : Exchange} {a : WriteArgs} {e : Tag} {p : WriteJob} (h : Kept s₀ s) :
    KeptFst s₀ (Machine.writeGo s d x a e p) := by
  unfold Machine.writeGo
  dsimp only
  refine .ite h.send ?_
  split
  · exact h.writeStop
  · exact h.send

theorem Kept.flagGo {d : DueStep} {x : Exchange} {a : WriteArgs} {e : Tag} {p : WriteJob} (h : Kept s₀ s) :
    KeptFst s₀ (Machine.flagGo s d x a e p) :=
  h.send

theorem Kept.writeRead {d : DueStep} {x : Exchange} {a : WriteArgs} {e : Tag} {p : WriteJob} (h : Kept s₀ s) :
    KeptFst s₀ (Machine.writeRead s d x a e p) := by
  unfold Machine.writeRead
  dsimp only
  refine .ite (.ite h.writeGo h.writeStop) ?_
  refine .ite ?_ (.ite h.writeStop h.writeGo)
  split
  · exact h.writeStop
  · exact h.writeStop

theorem Kept.writeVerify {d : DueStep} {x : Exchange} {a : WriteArgs} {e : Tag} {p : WriteJob} (h : Kept s₀ s) :
    KeptFst s₀ (Machine.writeVerify s d x a e p) := by
  unfold Machine.writeVerify
  dsimp only
  split
  · exact .ite h.send h.writeStop
  · exact .ite h.writeStop (.ite h.flagGo h.writeStop)

theorem Kept.writeReply {d : DueStep} {x : Exchange} {p : WriteJob} {b : Octets} (h : Kept s₀ s) :
    KeptFst s₀ (Machine.writeReply s d x p b) := by
  unfold Machine.writeReply
  dsimp only
  split
  · exact h.writeStop
  · split
    · refine .ite h.writeStop ?_
      split
      · exact h.writeRead
      · split
        · exact h.writeRead
        · exact h.send
    · exact .ite h.writeGo (.ite h.writeStop (.ite h.writeGo h.writeStop))
    · exact .ite h.writeGo (.ite h.writeStop (.ite h.writeGo h.writeStop))
    · refine .ite h.writeStop ?_
      split
      · exact h.writeVerify
      · split
        · exact h.writeVerify
        · exact h.send
    · exact .ite h.send (.ite h.writeStop (.ite h.flagGo (.ite h.writeStop h.writeStop)))
    · exact .ite h.writeStop (.ite h.flagGo h.writeStop)

theorem Kept.writeStart {d : DueStep} {x : Exchange} (h : Kept s₀ s) : KeptFst s₀ (Machine.writeStart s d x) := by
  unfold Machine.writeStart
  dsimp only
  split
  · exact h.writeStop
  · split
    · exact h.stopFrame
    · exact h.send

theorem Kept.wakeStart {v : VoiceId} {d : DueStep} {x : Exchange} {thenDo : Nat} (h : Kept s₀ s) :
    KeptFst s₀ (Machine.wakeStart s v d x thenDo) :=
  h.setSession.send

theorem Kept.selected {d : DueStep} {x : Exchange} {thenDo : Nat} (h : Kept s₀ s) : KeptFst s₀ (Machine.selected s d x thenDo) := by
  unfold Machine.selected
  split
  · exact h.sendRats
  · exact h.writeStart
  · exact h.send

theorem Kept.wakeReply {v : VoiceId} {d : DueStep} {x : Exchange} {level thenDo : Nat} {b : Octets} (h : Kept s₀ s) :
    KeptFst s₀ (Machine.wakeReply s v d x level thenDo b) := by
  unfold Machine.wakeReply
  dsimp only
  split
  · exact h.stop
  · exact .ite (.ite h.send h.stopFrame) (.ite h.stopFrame (.ite h.send (.ite h.stop h.setSession.selected)))

theorem Kept.cryptoNext (h : Kept s₀ s) : Kept s₀ s.cryptoNext := by
  unfold State.cryptoNext
  dsimp only
  split
  · exact h
  · split
    · exact h
    · split
      · exact h
      · exact h.set

theorem Kept.cryptoJob {t : Tenant} {j : CryptoJob} (h : Kept s₀ s) : Kept s₀ (s.cryptoJob t j) := h.set.cryptoNext

theorem Kept.authDenied {v : VoiceId} {d : DueStep} {x : Exchange} (h : Kept s₀ s) : KeptFst s₀ (Machine.authDenied s v d x) :=
  h.setSession.stop

theorem Kept.authSend {d : DueStep} {x : Exchange} {method stage : Nat} {sent : List Octets} {tag params : Octets} (h : Kept s₀ s) :
    KeptFst s₀ (Machine.authSend s d x method stage sent tag params) := by
  unfold Machine.authSend
  dsimp only
  exact .ite h.randomBytes.send h.randomBytes.send

theorem Kept.authStart {v : VoiceId} {d : DueStep} {x : Exchange} (h : Kept s₀ s) : KeptFst s₀ (Machine.authStart s v d x) := by
  unfold Machine.authStart
  dsimp only
  refine .ite h.authDenied ?_
  refine .ite h.stop ?_
  refine .ite ?_ h.authSend
  split
  · exact h.send
  · exact h.stop

theorem Kept.authCount {t : Tenant} {slot : Nat} {ok : Bool} (h : Kept s₀ s) : Kept s₀ (s.authCount t slot ok) :=
  .ite h.wr.inc (.ite h.inc.inc.wr.armIn.inc.raise h.inc.inc)

theorem Kept.authReply {v : VoiceId} {d : DueStep} {x : Exchange} {stage : Nat} {challenge : List Octets} {b : Octets} (h : Kept s₀ s) :
    KeptFst s₀ (Machine.authReply s v d x stage challenge b) :=
  .ite h.authDenied (.ite h.setSession.inc.stop (.ite h.authCount.stop (.ite h.stopFrame h.cryptoJob.fst)))

theorem Kept.authVerdict {v : VoiceId} {d : DueStep} {x : Exchange} {stage : Nat} {challenge : List Octets} {reply : Octets} (h : Kept s₀ s) :
    KeptFst s₀ (Machine.authVerdict s v d x stage challenge reply) := by
  unfold Machine.authVerdict
  dsimp only
  refine .ite h.authDenied ?_
  split
  · exact h.authCount.stop
  · exact .ite h.authSend h.authCount.setSession.stop

theorem Kept.beginStep {v : VoiceId} {d : DueStep} {x : Exchange} (h : Kept s₀ s) : KeptFst s₀ (Machine.beginStep s v d x) := by
  unfold Machine.beginStep
  dsimp only
  split
  · exact h.send
  · exact h.setSession.invARound
  · exact h.invBRound
  · refine .ite h.send ?_
    split
    · exact h.send
    · exact h.stop
  · refine .ite h.stop ?_
    refine .send ?_
    split
    · exact h.setSession
    · exact h.setSession
    · exact h.setSession
    · exact h.setSession
    · exact h
  · split
    · exact h.stop
    · exact .ite h.send (.ite h.sendRats h.wakeStart)
  · exact h.blockStart
  · split
    · exact h.stop
    · exact .ite h.send (.ite h.blockStart (.ite h.selected h.wakeStart))
  · split
    · exact h.stop
    · exact .ite h.wakeStart h.writeStart
  · exact h.authStart

theorem Kept.react {v : VoiceId} {d : DueStep} {x : Exchange} {b : Octets} {bits : Nat} (h : Kept s₀ s) :
    KeptFst s₀ (Machine.react s v d x b bits) := by
  unfold Machine.react
  dsimp only
  split
  · exact h.stopFrame
  · exact h.inv15Slot
  · exact h.inv15Quiet
  · exact h.invAReply
  · exact h.invAReply
  · exact h.invAReply
  · exact h.invAReply
  · exact h.invBReply
  · exact h.invBReply
  · exact .ite h.stop h.stopFrame
  · exact h.wakeReply
  · exact h.actReply
  · exact h.actReply
  · exact h.actReply
  · exact h.actReply
  · split
    · exact h.blockReply.turn ‹_›
    · exact (h.blockReply.done ‹_›).stop
  · exact h.ndef2Reply
  · exact h.ndef5Reply
  · split
    · exact h.blockReply.turn ‹_›
    · exact (h.blockReply.done ‹_›).ndef4Done
  · exact h.writeReply
  · exact h.authReply
  · exact h
  · exact h.closeSession.stop

/-! ### Machine/ScoreOps -/

theorem Kept.deliverResult {d : DueStep} {e : End} {stamp count rounds : Nat} {quality : Octets} {full : Bool} (h : Kept s₀ s) :
    Kept s₀ (s.deliverResult d e stamp count rounds quality full) :=
  (Kept.ite h.wr h).channelEvent

theorem Kept.countWrite {d : DueStep} {e : End} (h : Kept s₀ s) : Kept s₀ (s.countWrite d e) := by
  unfold State.countWrite
  refine .ite h ?_
  split
  · exact .ite h.inc h
  · exact h.inc
  · exact h.inc
  · exact h.inc
  · exact h.inc
  · exact h

theorem Kept.scoreRest {i : ScoreId} (h : Kept s₀ s) : Kept s₀ (s.scoreRest i) := h.wrAll.setScore
theorem Kept.runEnd {i : ScoreId} (h : Kept s₀ s) : Kept s₀ (s.runEnd i) := (Kept.ite h.inc h).wr.scoreRest

theorem Kept.runHalt {i : ScoreId} {k : Nat} {r : Octets} {t : Tenant} (h : Kept s₀ s) : Kept s₀ (s.runHalt i k r t) :=
  h.wrAll.setScore.channelEvent

theorem Kept.groupStep {i : ScoreId} {t : Tenant} {n k : Nat} (h : Kept s₀ s) : Kept s₀ (s.groupStep i t n k) := by
  induction n generalizing s k with
  | zero => exact h
  | succ n ih =>
    unfold State.groupStep
    dsimp only
    refine .ite h.setScore (.ite h.runHalt (.ite h.setScore (.ite (.ite (ih h.setScore.armIn) h.setScore.armIn.setScore) ?_)))
    split
    · exact .ite (ih h.deliverResult.countWrite.setScore) h.deliverResult.countWrite.setScore.setScore
    · exact .ite (ih (.ite h.set.setScore h.set.setScore.armIn)) (Kept.ite h.set.setScore h.set.setScore.armIn).setScore

theorem Kept.advance {i : ScoreId} {n : Nat} (h : Kept s₀ s) : Kept s₀ (s.advance i n) := by
  induction n generalizing s with
  | zero => exact h
  | succ n ih =>
    unfold State.advance
    dsimp only
    refine .ite h (.ite h (.ite h.runEnd ?_))
    split
    · exact h.runEnd
    · split
      · exact .ite h.runHalt (ih h.setScore.wr.groupStep)
      · exact ih h.wr.groupStep

theorem Kept.runStart {i : ScoreId} (h : Kept s₀ s) : Kept s₀ (s.runStart i) := h.wr.setScore.advance
theorem Kept.stepEnded {d : DueStep} {ok : Bool} (h : Kept s₀ s) : Kept s₀ (s.stepEnded d ok) := .ite h (.ite h.setScore.advance h)
theorem Kept.endDue {d : DueStep} {e : End} (h : Kept s₀ s) : Kept s₀ (s.endDue d e) := h.set.cancel.deliverResult.countWrite.stepEnded

theorem Kept.stepResult {g : Grant} {x : Exchange} {e : End} (h : Kept s₀ s) : Kept s₀ (s.stepResult g x e) := by
  unfold State.stepResult
  dsimp only
  split
  · exact h.deliverResult.countWrite
  · exact .ite (Kept.ite h.deliverResult.countWrite.countMisses h.deliverResult.countWrite).channelEvent h.deliverResult.countWrite

theorem Kept.begin {v : VoiceId} {g : Grant} (h : Kept s₀ s) : KeptFst s₀ (s.begin v g) := (Kept.setVoice h.beginStep).fst

theorem Kept.continueAt {v : VoiceId} {g : Grant} (h : Kept s₀ s) : KeptFst s₀ (s.continueAt v g) := by
  unfold State.continueAt
  dsimp only
  refine .ite ?_ ?_
  · exact (Kept.ite h.setVoice.loadBank.wrAll.boostFollow.inc.voiceEvent h.setVoice.loadBank.wrAll.boostFollow).begin
  · refine .fst (.armIn (.setVoice (.setVoiceState ?_)))
    exact .ite h.setVoice.loadBank.wrAll.boostFollow.inc.voiceEvent h.setVoice.loadBank.wrAll.boostFollow

theorem Kept.afterStep {v : VoiceId} {ramp n : Nat} (h : Kept s₀ s) : Kept s₀ (s.afterStep v ramp n) := by
  induction n generalizing s ramp with
  | zero => exact h.rampDown
  | succ n ih =>
    unfold State.afterStep
    dsimp only
    refine .ite (.ite h.rampDown ?_) (.ite h.rampDown h.reachFloor)
    split
    · exact (h.choose.of_eq ‹_›).rampDown
    · have hu := h.choose.of_eq ‹_›
      refine .ite ?_ hu.rampDown
      split
      · exact hu.takeDue.continueAt
      · exact ih (Kept.stepResult hu.takeDue.continueAt).setVoice.wr.stepEnded

theorem Kept.endStep {v : VoiceId} {e : End} (h : Kept s₀ s) : Kept s₀ (s.endStep v e) := by
  unfold State.endStep
  dsimp only
  split
  · exact h
  · exact h.stepResult.setVoice.cancelAll.wr.stepEnded.afterStep

theorem Kept.cutStep {v : VoiceId} {outcome : Nat} (h : Kept s₀ s) : Kept s₀ (s.cutStep v outcome) :=
  (Kept.ite h (h.foldl fun _ _ h => .ite h h.deliverResult.countWrite)).setVoice.cancelAll.wr.foldl fun _ _ h => h.stepEnded

theorem Kept.cutDeferred {v : VoiceId} {outcome : Nat} (h : Kept s₀ s) : Kept s₀ (s.cutDeferred v outcome) := by
  unfold State.cutDeferred
  dsimp only
  split
  · exact h
  · exact .ite h.setVoice.wr h.setVoice.wr.deliverResult.countWrite.stepEnded

theorem Kept.cutDues {p : DueStep → Bool} {outcome : Nat} (h : Kept s₀ s) : Kept s₀ (s.cutDues p outcome) := h.foldl fun _ _ h => h.endDue

theorem Kept.reverse {v : VoiceId} {g : Grant} {k : Nat} (h : Kept s₀ s) : Kept s₀ (s.reverse v g k) := by
  unfold State.reverse
  dsimp only
  refine .arm ?_
  refine .ite h.cancel.setVoice.loadBank.wrAll.inc.voiceEvent.boostFollow.inc.voiceEvent ?_
  exact h.cancel.setVoice.loadBank.wrAll.inc.voiceEvent.boostFollow

theorem Kept.grant {v : VoiceId} {d : DueStep} (h : Kept s₀ s) : Kept s₀ (s.grant v d) := by
  unfold State.grant
  dsimp only
  refine .ite (.ite h.takeDue.reverse h.takeDue.setVoice.inc.voiceEvent.wrAll.boostFollow.pauseDetection) ?_
  exact .ite h.takeDue.takeUp h.takeDue.takeQuiet

/-! ### Machine/RunOps -/

theorem Kept.doze (h : Kept s₀ s) : Kept s₀ s.doze := .ite (Kept.ite h.set.fieldStopped.armIn h.set.fieldStopped).setRun.armIn h

end

end Sys2Proof.Machine
end

section
/-! PROOFS. The canonical forms: the calibration carry on (`Kept`), operation by operation in the model's order. -/

namespace Sys2Proof.Machine

section
set_option Elab.async false -- as tasks, these many short proofs would each hold a thread and its stack
variable {s₀ s : State}

/-! ### Machine/CalOps -/

theorem Kept.setSlices {l : List Int} (h : Kept s₀ s) : Kept s₀ (s.setSlices l) := h.wrAll
theorem Kept.calEvent {e kind target status : Nat} {t : Tenant} (h : Kept s₀ s) : Kept s₀ (s.calEvent e kind target status t) := h.raise
theorem Kept.stopReceiver (h : Kept s₀ s) : Kept s₀ s.stopReceiver := .ite (.ite h.setAir.restPins h) (.ite h.setAir.restPins.tune h)

theorem Kept.arrangeSlices {retired : Nat} (h : Kept s₀ s) : Kept s₀ (s.arrangeSlices retired) := by
  unfold State.arrangeSlices
  extract_lets healthy mode want old s₁ s₂ s₃ s₄
  have h₁ : Kept s₀ s₁ := h.wrAll
  have h₂ : Kept s₀ s₂ := .ite h₁.causeEnd (.ite h₁.fault h₁)
  have h₃ : Kept s₀ s₃ := .ite h₂.calEvent h₂
  have h₄ : Kept s₀ s₄ := .ite (.ite h₃ h₃.fault.raise) h₃.causeEnd
  exact h₄.stopReceiver

theorem Kept.checkBank {ch bank : Nat} {t : Tenant} (h : Kept s₀ s) : Kept s₀ (s.checkBank ch bank t) :=
  .ite (.ite h h.faultKeyed.calEvent) h.causeEndKey

theorem Kept.dropAnchors {ch : Nat} (h : Kept s₀ s) : Kept s₀ (s.dropAnchors ch) := h.set
theorem Kept.sliceEvents {fresh : Nat} (h : Kept s₀ s) : Kept s₀ (s.sliceEvents fresh) := h.foldl fun _ _ h => h.calEvent
theorem Kept.applySlices {l : List Int} (h : Kept s₀ s) : Kept s₀ (s.applySlices l) := h.setSlices.arrangeSlices.sliceEvents

theorem Kept.applyWhole {kind target : Nat} {l : List Int} (h : Kept s₀ s) : Kept s₀ (s.applyWhole kind target l) := by
  unfold State.applyWhole
  dsimp only
  split
  · exact h.wrAll.wrInt.dropAnchors
  · exact h.wrAll
  · exact h.wrInt.wrInt
  · exact h.wrInt.wrInt.wr
  · exact h.wrAll
  · exact h.wr
  · exact h.wrInt
  · exact h.applySlices
  · exact h.set
  · exact h.wrInt.wrInt.dropWindow
  · exact h.wrInt
  · exact h

theorem Kept.applyRevert {kind target : Nat} {l : List Int} (h : Kept s₀ s) : Kept s₀ (s.applyRevert kind target l) := by
  unfold State.applyRevert
  dsimp only
  split
  · exact h.applyWhole.causeEndKey.causeEndKey
  · exact h.applyWhole.wr
  · exact h.setSlices.wr.arrangeSlices
  · exact h.set
  · exact h.applyWhole

theorem Kept.applyStep {kind target : Nat} {l : List Int} (h : Kept s₀ s) : Kept s₀ (s.applyStep kind target l) := by
  unfold State.applyStep
  dsimp only
  refine .ite ?_ ?_
  · refine .calEvent (.inc ?_)
    split
    · exact h.wr.wrInt.dropAnchors
    · exact h.wrInt.wrInt
    · exact h.wrInt.wrInt
    · exact h.foldl fun _ _ h => h.wr
    · exact h.wr
    · exact h.setSlices
    · exact h
  · refine .inc ?_
    split
    · exact h.wr.wrInt.dropAnchors
    · exact h.wrInt.wrInt
    · exact h.wrInt.wrInt
    · exact h.foldl fun _ _ h => h.wr
    · exact h.wr
    · exact h.setSlices
    · exact h

theorem Kept.applyForm {form : ApplyForm} {kind target : Nat} {l : List Int} (h : Kept s₀ s) :
    Kept s₀ (s.applyForm form kind target l) := by
  unfold State.applyForm
  split
  · exact h.applyStep
  · exact h.applyWhole
  · exact h.applyRevert

theorem Kept.applyReady {p : Ready → Bool} (h : Kept s₀ s) : Kept s₀ (s.applyReady p) := h.set.foldl fun _ _ h => h.applyForm

theorem Kept.applyAt {kind target : Nat} {form : ApplyForm} {l : List Int} (h : Kept s₀ s) : Kept s₀ (s.applyAt kind target form l) :=
  .ite h.set.applyForm h.set

theorem Kept.airPoint (h : Kept s₀ s) : Kept s₀ s.airPoint := h.applyReady
theorem Kept.framePoint (h : Kept s₀ s) : Kept s₀ s.framePoint := h.applyReady
theorem Kept.settled (h : Kept s₀ s) : Kept s₀ s.settled := h.foldl fun _ _ h => .ite h h.applyForm
theorem Kept.keepTunings (h : Kept s₀ s) : Kept s₀ s.keepTunings := h.set.keep
theorem Kept.keepTracked (h : Kept s₀ s) : Kept s₀ s.keepTracked := h.keep
theorem Kept.dirtied {kind target : Nat} (h : Kept s₀ s) : Kept s₀ (s.dirtied kind target) := h.set.commit
theorem Kept.userBits {n : Nat} (h : Kept s₀ s) : Kept s₀ (s.userBits n) := h.wr
theorem Kept.setUser {kind target : Nat} {on : Bool} (h : Kept s₀ s) : Kept s₀ (s.setUser kind target on) := .ite h.set.userBits h.set
theorem Kept.dropWindows {target : Nat} (h : Kept s₀ s) : Kept s₀ (s.dropWindows target) := h.set
theorem Kept.countWindow {key n : Nat} (h : Kept s₀ s) : Kept s₀ (s.countWindow key n) := h.set
theorem Kept.setTrack {ch : Nat} {t : Track} (h : Kept s₀ s) : Kept s₀ (s.setTrack ch t) := h.set
theorem Kept.tuneState {u : Tuning} {st : Nat} (h : Kept s₀ s) : Kept s₀ (s.tuneState u st) := .ite h h.wr
theorem Kept.firstRun {u : Tuning} (h : Kept s₀ s) : Kept s₀ (s.firstRun u) := h.set.dropWindows.tuneState

theorem Kept.releaseVoice {v : VoiceId} (h : Kept s₀ s) : Kept s₀ (s.releaseVoice v) :=
  .ite h.cancelAll.setVoice.wr (.ite h.cancelAll.setVoice.wr.rampDown h.cancelAll.setVoice.wr.reachFloor)

theorem Kept.endTuning {u : Tuning} {status : Nat} (h : Kept s₀ s) : Kept s₀ (s.endTuning u status) := by
  unfold State.endTuning
  extract_lets cal s₁ s₂ s₃ s₄ i s₅ key s₆
  have h₁ : Kept s₀ s₁ := h.set
  have h₂ : Kept s₀ s₂ := by
    unfold s₂
    clear_value s₁
    split
    · exact .ite h₁.releaseVoice h₁
    · exact h₁
  have h₄ : Kept s₀ s₄ := .ite h₂.cancel.cancel h₂.cancel.cancel.wrAll
  have h₅ : Kept s₀ s₅ := .ite h₄.inc.wr h₄.inc.wrAll
  have h₆ : Kept s₀ s₆ := .ite h₅.causeEndKey.causeEndKey (.ite h₅.faultKeyed (.ite h₅.faultKeyed h₅))
  exact h₆.calEvent

theorem Kept.acceptTuning {u : Tuning} {l : List Int} (h : Kept s₀ s) : Kept s₀ (s.acceptTuning u l) := by
  unfold State.acceptTuning
  extract_lets s₁ waits cal s₂ i s₃ s₄ cal' s₅ s₆
  have h₁ : Kept s₀ s₁ := h.setUser
  have h₂ : Kept s₀ s₂ := h₁.set
  have h₃ : Kept s₀ s₃ := h₁.wrAll
  have h₄ : Kept s₀ s₄ := by
    unfold s₄
    clear_value s₁ s₂ s₃
    split
    · exact h₂.applyWhole.wr.setTrack
    · exact h₃.checkBank.checkBank
    · exact h₁.applyAt.wr
    · exact h₁.applyAt.wr
    · exact h₁.applyAt
  have h₅ : Kept s₀ s₅ := h₄.set
  have h₆ : Kept s₀ s₆ := .ite h₅.wrInt h₅
  exact h₆.dirtied.endTuning

theorem Kept.takeTuning {u : Tuning} (h : Kept s₀ s) : Kept s₀ (s.takeTuning u) := by
  unfold State.takeTuning
  dsimp only
  split
  · exact .ite h.set h.set.firstRun
  · exact .ite (.ite h.set.endTuning h.set.firstRun.armIn) (.ite h.set.firstRun.set h.set.firstRun)

theorem Kept.nextTunings (h : Kept s₀ s) : Kept s₀ s.nextTunings := h.foldl fun _ _ h => .ite h (.ite h h.takeTuning)
theorem Kept.startTuning {u : Tuning} (h : Kept s₀ s) : Kept s₀ (s.startTuning u) := h.inc.tuneState.set.nextTunings
theorem Kept.abortTunings {p : Tuning → Bool} (h : Kept s₀ s) : Kept s₀ (s.abortTunings p) := (h.foldl fun _ _ h => h.endTuning).nextTunings
theorem Kept.abortOn {v : VoiceId} (h : Kept s₀ s) : Kept s₀ (s.abortOn v) := h.abortTunings

theorem Kept.revertTuning {kind target : Nat} (h : Kept s₀ s) : Kept s₀ (s.revertTuning kind target) := by
  unfold State.revertTuning
  dsimp only
  refine .commit ?_
  refine .ite (h.setUser.causeEndKey.causeEndKey.foldl fun _ _ h => h.setUser.applyAt.dirtied) ?_
  exact h.setUser.causeEndKey.causeEndKey.applyAt.dirtied

theorem Kept.noteAuto {kind target : Nat} (h : Kept s₀ s) : Kept s₀ (s.noteAuto kind target) := .ite h h.set
theorem Kept.temperatureTrigger (h : Kept s₀ s) : Kept s₀ s.temperatureTrigger := .ite h (h.foldl fun _ _ h => .ite h.noteAuto h)
theorem Kept.repeatRun {u : Tuning} {r : Run} (h : Kept s₀ s) : Kept s₀ (s.repeatRun u r) := h.set.tuneState

theorem Kept.judgeTuning {u : Tuning} {r : Run} (h : Kept s₀ s) : Kept s₀ (s.judgeTuning u r) :=
  (Kept.ite h.acceptTuning h.endTuning).nextTunings

theorem Kept.setTuning {u w : Tuning} (h : Kept s₀ s) : Kept s₀ (s.setTuning u w) := h.set

theorem Kept.applying {v : VoiceId} (h : Kept s₀ s) : Kept s₀ (s.applying v) := by
  unfold State.applying
  split
  · exact h.setTuning.tuneState
  · exact h

theorem Kept.rampTuning {u : Tuning} {v : VoiceId} {r : Run} (h : Kept s₀ s) : Kept s₀ (s.rampTuning u v r) :=
  .ite (.ite h.setTuning.releaseVoice h.setTuning) (Kept.ite h.setTuning.releaseVoice h.setTuning).applying

theorem Kept.judgeApplying (h : Kept s₀ s) : Kept s₀ s.judgeApplying := by
  unfold State.judgeApplying
  refine h.foldl fun _ _ h => ?_
  split
  · exact h.judgeTuning
  · exact h

theorem Kept.idle (h : Kept s₀ s) : Kept s₀ s.idle := h.judgeApplying.pass.doze

/-! ### Machine/Calibration -/

theorem Kept.execTuningFirstRunDone {run : Run} (h : Kept s₀ s) : KeptBy s₀ (Machine.execTuningFirstRunDone run s) := by
  unfold Machine.execTuningFirstRunDone
  split
  · exact h.repeatRun.done
  · exact h.done

theorem Kept.execTuningRepeatDone {run : Run} (h : Kept s₀ s) : KeptBy s₀ (Machine.execTuningRepeatDone run s) := by
  unfold Machine.execTuningRepeatDone
  dsimp only
  split
  · split
    · exact (Kept.ite h.rampTuning h.judgeTuning).done
    · exact h.judgeTuning.done
  · exact h.done

theorem Kept.execAutoTuningStart {kind target : Nat} (h : Kept s₀ s) : KeptBy s₀ (Machine.execAutoTuningStart kind target s) :=
  .ite h.set.startTuning.done h.done

theorem Kept.execAntBackgroundWindow {ch : Channel} (h : Kept s₀ s) : KeptBy s₀ (Machine.execAntBackgroundWindow ch s) := by
  unfold Machine.execAntBackgroundWindow
  dsimp only
  refine .ite h.done ?_
  split
  · exact h.setTrack.done
  · exact .ite h.setTrack.done (.ite h.setTrack.setTrack.calEvent.done h.setTrack.applyAt.done)

theorem Kept.closeWindow {kind target : Nat} {spec : List (Nat × Nat × Nat)} {l : List Int} (h : Kept s₀ s) :
    Kept s₀ (s.closeWindow kind target spec l) := by
  unfold State.closeWindow
  dsimp only
  split
  · exact h.set
  · exact .ite h.set h.set.applyAt

theorem Kept.execOffsetBackgroundWindow {ch : Channel} {run : Run} (h : Kept s₀ s) :
    KeptBy s₀ (Machine.execOffsetBackgroundWindow ch run s) :=
  .ite h.closeWindow.done h.done

theorem Kept.execIqBackgroundWindow {v : VoiceId} {run : Run} (h : Kept s₀ s) : KeptBy s₀ (Machine.execIqBackgroundWindow v run s) :=
  .ite h.closeWindow.done h.done

theorem Kept.execGainBackgroundWindow {v : VoiceId} {run : Run} (h : Kept s₀ s) : KeptBy s₀ (Machine.execGainBackgroundWindow v run s) :=
  .ite h.closeWindow.done h.done

theorem Kept.execSliceBackgroundWindow {run : Run} (h : Kept s₀ s) : KeptBy s₀ (Machine.execSliceBackgroundWindow run s) :=
  .ite h.done (Kept.ite h.set h.set.applyAt).done

theorem Kept.execSliceRetirement {slice : Fin 12} (h : Kept s₀ s) : KeptBy s₀ (Machine.execSliceRetirement slice s) := by
  unfold Machine.execSliceRetirement
  dsimp only
  split
  · exact h.done
  · exact .ite h.arrangeSlices.calEvent.noteAuto.done h.done

theorem Kept.execCueHourlyCheck (h : Kept s₀ s) : KeptBy s₀ (Machine.execCueHourlyCheck s) := by
  unfold Machine.execCueHourlyCheck
  dsimp only
  refine .ite ?_ h.done
  refine .ite h.set.armIn.set.done ?_
  split
  · exact h.set.armIn.done
  · exact .ite h.set.armIn.applyAt.done (.ite h.set.armIn.applyAt.done h.set.armIn.done)

theorem Kept.execRefEdgeTimeout {t : Tenant} (h : Kept s₀ s) : KeptBy s₀ (Machine.execRefEdgeTimeout t s) := by
  unfold Machine.execRefEdgeTimeout
  refine .ite ?_ h.done
  split
  · exact h.endTuning.nextTunings.done
  · exact h.cancel.done

theorem Kept.execRefGateEnd {cycles : Nat} {steady : Bool} (h : Kept s₀ s) : KeptBy s₀ (Machine.execRefGateEnd cycles steady s) := by
  unfold Machine.execRefGateEnd
  dsimp only
  split
  · exact h.done
  · exact .ite h.cancel.endTuning.nextTunings.done (.ite h.cancel.repeatRun.done h.cancel.judgeTuning.done)

theorem Kept.markStale (h : Kept s₀ s) : Kept s₀ s.markStale := .ite h h.set

theorem Kept.execTemperatureReading {tenths : Int} (h : Kept s₀ s) : KeptBy s₀ (Machine.execTemperatureReading tenths s) :=
  .ite h.setTemp.armIn.temperatureTrigger.markStale.done h.done

end

end Sys2Proof.Machine
end

section
/-! PROOFS. The canonical forms: the air die, the mesh MAC and the pocket port carry on (`Kept`), operation by operation in the model's
order. -/

namespace Sys2Proof.Machine

section
set_option Elab.async false -- as tasks, these many short proofs would each hold a thread and its stack
variable {s₀ s : State}

/-! ### Machine/AirOps -/

theorem Kept.cueStart (h : Kept s₀ s) : Kept s₀ s.cueStart := .ite h (.ite h.set.arm (.ite h.set.inc h))
theorem Kept.cueStop (h : Kept s₀ s) : Kept s₀ s.cueStop := .ite (Kept.ite h.inc h).cancel.cancel.set.armIn h.set
theorem Kept.cueFollow (h : Kept s₀ s) : Kept s₀ s.cueFollow := .ite h.cueStart h.cueStop
theorem Kept.falseWake (h : Kept s₀ s) : Kept s₀ s.falseWake := h.inc.raise.cancel.set.arm.nextTunings
theorem Kept.airStart (h : Kept s₀ s) : Kept s₀ s.airStart := .ite h.setAir.set.cueStop.armIn h
theorem Kept.airOff (h : Kept s₀ s) : Kept s₀ s.airOff := h.cancel.cancel.cancel.setAir.set.restPins.cueStart
theorem Kept.airStop (h : Kept s₀ s) : Kept s₀ s.airStop := .ite h (.ite h.airOff h.set)

theorem Kept.toListen (h : Kept s₀ s) : Kept s₀ s.toListen :=
  .ite h.set.setAir.restPins.tune.airPoint.airOff h.set.setAir.restPins.tune.airPoint.nextTunings

/-! ### Machine/MacOps -/

theorem Kept.setNeighbour {a : Nat} {f : Neighbour → Neighbour} (h : Kept s₀ s) : Kept s₀ (s.setNeighbour a f) := h.set

theorem Kept.takeNeighbour {n : Neighbour} (h : Kept s₀ s) : KeptOpt s₀ (s.takeNeighbour n) := by
  unfold State.takeNeighbour
  dsimp only
  refine .ite h.set.some ?_
  split
  · exact .none
  · exact h.set.some

theorem Kept.reserveCounters {k : Nat} (h : Kept s₀ s) : Kept s₀ (s.reserveCounters k) := .ite h h.set.commit
theorem Kept.counterLow {k : Nat} (h : Kept s₀ s) : Kept s₀ (s.counterLow k) := .ite h.set.raise h
theorem Kept.number (h : Kept s₀ s) : KeptSnd s₀ s.number := .ite h.reserveCounters.snd h.wr.counterLow.set.snd
theorem Kept.sendMac {kind : OutKind} {dest : Addr} {payload : Octets} (h : Kept s₀ s) : Kept s₀ (s.sendMac kind dest payload) := h.set

theorem Kept.txFailed {t : Option Tenant} {status detail dest : Nat} (h : Kept s₀ s) : Kept s₀ (s.txFailed t status detail dest) :=
  .ite h h.raise

theorem Kept.holdReport {t : Tenant} (h : Kept s₀ s) : Kept s₀ (s.holdReport t) := h.set.armIn

theorem Kept.kindFailed {x : OutKind} (h : Kept s₀ s) : Kept s₀ (s.kindFailed x) := by
  unfold State.kindFailed
  split
  · exact h.holdReport
  · exact h.replyOut
  · exact h

theorem Kept.cueTo {child : Option Nat} (h : Kept s₀ s) : Kept s₀ (s.cueTo child) := .ite h h.set

theorem Kept.holdFor {origin : OutKind} {child : Nat} {payload : Octets} {urgent head : Bool} (h : Kept s₀ s) :
    Kept s₀ (s.holdFor origin child payload urgent head) :=
  .ite h.kindFailed.txFailed (.ite (Kept.ite h.set.armIn h.set.armIn.armIn).set.cueTo (.ite h.set.armIn h.set.armIn.armIn))

theorem Kept.dropIndirect {id : Nat} (h : Kept s₀ s) : Kept s₀ (s.dropIndirect id) := h.cancel.cancel.cancel.set

theorem Kept.dropFrames {p : OutKind → Bool} (h : Kept s₀ s) : Kept s₀ (s.dropFrames p) := by
  unfold State.dropFrames
  dsimp only
  split
  · exact .ite h.cancelAll.set.cancel.cancel h.cancelAll.set
  · exact h.cancelAll.set

theorem Kept.dropStale (h : Kept s₀ s) : Kept s₀ s.dropStale := h.dropFrames

theorem Kept.polled {child : Nat} (h : Kept s₀ s) : Kept s₀ (s.polled child) := by
  unfold State.polled
  dsimp only
  split
  · exact h.dropStale
  · refine .ite h.dropStale ?_
    split
    · exact .ite h.dropStale h.dropStale.armIn
    · exact .ite (.ite h.dropStale h.dropStale.armIn) (Kept.ite h.dropStale h.dropStale.armIn).cancel.set

theorem Kept.passMesh {kind : OutKind} {dest : Nat} {payload : Octets} (h : Kept s₀ s) : Kept s₀ (s.passMesh kind dest payload) := by
  unfold State.passMesh
  split
  · exact h.kindFailed.inc.txFailed
  · split
    · exact .ite h.holdFor h.sendMac
    · exact h.sendMac

theorem Kept.originate {kind : OutKind} {dest inner : Nat} {urgent : Bool} {body : Octets} (h : Kept s₀ s) :
    Kept s₀ (s.originate kind dest inner urgent body) :=
  h.set.passMesh

theorem Kept.sealReport {t : Tenant} {collector : Nat} {unit : Octets} (h : Kept s₀ s) : KeptSnd s₀ (s.sealReport t collector unit) :=
  h.wr.snd

theorem Kept.touch {t : Tenant} {seq : Nat} (h : Kept s₀ s) : Kept s₀ (s.touch t seq) := h.setBox

theorem Kept.sendReport {t : Tenant} {q : QEvent} {off : Nat} (h : Kept s₀ s) : Kept s₀ (s.sendReport t q off) := by
  unfold State.sendReport
  dsimp only
  exact h.touch.sealReport.originate

theorem Kept.reserveReports (h : Kept s₀ s) : Kept s₀ s.reserveReports := .ite h.commit h
theorem Kept.loadHops (h : Kept s₀ s) : Kept s₀ s.loadHops := .ite h (.ite h.set.raise h.set)

theorem Kept.scanOver {l : List Nat} {asCoord again : Bool} (h : Kept s₀ s) : Kept s₀ (s.scanOver l asCoord again) :=
  h.set.tune.airStart.armIn

theorem Kept.startScan {asCoord again : Bool} (h : Kept s₀ s) : Kept s₀ (s.startScan asCoord again) :=
  .ite h.wr.loadHops.scanOver (.ite h.wr.loadHops.scanOver h.wr.loadHops.scanOver)

theorem Kept.joinNow (h : Kept s₀ s) : Kept s₀ s.joinNow := .ite h.startScan h

theorem Kept.joinFailed (h : Kept s₀ s) : Kept s₀ s.joinFailed :=
  .ite h.cancel.cancel.set.wr.raise.armIn.airStop h.cancel.cancel.set.wr.raise.armIn

theorem Kept.chooseParent {l : List Candidate} (h : Kept s₀ s) : Kept s₀ (s.chooseParent l) := by
  unfold State.chooseParent
  dsimp only
  split
  · exact h.joinFailed
  · exact h.set.cancel.wr.sendMac.armIn

theorem Kept.parentLost (h : Kept s₀ s) : Kept s₀ s.parentLost := h.set.raise.startScan
theorem Kept.sleepIdle (h : Kept s₀ s) : Kept s₀ s.sleepIdle := .ite h.airStop h

/-! ### Machine/MacFlow -/

theorem Kept.setCsma {c : Csma} (h : Kept s₀ s) : Kept s₀ (s.setCsma c) := h.set

theorem Kept.listenStart {c : Csma} (h : Kept s₀ s) : Kept s₀ (s.listenStart c) := by
  unfold State.listenStart
  dsimp only
  refine .armIn (.setCsma ?_)
  exact KeptSnd.ite h.random h.snd

theorem Kept.backoff {c : Csma} (h : Kept s₀ s) : Kept s₀ (s.backoff c) := by
  unfold State.backoff
  dsimp only
  exact h.random.setCsma.armIn

theorem Kept.freeReport {t : Tenant} (h : Kept s₀ s) : Kept s₀ (s.freeReport t) := h.set.cancel

theorem Kept.reportSent {t : Tenant} {seq off : Nat} {last : Bool} (h : Kept s₀ s) : Kept s₀ (s.reportSent t seq off last) := by
  unfold State.reportSent
  dsimp only
  refine .ite h.freeReport.accept ?_
  split
  · exact .ite h.freeReport.sendReport h.freeReport
  · exact h.freeReport

theorem Kept.kindEnded {k : OutKind} {status : Nat} (h : Kept s₀ s) : Kept s₀ (s.kindEnded k status) := by
  unfold State.kindEnded
  split
  · exact .ite h.reportSent h.kindFailed
  · exact h.kindFailed

theorem Kept.countParent {f : OutFrame} {status : Nat} (h : Kept s₀ s) : Kept s₀ (s.countParent f status) :=
  .ite h (.ite h.set (.ite (.ite h.set.parentLost h.set) h))

theorem Kept.indirectEnded {id : Nat} {f : OutFrame} {status : Nat} (h : Kept s₀ s) : Kept s₀ (s.indirectEnded id f status) := by
  unfold State.indirectEnded
  dsimp only
  split
  · exact h
  · exact .ite h.dropIndirect.kindEnded (.ite h.dropIndirect.kindEnded.txFailed h.set)

theorem Kept.endFrame {status detail : Nat} (h : Kept s₀ s) : Kept s₀ (s.endFrame status detail) := by
  unfold State.endFrame
  dsimp only
  split
  · exact h
  · refine .sleepIdle (.countParent ?_)
    split
    · exact h.cancel.cancel.cancel.set.indirectEnded
    · exact h.cancel.cancel.cancel.set.kindEnded.txFailed

theorem Kept.cueSent {child : Option Nat} (h : Kept s₀ s) : Kept s₀ (s.cueSent child) := h.inc.raise.foldl fun _ _ h => h.armIn

theorem Kept.txEnded {r : TxReq} {status : Nat} (h : Kept s₀ s) : Kept s₀ (s.txEnded r status) := by
  have hcount : Kept s₀ (if status = 0 then (match r.use with | .cue .. => s | _ => s.inc (ob 0x4130 0x03)) else s) := by
    refine .ite ?_ h
    split
    · exact h
    · exact h.inc
  unfold State.txEnded
  extract_lets s₁
  have h₁ : Kept s₀ s₁ := hcount
  clear_value s₁
  split
  · exact h₁.sleepIdle
  · exact .ite h₁.cueSent h₁.txFailed
  · split
    · exact h₁
    · extract_lets s₂
      have h₂ : Kept s₀ s₂ := .ite h₁.armIn h₁
      exact .ite h₁.endFrame (.ite h₁.endFrame (.ite h₂.endFrame h₂.setCsma.armIn))

theorem Kept.wantPoll (h : Kept s₀ s) : Kept s₀ s.wantPoll := .ite h.sendMac h

/-! ### Machine/PocketOps -/

theorem Kept.pocketRaise {e : Nat} {to_ : List Tenant} {data : Octets} (h : Kept s₀ s) : Kept s₀ (s.pocketRaise e to_ data) :=
  .ite h.raise h

theorem Kept.scrubBegun {l : List Nat} (h : Kept s₀ s) : Kept s₀ (s.scrubBegun l) := .ite h.setPocket h.setPocket.pocketRaise

theorem Kept.scrub (h : Kept s₀ s) : Kept s₀ s.scrub := by
  unfold State.scrub
  exact h.scrubBegun.setFlash fun hp => hp.retireAll

theorem Kept.beginCommit (h : Kept s₀ s) : Kept s₀ s.beginCommit := by
  unfold State.beginCommit
  dsimp only
  split
  · exact h
  · exact .ite h (Kept.ite h.scrubBegun h).setPocket

theorem Kept.mailCommit {page : Nat} {data : Octets} {wand : Bool} (h : Kept s₀ s) : Kept s₀ (s.mailCommit page data wand) :=
  h.setPocket.beginCommit

theorem Kept.tearCommit (h : Kept s₀ s) : Kept s₀ s.tearCommit := by
  unfold State.tearCommit
  dsimp only
  split
  · exact h
  · refine .ite h.setPocket ?_
    exact Kept.setFlash (Kept.free1 h.free1) fun hp => ⟨hp.torn.mail, hp.torn.desc⟩

theorem Kept.commissionPage (h : Kept s₀ s) : Kept s₀ s.commissionPage := .ite h h.mailCommit
theorem Kept.mirror (h : Kept s₀ s) : Kept s₀ s.mirror := .ite (.ite h h.mailCommit) (Kept.ite h h.mailCommit).mailCommit
theorem Kept.inboxBegin (h : Kept s₀ s) : Kept s₀ s.inboxBegin := .ite h.setPocket.mailCommit h
theorem Kept.noteCommissioned (h : Kept s₀ s) : Kept s₀ s.noteCommissioned := .ite h (.ite h.wrKeep.raise h.wrKeep)
theorem Kept.respond {data : Octets} {w : Nat} (h : Kept s₀ s) : Kept s₀ (s.respond data w) := h.setPocket

theorem Kept.respondSecured {data : Octets} {w : Nat} (h : Kept s₀ s) : Kept s₀ (s.respondSecured data w) := by
  unfold State.respondSecured
  dsimp only
  exact h.setPocket

theorem Kept.sessionTo {n : Nat} (h : Kept s₀ s) : Kept s₀ (s.sessionTo n) := h.wrAll.cancel.cancel.setPocket
theorem Kept.pocketEnd (h : Kept s₀ s) : Kept s₀ s.pocketEnd := .ite h.setPocket h.setPocket.sessionTo.cancel.pocketRaise
theorem Kept.pocketClose (h : Kept s₀ s) : Kept s₀ s.pocketClose := .ite h.setPocket h.pocketEnd
theorem Kept.closeDue (h : Kept s₀ s) : Kept s₀ s.closeDue := .ite h.pocketEnd h

theorem Kept.bridgeEnd {data : Octets} {w : Nat} (h : Kept s₀ s) : Kept s₀ (s.bridgeEnd data w) :=
  .ite h h.cancel.cancel.setPocket.respondSecured.closeDue

theorem Kept.pocketLeave {t : Tenant} (h : Kept s₀ s) : Kept s₀ (s.pocketLeave t) := .ite h.pocketEnd h

theorem Kept.pocketStart (h : Kept s₀ s) : Kept s₀ s.pocketStart := by
  unfold State.pocketStart
  dsimp only
  exact h.randomBytes.setPocket.beginCommit

theorem Kept.pocketStop (h : Kept s₀ s) : Kept s₀ s.pocketStop := h.pocketEnd.setPocket

/-! ### Machine/Air -/

theorem Kept.execAirStartRequest (h : Kept s₀ s) : KeptBy s₀ (Machine.execAirStartRequest s) := h.airStart.done

theorem Kept.execAirClockCheck {count : Nat} (h : Kept s₀ s) : KeptBy s₀ (Machine.execAirClockCheck count s) :=
  .ite (.ite h.cancel.causeEnd.armIn.done h.cancel.airOff.raise.fault.done) h.done

theorem Kept.firstSlices (h : Kept s₀ s) : Kept s₀ s.firstSlices := .ite h.set.startTuning h.nextTunings
theorem Kept.freeReports (h : Kept s₀ s) : Kept s₀ s.freeReports := h.foldl fun _ _ h => .ite h.freeReport h

theorem Kept.execAirReady (h : Kept s₀ s) : KeptBy s₀ (Machine.execAirReady s) :=
  .ite h.cancel.toListen.raise.freeReports.firstSlices.done h.done

theorem Kept.execAirStopRequest (h : Kept s₀ s) : KeptBy s₀ (Machine.execAirStopRequest s) := h.airStop.done

theorem Kept.execAirEnergyDetect (h : Kept s₀ s) : KeptBy s₀ (Machine.execAirEnergyDetect s) :=
  .ite h.framePoint.settleChannel.setAir.set.armIn.done h.done

theorem Kept.execAirSfdFound {peaks : List Nat} (h : Kept s₀ s) : KeptBy s₀ (Machine.execAirSfdFound peaks s) :=
  .ite h.setAir.cancel.set.inc.done h.done

theorem Kept.execPreambleTimeout {_peaks : List Nat} (h : Kept s₀ s) : KeptBy s₀ (Machine.execPreambleTimeout _peaks s) :=
  .ite h.cancel.inc.toListen.done h.done

theorem Kept.execAirRxFrameEnd {frame : AirIn} {signal : AirSignal} (h : Kept s₀ s) :
    KeptBy s₀ (Machine.execAirRxFrameEnd frame signal s) :=
  .ite (Kept.ite (Kept.ite h.inc.raise h).inc (Kept.ite h.inc.raise h).set).toListen.done h.done

theorem Kept.refuseTx {r : TxReq} {code : Nat} (h : Kept s₀ s) : Kept s₀ (s.refuseTx r code) := by
  unfold State.refuseTx
  dsimp only
  refine .txEnded ?_
  split
  · exact h.raise
  · exact h.raise
  · exact h.set.raise
  · exact .ite h.inc h.inc.set.raise
  · exact h.raise
  · exact h

theorem Kept.compose {r : TxReq} {start : Nat} (h : Kept s₀ s) : Kept s₀ (s.compose r start) := by
  unfold State.compose
  dsimp only
  split
  · exact h.set
  · exact h.set
  · split
    · exact h
    · exact h.set.setCsma

theorem Kept.tryRamp (h : Kept s₀ s) : Kept s₀ s.tryRamp := by
  unfold State.tryRamp
  dsimp only
  refine .ite ?_ h
  split
  · exact h.set.wr.wrInt.compose.arm
  · exact h

theorem Kept.txBegin {r : TxReq} (h : Kept s₀ s) : Kept s₀ (s.txBegin r) := by
  unfold State.txBegin
  extract_lets s₁ s₂ held inl air s₃ s₄ s₅ s₆ s₇ s₈
  have h₁ : Kept s₀ s₁ := h.cancel.setAir
  have h₃ : Kept s₀ s₃ := (Kept.ite h₁.wr h₁).set
  have h₄ : Kept s₀ s₄ := .ite h₃ h₃.armIn
  have h₆ : Kept s₀ s₆ := (Kept.ite h₄.inc.raise h₄).fePins
  have h₇ : Kept s₀ s₇ := .ite h₆.armIn h₆
  have h₈ : Kept s₀ s₈ := .ite h₇.raise h₇
  exact h₈.tryRamp

theorem Kept.dropRequest (h : Kept s₀ s) : Kept s₀ s.dropRequest := h.set

theorem Kept.chargeAir {r : TxReq} (h : Kept s₀ s) : Kept s₀ (s.chargeAir r) := by
  unfold State.chargeAir
  dsimp only
  exact h.free1.add.add

theorem Kept.beginDeferred (h : Kept s₀ s) : Kept s₀ s.beginDeferred := by
  unfold State.beginDeferred
  dsimp only
  split
  · refine .set ?_
    split
    · exact h.chargeAir
    · exact h
  · refine .txBegin (.dropRequest (.framePoint ?_))
    split
    · exact h.chargeAir
    · exact h

theorem Kept.execAirTxRequest (h : Kept s₀ s) : KeptBy s₀ (Machine.execAirTxRequest s) := by
  unfold Machine.execAirTxRequest
  dsimp only
  split
  · exact h.done
  · refine .ite h.dropRequest.txEnded.done ?_
    refine .ite h.done ?_
    refine .ite h.airStart.done ?_
    refine .ite ?_ h.done
    split
    · exact h.dropRequest.refuseTx.done
    · exact .ite h.airPoint.framePoint.dropRequest.txBegin.done h.set.inc.raise.done

theorem Kept.execXpaEnOnDue (h : Kept s₀ s) : KeptBy s₀ (Machine.execXpaEnOnDue s) := .ite h.cancel.fePins.armIn.done h.done
theorem Kept.execPaSupplySettled (h : Kept s₀ s) : KeptBy s₀ (Machine.execPaSupplySettled s) := .ite h.cancel.fePins.armIn.done h.done
theorem Kept.execBiasSettled (h : Kept s₀ s) : KeptBy s₀ (Machine.execBiasSettled s) := .ite h.cancel.set.tryRamp.done h.done

theorem Kept.execSynLockDone (h : Kept s₀ s) : KeptBy s₀ (Machine.execSynLockDone s) :=
  .ite (Kept.ite h.cancel.set.causeEnd h.cancel.set).tryRamp.done h.done

theorem Kept.feOff (h : Kept s₀ s) : Kept s₀ s.feOff := .ite h.cancel.cancel.cancel.fePins.armIn h.cancel.cancel.cancel.fePins.armIn

theorem Kept.execSynLockTimeout (h : Kept s₀ s) : KeptBy s₀ (Machine.execSynLockTimeout s) := by
  unfold Machine.execSynLockTimeout
  dsimp only
  refine .ite ?_ h.done
  split
  · exact h.done
  · exact (Kept.ite h.cancel.set.inc.fault.setAir.wr h.cancel.set.inc.fault.setAir).feOff.refuseTx.done

theorem Kept.execPaRampUpDone (h : Kept s₀ s) : KeptBy s₀ (Machine.execPaRampUpDone s) := by
  unfold Machine.execPaRampUpDone
  dsimp only
  split
  · exact h.done
  · exact .ite (Kept.ite h.cancel.setAir.wr h.cancel.setAir).armIn.done h.done

theorem Kept.execAirTxLastBit (h : Kept s₀ s) : KeptBy s₀ (Machine.execAirTxLastBit s) := by
  unfold Machine.execAirTxLastBit
  dsimp only
  split
  · exact h.done
  · exact .ite (Kept.ite h.cancel.setAir.wr h.cancel.setAir).armIn.txEnded.done h.done

theorem Kept.enterOnTime {r : TxReq} (h : Kept s₀ s) : Kept s₀ (s.enterOnTime r) := h.set

theorem Kept.execPaRampDownDone (h : Kept s₀ s) : KeptBy s₀ (Machine.execPaRampDownDone s) := by
  unfold Machine.execPaRampDownDone
  dsimp only
  split
  · exact h.done
  · refine .ite ?_ h.done
    refine .ite h.cancel.enterOnTime.fePins.armIn.done ?_
    exact .ite h.cancel.enterOnTime.beginDeferred.done h.cancel.enterOnTime.fePins.armIn.done

theorem Kept.execXpaEnOffDue (h : Kept s₀ s) : KeptBy s₀ (Machine.execXpaEnOffDue s) := .ite h.cancel.fePins.armIn.done h.done

theorem Kept.execDischargeElapsed (h : Kept s₀ s) : KeptBy s₀ (Machine.execDischargeElapsed s) :=
  .ite (Kept.ite h.cancel.fePins.beginDeferred h.cancel.fePins.armIn).done h.done

theorem Kept.txOver (h : Kept s₀ s) : Kept s₀ s.txOver := by
  unfold State.txOver
  dsimp only
  refine .ite ?_ ?_
  · refine .toListen (.setAir ?_)
    refine .ite ?_ ?_
    · refine .armIn (.set (.wr ?_))
      split
      · exact h.chargeAir
      · exact h
    · refine .set (.wr ?_)
      split
      · exact h.chargeAir
      · exact h
  · refine .airOff ?_
    refine .ite ?_ ?_
    · refine .armIn (.set (.wr ?_))
      split
      · exact h.chargeAir
      · exact h
    · refine .set (.wr ?_)
      split
      · exact h.chargeAir
      · exact h

theorem Kept.execOffSequenceComplete (h : Kept s₀ s) : KeptBy s₀ (Machine.execOffSequenceComplete s) :=
  .ite (Kept.ite h.cancel.beginDeferred h.cancel.txOver).done h.done

theorem Kept.execSynHoldExpired (h : Kept s₀ s) : KeptBy s₀ (Machine.execSynHoldExpired s) := .ite h.cancel.set.applyReady.done h.done

theorem Kept.execAutoSynRetune (h : Kept s₀ s) : KeptBy s₀ (Machine.execAutoSynRetune s) :=
  .ite h.done (.ite h.set.startTuning.done (h.foldl fun _ _ h => h.startTuning).done)

theorem Kept.acceptEntry {k : Nat} {l : List Int} (h : Kept s₀ s) : Kept s₀ (s.acceptEntry k l) := h.setUser.applyAt.dirtied

theorem Kept.execSynEntryRunDone {run : Run} (h : Kept s₀ s) : KeptBy s₀ (Machine.execSynEntryRunDone run s) := by
  unfold Machine.execSynEntryRunDone
  dsimp only
  split
  · refine .ite h.done ?_
    split
    · exact h.set.tuneState.done
    · refine .ite (Kept.ite h.acceptEntry h).setTuning.set.endTuning.nextTunings.done ?_
      exact (Kept.ite h.acceptEntry h).setTuning.set.tuneState.done
  · exact h.done

theorem Kept.sealDropped (h : Kept s₀ s) : Kept s₀ s.sealDropped := h.set.cancel.wr
theorem Kept.sealRefused {sub : Nat} (h : Kept s₀ s) : Kept s₀ (s.sealRefused sub) := .ite h.sealDropped h
theorem Kept.sealWrite {sub v : Nat} (h : Kept s₀ s) : Kept s₀ (s.sealWrite sub v) := .ite h.set.wr.armIn h.cancel.wr.armIn

theorem Kept.sealForget (h : Kept s₀ s) : Kept s₀ s.sealForget := by
  unfold State.sealForget
  dsimp only
  split
  · exact .ite h.set.cancel.wr h
  · exact h

theorem Kept.execSealWindowExpired (h : Kept s₀ s) : KeptBy s₀ (Machine.execSealWindowExpired s) := .ite h.sealDropped.done h.done

theorem Kept.execSealWriteDone {ok : Bool} (h : Kept s₀ s) : KeptBy s₀ (Machine.execSealWriteDone ok s) := by
  unfold Machine.execSealWriteDone
  dsimp only
  split
  · exact h.done
  · refine .ite h.done ?_
    refine .ite ?_ (.ite h.cancel.set.raise.wr.fault.done h.cancel.set.raise.wr.done)
    refine .done (.joinNow (.commissionPage (.noteAuto ?_)))
    exact .ite h.cancel.set.wrAll.raise.copyLimits.loadLimits h.cancel.set.wrAll.raise.copyLimits

theorem Kept.execLedgerBinRollover (h : Kept s₀ s) : KeptBy s₀ (Machine.execLedgerBinRollover s) := .ite h.set.arm.done h.done

theorem Kept.execCueListen {level : Int} (h : Kept s₀ s) : KeptBy s₀ (Machine.execCueListen level s) :=
  .ite (.ite h.cancel.arm.done (.ite h.cancel.set.applyReady.set.arm.done h.cancel.set.applyReady.arm.done)) h.done

theorem Kept.execCueGiveUp (h : Kept s₀ s) : KeptBy s₀ (Machine.execCueGiveUp s) := .ite h.falseWake.done h.done

theorem Kept.execCueWordReceived {word : Octets} (h : Kept s₀ s) : KeptBy s₀ (Machine.execCueWordReceived word s) :=
  .ite h.done (.ite h.cancel.set.inc.wr.raise.wakeBy.wantPoll.airStart.nextTunings.done h.falseWake.done)

theorem Kept.execCueStopDone (h : Kept s₀ s) : KeptBy s₀ (Machine.execCueStopDone s) := .ite h.cancel.set.applyReady.cueStart.done h.done

end

end Sys2Proof.Machine
end

section
/-! PROOFS. The canonical forms: the voices' commands carry on (`Kept`), operation by operation in the model's order. -/

namespace Sys2Proof.Machine

section
set_option Elab.async false -- as tasks, these many short proofs would each hold a thread and its stack
variable {s₀ s : State}

/-! ### Machine/Voices -/

theorem Kept.execScoreTrigger {score : ScoreId} (h : Kept s₀ s) : KeptBy s₀ (Machine.execScoreTrigger score s) := by
  unfold Machine.execScoreTrigger
  dsimp only
  refine .ite h.advance.done ?_
  split
  · exact h.setScore.runStart.done
  · exact h.setScore.inc.done
  · exact h.setScore.inc.done
  · exact h.setScore.done

theorem Kept.execStepDeadlineExpired {score : ScoreId} {stepNo : Nat} (h : Kept s₀ s) :
    KeptBy s₀ (Machine.execStepDeadlineExpired score stepNo s) := by
  unfold Machine.execStepDeadlineExpired
  dsimp only
  refine .ite ?_ h.done
  split
  · exact h.cancel.endDue.done
  · exact h.cancel.done

theorem Kept.execWaitStepElapsed {score : ScoreId} {stepNo : Nat} (h : Kept s₀ s) :
    KeptBy s₀ (Machine.execWaitStepElapsed score stepNo s) :=
  .ite (.ite h.cancel.setScore.advance.done h.cancel.done) h.done

theorem Kept.quietRun {v : VoiceId} (h : Kept s₀ s) : Kept s₀ (s.quietRun v) := by
  unfold State.quietRun
  split
  · exact h.firstRun
  · exact h

theorem Kept.execVoiceGrant {v : VoiceId} (h : Kept s₀ s) : KeptBy s₀ (Machine.execVoiceGrant v s) := by
  unfold Machine.execVoiceGrant
  extract_lets s₁
  have h₁ : Kept s₀ s₁ := .ite h.loadLimits h
  clear_value s₁
  refine .ite h₁.cutDues.done (.ite h₁.cutDues.done (.ite ?_ h₁.done))
  split
  · exact (h₁.choose.of_eq ‹_›).done
  · next hchosen =>
      have hc := h₁.choose.of_eq hchosen
      split
      · exact hc.endDue.done
      · exact .ite hc.grant.done hc.grant.quietRun.done

theorem Kept.execChannelSelected {v : VoiceId} (h : Kept s₀ s) : KeptBy s₀ (Machine.execChannelSelected v s) := by
  unfold Machine.execChannelSelected
  dsimp only
  split
  · exact h.done
  · exact .ite h.cancel.setVoice.applyReady.select.pauseDetection.raiseCarrier.done h.done

theorem Kept.liftWaiting (h : Kept s₀ s) : Kept s₀ s.liftWaiting := h.foldl fun _ _ h => .ite h.raiseCarrier h

theorem Kept.execBoostReady {mv : Nat} (h : Kept s₀ s) : KeptBy s₀ (Machine.execBoostReady mv s) :=
  .ite h.cancel.cancel.wrAll.raise.liftWaiting.boostFollow.done h.done

theorem Kept.dropVoice {v : VoiceId} {outcome : Nat} (h : Kept s₀ s) : Kept s₀ (s.dropVoice v outcome) :=
  .ite h.abortOn.cutStep.rampDown (.ite h.abortOn.cutStep (.ite h.abortOn.cutStep.reachFloor h.abortOn.cutStep))

theorem Kept.failBoost {cause mv : Nat} (h : Kept s₀ s) : Kept s₀ (s.failBoost cause mv) := by
  unfold State.failBoost
  dsimp only
  refine .foldl ?_ fun _ _ h => h.dropVoice
  exact .ite h.cancel.cancel.cancel.cancel.wrAll.inc.set.fault.raise h.cancel.cancel.cancel.cancel.wrAll.inc.set.fault.raise.causeEnd

theorem Kept.execBoostStartTimeout (h : Kept s₀ s) : KeptBy s₀ (Machine.execBoostStartTimeout s) := .ite h.failBoost.done h.done
theorem Kept.execBoostSlewTimeout (h : Kept s₀ s) : KeptBy s₀ (Machine.execBoostSlewTimeout s) := .ite h.failBoost.done h.done

theorem Kept.execBoostHoldOffExpired (h : Kept s₀ s) : KeptBy s₀ (Machine.execBoostHoldOffExpired s) :=
  .ite h.cancel.cancel.cancel.set.wr.armIn.done h.done

theorem Kept.execBoostStopDone {mv : Nat} (h : Kept s₀ s) : KeptBy s₀ (Machine.execBoostStopDone mv s) :=
  .ite h.set.cancel.wrAll.raise.boostFollow.done h.done

theorem Kept.vfldSeen {mv : Nat} (h : Kept s₀ s) : Kept s₀ (s.vfldSeen mv) := .ite (.ite h.wr.causeEnd h.wr) h

theorem Kept.execVfldOvervoltage {mv : Nat} (h : Kept s₀ s) : KeptBy s₀ (Machine.execVfldOvervoltage mv s) :=
  .ite h.failBoost.done h.vfldSeen.done

theorem Kept.execVfldUndervoltage {mv : Nat} (h : Kept s₀ s) : KeptBy s₀ (Machine.execVfldUndervoltage mv s) :=
  .ite h.failBoost.done h.vfldSeen.done

theorem Kept.boostCleared (h : Kept s₀ s) : Kept s₀ s.boostCleared := .ite h.wr.boostFollow h

theorem Kept.execRampUpDone {v : VoiceId} (h : Kept s₀ s) : KeptBy s₀ (Machine.execRampUpDone v s) := by
  unfold Machine.execRampUpDone
  split
  · exact .ite h.cancel.setVoiceState.armIn.boostFollow.done h.done
  · exact h.done

theorem Kept.execSettleElapsed {v : VoiceId} {measured : Nat} (h : Kept s₀ s) : KeptBy s₀ (Machine.execSettleElapsed v measured s) := by
  unfold Machine.execSettleElapsed
  dsimp only
  split
  · refine .ite ?_ h.done
    split
    · exact h.cancel.setVoiceState.wr.voiceEvent.firstRun.done
    · split
      · exact h.cancel.setVoiceState.wr.voiceEvent.begin.endStep.done
      · exact h.cancel.setVoiceState.wr.voiceEvent.begin.done
  · exact h.done

theorem Kept.execSlewDone {v : VoiceId} (h : Kept s₀ s) : KeptBy s₀ (Machine.execSlewDone v s) := by
  unfold Machine.execSlewDone
  dsimp only
  split
  · exact .ite h.setVoice.cancel.setVoiceState.armIn.boostFollow.done h.done
  · exact h.done

theorem Kept.atFloor {v : VoiceId} (h : Kept s₀ s) : Kept s₀ (s.atFloor v) := h.voiceEvent

theorem Kept.chargeEnergy {v : VoiceId} {energy : Nat} (h : Kept s₀ s) : Kept s₀ (s.chargeEnergy v energy) := by
  unfold State.chargeEnergy
  dsimp only
  split
  · exact h.add.add
  · exact h.add

theorem Kept.execRampDownDone {v : VoiceId} {energy : Nat} (h : Kept s₀ s) : KeptBy s₀ (Machine.execRampDownDone v energy s) := by
  unfold Machine.execRampDownDone
  dsimp only
  refine .ite ?_ h.done
  split
  · exact h.cancel.countCarrier.chargeEnergy.atFloor.applying.reachFloor.doze.done
  · exact h.cancel.countCarrier.chargeEnergy.atFloor.applying.setVoice.wrAll.armIn.boostFollow.done

theorem Kept.execFloorDwellElapsed {v : VoiceId} (h : Kept s₀ s) : KeptBy s₀ (Machine.execFloorDwellElapsed v s) := by
  unfold Machine.execFloorDwellElapsed
  dsimp only
  split
  · exact .ite (Kept.ite h.cancel.takeUp h.cancel.takeQuiet.quietRun).done h.done
  · exact h.done

theorem Kept.execVoiceOvercurrent {v : VoiceId} {energy : Nat} (h : Kept s₀ s) : KeptBy s₀ (Machine.execVoiceOvercurrent v energy s) := by
  unfold Machine.execVoiceOvercurrent
  dsimp only
  refine .ite ?_ h.done
  refine .done (.boostIdle (.cutDues (.setVoiceState (.reachFloor (.cancelAll (.cutStep (.abortOn (.causeEnd ?_))))))))
  exact h.countCarrier.chargeEnergy.incSat.voiceEvent.fault

theorem Kept.voiceCleared {v : VoiceId} (h : Kept s₀ s) : Kept s₀ (s.voiceCleared v) := .ite h.setVoiceState.boostIdle h

theorem Kept.enableVoice {v : VoiceId} {on : Bool} (h : Kept s₀ s) : Kept s₀ (s.enableVoice v on) := by
  unfold State.enableVoice
  dsimp only
  refine .ite ?_ ?_
  · exact .ite (Kept.ite h.wr h.wr.voiceEvent).setVoice.setVoiceState (Kept.ite h.wr h.wr.voiceEvent).setVoice
  · refine .ite (Kept.ite h.wr h.wr.voiceEvent).cutDues ?_
    exact .ite (Kept.ite h.wr h.wr.voiceEvent).cutDues.cutDeferred.setVoice (Kept.ite h.wr h.wr.voiceEvent).cutDues.cutStep.reachFloor

theorem Kept.coupling {sub v : Nat} (h : Kept s₀ s) : Kept s₀ (s.coupling sub v) := h.wr.raise

/-! ### Machine/Protocols -/

theorem Kept.pruneAnchors (h : Kept s₀ s) : Kept s₀ s.pruneAnchors := h.set

theorem KeptFst.took {v : VoiceId} {t : Turn} (h : KeptFst s₀ t) : Kept s₀ (State.took v t) := by
  unfold State.took
  dsimp only
  split
  · exact .ite (Kept.setVoice h).deselect.setVoice (Kept.setVoice h).endStep.pruneAnchors
  · exact (Kept.setVoice h).endStep.pruneAnchors
  · exact Kept.setVoice h

theorem Kept.setExchange {v : VoiceId} {x : Exchange} (h : Kept s₀ s) : Kept s₀ (s.setExchange v x) := h.setVoice
theorem Kept.receivePoint {v : VoiceId} (h : Kept s₀ s) : Kept s₀ (s.receivePoint v) := h.applyReady
theorem Kept.modulating {v : VoiceId} (h : Kept s₀ s) : Kept s₀ (s.modulating v) := h.foldl fun _ _ h => .ite h (.ite h.setVoice h)

theorem Kept.execRequestFrameStart {v : VoiceId} (h : Kept s₀ s) : KeptBy s₀ (Machine.execRequestFrameStart v s) := by
  unfold Machine.execRequestFrameStart
  dsimp only
  split
  · exact .ite h.setExchange.setVoice.modulating.inc.arm.done h.done
  · exact h.done

theorem Kept.awaitReply {v : VoiceId} {d : DueStep} {x : Exchange} (h : Kept s₀ s) : Kept s₀ (s.awaitReply v d x) := by
  unfold State.awaitReply
  dsimp only
  split
  · exact .ite h.arm.arm.setExchange.arm h.arm.arm.setExchange
  · exact h.arm.arm.setExchange

theorem Kept.execRequestFrameEnd {v : VoiceId} (h : Kept s₀ s) : KeptBy s₀ (Machine.execRequestFrameEnd v s) := by
  unfold Machine.execRequestFrameEnd
  dsimp only
  split
  · refine .ite ?_ h.done
    refine .ite h.cancel.releaseVoice.done ?_
    split
    · exact h.cancel.setExchange.arm.done
    · exact .ite h.cancel.react.took.done h.cancel.awaitReply.done
  · exact h.done

theorem Kept.execSeparateEofDue {v : VoiceId} (h : Kept s₀ s) : KeptBy s₀ (Machine.execSeparateEofDue v s) := by
  unfold Machine.execSeparateEofDue
  dsimp only
  split
  · exact .ite h.cancel.setExchange.modulating.arm.done h.done
  · exact h.done

theorem Kept.execResponseWindowOpen {v : VoiceId} (h : Kept s₀ s) : KeptBy s₀ (Machine.execResponseWindowOpen v s) := by
  unfold Machine.execResponseWindowOpen
  dsimp only
  split
  · exact .ite h.cancel.setExchange.done h.done
  · exact h.done

theorem Kept.countStatus {v : VoiceId} {st : Nat} (h : Kept s₀ s) : Kept s₀ (s.countStatus v st) :=
  .ite (Kept.ite h.inc h).inc (.ite (Kept.ite h.inc h).inc (.ite (Kept.ite h.inc h).inc (.ite h.inc h)))

theorem Kept.shutWindow {v : VoiceId} {d : DueStep} {x : Exchange} {st closed : Nat} (h : Kept s₀ s) :
    Kept s₀ (s.shutWindow v d x st closed) :=
  h.cancel.countStatus.setExchange.receivePoint.react.took

theorem Kept.execReplyStart {v : VoiceId} {offset : Nat} {before : List Sample} {lead sof : List Cell} (h : Kept s₀ s) :
    KeptBy s₀ (Machine.execReplyStart v offset before lead sof s) := by
  unfold Machine.execReplyStart
  dsimp only
  split
  · exact .ite h.done (.ite h.shutWindow.done (.ite h.shutWindow.done h.cancel.cancel.setExchange.countWindow.done))
  · exact h.done

theorem Kept.execResponseWindowClose {v : VoiceId} (h : Kept s₀ s) : KeptBy s₀ (Machine.execResponseWindowClose v s) := by
  unfold Machine.execResponseWindowClose
  split
  · exact .ite h.shutWindow.done h.done
  · exact h.done

theorem Kept.anchorFrame {ch h₁ phase : Nat} (h : Kept s₀ s) : Kept s₀ (s.anchorFrame ch h₁ phase) := by
  unfold State.anchorFrame
  dsimp only
  refine .ite h ?_
  split
  · exact h.set
  · exact h.setTrack

theorem Kept.countFrame {v : VoiceId} {g : Grant} {r : CellRun} (h : Kept s₀ s) : Kept s₀ (s.countFrame v g r) := by
  unfold State.countFrame
  dsimp only
  refine .ite (Kept.ite (Kept.ite h.inc.inc h.inc).add.inc.voiceEvent (Kept.ite h.inc.inc h.inc).add).voiceEvent ?_
  exact .ite (Kept.ite h.inc.inc h.inc).add.inc.voiceEvent (Kept.ite h.inc.inc h.inc).add

theorem Kept.judged {v : VoiceId} {ch : Nat} {x : Exchange} {range : Nat} (h : Kept s₀ s) : Kept s₀ (s.judged v ch x range) :=
  .ite h.countStatus.wrAll h.countStatus

theorem Kept.execReplyFrameEnd {v : VoiceId} {frame : TagFrame} (h : Kept s₀ s) : KeptBy s₀ (Machine.execReplyFrameEnd v frame s) := by
  unfold Machine.execReplyFrameEnd
  dsimp only
  split
  · refine .ite h.done (.done (KeptFst.took (Kept.fst ?_)))
    split
    · exact h.countFrame.setExchange.countWindow.countWindow.receivePoint.react.judged.anchorFrame
    · exact h.countFrame.setExchange.countWindow.countWindow.receivePoint.react.judged
  · exact h.done

theorem Kept.execWtxBudgetExpired {v : VoiceId} (h : Kept s₀ s) : KeptBy s₀ (Machine.execWtxBudgetExpired v s) := by
  unfold Machine.execWtxBudgetExpired
  dsimp only
  split
  · split
    · exact .ite h.cancel.cancel.cancel.setExchange.receivePoint.deselect.took.done h.done
    · exact h.done
  · exact h.done

theorem Kept.cardEvent {ch k a b : Nat} (h : Kept s₀ s) : Kept s₀ (s.cardEvent ch k a b) := h.channelEvent

theorem Kept.judgeProbe {ch a : Nat} (h : Kept s₀ s) : Kept s₀ (s.judgeProbe ch a) :=
  .ite h.wrAll (.ite (.ite h.wr.wakeBy.cardEvent h) (.ite h.wr.wakeBy.cardEvent h.wr))

theorem Kept.execCardProbe {ch : Channel} {amplitude : Nat} (h : Kept s₀ s) : KeptBy s₀ (Machine.execCardProbe ch amplitude s) :=
  .ite (.ite h.armIn.wr.done (.ite h.arm.done h.armIn.setVoice.judgeProbe.wr.done)) h.done

theorem Kept.detectWrite {ch sub v : Nat} (h : Kept s₀ s) : Kept s₀ (s.detectWrite ch sub v) :=
  .ite (.ite h.wrAll.cancel (.ite h (Kept.ite h.wrAll.wr h.wrAll).armIn)) h.wr

theorem Kept.authJobDone {v : VoiceId} (h : Kept s₀ s) : Kept s₀ (s.authJobDone v) := by
  unfold State.authJobDone
  split
  · split
    · exact .ite h.authVerdict.took h
    · exact h
  · exact h

theorem Kept.execKeySuspensionEnd {slot : Nat} (h : Kept s₀ s) : KeptBy s₀ (Machine.execKeySuspensionEnd slot s) :=
  .ite (.ite h.cancel.wrAll.done h.cancel.done) h.done

end

end Sys2Proof.Machine
end

section
/-! PROOFS. The canonical forms: the Garlys Line and the mesh carry on (`Kept`), operation by operation in the model's order. -/

namespace Sys2Proof.Machine

section
set_option Elab.async false -- as tasks, these many short proofs would each hold a thread and its stack
variable {s₀ s : State}

/-! ### Machine/LineOps -/

theorem Kept.setLine {n : Nat} (h : Kept s₀ s) : Kept s₀ (s.setLine n) := h.wr

theorem Kept.lineIn_inl {f : LineIn} {type : Nat} {u : State} (h : Kept s₀ s) (e : s.lineIn f type = .inl u) : Kept s₀ u := by
  unfold State.lineIn at e
  split at e
  · cases e; exact h.inc
  · cases e; exact h.inc
  · split at e
    · cases e; exact h
    · cases e

theorem Kept.lineIn_inr {f : LineIn} {type a b c : Nat} {r : Bool} {p : Octets} {u : State} (h : Kept s₀ s)
    (e : s.lineIn f type = .inr (a, b, c, r, p, u)) : Kept s₀ u := by
  unfold State.lineIn at e
  split at e
  · cases e
  · cases e
  · split at e
    · cases e
    · cases e; exact h.inc

theorem Kept.decodedHead {f : LineIn} (h : Kept s₀ s) : Kept s₀ (s.decodedHead f) := h.set.wr
theorem Kept.oweReply {b : Octets} (h : Kept s₀ s) : Kept s₀ (s.oweReply b) := h.set.armIn
theorem Kept.bumpSeq {peer : Nat} (h : Kept s₀ s) : Kept s₀ (s.bumpSeq peer) := h.set

theorem Kept.headSend {dst type seq : Nat} {ask : Option LineAsk} {payload : Octets} {src : Nat} (h : Kept s₀ s) :
    Kept s₀ (s.headSend dst type seq ask payload src) :=
  .ite h.set.inc.armIn h.set.inc.cancel

theorem Kept.lineFailed {t : Option Tenant} {status detail dest : Nat} (h : Kept s₀ s) : Kept s₀ (s.lineFailed t status detail dest) :=
  .ite h h.raise

theorem Kept.lineAnswered {m : LineMsg} (h : Kept s₀ s) : Kept s₀ (s.lineAnswered m) := by
  unfold State.lineAnswered
  split
  · exact h.replyOut
  · exact h

theorem Kept.lineLost {m : LineMsg} {status tries : Nat} (h : Kept s₀ s) : Kept s₀ (s.lineLost m status tries) := h.lineAnswered.lineFailed

theorem Kept.lineReport {t : Tenant} {q : QEvent} {off : Nat} (h : Kept s₀ s) : KeptSnd s₀ (s.lineReport t q off) := by
  unfold State.lineReport
  dsimp only
  exact h.touch.sealReport.bumpSeq.snd

theorem Kept.dropUnqueued (h : Kept s₀ s) : Kept s₀ s.dropUnqueued := h.set

theorem Kept.fillLine (h : Kept s₀ s) : Kept s₀ s.fillLine := by
  unfold State.fillLine
  dsimp only
  refine .ite h.dropUnqueued ?_
  split
  · exact h.dropUnqueued.set
  · split
    · exact h.dropUnqueued.reserveReports
    · exact h.dropUnqueued.reserveReports.lineReport.set

theorem Kept.lineSent {m : LineMsg} (h : Kept s₀ s) : KeptFst s₀ (s.lineSent m) := by
  unfold State.lineSent
  dsimp only
  split
  · exact h.lineAnswered.fst
  · refine .ite h.accept.fst ?_
    split
    · exact .ite h.lineReport.fst h.fst
    · exact h.fst

theorem Kept.lineTake {src : Nat} {payload : Octets} (h : Kept s₀ s) : Kept s₀ (s.lineTake src payload) := by
  unfold State.lineTake
  dsimp only
  split
  · exact h.wr
  · refine .ite h ?_
    split
    · exact h
    · split
      · exact h
      · exact h.set

theorem Kept.drainLine (h : Kept s₀ s) : Kept s₀ s.drainLine := by
  unfold State.drainLine
  dsimp only
  split
  · exact h
  · exact .ite h.set.lineTake h

theorem Kept.lineDeliver {src : Nat} {payload : Octets} (h : Kept s₀ s) : Kept s₀ (s.lineDeliver src payload) := h.set.wakeBy.drainLine
theorem Kept.noteSeq {src seq : Nat} (h : Kept s₀ s) : Kept s₀ (s.noteSeq src seq) := h.set
theorem Kept.setNode {a : Nat} {f : Node → Node} (h : Kept s₀ s) : Kept s₀ (s.setNode a f) := h.set
theorem Kept.startSearch (h : Kept s₀ s) : Kept s₀ s.startSearch := h.set.headSend.inc.raise

theorem Kept.lineNext (h : Kept s₀ s) : Kept s₀ s.lineNext := by
  unfold State.lineNext
  dsimp only
  refine .ite h ?_
  split
  · exact h.set.headSend
  · exact h.set.headSend
  · split
    · split
      · exact .ite h.dropUnqueued.set.headSend h.dropUnqueued.headSend
      · exact h.dropUnqueued.set.headSend
    · exact .ite h.set.startSearch h.set

theorem Kept.answered (h : Kept s₀ s) : Kept s₀ s.answered := h.set.cancel
theorem Kept.nodeHeard {a : Nat} (h : Kept s₀ s) : Kept s₀ (s.nodeHeard a) := .ite h.setNode.raise h.setNode

theorem Kept.nodeMissed {a : Nat} (h : Kept s₀ s) : Kept s₀ (s.nodeMissed a) := by
  unfold State.nodeMissed
  dsimp only
  split
  · exact h
  · exact .ite h.setNode.raise h.setNode

theorem Kept.headUnacked {m : LineMsg} (h : Kept s₀ s) : Kept s₀ (s.headUnacked m) := .ite h.set.lineLost h.set
theorem Kept.endSearch {x : Search} (h : Kept s₀ s) : Kept s₀ (s.endSearch x) := h.set.headSend.raise.lineNext

theorem Kept.searchOn (h : Kept s₀ s) : Kept s₀ s.searchOn := by
  unfold State.searchOn
  split
  · exact h
  · exact .ite h.endSearch h

theorem Kept.vanished {a ident : Nat} (h : Kept s₀ s) : Kept s₀ (s.vanished a ident) := h.inc.raise
theorem Kept.sendAssign {ident a tries : Nat} (h : Kept s₀ s) : Kept s₀ (s.sendAssign ident a tries) := h.headSend
theorem Kept.nodeAssigned {ident a : Nat} (h : Kept s₀ s) : Kept s₀ (s.nodeAssigned ident a) := h.set.commit.raise.searchOn

theorem Kept.assignFailed {ident a tries : Nat} (h : Kept s₀ s) : Kept s₀ (s.assignFailed ident a tries) :=
  .ite h.sendAssign h.setNode.vanished.searchOn

/-! ### Machine/Line -/

theorem Kept.execHeadPollCycle (h : Kept s₀ s) : KeptBy s₀ (Machine.execHeadPollCycle s) := by
  unfold Machine.execHeadPollCycle
  dsimp only
  refine .ite ?_ h.done
  refine .done (.lineNext ?_)
  split
  · exact h.set.armIn.reserveReports.lineReport.set
  · exact h.set.armIn.reserveReports

theorem Kept.execLineReplyDue (h : Kept s₀ s) : KeptBy s₀ (Machine.execLineReplyDue s) := by
  unfold Machine.execLineReplyDue
  dsimp only
  split
  · exact h.done
  · exact .ite (Kept.ite (Kept.ite h.cancel.set h.cancel.set.inc).set (.ite h.cancel.set h.cancel.set.inc)).done h.done

theorem Kept.execLineReplyWindowClose (h : Kept s₀ s) : KeptBy s₀ (Machine.execLineReplyWindowClose s) := by
  unfold Machine.execLineReplyWindowClose
  dsimp only
  split
  · exact h.done
  · refine .ite h.done ?_
    split
    · exact h.answered.inc.nodeMissed.lineNext.done
    · exact h.answered.inc.headUnacked.lineNext.done
    · exact h.answered.inc.lineFailed.lineNext.done
    · exact h.answered.inc.lineNext.done
    · exact h.answered.inc.assignFailed.done

theorem Kept.execLinePollReceived {frame : LineIn} (h : Kept s₀ s) : KeptBy s₀ (Machine.execLinePollReceived frame s) := by
  unfold Machine.execLinePollReceived
  split
  · exact (h.lineIn_inl ‹_›).done
  · next heq =>
      have hf := h.lineIn_inr heq
      extract_lets s₁ line s₂ s₃ s₄ line₁ s₅ line₂ s₆ s₇
      have h₂ : Kept s₀ s₂ := hf.decodedHead.set
      have h₃ : Kept s₀ s₃ := .ite h₂.setLine h₂
      have h₅ : Kept s₀ s₅ := h₃.wr.armIn.set
      have h₆ : Kept s₀ s₆ := by
        unfold s₆
        clear_value s₅
        split
        · exact .ite h₅.set.lineLost h₅
        · exact h₅
      refine .ite hf.done (.ite h₃.done ?_)
      split
      · exact h₆.fillLine.oweReply.done
      · exact h₆.fillLine.oweReply.done

theorem Kept.execLineEmptyReceived {frame : LineIn} (h : Kept s₀ s) : KeptBy s₀ (Machine.execLineEmptyReceived frame s) := by
  unfold Machine.execLineEmptyReceived
  split
  · exact (h.lineIn_inl ‹_›).done
  · next heq =>
      have hf := h.lineIn_inr heq
      exact .ite hf.answered.nodeHeard.lineNext.done hf.done

theorem Kept.headData {dst src seq : Nat} {payload : Octets} (h : Kept s₀ s) : Kept s₀ (s.headData dst src seq payload) := by
  unfold State.headData
  dsimp only
  refine .ite h.answered.nodeHeard.inc.headSend.lineNext ?_
  refine .ite ?_ h.answered.nodeHeard.bumpSeq.headSend.set.noteSeq.lineNext
  exact .ite h.answered.nodeHeard.headSend.lineNext h.answered.nodeHeard.headSend.noteSeq.lineDeliver.lineNext

theorem Kept.execLineDataReceived {frame : LineIn} (h : Kept s₀ s) : KeptBy s₀ (Machine.execLineDataReceived frame s) := by
  unfold Machine.execLineDataReceived
  dsimp only
  split
  · exact (h.lineIn_inl ‹_›).done
  · next heq =>
      have hf := h.lineIn_inr heq
      refine .ite ?_ ?_
      · split
        · exact .ite hf.headData.done hf.done
        · exact hf.done
      · refine .ite hf.done ?_
        refine .ite hf.decodedHead.done ?_
        refine .ite (Kept.ite hf.decodedHead.inc.oweReply hf.decodedHead.inc).done ?_
        refine .ite (Kept.ite hf.decodedHead.oweReply hf.decodedHead).done ?_
        exact (Kept.ite hf.decodedHead.oweReply hf.decodedHead).noteSeq.lineDeliver.done

theorem Kept.execLineAckReceived {frame : LineIn} (h : Kept s₀ s) : KeptBy s₀ (Machine.execLineAckReceived frame s) := by
  unfold Machine.execLineAckReceived
  dsimp only
  split
  · exact (h.lineIn_inl ‹_›).done
  · next heq =>
      have hf := h.lineIn_inr heq
      refine .ite ?_ ?_
      · split
        · exact .ite hf.answered.set.nodeHeard.lineSent.set.lineNext.done hf.done
        · exact .ite hf.answered.set.lineNext.done hf.done
        · exact .ite hf.answered.nodeAssigned.done hf.done
        · exact hf.done
      · refine .ite hf.done ?_
        split
        · exact .ite hf.decodedHead.set.lineSent.set.done hf.decodedHead.done
        · exact hf.decodedHead.done

theorem Kept.execLineNakReceived {frame : LineIn} (h : Kept s₀ s) : KeptBy s₀ (Machine.execLineNakReceived frame s) := by
  unfold Machine.execLineNakReceived
  split
  · exact (h.lineIn_inl ‹_›).done
  · next heq =>
      have hf := h.lineIn_inr heq
      refine .ite ?_ (.ite hf.decodedHead.done hf.done)
      split
      · exact .ite hf.answered.nodeHeard.headUnacked.lineNext.done hf.done
      · exact hf.done

theorem Kept.lineMeasure {d n : Nat} (h : Kept s₀ s) : Kept s₀ (s.lineMeasure d n) := by
  unfold State.lineMeasure
  dsimp only
  split
  · exact h.set
  · exact .ite h (.ite h.inc.raise.set h.wrInt.inc.discipline.set)

theorem Kept.execLineTimeReceived {frame : LineIn} (h : Kept s₀ s) : KeptBy s₀ (Machine.execLineTimeReceived frame s) := by
  unfold Machine.execLineTimeReceived
  dsimp only
  split
  · exact (h.lineIn_inl ‹_›).done
  · next heq =>
      have hf := h.lineIn_inr heq
      refine .ite hf.done ?_
      exact .ite hf.decodedHead.done hf.decodedHead.wr.raise.lineMeasure.setOffset.done

theorem Kept.execLineTimeDue (h : Kept s₀ s) : KeptBy s₀ (Machine.execLineTimeDue s) := .ite h.armIn.headSend.done h.done
theorem Kept.execPresenceDue (h : Kept s₀ s) : KeptBy s₀ (Machine.execPresenceDue s) := .ite h.set.headSend.armIn.done h.done

theorem Kept.execLinePresenceReceived {frame : LineIn} (h : Kept s₀ s) : KeptBy s₀ (Machine.execLinePresenceReceived frame s) := by
  unfold Machine.execLinePresenceReceived
  dsimp only
  split
  · exact (h.lineIn_inl ‹_›).done
  · next heq =>
      have hf := h.lineIn_inr heq
      exact .ite hf.done (Kept.ite hf.decodedHead.oweReply hf.decodedHead).done

theorem Kept.execPresenceSeen (h : Kept s₀ s) : KeptBy s₀ (Machine.execPresenceSeen s) := .ite h.answered.raise.startSearch.done h.done

theorem Kept.execSearchStartReceived {frame : LineIn} (h : Kept s₀ s) : KeptBy s₀ (Machine.execSearchStartReceived frame s) := by
  unfold Machine.execSearchStartReceived
  dsimp only
  split
  · exact (h.lineIn_inl ‹_›).done
  · next heq =>
      have hf := h.lineIn_inr heq
      refine .ite hf.done ?_
      refine .done ?_
      refine .ite (Kept.ite hf.decodedHead.setLine hf.decodedHead).set ?_
      exact .ite hf.decodedHead.setLine hf.decodedHead

theorem Kept.execSearchPassReceived {frame : LineIn} (h : Kept s₀ s) : KeptBy s₀ (Machine.execSearchPassReceived frame s) := by
  unfold Machine.execSearchPassReceived
  dsimp only
  split
  · exact (h.lineIn_inl ‹_›).done
  · next heq =>
      have hf := h.lineIn_inr heq
      refine .ite hf.done ?_
      refine .ite hf.decodedHead.set.done ?_
      refine .ite ?_ hf.decodedHead.done
      exact (Kept.ite hf.decodedHead.setLine hf.decodedHead.setLine.set.raise).done

theorem Kept.execHeadSearchPass {samples : List (Bool × Bool)} (h : Kept s₀ s) : KeptBy s₀ (Machine.execHeadSearchPass samples s) := by
  unfold Machine.execHeadSearchPass
  dsimp only
  split
  · exact h.done
  · split
    · exact h.done
    · refine .ite h.done ?_
      split
      · exact h.headSend.set.vanished.searchOn.done
      · split
        · exact h.headSend.set.sendAssign.done
        · exact h.headSend.set.raise.searchOn.done

theorem Kept.execSearchEndReceived {frame : LineIn} (h : Kept s₀ s) : KeptBy s₀ (Machine.execSearchEndReceived frame s) := by
  unfold Machine.execSearchEndReceived
  dsimp only
  split
  · exact (h.lineIn_inl ‹_›).done
  · next heq =>
      have hf := h.lineIn_inr heq
      exact .ite hf.done (Kept.ite hf.decodedHead.set.setLine hf.decodedHead.set).done

theorem Kept.execAssignReceived {frame : LineIn} (h : Kept s₀ s) : KeptBy s₀ (Machine.execAssignReceived frame s) := by
  unfold Machine.execAssignReceived
  dsimp only
  split
  · exact (h.lineIn_inl ‹_›).done
  · next heq =>
      have hf := h.lineIn_inr heq
      refine .ite hf.done ?_
      refine .ite hf.decodedHead.done ?_
      exact (Kept.ite hf.decodedHead.wrKeep.raise hf.decodedHead).setLine.set.armIn.oweReply.done

theorem Kept.execHeadWalk {seen : List WalkSeen} (h : Kept s₀ s) : KeptBy s₀ (Machine.execHeadWalk seen s) :=
  .ite ((h.set.foldl fun _ _ h => h.headSend.headSend).foldl fun _ _ h => h.setNode.bumpSeq.set).commit.raise.done h.done

theorem Kept.execWalkProbeReceived {frame : LineIn} {rise : Nat} (h : Kept s₀ s) :
    KeptBy s₀ (Machine.execWalkProbeReceived frame rise s) := by
  unfold Machine.execWalkProbeReceived
  dsimp only
  split
  · exact (h.lineIn_inl ‹_›).done
  · next heq =>
      have hf := h.lineIn_inr heq
      exact .ite hf.done (.ite hf.decodedHead.set.done hf.decodedHead.set.done)

theorem Kept.execWalkTallyReceived {frame : LineIn} (h : Kept s₀ s) : KeptBy s₀ (Machine.execWalkTallyReceived frame s) := by
  unfold Machine.execWalkTallyReceived
  dsimp only
  split
  · exact (h.lineIn_inl ‹_›).done
  · next heq =>
      have hf := h.lineIn_inr heq
      exact .ite hf.done (.ite hf.decodedHead.set.done hf.decodedHead.done)

theorem Kept.execIsolateReceived {frame : LineIn} (h : Kept s₀ s) : KeptBy s₀ (Machine.execIsolateReceived frame s) := by
  unfold Machine.execIsolateReceived
  dsimp only
  split
  · exact (h.lineIn_inl ‹_›).done
  · next heq =>
      have hf := h.lineIn_inr heq
      exact .ite hf.done (.ite hf.decodedHead.done hf.decodedHead.oweReply.armIn.done)

theorem Kept.execBypassOpenDue (h : Kept s₀ s) : KeptBy s₀ (Machine.execBypassOpenDue s) := .ite h.cancel.wr.setLine.raise.done h.done
theorem Kept.closeBypass (h : Kept s₀ s) : Kept s₀ s.closeBypass := .ite h.cancel.wr.setLine h.cancel.wr

theorem Kept.execReconnectReceived {frame : LineIn} (h : Kept s₀ s) : KeptBy s₀ (Machine.execReconnectReceived frame s) := by
  unfold Machine.execReconnectReceived
  dsimp only
  split
  · exact (h.lineIn_inl ‹_›).done
  · next heq =>
      have hf := h.lineIn_inr heq
      refine .ite hf.done ?_
      refine .ite hf.decodedHead.done ?_
      exact (Kept.ite hf.decodedHead.closeBypass.oweReply hf.decodedHead.closeBypass).done

theorem Kept.execAddressHoldExpired (h : Kept s₀ s) : KeptBy s₀ (Machine.execAddressHoldExpired s) :=
  .ite (.ite h.cancel.set.wrKeep.closeBypass.setLine.raise.done h.armIn.done) h.done

theorem Kept.execForeignDip (h : Kept s₀ s) : KeptBy s₀ (Machine.execForeignDip s) := .ite h.raise.fault.armIn.done h.done
theorem Kept.execHeadConflictLapse (h : Kept s₀ s) : KeptBy s₀ (Machine.execHeadConflictLapse s) := .ite h.cancel.causeEnd.done h.done

theorem Kept.execLineOvercurrent {current : Nat} (h : Kept s₀ s) : KeptBy s₀ (Machine.execLineOvercurrent current s) :=
  .ite h.answered.set.raise.fault.cancel.armIn.done h.done

theorem Kept.execLineOffHoldEnd (h : Kept s₀ s) : KeptBy s₀ (Machine.execLineOffHoldEnd s) := .ite h.cancel.set.armIn.armIn.done h.done
theorem Kept.execLineOvercurrentLapse (h : Kept s₀ s) : KeptBy s₀ (Machine.execLineOvercurrentLapse s) := .ite h.cancel.causeEnd.done h.done
theorem Kept.searchNow (h : Kept s₀ s) : Kept s₀ s.searchNow := h.set.lineNext
theorem Kept.walkNow (h : Kept s₀ s) : Kept s₀ s.walkNow := h.set
theorem Kept.bypassCommand {type : Nat} (h : Kept s₀ s) : Kept s₀ (s.bypassCommand type) := h.set.lineNext
theorem Kept.releaseNode {a : Nat} (h : Kept s₀ s) : Kept s₀ (s.releaseNode a) := h.set.commit

/-! ### Machine/Mac -/

theorem Kept.pickReport (h : Kept s₀ s) : Kept s₀ s.pickReport := by
  unfold State.pickReport
  dsimp only
  split
  · exact h
  · exact .ite h.set.sendReport h

theorem Kept.takeOut {f : OutFrame} (h : Kept s₀ s) : Kept s₀ (s.takeOut f) := h.set

theorem Kept.execMacFrameSend (h : Kept s₀ s) : KeptBy s₀ (Machine.execMacFrameSend s) := by
  unfold Machine.execMacFrameSend
  dsimp only
  refine .ite h.dropStale.done ?_
  refine .ite h.dropStale.sleepIdle.done ?_
  refine .ite h.dropStale.airStart.done ?_
  refine .ite h.dropStale.done ?_
  split
  · exact h.dropStale.reserveReports.pickReport.done
  · refine .ite ?_ ?_
    · refine .done ?_
      refine .ite h.dropStale.reserveReports.pickReport.takeOut.setCsma.endFrame.faultKeyed ?_
      exact h.dropStale.reserveReports.pickReport.takeOut.setCsma.endFrame
    · split
      · exact h.dropStale.reserveReports.pickReport.takeOut.listenStart.done
      · split
        · exact (h.dropStale.reserveReports.pickReport.number.of_eq ‹_›).done
        · exact (h.dropStale.reserveReports.pickReport.number.of_eq ‹_›).takeOut.listenStart.done

theorem Kept.execLbtListenEnd {energy : Energy} (h : Kept s₀ s) : KeptBy s₀ (Machine.execLbtListenEnd energy s) := by
  unfold Machine.execLbtListenEnd
  dsimp only
  split
  · exact h.dropStale.done
  · refine .ite h.dropStale.done ?_
    refine .ite (.ite h.dropStale.cancel.inc.endFrame.done h.dropStale.cancel.inc.backoff.done) ?_
    exact .ite h.dropStale.cancel.setCsma.arm.done h.dropStale.cancel.setCsma.set.done

theorem Kept.execBackoffExpired (h : Kept s₀ s) : KeptBy s₀ (Machine.execBackoffExpired s) := by
  unfold Machine.execBackoffExpired
  dsimp only
  split
  · exact h.dropStale.done
  · exact .ite h.dropStale.cancel.listenStart.done h.dropStale.done

theorem Kept.execImmAckDue (h : Kept s₀ s) : KeptBy s₀ (Machine.execImmAckDue s) := by
  unfold Machine.execImmAckDue
  dsimp only
  split
  · exact h.done
  · exact .ite h.cancel.set.done h.done

theorem Kept.pendingWait {more : Bool} {from_ : Nat} (h : Kept s₀ s) : Kept s₀ (s.pendingWait more from_) :=
  .ite h (.ite h.set.arm h.set.cancel)

theorem Kept.execImmAckReceived (h : Kept s₀ s) : KeptBy s₀ (Machine.execImmAckReceived s) := by
  unfold Machine.execImmAckReceived
  dsimp only
  split
  · exact .ite (Kept.ite h.set.pendingWait h.set).endFrame.done h.done
  · exact h.done

theorem Kept.execAckWaitClosed (h : Kept s₀ s) : KeptBy s₀ (Machine.execAckWaitClosed s) := by
  unfold Machine.execAckWaitClosed
  dsimp only
  split
  · exact h.done
  · exact .ite h.done (.ite h.cancel.inc.endFrame.done h.cancel.inc.backoff.done)

theorem Kept.hear {r : RxFrame} (h : Kept s₀ s) : KeptOpt s₀ (s.hear r) := by
  unfold State.hear
  dsimp only
  split
  · exact h.set.some
  · exact h.takeNeighbour

theorem Kept.ackFrame {r : RxFrame} (h : Kept s₀ s) : Kept s₀ (s.ackFrame r) := .ite h h.set.arm

theorem Kept.letIn {r : RxFrame} (h : Kept s₀ s) : Kept s₀ (s.letIn r) := by
  unfold State.letIn
  dsimp only
  refine .ite h.inc ?_
  split
  · exact h.inc
  · exact h.inc.raise
  · refine .ite h.inc.raise ?_
    split
    · exact h.inc
    · exact .ite (h.hear ‹_›).inc (.ite (h.hear ‹_›).set.polled (h.hear ‹_›).set)

theorem Kept.execMacFrameReceived (h : Kept s₀ s) : KeptBy s₀ (Machine.execMacFrameReceived s) := by
  unfold Machine.execMacFrameReceived
  dsimp only
  split
  · exact h.done
  · refine .ite ?_ ?_
    · split
      · exact .ite h.done h.set.sleepIdle.done
      · exact h.set.sleepIdle.done
    · refine .ite h.set.sleepIdle.done ?_
      refine .ite h.set.inc.sleepIdle.done ?_
      exact .ite h.set.sleepIdle.done (Kept.ite h.set.ackFrame.pendingWait h.set.ackFrame).letIn.sleepIdle.done

theorem Kept.takeMessage {dispatch : Nat} (h : Kept s₀ s) : KeptOptSnd s₀ (s.takeMessage dispatch) := by
  unfold State.takeMessage
  intro d t e
  split at e
  · cases e
  · cases e; exact h.set

theorem Kept.execPoll (h : Kept s₀ s) : KeptBy s₀ (Machine.execPoll s) := by
  unfold Machine.execPoll
  dsimp only
  split
  · exact h.done
  · exact (h.takeMessage ‹_›).setNeighbour.polled.sleepIdle.done

theorem Kept.meshMeasure {d n : Nat} (h : Kept s₀ s) : Kept s₀ (s.meshMeasure d n) := by
  unfold State.meshMeasure
  dsimp only
  split
  · exact h.set
  · exact .ite h (.ite h.inc.raise.set h.wrInt.inc.discipline.set)

theorem Kept.takeChange {p : Octets} (h : Kept s₀ s) : Kept s₀ (s.takeChange p) :=
  .ite h (.ite h (.ite h (h.wrAll.raise.arm.foldl fun _ _ h => h.holdFor)))

theorem Kept.armUnsync (h : Kept s₀ s) : Kept s₀ s.armUnsync := .ite h.arm h

theorem Kept.acceptTime {d : Delivered} (h : Kept s₀ s) : Kept s₀ (s.acceptTime d) := by
  unfold State.acceptTime
  dsimp only
  refine .takeChange (.armUnsync ?_)
  refine .ite (Kept.ite h.wr.raise.meshMeasure.setOffset.wr h.wr.raise.meshMeasure.setOffset).wr.cancel.tune.set ?_
  exact .ite h.wr.raise.meshMeasure.setOffset.wr h.wr.raise.meshMeasure.setOffset

theorem Kept.scanHears {d : Delivered} (h : Kept s₀ s) : Kept s₀ (s.scanHears d) := by
  unfold State.scanHears
  dsimp only
  split
  · exact h
  · exact h.set

theorem Kept.execTime (h : Kept s₀ s) : KeptBy s₀ (Machine.execTime s) := by
  unfold Machine.execTime
  dsimp only
  split
  · exact h.done
  · next heq =>
      have hf := h.takeMessage heq
      refine .ite ?_ ?_
      · exact .ite hf.setNeighbour.scanHears.raise.fault.armIn.done hf.setNeighbour.scanHears.done
      · refine .ite hf.setNeighbour.scanHears.acceptTime.sleepIdle.done ?_
        refine .ite hf.setNeighbour.scanHears.acceptTime.sleepIdle.done ?_
        exact hf.setNeighbour.scanHears.sleepIdle.done

theorem Kept.deliverAnswer {ext : Nat} {message : Octets} (h : Kept s₀ s) : Kept s₀ (s.deliverAnswer ext message) := by
  unfold State.deliverAnswer
  extract_lets s₁ j mac s₂ a sleepy mac₁ s₃ s₄ up mac₂ s₅ s₆ s₇
  have h₂ : Kept s₀ s₂ := h.sendMac.set
  have h₃ : Kept s₀ s₃ := h₂.set
  have h₄ : Kept s₀ s₄ := by
    unfold s₄
    clear_value s₃
    split
    · exact h₃
    · exact h₃.takeNeighbour.getD h₃
  have h₅ : Kept s₀ s₅ := h₄.set
  have h₇ : Kept s₀ s₇ := .ite h₅.raise h₅.raise.armIn
  exact .ite h₂ (.ite h₇.armIn h₅.raise)

theorem Kept.joinAnswer {ext parent depth : Nat} (h : Kept s₀ s) : KeptSnd s₀ (s.joinAnswer ext parent depth) := by
  unfold State.joinAnswer
  dsimp only
  refine .ite h.snd ?_
  refine .ite h.snd ?_
  split
  · exact h.snd
  · exact h.set.commit.snd

theorem Kept.execJoinRequest (h : Kept s₀ s) : KeptBy s₀ (Machine.execJoinRequest s) := by
  unfold Machine.execJoinRequest
  dsimp only
  split
  · exact h.done
  · next heq =>
      have hf := h.takeMessage heq
      split
      · exact hf.inc.done
      · refine .ite hf.set.joinAnswer.deliverAnswer.done ?_
        exact .ite hf.set.originate.done hf.set.done

theorem Kept.armSlot (h : Kept s₀ s) : Kept s₀ s.armSlot := .ite h.arm h

theorem Kept.armBroadcast (h : Kept s₀ s) : Kept s₀ s.armBroadcast := by
  unfold State.armBroadcast
  dsimp only
  exact .ite h (.ite h.random.arm h.random.arm)

theorem Kept.joinedWork (h : Kept s₀ s) : Kept s₀ s.joinedWork := by
  unfold State.joinedWork
  dsimp only
  exact .ite h.loadHops.armSlot.armBroadcast.armUnsync.tune.armIn h.loadHops.armSlot.armBroadcast.armUnsync.tune

theorem Kept.execJoinAccept (h : Kept s₀ s) : KeptBy s₀ (Machine.execJoinAccept s) := by
  unfold Machine.execJoinAccept
  dsimp only
  split
  · exact h.done
  · next heq =>
      have hf := h.takeMessage heq
      split
      · exact hf.done
      · exact .ite hf.done hf.cancel.cancel.wrKeep.wrAll.set.raise.joinedWork.sleepIdle.done

theorem Kept.execJoinDeny (h : Kept s₀ s) : KeptBy s₀ (Machine.execJoinDeny s) := by
  unfold Machine.execJoinDeny
  split
  · exact h.done
  · next heq =>
      have hf := h.takeMessage heq
      exact .ite hf.joinFailed.done hf.done

theorem Kept.chooseHome (h : Kept s₀ s) : Kept s₀ s.chooseHome := by
  unfold State.chooseHome
  dsimp only
  refine .ite h ?_
  split
  · exact h.wrKeep
  · exact h

theorem Kept.defaultHops (h : Kept s₀ s) : Kept s₀ s.defaultHops := .ite h.wr h

theorem Kept.becomeCoordinator (h : Kept s₀ s) : Kept s₀ s.becomeCoordinator := by
  unfold State.becomeCoordinator
  dsimp only
  exact (Kept.ite h.cancel.set.wrAll.chooseHome.defaultHops.random.wrKeep h.cancel.set.wrAll.chooseHome.defaultHops).joinedWork

theorem Kept.scanDone {x : Scan} (h : Kept s₀ s) : Kept s₀ (s.scanDone x) := by
  unfold State.scanDone
  dsimp only
  refine .ite h.becomeCoordinator ?_
  refine .ite (Kept.ite h.wrAll.set h).scanOver ?_
  split
  · exact (Kept.ite h.wrAll.set h).chooseParent
  · exact (Kept.ite h.wrAll.set h).chooseParent.acceptTime

theorem Kept.execJoinScanEnd (h : Kept s₀ s) : KeptBy s₀ (Machine.execJoinScanEnd s) := by
  unfold Machine.execJoinScanEnd
  dsimp only
  split
  · exact h.done
  · refine .ite h.done ?_
    split
    · exact .ite h.set.tune.armIn.done h.scanDone.done
    · exact h.scanDone.done

theorem Kept.execJoinTimeout (h : Kept s₀ s) : KeptBy s₀ (Machine.execJoinTimeout s) := .ite h.joinFailed.done h.done

theorem Kept.execJoinRetry (h : Kept s₀ s) : KeptBy s₀ (Machine.execJoinRetry s) :=
  .ite (Kept.ite h.cancel.wakeBy.startScan h.cancel).done h.done

theorem Kept.execCoordinatorConflictLapse (h : Kept s₀ s) : KeptBy s₀ (Machine.execCoordinatorConflictLapse s) :=
  .ite h.cancel.causeEnd.done h.done

theorem Kept.execSlotBoundary (h : Kept s₀ s) : KeptBy s₀ (Machine.execSlotBoundary s) :=
  .ite (.ite h.cancel.done h.tune.armSlot.done) h.done

theorem Kept.execTimeBroadcastDue (h : Kept s₀ s) : KeptBy s₀ (Machine.execTimeBroadcastDue s) :=
  .ite (.ite h.cancel.done h.cancel.sendMac.armBroadcast.done) h.done

theorem Kept.execUnsynchronised (h : Kept s₀ s) : KeptBy s₀ (Machine.execUnsynchronised s) :=
  .ite h.cancel.wr.raise.set.tune.airStart.armIn.done h.done

theorem Kept.execUnsyncScanTimeout (h : Kept s₀ s) : KeptBy s₀ (Machine.execUnsyncScanTimeout s) := .ite h.cancel.parentLost.done h.done
theorem Kept.homeRequest {v : Nat} (h : Kept s₀ s) : Kept s₀ (s.homeRequest v) := h.wrAll.raise.arm.foldl fun _ _ h => h.holdFor

theorem Kept.execHomeChannelSwitch (h : Kept s₀ s) : KeptBy s₀ (Machine.execHomeChannelSwitch s) :=
  .ite h.cancel.wrKeep.wr.tune.raise.done h.done

theorem Kept.execPollIntervalExpired (h : Kept s₀ s) : KeptBy s₀ (Machine.execPollIntervalExpired s) :=
  .ite (.ite h.wakeBy.armIn.wantPoll.airStart.done h.cancel.done) h.done

theorem Kept.execPendingWaitExpired (h : Kept s₀ s) : KeptBy s₀ (Machine.execPendingWaitExpired s) :=
  .ite h.cancel.set.sleepIdle.done h.done

theorem Kept.execSyncTimeInsert (h : Kept s₀ s) : KeptBy s₀ (Machine.execSyncTimeInsert s) :=
  (h.foldl fun _ _ h => .ite h.holdFor.armIn h).done

theorem Kept.execIndirectExpired {id : Nat} (h : Kept s₀ s) : KeptBy s₀ (Machine.execIndirectExpired id s) := by
  unfold Machine.execIndirectExpired
  dsimp only
  split
  · exact h.done
  · exact .ite h.dropIndirect.inc.raise.kindEnded.txFailed.done h.done

theorem Kept.execChildExpired {child : Nat} (h : Kept s₀ s) : KeptBy s₀ (Machine.execChildExpired child s) :=
  .ite (h.cancel.cancel.foldl fun _ _ h => h.dropIndirect.kindEnded.txFailed).set.raise.done h.done

theorem Kept.cueFor {f : Indirect} (h : Kept s₀ s) : Kept s₀ (s.cueFor f) := h.set.cueTo

theorem Kept.execCueDelayExpired {id : Nat} (h : Kept s₀ s) : KeptBy s₀ (Machine.execCueDelayExpired id s) := by
  unfold Machine.execCueDelayExpired
  split
  · exact h.cancel.done
  · exact .ite (Kept.ite h.cancel.cueFor h.cancel).done h.done

theorem Kept.execCueRetryDue {id : Nat} (h : Kept s₀ s) : KeptBy s₀ (Machine.execCueRetryDue id s) := by
  unfold Machine.execCueRetryDue
  split
  · exact h.cancel.done
  · exact .ite (Kept.ite h.cancel.cueFor h.cancel).done h.done

theorem Kept.learnRoute {x via : Nat} (h : Kept s₀ s) : Kept s₀ (s.learnRoute x via) := .ite h (.ite h h.set.armIn)

theorem Kept.noteDup {key : Nat} (h : Kept s₀ s) : Kept s₀ (s.noteDup key) := by
  unfold State.noteDup
  dsimp only
  refine .armIn (.set ?_)
  exact KeptSnd.ite (h.foldl fun _ _ h => h.cancel).snd h.snd

theorem Kept.meshInner {orig hops inner : Nat} {body : Octets} (h : Kept s₀ s) : Kept s₀ (s.meshInner orig hops inner body) := by
  unfold State.meshInner
  dsimp only
  split
  · split
    · split
      · exact h.set
      · exact h
    · exact h
  · exact .ite h h.joinAnswer.originate
  · exact h.deliverAnswer
  · exact h

theorem Kept.execMesh (h : Kept s₀ s) : KeptBy s₀ (Machine.execMesh s) := by
  unfold Machine.execMesh
  dsimp only
  split
  · exact h.done
  · next heq =>
      have hf := h.takeMessage heq
      refine .ite hf.learnRoute.inc.sleepIdle.done ?_
      refine .ite hf.learnRoute.noteDup.meshInner.sleepIdle.done ?_
      refine .ite hf.learnRoute.noteDup.sleepIdle.done ?_
      exact .ite hf.learnRoute.noteDup.inc.done hf.learnRoute.noteDup.inc.passMesh.done

theorem Kept.execRouteLapse {dest : Nat} (h : Kept s₀ s) : KeptBy s₀ (Machine.execRouteLapse dest s) := .ite h.cancel.set.done h.done
theorem Kept.execMeshDupLapse {pair : Nat} (h : Kept s₀ s) : KeptBy s₀ (Machine.execMeshDupLapse pair s) := .ite h.cancel.set.done h.done
theorem Kept.execReportRetryDue {t : Tenant} (h : Kept s₀ s) : KeptBy s₀ (Machine.execReportRetryDue t s) := .ite h.freeReport.done h.done
theorem Kept.releaseAddress {v : Nat} (h : Kept s₀ s) : Kept s₀ (s.releaseAddress v) := h.set.commit

end

end Sys2Proof.Machine
end

section
/-! PROOFS. The canonical forms: metronomes, tenants, resets, images, links and supplies carry on (`Kept`), operation by operation in the
model's order. -/

namespace Sys2Proof.Machine

section
set_option Elab.async false -- as tasks, these many short proofs would each hold a thread and its stack
variable {s₀ s : State}

/-! ### Machine/Metronomes -/

theorem Kept.drivePins {m : MetroId} {j : Nat} (h : Kept s₀ s) : Kept s₀ (s.drivePins m j) :=
  .ite h (h.foldl fun _ _ h => .ite (.ite (.ite h.wr (.ite h.wr h)) (.ite h.wr h)) h)

theorem Kept.metroRaise {m : MetroId} {j at_ count : Nat} {up : Bool} (h : Kept s₀ s) : Kept s₀ (s.metroRaise m j at_ count up) := by
  unfold State.metroRaise
  dsimp only
  refine .ite h.drivePins.wakeBy.inc ?_
  refine .ite h.drivePins.wakeBy.raiseAt ?_
  refine .ite ?_ ?_
  · refine .inc (.set ?_)
    split
    · exact h.drivePins.wakeBy.links1
    · exact h.drivePins.wakeBy
  · refine .raiseAt ?_
    split
    · exact h.drivePins.wakeBy.links1
    · exact h.drivePins.wakeBy

theorem Kept.applyStride {m : MetroId} {c : Nat} (h : Kept s₀ s) : Kept s₀ (s.applyStride m c) := .ite h (.ite h.wr h.wr.setMetro)

theorem Kept.metroMatch {m : MetroId} (h : Kept s₀ s) : KeptOpt s₀ (s.metroMatch m) := by
  unfold State.metroMatch
  dsimp only
  split
  · exact .none
  · exact .ite .none h.setMetro.applyStride.metroRaise.some

theorem Kept.execMetronomeCompare {m : MetroId} (h : Kept s₀ s) : KeptBy s₀ (Machine.execMetronomeCompare m s) := (h.metroMatch.getD h).done

theorem Kept.reload {m : MetroId} {at_ : Nat} (h : Kept s₀ s) : Kept s₀ (s.reload m at_) := by
  unfold State.reload
  dsimp only
  refine .ite h.wr.setMetro ?_
  split
  · exact h.wr.setMetro
  · exact .ite h.wr.setMetro.wr.setMetro h.wr.setMetro.setMetro

theorem Kept.metroZero {m : MetroId} (h : Kept s₀ s) : KeptOpt s₀ (s.metroZero m) := by
  unfold State.metroZero
  dsimp only
  split
  · exact .none
  · exact (Kept.ite h.wr.wr.setMetro h.wr.reload).metroRaise.some

theorem Kept.execMetronomeZero {m : MetroId} (h : Kept s₀ s) : KeptBy s₀ (Machine.execMetronomeZero m s) := (h.metroZero.getD h).done

theorem Kept.metroTurn {m : MetroId} (h : Kept s₀ s) : KeptOpt s₀ (s.metroTurn m) := by
  unfold State.metroTurn
  dsimp only
  split
  · exact .none
  · exact h.wr.setMetro.metroRaise.some

theorem Kept.execMetronomeTop {m : MetroId} (h : Kept s₀ s) : KeptBy s₀ (Machine.execMetronomeTop m s) := (h.metroTurn.getD h).done
theorem Kept.metroBegin {m : MetroId} (h : Kept s₀ s) : KeptOpt s₀ (s.metroBegin m) := .ite h.metroRun.wakeBy.some .none

theorem Kept.execMetronomeStartInstant {m : MetroId} (h : Kept s₀ s) : KeptBy s₀ (Machine.execMetronomeStartInstant m s) :=
  (h.metroBegin.getD h).done

theorem Kept.metroNext {m : MetroId} (h : Kept s₀ s) : KeptOpt s₀ (s.metroNext m) :=
  h.metroBegin.orElse (h.metroMatch.orElse (h.metroZero.orElse h.metroTurn))

theorem Kept.metroCatch {n : Nat} {m : MetroId} (h : Kept s₀ s) : Kept s₀ (State.metroCatch n s m) := by
  induction n generalizing s with
  | zero => exact h
  | succ n ih =>
    unfold State.metroCatch
    split
    · exact ih (h.metroNext ‹_›)
    · exact h

theorem Kept.metroCaught {m : MetroId} (h : Kept s₀ s) : Kept s₀ (s.metroCaught m) := h.metroCatch

theorem Kept.metroCommand {m : MetroId} {v : Nat} (h : Kept s₀ s) : Kept s₀ (s.metroCommand m v) := by
  unfold State.metroCommand
  dsimp only
  split
  · exact h.metroStart
  · exact h.metroStop
  · exact .ite h.metroRestart h.metroArm
  · exact h

theorem Kept.periodWrite {m : MetroId} {v : Nat} (h : Kept s₀ s) : Kept s₀ (s.periodWrite m v) :=
  .ite (.ite h.wr.wr.wr.setMetro.metroRaise h.wr.wr) h.wr

theorem Kept.metroRebase {m : MetroId} {w : Nat} (h : Kept s₀ s) : Kept s₀ (s.metroRebase m w) := .ite h.setMetro h

theorem Kept.compareWrite {m : MetroId} {v : Nat} (h : Kept s₀ s) : Kept s₀ (s.compareWrite m v) := by
  unfold State.compareWrite
  dsimp only
  exact h.metroRebase.wrAll.setMetro

/-! ### Machine/TenantOps -/

theorem Kept.forgetKeys {p : Nat → Bool} (h : Kept s₀ s) : Kept s₀ (s.forgetKeys p) := h.setTabs (Tab.wf_filter _ _ _) id
theorem Kept.copiesBack {t : Tenant} (h : Kept s₀ s) : Kept s₀ (s.copiesBack t) := h.forgetKeys

theorem Kept.abandonVoice {v : VoiceId} (h : Kept s₀ s) : Kept s₀ (s.abandonVoice v) := by
  unfold State.abandonVoice
  dsimp only
  split
  · exact .ite h.setVoice h.releaseVoice
  · exact h.releaseVoice

theorem Kept.abandonSteps {t : Tenant} (h : Kept s₀ s) : Kept s₀ (s.abandonSteps t) := by
  unfold State.abandonSteps
  dsimp only
  refine (h.set.foldl fun _ _ h => .ite h (.ite h.add.abandonVoice (.ite h.add.abandonVoice h.add.setVoice))).foldl fun _ _ h => ?_
  exact .ite h.cancelAll.scoreRest.wr.setScore h

theorem Kept.dropRequests {t : Tenant} (h : Kept s₀ s) : Kept s₀ (s.dropRequests t) := h.setQueue.cancel.set
theorem Kept.dropReports {t : Tenant} (h : Kept s₀ s) : Kept s₀ (s.dropReports t) := h.add.setBox.dropFrames.set.freeReport

theorem Kept.tenantCleared {t : Tenant} (h : Kept s₀ s) : Kept s₀ (s.tenantCleared t) :=
  (h.abandonSteps.abortTunings.dropRequests.dropReports.pocketLeave.foldl fun _ _ h => h.setVoice).copiesBack

theorem Kept.tenantReset {t : Tenant} (h : Kept s₀ s) : Kept s₀ (s.tenantReset t) := .ite h.wr.tenantCleared h
theorem Kept.tenantBack {t : Tenant} (h : Kept s₀ s) : Kept s₀ (s.tenantBack t) := h.inc.wrAll.commit

theorem Kept.clearSlot {i : ScoreId} (h : Kept s₀ s) : Kept s₀ (s.clearSlot i) := by
  unfold State.clearSlot
  dsimp only
  exact h.cancelAll.forgetKeys.setScore

theorem Kept.emptySlot {c : Nat} (h : Kept s₀ s) : Kept s₀ (s.emptySlot c) := (h.foldl fun _ _ h => h.reset1).cancel

theorem Kept.keyGone {c : Nat} (h : Kept s₀ s) : Kept s₀ (s.keyGone c) :=
  .ite (h.foldl fun _ _ h => h.setVoice) (.ite (Kept.ite h.pocketClose h).commissionPage h)

theorem Kept.domainDeleted {t : Tenant} (h : Kept s₀ s) : Kept s₀ (s.domainDeleted t) :=
  h.set.cancel.foldl fun _ _ h => .ite h.setRecord.commit.raise h.setRecord.commit

theorem Kept.tenantFreed {t : Tenant} (h : Kept s₀ s) : Kept s₀ (s.tenantFreed t) := by
  unfold State.tenantFreed
  extract_lets keys gone chans slots metros s₁ s₂ s₃ s₄ cal s₅ s₆ s₇ s₈ s₉ s₁₀
  have h₂ : Kept s₀ s₂ := h.wr.foldl fun _ _ h => .ite h.allot h
  have h₃ : Kept s₀ s₃ := h₂.foldl fun _ _ h => .ite h.metroDefaults h
  have h₄ : Kept s₀ s₄ := h₃.foldl fun _ _ h => .ite h.clearSlot h
  have h₅ : Kept s₀ s₅ := h₄.set
  have h₆ : Kept s₀ s₆ := .ite h₅ h₅.commit
  have h₇ : Kept s₀ s₇ := h₆.foldl fun _ _ h => .ite h.emptySlot.keyGone.raise h
  have h₉ : Kept s₀ s₉ := h₇.setBox.foldl fun _ _ h => h.reset1
  have h₁₀ : Kept s₀ s₁₀ := h₉.set
  exact h₁₀.commit

theorem Kept.tenantDelete {t : Tenant} (h : Kept s₀ s) : Kept s₀ (s.tenantDelete t) := by
  unfold State.tenantDelete
  dsimp only
  exact (h.foldl fun _ _ h => .ite h.metroCaught h).wr.tenantCleared.domainDeleted.commit.tenantFreed

/-! ### Machine/ResetOps -/

theorem Kept.askReset {r : Reach} {cause kind requester detail : Nat} {reply : Option Nat} (h : Kept s₀ s) :
    Kept s₀ (s.askReset r cause kind requester detail reply) :=
  h.set

theorem Kept.retire {d : Die} (h : Kept s₀ s) : Kept s₀ (s.retire d) := by
  unfold State.retire
  dsimp only
  refine .wr (.wr ?_)
  exact KeptSnd.ite h.add.setLink.snd h.add.setLink.free1

theorem Kept.newEpoch {d : Die} (h : Kept s₀ s) : Kept s₀ (s.newEpoch d) := (Kept.ite h.wr.dropWindow h.wr).retire
theorem Kept.linkTimers {d : Die} (h : Kept s₀ s) : Kept s₀ (s.linkTimers d) := h.cancel.cancel
theorem Kept.linkTo {d : Die} {n : Nat} (h : Kept s₀ s) : Kept s₀ (s.linkTo d n) := .ite h.wr h.wr.causeEnd

theorem Kept.linkDown {d : Die} (h : Kept s₀ s) : Kept s₀ (s.linkDown d) := by
  unfold State.linkDown
  dsimp only
  exact h.linkTimers.linkTo.newEpoch.setLink

theorem Kept.retireSteps (h : Kept s₀ s) : Kept s₀ s.retireSteps := h.foldl fun _ _ h => h.cutStep

theorem Kept.fieldAbandon (h : Kept s₀ s) : Kept s₀ s.fieldAbandon :=
  ((h.abortTunings.foldl fun _ _ h => h.dropVoice).foldl fun _ _ h => .ite h.wrAll.cancel h).set.boostIdle

theorem Kept.retireAir (h : Kept s₀ s) : Kept s₀ s.retireAir := h.set.foldl fun _ _ h => h.txEnded

theorem Kept.airCut (h : Kept s₀ s) : Kept s₀ s.airCut := by
  unfold State.airCut
  extract_lets st ramped s₁ s₂ stopped air s₃ s₄ us s₅ s₆
  have h₃ : Kept s₀ s₃ := h.cueStop.retireAir.cancel.cancel.cancel.cancel.cancel.cancel.cancel.cancel.set
  have h₄ : Kept s₀ s₄ := .ite h₃.wr h₃
  have h₅ : Kept s₀ s₅ := by
    unfold s₅
    clear_value s₄
    split
    · exact h₄.txEnded
    · exact h₄
  have h₆ : Kept s₀ s₆ := h₅
  exact .ite h₅.setAir.armIn (.ite h₆.setAir.set.feOff (.ite h₄ h₄.airOff))

theorem Kept.airAbandon (h : Kept s₀ s) : Kept s₀ s.airAbandon := h.abortTunings.airCut

theorem Kept.lineAbandon (h : Kept s₀ s) : Kept s₀ s.lineAbandon := by
  unfold State.lineAbandon
  dsimp only
  refine .set (.closeBypass (.cancel (.cancel ?_)))
  split
  · refine .ite ?_ ?_
    · split
      · exact h.lineLost
      · exact h.lineFailed
      · exact h
    · refine .lineLost ?_
      split
      · exact h.lineLost
      · exact h.lineFailed
      · exact h
  · split
    · exact h.lineLost
    · exact h.lineFailed
    · exact h

theorem Kept.bridgeRetired (h : Kept s₀ s) : Kept s₀ s.bridgeRetired := h.bridgeEnd

theorem Kept.retireWork {x : Die} (h : Kept s₀ s) : Kept s₀ (s.retireWork x) := by
  unfold State.retireWork
  split
  · exact h.retireSteps
  · exact h.retireAir
  · split
    · exact h.lineLost
    · exact h
  · exact h.bridgeRetired

theorem Kept.lineDown (h : Kept s₀ s) : Kept s₀ s.lineDown := h.lineAbandon.cancelAll.setLine.wr

theorem Kept.dieDown {d : Die} {hard : Bool} (h : Kept s₀ s) : Kept s₀ (s.dieDown d hard) := by
  unfold State.dieDown
  dsimp only
  split
  · exact h.linkDown.fieldAbandon.wr
  · exact h.linkDown.airAbandon.sealForget
  · exact h.linkDown.lineDown
  · exact (Kept.ite h.linkDown.tearCommit h.linkDown).pocketStop

theorem Kept.macLost (h : Kept s₀ s) : Kept s₀ s.macLost := h.set.wrAll

theorem Kept.uncommit {c : Commit} (h : Kept s₀ s) : Kept s₀ (s.uncommit c) := by
  unfold State.uncommit
  split
  · exact h.wrAll
  · exact h.wrAll
  · exact h

theorem Kept.conductorLost (h : Kept s₀ s) : Kept s₀ s.conductorLost := by
  unfold State.conductorLost
  extract_lets s₁ s₂ s₃ s₄ s₅ s₆ s₇
  have h₂ : Kept s₀ s₂ := h.set.foldl fun _ _ h => h.scoreRest.setScore
  have h₃ : Kept s₀ s₃ := h₂.foldl fun _ _ h => .ite h.setVoice.releaseVoice h.setVoice
  have h₅ : Kept s₀ s₅ := h₃.abortTunings.foldl fun _ _ h => h.uncommit
  have h₆ : Kept s₀ s₆ := h₅.cancelAll.macLost.sealForget.bridgeRetired
  have h₇ : Kept s₀ s₇ := .ite h₆.wr.wr h₆
  clear_value s₇
  exact h₇.same

theorem Kept.holdPins {r : Reach} (h : Kept s₀ s) : Kept s₀ (s.holdPins r) :=
  .ite ((Kept.ite h.set h).foldl fun _ _ h => h.wrAll) (.ite h.set h)

theorem Kept.driveReset {r : Reach} {cause : Nat} (h : Kept s₀ s) : Kept s₀ (s.driveReset r cause) := .ite h.set.armIn h
theorem Kept.blockRecord {d : Die} {cause requester : Nat} (h : Kept s₀ s) : Kept s₀ (s.blockRecord d cause requester) := h.wr

theorem Kept.recordCause {l : List Pending} {r : Reach} {first : Bool} (h : Kept s₀ s) : Kept s₀ (s.recordCause l r first) := by
  unfold State.recordCause
  dsimp only
  split
  · exact h
  · exact .ite (Kept.ite h.wr.wr.wrAll h.wr.wr).wr (.ite h.wr.wr.wrAll h.wr.wr)

theorem Kept.conductorDown (h : Kept s₀ s) : Kept s₀ s.conductorDown := by
  unfold State.conductorDown
  extract_lets again stopped s₁ s₂ s₃ time s₄ rst s₅
  have h₃ : Kept s₀ s₃ := h.conductorLost.wr.foldl fun _ _ h => h.linkTimers.linkTo.retire
  have h₄ : Kept s₀ s₄ := .ite h₃.set h₃
  have h₅ : Kept s₀ s₅ := h₄.set
  exact .ite h₅ h₅.setRun

theorem Kept.assertResets {l : List Pending} {hard : Bool} (h : Kept s₀ s) : Kept s₀ (s.assertResets l hard) := by
  unfold State.assertResets
  extract_lets old r fresh first s₁ p s₂ s₃ s₄ s₅ stopped rst reach s₆ rst' s₇
  have h₁ : Kept s₀ s₁ := h.recordCause
  have h₃ : Kept s₀ s₃ := (Kept.ite h₁ (h₁.foldl fun _ _ h => h.blockRecord)).holdPins
  have h₄ : Kept s₀ s₄ := .ite h₃.conductorDown h₃
  have h₅ : Kept s₀ s₅ := h₄.foldl fun _ _ h => h.dieDown
  have h₆ : Kept s₀ s₆ := .ite h₅.cancel.set h₅
  have h₇ : Kept s₀ s₇ := h₆.set
  exact h₇.driveReset

theorem Kept.assertNow {r : Reach} {cause detail : Nat} {hard : Bool} (h : Kept s₀ s) : Kept s₀ (s.assertNow r cause detail hard) :=
  h.assertResets

theorem Kept.assertOrWait {r : Reach} {cause detail : Nat} (h : Kept s₀ s) : Kept s₀ (s.assertOrWait r cause detail) :=
  .ite h.askReset h.assertNow

theorem Kept.tenantAsked {n : Nat} (h : Kept s₀ s) : Kept s₀ (s.tenantAsked n) := by
  unfold State.tenantAsked
  split
  · exact .ite h h.tenantReset
  · exact h

theorem Kept.applyResets {between : Bool} (h : Kept s₀ s) : Kept s₀ (s.applyResets between) := by
  unfold State.applyResets
  extract_lets ripe rst s₁ s₂ s₃ devs held l r rst' l'
  have h₃ : Kept s₀ s₃ := (h.set.foldl fun _ _ h => h.cancel).foldl fun _ _ h => h.tenantAsked
  refine .ite h₃ (.ite ?_ h₃.assertResets)
  clear_value s₃
  split
  · exact h₃.set.armIn
  · exact h₃.set

theorem Kept.linkCut {d : Die} (h : Kept s₀ s) : Kept s₀ (s.linkCut d) := h.linkTimers.linkTo.newEpoch
theorem Kept.linkReport {d : Die} (h : Kept s₀ s) : Kept s₀ (s.linkReport d) := h.retireWork.setLink.inc.raise.fault.armIn
theorem Kept.linkFailed {d : Die} (h : Kept s₀ s) : Kept s₀ (s.linkFailed d) := h.linkCut.linkReport

theorem Kept.reloadDie {d : Die} (h : Kept s₀ s) : Kept s₀ (s.reloadDie d) := by
  unfold State.reloadDie
  dsimp only
  split
  · exact h.setLink.applyReady.loadLimits.foldl fun _ _ h => h.foldl fun _ _ h => h.startTuning
  · exact h.setLink.applyReady.set.startTuning.cueStart
  · exact .ite h.setLink.applyReady.wr.setLine.set.armIn.armIn (.ite h.setLink.applyReady.setLine h.setLink.applyReady.wr.setLine.armIn)
  · exact h.setLink.applyReady

theorem Kept.linkStarting {d : Die} (h : Kept s₀ s) : Kept s₀ (s.linkStarting d) := h.linkTimers.linkTo

/-! ### Machine/ImageOps -/

theorem Kept.setBank {target bank n : Nat} (h : Kept s₀ s) : Kept s₀ (s.setBank target bank n) := h.wr
theorem Kept.imageEvent {e target status bank : Nat} (h : Kept s₀ s) : Kept s₀ (s.imageEvent e target status bank) := h.raise
theorem Kept.imageIdle {status : Nat} (h : Kept s₀ s) : Kept s₀ (s.imageIdle status) := h.wrAll

theorem Kept.restartTarget {target : Nat} (h : Kept s₀ s) : Kept s₀ (s.restartTarget target) :=
  .ite (.ite h.set.askReset h.set.armIn) (.ite h.set.askReset.airStop h.set.askReset)

theorem Kept.trialOver (h : Kept s₀ s) : Kept s₀ s.trialOver := h.cancel.cancel

theorem Kept.revertTrial (h : Kept s₀ s) : Kept s₀ s.revertTrial := by
  unfold State.revertTrial
  dsimp only
  split
  · exact h
  · exact h.trialOver.setBank.imageIdle.inc.imageEvent.fault

theorem Kept.imageLoaded {target : Nat} (h : Kept s₀ s) : Kept s₀ (s.imageLoaded target) := by
  unfold State.imageLoaded
  dsimp only
  refine .ite h ?_
  refine .ite h.set.wr.setBank.wr.imageEvent ?_
  split
  · exact (Kept.ite h.set.setBank h.set).wr.setBank.causeEnd
  · exact h.set

/-! ### Machine/Reset -/

theorem Kept.applyPin {g : Nat} {fresh : Bool} (h : Kept s₀ s) : Kept s₀ (s.applyPin g fresh) := by
  unfold State.applyPin
  dsimp only
  refine .ite h ?_
  split
  · exact h.wrAll
  · exact .ite h.wr.wr h.wr
  · exact h.wr
  · exact h.wrAll

theorem Kept.applyPins {fresh : Bool} (h : Kept s₀ s) : Kept s₀ (s.applyPins fresh) := h.set.foldl fun _ _ h => h.applyPin
theorem Kept.refreshCopy (h : Kept s₀ s) : Kept s₀ s.refreshCopy := h.cancel.set.mailCommit.foldl fun _ _ h => .ite h h.mailCommit
theorem Kept.noteCopy (h : Kept s₀ s) : Kept s₀ s.noteCopy := .ite h.refreshCopy (.ite h.set h.set.arm)
theorem Kept.execResetApply (h : Kept s₀ s) : KeptBy s₀ (Machine.execResetApply s) := h.applyResets.done

theorem Kept.execActivateQuiesced (h : Kept s₀ s) : KeptBy s₀ (Machine.execActivateQuiesced s) :=
  .ite h.done (.ite (h.cancel.foldl fun _ _ h => h.abandonSteps).set.applyResets.done h.done)

theorem Kept.execResetRelease {highFor : Nat} (h : Kept s₀ s) : KeptBy s₀ (Machine.execResetRelease highFor s) :=
  .ite h.done (.ite h.armIn.done (.ite h.done h.cancel.cancel.causeEnd.set.done))

theorem Kept.dieReleased {d : Die} (h : Kept s₀ s) : Kept s₀ (s.dieReleased d) :=
  .ite h.setLink.armIn.set.resetReleased.raise h.setLink.armIn.set

theorem Kept.execPocketDieRelease (h : Kept s₀ s) : KeptBy s₀ (Machine.execPocketDieRelease s) := .ite h.pocketStart.dieReleased.done h.done

theorem Kept.execAirDieRelease (h : Kept s₀ s) : KeptBy s₀ (Machine.execAirDieRelease s) := by
  unfold Machine.execAirDieRelease
  dsimp only
  refine .ite ?_ h.done
  refine .done ?_
  refine .ite ?_ ?_
  · exact (Kept.ite h.dieReleased.restPins.imageLoaded.reloadDie.armIn h.dieReleased.restPins.imageLoaded.reloadDie).airStart
  · exact .ite h.dieReleased.restPins.imageLoaded.reloadDie.armIn h.dieReleased.restPins.imageLoaded.reloadDie

theorem Kept.execLineDieRelease (h : Kept s₀ s) : KeptBy s₀ (Machine.execLineDieRelease s) := .ite h.dieReleased.reloadDie.done h.done
theorem Kept.execFieldDieRelease (h : Kept s₀ s) : KeptBy s₀ (Machine.execFieldDieRelease s) := .ite h.dieReleased.reloadDie.done h.done

theorem Kept.freshObjects (h : Kept s₀ s) : Kept s₀ s.freshObjects := by
  unfold State.freshObjects
  dsimp only
  refine .set (.wr ?_)
  refine .foldl ?_ fun _ _ h => h.foldl fun _ _ h => h.wr
  refine .foldl ?_ fun _ _ h => .ite h.wr h.allot
  refine .foldl ?_ fun _ _ h => h.wr
  exact ((h.forgetKeys.wrAll.foldl fun _ _ h => h.userBits).foldl fun _ _ h => h.wr).foldl fun _ _ h => h.wrAll

theorem Kept.applyRoles {lineUp : Bool} (h : Kept s₀ s) : Kept s₀ (s.applyRoles lineUp) :=
  .ite h.set.wrAll (.ite (Kept.ite h h.set).set.wrAll.raise.fault (Kept.ite h h.set).set.wrAll)

theorem Kept.completeTenants (h : Kept s₀ s) : Kept s₀ s.completeTenants := by
  unfold State.completeTenants
  exact h.foldl fun _ _ h => .ite h.tenantDelete (.ite h.tenantBack h)

theorem Kept.completeBanks (h : Kept s₀ s) : Kept s₀ s.completeBanks := .ite (Kept.ite h.setBank.wr h).revertTrial.set (.ite h.setBank.wr h)

theorem Kept.restoreFaults (h : Kept s₀ s) : Kept s₀ s.restoreFaults := by
  unfold State.restoreFaults
  dsimp only
  refine .ite ?_ (h.foldl fun _ _ h => h.commit)
  exact (Kept.ite (h.set.foldl fun _ _ h => h.commit).fault (h.set.foldl fun _ _ h => h.commit)).foldl fun _ _ h => .ite h.faultKeyed h

theorem Kept.startMetronomes (h : Kept s₀ s) : Kept s₀ s.startMetronomes := .ite (h.foldl fun _ _ h => .ite h.metroStart h) h
theorem Kept.fillLedgers (h : Kept s₀ s) : Kept s₀ s.fillLedgers := .ite h.set h

theorem Kept.resumeLinks (h : Kept s₀ s) : Kept s₀ s.resumeLinks := by
  unfold State.resumeLinks
  dsimp only
  refine h.foldl fun _ _ h => ?_
  exact .ite (.ite h.wr.linkStarting.setLink.loadLimits (.ite h.wr.linkStarting.setLink h.wr.linkStarting.reloadDie)) h

theorem Kept.startWork {lineUp : Bool} (h : Kept s₀ s) : Kept s₀ (s.startWork lineUp) := by
  unfold State.startWork
  extract_lets s₁ s₂ s₃ s₄ s₅ s₆
  have h₁ : Kept s₀ s₁ := h.freshObjects.applyPins
  have h₂ : Kept s₀ s₂ := (Kept.ite h₁.resumeTime h₁).armIn
  have h₃ : Kept s₀ s₃ := h₂.imageLoaded.copyLimits.fillLedgers.resetReleased
  have h₄ : Kept s₀ s₄ := h₃.mirror.applyRoles.cueFollow.scrub
  have h₅ : Kept s₀ s₅ := h₄.completeTenants.completeBanks.restoreFaults.refreshCopy
  have h₆ : Kept s₀ s₆ := by
    unfold s₆
    clear_value s₅
    split
    · exact h₅.fault.setPocket
    · exact h₅
  exact h₆.startMetronomes.resumeLinks.noteCommissioned.inboxBegin

theorem Kept.execConductorStart {lineUp : Bool} (h : Kept s₀ s) : KeptBy s₀ (Machine.execConductorStart lineUp s) :=
  .ite h.done h.set.startWork.done

theorem Kept.releaseHeld (h : Kept s₀ s) : Kept s₀ s.releaseHeld := by
  unfold State.releaseHeld
  dsimp only
  exact h.set.foldl fun _ _ h => h.foldl fun _ _ h => .ite h.deliverQueue h.deliver

theorem Kept.execStartUpComplete (h : Kept s₀ s) : KeptBy s₀ (Machine.execStartUpComplete s) := by
  unfold Machine.execStartUpComplete
  dsimp only
  refine .ite h.done ?_
  refine .done (.drainLine (.joinNow ?_))
  refine .ite h.cancel.set.add.wr.commit.raise.releaseHeld.formLatched.setRun.openGate.armIn ?_
  exact h.cancel.set.add.wr.commit.raise.releaseHeld.formLatched.setRun.openGate

theorem Kept.execStartTimeout (h : Kept s₀ s) : KeptBy s₀ (Machine.execStartTimeout s) :=
  .ite (.ite h.cancel.revertTrial.set.assertOrWait.done h.cancel.inc.assertOrWait.done) h.done

theorem Kept.execResetNLow {low : Nat} (h : Kept s₀ s) : KeptBy s₀ (Machine.execResetNLow low s) := by
  unfold Machine.execResetNLow
  dsimp only
  have hx : KeptSnd s₀ (if 10 ≤ low then (1, s) else s.free1 2) := .ite h h.free1
  exact .ite h.done (.ite (Kept.done hx) (Kept.set hx).assertOrWait.done)

/-! ### Machine/Links -/

theorem Kept.linkBroken {d : Die} (h : Kept s₀ s) : Kept s₀ (s.linkBroken d) := .ite h.linkFailed h
theorem Kept.staleMessage {d : Die} {header : Nat} (h : Kept s₀ s) : Kept s₀ (s.staleMessage d header) := h.inc.wr
theorem Kept.freeTag {d : Die} {tag : Nat} (h : Kept s₀ s) : Kept s₀ (s.freeTag d tag) := h.setLink

theorem Kept.execLinkRequest {d : Die} {header : Nat} {payload : Octets} (h : Kept s₀ s) :
    KeptBy s₀ (Machine.execLinkRequest d header payload s) :=
  .ite h.done (.ite h.linkBroken.done (.ite h.setLink.done h.setLink.done))

theorem Kept.execLinkReply {d : Die} {header : Nat} {payload : Octets} (h : Kept s₀ s) :
    KeptBy s₀ (Machine.execLinkReply d header payload s) :=
  .ite h.done (.ite (.ite h.linkBroken.done h.freeTag.done) h.staleMessage.done)

theorem Kept.execLinkReject {d : Die} {header : Nat} (h : Kept s₀ s) : KeptBy s₀ (Machine.execLinkReject d header s) :=
  .ite h.done (.ite (.ite h.linkBroken.done h.freeTag.inc.done) (.ite h.linkBroken.done h.staleMessage.done))

theorem Kept.execLinkNotify {d : Die} {header : Nat} {payload : Octets} (h : Kept s₀ s) :
    KeptBy s₀ (Machine.execLinkNotify d header payload s) :=
  .ite h.done (.ite (.ite h.linkBroken.done h.done) h.staleMessage.done)

theorem Kept.execAlive {d : Die} {epoch : Nat} (h : Kept s₀ s) : KeptBy s₀ (Machine.execAlive d epoch s) := by
  unfold Machine.execAlive
  dsimp only
  refine .ite h.done ?_
  refine .ite (.ite h.done (Kept.ite h.linkStarting h.linkStarting.reloadDie).done) ?_
  exact (Kept.ite h.wr.setLink.dropWindow h.wr.setLink).retire.retireWork.abortTunings.linkStarting.reloadDie.done

theorem Kept.linkUp {d : Die} (h : Kept s₀ s) : Kept s₀ (s.linkUp d) := by
  unfold State.linkUp
  dsimp only
  split
  · exact h.foldl fun _ _ h => .ite h.armIn h
  · exact .ite h.cancel.airStart h.cancel
  · exact h.drainLine
  · exact h

theorem Kept.execLinkStartWorkDone {d : Die} (h : Kept s₀ s) : KeptBy s₀ (Machine.execLinkStartWorkDone d s) :=
  .ite h.linkTo.setLink.wr.raise.linkUp.done h.done

theorem Kept.execAliveTimeout {d : Die} (h : Kept s₀ s) : KeptBy s₀ (Machine.execAliveTimeout d s) := (Kept.ite h.linkFailed h).done
theorem Kept.execLinkWordTimeout {d : Die} (h : Kept s₀ s) : KeptBy s₀ (Machine.execLinkWordTimeout d s) := (Kept.ite h.linkBroken h).done
theorem Kept.execResyncInterval {d : Die} (h : Kept s₀ s) : KeptBy s₀ (Machine.execResyncInterval d s) := .ite h.inc.armIn.done h.done

theorem Kept.execResync {d : Die} {epoch : Nat} (h : Kept s₀ s) : KeptBy s₀ (Machine.execResync d epoch s) := by
  unfold Machine.execResync
  dsimp only
  refine .ite ?_ h.done
  refine .done ?_
  split
  · exact h.setLink.fieldAbandon
  · exact h.setLink.airAbandon
  · exact h.setLink.lineAbandon
  · exact h.setLink.bridgeRetired

/-! ### Machine/Power -/

theorem Kept.noteGood {vbat vline : Nat} (h : Kept s₀ s) : Kept s₀ (s.noteGood vbat vline) := h.set
theorem Kept.epochsOne (h : Kept s₀ s) : Kept s₀ s.epochsOne := (h.foldl fun _ _ h => h.wr.setLink).wr

theorem Kept.execPowerOn {vbat vline : Nat} (h : Kept s₀ s) : KeptBy s₀ (Machine.execPowerOn vbat vline s) :=
  .ite .fault (.ite h.done h.tearCommit.set.wrAll.assertNow.epochsOne.set.noteGood.done)

theorem Kept.execBrownout {vbat vline : Nat} (h : Kept s₀ s) : KeptBy s₀ (Machine.execBrownout vbat vline s) :=
  .ite .fault (.ite h.set.wrAll.assertNow.set.raise.fault.done h.done)

theorem Kept.pocketLoss (h : Kept s₀ s) : Kept s₀ s.pocketLoss := .ite h.bridgeEnd.wr h.bridgeEnd.wr.tearCommit.pocketStop

theorem Kept.unpowered (h : Kept s₀ s) : Kept s₀ s.unpowered := by
  unfold State.unpowered
  refine ⟨h.queue, fun h0 => ?_⟩
  obtain ⟨⟨⟨-, hnva⟩, hmail⟩, hdesc⟩ := State.canonical_iff.1 (h.forms h0)
  exact State.canonical_iff.2 ⟨⟨⟨Tab.wf_setAll _ _ _ hnva, hnva⟩, hmail⟩, hdesc⟩

theorem Kept.resumeCounters (h : Kept s₀ s) : Kept s₀ s.resumeCounters := by
  unfold State.resumeCounters
  dsimp only
  exact .ite (h.wrAll.foldl fun _ _ h => h.wrAll.floorLow) (h.wrAll.foldl fun _ _ h => h.wrAll.floorLow).wr

theorem Kept.lossSeal {torn : Option Nat} (h : Kept s₀ s) : Kept s₀ (s.lossSeal torn) := by
  unfold State.lossSeal
  dsimp only
  refine .ite ?_ ?_
  · refine .raise (.wr ?_)
    split
    · exact h.set
    · exact h
  · refine .wr ?_
    split
    · exact h.set
    · exact h

theorem Kept.execSupplyLoss (h : Kept s₀ s) : KeptBy s₀ (Machine.execSupplyLoss s) := by
  unfold Machine.execSupplyLoss
  dsimp only
  exact .ite h.done (h.pocketLoss.unpowered.resumeCounters.lossSeal.foldl fun _ _ h => h.wr).done

theorem Kept.execVlinePresent {mv : Nat} (h : Kept s₀ s) : KeptBy s₀ (Machine.execVlinePresent mv s) :=
  .ite .fault (.ite h.done h.set.wrAll.noteGood.wakeBy.raise.done)

theorem Kept.execVlineLost {mv : Nat} (h : Kept s₀ s) : KeptBy s₀ (Machine.execVlineLost mv s) :=
  .ite h.done h.set.wrAll.noteGood.wakeBy.raise.done

theorem Kept.execVioPresent {mv : Nat} (h : Kept s₀ s) : KeptBy s₀ (Machine.execVioPresent mv s) :=
  .ite .fault (.ite h.done (Kept.ite h.wrAll.applyPins h.wrAll).done)

theorem Kept.execVioLost {mv : Nat} (h : Kept s₀ s) : KeptBy s₀ (Machine.execVioLost mv s) :=
  .ite .fault (.ite h.done (h.wrAll.foldl fun _ _ h => h.wrAll).set.done)

theorem Kept.shedSample {mv : Nat} (h : Kept s₀ s) : Kept s₀ (s.shedSample mv) :=
  .ite (.ite h.inc.set h) (.ite (.ite (.ite h.inc.set h) (Kept.ite h.inc.set h).armIn) (Kept.ite h.inc.set h).cancel)

theorem Kept.execVbatSample {mv : Nat} (h : Kept s₀ s) : KeptBy s₀ (Machine.execVbatSample mv s) :=
  .ite .fault (.ite h.done h.wr.set.armIn.noteGood.shedSample.done)

theorem Kept.execShedEnd {mv : Nat} (h : Kept s₀ s) : KeptBy s₀ (Machine.execShedEnd mv s) := .ite h.cancel.set.done h.done

theorem Kept.execVbatMinuteEnd (h : Kept s₀ s) : KeptBy s₀ (Machine.execVbatMinuteEnd s) := by
  unfold Machine.execVbatMinuteEnd
  dsimp only
  refine .ite h.done ?_
  split
  · exact h.arm.done
  · refine .ite (.ite h.arm.wr.set.done (Kept.ite h.arm.wr.set.wakeBy h.arm.wr.set.wakeBy.raise).fault.done) ?_
    exact .ite h.arm.wr.set.causeEnd.done h.arm.wr.set.done

theorem Kept.execRestEntry (h : Kept s₀ s) : KeptBy s₀ (Machine.execRestEntry s) := .ite h.cancel.inc.wr.setRun.done h.done
theorem Kept.execWake {source : Nat} (h : Kept s₀ s) : KeptBy s₀ (Machine.execWake source s) := .ite h.cancel.wakeBy.done h.done
theorem Kept.execOsc27RestartDone (h : Kept s₀ s) : KeptBy s₀ (Machine.execOsc27RestartDone s) := .ite h.cancel.set.done h.done

theorem Kept.packWrite (h : Kept s₀ s) : Kept s₀ s.packWrite := by
  unfold State.packWrite
  dsimp only
  exact .ite h.wrAll (.ite h.wrAll (.ite h.wr.free1.wr h.wr.wr))

theorem Kept.execEnergyHourlyUpdate {vbat vline : Nat} (h : Kept s₀ s) : KeptBy s₀ (Machine.execEnergyHourlyUpdate vbat vline s) :=
  .ite h.done h.armIn.add.add.set.wrFit.wrFit.packWrite.done

theorem Kept.execEnergyReport (h : Kept s₀ s) : KeptBy s₀ (Machine.execEnergyReport s) := .ite h.arm.raise.done h.done
theorem Kept.newPack (h : Kept s₀ s) : Kept s₀ s.newPack := h.set.wr.wrKeep
theorem Kept.reportWrite {v : Nat} (h : Kept s₀ s) : Kept s₀ (s.reportWrite v) := .ite h.wr.cancel h.wr.armIn

end

end Sys2Proof.Machine
end

section
/-! PROOFS. The canonical forms: writes, the dictionary service and image transfers carry on (`Kept`), operation by operation in the model's
order. -/

namespace Sys2Proof.Machine

section
set_option Elab.async false -- as tasks, these many short proofs would each hold a thread and its stack
variable {s₀ s : State}

/-! ### Machine/Writes -/

theorem Kept.scoreStart {i : ScoreId} (h : Kept s₀ s) : Kept s₀ (s.scoreStart i) := by
  unfold State.scoreStart
  split
  · exact h.runStart
  · exact h.inc
  · exact h.inc
  · exact h

theorem Kept.scoreStop {i : ScoreId} (h : Kept s₀ s) : Kept s₀ (s.scoreStop i) := .ite h.wr.advance h
theorem Kept.scoreSwitch {i : ScoreId} {x : Nat} (h : Kept s₀ s) : Kept s₀ (s.scoreSwitch i x) := .ite h.wr.wr (.ite h.wr.wr h.wr)
theorem Kept.stepStored {i : ScoreId} (h : Kept s₀ s) : Kept s₀ (s.stepStored i) := .ite h.scoreRest h

theorem Kept.allotChange {n : Tenant} {sub old x : Nat} (h : Kept s₀ s) : Kept s₀ (s.allotChange n sub old x) := by
  unfold State.allotChange
  split
  · exact h.foldl fun _ _ h => .ite h.allot h
  · exact h.foldl fun _ _ h => .ite h.metroDefaults h
  · exact h.foldl fun _ _ h => .ite h.clearSlot (.ite h.wr h)
  · exact h

theorem Kept.allotStore {n : Tenant} {sub x : Nat} (h : Kept s₀ s) : Kept s₀ (s.allotStore n sub x) := by
  unfold State.allotStore
  dsimp only
  refine .ite (.ite (h.foldl fun _ _ h => .ite h.metroCaught h) h) ?_
  exact (Kept.ite (h.foldl fun _ _ h => .ite h.metroCaught h) h).wr.allotChange.raise

theorem Kept.checkpointEvery {x : Nat} (h : Kept s₀ s) : Kept s₀ (s.checkpointEvery x) := h.wr.arm

theorem Kept.store {t : Tenant} {i sub x : Nat} (h : Kept s₀ s) : Kept s₀ (s.store t i sub x) := by
  unfold State.store
  dsimp only
  refine .ite (.ite h.checkpointEvery h.wr.timeWrite) ?_
  refine .ite h.reportWrite ?_
  refine .ite h.enableVoice ?_
  refine .ite h.coupling ?_
  refine .ite h.detectWrite ?_
  refine .ite h.frontEndWrite ?_
  refine .ite h.wr.loadHops ?_
  refine .ite (.ite h.wr.cueStop h.wr.cueStart) ?_
  refine .ite h.wr.joinNow ?_
  refine .ite (.ite h h.wr.mailCommit) ?_
  refine .ite (.ite h.metroCaught.periodWrite (.ite h.metroCaught.compareWrite h.metroCaught.wr)) ?_
  exact .ite h.allotStore (.ite h.scoreSwitch (.ite h.wr.stepStored (.ite h.wr.applyPin h.wr)))

theorem Kept.only (h : Kept s₀ s) : KeptSt s₀ s.only := h

theorem Kept.acknowledge {t : Tenant} (h : Kept s₀ s) : Kept s₀ (s.acknowledge t) := by
  unfold State.acknowledge
  refine h.foldl fun _ _ h => ?_
  split
  · exact h.setRecord.leaveOpen
  · exact h

theorem Kept.clearFaults {t : Tenant} {x : Nat} (h : Kept s₀ s) : Kept s₀ (s.clearFaults t x) := by
  unfold State.clearFaults
  dsimp only
  refine .ite (h.clearSources.foldl fun _ _ h => .ite h.voiceCleared h).boostCleared ?_
  exact h.clearSources.foldl fun _ _ h => .ite h.voiceCleared h

theorem Kept.tenantMake {n : Tenant} (h : Kept s₀ s) : KeptSt s₀ (s.tenantMake n) := h.forgetKeys.wrAll.set.raise

theorem Kept.tenantAct {x : Nat} (h : Kept s₀ s) : KeptSt s₀ (s.tenantAct x) := by
  unfold State.tenantAct
  dsimp only
  split
  · exact h.wr.tenantMake
  · exact h.wr.tenantDelete.only
  · exact h.wr.tenantReset.only

theorem Kept.keyEnded {t : Tenant} {st : Nat} (h : Kept s₀ s) : Kept s₀ (s.keyEnded t st) := h.wrAll

theorem Kept.keyAct {t : Tenant} {id x : Nat} (h : Kept s₀ s) : KeptSt s₀ (s.keyAct t id x) :=
  .ite h.set.cryptoNext (.ite h.keyEnded.only h.commit)

theorem Kept.imageStart (h : Kept s₀ s) : Kept s₀ s.imageStart := h.set.wrAll
theorem Kept.imageDrop (h : Kept s₀ s) : Kept s₀ s.imageDrop := h.set.setBank.imageIdle.cryptoNext

theorem Kept.imageKeep (h : Kept s₀ s) : Kept s₀ s.imageKeep := by
  unfold State.imageKeep
  dsimp only
  split
  · exact h
  · exact h.trialOver.setBank.setBank.wr.set.imageIdle.imageEvent

theorem Kept.imageBack (h : Kept s₀ s) : Kept s₀ s.imageBack := by
  unfold State.imageBack
  dsimp only
  refine .ite ?_ ?_
  · split
    · exact h.revertTrial.restartTarget
    · exact h
  · split
    · exact h.set.restartTarget
    · exact h

theorem Kept.imageAct {x : Nat} (h : Kept s₀ s) : Kept s₀ (s.imageAct x) := by
  unfold State.imageAct
  dsimp only
  split
  · exact h.imageStart
  · exact h.wr.set.cryptoNext
  · exact h.wrAll.arm.restartTarget
  · exact h.imageKeep
  · exact h.imageDrop
  · exact h.imageBack
  · exact h

theorem Kept.windowAct {v : Octets} (h : Kept s₀ s) : Kept s₀ (s.windowAct v) := h.set.wr

theorem Kept.resetAct {t : Tenant} {tr : Transport} {id sub x : Nat} (h : Kept s₀ s) : Kept s₀ (s.resetAct t tr id sub x) :=
  .ite h.askReset h.askReset

theorem Kept.act {t : Tenant} {tr : Transport} {id i sub : Nat} {v : Octets} (h : Kept s₀ s) : KeptSt s₀ (s.act t tr id i sub v) := by
  unfold State.act
  dsimp only
  refine .ite h.newPack.only ?_
  refine .ite h.sealWrite.only ?_
  refine .ite h.releaseAddress.only ?_
  refine .ite h.homeRequest.only ?_
  refine .ite ?_ ?_
  · refine .only ?_
    refine .ite h.releaseNode ?_
    split
    · exact h.searchNow
    · exact h.walkNow
    · exact h.bypassCommand
    · exact h.bypassCommand
  · refine .ite ?_ ?_
    · refine .only ?_
      split
      · exact h.startTuning
      · exact h.revertTuning
      · exact h.abortTunings
    · refine .ite (Kept.ite h.clearFaults h.acknowledge).only ?_
      refine .ite h.resetAct.only ?_
      refine .ite h.wr.only ?_
      refine .ite h.metroCaught.metroCommand.only ?_
      refine .ite h.tenantAct ?_
      exact .ite h.keyAct (.ite h.imageAct.only (.ite h.windowAct.only (.ite (Kept.ite h.scoreStart h.scoreStop).only h.only)))

theorem Kept.effect {t : Tenant} {tr : Transport} {id i sub off : Nat} {v : Octets} (h : Kept s₀ s) :
    KeptSt s₀ (s.effect t tr id i sub off v) := by
  unfold State.effect
  dsimp only
  split
  · exact h.only
  · exact .ite h.act h.store

theorem Kept.refusedEffect {t : Tenant} {i sub : Nat} {v : Octets} {st : Nat} (h : Kept s₀ s) : Kept s₀ (s.refusedEffect t i sub v st) := by
  unfold State.refusedEffect
  refine .ite h.clearFaults ?_
  refine .ite h.sealRefused ?_
  refine .ite ?_ (.ite h.wr h)
  split
  · exact h.keyEnded
  · exact h

/-! ### Machine/Service -/

theorem Kept.sendReply {r : Reply} (h : Kept s₀ s) : Kept s₀ (s.sendReply r) := by
  unfold State.sendReply
  dsimp only
  split
  · exact h
  · exact .ite h.handOver.bridgeEnd h.handOver
  · exact .ite h.handOver h.leaveQueue.originate
  · exact .ite h.handOver h.leaveQueue.bumpSeq.set.lineNext

theorem Kept.post {t : Tenant} {id : Nat} {req : Request} {status : Nat} {data : Octets} (h : Kept s₀ s) :
    Kept s₀ (s.post t id req status data) := by
  unfold State.post
  dsimp only
  refine .sendReply ?_
  split
  · exact h.inc.set.armIn
  · exact h.inc.set

theorem Kept.reply {t : Tenant} {j : Job} {status : Nat} {data : Octets} (h : Kept s₀ s) : Kept s₀ (s.reply t j status data) :=
  h.setJob.set.post

theorem KeptSt.finish {e : Effect} {t : Tenant} {j : Job} {data : Octets} (h : KeptSt s₀ e) : Kept s₀ (State.finish e t j data) := by
  unfold State.finish
  dsimp only
  have hs : Kept s₀ { e.st with svc := { e.st.svc with turn := t } } := Kept.set h
  exact .ite hs (.ite hs.reply (.ite hs.setJob hs.setJob.commit))

theorem Kept.floorTo {t : Tenant} {c : Nat} (h : Kept s₀ s) : Kept s₀ (s.floorTo t c) := .ite h.wr.floorLow.commit h.wr.floorLow

theorem Kept.turnAway {t : Tenant} {req : Request} {status : Nat} {data : Octets} (h : Kept s₀ s) :
    Kept s₀ (s.turnAway t req status data) :=
  h.set.post

theorem Kept.enqueueJob {t : Tenant} {req : Request} (h : Kept s₀ s) : Kept s₀ (s.enqueueJob t req) := h.set.setQueue.wr

theorem Kept.arrive {a : Arrival} (h : Kept s₀ s) : Kept s₀ (s.arrive a) := by
  unfold State.arrive
  dsimp only
  refine .ite h.inc ?_
  refine .ite h.inc.turnAway ?_
  exact .ite (Kept.ite h.floorTo h).turnAway (.ite (Kept.ite h.floorTo h).turnAway (Kept.ite h.floorTo h).enqueueJob)

theorem Kept.execServiceRequestArrival (h : Kept s₀ s) : KeptBy s₀ (Machine.execServiceRequestArrival s) := by
  unfold Machine.execServiceRequestArrival
  dsimp only
  split
  · exact h.done
  · exact .ite h.set.arrive.done h.done

theorem Kept.execServiceRead {t : Tenant} (h : Kept s₀ s) : KeptBy s₀ (Machine.execServiceRead t s) := by
  unfold Machine.execServiceRead
  dsimp only
  split
  · exact h.done
  · split
    · exact h.reply.done
    · exact .ite h.done h.reply.done
    · exact h.done

theorem Kept.badUnit {t : Tenant} {j : Job} {code : Nat} (h : Kept s₀ s) : Kept s₀ (s.badUnit t j code) := .ite h.reply h

theorem Kept.execDescribe {t : Tenant} (h : Kept s₀ s) : KeptBy s₀ (Machine.execDescribe t s) := by
  unfold Machine.execDescribe
  dsimp only
  split
  · exact h.done
  · split
    · exact h.reply.done
    · exact h.badUnit.done
    · exact h.done

theorem Kept.execNext {t : Tenant} (h : Kept s₀ s) : KeptBy s₀ (Machine.execNext t s) := by
  unfold Machine.execNext
  split
  · exact h.done
  · split
    · split
      · exact h.reply.done
      · exact .ite h.reply.done h.reply.done
    · exact h.badUnit.done
    · exact h.done

theorem Kept.serveWrite {t : Tenant} {j : Job} {i sub off : Nat} {v : Octets} (h : Kept s₀ s) : Kept s₀ (s.serveWrite t j i sub off v) := by
  unfold State.serveWrite
  dsimp only
  exact .ite h.refusedEffect.reply h.effect.finish

theorem Kept.serveOwn {t : Tenant} {o : Own} (h : Kept s₀ s) : Kept s₀ (s.serveOwn t o) := by
  unfold State.serveOwn
  split
  · exact h
  · split
    · exact .ite h.serveWrite h
    · exact h

theorem Kept.execServiceWrite {t : Tenant} (h : Kept s₀ s) : KeptBy s₀ (Machine.execServiceWrite t s) := by
  unfold Machine.execServiceWrite
  split
  · exact h.done
  · split
    · exact h.badUnit.done
    · exact h.serveOwn.done

theorem Kept.setBlock {t : Tenant} {b : Option Block} (h : Kept s₀ s) : Kept s₀ (s.setBlock t b) := .ite h.set.cancel h.set.armIn

theorem Kept.execBlockOpen {t : Tenant} (h : Kept s₀ s) : KeptBy s₀ (Machine.execBlockOpen t s) := by
  unfold Machine.execBlockOpen
  dsimp only
  split
  · exact h.done
  · split
    · exact .ite h.reply.done h.setBlock.reply.done
    · exact .ite h.reply.done h.setBlock.reply.done
    · exact h.badUnit.done
    · exact h.done

theorem Kept.execBlockData {t : Tenant} (h : Kept s₀ s) : KeptBy s₀ (Machine.execBlockData t s) := by
  unfold Machine.execBlockData
  dsimp only
  split
  · exact h.done
  · split
    · split
      · exact h.reply.done
      · exact .ite h.setBlock.reply.done (.ite h.setBlock.setBlock.reply.done h.setBlock.reply.done)
    · exact h.badUnit.done
    · exact h.done

theorem Kept.chargeAll {t : Tenant} {l : List (Nat × Nat)} (h : Kept s₀ s) : Kept s₀ (s.chargeAll t l) := h.foldl fun _ _ h => h.charge

theorem KeptSt.applyRecords {t : Tenant} {tr : Transport} {id n : Nat} {l : List (Nat × Nat × Nat × Octets)} {e f : Effect}
    (h : KeptSt s₀ e) (hf : Machine.applyRecords t tr id n l e = .inr f) : KeptSt s₀ f := by
  induction l generalizing n e with
  | nil => cases hf; exact h
  | cons q l ih =>
    obtain ⟨i, sub, off, v⟩ := q
    unfold Machine.applyRecords at hf
    dsimp only at hf
    split at hf
    · cases hf
    · refine ih ?_ hf
      exact Kept.chargeAll (Kept.effect h)

theorem Kept.blockCommit {t : Tenant} {j : Job} {b : Block} (h : Kept s₀ s) : Kept s₀ (s.blockCommit t j b) := by
  unfold State.blockCommit
  dsimp only
  refine .ite h.reply ?_
  split
  · exact h.reply
  · split
    · refine .reply ?_
      split
      · exact h.keyEnded
      · exact h
    · next e happly =>
      have he : KeptSt s₀ e := KeptSt.applyRecords (e := ⟨s, [], false⟩) h happly
      have hb : Kept s₀ (({ e.st with charges := s.charges } : State).setBlock t none) := Kept.setBlock (Kept.set he)
      exact KeptSt.finish (e := { e with st := ({ e.st with charges := s.charges } : State).setBlock t none }) hb

theorem Kept.execBlockClose {t : Tenant} (h : Kept s₀ s) : KeptBy s₀ (Machine.execBlockClose t s) := by
  unfold Machine.execBlockClose
  split
  · exact h.done
  · split
    · refine .ite h.reply.done ?_
      split
      · exact h.reply.done
      · exact .ite h.setBlock.blockCommit.done (.ite h.setBlock.reply.done h.setBlock.reply.done)
    · exact h.badUnit.done
    · exact h.done

theorem Kept.execBlockLapse {t : Tenant} (h : Kept s₀ s) : KeptBy s₀ (Machine.execBlockLapse t s) := .ite h.setBlock.done h.done

theorem Kept.execSubscribe {t : Tenant} (h : Kept s₀ s) : KeptBy s₀ (Machine.execSubscribe t s) := by
  unfold Machine.execSubscribe
  dsimp only
  split
  · exact h.done
  · split
    · split
      · exact h.setBox.reply.done
      · exact h.reply.done
    · exact h.badUnit.done
    · exact h.done

theorem Kept.execUnsubscribe {t : Tenant} (h : Kept s₀ s) : KeptBy s₀ (Machine.execUnsubscribe t s) := by
  unfold Machine.execUnsubscribe
  dsimp only
  split
  · exact h.done
  · split
    · exact (Kept.ite h.setBox h).reply.done
    · exact h.badUnit.done
    · exact h.done

theorem Kept.execSubscriptionIntervalEnd {t : Tenant} {entry : Nat} (h : Kept s₀ s) :
    KeptBy s₀ (Machine.execSubscriptionIntervalEnd t entry s) := by
  unfold Machine.execSubscriptionIntervalEnd
  dsimp only
  split
  · exact h.done
  · exact .ite (.ite h.setBox.notify.done h.setBox.done) h.done

theorem Kept.execResetRequestTenant {t : Tenant} (h : Kept s₀ s) : KeptBy s₀ (Machine.execResetRequestTenant t s) := h.serveOwn.done
theorem Kept.execResetRequestField {t : Tenant} (h : Kept s₀ s) : KeptBy s₀ (Machine.execResetRequestField t s) := h.serveOwn.done
theorem Kept.execResetRequestAir {t : Tenant} (h : Kept s₀ s) : KeptBy s₀ (Machine.execResetRequestAir t s) := h.serveOwn.done
theorem Kept.execResetRequestLine {t : Tenant} (h : Kept s₀ s) : KeptBy s₀ (Machine.execResetRequestLine t s) := h.serveOwn.done
theorem Kept.execResetRequestPocket {t : Tenant} (h : Kept s₀ s) : KeptBy s₀ (Machine.execResetRequestPocket t s) := h.serveOwn.done
theorem Kept.execResetRequestConductor {t : Tenant} (h : Kept s₀ s) : KeptBy s₀ (Machine.execResetRequestConductor t s) := h.serveOwn.done
theorem Kept.execResetRequestWarm {t : Tenant} (h : Kept s₀ s) : KeptBy s₀ (Machine.execResetRequestWarm t s) := h.serveOwn.done
theorem Kept.execResetRequestChip {t : Tenant} (h : Kept s₀ s) : KeptBy s₀ (Machine.execResetRequestChip t s) := h.serveOwn.done
theorem Kept.execBlockResetBitsWrite {t : Tenant} (h : Kept s₀ s) : KeptBy s₀ (Machine.execBlockResetBitsWrite t s) := h.serveOwn.done
theorem Kept.execNewPack {t : Tenant} (h : Kept s₀ s) : KeptBy s₀ (Machine.execNewPack t s) := h.serveOwn.done
theorem Kept.execTemperatureTermWrite {t : Tenant} (h : Kept s₀ s) : KeptBy s₀ (Machine.execTemperatureTermWrite t s) := h.serveOwn.done
theorem Kept.execDisciplineSettingWrite {t : Tenant} (h : Kept s₀ s) : KeptBy s₀ (Machine.execDisciplineSettingWrite t s) := h.serveOwn.done
theorem Kept.execScoreStartCommand {t : Tenant} (h : Kept s₀ s) : KeptBy s₀ (Machine.execScoreStartCommand t s) := h.serveOwn.done
theorem Kept.execScoreStopCommand {t : Tenant} (h : Kept s₀ s) : KeptBy s₀ (Machine.execScoreStopCommand t s) := h.serveOwn.done
theorem Kept.execStepRecordWrite {t : Tenant} (h : Kept s₀ s) : KeptBy s₀ (Machine.execStepRecordWrite t s) := h.serveOwn.done
theorem Kept.execVoiceEnableWrite {t : Tenant} (h : Kept s₀ s) : KeptBy s₀ (Machine.execVoiceEnableWrite t s) := h.serveOwn.done
theorem Kept.execCouplingMapWrite {t : Tenant} (h : Kept s₀ s) : KeptBy s₀ (Machine.execCouplingMapWrite t s) := h.serveOwn.done
theorem Kept.execTuningStart {t : Tenant} (h : Kept s₀ s) : KeptBy s₀ (Machine.execTuningStart t s) := h.serveOwn.done
theorem Kept.execTuningRevert {t : Tenant} (h : Kept s₀ s) : KeptBy s₀ (Machine.execTuningRevert t s) := h.serveOwn.done
theorem Kept.execTuningAbort {t : Tenant} (h : Kept s₀ s) : KeptBy s₀ (Machine.execTuningAbort t s) := h.serveOwn.done
theorem Kept.execSealRequest {t : Tenant} (h : Kept s₀ s) : KeptBy s₀ (Machine.execSealRequest t s) := h.serveOwn.done
theorem Kept.execSealConfirm {t : Tenant} (h : Kept s₀ s) : KeptBy s₀ (Machine.execSealConfirm t s) := h.serveOwn.done
theorem Kept.execPaGainWrite {t : Tenant} (h : Kept s₀ s) : KeptBy s₀ (Machine.execPaGainWrite t s) := h.serveOwn.done

theorem Kept.execHomeChannelChangeRequest {t : Tenant} (h : Kept s₀ s) : KeptBy s₀ (Machine.execHomeChannelChangeRequest t s) :=
  h.serveOwn.done

theorem Kept.execMeshAddressRelease {t : Tenant} (h : Kept s₀ s) : KeptBy s₀ (Machine.execMeshAddressRelease t s) := h.serveOwn.done
theorem Kept.execSearchNow {t : Tenant} (h : Kept s₀ s) : KeptBy s₀ (Machine.execSearchNow t s) := h.serveOwn.done
theorem Kept.execWalkNow {t : Tenant} (h : Kept s₀ s) : KeptBy s₀ (Machine.execWalkNow t s) := h.serveOwn.done
theorem Kept.execIsolateCommand {t : Tenant} (h : Kept s₀ s) : KeptBy s₀ (Machine.execIsolateCommand t s) := h.serveOwn.done
theorem Kept.execReconnectCommand {t : Tenant} (h : Kept s₀ s) : KeptBy s₀ (Machine.execReconnectCommand t s) := h.serveOwn.done
theorem Kept.execLineAddressRelease {t : Tenant} (h : Kept s₀ s) : KeptBy s₀ (Machine.execLineAddressRelease t s) := h.serveOwn.done
theorem Kept.execTenantCreate {t : Tenant} (h : Kept s₀ s) : KeptBy s₀ (Machine.execTenantCreate t s) := h.serveOwn.done
theorem Kept.execTenantDelete {t : Tenant} (h : Kept s₀ s) : KeptBy s₀ (Machine.execTenantDelete t s) := h.serveOwn.done
theorem Kept.execTenantReset {t : Tenant} (h : Kept s₀ s) : KeptBy s₀ (Machine.execTenantReset t s) := h.serveOwn.done
theorem Kept.execAllotmentWrite {t : Tenant} (h : Kept s₀ s) : KeptBy s₀ (Machine.execAllotmentWrite t s) := h.serveOwn.done
theorem Kept.execKeyImport {t : Tenant} (h : Kept s₀ s) : KeptBy s₀ (Machine.execKeyImport t s) := h.serveOwn.done
theorem Kept.execKeyErase {t : Tenant} (h : Kept s₀ s) : KeptBy s₀ (Machine.execKeyErase t s) := h.serveOwn.done
theorem Kept.execImageBegin {t : Tenant} (h : Kept s₀ s) : KeptBy s₀ (Machine.execImageBegin t s) := h.serveOwn.done
theorem Kept.execImageWindowWrite {t : Tenant} (h : Kept s₀ s) : KeptBy s₀ (Machine.execImageWindowWrite t s) := h.serveOwn.done
theorem Kept.execImageVerify {t : Tenant} (h : Kept s₀ s) : KeptBy s₀ (Machine.execImageVerify t s) := h.serveOwn.done
theorem Kept.execImageActivate {t : Tenant} (h : Kept s₀ s) : KeptBy s₀ (Machine.execImageActivate t s) := h.serveOwn.done
theorem Kept.execImageConfirm {t : Tenant} (h : Kept s₀ s) : KeptBy s₀ (Machine.execImageConfirm t s) := h.serveOwn.done
theorem Kept.execImageAbort {t : Tenant} (h : Kept s₀ s) : KeptBy s₀ (Machine.execImageAbort t s) := h.serveOwn.done
theorem Kept.execImageRevert {t : Tenant} (h : Kept s₀ s) : KeptBy s₀ (Machine.execImageRevert t s) := h.serveOwn.done
theorem Kept.execMetronomeStart {t : Tenant} (h : Kept s₀ s) : KeptBy s₀ (Machine.execMetronomeStart t s) := h.serveOwn.done
theorem Kept.execMetronomeStop {t : Tenant} (h : Kept s₀ s) : KeptBy s₀ (Machine.execMetronomeStop t s) := h.serveOwn.done
theorem Kept.execMetronomeRestart {t : Tenant} (h : Kept s₀ s) : KeptBy s₀ (Machine.execMetronomeRestart t s) := h.serveOwn.done
theorem Kept.execPeriodBufferWrite {t : Tenant} (h : Kept s₀ s) : KeptBy s₀ (Machine.execPeriodBufferWrite t s) := h.serveOwn.done
theorem Kept.execCompareWrite {t : Tenant} (h : Kept s₀ s) : KeptBy s₀ (Machine.execCompareWrite t s) := h.serveOwn.done
theorem Kept.execStrideWrite {t : Tenant} (h : Kept s₀ s) : KeptBy s₀ (Machine.execStrideWrite t s) := h.serveOwn.done
theorem Kept.execFaultAcknowledge {t : Tenant} (h : Kept s₀ s) : KeptBy s₀ (Machine.execFaultAcknowledge t s) := h.serveOwn.done
theorem Kept.execFaultClear {t : Tenant} (h : Kept s₀ s) : KeptBy s₀ (Machine.execFaultClear t s) := h.serveOwn.done
theorem Kept.execReactionWrite {t : Tenant} (h : Kept s₀ s) : KeptBy s₀ (Machine.execReactionWrite t s) := h.serveOwn.done
theorem Kept.execGpConfigWrite {t : Tenant} (h : Kept s₀ s) : KeptBy s₀ (Machine.execGpConfigWrite t s) := h.serveOwn.done

/-! ### Machine/Images -/

theorem Kept.failReply {t : Tenant} {id status : Nat} (h : Kept s₀ s) : Kept s₀ (s.failReply t id status) := by
  unfold State.failReply
  split
  · exact .ite h.reply h
  · exact h

theorem Kept.importDone {t : Tenant} {id : Nat} (h : Kept s₀ s) : Kept s₀ (s.importDone t id) := by
  unfold State.importDone
  dsimp only
  refine .ite h ?_
  split
  · exact h.commit
  · exact h.keyEnded.raise.failReply

theorem Kept.jobOver {t : Tenant} (h : Kept s₀ s) : Kept s₀ (s.jobOver t) := h.set.inc.cryptoNext

theorem Kept.execCryptoJobDone (h : Kept s₀ s) : KeptBy s₀ (Machine.execCryptoJobDone s) := by
  unfold Machine.execCryptoJobDone
  dsimp only
  split
  · exact (Kept.ite h.jobOver.authJobDone h.jobOver).done
  · exact h.jobOver.importDone.done
  · exact h.done
  · exact h.done

theorem Kept.verified (h : Kept s₀ s) : Kept s₀ s.verified := .ite h.setBank.wrAll.imageEvent h.setBank.imageIdle.imageEvent

theorem Kept.execImageVerifyDone (h : Kept s₀ s) : KeptBy s₀ (Machine.execImageVerifyDone s) := by
  unfold Machine.execImageVerifyDone
  dsimp only
  split
  · exact (Kept.ite h.jobOver.verified h.jobOver).done
  · exact h.done

theorem Kept.revertNow (h : Kept s₀ s) : Kept s₀ s.revertNow := by
  unfold State.revertNow
  split
  · exact h.revertTrial.restartTarget
  · exact h

theorem Kept.execTrialWindowExpired (h : Kept s₀ s) : KeptBy s₀ (Machine.execTrialWindowExpired s) :=
  .ite (Kept.ite h.cancel.revertNow h.cancel).done h.done

theorem Kept.execTrialAirReadyTimeout (h : Kept s₀ s) : KeptBy s₀ (Machine.execTrialAirReadyTimeout s) :=
  .ite (Kept.ite h.cancel.revertNow h.cancel).done h.done

end

end Sys2Proof.Machine
end

section
/-! PROOFS. The canonical forms: the pocket port's commands, the NVA's commits and the host port carry on (`Kept`), operation by operation
in the model's order. -/

namespace Sys2Proof.Machine

section
set_option Elab.async false -- as tasks, these many short proofs would each hold a thread and its stack
variable {s₀ s : State}

/-! ### Machine/Pocket -/

theorem Kept.cardSays {c : Card} {b : Octets} (h : Kept s₀ s) : Kept s₀ (s.cardSays c b) := h.setPocket

theorem Kept.execFieldOn (h : Kept s₀ s) : KeptBy s₀ (Machine.execFieldOn s) :=
  .ite h.done (Kept.ite h.setPocket.wr.cardSays h.setPocket.wr).pocketRaise.done

theorem Kept.execFieldOff (h : Kept s₀ s) : KeptBy s₀ (Machine.execFieldOff s) := .ite h.done h.pocketEnd.setPocket.wr.pocketRaise.done

theorem Kept.execPocketHarvestReady {mv : Nat} (h : Kept s₀ s) : KeptBy s₀ (Machine.execPocketHarvestReady mv s) :=
  .ite h.done h.pocketStart.wr.done

theorem Kept.execPocketVstReset {mv : Nat} (h : Kept s₀ s) : KeptBy s₀ (Machine.execPocketVstReset mv s) :=
  .ite h.done h.tearCommit.pocketStop.wr.done

theorem Kept.execPocketReqa {wupa : Bool} (h : Kept s₀ s) : KeptBy s₀ (Machine.execPocketReqa wupa s) := by
  unfold Machine.execPocketReqa
  split
  · exact h.cardSays.done
  · exact .ite h.cardSays.done h.done
  · exact h.cardSays.done
  · exact h.cardSays.done
  · exact h.done
  · exact h.done

theorem Kept.execPocketSelect {uid : Octets} (h : Kept s₀ s) : KeptBy s₀ (Machine.execPocketSelect uid s) := by
  unfold Machine.execPocketSelect
  split
  · exact .ite h.cardSays.done h.cardSays.done
  · exact h.done

theorem Kept.execPocketHlta (h : Kept s₀ s) : KeptBy s₀ (Machine.execPocketHlta s) := by
  unfold Machine.execPocketHlta
  dsimp only
  exact .ite h.pocketEnd.randomBytes.setPocket.done h.done

theorem Kept.execPocketRats (h : Kept s₀ s) : KeptBy s₀ (Machine.execPocketRats s) := .ite h.cardSays.done h.done
theorem Kept.execPocketPps (h : Kept s₀ s) : KeptBy s₀ (Machine.execPocketPps s) := .ite h.cardSays.done h.done

theorem Kept.execPocketDeselect (h : Kept s₀ s) : KeptBy s₀ (Machine.execPocketDeselect s) :=
  .ite h.pocketEnd.setPocket.cardSays.done h.done

theorem Kept.answer {cla : Nat} {data : Octets} {w : Nat} (h : Kept s₀ s) : Kept s₀ (s.answer cla data w) := .ite h.respondSecured h.respond

theorem Kept.formed {a : Apdu} {lenOk pOk : Bool} {f : State → State} (h : Kept s₀ s) (hf : Kept s₀ (f s)) :
    Kept s₀ (s.formed a lenOk pOk f) :=
  .ite h.answer (.ite h.answer hf)

theorem Kept.wandSelect {a : Apdu} (h : Kept s₀ s) : Kept s₀ (s.wandSelect a) :=
  .ite h.respond (.ite h.sessionTo.setPocket.armIn.pocketRaise.respond h.pocketEnd.respond)

theorem Kept.wandInfo {a : Apdu} {vst : Nat} (h : Kept s₀ s) : Kept s₀ (s.wandInfo a vst) := h.formed h.answer

theorem Kept.wandRead {a : Apdu} (h : Kept s₀ s) : Kept s₀ (s.wandRead a) := by
  unfold State.wandRead
  dsimp only
  refine h.formed ?_
  split
  · exact h.answer
  · exact h.answer

theorem Kept.wandReadRaw {a : Apdu} (h : Kept s₀ s) : Kept s₀ (s.wandReadRaw a) := by
  unfold State.wandReadRaw
  dsimp only
  refine h.formed ?_
  refine .ite h.answer ?_
  split
  · exact h.answer
  · exact h.answer

theorem Kept.lowMargin {cla : Nat} (h : Kept s₀ s) : Kept s₀ (s.lowMargin cla) := h.setPocket.pocketRaise.answer

theorem Kept.wandWrite {a : Apdu} {vst : Nat} (h : Kept s₀ s) : Kept s₀ (s.wandWrite a vst) :=
  h.formed (.ite h.answer (.ite h.lowMargin h.setPocket.mailCommit))

theorem Kept.wandAuthBegin {a : Apdu} {present : Nat} (h : Kept s₀ s) : Kept s₀ (s.wandAuthBegin a present) := by
  unfold State.wandAuthBegin
  dsimp only
  exact h.formed (.ite h.answer (.ite h.answer h.randomBytes.sessionTo.setPocket.answer))

theorem Kept.proofFailed {cla : Nat} (h : Kept s₀ s) : Kept s₀ (s.proofFailed cla) := h.sessionTo.setPocket.pocketRaise.answer
theorem Kept.countProof (h : Kept s₀ s) : Kept s₀ s.countProof := h.setPocket

theorem Kept.wandAuthFinish {a : Apdu} {vst : Nat} (h : Kept s₀ s) : Kept s₀ (s.wandAuthFinish a vst) :=
  h.formed (.ite h.answer (.ite h.lowMargin (.ite h.countProof.wrAll.setPocket.answer h.countProof.proofFailed)))

theorem Kept.wandCert {a : Apdu} (h : Kept s₀ s) : Kept s₀ (s.wandCert a) := h.formed (.ite h.answer h.answer)

theorem Kept.wandAgree {a : Apdu} (h : Kept s₀ s) : Kept s₀ (s.wandAgree a) := by
  unfold State.wandAgree
  dsimp only
  refine h.formed ?_
  refine .ite h.answer ?_
  split
  · exact h.answer
  · exact h.setPocket.answer

theorem Kept.wandConfirm {a : Apdu} {vst : Nat} (h : Kept s₀ s) : Kept s₀ (s.wandConfirm a vst) := by
  unfold State.wandConfirm
  dsimp only
  refine h.formed ?_
  split
  · exact h.answer
  · exact .ite h.answer (.ite h.lowMargin (.ite h.countProof.setPocket.mailCommit h.countProof.proofFailed))

theorem Kept.pk0Loaded {key : Octets} (h : Kept s₀ s) : Kept s₀ (s.pk0Loaded key) := by
  unfold State.pk0Loaded
  dsimp only
  exact h.set.wrAll.keep.setPocket

theorem Kept.bridgeUnit {a : Apdu} {unit : Octets} {since : Nat} (h : Kept s₀ s) : Kept s₀ (s.bridgeUnit a unit since) := by
  unfold State.bridgeUnit
  dsimp only
  split
  · exact h.answer
  · exact .ite h.answer (.ite h.answer h.set.setPocket.arm.arm.wakeBy)

theorem Kept.wandDictRead {a : Apdu} {since : Nat} (h : Kept s₀ s) : Kept s₀ (s.wandDictRead a since) :=
  h.formed (.ite h.answer h.bridgeUnit)

theorem Kept.wandDictWrite {a : Apdu} {since : Nat} (h : Kept s₀ s) : Kept s₀ (s.wandDictWrite a since) := h.formed h.bridgeUnit

theorem Kept.wandReset {a : Apdu} (h : Kept s₀ s) : Kept s₀ (s.wandReset a) := by
  unfold State.wandReset
  dsimp only
  refine h.formed ?_
  split
  · exact h.answer
  · exact .ite h.answer (.ite h.answer (.ite h.wakeBy.answer (.ite h.wakeBy.answer h.wakeBy.answer.askReset)))

theorem Kept.wandEnd {a : Apdu} (h : Kept s₀ s) : Kept s₀ (s.wandEnd a) := h.formed h.answer.pocketEnd

theorem Kept.wandRun {w : Wand} {a : Apdu} {h₁ : HeldApdu} (h : Kept s₀ s) : Kept s₀ (s.wandRun w a h₁) := by
  unfold State.wandRun
  split
  · exact h.wandSelect
  · exact h.wandInfo
  · exact h.wandRead
  · exact h.wandReadRaw
  · exact h.wandWrite
  · exact h.wandAuthBegin
  · exact h.wandAuthFinish
  · exact h.wandCert
  · exact h.wandAgree
  · exact h.wandConfirm
  · exact h.wandDictRead
  · exact h.wandDictWrite
  · exact h.wandReset
  · exact h.wandEnd
  · exact h.respond

theorem Kept.apdu {h₁ : HeldApdu} (h : Kept s₀ s) : Kept s₀ (s.apdu h₁) := by
  unfold State.apdu
  dsimp only
  refine .ite h.wandSelect ?_
  refine .ite h.respond ?_
  refine .ite h.armIn.wandRun ?_
  refine .ite h.armIn.respond ?_
  refine .ite (.ite h.armIn.wandRun h.armIn.respond) ?_
  refine .ite h.armIn.respond ?_
  refine .ite h.armIn.respond ?_
  split
  · exact h.armIn.pocketEnd.respond
  · exact .ite h.armIn.answer h.armIn.wandRun

theorem Kept.wand {own : Wand} {bytes : Octets} {vst present : Nat} (h : Kept s₀ s) : Kept s₀ (s.wand own bytes vst present) :=
  .ite h (.ite h.apdu h.setPocket)

theorem Kept.execSelectByName {b : Octets} (h : Kept s₀ s) : KeptBy s₀ (Machine.execSelectByName b s) := h.wand.done
theorem Kept.execGetInfo {b : Octets} {vst : Nat} (h : Kept s₀ s) : KeptBy s₀ (Machine.execGetInfo b vst s) := h.wand.done
theorem Kept.execRead {b : Octets} (h : Kept s₀ s) : KeptBy s₀ (Machine.execRead b s) := h.wand.done
theorem Kept.execReadRaw {b : Octets} (h : Kept s₀ s) : KeptBy s₀ (Machine.execReadRaw b s) := h.wand.done
theorem Kept.execWrite {b : Octets} {vst : Nat} (h : Kept s₀ s) : KeptBy s₀ (Machine.execWrite b vst s) := h.wand.done
theorem Kept.execAuthBegin {b : Octets} {present : Nat} (h : Kept s₀ s) : KeptBy s₀ (Machine.execAuthBegin b present s) := h.wand.done
theorem Kept.execAuthFinish {b : Octets} {vst : Nat} (h : Kept s₀ s) : KeptBy s₀ (Machine.execAuthFinish b vst s) := h.wand.done
theorem Kept.execGetCert {b : Octets} (h : Kept s₀ s) : KeptBy s₀ (Machine.execGetCert b s) := h.wand.done
theorem Kept.execKeyExchangeAgree {b : Octets} (h : Kept s₀ s) : KeptBy s₀ (Machine.execKeyExchangeAgree b s) := h.wand.done

theorem Kept.execKeyExchangeConfirm {b : Octets} {vst : Nat} (h : Kept s₀ s) : KeptBy s₀ (Machine.execKeyExchangeConfirm b vst s) :=
  h.wand.done

theorem Kept.execDictRead {b : Octets} (h : Kept s₀ s) : KeptBy s₀ (Machine.execDictRead b s) := h.wand.done
theorem Kept.execDictWrite {b : Octets} (h : Kept s₀ s) : KeptBy s₀ (Machine.execDictWrite b s) := h.wand.done
theorem Kept.execResetRequest {b : Octets} (h : Kept s₀ s) : KeptBy s₀ (Machine.execResetRequest b s) := h.wand.done
theorem Kept.execEndSession {b : Octets} (h : Kept s₀ s) : KeptBy s₀ (Machine.execEndSession b s) := h.wand.done
theorem Kept.execPocketIdleTimeout (h : Kept s₀ s) : KeptBy s₀ (Machine.execPocketIdleTimeout s) := .ite h.cancel.pocketEnd.done h.done
theorem Kept.execBridgeWtxDue (h : Kept s₀ s) : KeptBy s₀ (Machine.execBridgeWtxDue s) := .ite h.arm.setPocket.done h.done
theorem Kept.execBridgeTimeout (h : Kept s₀ s) : KeptBy s₀ (Machine.execBridgeTimeout s) := .ite h.bridgeEnd.done h.done

theorem Kept.inboxRecord {i sub : Nat} {v : Octets} (h : Kept s₀ s) : KeptSnd s₀ (s.inboxRecord i sub v) := by
  unfold State.inboxRecord
  dsimp only
  refine .ite h.refusedEffect.snd ?_
  refine .ite ?_ (Kept.ite h.set.effect h.set.effect.commit).replyOut.snd
  split
  · exact h.set.inc.commit.snd
  · exact h.set.inc.keyEnded.raise.snd

theorem Kept.inboxApply {n : Nat} {l : List (Nat × Nat × Octets)} (h : Kept s₀ s) : KeptSnd s₀ (s.inboxApply n l) := by
  induction l generalizing s n with
  | nil => exact h
  | cons r l ih =>
    obtain ⟨i, sub, v⟩ := r
    unfold State.inboxApply
    split
    · exact ih (h.inboxRecord.of_eq ‹_›)
    · exact h.inboxRecord.of_eq ‹_›

theorem Kept.inboxRun (h : Kept s₀ s) : Kept s₀ s.inboxRun := by
  unfold State.inboxRun
  dsimp only
  refine .mailCommit (.mailCommit ?_)
  split
  · exact h.inboxApply
  · exact h

theorem Kept.pageDone {c : PageCommit} {ok : Bool} (h : Kept s₀ s) : Kept s₀ (s.pageDone c ok) := by
  unfold State.pageDone
  extract_lets st s₁ s₂
  have h₁ : Kept s₀ s₁ := .ite h.noteCommissioned h
  have h₂ : Kept s₀ s₂ := h₁.pocketRaise
  exact .ite (.ite h₁.inboxRun h₁.setPocket) (.ite h₁.setPocket.raise (.ite (.ite h₂.inboxBegin h₂) h₁))

theorem Kept.execPocketCommitDone {ok : Bool} (h : Kept s₀ s) : KeptBy s₀ (Machine.execPocketCommitDone ok s) := by
  unfold Machine.execPocketCommitDone
  split
  · exact h.done
  · refine .ite h.done ?_
    extract_lets s₁ s₂ a₁ a₂ s₃ s₄
    have h₁ : Kept s₀ s₁ := h.setFlash fun hp => ⟨hp.finish.mail, hp.finish.desc⟩
    have h₂ : Kept s₀ s₂ := .ite h₁ (.ite h₁.fault.raise h₁.setPocket)
    have ha₂ : Kept s₀ a₂ := by
      unfold a₂
      split
      · exact h₂.setPocket.pk0Loaded
      · exact h₂.setPocket
    have h₃ : Kept s₀ s₃ := by
      unfold s₃
      split
      · exact .ite h₂ (ha₂.answer.closeDue)
      · exact h₂
    have h₄ : Kept s₀ s₄ := h₃.pageDone.beginCommit
    split
    · exact .ite h₄.setPocket.apdu.done h₄.done
    · exact h₄.done

/-! ### Machine/Nva -/

theorem Kept.checkpointKept {count : Nat} (h : Kept s₀ s) : Kept s₀ (s.checkpointKept count) := h.set.keepTracked

theorem Kept.recordResets {page : Nat} (h : Kept s₀ s) : Kept s₀ (s.recordResets page) := by
  unfold State.recordResets
  dsimp only
  split
  · exact h
  · exact .ite h h.setRecord.askReset

theorem Kept.recordKept {page : Nat} (h : Kept s₀ s) : Kept s₀ (s.recordKept page) := by
  unfold State.recordKept
  dsimp only
  split
  · exact h
  · exact h.set.recordResets.noteCopy

theorem Kept.reportBlock {t : Tenant} (h : Kept s₀ s) : Kept s₀ (s.reportBlock t) := .ite (.ite h.set.serviceLow h.set) h

theorem Kept.countersKept (h : Kept s₀ s) : Kept s₀ s.countersKept :=
  (h.set.foldl fun _ _ h => h.reportBlock).set.foldl fun _ _ h => .ite h.setBox h

theorem Kept.allAnswered {t : Tenant} {id : Nat} (h : Kept s₀ s) : Kept s₀ (s.allAnswered t id) := by
  unfold State.allAnswered
  split
  · split
    · exact .ite h h.reply
    · exact h
  · exact h

theorem Kept.keepMine {w : List (Nat × Nat)} (h : Kept s₀ s) : Kept s₀ (s.keepMine w) := h.keep.set

theorem Kept.dictKept {t : Tenant} {id : Nat} {w : List (Nat × Nat)} (h : Kept s₀ s) : Kept s₀ (s.dictKept t id w) :=
  (h.foldl fun _ _ h => h.charge).keepMine.set.allAnswered

theorem Kept.ownKept {w : List (Nat × Nat)} (h : Kept s₀ s) : Kept s₀ (s.ownKept w) := .ite h.set h.keepMine
theorem Kept.deletionKept {t : Tenant} (h : Kept s₀ s) : Kept s₀ (s.deletionKept t) := (h.keep.foldl fun _ _ h => h.keep).set.commissionPage
theorem Kept.networkLoaded {k : Nat} (h : Kept s₀ s) : Kept s₀ (s.networkLoaded k) := h.wr.causeEndKey.set.joinNow
theorem Kept.serviceLoaded {t : Tenant} (h : Kept s₀ s) : Kept s₀ (s.serviceLoaded t) := .ite h.wrAll.set h

theorem Kept.keyLoaded {c : Nat} (h : Kept s₀ s) : Kept s₀ (s.keyLoaded c) :=
  .ite h.networkLoaded (.ite h.serviceLoaded (.ite h.commissionPage h))

theorem Kept.keyKept {c : Nat} {bytes : Option Octets} {t : Tenant} {id : Nat} (h : Kept s₀ s) : Kept s₀ (s.keyKept c bytes t id) := by
  unfold State.keyKept
  dsimp only
  split
  · exact h.keyEnded.allAnswered.wrAll.keep.cancel.set.keyLoaded.raise
  · exact h.keyEnded.allAnswered.wrAll.keep.cancel.set.keyGone.raise

theorem Kept.kept {c : Commit} (h : Kept s₀ s) : Kept s₀ (s.kept c) := by
  unfold State.kept
  split
  · exact h.checkpointKept
  · exact h.recordKept
  · exact h.countersKept
  · exact h.set
  · exact h.keepTunings
  · exact h.dictKept
  · exact h.ownKept
  · exact h.deletionKept
  · exact h.keyKept

theorem Kept.makeAgain {c : Commit} (h : Kept s₀ s) : Kept s₀ (s.makeAgain c) := h.set
theorem Kept.putBack {t : Tenant} {w : List (Nat × Nat)} (h : Kept s₀ s) : Kept s₀ (s.putBack t w) := h.foldl fun _ _ h => .ite h.store h

theorem Kept.notKept {c : Commit} (h : Kept s₀ s) : Kept s₀ (s.notKept c) := by
  unfold State.notKept
  dsimp only
  split
  · exact h.recordResets
  · exact h.putBack.failReply
  · exact h.wrAll.failReply
  · exact h.set.makeAgain
  · exact h.makeAgain

theorem Kept.skipIdle {n : Nat} (h : Kept s₀ s) : Kept s₀ (State.skipIdle n s) := by
  induction n generalizing s with
  | zero => exact h
  | succ n ih =>
    unfold State.skipIdle
    split
    · exact h
    · exact .ite (ih h.set.kept) h

theorem Kept.commitOver (h : Kept s₀ s) : Kept s₀ s.commitOver := h.skipIdle.applyResets

theorem Kept.execNvaCommitDone {ok : Bool} {page : Nat} (h : Kept s₀ s) : KeptBy s₀ (Machine.execNvaCommitDone ok page s) := by
  unfold Machine.execNvaCommitDone
  dsimp only
  split
  · exact h.done
  · exact .ite h.done (.ite h.set.kept.commitOver.done (.ite h.set.done h.set.notKept.fault.commitOver.done))

theorem Kept.execNvaCommitRetry (h : Kept s₀ s) : KeptBy s₀ (Machine.execNvaCommitRetry s) :=
  .ite h.done (h.set.foldl fun _ _ h => h.commit).done

/-! ### Machine/HostPort -/

theorem Kept.clocked {b : Octets} (h : Kept s₀ s) : Kept s₀ (s.clocked b) := h.set
theorem Kept.execHostPortSelect (h : Kept s₀ s) : KeptBy s₀ (Machine.execHostPortSelect s) := .ite h.set.wakeBy.done h.done

theorem Kept.execSubmit {b : Octets} (h : Kept s₀ s) : KeptBy s₀ (Machine.execSubmit b s) := by
  unfold Machine.execSubmit
  dsimp only
  exact .ite h.set.done (.ite h.clocked.set.done h.clocked.set.done)

theorem Kept.execFetchReply {sent : Octets} (h : Kept s₀ s) : KeptBy s₀ (Machine.execFetchReply sent s) := by
  unfold Machine.execFetchReply
  dsimp only
  refine .ite h.set.done ?_
  split
  · exact h.clocked.done
  · exact h.clocked.handOver.done

theorem Kept.execFetchEvent {sent : Octets} (h : Kept s₀ s) : KeptBy s₀ (Machine.execFetchEvent sent s) := by
  unfold Machine.execFetchEvent
  dsimp only
  refine .ite h.set.done ?_
  split
  · exact h.clocked.done
  · split
    · exact h.clocked.done
    · exact h.clocked.readEvent.done

theorem Kept.execStatus {sent : Octets} (h : Kept s₀ s) : KeptBy s₀ (Machine.execStatus sent s) := .ite h.set.done h.clocked.set.done

/-! ### Machine/Tenants -/

theorem Kept.execTenantResetComplete {t : Tenant} (h : Kept s₀ s) : KeptBy s₀ (Machine.execTenantResetComplete t s) :=
  .ite h.tenantBack.raise.done h.done

theorem Kept.execTenantDeletionComplete {t : Tenant} (h : Kept s₀ s) : KeptBy s₀ (Machine.execTenantDeletionComplete t s) :=
  .ite h.wrKeep.raise.done h.done

theorem Kept.execFaultRaise {source : Nat} {domain : Tenant} {detail : Nat} (h : Kept s₀ s) :
    KeptBy s₀ (Machine.execFaultRaise source domain detail s) :=
  .ite h.done h.faultKeyed.done

theorem Kept.execHandlingWindowExpired {t : Tenant} (h : Kept s₀ s) : KeptBy s₀ (Machine.execHandlingWindowExpired t s) := by
  unfold Machine.execHandlingWindowExpired
  dsimp only
  refine .ite ?_ h.done
  split
  · exact h.cancel.setRecord.leaveOpen.done
  · exact h.cancel.done

theorem Kept.execFaultCopyRefresh (h : Kept s₀ s) : KeptBy s₀ (Machine.execFaultCopyRefresh s) :=
  .ite (Kept.ite h.refreshCopy h.cancel).done h.done

/-! ### Machine/Dispatch -/

theorem Kept.exec {i : Instr} (h : Kept s₀ s) : KeptBy s₀ (Machine.exec i s) := by
  unfold Machine.exec
  split
  · exact h.execPowerOn
  · exact h.execBrownout
  · exact h.execResetNLow
  · exact h.execResetRelease
  · exact h.execConductorStart
  · exact h.execResetRequestTenant
  · exact h.execResetRequestField
  · exact h.execResetRequestAir
  · exact h.execResetRequestLine
  · exact h.execResetRequestPocket
  · exact h.execResetRequestConductor
  · exact h.execResetRequestWarm
  · exact h.execResetRequestChip
  · exact h.execBlockResetBitsWrite
  · exact h.execVlinePresent
  · exact h.execVlineLost
  · exact h.execVioPresent
  · exact h.execVioLost
  · exact h.execVbatSample
  · exact h.execShedEnd
  · exact h.execWake
  · exact h.execEnergyHourlyUpdate
  · exact h.execNewPack
  · exact h.execTemperatureReading
  · exact h.execTemperatureTermWrite
  · exact h.execDisciplineSettingWrite
  · exact h.execFieldWindowComplete
  · exact h.execTempoMeasurement
  · exact h.execScoreTrigger
  · exact h.execScoreStartCommand
  · exact h.execScoreStopCommand
  · exact h.execStepRecordWrite
  · exact h.execVoiceGrant
  · exact h.execStepDeadlineExpired
  · exact h.execWaitStepElapsed
  · exact h.execChannelSelected
  · exact h.execBoostReady
  · exact h.execBoostStopDone
  · exact h.execVfldOvervoltage
  · exact h.execVfldUndervoltage
  · exact h.execRampUpDone
  · exact h.execSettleElapsed
  · exact h.execSlewDone
  · exact h.execRampDownDone
  · exact h.execFloorDwellElapsed
  · exact h.execVoiceOvercurrent
  · exact h.execVoiceEnableWrite
  · exact h.execCouplingMapWrite
  · exact h.execRequestFrameStart
  · exact h.execRequestFrameEnd
  · exact h.execSeparateEofDue
  · exact h.execReplyStart
  · exact h.execResponseWindowClose
  · exact h.execReplyFrameEnd
  · exact h.execWtxBudgetExpired
  · exact h.execCardProbe
  · exact h.execKeySuspensionEnd
  · exact h.execTuningStart
  · exact h.execTuningRevert
  · exact h.execTuningAbort
  · exact h.execTuningFirstRunDone
  · exact h.execTuningRepeatDone
  · exact h.execAutoTuningStart
  · exact h.execAntBackgroundWindow
  · exact h.execOffsetBackgroundWindow
  · exact h.execIqBackgroundWindow
  · exact h.execGainBackgroundWindow
  · exact h.execSliceBackgroundWindow
  · exact h.execSliceRetirement
  · exact h.execRefEdgeTimeout
  · exact h.execRefGateEnd
  · exact h.execAirClockCheck
  · exact h.execAirSfdFound
  · exact h.execPreambleTimeout
  · exact h.execAirRxFrameEnd
  · exact h.execSealRequest
  · exact h.execSealConfirm
  · exact h.execSealWriteDone
  · exact h.execSynEntryRunDone
  · exact h.execPaGainWrite
  · exact h.execCueListen
  · exact h.execCueWordReceived
  · exact h.execLbtListenEnd
  · exact h.execHomeChannelChangeRequest
  · exact h.execIndirectExpired
  · exact h.execChildExpired
  · exact h.execCueDelayExpired
  · exact h.execCueRetryDue
  · exact h.execRouteLapse
  · exact h.execMeshDupLapse
  · exact h.execReportRetryDue
  · exact h.execMeshAddressRelease
  · exact h.execLinePollReceived
  · exact h.execLineEmptyReceived
  · exact h.execLineDataReceived
  · exact h.execLineAckReceived
  · exact h.execLineNakReceived
  · exact h.execLineTimeReceived
  · exact h.execLinePresenceReceived
  · exact h.execSearchStartReceived
  · exact h.execSearchPassReceived
  · exact h.execHeadSearchPass
  · exact h.execSearchEndReceived
  · exact h.execAssignReceived
  · exact h.execHeadWalk
  · exact h.execWalkProbeReceived
  · exact h.execWalkTallyReceived
  · exact h.execIsolateReceived
  · exact h.execReconnectReceived
  · exact h.execLineOvercurrent
  · exact h.execSearchNow
  · exact h.execWalkNow
  · exact h.execIsolateCommand
  · exact h.execReconnectCommand
  · exact h.execLineAddressRelease
  · exact h.execPocketHarvestReady
  · exact h.execPocketVstReset
  · exact h.execPocketReqa
  · exact h.execPocketSelect
  · exact h.execSelectByName
  · exact h.execGetInfo
  · exact h.execRead
  · exact h.execReadRaw
  · exact h.execWrite
  · exact h.execPocketCommitDone
  · exact h.execAuthBegin
  · exact h.execAuthFinish
  · exact h.execGetCert
  · exact h.execKeyExchangeAgree
  · exact h.execKeyExchangeConfirm
  · exact h.execDictRead
  · exact h.execDictWrite
  · exact h.execResetRequest
  · exact h.execEndSession
  · exact h.execServiceRead
  · exact h.execServiceWrite
  · exact h.execBlockOpen
  · exact h.execBlockData
  · exact h.execBlockClose
  · exact h.execSubscribe
  · exact h.execUnsubscribe
  · exact h.execDescribe
  · exact h.execNext
  · exact h.execNvaCommitDone
  · exact h.execBlockLapse
  · exact h.execSubscriptionIntervalEnd
  · exact h.execSubmit
  · exact h.execFetchReply
  · exact h.execFetchEvent
  · exact h.execStatus
  · exact h.execTenantCreate
  · exact h.execTenantDelete
  · exact h.execTenantDeletionComplete
  · exact h.execTenantReset
  · exact h.execTenantResetComplete
  · exact h.execAllotmentWrite
  · exact h.execKeyImport
  · exact h.execKeyErase
  · exact h.execImageBegin
  · exact h.execImageWindowWrite
  · exact h.execImageVerify
  · exact h.execImageActivate
  · exact h.execImageConfirm
  · exact h.execImageAbort
  · exact h.execImageRevert
  · exact h.execMetronomeStart
  · exact h.execMetronomeStop
  · exact h.execMetronomeRestart
  · exact h.execMetronomeStartInstant
  · exact h.execMetronomeCompare
  · exact h.execMetronomeZero
  · exact h.execMetronomeTop
  · exact h.execPeriodBufferWrite
  · exact h.execCompareWrite
  · exact h.execStrideWrite
  · exact h.execFaultRaise
  · exact h.execFaultAcknowledge
  · exact h.execHandlingWindowExpired
  · exact h.execFaultClear
  · exact h.execReactionWrite
  · exact h.execLinkRequest
  · exact h.execLinkReply
  · exact h.execLinkReject
  · exact h.execLinkNotify
  · exact h.execAlive
  · exact h.execLinkStartWorkDone
  · exact h.execAliveTimeout
  · exact h.execLinkWordTimeout
  · exact h.execResyncInterval
  · exact h.execResync
  · exact h.execGpConfigWrite
  · exact h.execResponseWindowOpen
  · exact h.execSourceEligibilityLapse
  · exact h.execSupplyLoss
  · exact h.execResetApply
  · exact h.execPocketDieRelease
  · exact h.execAirDieRelease
  · exact h.execLineDieRelease
  · exact h.execFieldDieRelease
  · exact h.execStartUpComplete
  · exact h.execStartTimeout
  · exact h.execVbatMinuteEnd
  · exact h.execRestEntry
  · exact h.execOsc27RestartDone
  · exact h.execEnergyReport
  · exact h.execCheckpointDue
  · exact h.execNetworkOffsetLapse
  · exact h.execBoostStartTimeout
  · exact h.execBoostSlewTimeout
  · exact h.execBoostHoldOffExpired
  · exact h.execCryptoJobDone
  · exact h.execCueHourlyCheck
  · exact h.execAirStartRequest
  · exact h.execAirReady
  · exact h.execAirStopRequest
  · exact h.execAirEnergyDetect
  · exact h.execAirTxRequest
  · exact h.execPaSupplySettled
  · exact h.execBiasSettled
  · exact h.execSynLockDone
  · exact h.execSynLockTimeout
  · exact h.execPaRampUpDone
  · exact h.execAirTxLastBit
  · exact h.execPaRampDownDone
  · exact h.execXpaEnOffDue
  · exact h.execDischargeElapsed
  · exact h.execOffSequenceComplete
  · exact h.execSynHoldExpired
  · exact h.execSealWindowExpired
  · exact h.execLedgerBinRollover
  · exact h.execAutoSynRetune
  · exact h.execCueGiveUp
  · exact h.execCueStopDone
  · exact h.execMacFrameSend
  · exact h.execBackoffExpired
  · exact h.execImmAckDue
  · exact h.execImmAckReceived
  · exact h.execAckWaitClosed
  · exact h.execMacFrameReceived
  · exact h.execPoll
  · exact h.execTime
  · exact h.execJoinRequest
  · exact h.execJoinAccept
  · exact h.execJoinDeny
  · exact h.execMesh
  · exact h.execJoinScanEnd
  · exact h.execJoinTimeout
  · exact h.execJoinRetry
  · exact h.execCoordinatorConflictLapse
  · exact h.execSlotBoundary
  · exact h.execTimeBroadcastDue
  · exact h.execUnsynchronised
  · exact h.execUnsyncScanTimeout
  · exact h.execHomeChannelSwitch
  · exact h.execPollIntervalExpired
  · exact h.execPendingWaitExpired
  · exact h.execSyncTimeInsert
  · exact h.execHeadPollCycle
  · exact h.execLineReplyDue
  · exact h.execLineReplyWindowClose
  · exact h.execLineTimeDue
  · exact h.execPresenceDue
  · exact h.execPresenceSeen
  · exact h.execBypassOpenDue
  · exact h.execAddressHoldExpired
  · exact h.execForeignDip
  · exact h.execHeadConflictLapse
  · exact h.execLineOffHoldEnd
  · exact h.execFieldOn
  · exact h.execFieldOff
  · exact h.execPocketHlta
  · exact h.execPocketRats
  · exact h.execPocketPps
  · exact h.execPocketDeselect
  · exact h.execPocketIdleTimeout
  · exact h.execBridgeWtxDue
  · exact h.execBridgeTimeout
  · exact h.execServiceRequestArrival
  · exact h.execNvaCommitRetry
  · exact h.execHostPortSelect
  · exact h.execImageVerifyDone
  · exact h.execActivateQuiesced
  · exact h.execTrialWindowExpired
  · exact h.execTrialAirReadyTimeout
  · exact h.execFaultCopyRefresh
  · exact h.execXpaEnOnDue
  · exact h.execLineOvercurrentLapse

end

/-! ### A step -/

/-- Every step carries on from the state whose front command it has taken. -/
theorem State.step_kept (s : State) : KeptBy { s with pending := s.pending.tail } (step s) := by
  cases hs : s.pending with
  | nil =>
    have hidle : step s = .next s.idle := by simp only [step, hs]
    rw [hidle, List.tail_nil, ← hs]
    exact (Kept.refl s).idle.next
  | cons c rest =>
    have hfront : step s = exec c { s with pending := rest } := by simp only [step, hs]
    rw [hfront]
    exact (Kept.refl _).exec

/-- Settles O5: each operation of the model that writes one of the four tables writes it by an operation that keeps its canonical form,
so each command keeps them, and so does a step on an empty queue. -/
theorem canonicalFormsKept : Obligations.CanonicalFormsKept :=
  fun s _ hs ht => (s.step_kept ht).forms hs

/-- Settles O4: at reset none of the four tables holds an entry. -/
theorem canonicalFormsAtReset : Obligations.CanonicalFormsAtReset := by
  unfold Obligations.CanonicalFormsAtReset
  decide

end Sys2Proof.Machine
end
section
/-! PROOFS. What the pocket port's shared operations set and leave (chapter 12): shared by the proofs about the pocket port. -/

namespace Sys2Proof.Machine

/-! ### The pocket die's state -/

theorem State.setPocket_changes (s : State) (f : Pocket → Pocket) : Changes [.pocket] [] s (s.setPocket f) := by
  refine ⟨rfl, fun p hp => ?_, fun _ _ => rfl⟩
  cases p
  case pocket => exact absurd (List.mem_singleton_self _) hp
  all_goals rfl

theorem State.cardSays_changes (s : State) (c : Card) (b : Octets) : Changes [.pocket] [] s (s.cardSays c b) := s.setPocket_changes _

@[simp] theorem State.rd_setPocket (s : State) (f : Pocket → Pocket) (k : Nat) : (s.setPocket f).rd k = s.rd k := rfl

@[simp] theorem State.rd_cardSays (s : State) (c : Card) (b : Octets) (k : Nat) : (s.cardSays c b).rd k = s.rd k := rfl

theorem State.randomBytes_changes (s : State) (n : Nat) : Changes [.crypto] [] s (s.randomBytes n).2 := s.withCrypto_changes _

@[simp] theorem State.pocketRaise_pocket (s : State) (e : Nat) (l : List Tenant) (d : Octets) :
    (s.pocketRaise e l d).pocket = s.pocket := by
  unfold State.pocketRaise
  split
  · exact s.raise_pocket e l d
  · rfl

/-! ### Page commits (R344) -/

theorem State.beginCommit_of_none {s : State} (h : s.pocket.commits = []) : s.beginCommit = s := by
  unfold State.beginCommit
  rw [h]

theorem State.tearCommit_of_none {s : State} (h : s.pocket.commits = []) : s.tearCommit = s := by
  unfold State.tearCommit
  rw [h]

/-! ### Sessions (R353) -/

/-- The session's secrets forgotten (R353): what a session state other than SECURED leaves of the pocket die. -/
def Pocket.noSecrets (p : Pocket) : Pocket :=
  { p with kenc := [], kmac := [], sid := [], counter := 0, rndW := [], rndP := [], bridge := none, closing := false }

section
variable (s : State) (n : Nat)

theorem State.sessionTo_changes : Changes [.pocket, .timers] [ob 0x5400 0x02, ob 0x5400 0x03] s (s.sessionTo n) :=
  ((((s.wrAll_changes _).trans (State.cancel_changes _ _)).trans (State.cancel_changes _ _)).trans
    (State.setPocket_changes _ _)).mono (by simp) (by simp)

theorem State.sessionTo_pocket : (s.sessionTo n).pocket = s.pocket.noSecrets := rfl

theorem State.rd_sessionTo (k : Nat) : (s.sessionTo n).rd k = ((s.wr (ob 0x5400 0x02) n).wr (ob 0x5400 0x03) 0xFF).rd k := rfl

theorem State.rd_sessionTo_state : (s.sessionTo n).rd (ob 0x5400 0x02) = n := by
  rw [State.rd_sessionTo, State.rd_wr_other _ _ (by simp), State.rd_wr_self]

theorem State.rd_sessionTo_tenant : (s.sessionTo n).rd (ob 0x5400 0x03) = 0xFF := by
  rw [State.rd_sessionTo, State.rd_wr_self]

theorem State.sessionTo_bridgeTimeout : (s.sessionTo n).isArmed .bridgeTimeout = false := State.cancel_isArmed _ _

end

/-- The state once an open session has ended, before its event. -/
def State.sessionOver (s : State) : State := ((s.setPocket (fun p => { p with kx := none })).sessionTo 0).cancel .pocketIdle

theorem State.pocketEnd_of_closed {s : State} (h : s.pocketSession = 0) :
    s.pocketEnd = s.setPocket (fun p => { p with kx := none }) := if_pos h

theorem State.pocketEnd_of_open {s : State} (h : s.pocketSession ≠ 0) :
    s.pocketEnd = s.sessionOver.pocketRaise 1059 (andT0 s.pocketTenant) (u8 (s.rd (ob 0x5400 0x03))) := if_neg h

/-- The end of a session leaves what the port is doing beside it. -/
theorem State.pocketEnd_commits (s : State) : s.pocketEnd.pocket.commits = s.pocket.commits := by
  by_cases h : s.pocketSession = 0
  · rw [State.pocketEnd_of_closed h]; rfl
  · rw [State.pocketEnd_of_open h, State.pocketRaise_pocket]; rfl

theorem State.pocketEnd_held (s : State) : s.pocketEnd.pocket.held = s.pocket.held := by
  by_cases h : s.pocketSession = 0
  · rw [State.pocketEnd_of_closed h]; rfl
  · rw [State.pocketEnd_of_open h, State.pocketRaise_pocket]; rfl

theorem State.closeDue_commits (s : State) : s.closeDue.pocket.commits = s.pocket.commits := by
  unfold State.closeDue
  split
  · exact s.pocketEnd_commits
  · rfl

theorem State.closeDue_held (s : State) : s.closeDue.pocket.held = s.pocket.held := by
  unfold State.closeDue
  split
  · exact s.pocketEnd_held
  · rfl

theorem State.answer_commits (s : State) (k : Nat) (d : Octets) (w : Nat) : (s.answer k d w).pocket.commits = s.pocket.commits := by
  unfold State.answer
  split <;> rfl

theorem State.answer_held (s : State) (k : Nat) (d : Octets) (w : Nat) : (s.answer k d w).pocket.held = s.pocket.held := by
  unfold State.answer
  split <;> rfl

end Sys2Proof.Machine
end
section
/-! PROOFS. The field, the supply, the card layer, the end of a session, page commits and the bridge's timers (chapter 12, R340 to R345,
R353, R362): the statement `PocketCardAndField`. -/

namespace Sys2Proof.Machine

/-! ### The field (R340) -/

/-- A field noted: on the supply the card layer starts with it. -/
def State.fieldNoted (s : State) : State :=
  let s := (s.setPocket (fun p => { p with field := true })).wr (ob 0x5400 0x01) 1
  if s.pocket.running then s.cardSays .idle [] else s

theorem State.fieldNoted_changes (s : State) : Changes [.pocket] [ob 0x5400 0x01] s s.fieldNoted := by
  have hwr := (s.setPocket_changes (fun p => { p with field := true })).trans (State.wr_changes _ (ob 0x5400 0x01) 1)
  exact .ite ((hwr.trans (State.cardSays_changes _ _ _)).mono (by simp) (by simp)) hwr

theorem State.rd_fieldNoted (s : State) : s.fieldNoted.rd (ob 0x5400 0x01) = 1 := by
  unfold State.fieldNoted
  dsimp only
  split <;> simp

theorem State.fieldNoted_pocket (s : State) : s.fieldNoted.pocket =
    (if s.pocket.running then { s.pocket with field := true, card := .idle, resp := [] } else { s.pocket with field := true }) :=
  apply_ite State.pocket _ _ _

/-- A field gone: the card layer is off, nothing is owed. -/
def State.fieldDropped (s : State) : State :=
  (s.pocketEnd.setPocket (fun p => { p with field := false, card := .off, held := none, answer := none })).wr (ob 0x5400 0x01) 0

theorem State.fieldDropped_changes (s : State) : Changes [.pocket] [ob 0x5400 0x01] s.pocketEnd s.fieldDropped :=
  (State.setPocket_changes _ _).trans (State.wr_changes _ _ _)

/-! ### The supply (R340) -/

/-- The port started: its card layer idle on a field, a scrub due, with a new UID. -/
def State.pocketReady (s : State) : State :=
  (s.randomBytes 3).2.setPocket (fun p => { p with
    running := true, uid := 0x08 :: (s.randomBytes 3).1, card := if p.field then .idle else .off, scrub := true, resp := [] })

theorem State.pocketReady_changes (s : State) : Changes [.crypto, .pocket] [] s s.pocketReady :=
  (s.randomBytes_changes 3).trans (State.setPocket_changes _ _)

theorem State.pocketStart_of_none {s : State} (h : s.pocket.commits = []) : s.pocketStart = s.pocketReady :=
  State.beginCommit_of_none (s := s.pocketReady) h

theorem ends_pocketHarvestReady {s : State} {mv : Nat} (hpower : s.power.powered = false) (hrun : s.pocket.running = false)
    (hfield : s.pocket.field = true) (hmv : 1800 ≤ mv) (hidle : s.pocket.commits = []) :
    Ends (.pocketHarvestReady mv) s (s.pocketReady.wr (ob 0x5400 0x04) mv) := by
  have hexec : exec (.pocketHarvestReady mv) s = done (s.pocketStart.wr (ob 0x5400 0x04) mv) :=
    if_neg (by simp [hpower, hrun, hfield, hmv])
  rw [Ends, hexec, done_eq, State.pocketStart_of_none hidle]

theorem ends_pocketVstReset {s : State} {mv : Nat} (hpower : s.power.powered = false) (hrun : s.pocket.running = true)
    (hmv : mv < 1700) (hidle : s.pocket.commits = []) :
    Ends (.pocketVstReset mv) s (s.pocketStop.wr (ob 0x5400 0x04) mv) := by
  have hexec : exec (.pocketVstReset mv) s = done (s.tearCommit.pocketStop.wr (ob 0x5400 0x04) mv) :=
    if_neg (by simp [hpower, hrun, hmv])
  rw [Ends, hexec, done_eq, State.tearCommit_of_none hidle]

theorem State.pocketStop_changes (s : State) : Changes [.pocket] [] s.pocketEnd s.pocketStop := State.setPocket_changes _ _

/-! ### The card layer (R341, R353) -/

theorem ends_pocketReqa {s : State} {w : Bool} (h : s.pocket.card = .idle ∨ (s.pocket.card = .halted ∧ w = true)) :
    Ends (.pocketReqa w) s (s.cardSays .ready [0x04, 0x00]) := by
  change execPocketReqa w s = _
  unfold execPocketReqa
  obtain hc | ⟨hc, hw⟩ := h
  · rw [hc]; rfl
  · rw [hc, hw]; rfl

theorem ends_pocketReqa_of_deaf {s : State} (h : s.pocket.card = .halted ∨ s.pocket.card = .iso ∨ s.pocket.card = .off) :
    Ends (.pocketReqa false) s s := by
  change execPocketReqa false s = _
  unfold execPocketReqa
  obtain hc | hc | hc := h <;> rw [hc] <;> rfl

theorem ends_pocketSelect {s : State} (h : s.pocket.card = .ready) (b : Octets) :
    Ends (.pocketSelect b) s (if b = s.pocket.uid then s.cardSays .active [0x20] else s.cardSays .idle []) := by
  change execPocketSelect b s = _
  unfold execPocketSelect
  rw [h]
  by_cases hb : b = s.pocket.uid
  · simp only [if_pos hb]
    rfl
  · simp only [if_neg hb]
    rfl

/-- A deselected card: what was held or owed is dropped with the session. -/
def State.deselected (s : State) : State :=
  (s.pocketEnd.setPocket (fun p => { p with held := none, answer := none })).cardSays .halted [0xC2]

theorem State.deselected_changes (s : State) : Changes [.pocket] [] s.pocketEnd s.deselected :=
  ((State.setPocket_changes _ _).trans (State.cardSays_changes _ _ _)).mono (by simp) (by simp)

/-- A halted card: the session is over, its UID fresh. -/
def State.halted (s : State) : State :=
  (s.pocketEnd.randomBytes 3).2.setPocket (fun p => { p with
    card := .halted, uid := 0x08 :: (s.pocketEnd.randomBytes 3).1, resp := [], held := none, answer := none })

theorem State.halted_changes (s : State) : Changes [.crypto, .pocket] [] s.pocketEnd s.halted :=
  (State.randomBytes_changes _ 3).trans (State.setPocket_changes _ _)

/-! ### The end of a session (R353) -/

theorem State.sessionOver_changes (s : State) : Changes [.pocket, .timers] [ob 0x5400 0x02, ob 0x5400 0x03] s s.sessionOver :=
  (((s.setPocket_changes _).trans (State.sessionTo_changes _ 0)).trans (State.cancel_changes _ _)).mono (by simp) (by simp)

theorem State.sessionOver_pocket (s : State) : s.sessionOver.pocket = { s.pocket.noSecrets with kx := none } := rfl

/-! ### The bridge's timers (R362) -/

/-- The bridge command in progress given up. -/
def State.bridgeDropped (s : State) : State :=
  ((s.cancel .bridgeWtx).cancel .bridgeTimeout).setPocket (fun p => { p with bridge := none })

theorem State.bridgeDropped_changes (s : State) : Changes [.pocket, .timers] [] s s.bridgeDropped :=
  (((s.cancel_changes _).trans (State.cancel_changes _ _)).trans (State.setPocket_changes _ _)).mono (by simp) (by simp)

theorem ends_bridgeTimeout {s : State} (hdue : s.isDue .bridgeTimeout = true) (hb : s.pocket.bridge ≠ none) :
    Ends .bridgeTimeout s (s.bridgeDropped.respondSecured [] 0x910F).closeDue := by
  have hsome : s.pocket.bridge.isSome = true := Option.isSome_iff_ne_none.2 hb
  have hexec : exec .bridgeTimeout s = done (s.bridgeEnd [] 0x910F) := if_pos (by rw [hdue, hsome]; rfl)
  have hend : s.bridgeEnd [] 0x910F = (s.bridgeDropped.respondSecured [] 0x910F).closeDue := if_neg (by simpa using hb)
  rw [Ends, hexec, done_eq, hend]

/-- S(WTX) sent again: the next is due 60,000 us after the instant of this one. -/
def State.wtxAgain (s : State) (d : Nat) : State :=
  (s.arm .bridgeWtx (d + 60000)).setPocket (fun p => { p with resp := [0xF2, 0x01] })

theorem State.wtxAgain_changes (s : State) (d : Nat) : Changes [.pocket, .timers] [] s (s.wtxAgain d) :=
  ((s.arm_changes _ _).trans (State.setPocket_changes _ _)).mono (by simp) (by simp)

theorem ends_bridgeWtxDue {s : State} {d : Nat} (hd : s.dueAt .bridgeWtx = some d) (hle : d ≤ s.now) (hb : s.pocket.bridge ≠ none) :
    Ends .bridgeWtxDue s (s.wtxAgain d) := by
  have hsome : s.pocket.bridge.isSome = true := Option.isSome_iff_ne_none.2 hb
  have hexec : exec .bridgeWtxDue s = done (s.wtxAgain ((s.dueAt .bridgeWtx).getD 0)) :=
    if_pos (by rw [State.isDue_of_le hd hle, hsome]; rfl)
  rw [Ends, hexec, done_eq, hd]
  rfl

/-! ### Page commits (R344, R345) -/

/-- `q` is `p` but for the mailbox array, its descriptors and their erase counts. -/
def Pocket.SameButArray (p q : Pocket) : Prop := ∃ m d e, q = { p with mail := m, desc := d, erases := e }

namespace Pocket.SameButArray
variable {p q r : Pocket}

theorem trans (h : p.SameButArray q) (g : q.SameButArray r) : p.SameButArray r := by
  obtain ⟨_, _, _, rfl⟩ := h
  obtain ⟨m, d, e, rfl⟩ := g
  exact ⟨m, d, e, rfl⟩

theorem ite {c : Prop} [Decidable c] (h : p.SameButArray q) (g : p.SameButArray r) : p.SameButArray (if c then q else r) := by
  split
  · exact h
  · exact g

theorem state (h : p.SameButArray q) (n v : Nat) : p.SameButArray (q.state n v) := h.trans ⟨_, _, _, rfl⟩

theorem retireAll (p : Pocket) (l : List Nat) : p.SameButArray (p.retireAll l) := by
  unfold Pocket.retireAll
  induction l generalizing p with
  | nil => exact ⟨_, _, _, rfl⟩
  | cons n l ih => exact trans ⟨_, _, _, rfl⟩ (ih (p.state n 0x1F))

theorem finish (p : Pocket) (c : PageCommit) (ok : Bool) : p.SameButArray (p.finish c ok) := by
  unfold Pocket.finish
  split
  · exact ⟨_, _, _, rfl⟩
  · extract_lets p₁ old d p₂ p₃
    have h₁ : p.SameButArray p₁ := retireAll p c.scrub
    have h₂ : p.SameButArray p₂ := .ite h₁ (h₁.trans ⟨_, _, _, rfl⟩)
    have h₃ : p.SameButArray p₃ := h₂.trans ⟨_, _, _, rfl⟩
    clear_value old p₃
    refine .ite ?_ h₃
    split
    · exact h₃.state _ _
    · exact h₃

end Pocket.SameButArray

/-- The array after the only commit of the order, which leaves it. -/
def State.pageTaken (s : State) (c : PageCommit) (ok : Bool) : State :=
  s.setPocket (fun p => { p.finish c ok with commits := [], done := if ok then p.done + 1 else p.done })

theorem State.pageTaken_changes (s : State) (c : PageCommit) (ok : Bool) : Changes [.pocket] [] s (s.pageTaken c ok) :=
  s.setPocket_changes _

theorem State.pageTaken_answer (s : State) (c : PageCommit) (ok : Bool) : (s.pageTaken c ok).pocket.answer = s.pocket.answer := by
  obtain ⟨m, d, e, hfinish⟩ := Pocket.SameButArray.finish s.pocket c ok
  change (s.pocket.finish c ok).answer = _
  rw [hfinish]

theorem State.pageTaken_held (s : State) (c : PageCommit) (ok : Bool) : (s.pageTaken c ok).pocket.held = s.pocket.held := by
  obtain ⟨m, d, e, hfinish⟩ := Pocket.SameButArray.finish s.pocket c ok
  change (s.pocket.finish c ok).held = _
  rw [hfinish]

theorem State.pageTaken_pocket_of_failed (s : State) (c : PageCommit) :
    (s.pageTaken c false).pocket = { s.pocket.finish c false with commits := [] } := by
  obtain ⟨m, d, e, hfinish⟩ := Pocket.SameButArray.finish s.pocket c false
  change ({ s.pocket.finish c false with commits := [], done := s.pocket.done } : Pocket) = _
  rw [hfinish]

/-- The answer that waited for a commit is given. -/
def State.owesNothing (s : State) : State := s.setPocket (fun p => { p with answer := none })

theorem State.pageAcknowledged_changes (s : State) (c : PageCommit) (ok : Bool) :
    Changes [.pocket] [] s (s.pageTaken c ok).owesNothing :=
  ((s.pageTaken_changes c ok).trans (State.setPocket_changes _ _)).mono (by simp) (by simp)

/-- The failure of a commit noted (R345): at once with device time, else for the conductor's next start. -/
def State.pageFailed (s : State) (c : PageCommit) (ok : Bool) : State :=
  if ok then s
  else if s.power.powered then (s.fault 96 c.page).raise 1066 [t0] [] else s.setPocket (fun p => { p with nvmFault := some c.page })

/-- The wand's WRITE or CONFIRM answered with its commit (R359, R435). -/
def State.pageAnswered (s : State) (c : PageCommit) (ok : Bool) : State :=
  match s.pocket.answer with
  | some cla =>
    if !c.wand then s
    else
      let s := match ok, c.page, s.owesNothing.pocket.kx with
        | true, 3, some (key, _) => s.owesNothing.pk0Loaded key
        | _, _, _ => s.owesNothing
      (s.answer cla [] (if ok then 0x9000 else 0x910A)).closeDue
  | none => s

/-- What a commit's end leaves to do: the command that waited for it (R364). -/
def State.takeHeld (s : State) : Result :=
  match s.pocket.held with
  | some h => if s.pocket.commits.isEmpty then done ((s.setPocket (fun p => { p with held := none })).apdu h) else done s
  | none => done s

theorem exec_pocketCommitDone {s : State} {c : PageCommit} (hl : s.pocket.commits = [c]) (hdue : s.pageDue c = true) (ok : Bool) :
    exec (.pocketCommitDone ok) s =
      ((((s.pageTaken c ok).pageFailed c ok).pageAnswered c ok).pageDone c ok).beginCommit.takeHeld := by
  change execPocketCommitDone ok s = _
  unfold execPocketCommitDone
  rw [hl]
  exact if_neg (by simp [hdue])

theorem State.pageAnswered_of_none {s : State} (h : s.pocket.answer = none) (c : PageCommit) (ok : Bool) : s.pageAnswered c ok = s := by
  unfold State.pageAnswered
  rw [h]

/-- A WRITE outside page 0x03 is answered with 0x9000. -/
theorem State.pageAnswered_of_wand {s : State} {c : PageCommit} {k : Nat} (h : s.pocket.answer = some k) (hw : c.wand = true)
    (h3 : c.page ≠ 3) : s.pageAnswered c true = (s.owesNothing.answer k [] 0x9000).closeDue := by
  unfold State.pageAnswered
  rw [h]
  simp only [hw, Bool.not_true, Bool.false_eq_true, if_false, if_true]
  split
  · contradiction
  · rfl

theorem State.owesNothing_of_none {s : State} (h : s.pocket.answer = none) : s.owesNothing = s := by
  unfold State.owesNothing State.setPocket
  rw [← h]

theorem State.fault_pocket (s : State) (f detail : Nat) : (s.fault f detail).pocket = s.pocket :=
  (s.fault_faultOnly f detail).same .pocket (by decide)

/-- A page of the wand outside page 0x03 and the inbox's header brings nothing else. -/
theorem State.pageDone_of_wand {s : State} {c : PageCommit} (hw : c.wand = true) (h3 : c.page ≠ 3) (h40 : c.page ≠ 0x40) (ok : Bool) :
    s.pageDone c ok = s := by
  simp [State.pageDone, hw, h3, h40]

theorem State.takeHeld_of_none {s : State} (h : s.pocket.held = none) : s.takeHeld = done s := by
  unfold State.takeHeld
  rw [h]

/-- Where nothing waits behind a commit of the wand outside page 0x03 and the inbox's header, its end brings `u` alone. -/
theorem ends_pocketCommitDone {s u : State} {c : PageCommit} {ok : Bool} (hl : s.pocket.commits = [c]) (hdue : s.pageDue c = true)
    (hw : c.wand = true) (h3 : c.page ≠ 3) (h40 : c.page ≠ 0x40) (hu : ((s.pageTaken c ok).pageFailed c ok).pageAnswered c ok = u)
    (hcommits : u.pocket.commits = []) (hheld : u.pocket.held = none) : Ends (.pocketCommitDone ok) s u := by
  rw [Ends, exec_pocketCommitDone hl hdue, hu, State.pageDone_of_wand hw h3 h40, State.beginCommit_of_none hcommits,
    State.takeHeld_of_none hheld, done_eq]

section
variable {s : State} {c : PageCommit} (hl : s.pocket.commits = [c]) (hdue : s.pageDue c = true) (hw : c.wand = true)
  (h3 : c.page ≠ 3) (h40 : c.page ≠ 0x40) (hheld : s.pocket.held = none)
include hl hdue hw h3 h40 hheld

theorem ends_pocketCommitDone_of_ok (ha : s.pocket.answer = none) :
    Ends (.pocketCommitDone true) s (s.pageTaken c true).owesNothing := by
  have hnone : (s.pageTaken c true).pocket.answer = none := (s.pageTaken_answer c true).trans ha
  rw [State.owesNothing_of_none hnone]
  exact ends_pocketCommitDone hl hdue hw h3 h40 (State.pageAnswered_of_none hnone c true) rfl ((s.pageTaken_held c true).trans hheld)

theorem ends_pocketCommitDone_of_answered {k : Nat} (ha : s.pocket.answer = some k) :
    Ends (.pocketCommitDone true) s ((s.pageTaken c true).owesNothing.answer k [] 0x9000).closeDue := by
  refine ends_pocketCommitDone hl hdue hw h3 h40 (State.pageAnswered_of_wand ((s.pageTaken_answer c true).trans ha) hw h3) ?_ ?_
  · rw [State.closeDue_commits, State.answer_commits]
    rfl
  · rw [State.closeDue_held, State.answer_held]
    exact (s.pageTaken_held c true).trans hheld

theorem ends_pocketCommitDone_of_failed (ha : s.pocket.answer = none) (hpower : s.power.powered = true) :
    Ends (.pocketCommitDone false) s (((s.pageTaken c false).fault 96 c.page).raise 1066 [t0] []) := by
  have hpocket : (((s.pageTaken c false).fault 96 c.page).raise 1066 [t0] []).pocket = (s.pageTaken c false).pocket := by
    rw [State.raise_pocket, State.fault_pocket]
  have hfailed : (s.pageTaken c false).pageFailed c false = ((s.pageTaken c false).fault 96 c.page).raise 1066 [t0] [] := if_pos hpower
  refine ends_pocketCommitDone hl hdue hw h3 h40 ((State.pageAnswered_of_none ?_ c false).trans hfailed) ?_ ?_
  · rw [hfailed, hpocket, s.pageTaken_answer, ha]
  · rw [hpocket]
    rfl
  · rw [hpocket, s.pageTaken_held, hheld]

end

/-- Settles O52, clause by clause from the rules above. -/
theorem pocketCardAndField : Obligations.PocketCardAndField := by
  unfold Obligations.PocketCardAndField
  refine ⟨?fieldOn, ?fieldOff, ?start, ?low, ?stop, ?reqa, ?deaf, ?select, ?rats, ?iso, ?hlta, ?closed, ?opened, ?idle, ?wtx, ?timeout,
    ?commit, ?none⟩
  case fieldOn =>
    exact fun s h => ⟨s.fieldNoted, if_neg (by simp [h]), s.fieldNoted_changes, s.rd_fieldNoted, s.fieldNoted_pocket⟩
  case fieldOff =>
    exact fun s h => ⟨if_pos h, s.fieldDropped, if_neg (by simp [h]), s.fieldDropped_changes, State.rd_wr_self _ _ _, rfl⟩
  case start =>
    intro s mv hpower hrun hfield hmv hidle
    have hcard : (if s.pocket.field then Card.idle else .off) = .idle := if_pos hfield
    refine ⟨_, ends_pocketHarvestReady hpower hrun hfield hmv hidle,
      (s.pocketReady_changes.trans (State.wr_changes _ _ _)).mono (by simp) (by simp), State.rd_wr_self _ _ _, ?_⟩
    rw [← hcard]
    rfl
  case low => exact fun s mv h => if_pos (by simp [h])
  case stop =>
    exact fun s mv hpower hrun hmv hidle => ⟨_, ends_pocketVstReset hpower hrun hmv hidle,
      s.pocketStop_changes.trans (State.wr_changes _ _ _), State.rd_wr_self _ _ _, rfl⟩
  case reqa => exact fun s w h => ⟨_, ends_pocketReqa h, s.cardSays_changes _ _, rfl⟩
  case deaf => exact fun s h => ends_pocketReqa_of_deaf h
  case select =>
    refine fun s h => ⟨⟨s.cardSays .active [0x20], ?_, s.cardSays_changes _ _, rfl⟩,
      fun b hb => ⟨s.cardSays .idle [], ?_, s.cardSays_changes _ _, rfl⟩⟩
    · simpa using ends_pocketSelect h s.pocket.uid
    · simpa [hb] using ends_pocketSelect h b
  case rats => exact fun s h => ⟨_, if_pos h, s.cardSays_changes _ _, rfl⟩
  case iso =>
    refine fun s h =>
      ⟨⟨s.cardSays .iso [], if_pos h, s.cardSays_changes _ _, ?_⟩, s.deselected, if_pos h, s.deselected_changes, rfl⟩
    rw [← h]
    rfl
  case hlta => exact fun s h => ⟨s.halted, if_pos h, s.halted_changes.mono (by simp) (by simp), rfl⟩
  case closed =>
    intro s h
    rw [State.pocketEnd_of_closed h]
    exact ⟨s.setPocket_changes _, rfl⟩
  case opened =>
    exact fun s h => ⟨s.sessionOver, State.pocketEnd_of_open h, s.sessionOver_changes, State.rd_sessionTo_state _ 0,
      State.rd_sessionTo_tenant _ 0, State.cancel_isArmed _ _, State.cancel_isArmed_of (State.sessionTo_bridgeTimeout _ 0), rfl⟩
  case idle =>
    intro s hdue hpower
    have hp : s.pocketDue .pocketIdle = true := (if_pos hpower).trans hdue
    exact if_pos hp
  case wtx =>
    exact fun s d hd hle hb => ⟨s.wtxAgain d, ends_bridgeWtxDue hd hle hb, s.wtxAgain_changes d, rfl, s.arm_dueAt _ _⟩
  case timeout =>
    exact fun s hdue hb => ⟨s.bridgeDropped, ends_bridgeTimeout hdue hb, s.bridgeDropped_changes, rfl,
      (s.cancel .bridgeWtx).cancel_isArmed _, State.cancel_isArmed_of (s.cancel_isArmed _)⟩
  case commit =>
    intro s c hl hpower hrun hphys hle hheld hw h3 h40
    have hdue : s.pageDue c = true := by
      simp [State.pageDue, hrun, hpower, hle, Option.isSome_iff_ne_none.2 hphys]
    refine ⟨⟨(s.pageTaken c true).owesNothing, ?_, s.pageAcknowledged_changes c true, rfl⟩,
      fun hnone => ⟨s.pageTaken c false, ?_, s.pageTaken_changes c false, s.pageTaken_pocket_of_failed c⟩⟩
    · cases ha : s.pocket.answer with
      | none => exact ends_pocketCommitDone_of_ok hl hdue hw h3 h40 hheld ha
      | some k => exact ends_pocketCommitDone_of_answered hl hdue hw h3 h40 hheld ha
    · exact ends_pocketCommitDone_of_failed hl hdue hw h3 h40 hheld hnone hpower
  case none =>
    intro s ok h
    change execPocketCommitDone ok s = _
    unfold execPocketCommitDone
    rw [h]
    rfl

end Sys2Proof.Machine
end
section
/-! PROOFS. How a command of the wand is taken up, and what each brings (chapter 12, R342, R346 to R349, R353 to R362; R427, R435): the
statement `WandCommands`. -/

namespace Sys2Proof.Machine

/-! ### An APDU taken up (R342, R357, R364) -/

/-- The idle timer set anew by a command of an open session (R353). -/
def State.attended (s : State) : State := s.armIn .pocketIdle s.idleUs

theorem State.attended_changes (s : State) : Changes [.timers] [] s s.attended := s.armIn_changes _ _

theorem State.attended_now (s : State) : s.attended.now = s.now := s.attended_changes.now (by simp) (by simp) (by simp)

theorem State.Hears.parse {s : State} {b : Octets} {a : Apdu} {w : Wand} (h : s.Hears b a w) : parseApdu b = a := h.1

theorem State.Hears.command {s : State} {b : Octets} {a : Apdu} {w : Wand} (h : s.Hears b a w) : wandOf a = w := h.2.1

theorem State.HearsPlain.cla {s : State} {b : Octets} {a : Apdu} {w : Wand} (h : s.HearsPlain b a w) : a.cla = 0x90 := h.2.2.1

theorem State.HearsSecured.cla {s : State} {b d : Octets} {a : Apdu} {w : Wand} (h : s.HearsSecured b a w d) : a.cla = 0x94 := h.2.2.1

/-- A command that the port takes up at once is carried out. -/
theorem State.wand_of_hears {s : State} {b : Octets} {a : Apdu} {w : Wand} (h : s.Hears b a w) (vst present : Nat) :
    s.wand w b vst present = s.apdu { bytes := b, vst := vst, present := present, since := s.now } := by
  obtain ⟨rfl, hw, hrun, hcard, hbridge, hanswer, hheld, hcommits⟩ := h
  unfold State.wand
  simp [hw, hrun, hcard, hbridge, hanswer, hheld, hcommits]

section
variable {s : State} {h : HeldApdu} {a : Apdu} {w : Wand} (ha : parseApdu h.bytes = a) (hw : wandOf a = w)
include ha hw

theorem State.apdu_of_select (hsel : w = .select) : s.apdu h = s.wandSelect a := by
  subst ha hw
  exact if_pos hsel

variable (hsel : w ≠ .select)
include hsel

/-- Outside a session only SELECT is a command. -/
theorem State.apdu_of_closed (hs : s.pocketSession = 0) : s.apdu h = s.respond [] 0x6985 := by
  subst ha hw
  exact (if_neg hsel).trans (if_pos hs)

variable (hoth : w ≠ .other) (hs : s.pocketSession ≠ 0) (hlc : a.lcOk = true)
include hoth hs hlc

theorem State.apdu_of_plain (hp : w.plain = true) (hcla : a.cla = 0x90) : s.apdu h = s.attended.wandRun w a h := by
  subst ha hw
  simp [State.apdu, State.attended, hsel, hoth, hs, hlc, hp, hcla]

theorem State.apdu_of_forged (hp : w.secured = true) (hcla : a.cla = 0x94) (hs3 : s.pocketSession = 3) (hu : s.unseal a = none) :
    s.apdu h = s.attended.pocketEnd.respond [] 0x9109 := by
  have hu' : s.attended.unseal a = none := hu
  have hs' : s.attended.pocketSession = 3 := hs3
  subst ha hw
  unfold State.attended at hu' hs' ⊢
  simp [State.apdu, hsel, hoth, hs, hlc, hp, hcla, hs', hu']

theorem State.apdu_of_secured {d : Octets} (hp : w.secured = true) (hcla : a.cla = 0x94) (hs3 : s.pocketSession = 3)
    (hu : s.unseal a = some d) (hd : d.length ≤ 200) : s.apdu h = s.attended.wandRun w { a with data := d } h := by
  have hu' : s.attended.unseal a = some d := hu
  have hs' : s.attended.pocketSession = 3 := hs3
  subst ha hw
  unfold State.attended at hu' hs' ⊢
  simp [State.apdu, hsel, hoth, hs, hlc, hp, hcla, hs', hu', Nat.not_lt.2 hd]

end

/-! ### A command of an open session -/

section
variable {s u : State} {c : Instr} {b : Octets} {a : Apdu} {w : Wand} {vst present : Nat}
  (hc : exec c s = done (s.wand w b vst present))
include hc

theorem ends_of_hears (h : s.Hears b a w) (hu : s.apdu { bytes := b, vst := vst, present := present, since := s.now } = u) :
    Ends c s u := by
  rw [Ends, hc, done_eq, State.wand_of_hears h, hu]

/-- A plain command brings what it brings in clear. -/
theorem ends_of_plain (h : s.HearsPlain b a w)
    (hu : s.attended.wandRun w a { bytes := b, vst := vst, present := present, since := s.now } = u)
    (hp : w.plain = true := by rfl) (hsel : w ≠ .select := by decide) (hoth : w ≠ .other := by decide) : Ends c s u := by
  obtain ⟨hh, hs, hcla, hlc⟩ := h
  exact ends_of_hears hc hh ((State.apdu_of_plain hh.parse hh.command hsel hoth hs hlc hp hcla).trans hu)

/-- A secured command brings what it brings with its plaintext. -/
theorem ends_of_secured {d : Octets} (h : s.HearsSecured b a w d)
    (hu : s.attended.wandRun w { a with data := d } { bytes := b, vst := vst, present := present, since := s.now } = u)
    (hp : w.secured = true := by rfl) (hsel : w ≠ .select := by decide) (hoth : w ≠ .other := by decide) : Ends c s u := by
  obtain ⟨hh, hs, hcla, hlc, hseal, hd⟩ := h
  have hopen : s.pocketSession ≠ 0 := by omega
  exact ends_of_hears hc hh ((State.apdu_of_secured hh.parse hh.command hsel hoth hopen hlc hp hcla hs hseal hd).trans hu)

end

theorem State.answer_of_plain {cla : Nat} (h : cla = 0x90) (s : State) (d : Octets) (w : Nat) : s.answer cla d w = s.respond d w :=
  if_neg (by omega)

theorem State.answer_of_secured {cla : Nat} (h : cla = 0x94) (s : State) (d : Octets) (w : Nat) :
    s.answer cla d w = s.respondSecured d w := if_pos h

/-- A command with the data and the parameters of Table 12-6 is carried out. -/
theorem State.formed_of {s : State} {a : Apdu} {l p : Bool} (hl : l = true) (hp : p = true) (f : State → State) :
    s.formed a l p f = f s := by
  simp [State.formed, hl, hp]

/-! ### SELECT (R342) -/

/-- The committed copies are found from the descriptors alone. -/
theorem Pocket.copyOf_congr {p q : Pocket} (h : q.desc = p.desc) (page : Nat) : q.copyOf page = p.copyOf page := by
  have hbyte : q.descByte = p.descByte := by
    unfold Pocket.descByte
    rw [h]
  unfold Pocket.copyOf Pocket.wellFormed
  rw [hbyte]

/-- The idle timeout is read from the mailbox alone. -/
theorem State.idleUs_congr {s t : State} (hm : t.pocket.mail = s.pocket.mail) (hd : t.pocket.desc = s.pocket.desc) :
    t.idleUs = s.idleUs := by
  unfold State.idleUs State.portKnown State.mailPage
  rw [Pocket.copyOf_congr hd, hm]

/-- A session in SELECTED, counted. -/
def State.selected (s : State) : State := (s.sessionTo 1).setPocket (fun p => { p with sessions := p.sessions + 1, kx := none })

theorem State.selected_changes (s : State) : Changes [.pocket, .timers] [ob 0x5400 0x02, ob 0x5400 0x03] s s.selected :=
  ((s.sessionTo_changes 1).trans (State.setPocket_changes _ _)).mono (by simp) (by simp)

theorem State.selected_attended_changes (s : State) :
    Changes [.pocket, .timers] [ob 0x5400 0x02, ob 0x5400 0x03] s s.selected.attended :=
  (s.selected_changes.trans (State.attended_changes _)).mono (by simp) (by simp)

theorem State.rd_selected_attended (s : State) (k : Nat) : s.selected.attended.rd k = (s.sessionTo 1).rd k := rfl

theorem State.selected_attended_dueAt (s : State) : s.selected.attended.dueAt .pocketIdle = some (s.now + s.idleUs) := by
  have hnow : s.selected.now = s.now := s.selected_changes.now (by simp) (by simp) (by simp)
  have hidle : s.selected.idleUs = s.idleUs := State.idleUs_congr rfl rfl
  rw [State.attended, State.armIn_dueAt hnow, hidle]

theorem State.wandSelect_of_aid {s : State} {a : Apdu} (hlc : a.lcOk = true) (haid : a.data = pocketAid) :
    s.wandSelect a = (s.selected.attended.pocketRaise 1058 [t0] (u8 0xFF)).respond [] 0x9000 := by
  unfold State.wandSelect
  rw [hlc]
  exact (if_neg (by simp)).trans (if_pos haid)

theorem State.wandSelect_of_other {s : State} {a : Apdu} (hlc : a.lcOk = true) (haid : a.data ≠ pocketAid) :
    s.wandSelect a = s.pocketEnd.respond [] 0x6A82 := by
  unfold State.wandSelect
  rw [hlc]
  exact (if_neg (by simp)).trans (if_neg haid)

/-! ### GET_INFO, READ, GET_CERT and END_SESSION (R353, R359, R427) -/

section
variable {s : State} {a : Apdu} (hcla : a.cla = 0x90)
include hcla

theorem State.wandInfo_of_plain (hd : a.data = []) (h1 : a.p1 = 0) (h2 : a.p2 = 0) (n : Nat) : s.wandInfo a n =
    s.respond (u8 1 ++ u8 (if s.power.powered then 1 else 0) ++ u16 n ++ u8 s.pocketSession ++ u8 s.openMask ++ u8 0xF0 ++
      u8 s.pocket.fails ++ u8 (if s.power.powered then s.runState else 0xFF) ++ u8 s.inboxState ++ [0, 0]) 0x9000 := by
  unfold State.wandInfo
  rw [State.formed_of (by simp [hd]) (by simp [h1, h2])]
  exact State.answer_of_plain hcla _ _ _

theorem State.wandRead_of_open (hd : a.data = []) (h1 : 1 ≤ a.p2) (h4 : a.p2 ≤ 4)
    (h : ∀ k < a.p2, s.readSw 0x90 (a.p1 + k) = 0x9000) :
    s.wandRead a = s.respond ((List.range a.p2).flatMap (fun k => s.mailPage (a.p1 + k))) 0x9000 := by
  have hnone : (((List.range a.p2).map (fun n => a.p1 + n)).map (s.readSw a.cla)).find? (· != 0x9000) = none := by
    simpa [hcla] using h
  unfold State.wandRead
  rw [State.formed_of (by simp [hd]) (by simp [h1, h4])]
  simp only [hnone]
  rw [State.answer_of_plain hcla, List.flatMap_map]

theorem State.wandRead_of_refused (hd : a.data = []) (h1 : 1 ≤ a.p2) (h4 : a.p2 ≤ 4) (h : s.readSw 0x90 a.p1 ≠ 0x9000) :
    s.wandRead a = s.respond [] (s.readSw 0x90 a.p1) := by
  have hsome : (((List.range a.p2).map (fun n => a.p1 + n)).map (s.readSw a.cla)).find? (· != 0x9000) =
      some (s.readSw 0x90 a.p1) := by
    obtain ⟨n, hn⟩ := Nat.exists_eq_add_of_le' h1
    simp [hn, List.range_succ_eq_map, hcla, h]
  unfold State.wandRead
  rw [State.formed_of (by simp [hd]) (by simp [h1, h4])]
  simp only [hsome]
  exact State.answer_of_plain hcla _ _ _

theorem State.wandCert_of_selected (hd : a.data = []) (h2 : a.p2 ≤ 1) (hs : s.pocketSession = 1) :
    s.wandCert a = s.respond (slice (128 * a.p2) 128 (leBytes 256 (s.rd (ob 0x1050 0x03)))) 0x9000 := by
  unfold State.wandCert
  rw [State.formed_of (by simp [hd]) (by simp [h2])]
  exact (if_neg (by simp [State.exchangeOpen, hs])).trans (State.answer_of_plain hcla _ _ _)

theorem State.wandEnd_of_plain (hd : a.data = []) (h1 : a.p1 = 0) (h2 : a.p2 = 0) : s.wandEnd a = (s.respond [] 0x9000).pocketEnd := by
  unfold State.wandEnd
  rw [State.formed_of (by simp [hd]) (by simp [h1, h2]), State.answer_of_plain hcla]

end

/-! ### Authentication (R355, R356) -/

/-- AUTH_PENDING for a slot: the wand's random number kept with the port's. -/
def State.authBegun (s : State) (slot : Nat) (rnd : Octets) : State :=
  ((s.randomBytes 16).2.sessionTo 2).setPocket (fun p => { p with slot := slot, rndW := rnd, rndP := (s.randomBytes 16).1 })

theorem State.authBegun_changes (s : State) (slot : Nat) (rnd : Octets) :
    Changes [.pocket, .timers, .crypto] [ob 0x5400 0x02, ob 0x5400 0x03] s (s.authBegun slot rnd) :=
  (((s.randomBytes_changes 16).trans (State.sessionTo_changes _ 2)).trans (State.setPocket_changes _ _)).mono (by simp) (by simp)

theorem State.rd_authBegun_state (s : State) (slot : Nat) (rnd : Octets) : (s.authBegun slot rnd).rd (ob 0x5400 0x02) = 2 :=
  State.rd_sessionTo_state _ 2

section
variable {s : State} {a : Apdu} (hcla : a.cla = 0x90) (hd : a.data.length = 16) (h1 : a.p1 < 8) (h2 : a.p2 = 0) {n : Nat}
include hcla hd h1 h2

theorem State.wandAuthBegin_of_early (hn : n < authDelay s.pocket.fails) : s.wandAuthBegin a n = s.respond [] 0x9104 := by
  unfold State.wandAuthBegin
  rw [State.formed_of (by simp [hd]) (by simp [h1, h2])]
  exact (if_pos hn).trans (State.answer_of_plain hcla _ _ _)

theorem State.wandAuthBegin_of_keyless (hn : authDelay s.pocket.fails ≤ n) (hk : s.pocketKeyed a.p1 = false) :
    s.wandAuthBegin a n = s.respond [] 0x910B := by
  unfold State.wandAuthBegin
  rw [State.formed_of (by simp [hd]) (by simp [h1, h2])]
  exact (if_neg (Nat.not_lt.2 hn)).trans ((if_pos (by simp [hk])).trans (State.answer_of_plain hcla _ _ _))

theorem State.wandAuthBegin_of_keyed (hn : authDelay s.pocket.fails ≤ n) (hk : s.pocketKeyed a.p1 = true) :
    s.wandAuthBegin a n = (s.authBegun a.p1 a.data).respond ((s.randomBytes 16).1 ++
      cmac (s.slotKey (0x48 + a.p1)) (u8 0x50 ++ (s.randomBytes 16).1 ++ a.data)) 0x9000 := by
  unfold State.wandAuthBegin
  rw [State.formed_of (by simp [hd]) (by simp [h1, h2])]
  exact (if_neg (Nat.not_lt.2 hn)).trans ((if_neg (by simp [hk])).trans (State.answer_of_plain hcla _ _ _))

end

theorem State.countProof_changes (s : State) : Changes [.pocket] [] s s.countProof := s.setPocket_changes _

/-- The proof that AUTH_FINISH must give. -/
def State.wandProof (s : State) : Octets :=
  cmac (s.slotKey (0x48 + s.pocket.slot)) (u8 0x57 ++ s.pocket.rndW ++ s.pocket.rndP)

/-- SECURED for the slot's tenant, with the session's keys. -/
def State.authDone (s : State) : State :=
  (s.wrAll [(ob 0x5400 0x02, 3), (ob 0x5400 0x03, s.pocket.slot)]).setPocket (fun x => { x with
    fails := 0, counter := 0, sid := s.pocket.rndW.take 4 ++ s.pocket.rndP.take 4
    kenc := cmac (s.slotKey (0x48 + s.pocket.slot)) (u8 0x01 ++ s.pocket.rndW ++ s.pocket.rndP)
    kmac := cmac (s.slotKey (0x48 + s.pocket.slot)) (u8 0x02 ++ s.pocket.rndW ++ s.pocket.rndP) })

theorem State.authDone_changes (s : State) : Changes [.pocket] [ob 0x5400 0x02, ob 0x5400 0x03] s s.authDone :=
  (s.wrAll_changes _).trans (State.setPocket_changes _ _)

theorem State.rd_authDone (s : State) (k : Nat) :
    s.authDone.rd k = ((s.wr (ob 0x5400 0x02) 3).wr (ob 0x5400 0x03) s.pocket.slot).rd k := rfl

theorem State.rd_authDone_state (s : State) : s.authDone.rd (ob 0x5400 0x02) = 3 := by
  rw [State.rd_authDone, State.rd_wr_other _ _ (by simp), State.rd_wr_self]

theorem State.rd_authDone_tenant (s : State) : s.authDone.rd (ob 0x5400 0x03) = s.pocket.slot := by
  rw [State.rd_authDone, State.rd_wr_self]

section
variable {s : State} {a : Apdu} (hcla : a.cla = 0x90) (hd : a.data.length = 16) (h1 : a.p1 = 0) (h2 : a.p2 = 0)
  (hs : s.pocketSession = 2) {n : Nat} (hm : s.margin n = true)
include hcla hd h1 h2 hs hm

theorem State.wandAuthFinish_of_proof (hproof : a.data = s.wandProof) :
    s.wandAuthFinish a n = s.countProof.authDone.respond [] 0x9000 := by
  unfold State.wandAuthFinish
  rw [State.formed_of (by simp [hd]) (by simp [h1, h2])]
  refine (if_neg (by simp [hs])).trans ((if_neg (by simp [hm])).trans ((if_pos hproof).trans ?_))
  exact State.answer_of_plain hcla _ _ _

theorem State.wandAuthFinish_of_wrong (hproof : a.data ≠ s.wandProof) :
    s.wandAuthFinish a n = s.countProof.proofFailed 0x90 := by
  unfold State.wandAuthFinish
  rw [State.formed_of (by simp [hd]) (by simp [h1, h2]), ← hcla]
  exact (if_neg (by simp [hs])).trans ((if_neg (by simp [hm])).trans (if_neg hproof))

end

/-! ### Page commits begun (R344, R364) -/

/-- A command answered with its commit. -/
def State.owing (s : State) (cla : Nat) : State := s.setPocket (fun p => { p with answer := some cla })

theorem State.owing_changes (s : State) (cla : Nat) : Changes [.pocket] [] s (s.owing cla) := s.setPocket_changes _

/-- The wand's page commit, where no other waits and no scrub is due. -/
def State.wandCommit (s : State) (page : Nat) (data : Octets) : PageCommit :=
  { page := page, data := padTo 64 data, wand := true, since := s.now, scrub := [], phys := s.pocket.shadow }

theorem State.beginCommit_of_waiting {s : State} {c : PageCommit} {l : List PageCommit} (hl : s.pocket.commits = c :: l)
    (hphys : c.phys = none) (hrun : s.pocket.running = true) (hscrub : s.pocket.scrub = false) : s.beginCommit =
      s.setPocket (fun p => { p with commits := { c with since := s.now, scrub := [], phys := s.pocket.shadow } :: l }) := by
  have hready : ¬(c.phys.isSome || !s.pocket.running) = true := by simp [hphys, hrun]
  unfold State.beginCommit
  rw [hl]
  refine (if_neg hready).trans ?_
  simp only [hscrub, Bool.false_eq_true, if_false]
  rfl

theorem State.mailCommit_of_idle {s : State} (hrun : s.pocket.running = true) (hidle : s.pocket.commits = [])
    (hscrub : s.pocket.scrub = false) (page : Nat) (data : Octets) :
    s.mailCommit page data true = s.setPocket (fun p => { p with commits := [s.wandCommit page data] }) := by
  let w := s.setPocket (fun p => { p with
    commits := s.pocket.commits ++ [{ page := page, data := padTo 64 data, wand := true, since := s.now, scrub := [], phys := none }] })
  have hw : w.pocket.commits = [{ page := page, data := padTo 64 data, wand := true, since := s.now, scrub := [], phys := none }] :=
    congrArg (· ++ _) hidle
  exact State.beginCommit_of_waiting (s := w) hw rfl hrun hscrub

/-! ### Commissioning (R435) -/

/-- What AGREE derives from the shared secret `z` and the wand's public key: the key, the key of its proofs, and the public key's x. -/
def State.agreedKeys (s : State) (pub z : Octets) : Octets × Octets × Octets :=
  let k := sha256 (u8 1 ++ z ++ leBytes 12 Config.commissioningCode ++ pub.take 32 ++ u64 (s.rd (ob 0x1050 0x01)))
  (k.take 16, slice 16 16 k, pub.take 32)

def State.agreed (s : State) (pub z : Octets) : State := s.setPocket (fun p => { p with kx := some (s.agreedKeys pub z) })

theorem State.exchangeOpen_of_selected {s : State} (hs : s.pocketSession = 1) (hk : s.pocketKeyed 0 = false) :
    ¬(!s.exchangeOpen true) = true := by
  simp [State.exchangeOpen, hs, hk]

section
variable {s : State} {a : Apdu} (hcla : a.cla = 0x90) (h2 : a.p2 = 0) (hs : s.pocketSession = 1) (hk : s.pocketKeyed 0 = false)
include hcla h2 hs hk

theorem State.wandAgree_of_bad (hd : a.data.length = 64) (hz : Config.ecdh 1 a.data = none) : s.wandAgree a = s.respond [] 0x9103 := by
  have hopen := State.exchangeOpen_of_selected hs hk
  unfold State.wandAgree
  rw [State.formed_of (by simp [hd]) (by simp [h2]), if_neg hopen, hz]
  exact State.answer_of_plain hcla _ _ _

theorem State.wandAgree_of_good (hd : a.data.length = 64) {z : Octets} (hz : Config.ecdh 1 a.data = some z) : s.wandAgree a =
    (s.agreed a.data z).respond (cmac (s.agreedKeys a.data z).2.1 (u8 0x44 ++ a.data.take 32)) 0x9000 := by
  have hopen := State.exchangeOpen_of_selected hs hk
  unfold State.wandAgree
  rw [State.formed_of (by simp [hd]) (by simp [h2]), if_neg hopen, hz]
  exact State.answer_of_plain hcla _ _ _

variable {key kc x : Octets} (hd : a.data.length = 16) (hkx : s.pocket.kx = some (key, kc, x)) {n : Nat} (hm : s.margin n = true)
include hd hkx hm

/-- A good proof enters page 0x03 in the order, to be answered with its commit. -/
theorem State.wandConfirm_of_proof (hproof : a.data = cmac kc (u8 0x57 ++ x)) : ∃ page : Octets,
    s.wandConfirm a n = (s.countProof.owing 0x90).mailCommit 3 page true := by
  have hopen := State.exchangeOpen_of_selected hs hk
  unfold State.wandConfirm
  rw [State.formed_of (by simp [hd]) (by simp [h2]), hkx]
  simp only [if_neg hopen, hm, ← hproof, if_true, hcla]
  exact ⟨_, rfl⟩

theorem State.wandConfirm_of_wrong (hproof : a.data ≠ cmac kc (u8 0x57 ++ x)) :
    s.wandConfirm a n = s.countProof.proofFailed 0x90 := by
  have hopen := State.exchangeOpen_of_selected hs hk
  unfold State.wandConfirm
  rw [State.formed_of (by simp [hd]) (by simp [h2]), hkx, ← hcla]
  exact (if_neg hopen).trans ((if_neg (by simp [hm])).trans (if_neg hproof))

end

/-! ### READ_RAW and WRITE (R346, R348, R359) -/

section
variable {s : State} {a : Apdu} (hcla : a.cla = 0x94) (h2 : a.p2 = 0)
include hcla h2

section readRaw
variable (hd : a.data = []) (hsw : s.readSw 0x94 a.p1 = 0x9000)
include hd hsw

theorem State.wandReadRaw_of_writing {q : Nat} (hq : q < 256) (hst : s.pocket.descByte q 3 = 0x7F) (hpage : s.pocket.descByte q 0 = a.p1)
    (hfirst : ∀ r < q, s.pocket.descByte r 3 ≠ 0x7F ∨ s.pocket.descByte r 0 ≠ a.p1) : s.wandReadRaw a =
      s.respondSecured (Mem.bytes s.pocket.desc (4 * q) 4 ++ Mem.bytes s.pocket.mail (64 * q) 64) 0x9000 := by
  have hfind : (List.range 256).find? (fun q => s.pocket.descByte q 3 == 0x7F && s.pocket.descByte q 0 == a.p1) = some q := by
    rw [List.find?_range_eq_some]
    refine ⟨by simp [hst, hpage], List.mem_range.2 hq, fun r hr => ?_⟩
    simpa [not_and_or] using hfirst r hr
  unfold State.wandReadRaw
  rw [State.formed_of (by simp [hd]) (by simp [h2])]
  simp only [hsw, ne_eq, not_true, if_false, hfind]
  exact State.answer_of_secured hcla _ _ _

theorem State.wandReadRaw_of_none (hnone : ∀ r < 256, s.pocket.descByte r 3 ≠ 0x7F ∨ s.pocket.descByte r 0 ≠ a.p1) :
    s.wandReadRaw a = s.respondSecured [] 0x910C := by
  have hfind : (List.range 256).find? (fun q => s.pocket.descByte q 3 == 0x7F && s.pocket.descByte q 0 == a.p1) = none := by
    rw [List.find?_range_eq_none]
    intro r hr
    simpa [not_and_or] using hnone r hr
  unfold State.wandReadRaw
  rw [State.formed_of (by simp [hd]) (by simp [h2])]
  simp only [hsw, ne_eq, not_true, if_false, hfind]
  exact State.answer_of_secured hcla _ _ _

end readRaw

section write
variable (hd : a.data.length = 64) {n : Nat}
include hd

theorem State.wandWrite_of_refused (hsw : s.writeSw a.p1 a.data ≠ 0x9000) :
    s.wandWrite a n = s.respondSecured [] (s.writeSw a.p1 a.data) := by
  unfold State.wandWrite
  rw [State.formed_of (by simp [hd]) (by simp [h2])]
  exact (if_pos hsw).trans (State.answer_of_secured hcla _ _ _)

theorem State.wandWrite_of_low (hsw : s.writeSw a.p1 a.data = 0x9000) (hm : s.margin n = false) : s.wandWrite a n = s.lowMargin 0x94 := by
  unfold State.wandWrite
  rw [State.formed_of (by simp [hd]) (by simp [h2]), ← hcla]
  exact (if_neg (by simp [hsw])).trans (if_pos (by simp [hm]))

/-- A WRITE with margin enters its page in the order, to be answered with its commit. -/
theorem State.wandWrite_of_margin (hsw : s.writeSw a.p1 a.data = 0x9000) (hm : s.margin n = true) :
    s.wandWrite a n = (s.owing 0x94).mailCommit a.p1 a.data true := by
  unfold State.wandWrite
  rw [State.formed_of (by simp [hd]) (by simp [h2]), ← hcla]
  exact (if_neg (by simp [hsw])).trans (if_neg (by simp [hm]))

end write

end

theorem padTo_length {n : Nat} {b : Octets} (h : b.length = n) : padTo n b = b := by
  simp [padTo, ← h]

/-! ### The bridge and resets (R360 to R362) -/

theorem State.withSvc_changes (s : State) (v : Service) : Changes [.svc] [] s { s with svc := v } := by
  refine ⟨rfl, fun p hp => ?_, fun _ _ => rfl⟩
  cases p
  case svc => exact absurd (List.mem_singleton_self _) hp
  all_goals rfl

theorem State.wakeBy_of_running {s : State} (h : s.runState = 1) (n : Nat) : s.wakeBy n = s := if_neg (by omega)

/-- A service unit on its way to the conductor for a tenant. -/
def State.bridgeArrival (s : State) (t : Tenant) (unit : Octets) : Arrival :=
  { transport := .pocket, peer := s.svc.nextId, tenant := t, counter := 0, mac := [], unit := unit }

/-- The unit passed on at `since`, with both of the bridge's timers. -/
def State.bridged (s : State) (t : Tenant) (unit : Octets) (since : Nat) : State :=
  ((({ s with svc := { s.svc with nextId := s.svc.nextId + 1, inbound := s.svc.inbound ++ [s.bridgeArrival t unit] } } : State).setPocket
    (fun p => { p with bridge := some (s.svc.nextId, since) })).arm .bridgeWtx (since + 60000)).arm .bridgeTimeout (since + 2000000)

section
variable (s : State) (t : Tenant) (unit : Octets) (since : Nat)

theorem State.bridged_changes : Changes [.pocket, .timers, .svc] [] s (s.bridged t unit since) :=
  ((((s.withSvc_changes _).trans (State.setPocket_changes _ _)).trans (State.arm_changes _ _ _)).trans
    (State.arm_changes _ _ _)).mono (by simp) (by simp)

theorem State.bridged_bridgeWtx : (s.bridged t unit since).dueAt .bridgeWtx = some (since + 60000) :=
  (State.arm_dueAt_other _ _ (by decide)).trans (State.arm_dueAt _ _ _)

theorem State.bridged_bridgeTimeout : (s.bridged t unit since).dueAt .bridgeTimeout = some (since + 2000000) := State.arm_dueAt _ _ _

end

theorem State.wandDictRead_of_long {s : State} {a : Apdu} (hcla : a.cla = 0x94) (hd : a.data.length = 4)
    (hn : byteAt a.data 3 = 0 ∨ 200 < byteAt a.data 3) (since : Nat) : s.wandDictRead a since = s.respondSecured [] 0x6A80 := by
  unfold State.wandDictRead
  rw [State.formed_of (by simp [hd]) rfl]
  exact (if_pos hn).trans (State.answer_of_secured hcla _ _ _)

/-- The conductor serves the session of tenant `t`: it runs, and the pocket die's link is READY (R360, R361). -/
structure State.Bridges (s : State) (t : Tenant) : Prop where
  tenant : s.pocketTenant = some t
  powered : s.power.powered = true
  up : s.up = true
  link : s.linkReady .pocket = true
  running : s.runState = 1

section
variable {s : State} {t : Tenant} (h : s.Bridges t) {a : Apdu}
include h

theorem State.bridgeUnit_of_bridges (unit : Octets) (since : Nat) : s.bridgeUnit a unit since = s.bridged t unit since := by
  obtain ⟨ht, hpower, hup, hlink, hrun⟩ := h
  unfold State.bridgeUnit
  rw [ht]
  refine (if_neg (by simp [hpower])).trans ((if_neg (by simp [hup, hlink])).trans ?_)
  exact State.wakeBy_of_running (s := s.bridged t unit since) hrun 5

theorem State.wandDictRead_of_bridges (hd : a.data.length = 4) (h1 : 1 ≤ byteAt a.data 3) (h200 : byteAt a.data 3 ≤ 200) (since : Nat) :
    ∃ unit, s.wandDictRead a since = s.bridged t unit since := by
  unfold State.wandDictRead
  rw [State.formed_of (by simp [hd]) rfl]
  exact ⟨_, (if_neg (by omega)).trans (State.bridgeUnit_of_bridges h _ _)⟩

theorem State.wandDictWrite_of_bridges (h4 : 4 ≤ a.data.length) (h199 : a.data.length ≤ 199) (since : Nat) :
    s.wandDictWrite a since = s.bridged t (u8 2 ++ u16 0 ++ u16 (256 * a.p1 + a.p2) ++ a.data) since := by
  unfold State.wandDictWrite
  rw [State.formed_of (by simp [h4, h199]) rfl]
  exact State.bridgeUnit_of_bridges h _ _

theorem State.wandReset_of_bridges (hcla : a.cla = 0x94) (hd : a.data = []) (h2 : a.p2 = 0) (hon : s.transportOn t .pocket = true)
    (h1 : 1 ≤ a.p1) (h8 : a.p1 ≤ 8) (ht : t.val = 0 ∨ a.p1 = 1) : s.wandReset a =
      (s.respondSecured [] 0x9000).askReset (kindReach a.p1) (commandCause .pocket) a.p1 t.val 0 none := by
  obtain ⟨htenant, hpower, hup, hlink, hrun⟩ := h
  unfold State.wandReset
  rw [State.formed_of (by simp [hd]) (by simp [h2]), htenant, State.wakeBy_of_running hrun]
  refine (if_neg (by simp [hpower])).trans ((if_neg (by simp [hup, hlink])).trans ((if_neg (by simp [hon])).trans ?_))
  simp only [State.answer_of_secured hcla]
  refine if_neg ?_
  rintro (h0 | h9 | ⟨h0, hne⟩)
  · omega
  · omega
  · exact ht.elim h0 hne

end

/-! ### The statement -/

/-- Settles O53, command by command from the rules above. -/
theorem wandCommands : Obligations.WandCommands := by
  unfold Obligations.WandCommands
  refine ⟨?select, ?closed, ?forged, ?plain, ?secured⟩
  case select =>
    refine fun s b a h hlc => ⟨fun haid => ⟨s.selected.attended, ?_, s.selected_attended_changes,
      (s.rd_selected_attended _).trans (s.rd_sessionTo_state 1), (s.rd_selected_attended _).trans (s.rd_sessionTo_tenant 1),
      rfl, rfl, rfl, s.selected_attended_dueAt⟩, fun haid => ?_⟩
    · exact ends_of_hears rfl h ((State.apdu_of_select h.parse h.command rfl).trans (State.wandSelect_of_aid hlc haid))
    · exact ends_of_hears rfl h ((State.apdu_of_select h.parse h.command rfl).trans (State.wandSelect_of_other hlc haid))
  case closed => exact fun s b a n h hs => ends_of_hears rfl h (State.apdu_of_closed h.parse h.command (by decide) hs)
  case forged =>
    exact fun s b a h hs hcla hlc hu => ends_of_hears rfl h
      (State.apdu_of_forged h.parse h.command (by decide) (by decide) (by omega) hlc rfl hcla hs hu)
  case plain =>
    intro s b a n
    refine ⟨?info, ?read, ?cert, ?finish, ?begin, ?proof, ?agree, ?confirm⟩
    case info =>
      exact fun h hd h1 h2 => ends_of_plain rfl h (State.wandInfo_of_plain (s := s.attended) h.cla hd h1 h2 n)
    case read =>
      exact fun h hd h1 h4 =>
        ⟨fun hopen => ends_of_plain rfl h (State.wandRead_of_open (s := s.attended) h.cla hd h1 h4 hopen),
        fun hno => ends_of_plain rfl h (State.wandRead_of_refused (s := s.attended) h.cla hd h1 h4 hno)⟩
    case cert =>
      exact fun h hd h2 hs => ends_of_plain rfl h (State.wandCert_of_selected (s := s.attended) h.cla hd h2 hs)
    case finish =>
      exact fun h hd h1 h2 => ends_of_plain rfl h (State.wandEnd_of_plain (s := s.attended) h.cla hd h1 h2)
    case begin =>
      intro h hd h1 h2
      refine ⟨fun hn => ?_, fun hn hk => ?_, fun hn hk => ⟨s.attended.authBegun a.p1 a.data, ?_,
        (s.attended_changes.trans (State.authBegun_changes _ _ _)).mono (by simp) (by simp), State.rd_authBegun_state _ _ _,
        rfl, rfl, rfl⟩⟩
      · exact ends_of_plain rfl h (State.wandAuthBegin_of_early (s := s.attended) h.cla hd h1 h2 hn)
      · exact ends_of_plain rfl h (State.wandAuthBegin_of_keyless (s := s.attended) h.cla hd h1 h2 hn hk)
      · exact ends_of_plain rfl h (State.wandAuthBegin_of_keyed (s := s.attended) h.cla hd h1 h2 hn hk)
    case proof =>
      intro h hd h1 h2 hs hm
      refine ⟨fun hproof => ⟨s.attended.countProof.authDone, ?_,
        ((s.attended_changes.trans (State.countProof_changes _)).trans (State.authDone_changes _)).mono (by simp) (by simp),
        State.rd_authDone_state _, State.rd_authDone_tenant _, rfl, rfl, rfl⟩, fun hproof => ?_⟩
      · exact ends_of_plain rfl h (State.wandAuthFinish_of_proof (s := s.attended) h.cla hd h1 h2 hs hm hproof)
      · exact ends_of_plain rfl h (State.wandAuthFinish_of_wrong (s := s.attended) h.cla hd h1 h2 hs hm hproof)
    case agree =>
      intro h hd h2 hs hk
      refine ⟨fun hz => ?_, fun z hz => ⟨s.attended.agreed a.data z, ?_,
        (s.attended_changes.trans (State.setPocket_changes _ _)).mono (by simp) (by simp), rfl⟩⟩
      · exact ends_of_plain rfl h (State.wandAgree_of_bad (s := s.attended) h.cla h2 hs hk hd hz)
      · exact ends_of_plain rfl h (State.wandAgree_of_good (s := s.attended) h.cla h2 hs hk hd hz)
    case confirm =>
      intro key kc x h hd h2 hkx hs hk hm hscrub
      refine ⟨fun hproof => ?_, fun hproof => ?_⟩
      · obtain ⟨-, -, hrun, -, -, -, -, hidle⟩ := h.1
        obtain ⟨page, hconfirm⟩ := State.wandConfirm_of_proof (s := s.attended) h.cla h2 hs hk hd hkx hm hproof
        have hcommit := State.mailCommit_of_idle (s := s.attended.countProof.owing 0x90) hrun hidle hscrub 3 page
        exact ⟨_, _, ends_of_plain rfl h (hconfirm.trans hcommit),
          (((s.attended_changes.trans (State.countProof_changes _)).trans (State.owing_changes _ _)).trans
            (State.setPocket_changes _ _)).mono (by simp) (by simp), rfl, rfl, rfl, rfl⟩
      · exact ends_of_plain rfl h (State.wandConfirm_of_wrong (s := s.attended) h.cla h2 hs hk hd hkx hm hproof)
  case secured =>
    intro s b d a n t
    refine ⟨?raw, ?write, ?bridge⟩
    case raw =>
      exact fun h hd h2 hsw =>
        ⟨fun q hq hst hpage hfirst => ends_of_secured rfl h
          (State.wandReadRaw_of_writing (s := s.attended) (a := { a with data := d }) h.cla h2 hd hsw hq hst hpage hfirst),
        fun hnone => ends_of_secured rfl h
          (State.wandReadRaw_of_none (s := s.attended) (a := { a with data := d }) h.cla h2 hd hsw hnone)⟩
    case write =>
      intro h hd h2
      refine ⟨fun hsw => ?_, fun hsw hm => ?_, fun hsw hm hscrub => ?_⟩
      · exact ends_of_secured rfl h (State.wandWrite_of_refused (s := s.attended) (a := { a with data := d }) h.cla h2 hd hsw)
      · exact ends_of_secured rfl h (State.wandWrite_of_low (s := s.attended) (a := { a with data := d }) h.cla h2 hd hsw hm)
      · obtain ⟨-, -, hrun, -, -, -, -, hidle⟩ := h.1
        have hwrite := State.wandWrite_of_margin (s := s.attended) (a := { a with data := d }) h.cla h2 hd hsw hm
        refine ⟨_, ends_of_secured rfl h (hwrite.trans (State.mailCommit_of_idle (s := s.attended.owing 0x94) hrun hidle hscrub a.p1 d)),
          ((s.attended_changes.trans (State.owing_changes _ _)).trans (State.setPocket_changes _ _)).mono (by simp) (by simp), ?_⟩
        have hcommit : (s.attended.owing 0x94).wandCommit a.p1 d =
            { page := a.p1, data := d, wand := true, since := s.now, scrub := [], phys := s.pocket.shadow } := by
          have hnow : (s.attended.owing 0x94).now = s.now :=
            ((State.owing_changes _ _).now (by simp) (by simp) (by simp)).trans s.attended_now
          rw [State.wandCommit, hnow, padTo_length hd]
          rfl
        rw [← hcommit]
        rfl
    case bridge =>
      intro ht hpower hup hlink hrun
      have hbridges : s.attended.Bridges t := ⟨ht, hpower, hup, hlink, hrun⟩
      refine ⟨?short, ?dictRead, ?dictWrite, ?reset⟩
      case short =>
        exact fun h hd hn => ends_of_secured rfl h (State.wandDictRead_of_long (s := s.attended) (a := { a with data := d }) h.cla hd hn _)
      case dictRead =>
        intro h hd h1 h200
        obtain ⟨unit, hread⟩ := State.wandDictRead_of_bridges (a := { a with data := d }) hbridges hd h1 h200 s.now
        exact ⟨_, s.attended.bridgeArrival t unit, ends_of_secured rfl h hread,
          (s.attended_changes.trans (State.bridged_changes _ _ _ _)).mono (by simp) (by simp), rfl, rfl, rfl, rfl,
          State.bridged_bridgeWtx _ _ _ _, State.bridged_bridgeTimeout _ _ _ _⟩
      case dictWrite =>
        intro h h4 h199
        have hwrite := State.wandDictWrite_of_bridges (a := { a with data := d }) hbridges h4 h199 s.now
        exact ⟨_, s.attended.bridgeArrival t _, ends_of_secured rfl h hwrite,
          (s.attended_changes.trans (State.bridged_changes _ _ _ _)).mono (by simp) (by simp), rfl, rfl, rfl, rfl, rfl⟩
      case reset =>
        exact fun h hd h2 hon h1 h8 htt => ends_of_secured rfl h
          (State.wandReset_of_bridges (s := s.attended) (a := { a with data := d }) hbridges h.cla hd h2 hon h1 h8 htt)

end Sys2Proof.Machine
end

section
/-! PROOFS. A step as a whole, the state at reset, and the header of a link message: the statements `ResetState`, `StepRunsFrontCommand`,
`QueueIsFirstInFirstOut` and `LinkHeaderRoundTrip`. -/

namespace Sys2Proof.Machine

set_option Elab.async false -- as tasks, the proofs would each hold memory of their own until the end of the text

/-! ### The queue and the state at reset -/

/-- Settles O3: every step carries on from the state whose front command it has taken, and so with that state's queue. -/
theorem queueIsFirstInFirstOut : Obligations.QueueIsFirstInFirstOut :=
  fun s _ ht => (s.step_kept ht).queue

/-- Settles O2: this is how a step reads its queue. -/
theorem stepRunsFrontCommand : Obligations.StepRunsFrontCommand := fun _ _ _ => rfl

/-- At reset nothing has been written, so an object reads its default. -/
theorem State.rd_reset (k : Nat) : State.reset.rd k = Dict.dflt k := rfl

/-- Settles O1: the table of objects is empty at reset, and the links' states have the default 0. -/
theorem resetState : Obligations.ResetState := by
  unfold Obligations.ResetState
  refine ⟨rfl, State.rd_reset, rfl, rfl, rfl, rfl, fun d => ?_, rfl, rfl, rfl⟩
  cases d <;> refine ⟨rfl, rfl, ?_⟩ <;> rw [State.linkState, State.rd_reset] <;> decide

/-! ### The header of a link message (Table 20-1) -/

/-- A header word in the mixed base of its fields' widths. -/
theorem LinkHead.word_eq (h : LinkHead) :
    h.word = ((((h.kind * 8 + h.die) * 256 + h.toEp) * 256 + h.fromEp) * 16 + h.tag) * 128 + h.length := by
  unfold LinkHead.word
  ring

/-- The fields as the word's digits in that base. -/
theorem parseHead_eq (w : Nat) : parseHead w = {
    kind := w / 128 / 16 / 256 / 256 / 8 % 4, die := w / 128 / 16 / 256 / 256 % 8, toEp := w / 128 / 16 / 256 % 256
    fromEp := w / 128 / 16 % 256, tag := w / 128 % 16, length := w % 128 } := by
  simp only [parseHead, Nat.div_div_eq_div_mul, Nat.reducePow, Nat.reduceMul]

/-- The digits above the last. -/
theorem join_div {a b m : Nat} (h : b < m) : (a * m + b) / m = a := by
  rw [Nat.add_comm, Nat.add_mul_div_right _ _ (Nat.zero_lt_of_lt h), Nat.div_eq_of_lt h, Nat.zero_add]

/-- Settles O23: the fields are the digits of the word to the bases of their widths. -/
theorem linkHeaderRoundTrip : Obligations.LinkHeaderRoundTrip := by
  unfold Obligations.LinkHeaderRoundTrip
  refine ⟨fun h hk hd ht hf hg hl => ⟨?_, ?_⟩, fun w hw => ?_⟩
  · unfold LinkHead.word
    omega
  · rw [h.word_eq, parseHead_eq]
    simp only [join_div hl, join_div hg, join_div hf, join_div ht, join_div hd, Nat.mul_add_mod_of_lt, Nat.mod_eq_of_lt, *]
  · have hkind : w / 128 / 16 / 256 / 256 / 8 < 4 := by
      simp only [Nat.div_div_eq_div_mul, Nat.reduceMul]
      exact Nat.div_lt_of_lt_mul hw
    rw [parseHead_eq, LinkHead.word_eq]
    simp only [Nat.mod_eq_of_lt hkind, Nat.div_add_mod']

end Sys2Proof.Machine
end

section
/-! PROOFS. Replies, and requests that wait for their commit (R374, R377, R385): the statement `RepliesAndCommits`. -/

namespace Sys2Proof.Machine

set_option Elab.async false -- as tasks, the proofs would each hold memory of their own until the end of the text

/-! ### Replies -/

/-- The counter of Table 13-15 that a reply of a status goes into. -/
def replyKey (t : Tenant) (st : Nat) : Nat := obT 0x1040 (if st = 0 then 0x03 else 0x04) t

theorem dict_bits_replyKey (t : Tenant) (st : Nat) : Dict.bits (replyKey t st) = 32 := by
  have hall : ∀ t : Tenant, ∀ n ∈ [0x03, 0x04], Dict.bits (obT 0x1040 n t) = 32 := by decide
  unfold replyKey
  split
  · exact hall t _ (by simp)
  · exact hall t _ (by simp)

/-- A job put into another phase. -/
def Job.inPhase (p : Phase) (id : Nat) (j : Job) : Job := if j.id = id then { j with phase := p } else j

/-- The service with `t` last served and its request `j` replied. -/
def Service.answered (v : Service) (t : Tenant) (j : Job) : Service :=
  { v with turn := t, queues := v.queues.set t ((v.queues[t]'t.isLt).map (Job.inPhase .replied j.id)) }

/-- The service after a reply of `t` that its transport keeps. -/
def Service.replied (v : Service) (t : Tenant) (j : Job) (st : Nat) (d : Octets) : Service :=
  { v.answered t j with replies := v.replies ++ [{ id := j.id, tenant := t, req := j.req, status := st, data := d }] }

/-- A reply that the host port keeps, for which no reset waits, is counted and kept. -/
theorem State.post_of_host {s : State} {t : Tenant} {id : Nat} {req : Request} (st : Nat) (d : Octets) (hhost : req.transport = .host)
    (hwait : ∀ p ∈ s.rst.waiting, p.reply ≠ some id) :
    s.post t id req st d = { s.inc (replyKey t st) with svc := { s.svc with
      replies := s.svc.replies ++ [{ id := id, tenant := t, req := req, status := st, data := d }] } } := by
  have hnone : (s.inc (replyKey t st)).rst.waiting.find? (fun p => p.reply == some id) = none := by
    rw [State.inc_rst, List.find?_eq_none]
    intro p hp
    simpa using hwait p hp
  have hsvc : (s.inc (replyKey t st)).svc = s.svc := State.inc_svc s _
  unfold State.post State.sendReply
  unfold replyKey at hnone hsvc ⊢
  simp only [hnone, hhost, hsvc]

/-- Counting leaves the service, so a change of the service may come before or after it. -/
theorem State.withSvc_inc (s : State) (v : Service) (k : Nat) : ({ s with svc := v } : State).inc k = { s.inc k with svc := v } := by
  unfold State.inc State.add State.rd
  split <;> rfl

theorem State.reply_of_host {s : State} {t : Tenant} {j : Job} (st : Nat) (d : Octets) (hhost : j.req.transport = .host)
    (hwait : ∀ p ∈ s.rst.waiting, p.reply ≠ some j.id) :
    s.reply t j st d = { s.inc (replyKey t st) with svc := s.svc.replied t j st d } := by
  have hpost := State.post_of_host (s := { s with svc := s.svc.answered t j }) (t := t) (id := j.id) (req := j.req) st d hhost hwait
  rw [State.withSvc_inc] at hpost
  exact hpost

/-! ### Requests that wait for their commit -/

/-- A request's commit joins the end of the NVA order. -/
theorem State.commit_dict_order (s : State) (t : Tenant) (id : Nat) (w : List (Nat × Nat)) :
    (s.commit (.dict t id w)).order = s.order ++ [.dict t id w] := by
  unfold State.commit
  cases s.order <;> simp [queueCommit, Commit.kind, Commit.isCheckpoint, Commit.isFault]

theorem State.finish_of_keeps {s : State} {t : Tenant} {j : Job} {k : List (Nat × Nat)} (w : Bool) (d : Octets) (hj : j ∈ s.svc.queues[t]'t.isLt)
    (hk : k ≠ []) : State.finish { st := s, keeps := k, waits := w } t j d =
      ((({ s with svc := { s.svc with turn := t } } : State).setJob t j.id (fun q => { q with phase := .committing d })).commit
        (.dict t j.id k)) := by
  refine (if_neg ?_).trans ((if_neg ?_).trans (if_neg ?_))
  · simpa using ⟨j, hj, rfl⟩
  · simpa using fun h => absurd h hk
  · simpa using hk

theorem State.finish_of_nothing {s : State} {t : Tenant} {j : Job} (d : Octets) (hj : j ∈ s.svc.queues[t]'t.isLt) :
    State.finish { st := s, keeps := [], waits := false } t j d = ({ s with svc := { s.svc with turn := t } } : State).reply t j 0 d := by
  refine (if_neg ?_).trans (if_pos rfl)
  simpa using ⟨j, hj, rfl⟩

/-! ### The statement -/

/-- Settles O10: a reply kept by the host port is written out whole; a request with something to keep waits for its commit. -/
theorem repliesAndCommits : Obligations.RepliesAndCommits := by
  unfold Obligations.RepliesAndCommits
  refine ⟨?replied, ?waits, fun s t j d hj => State.finish_of_nothing d hj⟩
  case replied =>
    intro s t j st d hhost hwait hcount
    rw [State.reply_of_host st d hhost hwait]
    change s.rd (replyKey t st) + 1 < 2 ^ 32 at hcount
    refine ⟨((s.inc_changes _).trans (State.withSvc_changes _ _)).mono (by simp) (by simp [replyKey]), ?_, rfl, rfl, ?_, fun u hu => ?_⟩
    · exact State.rd_inc_self s (replyKey t st) (by rwa [dict_bits_replyKey])
    · simp [Service.replied, Service.answered, Job.inPhase]
    · exact Vector.getElem_set_ne t.isLt u.isLt (fun e => hu (Fin.ext e.symm))
  case waits =>
    intro s t j k w d hj hk
    rw [State.finish_of_keeps w d hj hk]
    refine ⟨?_, State.commit_dict_order _ _ _ _, by simp [State.setJob, State.setQueue], by simp [State.setJob, State.setQueue]⟩
    exact (((s.withSvc_changes _).trans (State.setQueue_changes _ _ _)).trans (State.commit_changes _ _)).mono (by simp) (by simp)

end Sys2Proof.Machine
end

section
/-! PROOFS. Dictionary requests (chapter 13): their arrival, READ, DESCRIBE, NEXT, WRITE and the subscriptions, and the statement
`ServiceRequests`. -/

namespace Sys2Proof.Machine

set_option Elab.async false -- as tasks, the proofs would each hold memory of their own until the end of the text

/-! ### Arrival (R377, R378, R384) -/

/-- The units brought by transports, but for the oldest. -/
def State.withInbound (s : State) (l : List Arrival) : State := { s with svc := { s.svc with inbound := l } }

theorem State.withInbound_changes (s : State) (l : List Arrival) : Changes [.svc] [] s (s.withInbound l) := s.withSvc_changes _

/-- The request that an arrival spells. -/
def Arrival.request (s : State) (a : Arrival) : Request :=
  parseUnit a.transport a.peer a.counter (if a.sealed then s.serviceKey a.tenant else []) a.unit

/-- Whether the MAC of a sealed arrival is right. -/
def Arrival.MacOk (s : State) (a : Arrival) : Prop :=
  s.serviceKey a.tenant ≠ [] ∧
    (cmac (s.serviceKey a.tenant) (envelopeMessage 0x51 a.peer a.tenant.val a.counter a.unit)).take 8 = a.mac

theorem ends_arrival {s : State} {a : Arrival} {l : List Arrival} (hin : s.svc.inbound = a :: l) (hup : s.up = true) :
    Ends .serviceRequestArrival s ((s.withInbound l).arrive a) := by
  change execServiceRequestArrival s = _
  unfold execServiceRequestArrival
  rw [hin]
  exact if_pos hup

theorem ends_arrival_of_none {s : State} (h : s.svc.inbound = [] ∨ s.up = false) : Ends .serviceRequestArrival s s := by
  change execServiceRequestArrival s = _
  unfold execServiceRequestArrival
  split
  · rfl
  · next a l hin =>
    have hup : s.up = false := h.resolve_left (by simp [hin])
    exact if_neg (by simp [hup])

/-- What becomes of a good request with the floor where it belongs. -/
def State.takeIn (s : State) (t : Tenant) (q : Request) : State :=
  if !s.active t then s.turnAway t q sInactive []
  else if 32 ≤ (s.svc.queues[t]'t.isLt).length then s.turnAway t q sQueueFull []
  else s.enqueueJob t q

theorem State.arrive_of_bad_mac {s : State} {a : Arrival} (hs : a.sealed = true) (hm : ¬ a.MacOk s) :
    s.arrive a = s.inc (obT 0x1040 0x05 a.tenant) := by
  refine if_pos ?_
  simpa [hs] using not_and_or.1 hm

theorem State.arrive_of_stale {s : State} {a : Arrival} (hs : a.sealed = true) (hm : a.MacOk s)
    (hc : a.counter ≤ s.rd (obT 0x1034 0x04 a.tenant)) :
    s.arrive a = (s.inc (obT 0x1040 0x06 a.tenant)).turnAway a.tenant (a.request s) sStale (u32 (s.rd (obT 0x1034 0x04 a.tenant))) := by
  obtain ⟨hkey, hmac⟩ := hm
  refine (if_neg ?_).trans ((if_pos ?_).trans ?_)
  · simp [hs, hkey, hmac]
  · simp [hs, hc]
  · rfl

theorem State.arrive_of_good {s : State} {a : Arrival} (hs : a.sealed = true) (hm : a.MacOk s)
    (hc : s.rd (obT 0x1034 0x04 a.tenant) < a.counter) :
    s.arrive a = (s.floorTo a.tenant a.counter).takeIn a.tenant (a.request s) := by
  obtain ⟨hkey, hmac⟩ := hm
  refine (if_neg ?_).trans ((if_neg ?_).trans ?_)
  · simp [hs, hkey, hmac]
  · simp [hc]
  · change (if a.sealed then s.floorTo a.tenant a.counter else s).takeIn a.tenant (a.request s) = _
    rw [if_pos hs]

theorem State.arrive_of_plain {s : State} {a : Arrival} (hs : a.sealed = false) : s.arrive a = s.takeIn a.tenant (a.request s) := by
  refine (if_neg ?_).trans ((if_neg ?_).trans ?_)
  · simp [hs]
  · simp [hs]
  · change (if a.sealed then s.floorTo a.tenant a.counter else s).takeIn a.tenant (a.request s) = _
    rw [if_neg (by simp [hs])]

theorem State.takeIn_of_room {s : State} {t : Tenant} (q : Request) (ha : s.active t = true) (hlen : (s.svc.queues[t]'t.isLt).length < 32) :
    s.takeIn t q = s.enqueueJob t q := by
  refine (if_neg ?_).trans (if_neg ?_)
  · simp [ha]
  · exact not_le.2 hlen

theorem State.takeIn_of_no_room {s : State} {t : Tenant} (q : Request) (h : s.active t = false ∨ 32 ≤ (s.svc.queues[t]'t.isLt).length) :
    s.takeIn t q = s.turnAway t q (if s.active t then sQueueFull else sInactive) [] := by
  unfold State.takeIn
  cases ha : s.active t with
  | false => rfl
  | true => exact if_pos (h.resolve_left (by simp [ha]))

/-- A new request at the end of its tenant's queue, with the high-water mark. -/
theorem State.enqueueJob_changes (s : State) (t : Tenant) (q : Request) :
    Changes [.svc] [obT 0x1040 0x09 t] s (s.enqueueJob t q) :=
  (((s.withSvc_changes _).trans (State.setQueue_changes _ _ _)).trans (State.wr_changes _ _ _)).mono (by simp) (by simp)

theorem State.enqueueJob_svc (s : State) (t : Tenant) (q : Request) : (s.enqueueJob t q).svc = { s.svc with
    nextId := s.svc.nextId + 1
    queues := s.svc.queues.set t (s.svc.queues[t]'t.isLt ++ [{ id := s.svc.nextId, req := q, phase := .waiting }]) } := rfl

theorem State.enqueueJob_mark (s : State) (t : Tenant) (q : Request) :
    (s.enqueueJob t q).rd (obT 0x1040 0x09 t) = max (s.rd (obT 0x1040 0x09 t)) ((s.svc.queues[t]'t.isLt).length + 1) := by
  refine (State.rd_wr_self _ _ _).trans (congrArg (max _) ?_)
  simp [State.setQueue]

/-- The floor advanced where neither the notice of R397 nor a commit is called for. -/
theorem State.floorTo_of_near {s : State} {t : Tenant} {c : Nat} (hlow : c ≤ 0xFFFFF000) (hend : c < s.svc.floorEnd[t]'t.isLt + 2048) :
    s.floorTo t c = s.wr (obT 0x1034 0x04 t) c := by
  have hfloor : (s.wr (obT 0x1034 0x04 t) c).floorLow t (s.rd (obT 0x1034 0x04 t)) c = s.wr (obT 0x1034 0x04 t) c := by
    unfold State.floorLow
    rw [if_neg]
    simp only [Bool.and_eq_true, decide_eq_true_eq, not_and, not_lt]
    exact fun _ => hlow
  unfold State.floorTo
  simp only [hfloor]
  exact if_neg (not_le.2 hend)

/-! ### Statuses of requests (R378) -/

@[simp] theorem readLength_whole (i sub : Nat) : readLength i sub 0 0 = sOK := by
  unfold readLength
  split
  · split <;> rfl
  · rfl

@[simp] theorem State.readBytes_whole (s : State) (t : Tenant) (i sub : Nat) : s.readBytes t i sub 0 0 = s.valueBytes t i sub := rfl

/-- LINK_RETIRED comes after every other status. -/
theorem State.linkStatus_after (s : State) (i sub : Nat) {st : Nat} (hst : statusRank st < statusRank sRetired) :
    s.linkStatus i sub = st ∨ statusRank st < statusRank (s.linkStatus i sub) := by
  have hok : statusRank st < statusRank sOK := hst.trans (by decide)
  unfold State.linkStatus
  split
  · exact when_after _ (.inr hst) hok
  · exact .inr hok

/-- Of several statuses the first in the order of R378 is given, where it stands at the head of the list. -/
theorem firstStatus_cons_eq {st : Nat} {l : List Nat} (hl : ∀ b ∈ l, b = st ∨ statusRank st < statusRank b)
    (hst : statusRank st < statusRank sOK) : firstStatus (st :: l) = st :=
  firstStatus_eq List.mem_cons_self (List.forall_mem_cons.2 ⟨.inl rfl, hl⟩) hst

/-! ### READ, DESCRIBE, NEXT (R368, R371, R380) -/

section
variable {s : State} {t : Tenant} {j : Job} {i sub : Nat} (hturn : s.turn t = some j)
include hturn

theorem answers_serviceRead (hop : j.req.op = .read i sub 0 0) :
    Answers (.serviceRead t) s s t j (s.readStatus t j.req.transport i sub 0 0)
      (if s.readStatus t j.req.transport i sub 0 0 = 0 then s.valueBytes t i sub else []) := by
  change execServiceRead t s = _
  unfold execServiceRead
  simp only [hturn, hop]
  rfl

theorem answers_describe (hop : j.req.op = .describe i sub) {st : Nat}
    (hst : firstStatus [when (!s.visible t i sub) sNoObject, when (!s.transportOn t j.req.transport) sDenied] = st) :
    Answers (.describe t) s s t j st (if st = 0 then describeBytes i sub else []) := by
  subst hst
  change execDescribe t s = _
  unfold execDescribe
  simp only [hturn, hop]
  rfl

theorem answers_next_of_some (hop : j.req.op = .next i sub) {p : Nat × Nat} (hp : s.nextObject t i sub = some p)
    (htr : s.transportOn t j.req.transport = true) : Answers (.next t) s s t j 0 (u16 p.1 ++ u8 p.2) := by
  change execNext t s = _
  unfold execNext
  simp only [hturn, hop, hp, htr]
  rfl

theorem answers_next_of_none (hop : j.req.op = .next i sub) (hp : s.nextObject t i sub = none) : Answers (.next t) s s t j 1 [] := by
  change execNext t s = _
  unfold execNext
  simp only [hturn, hop, hp]
  rfl

theorem exec_serviceWrite {off : Nat} {v : Octets} (hop : j.req.op = .write i sub off v) :
    exec (.serviceWrite t) s = done (s.serveOwn t .plain) := by
  change execServiceWrite t s = _
  unfold execServiceWrite
  simp only [hturn, hop]

end

theorem State.readStatus_of_readable {s : State} {t : Tenant} {tr : Transport} {i sub : Nat} (hvis : s.visible t i sub = true)
    (htr : s.transportOn t tr = true) (hwo : writeOnly i sub = false) (hlink : s.linkStatus i sub = 0)
    (hlen : (s.valueBytes t i sub).length ≤ chunk tr s.secLevel false) : s.readStatus t tr i sub 0 0 = 0 := by
  unfold State.readStatus
  rw [hvis, htr, hwo, hlink, readLength_whole, State.readBytes_whole, decide_eq_false (not_lt.2 hlen)]
  rfl

theorem State.readStatus_of_invisible {s : State} {t : Tenant} {tr : Transport} {i sub : Nat} (hvis : s.visible t i sub = false) :
    s.readStatus t tr i sub 0 0 = 1 := by
  have hlink := s.linkStatus_after i sub (st := sNoObject) (by decide)
  unfold State.readStatus
  rw [hvis, readLength_whole]
  refine firstStatus_cons_eq ?_ (by decide)
  simp only [List.forall_mem_cons, List.not_mem_nil, false_imp_iff, implies_true, and_true]
  exact ⟨when_after _ (.inr (by decide)) (by decide), when_after _ (.inr (by decide)) (by decide), .inr (by decide),
    when_after _ (.inr (by decide)) (by decide), hlink⟩

/-! ### WRITE (R374, R378, R380) -/

/-- An allotment record has a command of its own. -/
theorem ownOf_allotment {i : Nat} (sub : Nat) (v : Octets) (h : 0x9010 ≤ i ∧ i ≤ 0x9017) : ownOf i sub v = .allotment := by
  unfold ownOf
  dsimp only
  repeat rw [if_neg (by omega)]
  exact if_pos h

theorem serves_serviceWrite {s : State} {t : Tenant} {j : Job} {i sub off : Nat} {v : Octets} {r : Row} (h : s.WritesAt t j i sub off v)
    (hown : ownOf i sub v = .plain) (hrow : Dict.row? i sub = some r) (hacc : r.acc ≠ .wo) :
    Serves (.serviceWrite t) s (s.store t i sub (s.spliced t i sub off v)) t j
      (if r.acc = .rwp ∧ s.needsCommit (keyFor t i sub) (s.spliced t i sub off v) = true then
        [(keyFor t i sub, s.spliced t i sub off v)] else []) false := by
  have hnot : ¬ (0x9010 ≤ i ∧ i ≤ 0x9017) := fun hi => by simp [ownOf_allotment sub v hi] at hown
  have hexec := exec_of_writesAt h (exec_serviceWrite h.1 h.2.1) hown
  simp only [State.effect, hrow, if_neg hacc, if_neg hnot] at hexec
  exact hexec

theorem answers_serviceWrite_of_refused {s : State} {t : Tenant} {j : Job} {i sub off st : Nat} {v : Octets} (hturn : s.turn t = some j)
    (hop : j.req.op = .write i sub off v) (hown : ownOf i sub v = .plain) (hst : s.writeStatus t j.req.transport i sub off v = st)
    (h0 : st ≠ 0) : Answers (.serviceWrite t) s (s.refusedEffect t i sub v st) t j st [] := by
  have hserve : s.serveOwn t .plain = (s.refusedEffect t i sub v st).reply t j st [] := by
    unfold State.serveOwn State.serveWrite
    simp only [hturn, hop, hown, if_true, hst, ne_eq, h0, not_false_iff]
  rw [Answers, exec_serviceWrite hturn hop, hserve, done_eq]

theorem dict_row_batteryLow : Dict.row? 0x1061 0x01 = some ⟨0x01, 0x01, .u16, .rwp, .fixed 0x01, .val 3100, .rng 2800 3600, false⟩ := by
  decide

/-! ### Subscriptions (R392 to R394) -/

/-- The first status that applies to a subscription. -/
def State.subscribeStatus (s : State) (t : Tenant) (tr : Transport) (i sub kind event deadband : Nat) : Nat :=
  firstStatus [when (!s.visible t i sub) sNoObject, when (!s.transportOn t tr) sDenied,
    when (writeOnly i sub) sWriteOnly, when (decide (s.routeChunk t < (s.valueBytes t i sub).length)) sTooLong,
    s.subRange t i sub kind event deadband, when (s.freeSub t).isNone sSubsFull]

/-- Where only its own range may stand against it, a subscription has the status of its range. -/
theorem State.subscribeStatus_eq {s : State} {t : Tenant} {tr : Transport} {i sub kind event deadband n st : Nat}
    (hvis : s.visible t i sub = true) (htr : s.transportOn t tr = true) (hwo : writeOnly i sub = false)
    (hlen : (s.valueBytes t i sub).length ≤ s.routeChunk t) (hfree : s.freeSub t = some n)
    (hrange : s.subRange t i sub kind event deadband = st) : s.subscribeStatus t tr i sub kind event deadband =
      firstStatus [sOK, sOK, sOK, sOK, st, sOK] := by
  subst hrange
  unfold State.subscribeStatus
  rw [hvis, htr, hwo, hfree, decide_eq_false (not_lt.2 hlen)]
  rfl

/-- An entry just put in. -/
def newSub (n i sub kind event interval deadband : Nat) : Sub :=
  { entry := n, index := i, sub := sub, kind := kind, event := event, interval := interval, deadband := deadband,
    count := 0, seen := none, told := none, toldAt := 0, held := false }

/-- One tenant's entries changed. -/
def State.setSubs (s : State) (t : Tenant) (f : List Sub → List Sub) : State := s.setBox t (fun b => { b with subs := f b.subs })

section
variable {s : State} {t : Tenant} {j : Job} {i sub k ev iv db : Nat} (hturn : s.turn t = some j)
  (hop : j.req.op = .subscribe i sub k ev iv db)
include hturn hop

theorem answers_subscribe {n : Nat} (hst : s.subscribeStatus t j.req.transport i sub k ev db = 0) (hfree : s.freeSub t = some n) :
    Answers (.subscribe t) s (s.setSubs t (fun l => l ++ [newSub n i sub k ev iv db])) t j 0 (u8 n) := by
  change execSubscribe t s = _
  unfold execSubscribe
  simp only [hturn, hop]
  unfold State.subscribeStatus at hst
  rw [hst, hfree]
  rfl

theorem answers_subscribe_of_refused {st : Nat} (hst : s.subscribeStatus t j.req.transport i sub k ev db = st + 1) :
    Answers (.subscribe t) s s t j (st + 1) [] := by
  change execSubscribe t s = _
  unfold execSubscribe
  simp only [hturn, hop]
  unfold State.subscribeStatus at hst
  rw [hst]
  rfl

end

theorem answers_unsubscribe {s : State} {t : Tenant} {j : Job} {n : Nat} (hturn : s.turn t = some j) (hop : j.req.op = .unsubscribe n)
    (htr : s.transportOn t j.req.transport = true) (h : ∃ e ∈ (s.router.boxes[t]'t.isLt).subs, e.entry = n) :
    Answers (.unsubscribe t) s (s.setSubs t (fun l => l.filter (fun e => e.entry != n))) t j 0 [] := by
  have hany : (s.router.boxes[t]'t.isLt).subs.any (fun e => e.entry == n) = true := by simpa using h
  change execUnsubscribe t s = _
  unfold execUnsubscribe
  simp only [hturn, hop, htr, hany]
  rfl

theorem answers_unsubscribe_of_free {s : State} {t : Tenant} {j : Job} {n : Nat} (hturn : s.turn t = some j)
    (hop : j.req.op = .unsubscribe n) (htr : s.transportOn t j.req.transport = true)
    (h : ∀ e ∈ (s.router.boxes[t]'t.isLt).subs, e.entry ≠ n) : Answers (.unsubscribe t) s s t j 5 [] := by
  have hany : (s.router.boxes[t]'t.isLt).subs.any (fun e => e.entry == n) = false := by simpa using h
  change execUnsubscribe t s = _
  unfold execUnsubscribe
  simp only [hturn, hop, htr, hany]
  rfl

/-- The held mark of an entry taken off. -/
def letGo (n : Nat) (l : List Sub) : List Sub := l.map (fun x => if x.entry = n then { x with held := false } else x)

theorem ends_subscriptionIntervalEnd {s : State} {t : Tenant} {n : Nat} {e : Sub}
    (hfind : (s.router.boxes[t]'t.isLt).subs.find? (fun e => e.entry == n) = some e) (hheld : e.held = true) (hup : s.up = true)
    (hdue : e.toldAt + e.interval * 1000000 ≤ s.now) :
    Ends (.subscriptionIntervalEnd t n) s (if e.meets ((s.setSubs t (letGo n)).live t e.index e.sub) then
      (s.setSubs t (letGo n)).notify t e (s.setSubs t (letGo n)).now else s.setSubs t (letGo n)) := by
  change execSubscriptionIntervalEnd t n s = _
  unfold execSubscriptionIntervalEnd
  rw [hfind]
  refine (if_pos (by simp [hheld, hup, hdue])).trans ?_
  rw [apply_ite (fun w : State => (Host.Outcome.next w.settle : Result))]
  rfl

theorem ends_subscriptionIntervalEnd_of_none {s : State} {t : Tenant} {n : Nat}
    (h : ∀ e ∈ (s.router.boxes[t]'t.isLt).subs, e.entry = n → e.held = false) : Ends (.subscriptionIntervalEnd t n) s s := by
  change execSubscriptionIntervalEnd t n s = _
  unfold execSubscriptionIntervalEnd
  split
  · rfl
  · next e he =>
    have hheld : e.held = false := h e (List.mem_of_find?_eq_some he) (by simpa using List.find?_some he)
    exact if_neg (by simp [hheld])

/-! ### The statement -/

theorem dict_bits_arrivalCounter (t : Tenant) : Dict.bits (obT 0x1040 0x05 t) = 32 ∧ Dict.bits (obT 0x1040 0x06 t) = 32 := by
  revert t; decide

/-- Settles O54, clause by clause: what an arrival comes to, what each request answers in its turn, and the end of an entry's interval. -/
theorem serviceRequests : Obligations.ServiceRequests := by
  unfold Obligations.ServiceRequests
  refine ⟨fun s => ends_arrival_of_none, ?arrival, ?read, ?describe, ?next, fun s t j i sub off v r h => serves_serviceWrite h, ?threshold,
    ?refused, ?subscribe, ?notReceived, ?unsubscribe, ?interval, fun s t n => ends_subscriptionIntervalEnd_of_none⟩
  case arrival =>
    intro s a l hin hup q macOk
    have hends := ends_arrival hin hup
    have hw := s.withInbound_changes l
    refine ⟨fun hs ha hlen => ?_, fun hs h => ?_, fun hs hm hc => ?_, fun hs hm hc hn => ?_, fun hs hm hc hlow hend ha hlen => ?_⟩
    · rw [State.arrive_of_plain hs, State.takeIn_of_room (s := s.withInbound l) _ ha hlen] at hends
      exact ⟨_, hends, (hw.trans (State.enqueueJob_changes _ _ _)).mono (by simp) (by simp), rfl, State.enqueueJob_mark _ _ _⟩
    · rw [State.arrive_of_plain hs, State.takeIn_of_no_room (s := s.withInbound l) _ h] at hends
      exact ⟨_, hends, hw, rfl⟩
    · rw [State.arrive_of_bad_mac (s := s.withInbound l) hs hm] at hends
      refine ⟨_, hends, (hw.trans (State.inc_changes _ _)).mono (by simp) (by simp), State.inc_svc _ _, ?_⟩
      exact State.rd_inc_self _ _ (by rwa [(dict_bits_arrivalCounter _).1])
    · rw [State.arrive_of_stale (s := s.withInbound l) hs hm hc] at hends
      refine ⟨_, hends, (hw.trans (State.inc_changes _ _)).mono (by simp) (by simp), ?_⟩
      exact State.rd_inc_self _ _ (by rwa [(dict_bits_arrivalCounter _).2])
    · have hact : ((s.withInbound l).wr (obT 0x1034 0x04 a.tenant) a.counter).active a.tenant = true := by
        have hne : ob (0x9020 + a.tenant.val) 0x01 ≠ obT 0x1034 0x04 a.tenant := ob_ne_obT _ (by decide) (by decide) (by omega)
        unfold State.active State.tenantState at ha ⊢
        rwa [State.rd_wr_other _ _ hne]
      rw [State.arrive_of_good (s := s.withInbound l) hs hm hc, State.floorTo_of_near (s := s.withInbound l) hlow hend,
        State.takeIn_of_room _ hact hlen] at hends
      refine ⟨_, hends, ?_, ?_, ?_⟩
      · exact ((hw.trans (State.wr_changes _ _ _)).trans (State.enqueueJob_changes _ _ _)).mono (by simp) (by simp)
      · refine (State.rd_wr_other _ _ ?_).trans (State.rd_wr_self _ _ _)
        unfold obT ob
        omega
      · exact Vector.getElem_set_self a.tenant.isLt
  case read =>
    intro s t j i sub hturn hop
    have hans := answers_serviceRead hturn hop
    refine ⟨fun hvis htr hwo hlink hlen => ?_, fun hvis => ?_⟩
    · rwa [State.readStatus_of_readable hvis htr hwo hlink hlen] at hans
    · rwa [State.readStatus_of_invisible hvis] at hans
  case describe =>
    intro s t j i sub hturn hop
    refine ⟨fun hvis htr => answers_describe hturn hop (st := 0) (by rw [hvis, htr]; rfl), fun hvis => ?_⟩
    refine answers_describe hturn hop (st := 1) ?_
    rw [hvis]
    exact firstStatus_cons_eq (List.forall_mem_singleton.2 (when_after _ (.inr (by decide)) (by decide))) (by decide)
  case next =>
    exact fun s t j i sub hturn hop => ⟨fun p hp htr => answers_next_of_some hturn hop hp htr, answers_next_of_none hturn hop⟩
  case threshold =>
    intro s t j n hn h
    have hval : s.spliced t 0x1061 0x01 0 (u16 n) = n := by simp [State.spliced, dict_row_batteryLow, Ty.isOctets, leNat_u16 hn]
    have hserves := serves_serviceWrite h rfl dict_row_batteryLow (by decide)
    rw [hval] at hserves
    refine ⟨s.wr (ob 0x1061 0x01) n, ?_, s.wr_changes _ _, s.rd_wr_self _ _⟩
    simpa [State.store, keyFor, dict_row_batteryLow] using hserves
  case refused =>
    exact fun s t j i sub off st v hturn hop hown hst h0 => answers_serviceWrite_of_refused hturn hop hown hst h0
  case subscribe =>
    intro s t j i sub n k ev iv db hturn hop hvis htr hwo hfree hlen hrange
    have hst := State.subscribeStatus_eq hvis htr hwo hlen hfree hrange
    exact ⟨_, newSub n i sub k ev iv db, answers_subscribe hturn hop hst hfree, s.setBox_changes _ _, rfl, rfl, rfl, rfl, rfl, rfl, rfl,
      rfl, rfl⟩
  case notReceived =>
    intro s t j i sub n ev iv db hturn hop hvis htr hwo hlen hfree hev
    have hrange : s.subRange t i sub 2 ev db = sRange := by
      unfold State.subRange
      rw [hev]
      rfl
    exact answers_subscribe_of_refused hturn hop (State.subscribeStatus_eq hvis htr hwo hlen hfree hrange)
  case unsubscribe =>
    intro s t j n hturn hop htr
    exact ⟨fun h => ⟨_, answers_unsubscribe hturn hop htr h, s.setBox_changes _ _, rfl⟩, answers_unsubscribe_of_free hturn hop htr⟩
  case interval =>
    intro s t n e hfind hheld hup hdue
    have hends := ends_subscriptionIntervalEnd hfind hheld hup hdue
    have hnow : (s.setSubs t (letGo n)).now = s.now := rfl
    refine ⟨s.setSubs t (letGo n), s.setBox_changes _ _, rfl, fun hm => ?_, fun hm => ?_⟩
    · rwa [if_pos hm, hnow] at hends
    · rwa [if_neg (by simp [hm])] at hends

end Sys2Proof.Machine
end

section
/-! PROOFS. Block transfers (R389 to R391, R405): the statement `BlockTransfers`. -/

namespace Sys2Proof.Machine

set_option Elab.async false -- as tasks, the proofs would each hold memory of their own until the end of the text

/-! ### A tenant's block -/

theorem State.setBlock_changes (s : State) (t : Tenant) (b : Option Block) : Changes [.svc, .timers] [] s (s.setBlock t b) := by
  unfold State.setBlock
  dsimp only
  split
  · exact ((s.withSvc_changes _).trans (State.cancel_changes _ _)).mono (by simp) (by simp)
  · exact ((s.withSvc_changes _).trans (State.armIn_changes _ _ _)).mono (by simp) (by simp)

theorem State.setBlock_svc (s : State) (t : Tenant) (b : Option Block) :
    (s.setBlock t b).svc = { s.svc with blocks := s.svc.blocks.set t b } := by
  unfold State.setBlock
  cases b <;> rfl

/-- An open block lapses its time after it was last used. -/
theorem State.setBlock_dueAt (s : State) (t : Tenant) (b : Block) :
    (s.setBlock t (some b)).dueAt (.blockLapse t) = some (s.now + s.rd (obT 0x1040 0x08 t)) := State.arm_dueAt _ _ _

theorem State.setBlock_isArmed (s : State) (t : Tenant) : (s.setBlock t none).isArmed (.blockLapse t) = false :=
  State.cancel_isArmed _ _

/-- Using the open block only puts off its lapse. -/
theorem State.setBlock_of_open {s : State} {t : Tenant} {b : Block} (h : s.svc.blocks[t]'t.isLt = some b) :
    s.setBlock t (some b) = s.armIn (.blockLapse t) (s.rd (obT 0x1040 0x08 t)) := by
  have hset : s.svc.blocks.set t (some b) = s.svc.blocks := by rw [← h]; exact Vector.set_getElem_self _
  have hstate : ({ s with svc := { s.svc with blocks := s.svc.blocks.set t (some b) } } : State) = s := by rw [hset]
  change ({ s with svc := { s.svc with blocks := s.svc.blocks.set t (some b) } } : State).armIn _ (State.rd _ _) = _
  rw [hstate]

/-- The lapse of a tenant's block put off. -/
def State.blockUsed (s : State) (t : Tenant) : State := s.armIn (.blockLapse t) (s.rd (obT 0x1040 0x08 t))

theorem State.blockUsed_dueAt (s : State) (t : Tenant) :
    (s.blockUsed t).dueAt (.blockLapse t) = some (s.now + s.rd (obT 0x1040 0x08 t)) := State.arm_dueAt _ _ _

/-! ### BLOCK_OPEN (R389, R391) -/

section
variable {s : State} {t : Tenant} {j : Job} (hturn : s.turn t = some j)
include hturn

theorem answers_blockOpenRead {i sub : Nat} (hop : j.req.op = .blockOpenRead i sub)
    (hst : firstStatus [when (!s.visible t i sub) sNoObject, when (!s.transportOn t j.req.transport) sDenied,
      when ((s.svc.blocks[t]'t.isLt).isSome) sBusy, when (writeOnly i sub) sWriteOnly, s.linkStatus i sub] = 0) :
    Answers (.blockOpen t) s (s.setBlock t (some ⟨false, (s.valueBytes t i sub).length, s.valueBytes t i sub, 0, (i, sub)⟩)) t j 0
      (u16 (s.valueBytes t i sub).length) := by
  change execBlockOpen t s = _
  unfold execBlockOpen
  simp only [hturn, hop]
  exact if_neg (not_not.2 hst)

theorem answers_blockOpenRead_of_refused {i sub st : Nat} (hop : j.req.op = .blockOpenRead i sub)
    (hst : firstStatus [when (!s.visible t i sub) sNoObject, when (!s.transportOn t j.req.transport) sDenied,
      when ((s.svc.blocks[t]'t.isLt).isSome) sBusy, when (writeOnly i sub) sWriteOnly, s.linkStatus i sub] = st) (h0 : st ≠ 0) :
    Answers (.blockOpen t) s s t j st [] := by
  subst hst
  change execBlockOpen t s = _
  unfold execBlockOpen
  simp only [hturn, hop]
  exact if_pos h0

theorem answers_blockOpenWrite {n : Nat} (hop : j.req.op = .blockOpenWrite n)
    (hst : firstStatus [when (!s.transportOn t j.req.transport) sDenied, when ((s.svc.blocks[t]'t.isLt).isSome) sBusy,
      when (decide (5120 < n)) sBlockLong] = 0) :
    Answers (.blockOpen t) s (s.setBlock t (some ⟨true, n, [], 0, (0, 0)⟩)) t j 0 [] := by
  change execBlockOpen t s = _
  unfold execBlockOpen
  simp only [hturn, hop]
  exact if_neg (not_not.2 hst)

theorem answers_blockOpenWrite_of_refused {n st : Nat} (hop : j.req.op = .blockOpenWrite n)
    (hst : firstStatus [when (!s.transportOn t j.req.transport) sDenied, when ((s.svc.blocks[t]'t.isLt).isSome) sBusy,
      when (decide (5120 < n)) sBlockLong] = st) (h0 : st ≠ 0) : Answers (.blockOpen t) s s t j st [] := by
  subst hst
  change execBlockOpen t s = _
  unfold execBlockOpen
  simp only [hturn, hop]
  exact if_pos h0

/-! ### BLOCK_DATA (R390, R391) -/

section
variable {off : Nat} {r : Octets} (hop : j.req.op = .blockData off r)
include hop

theorem answers_blockData_of_none (hnone : s.svc.blocks[t]'t.isLt = none) :
    Answers (.blockData t) s s t j (s.dataStatus t j.req.transport off r) [] := by
  change execBlockData t s = _
  unfold execBlockData
  simp only [hturn, hop, hnone]
  rfl

theorem answers_blockData_of_refused {b : Block} {st : Nat} (hb : s.svc.blocks[t]'t.isLt = some b)
    (hst : s.dataStatus t j.req.transport off r = st) (h0 : st ≠ 0) (h1 : st ≠ sNoObject) :
    Answers (.blockData t) s (s.blockUsed t) t j st [] := by
  change execBlockData t s = _
  unfold execBlockData
  simp only [hturn, hop, hb, hst, if_neg h1, if_pos h0, State.setBlock_of_open hb]
  rfl

theorem answers_blockData_of_write {b : Block} (hb : s.svc.blocks[t]'t.isLt = some b) (hw : b.write = true)
    (hst : s.dataStatus t j.req.transport off r = 0) : Answers (.blockData t) s
      ((s.blockUsed t).setBlock t (some { b with staged := b.staged.take off ++ r, last := off })) t j 0 [] := by
  have h0 : ¬ 0 = sNoObject := by decide
  change execBlockData t s = _
  unfold execBlockData
  simp only [hturn, hop, hb, hst, hw, if_neg h0, ne_eq, not_true_eq_false, if_false, if_true, State.setBlock_of_open hb]
  rfl

theorem answers_blockData_of_read {b : Block} (hb : s.svc.blocks[t]'t.isLt = some b) (hw : b.write = false)
    (hst : s.dataStatus t j.req.transport off r = 0) :
    Answers (.blockData t) s (s.blockUsed t) t j 0 (slice off (u16At r 0) b.staged) := by
  have h0 : ¬ 0 = sNoObject := by decide
  change execBlockData t s = _
  unfold execBlockData
  simp only [hturn, hop, hb, hst, hw, if_neg h0, ne_eq, not_true_eq_false, if_false, Bool.false_eq_true, State.setBlock_of_open hb]
  rfl

end

/-! ### BLOCK_CLOSE (R389 to R391) -/

section
variable {n : Nat} (hop : j.req.op = .blockClose n) (htr : s.transportOn t j.req.transport = true)
include hop htr

theorem answers_blockClose_of_none (hnone : s.svc.blocks[t]'t.isLt = none) : Answers (.blockClose t) s s t j 0x0E [] := by
  change execBlockClose t s = _
  unfold execBlockClose
  simp only [hturn, hop, htr, hnone]
  rfl

theorem exec_blockClose_of_commit {b : Block} (hb : s.svc.blocks[t]'t.isLt = some b) (hw : b.write = true) (hn : n = 1) :
    exec (.blockClose t) s = .next ((s.blockUsed t).blockCommit t j b).settle := by
  subst hn
  change execBlockClose t s = _
  unfold execBlockClose
  simp only [hturn, hop, htr, hb, hw, State.setBlock_of_open hb]
  rfl

theorem answers_blockClose_of_write {b : Block} (hb : s.svc.blocks[t]'t.isLt = some b) (hw : b.write = true) (hn : n ≠ 1) :
    Answers (.blockClose t) s (s.setBlock t none) t j 0 (u16 0) := by
  have hn' : (n == 1) = false := beq_false_of_ne hn
  change execBlockClose t s = _
  unfold execBlockClose
  simp only [hturn, hop, htr, hb, hw, hn']
  rfl

theorem answers_blockClose_of_read {b : Block} (hb : s.svc.blocks[t]'t.isLt = some b) (hw : b.write = false)
    (hvis : s.visible t b.obj.1 b.obj.2 = true) : Answers (.blockClose t) s (s.setBlock t none) t j 0 [] := by
  change execBlockClose t s = _
  unfold execBlockClose
  simp only [hturn, hop, htr, hb, hw, hvis]
  rfl

end
end

/-! ### The records of a block (R390) -/

section
variable {s : State} {t : Tenant} {j : Job} {b : Block}

theorem State.blockCommit_of_short (h : b.staged.length < b.total) : s.blockCommit t j b = s.reply t j 0x12 [] := if_pos h

theorem State.blockCommit_of_unformed (h : b.total ≤ b.staged.length) (hr : blockRecords b.staged.length b.staged = none) :
    s.blockCommit t j b = s.reply t j 4 (u16 0) := by
  refine (if_neg (not_lt.2 h)).trans ?_
  rw [hr]
  rfl

theorem State.blockCommit_of_refused {l : List (Nat × Nat × Nat × Octets)} {e : Nat × Nat × Option Nat} (h : b.total ≤ b.staged.length)
    (hr : blockRecords b.staged.length b.staged = some l)
    (he : applyRecords t j.req.transport j.id 0 l { st := s, keeps := [], waits := false } = .inl e) :
    s.blockCommit t j b = (match e.2.2 with | some k => s.keyEnded t k | none => s).reply t j e.1 (u16 e.2.1) := by
  refine (if_neg (not_lt.2 h)).trans ?_
  rw [hr]
  dsimp only
  rw [he] <;> rfl

theorem State.blockCommit_of_applied {l : List (Nat × Nat × Nat × Octets)} {e : Effect} (h : b.total ≤ b.staged.length)
    (hr : blockRecords b.staged.length b.staged = some l)
    (he : applyRecords t j.req.transport j.id 0 l { st := s, keeps := [], waits := false } = .inr e) :
    s.blockCommit t j b =
      State.finish { e with st := ({ e.st with charges := s.charges } : State).setBlock t none } t j (u16 l.length) := by
  refine (if_neg (not_lt.2 h)).trans ?_
  rw [hr]
  dsimp only
  rw [he]

end

theorem State.withCharges_changes (s : State) (l : List (Nat × Tenant)) : Changes [.charges] [] s { s with charges := l } := by
  refine ⟨rfl, fun p hp => ?_, fun _ _ => rfl⟩
  cases p
  case charges => exact absurd (List.mem_singleton_self _) hp
  all_goals rfl

theorem ends_blockLapse {s : State} {t : Tenant} (h : s.isDue (.blockLapse t) = true) : Ends (.blockLapse t) s (s.setBlock t none) :=
  if_pos h

/-! ### Statuses of data (R390, R391) -/

theorem State.dataStatus_of_none {s : State} {t : Tenant} {tr : Transport} (off : Nat) (r : Octets) (htr : s.transportOn t tr = true)
    (hnone : s.svc.blocks[t]'t.isLt = none) : s.dataStatus t tr off r = sNoBlock := by
  unfold State.dataStatus
  simp only [hnone, htr]
  rfl

/-- Data of a WRITE block that fit are held against the sequence alone. -/
theorem State.dataStatus_of_write {s : State} {t : Tenant} {tr : Transport} {off : Nat} {r : Octets} {b : Block}
    (htr : s.transportOn t tr = true) (hb : s.svc.blocks[t]'t.isLt = some b) (hw : b.write = true) (hlen : r.length ≤ chunk tr s.secLevel true)
    (htot : off + r.length ≤ b.total) :
    s.dataStatus t tr off r = when (off != b.staged.length && off != b.last) sSequence := by
  unfold State.dataStatus
  simp only [hb, htr, hw, if_true, decide_eq_false (not_lt.2 hlen), decide_eq_false (not_lt.2 htot)]
  cases (off != b.staged.length && off != b.last) <;> rfl

theorem State.dataStatus_of_read {s : State} {t : Tenant} {tr : Transport} {off : Nat} {r : Octets} {b : Block}
    (htr : s.transportOn t tr = true) (hb : s.svc.blocks[t]'t.isLt = some b) (hw : b.write = false) (hlen : r.length = 2)
    (hvis : s.visible t b.obj.1 b.obj.2 = true) (htot : off + u16At r 0 ≤ b.total) (hchunk : u16At r 0 ≤ chunk tr s.secLevel false) :
    s.dataStatus t tr off r = 0 := by
  unfold State.dataStatus
  simp only [hb, htr, hw, hlen, hvis, decide_eq_false (not_lt.2 htot), decide_eq_false (not_lt.2 hchunk)]
  rfl

/-! ### The statement -/

/-- Settles O55, clause by clause: opening, data and closing of a block, and its lapse. -/
theorem blockTransfers : Obligations.BlockTransfers := by
  unfold Obligations.BlockTransfers
  refine ⟨?openRead, ?openWrite, ?data, ?close, ?lapse⟩
  case openRead =>
    intro s t j i sub hturn hop hvis htr hwo hlink
    refine ⟨fun hnone => ?_, fun hsome => ?_⟩
    · refine ⟨_, answers_blockOpenRead hturn hop ?_, s.setBlock_changes _ _, s.setBlock_svc _ _, s.setBlock_dueAt _ _⟩
      rw [hvis, htr, hwo, hlink, hnone]
      rfl
    · refine answers_blockOpenRead_of_refused (st := 0x0F) hturn hop ?_ (by decide)
      rw [hvis, htr, hwo, hlink, Option.isSome_iff_ne_none.2 hsome]
      rfl
  case openWrite =>
    intro s t j n hturn hop htr hnone
    refine ⟨fun hn => ?_, fun hn => ?_⟩
    · refine ⟨_, answers_blockOpenWrite hturn hop ?_, s.setBlock_changes _ _, s.setBlock_svc _ _, s.setBlock_dueAt _ _⟩
      rw [htr, hnone, decide_eq_false (not_lt.2 hn)]
      rfl
    · refine answers_blockOpenWrite_of_refused (st := 0x10) hturn hop ?_ (by decide)
      rw [htr, hnone, decide_eq_true hn]
      rfl
  case data =>
    intro s t j off r hturn hop htr
    have hused : Changes [.svc, .timers] [] s (s.blockUsed t) := (s.armIn_changes _ _).mono (by simp) (by simp)
    refine ⟨fun hnone => ?_, fun b hb hw hlen htot => ⟨fun hoff => ?_, fun h1 h2 => ?_⟩, fun b hb hw hlen hvis htot hchunk => ?_⟩
    · have hans := answers_blockData_of_none hturn hop hnone
      rwa [State.dataStatus_of_none _ _ htr hnone] at hans
    · have hst : s.dataStatus t j.req.transport off r = 0 := by
        rw [State.dataStatus_of_write htr hb hw hlen htot]
        obtain h | h := hoff <;> simp [h, when, sOK]
      refine ⟨_, answers_blockData_of_write hturn hop hb hw hst, (hused.trans (State.setBlock_changes _ _ _)).mono (by simp) (by simp), ?_, ?_⟩
      · exact State.setBlock_svc _ _ _
      · exact State.setBlock_dueAt _ _ _
    · have hst : s.dataStatus t j.req.transport off r = 0x11 := by
        rw [State.dataStatus_of_write htr hb hw hlen htot]
        simp [h1, h2, when, sSequence]
      exact ⟨_, answers_blockData_of_refused hturn hop hb hst (by decide) (by decide), hused, rfl⟩
    · exact ⟨_, answers_blockData_of_read hturn hop hb hw (State.dataStatus_of_read htr hb hw hlen hvis htot hchunk), hused, rfl,
        s.blockUsed_dueAt t⟩
  case close =>
    intro s t j n hturn hop htr
    refine ⟨answers_blockClose_of_none hturn hop htr, fun b hb hw => ⟨fun hn => ?_, fun hn => ?_⟩, fun b hb hw hvis => ?_⟩
    · exact ⟨_, answers_blockClose_of_write hturn hop htr hb hw hn, s.setBlock_changes _ _, s.setBlock_svc _ _, s.setBlock_isArmed t⟩
    · have hexec := exec_blockClose_of_commit hturn hop htr hb hw hn
      refine ⟨s.blockUsed t, s.armIn_changes _ _, s.blockUsed_dueAt t, fun h => ?_, fun h hr => ?_, fun l h hr => ⟨fun e he => ?_, fun e he => ?_⟩⟩
      · rwa [State.blockCommit_of_short h] at hexec
      · rwa [State.blockCommit_of_unformed h hr] at hexec
      · rwa [State.blockCommit_of_refused h hr he] at hexec
      · rw [State.blockCommit_of_applied h hr he] at hexec
        refine ⟨({ e.st with charges := s.charges } : State).setBlock t none, ?_, ?_, State.setBlock_svc _ _ _, State.setBlock_isArmed _ _, hexec⟩
        · exact ((e.st.withCharges_changes _).trans (State.setBlock_changes _ _ _)).mono (by simp) (by simp)
        · exact (State.setBlock_changes ({ e.st with charges := s.charges } : State) t none).same (p := .charges) (by simp)
    · exact ⟨_, answers_blockClose_of_read hturn hop htr hb hw hvis, s.setBlock_changes _ _, s.setBlock_svc _ _, s.setBlock_isArmed t⟩
  case lapse =>
    exact fun s t h => ⟨_, ends_blockLapse h, s.setBlock_changes _ _, s.setBlock_svc _ _, s.setBlock_isArmed t⟩

end Sys2Proof.Machine
end

section
/-! PROOFS. Commands of command objects, and reset requests (chapter 19): the statement `ResetRequests`. -/

namespace Sys2Proof.Machine

set_option Elab.async false -- as tasks, the proofs would each hold memory of their own until the end of the text

/-- An accepted write of a command object that brings the block to `u` is answered from there. -/
theorem Serves.of_command {c : Instr} {s u : State} {t : Tenant} {j : Job} {i sub : Nat} {v : Octets} {o : Own}
    (hj : s.Writes t j i sub v) (hexec : exec c s = done (s.serveOwn t o)) (hown : ownOf i sub v = o)
    (hrow : (Dict.row? i sub).map Row.acc = some .wo) (hact : s.act t j.req.transport j.id i sub v = u.only) :
    Serves c s u t j [] false := by
  have h := exec_of_writesAt hj hexec hown
  rwa [State.effect_of_command hrow, hact] at h

theorem State.withRst_changes (s : State) (v : ResetCtl) : Changes [.rst] [] s { s with rst := v } := by
  refine ⟨rfl, fun p hp => ?_, fun _ _ => rfl⟩
  cases p
  case rst => exact absurd (List.mem_singleton_self _) hp
  all_goals rfl

theorem State.askReset_changes (s : State) (r : Reach) (cause kind requester detail : Nat) (reply : Option Nat) :
    Changes [.rst] [] s (s.askReset r cause kind requester detail reply) := s.withRst_changes _

/-- The reach of each kind of Table 19-1. -/
theorem kindReach_eq : ∀ n ∈ [1, 2, 3, 4, 5, 6, 7, 8], kindReach n =
    ⟨decide (6 ≤ n), decide (n = 2 ∨ 7 ≤ n), decide (n = 3 ∨ 7 ≤ n), decide (n = 4 ∨ 7 ≤ n), decide (n = 5 ∨ n = 8), decide (n = 8)⟩ := by
  decide

/-- The write of a kind is that kind's own command. -/
theorem ownOf_resetKind : ∀ n ∈ [1, 2, 3, 4, 5, 6, 7, 8], ownOf 0x7200 0x01 (u8 n) = .resetKind n := by decide

section
variable {s : State} {t : Tenant} {j : Job}

theorem serves_resetKind {c : Instr} {n : Nat} (hn : n ∈ [1, 2, 3, 4, 5, 6, 7, 8]) (hexec : exec c s = done (s.serveOwn t (.resetKind n)))
    (hj : s.Writes t j 0x7200 0x01 (u8 n)) :
    Serves c s (s.askReset (kindReach n) (commandCause j.req.transport) n t.val 0 (some j.id)) t j [] false := by
  have hlt : n < 256 := by simp only [List.mem_cons, List.not_mem_nil, or_false] at hn; omega
  have hact : s.act t j.req.transport j.id 0x7200 0x01 (u8 n) = (s.resetAct t j.req.transport j.id 1 (leNat (u8 n))).only := rfl
  rw [leNat_u8 hlt] at hact
  exact Serves.of_command hj hexec (ownOf_resetKind n hn) (by decide) hact

theorem serves_resetBits {b : Nat} (hb : b < 16) (hj : s.Writes t j 0x7200 0x02 (u8 b)) :
    Serves (.blockResetBitsWrite t) s
      (s.askReset (bitsReach b) (commandCause j.req.transport) (bitsReach b).kind t.val 0 (some j.id)) t j [] false := by
  have hact : s.act t j.req.transport j.id 0x7200 0x02 (u8 b) = (s.resetAct t j.req.transport j.id 2 (leNat (u8 b))).only := rfl
  rw [leNat_u8 (by omega)] at hact
  exact Serves.of_command hj rfl rfl (by decide) hact

end

/-- Settles O19: the eight kinds by Table 19-1, and the block bits. -/
theorem resetRequests : Obligations.ResetRequests := by
  unfold Obligations.ResetRequests
  refine ⟨fun s t j p hp hj => ?_, fun s t j b hb hj => ?_⟩
  · have hn : p.2 ∈ [1, 2, 3, 4, 5, 6, 7, 8] := List.mem_map_of_mem (f := Prod.snd) hp
    have hexec : exec p.1 s = done (s.serveOwn t (.resetKind p.2)) := by
      simp only [List.mem_cons, List.not_mem_nil, or_false] at hp
      obtain rfl | rfl | rfl | rfl | rfl | rfl | rfl | rfl := hp <;> rfl
    refine ⟨_, serves_resetKind hn hexec hj, s.askReset_changes _ _ _ _ _ _, ?_⟩
    rw [← kindReach_eq p.2 hn]
    rfl
  · exact ⟨_, serves_resetBits hb hj, s.askReset_changes _ _ _ _ _ _, rfl, _, rfl, rfl, rfl, rfl⟩

end Sys2Proof.Machine
end

section
/-! PROOFS. The die links (chapter 20): their messages and their states, and the statements `LinkMessages` and `LinkStates`. -/

namespace Sys2Proof.Machine

set_option Elab.async false -- as tasks, the proofs would each hold memory of their own until the end of the text

/-! ### A link's record and objects -/

theorem State.setLink_changes (s : State) (d : Die) (f : Link → Link) : Changes [.links] [] s (s.setLink d f) := by
  refine ⟨rfl, fun p hp => ?_, fun _ _ => rfl⟩
  cases p
  case links => exact absurd (List.mem_singleton_self _) hp
  all_goals rfl

@[simp] theorem State.setLink_links (s : State) (d : Die) (f : Link → Link) : (s.setLink d f).links[d.link]'d.link.isLt = f (s.links[d.link]'d.link.isLt) :=
  Vector.getElem_set_self _

theorem State.setLink_congr {s : State} {d : Die} {f g : Link → Link} (h : f (s.links[d.link]'d.link.isLt) = g (s.links[d.link]'d.link.isLt)) :
    s.setLink d f = s.setLink d g := by
  unfold State.setLink
  rw [h]

theorem State.cancelPair_changes (s : State) (a b : Timer) : Changes [.timers] [] s ((s.cancel a).cancel b) :=
  ((s.cancel_changes a).trans (State.cancel_changes _ b)).mono (by simp) (by simp)

theorem State.linkTo_changes (s : State) (d : Die) (n : Nat) : Changes [.faults] [ob d.index 0x01] s (s.linkTo d n) := by
  refine Changes.ite ((s.wr_changes _ _).mono (by simp) (by simp)) ?_
  exact ((s.wr_changes _ _).trans (State.causeEnd_changes _ _)).mono (by simp) (by simp)

theorem State.rd_linkTo (s : State) (d : Die) (n : Nat) : (s.linkTo d n).rd (ob d.index 0x01) = n := by
  unfold State.linkTo
  by_cases h : n = 3
  · simp [h]
  · simp only [if_neg h]
    exact State.rd_wr_self s _ _

theorem State.linkTo_timers (s : State) (d : Die) (n : Nat) : (s.linkTo d n).timers = s.timers :=
  (s.linkTo_changes d n).same (p := .timers) (by simp)

theorem State.linkTimers_alive (s : State) (d : Die) : (s.linkTimers d).isArmed (.alive d) = false :=
  State.cancel_isArmed_of (s.cancel_isArmed _)

theorem State.linkStarting_changes (s : State) (d : Die) : Changes [.timers, .faults] [ob d.index 0x01] s (s.linkStarting d) :=
  ((s.cancelPair_changes _ _).trans (State.linkTo_changes _ d 1)).mono (by simp) (by simp)

theorem State.linkStarting_isArmed (s : State) (d : Die) :
    (s.linkStarting d).isArmed (.alive d) = false ∧ (s.linkStarting d).isArmed (.resync d) = false :=
  ⟨(State.isArmed_congr (State.linkTo_timers _ _ _) _).trans (s.linkTimers_alive d),
    (State.isArmed_congr (State.linkTo_timers _ _ _) _).trans (State.cancel_isArmed _ _)⟩

theorem dict_bits_link : ∀ d : Die, Dict.bits (ob d.index 0x06) = 32 ∧ Dict.bits (ob d.index 0x07) = 32 ∧ Dict.bits (ob d.index 0x09) = 32 := by
  intro d
  cases d <;> decide

theorem die_index_ne (d : Die) : d.index ≠ 0x7500 ∧ d.index ≠ 0x1020 ∧ d.index ≠ 0x1100 := by cases d <;> decide

theorem State.listens_of {s : State} (h : s.rst.conductor ≠ .held) : s.listens = true := bne_iff_ne.2 h

/-! ### Messages (R536 to R539) -/

theorem malformed_eq_false {d : Die} {h : LinkHead} {b : Octets} (hd : h.die = d.code) (hl : 4 * h.length = b.length) :
    malformed d h b = false := by simp [malformed, hd, hl]

theorem State.freeTag_links (s : State) (d : Die) (tag : Nat) :
    ((s.freeTag d tag).links[d.link]'d.link.isLt).tags = (s.links[d.link]'d.link.isLt).tags.filter (fun x => x != tag) ++
        (if (s.links[d.link]'d.link.isLt).waiting.isEmpty then [] else [tag]) ∧
      ((s.freeTag d tag).links[d.link]'d.link.isLt).waiting = (s.links[d.link]'d.link.isLt).waiting.tail := by
  unfold State.freeTag
  rw [State.setLink_links]
  cases hw : (s.links[d.link]'d.link.isLt).waiting with
  | nil => simp
  | cons a w => simp

section
variable {s : State} {d : Die} {w : Nat} {b : Octets} (hc : s.rst.conductor ≠ .held)
include hc

theorem ends_linkRequest (hs : s.linkState d = 2) (hk : (parseHead w).kind = 0) (hd : (parseHead w).die = d.code)
    (hl : 4 * (parseHead w).length = b.length) : Ends (.linkRequest d w b) s
      (s.setLink d (fun l => if l.tags.contains (parseHead w).tag then { l with waiting := l.waiting ++ [w] }
        else { l with tags := l.tags ++ [(parseHead w).tag] })) := by
  have hready : s.linkReady d = true := beq_iff_eq.2 hs
  change execLinkRequest d w b s = _
  unfold execLinkRequest
  simp only [hk, State.listens_of hc, hready, malformed_eq_false hd hl]
  refine (if_neg (by simp)).trans ((if_neg (by simp)).trans ?_)
  by_cases ht : (s.links[d.link]'d.link.isLt).tags.contains (parseHead w).tag = true
  · exact (if_pos ht).trans (congrArg done (State.setLink_congr (if_pos ht).symm))
  · exact (if_neg ht).trans (congrArg done (State.setLink_congr (if_neg ht).symm))

section
variable (hto : (parseHead w).toEp = s.rd (ob 0x7500 0x01)) (hfrom : (parseHead w).fromEp = s.rd (ob d.index 0x02))
include hto hfrom

theorem ends_linkReply (hk : (parseHead w).kind = 1) (hd : (parseHead w).die = d.code) (hl : 4 * (parseHead w).length = b.length)
    (htag : (parseHead w).tag ∈ (s.links[d.link]'d.link.isLt).tags) : Ends (.linkReply d w b) s (s.freeTag d (parseHead w).tag) := by
  refine (if_neg (by simp [hk, State.listens_of hc])).trans ((if_pos ⟨hto, hfrom⟩).trans (if_neg ?_))
  rw [malformed_eq_false hd hl, List.contains_iff_mem.2 htag]
  decide

theorem ends_linkReply_of_broken (hk : (parseHead w).kind = 1)
    (hbad : ¬((parseHead w).die = d.code ∧ 4 * (parseHead w).length = b.length ∧ (parseHead w).tag ∈ (s.links[d.link]'d.link.isLt).tags))
    (hs : s.linkState d = 1 ∨ s.linkState d = 2) : Ends (.linkReply d w b) s (s.linkFailed d) := by
  refine (if_neg (by simp [hk, State.listens_of hc])).trans ((if_pos ⟨hto, hfrom⟩).trans ((if_pos ?_).trans ?_))
  · simp only [malformed, Bool.or_eq_true, bne_iff_ne, Bool.not_eq_true', List.contains_eq_mem, decide_eq_false_iff_not]
    tauto
  · exact congrArg done (if_pos hs)

theorem ends_linkNotify (hk : (parseHead w).kind = 2) (hd : (parseHead w).die = d.code) (hl : 4 * (parseHead w).length = b.length) :
    Ends (.linkNotify d w b) s s := by
  refine (if_neg (by simp [hk, State.listens_of hc])).trans ((if_pos ⟨hto, hfrom⟩).trans (if_neg ?_))
  simp [malformed_eq_false hd hl]

end

theorem ends_linkReject (hk : (parseHead w).kind = 3) (hto : (parseHead w).toEp = s.rd (ob 0x7500 0x01)) (hd : (parseHead w).die = d.code)
    (hl : (parseHead w).length = 0) (htag : (parseHead w).tag ∈ (s.links[d.link]'d.link.isLt).tags) :
    Ends (.linkReject d w) s ((s.freeTag d (parseHead w).tag).inc (ob d.index 0x07)) := by
  refine (if_neg (by simp [hk, State.listens_of hc])).trans ((if_pos ⟨hto, by simpa using htag⟩).trans (if_neg ?_))
  have hm := malformed_eq_false (b := []) hd (by simp [hl])
  simp [hm]

theorem ends_stale {c : Instr} (hcmd : (c = .linkReply d w b ∧ (parseHead w).kind = 1) ∨ (c = .linkNotify d w b ∧ (parseHead w).kind = 2))
    (hep : (parseHead w).toEp ≠ s.rd (ob 0x7500 0x01) ∨ (parseHead w).fromEp ≠ s.rd (ob d.index 0x02)) :
    Ends c s (s.staleMessage d w) := by
  have hne : ¬((parseHead w).toEp = s.epoch ∧ (parseHead w).fromEp = s.dieEpoch d) := fun h => hep.elim (· h.1) (· h.2)
  obtain ⟨rfl, hk⟩ | ⟨rfl, hk⟩ := hcmd
  all_goals exact (if_neg (by simp [hk, State.listens_of hc])).trans (if_neg hne)

end

/-- Settles O24, message by message. -/
theorem linkMessages : Obligations.LinkMessages := by
  unfold Obligations.LinkMessages
  refine ⟨?request, ?reply, ?reject, ?stale, ?notify, ?broken⟩
  case request =>
    exact fun s d w b hc hs hk hd hl => ⟨_, ends_linkRequest hc hs hk hd hl, s.setLink_changes _ _, s.setLink_links _ _⟩
  case reply =>
    exact fun s d w b hc hk hto hfrom hd hl htag =>
      ⟨_, ends_linkReply hc hto hfrom hk hd hl htag, s.setLink_changes _ _, s.freeTag_links _ _⟩
  case reject =>
    intro s d w hc hk hto hd hl htag hn
    have hinc : ((s.freeTag d (parseHead w).tag).inc (ob d.index 0x07)).links = (s.freeTag d (parseHead w).tag).links :=
      (State.inc_changes _ _).same (p := .links) (by simp)
    refine ⟨_, ends_linkReject hc hk hto hd hl htag,
      ((s.setLink_changes _ _).trans (State.inc_changes _ _)).mono (by simp) (by simp), ?_, ?_⟩
    · refine State.rd_inc_self _ _ ?_
      rw [(dict_bits_link d).2.1]
      exact hn
    · rw [hinc]
      exact (s.freeTag_links _ _).1
  case stale =>
    intro s d w b c hc hcmd hep
    refine ⟨_, ends_stale hc hcmd hep, ((s.inc_changes _).trans (State.wr_changes _ _ _)).mono (by simp) (by simp),
      State.rd_wr_self _ _ _, fun hn => ?_⟩
    refine (State.rd_wr_other _ _ (by simp)).trans (State.rd_inc_self _ _ ?_)
    rw [(dict_bits_link d).1]
    exact hn
  case notify => exact fun s d w b hc hk hto hfrom hd hl => ends_linkNotify hc hto hfrom hk hd hl
  case broken => exact fun s d w b hc hk hto hfrom hbad hs => ends_linkReply_of_broken hc hto hfrom hk hbad hs

/-! ### Failure (R547) -/

theorem State.withFree_changes (s : State) (n : Nat) : Changes [.free] [] s { s with free := n } := by
  refine ⟨rfl, fun p hp => ?_, fun _ _ => rfl⟩
  cases p
  case free => exact absurd (List.mem_singleton_self _) hp
  all_goals rfl

/-- The number of requests outstanding on a link. -/
def State.outstanding (s : State) (d : Die) : Nat := (s.links[d.link]'d.link.isLt).tags.length + (s.links[d.link]'d.link.isLt).waiting.length

/-- A link's outstanding requests counted and given up. -/
def State.retired (s : State) (d : Die) : State :=
  (s.add (ob d.index 0x05) (s.outstanding d)).setLink d (fun l => { l with tags := [], waiting := [] })

theorem State.retired_changes (s : State) (d : Die) : Changes [.links] [ob d.index 0x05] s (s.retired d) :=
  ((s.add_changes _ _).trans (State.setLink_changes _ _ _)).mono (by simp) (by simp)

/-- The time that the retired requests took, recorded with its greatest. -/
def State.retireTimed (s : State) (d : Die) (n : Nat) : State :=
  (s.wr (ob d.index 0x0A) n).wr (ob d.index 0x0B) (max n (s.rd (ob d.index 0x0B)))

theorem State.retireTimed_changes (s : State) (d : Die) (n : Nat) :
    Changes [] [ob d.index 0x0A, ob d.index 0x0B] s (s.retireTimed d n) :=
  ((s.wr_changes _ _).trans (State.wr_changes _ _ _)).mono (by simp) (by simp)

/-- The time of a retirement, which is free where something was outstanding. -/
def State.retireTime (s : State) (d : Die) : Nat × State := if s.outstanding d = 0 then (0, s.retired d) else (s.retired d).free1 65536

theorem State.retire_eq (s : State) (d : Die) : s.retire d = (s.retireTime d).2.retireTimed d (s.retireTime d).1 := rfl

theorem State.retireTime_changes (s : State) (d : Die) : Changes [.free] [] (s.retired d) (s.retireTime d).2 := by
  unfold State.retireTime
  split
  · exact (Changes.refl _).mono (by simp) (by simp)
  · exact State.withFree_changes _ _

theorem State.retire_only (s : State) (d : Die) : Changes [.free] [ob d.index 0x0A, ob d.index 0x0B] (s.retired d) (s.retire d) :=
  ((s.retireTime_changes d).trans (State.retireTimed_changes _ _ _)).mono (by simp) (by simp)

theorem State.retire_changes (s : State) (d : Die) :
    Changes [.links, .free] [ob d.index 0x05, ob d.index 0x0A, ob d.index 0x0B] s (s.retire d) :=
  ((s.retired_changes d).trans (s.retire_only d)).mono (by simp) (by simp)

theorem State.retire_links (s : State) (d : Die) :
    (s.retire d).links[d.link]'d.link.isLt = { s.links[d.link]'d.link.isLt with tags := [], waiting := [] } := by
  have h : (s.retire d).links = (s.retired d).links := (s.retire_only d).same (p := .links) (by simp)
  have ha : (s.add (ob d.index 0x05) (s.outstanding d)).links = s.links := (s.add_changes _ _).same (p := .links) (by simp)
  rw [h, State.retired, State.setLink_links, ha]

/-- The mirrored epoch of a die one on, with the window of the field die dropped. -/
def State.epochNext (s : State) (d : Die) : State :=
  let s := s.wr (ob d.index 0x02) (nextEpoch (s.rd (ob d.index 0x02)))
  if d = .field then s.dropWindow else s

theorem State.epochNext_changes (s : State) (d : Die) : Changes [.time] [ob d.index 0x02] s (s.epochNext d) :=
  Changes.ite (((s.wr_changes _ _).trans (State.dropWindow_changes _)).mono (by simp) (by simp))
    ((s.wr_changes _ _).mono (by simp) (by simp))

theorem State.rd_epochNext (s : State) (d : Die) : (s.epochNext d).rd (ob d.index 0x02) = nextEpoch (s.rd (ob d.index 0x02)) := by
  unfold State.epochNext
  split
  · exact ((State.dropWindow_changes _).rd (by simp)).trans (State.rd_wr_self _ _ _)
  · exact State.rd_wr_self _ _ _

theorem State.newEpoch_eq (s : State) (d : Die) : s.newEpoch d = (s.epochNext d).retire d := rfl

theorem State.newEpoch_changes (s : State) (d : Die) : Changes [.links, .time, .free]
    [ob d.index 0x02, ob d.index 0x05, ob d.index 0x0A, ob d.index 0x0B] s (s.newEpoch d) :=
  ((s.epochNext_changes d).trans (State.retire_changes _ d)).mono (by simp) (by simp)

theorem State.rd_newEpoch (s : State) (d : Die) : (s.newEpoch d).rd (ob d.index 0x02) = nextEpoch (s.rd (ob d.index 0x02)) :=
  ((State.retire_changes _ d).rd (by simp)).trans (s.rd_epochNext d)

theorem State.newEpoch_links (s : State) (d : Die) :
    (s.newEpoch d).links[d.link]'d.link.isLt = { s.links[d.link]'d.link.isLt with tags := [], waiting := [] } := by
  have h : (s.epochNext d).links = s.links := (s.epochNext_changes d).same (p := .links) (by simp)
  rw [State.newEpoch_eq, State.retire_links, h]

theorem State.linkTo_failed (s : State) (d : Die) : s.linkTo d 3 = s.wr (ob d.index 0x01) 3 := by
  simp only [State.linkTo, if_true]

theorem State.linkCut_changes (s : State) (d : Die) : Changes [.timers, .links, .time, .free]
    [ob d.index 0x01, ob d.index 0x02, ob d.index 0x05, ob d.index 0x0A, ob d.index 0x0B] s (s.linkCut d) := by
  unfold State.linkCut
  rw [State.linkTo_failed]
  exact (((s.cancelPair_changes _ _).trans (State.wr_changes _ _ _)).trans (State.newEpoch_changes _ d)).mono (by simp) (by simp)

theorem State.linkCut_state (s : State) (d : Die) : (s.linkCut d).rd (ob d.index 0x01) = 3 :=
  ((State.newEpoch_changes _ d).rd (by simp)).trans (State.rd_linkTo _ d 3)

theorem State.linkCut_epoch (s : State) (d : Die) : (s.linkCut d).rd (ob d.index 0x02) = nextEpoch (s.rd (ob d.index 0x02)) := by
  refine (State.rd_newEpoch _ d).trans (congrArg nextEpoch ?_)
  exact ((State.linkTo_changes _ d 3).rd (by simp)).trans ((s.cancelPair_changes _ _).rd (by simp))

theorem State.linkCut_links (s : State) (d : Die) : ((s.linkCut d).links[d.link]'d.link.isLt).tags = [] ∧ ((s.linkCut d).links[d.link]'d.link.isLt).waiting = [] := by
  unfold State.linkCut
  rw [State.newEpoch_links]
  exact ⟨rfl, rfl⟩

theorem State.linkCut_alive (s : State) (d : Die) : (s.linkCut d).isArmed (.alive d) = false := by
  have h : (s.linkCut d).timers = (s.linkTimers d).timers :=
    ((State.newEpoch_changes _ d).same (p := .timers) (by simp)).trans (State.linkTo_timers _ d 3)
  exact (State.isArmed_congr h _).trans (s.linkTimers_alive d)

/-! ### Readiness and recovery (R542 to R544, R548) -/

section
variable {s : State} {d : Die}

theorem ends_alive (hc : s.rst.conductor ≠ .held) (hup : (s.links[d.link]'d.link.isLt).up = true) (hs : s.linkState d ≠ 2) :
    Ends (.alive d (s.rd (ob d.index 0x02))) s
      (if (s.links[d.link]'d.link.isLt).reload then s.linkStarting d else (s.linkStarting d).reloadDie d) := by
  have hl : (s.linkStarting d).links = s.links := (s.linkStarting_changes d).same (p := .links) (by simp)
  refine (if_neg (by rw [State.listens_of hc, hup]; decide)).trans ((if_pos rfl).trans ((if_neg hs).trans ?_))
  change done (if ((s.linkStarting d).links[d.link]'d.link.isLt).reload = true then _ else _) = _
  rw [hl]
  rfl

theorem ends_alive_of_ready (hs : s.linkState d = 2) : Ends (.alive d (s.rd (ob d.index 0x02))) s s := by
  by_cases h : s.listens = false ∨ (s.links[d.link]'d.link.isLt).up = false
  · exact if_pos h
  · exact (if_neg h).trans ((if_pos rfl).trans (if_pos hs))

/-- A link READY, with its instant. -/
def State.linkReadied (s : State) (d : Die) : State :=
  ((s.linkTo d 2).setLink d (fun l => { l with reload := false })).wr (ob d.index 0x03) s.now

theorem State.linkReadied_changes (s : State) (d : Die) :
    Changes [.links, .faults] [ob d.index 0x01, ob d.index 0x03] s (s.linkReadied d) :=
  (((s.linkTo_changes d 2).trans (State.setLink_changes _ _ _)).trans (State.wr_changes _ _ _)).mono (by simp) (by simp)

theorem State.linkReadied_state (s : State) (d : Die) : (s.linkReadied d).rd (ob d.index 0x01) = 2 :=
  (State.rd_wr_other _ _ (by simp)).trans (s.rd_linkTo d 2)

theorem State.linkReadied_instant (s : State) (d : Die) : (s.linkReadied d).rd (ob d.index 0x03) = s.now := State.rd_wr_self _ _ _

theorem State.linkReadied_links (s : State) (d : Die) :
    (s.linkReadied d).links[d.link]'d.link.isLt = { s.links[d.link]'d.link.isLt with reload := false } := by
  have h : (s.linkTo d 2).links = s.links := (s.linkTo_changes d 2).same (p := .links) (by simp)
  refine (State.setLink_links (s.linkTo d 2) d (fun l => { l with reload := false })).trans ?_
  rw [h]

theorem exec_linkStartWorkDone (hs : s.linkState d = 1) (hr : (s.links[d.link]'d.link.isLt).reload = true) (hw : s.startWorkDone d = true)
    (hc : s.rst.conductor ≠ .held) : exec (.linkStartWorkDone d) s =
      .next (((s.linkReadied d).raise (1231 + d.code) tenants (u8 d.code ++ u8 (s.rd (ob d.index 0x02)))).linkUp d).settle := by
  have h : (s.linkReadied d).rd (ob d.index 0x02) = s.rd (ob d.index 0x02) := (s.linkReadied_changes d).rd (by simp)
  have hx : exec (.linkStartWorkDone d) s = .next
      (((s.linkReadied d).raise (1231 + d.code) tenants (u8 d.code ++ u8 ((s.linkReadied d).rd (ob d.index 0x02)))).linkUp d).settle := by
    exact if_pos ⟨hs, hr, hw, State.listens_of hc⟩
  rwa [h] at hx

theorem exec_linkLoss {c : Instr} (hc : s.rst.conductor ≠ .held) (hcmd : (c = .aliveTimeout d ∧ s.isDue (.alive d) = true) ∨
    (c = .linkWordTimeout d ∧ (s.linkState d = 1 ∨ s.linkState d = 2))) : exec c s = .next ((s.linkCut d).linkReport d).settle := by
  obtain ⟨rfl, hdue⟩ | ⟨rfl, hs⟩ := hcmd
  · exact congrArg done (if_pos (by rw [hdue, State.listens_of hc]; rfl))
  · exact congrArg done ((if_pos (State.listens_of hc)).trans (if_pos hs))

theorem ends_resyncInterval (hs : s.linkState d = 3) (hdue : s.isDue (.resync d) = true) : Ends (.resyncInterval d) s
    ((s.inc (ob d.index 0x09)).armIn (.resync d) (s.rd (ob 0x7500 0x03))) := if_pos ⟨hs, hdue⟩

end

/-- Settles O25, clause by clause: ALIVE, readiness, failure and recovery. -/
theorem linkStates : Obligations.LinkStates := by
  unfold Obligations.LinkStates
  refine ⟨?alive, fun s d hs => ends_alive_of_ready hs, ?ready, ?loss, ?interval, ?resync⟩
  case alive =>
    exact fun s d hc hup hs => ⟨_, s.linkStarting_changes d, State.rd_linkTo _ d 1, (s.linkStarting_isArmed d).1,
      (s.linkStarting_isArmed d).2, ends_alive hc hup hs⟩
  case ready =>
    exact fun s d hs hr hw hc => ⟨_, s.linkReadied_changes d, s.linkReadied_state d, s.linkReadied_instant d, s.linkReadied_links d,
      exec_linkStartWorkDone hs hr hw hc⟩
  case loss =>
    exact fun s d c hc hcmd => ⟨_, exec_linkLoss hc hcmd, s.linkCut_changes d, s.linkCut_state d, s.linkCut_epoch d,
      (s.linkCut_links d).1, (s.linkCut_links d).2, s.linkCut_alive d⟩
  case interval =>
    intro s d hs hdue hn
    obtain ⟨-, h1, h2⟩ := (die_index_ne d)
    refine ⟨_, ends_resyncInterval hs hdue, ((s.inc_changes _).trans (State.armIn_changes _ _ _)).mono (by simp) (by simp), ?_, ?_⟩
    · refine State.rd_inc_self _ _ ?_
      rw [(dict_bits_link d).2.2]
      exact hn
    · exact State.armIn_dueAt ((s.inc_changes _).now (by simp) (by simp [h1.symm]) (by simp [h2.symm])) _ _
  case resync =>
    intro s d e hup
    refine ⟨s.setLink d (fun l => { l with epoch := e % 256 }), s.setLink_changes d _, s.setLink_links d _, (if_pos hup).trans ?_⟩
    rfl

end Sys2Proof.Machine
end

section
/-! PROOFS. The event queues (chapter 17): what an offered event does to its tenant's mailbox, and the statement `EventQueueing`. -/

namespace Sys2Proof.Machine

set_option Elab.async false -- as tasks, the proofs would each hold memory of their own until the end of the text

/-! ### A mailbox -/

/-- What a number, where there is one, and the mailbox that has given it make of an event put at the tail. -/
def Mailbox.tailed (n : Option Nat) (b : Mailbox) (e stamp : Nat) (data : Octets) (routes : Nat) : Mailbox :=
  { b with
    queued := b.queued + 1
    queue := b.queue ++ (if routes = 0 then [] else
      [{ seq := n, event := e, stamp := stamp, data := data, routes := routes, touched := false }]) }

/-- As an equation of functions: the kernel then need not evaluate the number to see it. -/
theorem Mailbox.append_fun : Mailbox.append = fun b e stamp data routes => (match b.number with
    | (n, c) =>
      let c := { c with queued := c.queued + 1 }
      if routes = 0 then c
      else { c with queue := c.queue ++ [{ seq := n, event := e, stamp := stamp, data := data, routes := routes, touched := false }] }) := rfl

theorem Mailbox.append_of_number {b c : Mailbox} {n : Option Nat} (h : b.number = (n, c)) (e stamp : Nat) (data : Octets) (routes : Nat) :
    b.append e stamp data routes = c.tailed n e stamp data routes := by
  rw [Mailbox.append_fun]
  beta_reduce
  rw [h]
  unfold Mailbox.tailed
  by_cases hr : routes = 0
  · rw [if_pos hr, List.append_nil]
    exact if_pos hr
  · rw [if_neg hr]
    exact if_neg hr

/-- The number that a mailbox gives, and what it leaves. -/
theorem Mailbox.number_eq (b : Mailbox) : b.number = (if b.left = 0 then none else some b.nextSeq,
    { b with nextSeq := if b.left = 0 then b.nextSeq else (b.nextSeq + 1) % 65536 }) := by
  unfold Mailbox.number
  split <;> rfl

section
variable (b : Mailbox) (e stamp : Nat) (data : Octets) (routes : Nat)

theorem Mailbox.append_eq : b.append e stamp data routes =
    ({ b with nextSeq := if b.left = 0 then b.nextSeq else (b.nextSeq + 1) % 65536 } : Mailbox).tailed
      (if b.left = 0 then none else some b.nextSeq) e stamp data routes := Mailbox.append_of_number b.number_eq e stamp data routes

theorem Mailbox.append_nextSeq :
    (b.append e stamp data routes).nextSeq = if b.left = 0 then b.nextSeq else (b.nextSeq + 1) % 65536 :=
  congrArg Mailbox.nextSeq (b.append_eq e stamp data routes)

theorem Mailbox.append_queue : (b.append e stamp data routes).queue = b.queue ++ (if routes = 0 then [] else
    [{ seq := if b.left = 0 then none else some b.nextSeq, event := e, stamp := stamp, data := data, routes := routes, touched := false }]) :=
  congrArg Mailbox.queue (b.append_eq e stamp data routes)

theorem Mailbox.append_counts : (b.append e stamp data routes).queued = b.queued + 1 ∧ (b.append e stamp data routes).lost = b.lost ∧
    (b.append e stamp data routes).marker = b.marker := by
  rw [b.append_eq]
  exact ⟨rfl, rfl, rfl⟩

end

theorem Mailbox.lose_marker_of_none {b : Mailbox} (h : b.marker = none) (e stamp : Nat) :
    (b.lose e stamp).marker = some { first := e, since := stamp, count := 1, last := stamp } := by
  simp only [Mailbox.lose, h]

theorem Mailbox.lose_marker_of_some {b : Mailbox} {m : Marker} (h : b.marker = some m) (e stamp : Nat) :
    (b.lose e stamp).marker = some { m with count := if m.count < 0xFFFF then m.count + 1 else m.count, last := stamp } := by
  simp only [Mailbox.lose, h]
  rfl

/-! ### What an offered event does -/

/-- An entry of the queue, with a new stamp and new data where it is an untouched one of the event. -/
def replaced (e st : Nat) (d : Octets) (q : QEvent) : QEvent := if q.event == e && !q.touched then { q with stamp := st, data := d } else q

section
variable {s : State} {t : Tenant} {e : Nat} (st : Nat) (d : Octets)

theorem State.offer_of_masked (h : s.eventBit t 0x01 e = true) :
    s.offer t e st d = ({ s.router.boxes[t]'t.isLt with masked := (s.router.boxes[t]'t.isLt).masked + 1 }, false) := if_pos h

variable (hm : s.eventBit t 0x01 e = false)
include hm

theorem State.offer_of_coalesced (hc : s.eventBit t 0x02 e = true) (hq : ∃ q ∈ (s.router.boxes[t]'t.isLt).queue, q.event = e ∧ q.touched = false) :
    s.offer t e st d = ({ s.router.boxes[t]'t.isLt with
      coalesced := (s.router.boxes[t]'t.isLt).coalesced + 1, queue := (s.router.boxes[t]'t.isLt).queue.map (replaced e st d) }, true) := by
  have hany : (s.router.boxes[t]'t.isLt).queue.any (fun q => q.event == e && !q.touched) = true := by
    obtain ⟨q, hmem, he, ht⟩ := hq
    exact List.any_eq_true.2 ⟨q, hmem, by simp [he, ht]⟩
  refine (if_neg (by simp [hm])).trans (if_pos ?_)
  rw [hc, hany]
  rfl

variable (hc : s.eventBit t 0x02 e = false)
include hc

theorem State.offer_of_room (hlen : (s.router.boxes[t]'t.isLt).queue.length < 64) :
    s.offer t e st d = ((s.router.boxes[t]'t.isLt).append e st d (s.routes t), true) :=
  (if_neg (by simp [hm])).trans ((if_neg (by simp [hc])).trans (if_neg (by exact not_le.2 hlen)))

theorem State.offer_of_newest (hlen : 64 ≤ (s.router.boxes[t]'t.isLt).queue.length) (hp : s.rd (obT 0x7400 0x03 t) ≠ 1) :
    s.offer t e st d = ((s.router.boxes[t]'t.isLt).lose e st, false) :=
  (if_neg (by simp [hm])).trans ((if_neg (by simp [hc])).trans ((if_pos hlen).trans (if_neg hp)))

theorem State.offer_of_oldest {q : QEvent} {l : List QEvent} (hq : (s.router.boxes[t]'t.isLt).queue = q :: l) (hlen : 63 ≤ l.length)
    (hp : s.rd (obT 0x7400 0x03 t) = 1) : s.offer t e st d =
      (({ s.router.boxes[t]'t.isLt with queue := l }.lose q.event q.stamp).append e st d (s.routes t), true) := by
  unfold State.offer
  simp only [hm, hc, hq, hp]
  refine (if_neg (by simp)).trans ((if_neg (by simp)).trans ((if_pos ?_).trans (if_pos trivial)))
  simpa using hlen

end

theorem replaced_seq (e st : Nat) (d : Octets) (q : QEvent) : (replaced e st d q).seq = q.seq := by
  unfold replaced
  split <;> rfl

theorem stamp_of_mem_replaced {e st : Nat} {d : Octets} {l : List QEvent} {q : QEvent} (hq : q ∈ l.map (replaced e st d))
    (he : q.event = e) (ht : q.touched = false) : q.stamp = st ∧ q.data = d := by
  obtain ⟨p, -, rfl⟩ := List.mem_map.1 hq
  unfold replaced at he ht ⊢
  split at he
  · next h => simp [h]
  · next h => simp_all

/-! ### The statement -/

/-- Settles O9, case by case from what an offered event does to the mailbox. -/
theorem eventQueueing : Obligations.EventQueueing := by
  unfold Obligations.EventQueueing
  refine ⟨?masked, ?coalesced, ?room, ?newest, ?oldest, ?held⟩
  case masked =>
    intro s t e st d h
    rw [State.offer_of_masked st d h]
    exact ⟨rfl, rfl⟩
  case coalesced =>
    intro s t e st d hm hc hq
    rw [State.offer_of_coalesced st d hm hc hq]
    refine ⟨rfl, rfl, rfl, ?_, fun q hmem he ht => stamp_of_mem_replaced hmem he ht⟩
    simp [replaced_seq]
  case room =>
    intro s t e st d hm hc hlen
    rw [State.offer_of_room st d hm hc hlen]
    exact ⟨rfl, (Mailbox.append_counts _ _ _ _ _).1, Mailbox.append_queue _ _ _ _ _, Mailbox.append_nextSeq _ _ _ _ _⟩
  case newest =>
    intro s t e st d hm hc hlen hp
    rw [State.offer_of_newest st d hm hc hlen hp]
    exact ⟨rfl, rfl, rfl, rfl, fun h => Mailbox.lose_marker_of_none h e st, fun m h => Mailbox.lose_marker_of_some h e st⟩
  case oldest =>
    intro s t e st d q l hm hc hq hlen hp hr
    rw [State.offer_of_oldest st d hm hc hq hlen hp]
    obtain ⟨-, hlost, hmark⟩ := Mailbox.append_counts ({ s.router.boxes[t]'t.isLt with queue := l }.lose q.event q.stamp) e st d (s.routes t)
    have hqueue := Mailbox.append_queue ({ s.router.boxes[t]'t.isLt with queue := l }.lose q.event q.stamp) e st d (s.routes t)
    rw [if_neg (show ¬ s.routes t = 0 from hr)] at hqueue
    refine ⟨rfl, hlost, ?_, ?_, fun h => hmark.trans (Mailbox.lose_marker_of_none h _ _)⟩
    · rw [hqueue]
      exact List.dropLast_concat
    · rw [hqueue, List.getLast?_concat]
      rfl
  case held =>
    intro s e l d hup
    have hraise : s.raise e l d = { s with router := { s.router with
        held := s.router.held ++ [{ event := e, dests := tenants.filter (fun t => l.contains t && s.active t), data := d, stamp := s.now }] } } :=
      if_neg (by simp [hup])
    rw [hraise]
    refine ⟨⟨rfl, fun p hp => ?_, fun _ _ => rfl⟩, rfl⟩
    cases p
    case router => exact absurd (List.mem_singleton_self _) hp
    all_goals rfl

end Sys2Proof.Machine
end

section
/-! PROOFS. Starting and stopping a metronome (R458), and the statement `MetronomeCommands`. -/

namespace Sys2Proof.Machine

set_option Elab.async false -- as tasks, the proofs would each hold memory of their own until the end of the text

/-! ### A metronome's objects -/

theorem dict_row_metroCommand : ∀ m : MetroId, (Dict.row? (0x8000 + m.val) 0x0E).map Row.acc = some .wo := by decide

theorem ownOf_metroCommand : ∀ m : MetroId, ownOf (0x8000 + m.val) 0x0E [1] = .metroCommand 1 ∧
    ownOf (0x8000 + m.val) 0x0E [2] = .metroCommand 2 ∧ ownOf (0x8000 + m.val) 0x0E [3] = .metroCommand 3 := by decide

theorem metroOf_index (m : MetroId) : metroOf (0x8000 + m.val) = m := by
  ext
  simp [metroOf, Nat.add_mod, Nat.mod_eq_of_lt m.isLt]

/-- A write to a metronome's command object first lets what is due happen. -/
theorem State.act_metroCommand (s : State) (t : Tenant) (tr : Transport) (id : Nat) (m : MetroId) (v : Octets) :
    s.act t tr id (0x8000 + m.val) 0x0E v = ((s.metroCaught m).metroCommand m (leNat v)).only := by
  have hm := m.isLt
  unfold State.act
  simp only [metroOf_index]
  repeat rw [if_neg (by omega)]
  rw [if_pos (by omega)]

theorem serves_metroCommand {c : Instr} {s : State} {t : Tenant} {j : Job} {m : MetroId} {v : Octets} {o : Own}
    (hj : s.Writes t j (0x8000 + m.val) 0x0E v) (hexec : exec c s = done (s.serveOwn t o)) (hown : ownOf (0x8000 + m.val) 0x0E v = o) :
    Serves c s ((s.metroCaught m).metroCommand m (leNat v)) t j [] false :=
  Serves.of_command hj hexec hown (dict_row_metroCommand m) (s.act_metroCommand _ _ _ _ _)

/-! ### Starts and stops -/

section
variable (s : State) (m : MetroId)

/-- The objects of a metronome that a start sets. -/
abbrev startKeys (m : MetroId) : List Nat :=
  [ob (0x8000 + m.val) 0x01, ob (0x8000 + m.val) 0x05, ob (0x8000 + m.val) 0x07, ob (0x8000 + m.val) 0x0A]

/-- A metronome ARMED for the instant `si`. -/
def State.metroArmed (si : Nat) : State :=
  (s.wrAll [(ob (0x8000 + m.val) 0x01, 1), (ob (0x8000 + m.val) 0x0A, s.rd (ob (0x8000 + m.val) 0x08))]).setMetro m
    (fun x => { x with armed := si, wrap := none })

theorem State.metroArmed_changes (si : Nat) : Changes [.metros] (startKeys m) s (s.metroArmed m si) :=
  ((s.wrAll_changes _).trans (State.setMetro_changes _ _ _)).mono (by simp) (by simp)

theorem State.metroArmed_metros (si : Nat) : (s.metroArmed m si).metros[m]'m.isLt = { s.metros[m]'m.isLt with armed := si, wrap := none } :=
  State.setMetro_self _ _ _

theorem State.rd_metroArmed (si : Nat) : (s.metroArmed m si).rd (ob (0x8000 + m.val) 0x01) = 1 ∧
    (s.metroArmed m si).rd (ob (0x8000 + m.val) 0x0A) = s.rd (ob (0x8000 + m.val) 0x08) := by
  simp [State.metroArmed, State.rd_wr]

theorem State.metroRun_changes (at_ : Nat) : Changes [.metros] (startKeys m) s (s.metroRun m at_) :=
  ((s.wrAll_changes _).trans (State.setMetro_changes _ _ _)).mono (by simp) (by simp)

theorem State.metroRun_metros (at_ : Nat) : (s.metroRun m at_).metros[m]'m.isLt = { s.metros[m]'m.isLt with
    base := if s.rd (ob (0x8000 + m.val) 0x02) = 2 then 0 else s.rd (ob (0x8000 + m.val) 0x04), since := at_, wrap := none } := by
  refine (State.setMetro_self _ _ _).trans ?_
  simp only [beq_iff_eq]
  rfl

theorem State.rd_metroRun (at_ : Nat) : (s.metroRun m at_).rd (ob (0x8000 + m.val) 0x01) = 2 ∧
    (s.metroRun m at_).rd (ob (0x8000 + m.val) 0x05) = s.rd (ob (0x8000 + m.val) 0x04) ∧
    (s.metroRun m at_).rd (ob (0x8000 + m.val) 0x07) = (if s.rd (ob (0x8000 + m.val) 0x02) = 2 then 1 else 0) ∧
    (s.metroRun m at_).rd (ob (0x8000 + m.val) 0x0A) = s.rd (ob (0x8000 + m.val) 0x08) := by
  simp [State.metroRun, State.rd_wr]

theorem State.other_metros {u : State} {f : Metro → Metro} (h : u.metros = s.metros) :
    ∀ n : MetroId, n ≠ m → (u.setMetro m f).metros[n]'n.isLt = s.metros[n]'n.isLt :=
  fun n hn => (State.setMetro_other u m n f hn).trans (congrArg (fun v : Vector Metro 16 => v[n]) h)

theorem State.metroArmed_others (si : Nat) : ∀ n : MetroId, n ≠ m → (s.metroArmed m si).metros[n]'n.isLt = s.metros[n]'n.isLt :=
  s.other_metros m ((s.wrAll_changes _).same (p := .metros) (by simp))

theorem State.metroRun_others (at_ : Nat) : ∀ n : MetroId, n ≠ m → (s.metroRun m at_).metros[n]'n.isLt = s.metros[n]'n.isLt :=
  s.other_metros m ((s.wrAll_changes _).same (p := .metros) (by simp))

variable {s m}

theorem State.metroStart_of_stopped (h : s.rd (ob (0x8000 + m.val) 0x01) = 0) (hb : s.strideBlocks m = false) (w : Nat) :
    s.metroStart m w = if w < s.startInstant m w then s.metroArmed m (s.startInstant m w) else s.metroRun m (s.startInstant m w) :=
  (if_pos h).trans (if_neg (by simp [hb]))

theorem State.metroStart_of_running (h : s.rd (ob (0x8000 + m.val) 0x01) ≠ 0) (w : Nat) : s.metroStart m w = s := if_neg h

theorem State.metroCommand_restart (hb : s.strideBlocks m = false) : s.metroCommand m 3 = s.metroRun m s.now := by
  by_cases hr : s.rd (ob (0x8000 + m.val) 0x01) = 2
  · exact (if_pos hr).trans (if_neg (by simp [hb]))
  · exact (if_neg hr).trans ((if_neg (by simp [hb])).trans (if_neg (by simp)))

end

section
variable (s : State) (m : MetroId) (w : Nat)

/-- A metronome STOPPED where it stands. -/
def State.metroHalted : State :=
  (s.wr (ob (0x8000 + m.val) 0x01) 0).setMetro m (fun x => { x with base := s.metroCount m w, since := w, wrap := none })

theorem State.metroStop_eq : s.metroStop m w = if s.rd (ob (0x8000 + m.val) 0x01) = 0 then s else s.metroHalted m w := rfl

theorem State.metroHalted_changes : Changes [.metros] [ob (0x8000 + m.val) 0x01] s (s.metroHalted m w) :=
  ((s.wr_changes _ _).trans (State.setMetro_changes _ _ _)).mono (by simp) (by simp)

theorem State.metroHalted_metros :
    (s.metroHalted m w).metros[m]'m.isLt = { s.metros[m]'m.isLt with base := s.metroCount m w, since := w, wrap := none } :=
  State.setMetro_self _ _ _

theorem State.metroHalted_others : ∀ n : MetroId, n ≠ m → (s.metroHalted m w).metros[n]'n.isLt = s.metros[n]'n.isLt := s.other_metros m rfl

theorem State.rd_metroHalted : (s.metroHalted m w).rd (ob (0x8000 + m.val) 0x01) = 0 := by simp [State.metroHalted]

end

/-! ### The statement -/

/-- Settles O11, command by command. -/
theorem metronomeCommands : Obligations.MetronomeCommands := by
  unfold Obligations.MetronomeCommands
  refine ⟨?start, ?started, ?restart, ?stop, ?instant⟩
  case start =>
    intro s t j m hj hs hb
    have h := serves_metroCommand hj (c := .metronomeStart t) rfl (ownOf_metroCommand m).1
    have hstart : (s.metroCaught m).metroCommand m (leNat [1]) = _ := State.metroStart_of_stopped hs hb _
    rw [hstart] at h
    by_cases hlt : (s.metroCaught m).now < (s.metroCaught m).startInstant m (s.metroCaught m).now
    · rw [if_pos hlt] at h
      obtain ⟨h1, hA⟩ := (s.metroCaught m).rd_metroArmed m ((s.metroCaught m).startInstant m (s.metroCaught m).now)
      have hm := (s.metroCaught m).metroArmed_metros m ((s.metroCaught m).startInstant m (s.metroCaught m).now)
      exact ⟨_, h, State.metroArmed_changes _ _ _, State.metroArmed_others _ _ _, hA, congrArg Metro.wrap hm,
        (if_pos hlt).mpr ⟨h1, congrArg Metro.armed hm⟩⟩
    · rw [if_neg hlt] at h
      obtain ⟨h1, h5, h7, hA⟩ := (s.metroCaught m).rd_metroRun m ((s.metroCaught m).startInstant m (s.metroCaught m).now)
      have hm := (s.metroCaught m).metroRun_metros m ((s.metroCaught m).startInstant m (s.metroCaught m).now)
      exact ⟨_, h, State.metroRun_changes _ _ _, State.metroRun_others _ _ _, hA, congrArg Metro.wrap hm,
        (if_neg hlt).mpr ⟨h1, h5, congrArg Metro.since hm, h7, congrArg Metro.base hm⟩⟩
  case started =>
    intro s t j m hj hs
    have h := serves_metroCommand hj (c := .metronomeStart t) rfl (ownOf_metroCommand m).1
    rwa [show (s.metroCaught m).metroCommand m (leNat [1]) = _ from State.metroStart_of_running hs _] at h
  case restart =>
    intro s t j m hj hb
    have h := serves_metroCommand hj (c := .metronomeRestart t) rfl (ownOf_metroCommand m).2.2
    rw [show (s.metroCaught m).metroCommand m (leNat [3]) = _ from State.metroCommand_restart hb] at h
    obtain ⟨h1, h5, h7, hA⟩ := (s.metroCaught m).rd_metroRun m (s.metroCaught m).now
    refine ⟨_, h, State.metroRun_changes _ _ _, State.metroRun_others _ _ _, h1, h5, hA, h7, ?_⟩
    rw [State.metroRun_metros]
    exact ⟨rfl, rfl, rfl⟩
  case stop =>
    intro s t j m hj
    have h := serves_metroCommand hj (c := .metronomeStop t) rfl (ownOf_metroCommand m).2.1
    have hstop : (s.metroCaught m).metroCommand m (leNat [2]) = _ := (s.metroCaught m).metroStop_eq m _
    rw [hstop] at h
    by_cases h0 : (s.metroCaught m).rd (ob (0x8000 + m.val) 0x01) = 0
    · rw [if_pos h0] at h
      exact ⟨_, h, (Changes.refl _).mono (by simp) (by simp), fun _ _ => rfl, h0, fun _ => rfl, fun hne => absurd h0 hne⟩
    · rw [if_neg h0] at h
      have hm := State.metroHalted_metros (s.metroCaught m) m (s.metroCaught m).now
      exact ⟨_, h, State.metroHalted_changes _ _ _, State.metroHalted_others _ _ _, State.rd_metroHalted _ _ _, fun e => absurd e h0,
        fun _ => ⟨congrArg Metro.base hm, congrArg Metro.since hm, congrArg Metro.wrap hm⟩⟩
  case instant =>
    intro s m hs hdue
    obtain ⟨h1, h5, -, -⟩ := s.rd_metroRun m (s.metros[m]'m.isLt).armed
    refine ⟨s.metroRun m (s.metros[m]'m.isLt).armed, ?_, State.metroRun_changes _ _ _, h1, h5, ?_⟩
    · have hbegin : s.metroBegin m = some ((s.metroRun m (s.metros[m]'m.isLt).armed).wakeBy 1) := if_pos ⟨hs, hdue⟩
      change done ((s.metroBegin m).getD s) = _
      rw [hbegin]
      rfl
    · rw [State.metroRun_metros]
      exact ⟨rfl, rfl⟩

end Sys2Proof.Machine
end

section
/-! PROOFS. Writes of a metronome's settings (R453 to R457), and the statement `MetronomeSettingWrites`. -/

namespace Sys2Proof.Machine

set_option Elab.async false -- as tasks, the proofs would each hold memory of their own until the end of the text

theorem leNat_u32 {v : Nat} (h : v < 2 ^ 32) : leNat (u32 v) = v := by rw [u32, leNat_leBytes]; omega

/-! ### A setting's write -/

/-- The period buffer, the compare and the stride are persisted numbers of no one tenant. -/
theorem dict_row_metroSetting : ∀ m : MetroId, ∀ n ∈ [0x04, 0x08, 0x09],
    (Dict.row? (0x8000 + m.val) n).map (fun r => (r.acc, r.ty.isOctets, r.per)) = some (.rwp, false, false) := by decide

/-- What a stored setting of a metronome does. -/
def State.metroStore (s : State) (m : MetroId) (sub x : Nat) : State :=
  if sub = 4 then (s.metroCaught m).periodWrite m x else if sub = 8 then (s.metroCaught m).compareWrite m x
  else (s.metroCaught m).wr (ob (0x8000 + m.val) sub) x

section
variable {s : State} {t : Tenant} {m : MetroId} {n : Nat} (hn : n ∈ [0x04, 0x08, 0x09])
include hn

theorem keyFor_metroSetting : keyFor t (0x8000 + m.val) n = ob (0x8000 + m.val) n := by
  obtain ⟨r, hrow, hr⟩ := Option.map_eq_some_iff.1 (dict_row_metroSetting m n hn)
  have hper : r.per = false := congrArg (fun p => p.2.2) hr
  simp [keyFor, hrow, hper]

theorem State.store_metroSetting (x : Nat) : s.store t (0x8000 + m.val) n x = s.metroStore m n x := by
  have hm := m.isLt
  unfold State.store
  simp only [metroOf_index, keyFor_metroSetting hn]
  repeat rw [if_neg (by omega)]
  rw [if_pos (by omega)]
  rfl

theorem serves_metroSetting {c : Instr} {j : Job} {o : Own} {v : Nat} (hv : v < 2 ^ 32) (hj : s.Writes t j (0x8000 + m.val) n (u32 v))
    (hexec : exec c s = done (s.serveOwn t o)) (hown : ownOf (0x8000 + m.val) n (u32 v) = o) :
    Serves c s (s.metroStore m n v) t j
      (if s.needsCommit (ob (0x8000 + m.val) n) v then [(ob (0x8000 + m.val) n, v)] else []) false := by
  obtain ⟨r, hrow, hr⟩ := Option.map_eq_some_iff.1 (dict_row_metroSetting m n hn)
  have hacc : r.acc = .rwp := congrArg (fun p => p.1) hr
  have hty : r.ty.isOctets = false := congrArg (fun p => p.2.1) hr
  have hm := m.isLt
  have h := Serves.of_writes hj hexec hown hrow hacc hty (by omega)
  rwa [leNat_u32 hv, keyFor_metroSetting hn, State.store_metroSetting hn] at h

end

/-- The write of each setting is its own command. -/
theorem ownOf_metroSetting (m : MetroId) (v : Octets) : ownOf (0x8000 + m.val) 0x04 v = .period ∧
    ownOf (0x8000 + m.val) 0x08 v = .compare ∧ ownOf (0x8000 + m.val) 0x09 v = .stride := by
  have hm := m.isLt
  refine ⟨?_, ?_, ?_⟩
  all_goals
    unfold ownOf
    repeat rw [if_neg (fun e => by omega)]
    exact if_pos (by omega)

/-! ### What the settings bring about (R453, R454, R456) -/

section
variable (s : State) (m : MetroId) (v : Nat)

/-- The period buffer and the period in force, both `v`. -/
def State.periodForced : State := (s.wr (ob (0x8000 + m.val) 0x04) v).wr (ob (0x8000 + m.val) 0x05) v

/-- A TRIANGLE that has passed its new top turns down where it is. -/
def State.periodTurned : State :=
  ((s.periodForced m v).wr (ob (0x8000 + m.val) 0x07) 0).setMetro m (fun x => { x with base := s.metroCount m s.now, since := s.now })

theorem State.periodForced_changes :
    Changes [] [ob (0x8000 + m.val) 0x04, ob (0x8000 + m.val) 0x05] s (s.periodForced m v) :=
  ((s.wr_changes _ _).trans (State.wr_changes _ _ _)).mono (by simp) (by simp)

theorem State.rd_periodForced : (s.periodForced m v).rd (ob (0x8000 + m.val) 0x04) = v ∧
    (s.periodForced m v).rd (ob (0x8000 + m.val) 0x05) = v := by simp [State.periodForced, State.rd_wr]

theorem State.periodTurned_changes : Changes [.metros] [ob (0x8000 + m.val) 0x04, ob (0x8000 + m.val) 0x05, ob (0x8000 + m.val) 0x07] s
    (s.periodTurned m v) :=
  (((s.periodForced_changes m v).trans (State.wr_changes _ _ _)).trans (State.setMetro_changes _ _ _)).mono (by simp) (by simp)

theorem State.rd_periodTurned : (s.periodTurned m v).rd (ob (0x8000 + m.val) 0x04) = v ∧
    (s.periodTurned m v).rd (ob (0x8000 + m.val) 0x05) = v ∧ (s.periodTurned m v).rd (ob (0x8000 + m.val) 0x07) = 0 := by
  simp [State.periodTurned, State.periodForced, State.rd_wr]

theorem State.periodTurned_metros :
    (s.periodTurned m v).metros[m]'m.isLt = { s.metros[m]'m.isLt with base := s.metroCount m s.now, since := s.now } :=
  State.setMetro_self _ _ _

/-- Whether a TRIANGLE counts up at or beyond the period `v`. -/
def State.PastTop : Prop :=
  s.rd (ob (0x8000 + m.val) 0x01) = 2 ∧ s.rd (ob (0x8000 + m.val) 0x07) = 1 ∧ v ≤ s.metroCount m s.now

variable {s m v}

theorem State.periodWrite_of_other (h : s.rd (ob (0x8000 + m.val) 0x02) ≠ 2) :
    s.periodWrite m v = s.wr (ob (0x8000 + m.val) 0x04) v := by
  refine if_neg ?_
  rwa [State.rd_wr_other _ _ (by simp)]

theorem State.pastTop_iff : ((s.periodForced m v).rd (ob (0x8000 + m.val) 0x01) = 2 ∧ (s.periodForced m v).metroUp m = true ∧
    v ≤ s.metroCount m s.now) ↔ s.PastTop m v := by
  rw [State.metroUp, (s.periodForced_changes m v).rd (by simp), (s.periodForced_changes m v).rd (by simp), beq_iff_eq]
  rfl

theorem State.periodWrite_of_triangle (h : s.rd (ob (0x8000 + m.val) 0x02) = 2) :
    (s.PastTop m v → s.periodWrite m v = (s.periodTurned m v).metroRaise m 3 s.now (s.metroCount m s.now) true) ∧
      (¬ s.PastTop m v → s.periodWrite m v = s.periodForced m v) := by
  have hmode : (s.wr (ob (0x8000 + m.val) 0x04) v).rd (ob (0x8000 + m.val) 0x02) = 2 := by rwa [State.rd_wr_other _ _ (by simp)]
  exact ⟨fun hp => (if_pos hmode).trans (if_pos (State.pastTop_iff.2 hp)),
    fun hp => (if_pos hmode).trans (if_neg fun e => hp (State.pastTop_iff.1 e))⟩

end

section
variable (s : State) (m : MetroId) (v : Nat)

theorem State.metroRebase_changes (w : Nat) : Changes [.metros] [] s (s.metroRebase m w) :=
  Changes.ite (s.setMetro_changes _ _) ((Changes.refl s).mono (by simp) (by simp))

theorem State.compareWrite_changes : Changes [.metros] [ob (0x8000 + m.val) 0x08, ob (0x8000 + m.val) 0x0A] s (s.compareWrite m v) :=
  (((s.metroRebase_changes m _).trans (State.wrAll_changes _ _)).trans (State.setMetro_changes _ _ _)).mono (by simp) (by simp)

theorem State.rd_compareWrite : (s.compareWrite m v).rd (ob (0x8000 + m.val) 0x08) = v ∧
    (s.compareWrite m v).rd (ob (0x8000 + m.val) 0x0A) = v := by simp [State.compareWrite, State.rd_wr]

theorem State.compareWrite_wrap : ((s.compareWrite m v).metros[m]'m.isLt).wrap = none := congrArg Metro.wrap (State.setMetro_self _ _ _)

end

/-! ### The statement -/

/-- Settles O13, setting by setting. -/
theorem metronomeSettingWrites : Obligations.MetronomeSettingWrites := by
  unfold Obligations.MetronomeSettingWrites
  refine ⟨?buffer, ?triangle, ?compare, ?stride⟩
  case buffer =>
    intro s t j m v hv hj hmode
    have h := serves_metroSetting (by simp) hv hj (c := .periodBufferWrite t) rfl (ownOf_metroSetting m _).1
    rw [show s.metroStore m 4 v = _ from State.periodWrite_of_other hmode] at h
    exact ⟨_, h, State.wr_changes _ _ _, State.rd_wr_self _ _ _⟩
  case triangle =>
    intro s t j m v hv hj hmode
    have h := serves_metroSetting (by simp) hv hj (c := .periodBufferWrite t) rfl (ownOf_metroSetting m _).1
    obtain ⟨hpast, hnot⟩ := State.periodWrite_of_triangle (v := v) hmode
    by_cases hp : (s.metroCaught m).PastTop m v
    · rw [show s.metroStore m 4 v = _ from hpast hp] at h
      obtain ⟨h4, h5, h7⟩ := (s.metroCaught m).rd_periodTurned m v
      have hm := (s.metroCaught m).periodTurned_metros m v
      exact ⟨_, State.periodTurned_changes _ _ _, h4, h5, (if_pos hp).mpr ⟨h7, congrArg Metro.base hm, congrArg Metro.since hm, h⟩⟩
    · rw [show s.metroStore m 4 v = _ from hnot hp] at h
      obtain ⟨h4, h5⟩ := (s.metroCaught m).rd_periodForced m v
      have hc := (s.metroCaught m).periodForced_changes m v
      exact ⟨_, hc.mono (by simp) (by simp), h4, h5, (if_neg hp).mpr ⟨hc.rd (by simp), hc.same (p := .metros) (by simp), h⟩⟩
  case compare =>
    intro s t j m v hv hj
    have h := serves_metroSetting (by simp) hv hj (c := .compareWrite t) rfl (ownOf_metroSetting m _).2.1
    obtain ⟨h8, hA⟩ := (s.metroCaught m).rd_compareWrite m v
    exact ⟨_, h, State.compareWrite_changes _ _ _, h8, hA, State.compareWrite_wrap _ _ _⟩
  case stride =>
    intro s t j m v hv hj
    have h := serves_metroSetting (by simp) hv hj (c := .strideWrite t) rfl (ownOf_metroSetting m _).2.2
    exact ⟨_, h, State.wr_changes _ _ _, State.rd_wr_self _ _ _⟩

end Sys2Proof.Machine
end

section
/-! PROOFS. The events of a metronome (chapter 16), and the statement `MetronomeEvents`. -/

namespace Sys2Proof.Machine

set_option Elab.async false -- as tasks, the proofs would each hold memory of their own until the end of the text

/-! ### Frames by a set of objects -/

/-- What stands unchanged from `s` to `t`: the queue, every field but those of `ps`, and every object whose key is outside `K`. -/
structure Within (ps : List Part) (K : Nat → Bool) (s t : State) : Prop where
  pending : t.pending = s.pending
  same : ∀ p : Part, p ∉ ps → p.same s t
  rd : ∀ k, K k = false → t.rd k = s.rd k

section
variable {ps : List Part} {K : Nat → Bool} {s t u : State}

theorem Within.of_changes {qs : List Part} {ks : List Nat} (h : Changes qs ks s t) (hp : ∀ p ∈ qs, p ∈ ps) (hk : ∀ k ∈ ks, K k = true) :
    Within ps K s t :=
  ⟨h.1, fun p hn => h.same (fun e => hn (hp p e)), fun k hn => h.rd (fun e => by simp [hk k e] at hn)⟩

theorem Within.of_event (h : EventOnly s t) (hp : ∀ p ∈ [Part.router, Part.order, Part.scores, Part.metros], p ∈ ps)
    (hk : ∀ k, metroKey k = true → K k = true) : Within ps K s t :=
  ⟨h.1, fun p hn => h.2.1 p (fun e => hn (hp p e)), fun k hn => h.2.2 k (by
    cases hm : metroKey k with
    | false => rfl
    | true => simp [hk k hm] at hn)⟩

theorem Within.refl (s : State) : Within ps K s s := .of_changes (Changes.refl s) (by simp) (by simp)

theorem Within.trans (h : Within ps K s t) (g : Within ps K t u) : Within ps K s u :=
  ⟨g.pending.trans h.pending, fun p hp => Part.same_trans (h.same p hp) (g.same p hp), fun k hk => (g.rd k hk).trans (h.rd k hk)⟩

theorem Within.ite {c : Prop} [Decidable c] (h : Within ps K s t) (g : Within ps K s u) : Within ps K s (if c then t else u) := by
  split
  · exact h
  · exact g

theorem Within.mono {qs : List Part} {L : Nat → Bool} (h : Within ps K s t) (hp : ∀ p ∈ ps, p ∈ qs) (hk : ∀ k, K k = true → L k = true) :
    Within qs L s t :=
  ⟨h.pending, fun p hn => h.same p (fun e => hn (hp p e)), fun k hn => h.rd k (by
    cases hm : K k with
    | false => rfl
    | true => simp [hk k hm] at hn)⟩

end

/-! ### What a wake leaves (R563) -/

/-- What a change of the running state may touch beside objects. -/
abbrev wakeParts : List Part := [.time, .timers, .power, .order, .router, .scores, .metros]

/-- The objects of the running state, and those of the metronomes that an event starts. -/
def wakeKey (k : Nat) : Bool :=
  metroKey k || keyIndex k == 0x1020 || keyIndex k == 0x1070 || keyIndex k == 0x1080 || keyIndex k == 0x1110

theorem wakeKey_ob {i n : Nat} (hi : i = 0x1020 ∨ i = 0x1070 ∨ i = 0x1080 ∨ i = 0x1110) (hn : n < 256) : wakeKey (ob i n) = true := by
  simp only [wakeKey, keyIndex_ob hn, Bool.or_eq_true, beq_iff_eq]
  tauto

theorem wakeKey_ob_outside {i n : Nat} (hi : 0x2000 ≤ i) (hm : i < 0x8000 ∨ 0x800F < i) (hn : n < 256) : wakeKey (ob i n) = false := by
  simp only [wakeKey, metroKey, keyIndex_ob hn, Bool.or_eq_false_iff, Bool.and_eq_false_iff, decide_eq_false_iff_not, beq_eq_false_iff_ne]
  omega

theorem State.withPower_changes (s : State) (p : Power) : Changes [.power] [] s { s with power := p } := by
  refine ⟨rfl, fun q hq => ?_, fun _ _ => rfl⟩
  cases q
  case power => exact absurd (List.mem_singleton_self _) hq
  all_goals rfl

theorem State.raise_within (s : State) (e : Nat) (l : List Tenant) (d : Octets) : Within wakeParts wakeKey s (s.raise e l d) :=
  .of_event (s.raise_only e l d) (by decide) (fun k h => by simp [wakeKey, h])

theorem State.setRun_within (s : State) (n : Nat) : Within wakeParts wakeKey s (s.setRun n) := by
  have hadd : ∀ k, k ≤ 3 → Changes [] [ob 0x1070 (0x04 + k)] s (s.add (ob 0x1070 (0x04 + k)) (s.now - s.power.enteredAt)) :=
    fun k _ => s.add_changes _ _
  unfold State.setRun
  refine .trans (.trans (.trans ?_ (.of_changes (State.wrAll_changes _ _) (by simp) ?_)) (.of_changes (State.withPower_changes _ _) (by simp)
    (by simp))) (State.raise_within _ _ _ _)
  · split
    · next h => exact .of_changes (hadd _ h.2) (by simp) (by simpa using wakeKey_ob (by decide) (by omega))
    · exact .refl s
  · simp (disch := decide) [wakeKey_ob]

theorem State.wakeBy_within (s : State) (source : Nat) : Within wakeParts wakeKey s (s.wakeBy source) := by
  by_cases h : s.runState = 2 ∨ s.runState = 3
  · rw [s.wakeBy_asleep source h]
    refine .trans (.trans (.of_changes (s.wakeNoted_changes source) (by simp) ?_) (State.setRun_within _ _))
      (.of_changes (State.withTime_changes _ _) (by simp) (by simp))
    simp (disch := decide) [wakeKey_ob]
  · rw [State.wakeBy, if_neg h]
    exact .refl s

/-! ### Pins that follow a metronome (R588) -/

/-- What several changes in a row leave, each for a member of the list. -/
theorem Changes.foldl_mem {α : Type} {ps : List Part} {ks : List Nat} {f : State → α → State} (l : List α) (s : State)
    (hf : ∀ a ∈ l, ∀ s, Changes ps ks s (f s a)) : Changes ps ks s (l.foldl f s) := by
  induction l generalizing s with
  | nil => exact (Changes.refl s).mono (by simp) (by simp)
  | cons a l ih =>
    exact ((hf a List.mem_cons_self s).trans (ih _ fun b hb => hf b (List.mem_cons_of_mem _ hb))).mono (by simp) (by simp)

theorem State.drivePins_changes (s : State) (m : MetroId) (j : Nat) :
    Changes [] ((List.range 16).map (fun g => ob (0x1090 + g) 0x08)) s (s.drivePins m j) := by
  have hno : ∀ t : State, Changes [] ((List.range 16).map (fun g => ob (0x1090 + g) 0x08)) t t :=
    fun t => (Changes.refl t).mono (by simp) (by simp)
  have hwr : ∀ g ∈ List.range 16, ∀ (t : State) (v : Nat),
      Changes [] ((List.range 16).map (fun g => ob (0x1090 + g) 0x08)) t (t.wr (ob (0x1090 + g) 0x08) v) :=
    fun g hg t v => (t.wr_changes _ v).mono (by simp) fun k hk => List.mem_map.2 ⟨g, hg, (List.mem_singleton.1 hk).symm⟩
  refine Changes.ite (hno s) (Changes.foldl_mem _ _ fun g hg t => ?_)
  exact Changes.ite (Changes.ite (Changes.ite (hwr g hg t _) (Changes.ite (hwr g hg t _) (hno t)))
    (Changes.ite (hwr g hg t _) (hno t))) (hno t)

/-! ### Announcements (R461, R464, R465) -/

/-- Whether a metronome's tenant is RESETTING. -/
def State.ownerResets (s : State) (own : Option Tenant) : Bool := match own with | some t => s.tenantState t == 2 | none => false

/-- With the block not up the start links act first. -/
def State.linksOf (s : State) (own : Option Tenant) (e at_ : Nat) : State := match own with | some t => s.links1 t e at_ | none => s

/-- An announcement takes the place of the one of its number that is held. -/
def State.heldReplaced (s : State) (e at_ : Nat) (d : Octets) : State :=
  { s with router := { s.router with held := s.router.held.map (fun (h : Held) => if h.event = e then { h with stamp := at_, data := d } else h) } }

/-- The rest of an announcement, once the pins have moved and the block is awake. -/
def State.metroAnnounce (s : State) (own : Option Tenant) (m : MetroId) (j at_ n : Nat) (up : Bool) : State :=
  let e := 1072 + 4 * m.val + j
  let data := u32 n ++ u8 (if up then 1 else 0)
  if s.ownerResets own then s.inc (ob (0x8000 + m.val) 0x11)
  else if s.up then s.raiseAt e [own.getD t0] data at_
  else
    let s := s.linksOf own e at_
    if s.router.held.any (fun h => h.event == e) then (s.heldReplaced e at_ data).inc (ob (0x8000 + m.val) 0x11)
    else s.raiseAt e [own.getD t0] data at_

/-- The block with the pins moved, awake. -/
def State.metroAwake (s : State) (m : MetroId) (j : Nat) : State := (s.drivePins m j).wakeBy 1

section
variable (s : State) (m : MetroId) (j : Nat)

theorem State.rd_metroAwake {i n : Nat} (hi : 0x2000 ≤ i) (hm : i < 0x8000 ∨ 0x800F < i) (hn : n < 256) :
    (s.metroAwake m j).rd (ob i n) = s.rd (ob i n) := by
  refine ((State.wakeBy_within _ 1).rd _ (wakeKey_ob_outside hi hm hn)).trans ((s.drivePins_changes m j).rd ?_)
  simp only [List.mem_map, List.mem_range, not_exists, not_and]
  intro g hg e
  have := (ob_inj (by decide) hn).1 e
  omega

theorem State.metroAwake_rst : (s.metroAwake m j).rst = s.rst :=
  ((State.wakeBy_within _ 1).same .rst (by decide)).trans ((s.drivePins_changes m j).same (p := .rst) (by simp))

theorem State.metroAwake_tenantState (t : Tenant) : (s.metroAwake m j).tenantState t = s.tenantState t :=
  s.rd_metroAwake m j (by omega) (by omega) (by decide)

theorem State.metroAwake_metroTenant (k : MetroId) : (s.metroAwake m j).metroTenant k = s.metroTenant k := by
  have hrd : ∀ t : Tenant, (s.metroAwake m j).rd (ob (0x9010 + t.val) 0x02) = s.rd (ob (0x9010 + t.val) 0x02) :=
    fun t => s.rd_metroAwake m j (by omega) (by omega) (by decide)
  simp only [State.metroTenant, State.allottee, hrd]

theorem State.metroRaise_eq (at_ n : Nat) (up : Bool) :
    s.metroRaise m j at_ n up = (s.metroAwake m j).metroAnnounce (s.metroTenant m) m j at_ n up := by
  rw [← s.metroAwake_metroTenant m j]
  rfl

end

section
variable {s : State} {own : Option Tenant} {m : MetroId} {j at_ n : Nat} {up : Bool}

theorem State.metroAnnounce_of_resetting {t : Tenant} (h : s.tenantState t = 2) :
    s.metroAnnounce (some t) m j at_ n up = s.inc (ob (0x8000 + m.val) 0x11) := if_pos (beq_iff_eq.2 h)

variable (hown : ∀ t, own = some t → s.tenantState t ≠ 2)
include hown

theorem State.ownerResets_eq_false : s.ownerResets own = false := by
  cases own with
  | none => rfl
  | some t => exact beq_false_of_ne (hown t rfl)

theorem State.metroAnnounce_of_up (hup : s.up = true) : s.metroAnnounce own m j at_ n up =
    s.raiseAt (1072 + 4 * m.val + j) [own.getD t0] (u32 n ++ u8 (if up then 1 else 0)) at_ :=
  (if_neg (by simp [State.ownerResets_eq_false hown])).trans (if_pos hup)

theorem State.metroAnnounce_of_down (hup : s.up = false) (hheld : (s.linksOf own (1072 + 4 * m.val + j) at_).router.held.any
      (fun h => h.event == 1072 + 4 * m.val + j) = false) : s.metroAnnounce own m j at_ n up =
    (s.linksOf own (1072 + 4 * m.val + j) at_).raiseAt (1072 + 4 * m.val + j) [own.getD t0] (u32 n ++ u8 (if up then 1 else 0)) at_ :=
  (if_neg (by simp [State.ownerResets_eq_false hown])).trans ((if_neg (Bool.eq_false_iff.1 hup)).trans (if_neg (Bool.eq_false_iff.1 hheld)))

theorem State.metroAnnounce_of_held (hup : s.up = false) (hheld : (s.linksOf own (1072 + 4 * m.val + j) at_).router.held.any
      (fun h => h.event == 1072 + 4 * m.val + j) = true) : s.metroAnnounce own m j at_ n up =
    ((s.linksOf own (1072 + 4 * m.val + j) at_).heldReplaced (1072 + 4 * m.val + j) at_ (u32 n ++ u8 (if up then 1 else 0))).inc
      (ob (0x8000 + m.val) 0x11) :=
  (if_neg (by simp [State.ownerResets_eq_false hown])).trans ((if_neg (Bool.eq_false_iff.1 hup)).trans (if_pos hheld))

end

theorem State.heldReplaced_changes (s : State) (e at_ : Nat) (d : Octets) : Changes [.router] [] s (s.heldReplaced e at_ d) := by
  refine ⟨rfl, fun p hp => ?_, fun _ _ => rfl⟩
  cases p
  case router => exact absurd (List.mem_singleton_self _) hp
  all_goals rfl

/-! ### Instants (R451, R456) -/

section
variable {s : State} {m : MetroId}

/-- What is due: an instant that has come, before which no match stands. -/
theorem State.metroDue_of_clear {x : Nat} (hx : x ≤ s.now) (hc : ∀ c, s.compareAt m = some c → x < c) : s.metroDue m (some x) = some x := by
  refine (if_neg (not_lt.2 hx)).trans ?_
  cases h : s.compareAt m with
  | none => rfl
  | some c => exact if_neg (not_le.2 (hc c h))

theorem State.metroDue_of_none {o : Option Nat} (h : ∀ x, o = some x → s.now < x ∨ ∃ c, s.compareAt m = some c ∧ c ≤ x) :
    s.metroDue m o = none := by
  cases o with
  | none => rfl
  | some x =>
    obtain hlt | ⟨c, hc, hle⟩ := h x rfl
    · exact if_pos hlt
    · unfold State.metroDue
      simp only [hc, if_pos hle, ite_self]

theorem State.metroMatch_of_none (h : ∀ x, s.compareAt m = some x → s.now < x) : s.metroMatch m = none := by
  unfold State.metroMatch
  cases hc : s.compareAt m with
  | none => rfl
  | some x => exact if_pos (h x hc)

end

end Sys2Proof.Machine
end

section
/-! PROOFS. COMPARE, ZERO and TOP of a metronome (R451, R452, R456, R457), and the statement `MetronomeEvents`. -/

namespace Sys2Proof.Machine

set_option Elab.async false -- as tasks, the proofs would each hold memory of their own until the end of the text

theorem State.setMetro_metros (s : State) (m : MetroId) (f : Metro → Metro) : (s.setMetro m f).metros[m]'m.isLt = f (s.metros[m]'m.isLt) :=
  s.setMetro_self m f

/-! ### COMPARE (R456, R457) -/

section
variable {s : State} {m : MetroId}

/-- Where the count stands beside the live compare, once the match has come. -/
def State.Matches (s : State) (m : MetroId) : Prop :=
  if s.rd (ob (0x8000 + m.val) 0x07) = 1 then
    (s.metros[m]'m.isLt).base < s.rd (ob (0x8000 + m.val) 0x0A) ∧ s.rd (ob (0x8000 + m.val) 0x0A) ≤ s.rd (ob (0x8000 + m.val) 0x05) ∧
    (s.metros[m]'m.isLt).since + (s.rd (ob (0x8000 + m.val) 0x0A) - (s.metros[m]'m.isLt).base) * s.metroUnit m ≤ s.now
  else s.rd (ob (0x8000 + m.val) 0x0A) < (s.metros[m]'m.isLt).base ∧
    (s.metros[m]'m.isLt).since + ((s.metros[m]'m.isLt).base - s.rd (ob (0x8000 + m.val) 0x0A)) * s.metroUnit m ≤ s.now

/-- The scheduled instant of a match. -/
def State.matchInstant (s : State) (m : MetroId) : Nat :=
  (s.metros[m]'m.isLt).since + (if s.metroUp m then s.rd (ob (0x8000 + m.val) 0x0A) - (s.metros[m]'m.isLt).base
    else (s.metros[m]'m.isLt).base - s.rd (ob (0x8000 + m.val) 0x0A)) * s.metroUnit m

theorem State.compareAt_of_matches (hrun : s.rd (ob (0x8000 + m.val) 0x01) = 2) (hc : 0 < s.rd (ob (0x8000 + m.val) 0x0A))
    (h : s.Matches m) : s.compareAt m = some (s.matchInstant m) ∧ s.matchInstant m ≤ s.now := by
  have hgo : ¬(s.rd (ob (0x8000 + m.val) 0x01) ≠ 2 ∨ s.rd (ob (0x8000 + m.val) 0x0A) = 0) := by omega
  by_cases hup : s.rd (ob (0x8000 + m.val) 0x07) = 1
  · have hup' : s.metroUp m = true := beq_iff_eq.2 hup
    obtain ⟨hlt, hle, hnow⟩ := (if_pos hup).mp h
    unfold State.matchInstant
    rw [if_pos hup']
    exact ⟨(if_neg hgo).trans ((if_pos hup').trans (if_pos ⟨hlt, hle⟩)), hnow⟩
  · have hup' : ¬ s.metroUp m = true := fun e => hup (beq_iff_eq.1 e)
    obtain ⟨hlt, hnow⟩ := (if_neg hup).mp h
    unfold State.matchInstant
    rw [if_neg hup']
    exact ⟨(if_neg hgo).trans ((if_neg hup').trans (if_pos hlt)), hnow⟩

/-- The counter goes on from the compare at the instant of the match, and the stride has moved the compare. -/
def State.matched (s : State) (m : MetroId) (at_ : Nat) : State :=
  (s.setMetro m (fun x => { x with base := s.rd (ob (0x8000 + m.val) 0x0A), since := at_ })).applyStride m (s.rd (ob (0x8000 + m.val) 0x0A))

theorem State.metroMatch_of_due {at_ : Nat} (h : s.compareAt m = some at_) (hle : at_ ≤ s.now) : s.metroMatch m =
    some ((s.matched m at_).metroRaise m 0 at_ (s.rd (ob (0x8000 + m.val) 0x0A)) (s.metroUp m)) := by
  unfold State.metroMatch
  simp only [h]
  exact if_neg (not_lt.2 hle)

variable {c : Nat}

theorem State.applyStride_of_none (h : s.rd (ob (0x8000 + m.val) 0x09) = 0 ∨ s.rd (ob (0x8000 + m.val) 0x02) = 2) :
    s.applyStride m c = s := if_pos h

section
variable (h : ¬(s.rd (ob (0x8000 + m.val) 0x09) = 0 ∨ s.rd (ob (0x8000 + m.val) 0x02) = 2))
include h

theorem State.applyStride_of_lt (hlt : s.rd (ob (0x8000 + m.val) 0x09) < c) :
    s.applyStride m c = s.wr (ob (0x8000 + m.val) 0x0A) (c - s.rd (ob (0x8000 + m.val) 0x09)) := (if_neg h).trans (if_pos hlt)

theorem State.applyStride_of_ge (hge : ¬ s.rd (ob (0x8000 + m.val) 0x09) < c) : s.applyStride m c =
    (s.wr (ob (0x8000 + m.val) 0x0A) 0).setMetro m
      (fun x => { x with wrap := some ((c : Int) - (s.rd (ob (0x8000 + m.val) 0x09) : Int)) }) := (if_neg h).trans (if_neg hge)

end

variable (s m c)

theorem State.applyStride_changes : Changes [.metros] [ob (0x8000 + m.val) 0x0A] s (s.applyStride m c) :=
  Changes.ite ((Changes.refl s).mono (by simp) (by simp)) (Changes.ite ((s.wr_changes _ _).mono (by simp) (by simp))
    (((s.wr_changes _ _).trans (State.setMetro_changes _ _ _)).mono (by simp) (by simp)))

theorem State.applyStride_others : ∀ n : MetroId, n ≠ m → (s.applyStride m c).metros[n]'n.isLt = s.metros[n]'n.isLt := by
  intro n hn
  unfold State.applyStride
  dsimp only
  split
  · rfl
  · split
    · rfl
    · exact s.other_metros (u := s.wr _ _) m rfl n hn

theorem State.applyStride_count :
    ((s.applyStride m c).metros[m]'m.isLt).base = (s.metros[m]'m.isLt).base ∧ ((s.applyStride m c).metros[m]'m.isLt).since = (s.metros[m]'m.isLt).since := by
  unfold State.applyStride
  dsimp only
  split
  · exact ⟨rfl, rfl⟩
  · split
    · exact ⟨rfl, rfl⟩
    · rw [State.setMetro_metros]
      exact ⟨rfl, rfl⟩

theorem State.matched_changes (at_ : Nat) : Changes [.metros] [ob (0x8000 + m.val) 0x0A] s (s.matched m at_) :=
  ((s.setMetro_changes _ _).trans (State.applyStride_changes _ _ _)).mono (by simp) (by simp)

theorem State.matched_others (at_ : Nat) : ∀ n : MetroId, n ≠ m → (s.matched m at_).metros[n]'n.isLt = s.metros[n]'n.isLt :=
  fun n hn => (State.applyStride_others _ m _ n hn).trans (s.other_metros m rfl n hn)

theorem State.matched_count (at_ : Nat) : ((s.matched m at_).metros[m]'m.isLt).base = s.rd (ob (0x8000 + m.val) 0x0A) ∧
    ((s.matched m at_).metros[m]'m.isLt).since = at_ := by
  have hself := s.setMetro_self m (fun x => { x with base := s.rd (ob (0x8000 + m.val) 0x0A), since := at_ })
  obtain ⟨hb, hs⟩ := State.applyStride_count (s.setMetro m (fun x => { x with base := s.rd (ob (0x8000 + m.val) 0x0A), since := at_ })) m
    (s.rd (ob (0x8000 + m.val) 0x0A))
  exact ⟨hb.trans (congrArg Metro.base hself), hs.trans (congrArg Metro.since hself)⟩

/-- What a match leaves of the live compare and the pending wrap (R457). -/
theorem State.matched_compare (at_ : Nat) :
    (if s.rd (ob (0x8000 + m.val) 0x09) = 0 ∨ s.rd (ob (0x8000 + m.val) 0x02) = 2 then
      (s.matched m at_).rd (ob (0x8000 + m.val) 0x0A) = s.rd (ob (0x8000 + m.val) 0x0A) ∧ ((s.matched m at_).metros[m]'m.isLt).wrap = (s.metros[m]'m.isLt).wrap
     else if s.rd (ob (0x8000 + m.val) 0x09) < s.rd (ob (0x8000 + m.val) 0x0A) then
      (s.matched m at_).rd (ob (0x8000 + m.val) 0x0A) = s.rd (ob (0x8000 + m.val) 0x0A) - s.rd (ob (0x8000 + m.val) 0x09) ∧
        ((s.matched m at_).metros[m]'m.isLt).wrap = (s.metros[m]'m.isLt).wrap
     else (s.matched m at_).rd (ob (0x8000 + m.val) 0x0A) = 0 ∧ ((s.matched m at_).metros[m]'m.isLt).wrap =
      some ((s.rd (ob (0x8000 + m.val) 0x0A) : Int) - (s.rd (ob (0x8000 + m.val) 0x09) : Int))) := by
  have hwrap : ((s.setMetro m (fun x => { x with base := s.rd (ob (0x8000 + m.val) 0x0A), since := at_ })).metros[m]'m.isLt).wrap =
      (s.metros[m]'m.isLt).wrap := by rw [State.setMetro_metros]
  unfold State.matched
  split
  · next h =>
    rw [State.applyStride_of_none (by simpa using h)]
    exact ⟨State.rd_setMetro _ _ _ _, hwrap⟩
  · next h =>
    split
    · next hlt =>
      rw [State.applyStride_of_lt (by simpa using h) (by simpa using hlt)]
      exact ⟨by simp, hwrap⟩
    · next hge =>
      rw [State.applyStride_of_ge (by simpa using h) (by simpa using hge)]
      exact ⟨by simp, by rw [State.setMetro_metros]; simp⟩

end

/-! ### ZERO (R452, R457) -/

section
variable (s : State) (m : MetroId) (at_ : Nat)

/-- The last zero's instant recorded. -/
def State.zeroNoted : State := s.wr (ob (0x8000 + m.val) 0x10) at_

theorem State.rd_zeroNoted {n : Nat} (hn : n < 0x10) : (s.zeroNoted m at_).rd (ob (0x8000 + m.val) n) = s.rd (ob (0x8000 + m.val) n) := by
  refine State.rd_wr_other _ _ fun e => ?_
  have := (ob_inj (by omega) (by decide)).1 e
  omega

/-- A TRIANGLE at 0 turns up. -/
def State.turnedUp : State := (s.wr (ob (0x8000 + m.val) 0x07) 1).setMetro m (fun x => { x with base := 0, since := at_ })

/-- A metronome at its zero, before it is announced. -/
def State.zeroTaken : State :=
  if s.rd (ob (0x8000 + m.val) 0x02) = 2 then (s.zeroNoted m at_).turnedUp m at_ else (s.zeroNoted m at_).reload m at_

theorem State.metroZero_of_due {s : State} {m : MetroId} {at_ : Nat} (h : s.metroDue m (s.zeroAt m) = some at_) :
    s.metroZero m = some ((s.zeroTaken m at_).metroRaise m 1 at_ 0 false) := by
  unfold State.metroZero State.zeroTaken
  simp only [h]
  rw [← s.rd_zeroNoted m at_ (n := 0x02) (by decide)]
  rfl

/-- A ONE_SHOT at 0 stops. -/
def State.shotEnded : State := (s.wr (ob (0x8000 + m.val) 0x01) 0).setMetro m (fun x => { x with base := 0, since := at_, wrap := none })

/-- The buffer becomes the period in force, and the counter is loaded with it. -/
def State.periodLoaded : State :=
  (s.wr (ob (0x8000 + m.val) 0x05) (s.rd (ob (0x8000 + m.val) 0x04))).setMetro m
    (fun x => { x with base := s.rd (ob (0x8000 + m.val) 0x04), since := at_ })

theorem State.periodLoaded_metros : (s.periodLoaded m at_).metros[m]'m.isLt =
    { s.metros[m]'m.isLt with base := s.rd (ob (0x8000 + m.val) 0x04), since := at_ } := State.setMetro_self _ _ _

/-- A pending wrap moved by P: it becomes the live compare, or stays pending. -/
def State.wrapMoved (d : Int) : State :=
  if 1 ≤ d then (s.wr (ob (0x8000 + m.val) 0x0A) d.toNat).setMetro m (fun x => { x with wrap := none })
  else s.setMetro m (fun x => { x with wrap := some d })

variable {s m at_}

theorem State.reload_of_shot (h : s.rd (ob (0x8000 + m.val) 0x02) = 1) : s.reload m at_ = s.shotEnded m at_ := if_pos h

section
variable (h : s.rd (ob (0x8000 + m.val) 0x02) ≠ 1)
include h

theorem State.reload_of_no_wrap (hw : (s.metros[m]'m.isLt).wrap = none) : s.reload m at_ = s.periodLoaded m at_ := by
  have hwrap : ((s.periodLoaded m at_).metros[m]'m.isLt).wrap = none := (congrArg Metro.wrap (s.periodLoaded_metros m at_)).trans hw
  refine (if_neg h).trans ?_
  change (match ((s.periodLoaded m at_).metros[m]'m.isLt).wrap with | none => s.periodLoaded m at_ | some d => _) = _
  rw [hwrap]

theorem State.reload_of_wrap {d : Int} (hw : (s.metros[m]'m.isLt).wrap = some d) :
    s.reload m at_ = (s.periodLoaded m at_).wrapMoved m (d + (s.rd (ob (0x8000 + m.val) 0x04) : Int)) := by
  have hwrap : ((s.periodLoaded m at_).metros[m]'m.isLt).wrap = some d := (congrArg Metro.wrap (s.periodLoaded_metros m at_)).trans hw
  refine (if_neg h).trans ?_
  change (match ((s.periodLoaded m at_).metros[m]'m.isLt).wrap with
    | none => s.periodLoaded m at_
    | some d => (s.periodLoaded m at_).wrapMoved m (d + (s.rd (ob (0x8000 + m.val) 0x04) : Int))) = _
  rw [hwrap]

end
end

section
variable (s : State) (m : MetroId) (at_ : Nat)

/-- The objects of a metronome that its zero sets. -/
abbrev zeroKeys (m : MetroId) : List Nat :=
  [ob (0x8000 + m.val) 0x01, ob (0x8000 + m.val) 0x05, ob (0x8000 + m.val) 0x07, ob (0x8000 + m.val) 0x0A, ob (0x8000 + m.val) 0x10]

theorem State.wrapMoved_changes (d : Int) : Changes [.metros] [ob (0x8000 + m.val) 0x0A] s (s.wrapMoved m d) :=
  Changes.ite (((s.wr_changes _ _).trans (State.setMetro_changes _ _ _)).mono (by simp) (by simp))
    ((s.setMetro_changes _ _).mono (by simp) (by simp))

theorem State.wrapMoved_others (d : Int) : ∀ n : MetroId, n ≠ m → (s.wrapMoved m d).metros[n]'n.isLt = s.metros[n]'n.isLt := by
  intro n hn
  unfold State.wrapMoved
  split
  · exact s.other_metros (u := s.wr _ _) m rfl n hn
  · exact s.other_metros m rfl n hn

theorem State.wrapMoved_count (d : Int) :
    ((s.wrapMoved m d).metros[m]'m.isLt).base = (s.metros[m]'m.isLt).base ∧ ((s.wrapMoved m d).metros[m]'m.isLt).since = (s.metros[m]'m.isLt).since := by
  unfold State.wrapMoved
  split <;> rw [State.setMetro_metros] <;> exact ⟨rfl, rfl⟩

theorem State.wrapMoved_wrap (d : Int) :
    if 1 ≤ d then (s.wrapMoved m d).rd (ob (0x8000 + m.val) 0x0A) = d.toNat ∧ ((s.wrapMoved m d).metros[m]'m.isLt).wrap = none
    else ((s.wrapMoved m d).metros[m]'m.isLt).wrap = some d := by
  unfold State.wrapMoved
  by_cases h : 1 ≤ d
  · simp only [if_pos h]
    exact ⟨by simp, by rw [State.setMetro_metros]⟩
  · simp only [if_neg h]
    rw [State.setMetro_metros]

theorem State.periodLoaded_changes : Changes [.metros] [ob (0x8000 + m.val) 0x05] s (s.periodLoaded m at_) :=
  ((s.wr_changes _ _).trans (State.setMetro_changes _ _ _)).mono (by simp) (by simp)

theorem State.rd_periodLoaded : (s.periodLoaded m at_).rd (ob (0x8000 + m.val) 0x05) = s.rd (ob (0x8000 + m.val) 0x04) := by
  simp [State.periodLoaded]

theorem State.shotEnded_changes : Changes [.metros] [ob (0x8000 + m.val) 0x01] s (s.shotEnded m at_) :=
  ((s.wr_changes _ _).trans (State.setMetro_changes _ _ _)).mono (by simp) (by simp)

theorem State.turnedUp_changes : Changes [.metros] [ob (0x8000 + m.val) 0x07] s (s.turnedUp m at_) :=
  ((s.wr_changes _ _).trans (State.setMetro_changes _ _ _)).mono (by simp) (by simp)

/-- What a reload of DOWN leaves of the period, the count and the pending wrap. -/
theorem State.reload_down {s : State} {m : MetroId} (at_ : Nat) (h : s.rd (ob (0x8000 + m.val) 0x02) ≠ 1) :
    Changes [.metros] [ob (0x8000 + m.val) 0x05, ob (0x8000 + m.val) 0x0A] s (s.reload m at_) ∧
    (∀ n : MetroId, n ≠ m → (s.reload m at_).metros[n]'n.isLt = s.metros[n]'n.isLt) ∧ ((s.reload m at_).metros[m]'m.isLt).since = at_ ∧
    (s.reload m at_).rd (ob (0x8000 + m.val) 0x05) = s.rd (ob (0x8000 + m.val) 0x04) ∧
    ((s.reload m at_).metros[m]'m.isLt).base = s.rd (ob (0x8000 + m.val) 0x04) ∧
    ((s.metros[m]'m.isLt).wrap = none → (s.reload m at_).rd (ob (0x8000 + m.val) 0x0A) = s.rd (ob (0x8000 + m.val) 0x0A) ∧
      ((s.reload m at_).metros[m]'m.isLt).wrap = none) ∧
    ∀ d, (s.metros[m]'m.isLt).wrap = some d →
      if 1 ≤ d + (s.rd (ob (0x8000 + m.val) 0x04) : Int) then
        (s.reload m at_).rd (ob (0x8000 + m.val) 0x0A) = (d + (s.rd (ob (0x8000 + m.val) 0x04) : Int)).toNat ∧
          ((s.reload m at_).metros[m]'m.isLt).wrap = none
      else ((s.reload m at_).metros[m]'m.isLt).wrap = some (d + (s.rd (ob (0x8000 + m.val) 0x04) : Int)) := by
  have hload := s.periodLoaded_changes m at_
  have hm := s.periodLoaded_metros m at_
  have hothers : ∀ n : MetroId, n ≠ m → (s.periodLoaded m at_).metros[n]'n.isLt = s.metros[n]'n.isLt := s.other_metros (u := s.wr _ _) m rfl
  cases hw : (s.metros[m]'m.isLt).wrap with
  | none =>
    rw [State.reload_of_no_wrap h hw]
    refine ⟨hload.mono (by simp) (by simp), hothers, congrArg Metro.since hm, s.rd_periodLoaded m at_, congrArg Metro.base hm, fun _ => ?_,
      fun d hd => absurd hd (by simp)⟩
    exact ⟨hload.rd (by simp), (congrArg Metro.wrap hm).trans hw⟩
  | some d =>
    rw [State.reload_of_wrap h hw]
    have hmove := (s.periodLoaded m at_).wrapMoved_changes m (d + (s.rd (ob (0x8000 + m.val) 0x04) : Int))
    obtain ⟨hbase, hsince⟩ := (s.periodLoaded m at_).wrapMoved_count m (d + (s.rd (ob (0x8000 + m.val) 0x04) : Int))
    refine ⟨(hload.trans hmove).mono (by simp) (by simp), fun n hn => (State.wrapMoved_others _ m _ n hn).trans (hothers n hn),
      hsince.trans (congrArg Metro.since hm), (hmove.rd (by simp)).trans (s.rd_periodLoaded m at_), hbase.trans (congrArg Metro.base hm),
      fun hn => absurd hn (by simp), fun e he => ?_⟩
    obtain rfl : d = e := Option.some.inj he
    exact State.wrapMoved_wrap _ m _

end

section
variable {s : State} {m : MetroId}

/-- What follows the note of a zero leaves the note. -/
theorem State.zeroNoted_changes (at_ : Nat) {u : State} {ks : List Nat} (h : Changes [.metros] ks (s.zeroNoted m at_) u)
    (hks : ∀ k ∈ ks, k ∈ [ob (0x8000 + m.val) 0x01, ob (0x8000 + m.val) 0x05, ob (0x8000 + m.val) 0x07, ob (0x8000 + m.val) 0x0A]) :
    Changes [.metros] (zeroKeys m) s u ∧ u.rd (ob (0x8000 + m.val) 0x10) = at_ := by
  refine ⟨((s.wr_changes _ _).trans h).mono (by simp) fun k hk => ?_, (h.rd fun e => ?_).trans (State.rd_wr_self _ _ _)⟩
  · obtain hk | hk := List.mem_append.1 hk
    · rw [List.mem_singleton.1 hk]
      simp [zeroKeys]
    · exact List.mem_append_left [ob (0x8000 + m.val) 0x10] (hks k hk)
  · simpa using hks _ e

theorem State.zeroTaken_of_triangle (h : s.rd (ob (0x8000 + m.val) 0x02) = 2) (at_ : Nat) :
    Changes [.metros] (zeroKeys m) s (s.zeroTaken m at_) ∧ (∀ n : MetroId, n ≠ m → (s.zeroTaken m at_).metros[n]'n.isLt = s.metros[n]'n.isLt) ∧
    (s.zeroTaken m at_).rd (ob (0x8000 + m.val) 0x10) = at_ ∧
    (s.zeroTaken m at_).rd (ob (0x8000 + m.val) 0x01) = s.rd (ob (0x8000 + m.val) 0x01) ∧ ((s.zeroTaken m at_).metros[m]'m.isLt).since = at_ ∧
    (s.zeroTaken m at_).rd (ob (0x8000 + m.val) 0x07) = 1 ∧ ((s.zeroTaken m at_).metros[m]'m.isLt).base = 0 := by
  have hm : ((s.zeroNoted m at_).turnedUp m at_).metros[m]'m.isLt = _ := State.setMetro_metros _ m _
  have hturn := (s.zeroNoted m at_).turnedUp_changes m at_
  obtain ⟨hch, h10⟩ := State.zeroNoted_changes at_ hturn (by simp)
  unfold State.zeroTaken
  rw [if_pos h]
  exact ⟨hch, State.other_metros s (u := (s.zeroNoted m at_).wr _ _) m rfl, h10, (hturn.rd (by simp)).trans (s.rd_zeroNoted m at_ (by decide)),
    congrArg Metro.since hm, by simp [State.turnedUp], congrArg Metro.base hm⟩

theorem State.zeroTaken_of_shot (h : s.rd (ob (0x8000 + m.val) 0x02) = 1) (at_ : Nat) :
    Changes [.metros] (zeroKeys m) s (s.zeroTaken m at_) ∧ (∀ n : MetroId, n ≠ m → (s.zeroTaken m at_).metros[n]'n.isLt = s.metros[n]'n.isLt) ∧
    (s.zeroTaken m at_).rd (ob (0x8000 + m.val) 0x10) = at_ ∧ (s.zeroTaken m at_).rd (ob (0x8000 + m.val) 0x01) = 0 ∧
    (s.zeroTaken m at_).metros[m]'m.isLt = { s.metros[m]'m.isLt with base := 0, since := at_, wrap := none } := by
  obtain ⟨hch, h10⟩ := State.zeroNoted_changes at_ ((s.zeroNoted m at_).shotEnded_changes m at_) (by simp)
  unfold State.zeroTaken
  rw [if_neg (by omega), State.reload_of_shot ((s.rd_zeroNoted m at_ (by decide)).trans h)]
  exact ⟨hch, State.other_metros s (u := (s.zeroNoted m at_).wr _ _) m rfl, h10, by simp [State.shotEnded], State.setMetro_metros _ m _⟩

theorem State.zeroTaken_of_down (h2 : s.rd (ob (0x8000 + m.val) 0x02) ≠ 2) (h1 : s.rd (ob (0x8000 + m.val) 0x02) ≠ 1) (at_ : Nat) :
    Changes [.metros] (zeroKeys m) s (s.zeroTaken m at_) ∧ (∀ n : MetroId, n ≠ m → (s.zeroTaken m at_).metros[n]'n.isLt = s.metros[n]'n.isLt) ∧
    (s.zeroTaken m at_).rd (ob (0x8000 + m.val) 0x10) = at_ ∧
    (s.zeroTaken m at_).rd (ob (0x8000 + m.val) 0x01) = s.rd (ob (0x8000 + m.val) 0x01) ∧ ((s.zeroTaken m at_).metros[m]'m.isLt).since = at_ ∧
    (s.zeroTaken m at_).rd (ob (0x8000 + m.val) 0x05) = s.rd (ob (0x8000 + m.val) 0x04) ∧
    ((s.zeroTaken m at_).metros[m]'m.isLt).base = s.rd (ob (0x8000 + m.val) 0x04) ∧
    ((s.metros[m]'m.isLt).wrap = none → (s.zeroTaken m at_).rd (ob (0x8000 + m.val) 0x0A) = s.rd (ob (0x8000 + m.val) 0x0A) ∧
      ((s.zeroTaken m at_).metros[m]'m.isLt).wrap = none) ∧
    ∀ d, (s.metros[m]'m.isLt).wrap = some d →
      if 1 ≤ d + (s.rd (ob (0x8000 + m.val) 0x04) : Int) then
        (s.zeroTaken m at_).rd (ob (0x8000 + m.val) 0x0A) = (d + (s.rd (ob (0x8000 + m.val) 0x04) : Int)).toNat ∧
          ((s.zeroTaken m at_).metros[m]'m.isLt).wrap = none
      else ((s.zeroTaken m at_).metros[m]'m.isLt).wrap = some (d + (s.rd (ob (0x8000 + m.val) 0x04) : Int)) := by
  have hmode : (s.zeroNoted m at_).rd (ob (0x8000 + m.val) 0x02) = s.rd (ob (0x8000 + m.val) 0x02) := s.rd_zeroNoted m at_ (by decide)
  obtain ⟨hload, hothers, hsince, h5, hbase, hnone, hsome⟩ := State.reload_down (s := s.zeroNoted m at_) (m := m) at_ (by rwa [hmode])
  obtain ⟨hch, h10⟩ := State.zeroNoted_changes at_ hload (by simp)
  have h4 : (s.zeroNoted m at_).rd (ob (0x8000 + m.val) 0x04) = s.rd (ob (0x8000 + m.val) 0x04) := s.rd_zeroNoted m at_ (by decide)
  have hA : (s.zeroNoted m at_).rd (ob (0x8000 + m.val) 0x0A) = s.rd (ob (0x8000 + m.val) 0x0A) := s.rd_zeroNoted m at_ (by decide)
  rw [h4] at h5 hbase
  simp only [h4, hA] at hnone hsome
  unfold State.zeroTaken
  rw [if_neg h2]
  exact ⟨hch, hothers, h10, (hload.rd (by simp)).trans (s.rd_zeroNoted m at_ (by decide)), hsince, h5, hbase, hnone, hsome⟩

end

/-! ### TOP (R452) -/

section
variable (s : State) (m : MetroId) (at_ : Nat)

/-- A TRIANGLE at its top turns down. -/
def State.turnedDown : State :=
  (s.wr (ob (0x8000 + m.val) 0x07) 0).setMetro m (fun x => { x with base := s.rd (ob (0x8000 + m.val) 0x05), since := at_ })

theorem State.metroTurn_of_due {s : State} {m : MetroId} {at_ : Nat} (h : s.metroDue m (s.topAt m) = some at_) :
    s.metroTurn m = some ((s.turnedDown m at_).metroRaise m 2 at_ (s.rd (ob (0x8000 + m.val) 0x05)) true) := by
  unfold State.metroTurn
  simp only [h]
  rfl

theorem State.turnedDown_metros :
    (s.turnedDown m at_).metros[m]'m.isLt = { s.metros[m]'m.isLt with base := s.rd (ob (0x8000 + m.val) 0x05), since := at_ } :=
  State.setMetro_metros _ m _

theorem State.turnedDown_changes : Changes [.metros] [ob (0x8000 + m.val) 0x07] s (s.turnedDown m at_) :=
  ((s.wr_changes _ _).trans (State.setMetro_changes _ _ _)).mono (by simp) (by simp)

end

theorem exec_metro {o : Option State} {s u : State} (h : o = some u) : done (o.getD s) = .next u.settle := by rw [h]; rfl

theorem exec_metro_of_none {o : Option State} {s : State} (h : o = none) : done (o.getD s) = .next s.settle := by rw [h]; rfl

/-! ### The statement -/

/-- Settles O12, event by event, and what an announcement is. -/
theorem metronomeEvents : Obligations.MetronomeEvents := by
  unfold Obligations.MetronomeEvents
  refine ⟨?compare, ?zero, ?top, ?none, ?announce⟩
  case compare =>
    intro s m hrun hc hpos
    obtain ⟨hat, hle⟩ := State.compareAt_of_matches hrun hc hpos
    obtain ⟨hbase, hsince⟩ := s.matched_count m (s.matchInstant m)
    exact ⟨_, exec_metro (State.metroMatch_of_due hat hle), s.matched_changes m _, s.matched_others m _, hbase, hsince,
      s.matched_compare m _⟩
  case zero =>
    intro s m hrun hup hle hfirst
    have hat : s.zeroAt m = some ((s.metros[m]'m.isLt).since + (s.metros[m]'m.isLt).base * s.metroUnit m) := by
      refine if_neg ?_
      simp [State.metroUp, hrun, hup]
    have hdue := (congrArg (s.metroDue m) hat).trans (State.metroDue_of_clear hle hfirst)
    refine ⟨_, exec_metro (State.metroZero_of_due hdue), ?_⟩
    by_cases h2 : s.rd (ob (0x8000 + m.val) 0x02) = 2
    · obtain ⟨hch, hothers, h10, h1, hsince, h7, hbase⟩ := State.zeroTaken_of_triangle h2
        ((s.metros[m]'m.isLt).since + (s.metros[m]'m.isLt).base * s.metroUnit m)
      exact ⟨hch, hothers, h10, hsince, (if_pos h2).mpr ⟨h1.trans hrun, h7, hbase⟩⟩
    by_cases h1 : s.rd (ob (0x8000 + m.val) 0x02) = 1
    · obtain ⟨hch, hothers, h10, hstate, hm⟩ := State.zeroTaken_of_shot h1 ((s.metros[m]'m.isLt).since + (s.metros[m]'m.isLt).base * s.metroUnit m)
      exact ⟨hch, hothers, h10, congrArg Metro.since hm,
        (if_neg h2).mpr ((if_pos h1).mpr ⟨hstate, congrArg Metro.base hm, congrArg Metro.wrap hm⟩)⟩
    · obtain ⟨hch, hothers, h10, hstate, hsince, h5, hbase, hnone, hsome⟩ := State.zeroTaken_of_down h2 h1
        ((s.metros[m]'m.isLt).since + (s.metros[m]'m.isLt).base * s.metroUnit m)
      exact ⟨hch, hothers, h10, hsince, (if_neg h2).mpr ((if_neg h1).mpr ⟨hstate.trans hrun, h5, hbase, hnone, hsome⟩)⟩
  case top =>
    intro s m hrun hup hle hfirst
    have hat : s.topAt m =
        some ((s.metros[m]'m.isLt).since + (s.rd (ob (0x8000 + m.val) 0x05) - (s.metros[m]'m.isLt).base) * s.metroUnit m) := by
      refine if_neg ?_
      simp [State.metroUp, hrun, hup]
    have hdue := (congrArg (s.metroDue m) hat).trans (State.metroDue_of_clear hle hfirst)
    have hm := s.turnedDown_metros m
      ((s.metros[m]'m.isLt).since + (s.rd (ob (0x8000 + m.val) 0x05) - (s.metros[m]'m.isLt).base) * s.metroUnit m)
    exact ⟨_, exec_metro (State.metroTurn_of_due hdue), s.turnedDown_changes m _, s.other_metros (u := s.wr _ _) m rfl,
      by simp [State.turnedDown], congrArg Metro.base hm, congrArg Metro.since hm⟩
  case none =>
    refine fun s m => ⟨fun h => exec_metro_of_none (State.metroMatch_of_none h), fun h => exec_metro_of_none ?_,
      fun h => exec_metro_of_none ?_⟩
    · unfold State.metroZero
      rw [State.metroDue_of_none h]
    · unfold State.metroTurn
      rw [State.metroDue_of_none h]
  case announce =>
    intro s m j at_ n up
    have hown : (∀ o, s.metroTenant m = some o → s.tenantState o ≠ 2) →
        ∀ o, s.metroTenant m = some o → (s.metroAwake m j).tenantState o ≠ 2 := fun h o ho => by
      rw [State.metroAwake_tenantState]
      exact h o ho
    refine ⟨s.drivePins_changes m j, fun hup ho => ?_, fun o ho hst => ?_, fun hup ho => ⟨fun hheld => ?_, fun hheld => ?_⟩⟩
    · rw [s.metroRaise_eq, State.metroAnnounce_of_up (hown ho) (by rw [State.up, State.metroAwake_rst]; exact hup)]
      rfl
    · rw [s.metroRaise_eq, ho, State.metroAnnounce_of_resetting (by rw [State.metroAwake_tenantState]; exact hst)]
      rfl
    · rw [s.metroRaise_eq, State.metroAnnounce_of_down (hown ho) (by rw [State.up, State.metroAwake_rst]; exact hup) hheld]
      rfl
    · rw [s.metroRaise_eq, State.metroAnnounce_of_held (hown ho) (by rw [State.up, State.metroAwake_rst]; exact hup) hheld]
      exact ⟨_, rfl, State.heldReplaced_changes _ _ _ _, rfl⟩

end Sys2Proof.Machine
end

section
/-! PROOFS. Changeovers of the supplies and of VIO (chapter 21), and the statement `SupplyChangeovers`. -/

namespace Sys2Proof.Machine

set_option Elab.async false -- as tasks, the proofs would each hold memory of their own until the end of the text

/-! ### Several values stored -/

theorem State.rd_wrAll_zero {l : List (Nat × Nat)} {k : Nat} (hl : ∀ p ∈ l, p.2 = 0) (s : State) (h : k ∈ l.map Prod.fst ∨ s.rd k = 0) :
    (s.wrAll l).rd k = 0 := by
  induction l generalizing s with
  | nil => simpa using h
  | cons p l ih =>
    rw [State.wrAll_cons]
    refine ih (fun q hq => hl q (List.mem_cons_of_mem _ hq)) _ ?_
    by_cases hk : k = p.1
    · right
      rw [hk, State.rd_wr_self]
      exact hl p List.mem_cons_self
    · rw [State.rd_wr_other _ _ hk]
      simpa [hk] using h

theorem State.foldl_wrAll {α : Type} (f : α → List (Nat × Nat)) (l : List α) (s : State) :
    l.foldl (fun s a => s.wrAll (f a)) s = s.wrAll (l.flatMap f) := by
  simp [State.wrAll, List.foldl_flatMap]

/-! ### The supplies (R554, R559) -/

theorem State.noteGood_changes (s : State) (a b : Nat) : Changes [.power] [] s (s.noteGood a b) := s.withPower_changes _

/-- The source taken and its voltage recorded. -/
def State.sourceTaken (s : State) (here : Bool) (n mv : Nat) : State :=
  ({ s with power := { s.power with lineHere := here } } : State).wrAll [(ob 0x1060 0x01, n), (ob 0x1060 0x04, mv)]

section
variable (s : State) (here : Bool) (n mv : Nat)

theorem State.sourceTaken_changes : Changes [.power] [ob 0x1060 0x01, ob 0x1060 0x04] s (s.sourceTaken here n mv) :=
  ((s.withPower_changes _).trans (State.wrAll_changes _ _)).mono (by simp) (by simp)

theorem State.rd_sourceTaken : (s.sourceTaken here n mv).rd (ob 0x1060 0x01) = n ∧ (s.sourceTaken here n mv).rd (ob 0x1060 0x04) = mv := by
  simp [State.sourceTaken, State.rd_wr]

theorem State.sourceTaken_now : (s.sourceTaken here n mv).now = s.now :=
  (s.sourceTaken_changes here n mv).now (by simp) (by simp) (by simp)

/-- The source taken, and since when a supply is good. -/
def State.sourceGood (a b : Nat) : State := (s.sourceTaken here n mv).noteGood a b

theorem State.sourceGood_changes (a b : Nat) : Changes [.power] [ob 0x1060 0x01, ob 0x1060 0x04] s (s.sourceGood here n mv a b) :=
  ((s.sourceTaken_changes here n mv).trans (State.noteGood_changes _ a b)).mono (by simp) (by simp)

theorem State.sourceGood_power (a b : Nat) : (s.sourceGood here n mv a b).power =
    { s.power with lineHere := here, goodSince := if 2700 ≤ a ∨ 7000 ≤ b then some (s.power.goodSince.getD s.now) else none } := by
  change ({ (s.sourceTaken here n mv).power with
    goodSince := if (decide (2700 ≤ a) || decide (7000 ≤ b)) = true then
      some ((s.sourceTaken here n mv).power.goodSince.getD (s.sourceTaken here n mv).now) else none } : Power) = _
  rw [State.sourceTaken_now]
  simp only [Bool.or_eq_true, decide_eq_true_eq]
  rfl

end

theorem exec_vlinePresent {s : State} {mv : Nat} (h7 : 7000 ≤ mv) (h40 : mv ≤ 40000) (hp : s.power.powered = true)
    (hl : s.power.lineHere = false) :
    exec (.vlinePresent mv) s = .next (((s.sourceGood true 2 mv 0 mv).wakeBy 7).raise 1251 [0] []).settle :=
  (if_neg (by omega)).trans (if_neg (by simp [hp, hl]; omega))

theorem exec_vlineLost {s : State} {mv : Nat} (h6 : mv < 6000) (hp : s.power.powered = true) (hl : s.power.lineHere = true) :
    exec (.vlineLost mv) s = .next (((s.sourceGood false 1 mv (s.rd (ob 0x1060 0x02)) 0).wakeBy 7).raise 1250 [0] []).settle :=
  if_neg (by simp [hp, hl]; omega)

/-! ### VIO (R555, R587) -/

/-- VIO recorded, within range (1) or not (0). -/
def State.vioNoted (s : State) (mv n : Nat) : State := s.wrAll [(ob 0x1060 0x05, mv), (ob 0x1060 0x06, n)]

theorem State.vioNoted_changes (s : State) (mv n : Nat) : Changes [] [ob 0x1060 0x05, ob 0x1060 0x06] s (s.vioNoted mv n) :=
  s.wrAll_changes _

theorem State.rd_vioNoted (s : State) (mv n : Nat) : (s.vioNoted mv n).rd (ob 0x1060 0x05) = mv ∧ (s.vioNoted mv n).rd (ob 0x1060 0x06) = n := by
  simp [State.vioNoted, State.rd_wr]

theorem vioGood_iff (mv : Nat) : vioGood mv = true ↔ (1620 ≤ mv ∧ mv ≤ 1980) ∨ (2970 ≤ mv ∧ mv ≤ 3630) := by
  simp [vioGood]

theorem exec_vioPresent {s : State} {mv : Nat} (h : (1620 ≤ mv ∧ mv ≤ 1980) ∨ (2970 ≤ mv ∧ mv ≤ 3630)) : exec (.vioPresent mv) s =
    .next (if s.rd (ob 0x1060 0x06) = 0 ∧ s.power.powered = true ∧ s.pins.gpHeld = false then (s.vioNoted mv 1).applyPins true
      else s.vioNoted mv 1).settle := by
  refine (if_neg (by omega)).trans ((if_neg (by simp [(vioGood_iff mv).2 h])).trans ?_)
  refine congrArg done (if_congr ?_ rfl rfl)
  simp [State.isOn, and_assoc]

/-- The values of general pins, level and state, each 0. -/
def pinsZero (l : List Nat) : List (Nat × Nat) := l.flatMap (fun g => [(ob (0x1090 + g) 0x08, 0), (ob (0x1090 + g) 0x05, 0)])

/-- VIO recorded as lost, the general pins 0, RESET_N released and the host's transaction given up. -/
def State.vioGone (s : State) (mv : Nat) (l : List Nat) : State :=
  let s := (s.vioNoted mv 0).wrAll (pinsZero l)
  { s with pins := { s.pins with resetLow := false }, host := { s.host with selected := false, sent := [] } }

theorem ends_vioLost {s : State} {mv : Nat} (h4 : mv ≤ 4000) (h : ¬((1620 ≤ mv ∧ mv ≤ 1980) ∨ (2970 ≤ mv ∧ mv ≤ 3630)))
    (hon : s.rd (ob 0x1060 0x06) ≠ 0) : Ends (.vioLost mv) s (s.vioGone mv (List.range 16)) := by
  have hbad : vioGood mv = false := Bool.eq_false_iff.2 fun e => h ((vioGood_iff mv).1 e)
  have hison : s.isOn (ob 0x1060 0x06) = true := bne_iff_ne.2 hon
  have hfold := State.foldl_wrAll (fun g => [(ob (0x1090 + g) 0x08, 0), (ob (0x1090 + g) 0x05, 0)]) (List.range 16) (s.vioNoted mv 0)
  unfold Ends State.vioGone pinsZero
  rw [← hfold]
  exact (if_neg (by omega)).trans (if_neg (by simp [hbad, hison]))

theorem pinsZero_keys (l : List Nat) :
    (pinsZero l).map Prod.fst = l.flatMap (fun g => [ob (0x1090 + g) 0x08, ob (0x1090 + g) 0x05]) := by
  rw [pinsZero, List.map_flatMap]
  rfl

theorem mem_pinsZero {l : List Nat} {p : Nat × Nat} (h : p ∈ pinsZero l) : p.2 = 0 := by
  obtain ⟨g, -, hp⟩ := List.mem_flatMap.1 h
  obtain rfl | rfl := by simpa using hp
  all_goals rfl

section
variable (s : State) (mv : Nat) (l : List Nat)

theorem State.vioGone_changes : Changes [.pins, .host] (ob 0x1060 0x05 :: ob 0x1060 0x06 ::
    l.flatMap (fun g => [ob (0x1090 + g) 0x08, ob (0x1090 + g) 0x05])) s (s.vioGone mv l) := by
  have h := (s.vioNoted_changes mv 0).trans (State.wrAll_changes (s.vioNoted mv 0) (pinsZero l))
  rw [pinsZero_keys] at h
  refine ⟨h.1, fun p hp => ?_, fun k hk => h.rd hk⟩
  have hsame : p.same s ((s.vioNoted mv 0).wrAll (pinsZero l)) := h.same (by simp)
  cases p
  case pins => exact absurd (by simp) hp
  case host => exact absurd (by simp) hp
  all_goals exact hsame

theorem State.rd_vioGone_vio : (s.vioGone mv l).rd (ob 0x1060 0x05) = mv ∧ (s.vioGone mv l).rd (ob 0x1060 0x06) = 0 := by
  have hne : ∀ n ∈ [0x05, 0x06], ob 0x1060 n ∉ (pinsZero l).map Prod.fst := by
    intro n hn
    rw [pinsZero_keys, List.mem_flatMap]
    rintro ⟨g, -, hmem⟩
    have hidx : 0x1060 = 0x1090 + g := by
      obtain h | h := by simpa using hmem
      · exact ((ob_inj (by simp at hn; omega) (by decide)).1 h).1
      · exact ((ob_inj (by simp at hn; omega) (by decide)).1 h).1
    omega
  have h := State.wrAll_changes (s.vioNoted mv 0) (pinsZero l)
  exact ⟨(h.rd (hne _ (by simp))).trans (s.rd_vioNoted mv 0).1, (h.rd (hne _ (by simp))).trans (s.rd_vioNoted mv 0).2⟩

theorem State.rd_vioGone_pins {g : Nat} (hg : g ∈ l) :
    (s.vioGone mv l).rd (ob (0x1090 + g) 0x08) = 0 ∧ (s.vioGone mv l).rd (ob (0x1090 + g) 0x05) = 0 := by
  have hmem : ∀ n ∈ [0x08, 0x05], ob (0x1090 + g) n ∈ (pinsZero l).map Prod.fst := fun n hn => by
    rw [pinsZero_keys, List.mem_flatMap]
    obtain rfl | rfl := by simpa using hn
    · exact ⟨g, hg, List.mem_cons_self⟩
    · exact ⟨g, hg, List.mem_cons_of_mem _ List.mem_cons_self⟩
  exact ⟨State.rd_wrAll_zero (fun p hp => mem_pinsZero hp) _ (.inl (hmem _ (by simp))),
    State.rd_wrAll_zero (fun p hp => mem_pinsZero hp) _ (.inl (hmem _ (by simp)))⟩

theorem State.vioGone_parts : (s.vioGone mv l).pins = { s.pins with resetLow := false } ∧
    (s.vioGone mv l).host = { s.host with selected := false, sent := [] } := by
  simp [State.vioGone, State.vioNoted]

end

/-- Settles O16: the changeovers of VLINE and of VIO, and the voltages above the ratings. -/
theorem supplyChangeovers : Obligations.SupplyChangeovers := by
  unfold Obligations.SupplyChangeovers
  refine ⟨?present, ?lost, ?vio, ?vioLost, ?ratings, fun s mv h => if_pos h, fun s mv h => if_pos h, fun s mv h => ⟨if_pos h, if_pos h⟩⟩
  case present =>
    intro s mv h7 h40 hp hl
    refine ⟨_, exec_vlinePresent h7 h40 hp hl, s.sourceGood_changes _ _ _ _ _, (s.rd_sourceTaken true 2 mv).1, (s.rd_sourceTaken true 2 mv).2, ?_⟩
    rw [State.sourceGood_power, if_pos (.inr h7)]
  case lost =>
    intro s mv h6 hp hl
    have hpow := s.sourceGood_power false 1 mv (s.rd (ob 0x1060 0x02)) 0
    refine ⟨_, exec_vlineLost h6 hp hl, s.sourceGood_changes _ _ _ _ _, (s.rd_sourceTaken false 1 mv).1, (s.rd_sourceTaken false 1 mv).2,
      congrArg Power.lineHere hpow, (congrArg Power.goodSince hpow).trans (if_congr ?_ rfl rfl)⟩
    omega
  case vio =>
    exact fun s mv h => ⟨s.vioNoted mv 1, exec_vioPresent h, s.vioNoted_changes mv 1, s.rd_vioNoted mv 1⟩
  case vioLost =>
    intro s mv h4 h hon
    exact ⟨_, ends_vioLost h4 h hon, (s.rd_vioGone_vio mv _).1, (s.rd_vioGone_vio mv _).2,
      fun g hg => s.rd_vioGone_pins mv _ (List.mem_range.2 hg), (s.vioGone_parts mv _).1, (s.vioGone_parts mv _).2, s.vioGone_changes mv _⟩
  case ratings => exact fun s a b h => ⟨if_pos h, if_pos h⟩

end Sys2Proof.Machine
end

section
/-! PROOFS. VBAT samples, the minute's minimum and the energy figures (chapter 21), and the statement `BatteryAndEnergy`. -/

namespace Sys2Proof.Machine

set_option Elab.async false -- as tasks, the proofs would each hold memory of their own until the end of the text

/-! ### A sample (R557) -/

section
variable (s : State) (mv : Nat)

/-- A sample recorded, with the minute's minimum. -/
def State.sampled : State :=
  { s.wr (ob 0x1060 0x02) mv with power := { s.power with minuteMin := some (min mv (s.power.minuteMin.getD mv)) } }

theorem State.sampled_changes : Changes [.power] [ob 0x1060 0x02] s (s.sampled mv) :=
  (s.wr_changes _ _).trans (State.withPower_changes _ _)

/-- The interval of the next sample. -/
def State.sampleEvery : Nat := if s.runState = 2 ∨ s.runState = 3 then 1000000 else 100

/-- A sample with the next one set, and since when a supply is good. -/
def State.sampleTaken : State :=
  ((s.sampled mv).armIn .vbatSample (s.sampled mv).sampleEvery).noteGood mv (if s.power.lineHere then s.rd (ob 0x1060 0x04) else 0)

theorem State.sampleTaken_changes : Changes [.power, .timers] [ob 0x1060 0x02] s (s.sampleTaken mv) :=
  (((s.sampled_changes mv).trans (State.armIn_changes _ _ _)).trans (State.noteGood_changes _ _ _)).mono (by simp) (fun _ h => h)

theorem State.sampleTaken_dueAt : (s.sampleTaken mv).dueAt .vbatSample = some (s.now + s.sampleEvery) := by
  have hnow : (s.sampled mv).now = s.now := (s.sampled_changes mv).now (by simp) (by simp) (by simp)
  have hrun : (s.sampled mv).runState = s.runState := (s.sampled_changes mv).rd (by simp)
  refine (State.armIn_dueAt hnow _ _).trans ?_
  rw [State.sampleEvery, hrun]
  rfl

theorem State.sampleTaken_power : (s.sampleTaken mv).power.minuteMin = some (min mv (s.power.minuteMin.getD mv)) ∧
    (s.sampleTaken mv).power.shedding = s.power.shedding := ⟨rfl, rfl⟩

theorem State.rd_sampleTaken : (s.sampleTaken mv).rd (ob 0x1060 0x02) = mv := State.rd_wr_self _ _ _

theorem ends_vbatSample {s : State} {mv : Nat} (hmv : mv ≤ 4500) (hdue : s.isDue .vbatSample = true) :
    Ends (.vbatSample mv) s ((s.sampleTaken mv).shedSample mv) := by
  have hline : ((s.sampled mv).armIn .vbatSample (s.sampled mv).sampleEvery).rd (ob 0x1060 0x04) = s.rd (ob 0x1060 0x04) :=
    (s.sampled_changes mv).rd (by simp)
  unfold Ends State.sampleTaken
  rw [← hline]
  exact (if_neg (by omega)).trans (if_neg (by simp [hdue]))

/-! ### Shedding (R558) -/

/-- Whether a sample begins an episode of shedding. -/
def State.shedStarts : Bool :=
  !s.power.shedding && s.rd (ob 0x1060 0x07) == 1 && s.rd (ob 0x1060 0x01) == 1 && decide (mv < s.shedMv)

/-- An episode of shedding begun and counted. -/
def State.shedBegun : State := { s.inc (ob 0x1060 0x08) with power := { s.power with shedding := true } }

theorem State.shedBegun_changes : Changes [.power] [ob 0x1060 0x08] s s.shedBegun := (s.inc_changes _).trans (State.withPower_changes _ _)

/-- Shedding begun where a sample begins it. -/
def State.shedMoved : State := if s.shedStarts mv then s.shedBegun else s

/-- The end of shedding timed. -/
def State.shedTimed : State :=
  if !s.power.shedding then s
  else if s.shedMv + 100 ≤ mv then (if s.isArmed .shed then s else s.armIn .shed 10000)
  else s.cancel .shed

theorem State.shedSample_eq : s.shedSample mv = (s.shedMoved mv).shedTimed mv := rfl

theorem State.shedMoved_changes : Changes [.power] [ob 0x1060 0x08] s (s.shedMoved mv) :=
  Changes.ite s.shedBegun_changes ((Changes.refl s).mono (by simp) (by simp))

theorem State.shedTimed_changes : Changes [.timers] [] s (s.shedTimed mv) :=
  have hno : Changes [.timers] [] s s := (Changes.refl s).mono (by simp) (fun _ h => h)
  Changes.ite hno (Changes.ite (Changes.ite hno (s.armIn_changes _ _)) (s.cancel_changes _))

theorem State.shedTimed_dueAt : (s.shedTimed mv).dueAt .vbatSample = s.dueAt .vbatSample := by
  unfold State.shedTimed
  split
  · rfl
  · split
    · split
      · rfl
      · exact State.arm_dueAt_other _ _ (by decide)
    · exact State.cancel_dueAt_other _ (by decide)

theorem State.shedTimed_isArmed (h : s.power.shedding = true) : (s.shedTimed mv).isArmed .shed = true ↔ s.shedMv + 100 ≤ mv := by
  unfold State.shedTimed
  rw [if_neg (by simp [h])]
  by_cases hmv : s.shedMv + 100 ≤ mv
  · rw [if_pos hmv]
    refine iff_of_true ?_ hmv
    split
    · next harm => exact harm
    · exact State.arm_isArmed _ _ _
  · rw [if_neg hmv, State.cancel_isArmed]
    exact iff_of_false (by simp) hmv

variable {s mv}

theorem State.shedMoved_of_start (h : s.shedStarts mv = true) : s.shedMoved mv = s.shedBegun := if_pos h

theorem State.shedMoved_of_not (h : s.shedStarts mv = false) : s.shedMoved mv = s := if_neg (Bool.eq_false_iff.1 h)

theorem State.shedStarts_iff : (s.sampleTaken mv).shedStarts mv = true ↔
    s.power.shedding = false ∧ s.rd (ob 0x1060 0x07) = 1 ∧ s.rd (ob 0x1060 0x01) = 1 ∧ mv < s.rd (ob 0x1061 0x02) := by
  have hrd := fun k (hk : k ∉ [ob 0x1060 0x02]) => (s.sampleTaken_changes mv).rd hk
  rw [State.shedStarts, State.shedMv, hrd _ (by simp), hrd _ (by simp), hrd _ (by simp), (s.sampleTaken_power mv).2]
  simp [and_assoc]

end

/-! ### The minute's minimum (R557) -/

section
variable (s : State) (m d : Nat)

/-- The minute's minimum recorded, the next minute set. -/
def State.minuteEnded : State :=
  { (s.arm .minute (d + 60000000)).wr (ob 0x1060 0x03) m with power := { s.power with minuteMin := none } }

theorem State.minuteEnded_changes : Changes [.power, .timers] [ob 0x1060 0x03] s (s.minuteEnded m d) :=
  (((s.arm_changes _ _).trans (State.wr_changes _ _ _)).trans (State.withPower_changes _ _)).mono (by simp) (fun _ h => h)

theorem State.minuteEnded_dueAt : (s.minuteEnded m d).dueAt .minute = some (d + 60000000) := State.arm_dueAt s _ _

/-- What the minute's minimum brings about. -/
def State.minuteJudged : State :=
  if m < s.rd (ob 0x1061 0x01) then
    (if s.causeIn 145 0 then s
     else if s.isPending 145 0 then (s.wakeBy 7).fault 145 m else ((s.wakeBy 7).raise 1249 [0] []).fault 145 m)
  else if s.rd (ob 0x1061 0x01) + 50 ≤ m then s.causeEnd 145 else s

end

/-- A wake leaves the faults. -/
theorem State.wakeBy_isPending (s : State) (n f : Nat) (t : Tenant) : (s.wakeBy n).isPending f t = s.isPending f t := by
  unfold State.isPending
  rw [show (s.wakeBy n).faults = s.faults from (s.wakeBy_within n).same .faults (by decide)]

/-- The fault of a low minimum, with its event where it is not pending yet. -/
theorem State.minuteJudged_of_low {s : State} {m : Nat} (h : m < s.rd (ob 0x1061 0x01)) (hc : ¬ s.causeIn 145 0 = true) :
    s.minuteJudged m = (if (s.wakeBy 7).isPending 145 0 then s.wakeBy 7 else (s.wakeBy 7).raise 1249 [0] []).fault 145 m := by
  refine (if_pos h).trans ((if_neg hc).trans ?_)
  rw [State.wakeBy_isPending, apply_ite (fun u : State => u.fault 145 m)]

theorem exec_vbatMinuteEnd {s : State} {m d : Nat} (hd : s.dueAt .minute = some d) (hle : d ≤ s.now) (hm : s.power.minuteMin = some m) :
    exec .vbatMinuteEnd s = .next ((s.minuteEnded m d).minuteJudged m).settle := by
  have hdue := State.isDue_of_le hd hle
  change execVbatMinuteEnd s = done ((s.minuteEnded m d).minuteJudged m)
  unfold execVbatMinuteEnd
  rw [if_neg (by simp [hdue]), hd]
  change (match s.power.minuteMin with | none => _ | some m => _) = _
  rw [hm]
  change (if m < (s.minuteEnded m d).rd (ob 0x1061 0x01) then _ else _) = _
  by_cases h1 : m < (s.minuteEnded m d).rd (ob 0x1061 0x01)
  · by_cases h2 : (s.minuteEnded m d).causeIn 145 0 = true
    · exact ((if_pos h1).trans (if_pos h2)).trans (congrArg done ((if_pos h1).trans (if_pos h2)).symm)
    · exact ((if_pos h1).trans (if_neg h2)).trans (congrArg done (State.minuteJudged_of_low h1 h2).symm)
  · by_cases h3 : (s.minuteEnded m d).rd (ob 0x1061 0x01) + 50 ≤ m
    · exact ((if_neg h1).trans (if_pos h3)).trans (congrArg done ((if_neg h1).trans (if_pos h3)).symm)
    · exact ((if_neg h1).trans (if_neg h3)).trans (congrArg done ((if_neg h1).trans (if_neg h3)).symm)

/-! ### The energy figures (R565 to R570) -/

section
variable (s : State) (vb vl : Nat)

/-- The energies of the hour added, the next update set. -/
def State.energyAdded : State := ((s.armIn .hourly 3600000000).add (ob 0x1070 0x01) vb).add (ob 0x1070 0x02) vl

theorem State.energyAdded_changes : Changes [.timers] [ob 0x1070 0x01, ob 0x1070 0x02] s (s.energyAdded vb vl) :=
  ((s.armIn_changes _ _).trans (State.add_changes _ _ _)).trans (State.add_changes _ _ _)

theorem dict_bits_energy : Dict.bits (ob 0x1070 0x01) = 64 ∧ Dict.bits (ob 0x1070 0x02) = 64 := by decide

theorem State.rd_energyAdded (hb : s.rd (ob 0x1070 0x01) + vb < 2 ^ 64) (hl : s.rd (ob 0x1070 0x02) + vl < 2 ^ 64) :
    (s.energyAdded vb vl).rd (ob 0x1070 0x01) = s.rd (ob 0x1070 0x01) + vb ∧
    (s.energyAdded vb vl).rd (ob 0x1070 0x02) = s.rd (ob 0x1070 0x02) + vl := by
  have h2 : ((s.armIn .hourly 3600000000).add (ob 0x1070 0x01) vb).rd (ob 0x1070 0x02) = s.rd (ob 0x1070 0x02) :=
    State.rd_add_other _ _ (by simp)
  constructor
  · refine (State.rd_add_other _ _ (by simp)).trans (State.rd_add_self (s.armIn .hourly 3600000000) _ _ ?_)
    rw [dict_bits_energy.1]
    exact hb
  · refine (State.rd_add_self _ _ _ ?_).trans (congrArg (· + vl) h2)
    rw [dict_bits_energy.2, h2]
    exact hl

theorem State.energyAdded_dueAt : (s.energyAdded vb vl).dueAt .hourly = some (s.now + 3600000000) := by
  have h : (s.energyAdded vb vl).timers = (s.armIn .hourly 3600000000).timers :=
    ((State.add_changes _ _ _).same (p := .timers) (by simp)).trans ((State.add_changes _ _ _).same (p := .timers) (by simp))
  exact (State.dueAt_congr h _).trans (State.arm_dueAt _ _ _)

/-- The total of both energies. -/
def State.energyTotal : Nat := s.rd (ob 0x1070 0x01) + s.rd (ob 0x1070 0x02)

/-- The hourly bins with the newest, made of what has been added since the last. -/
def State.newBins : List Nat := (((s.energyTotal : Int) - s.power.binBase).toNat :: s.power.bins).take 168

/-- The newest bin entered, with the means of a day and a week. -/
def State.binned : State :=
  (({ s with power := { s.power with bins := s.newBins, binBase := s.energyTotal } } : State).wrFit (ob 0x1070 0x08)
    (meanPower s.newBins 24)).wrFit (ob 0x1070 0x09) (meanPower s.newBins 168)

theorem State.binned_changes : Changes [.power] [ob 0x1070 0x08, ob 0x1070 0x09] s s.binned :=
  ((s.withPower_changes _).trans (State.wrFit_changes _ _ _)).trans (State.wrFit_changes _ _ _)

theorem State.binned_power : s.binned.power = { s.power with bins := s.newBins, binBase := s.energyTotal } :=
  ((State.wrFit_changes _ _ _).same (p := .power) (by simp)).trans ((State.wrFit_changes _ _ _).same (p := .power) (by simp))

/-- The hourly update, before the pack's figures. -/
theorem State.hourly_changes : Changes [.power, .timers] [ob 0x1070 0x01, ob 0x1070 0x02, ob 0x1070 0x08, ob 0x1070 0x09] s
    (s.energyAdded vb vl).binned :=
  ((s.energyAdded_changes vb vl).trans (State.binned_changes _)).mono (by simp) (fun _ h => h)

theorem dict_bits_means : Dict.bits (ob 0x1070 0x08) = 32 ∧ Dict.bits (ob 0x1070 0x09) = 32 := by decide

theorem State.rd_binned : (meanPower s.newBins 24 < 2 ^ 32 → s.binned.rd (ob 0x1070 0x08) = meanPower s.newBins 24) ∧
    (meanPower s.newBins 168 < 2 ^ 32 → s.binned.rd (ob 0x1070 0x09) = meanPower s.newBins 168) := by
  refine ⟨fun h => ?_, fun h => ?_⟩
  · refine (State.rd_wrFit_other _ _ (by simp)).trans (State.rd_wrFit_self _ _ _ ?_)
    rwa [dict_bits_means.1]
  · refine State.rd_wrFit_self _ _ _ ?_
    rwa [dict_bits_means.2]

/-- A new pack: the energy from VBAT back to 0, the fitting instant entered for the NVA. -/
def State.packZeroed : State :=
  ({ s with power := { s.power with binBase := s.power.binBase - (s.rd (ob 0x1070 0x01) : Int) } } : State).wr (ob 0x1070 0x01) 0

theorem State.packZeroed_changes : Changes [.power] [ob 0x1070 0x01] s s.packZeroed :=
  (s.withPower_changes _).trans (State.wr_changes _ _ _)

theorem State.newPack_eq : s.newPack = s.packZeroed.wrKeep [(ob 0x1070 0x11, s.now)] := by
  have h : ({ s with power := { s.power with binBase := s.power.binBase - (s.rd (ob 0x1070 0x01) : Int) } } : State).now = s.now :=
    (s.withPower_changes _).now (by simp) (by simp) (by simp)
  rw [← h]
  rfl

theorem State.newPack_changes : Changes [.power, .order] [ob 0x1070 0x01, ob 0x1070 0x11] s s.newPack := by
  rw [s.newPack_eq]
  exact s.packZeroed_changes.trans (State.wrKeep_changes _ _)

theorem State.rd_newPack : s.newPack.rd (ob 0x1070 0x01) = 0 ∧ s.newPack.rd (ob 0x1070 0x11) = s.now := by
  rw [s.newPack_eq]
  exact ⟨((State.wrKeep_changes _ _).rd (by simp)).trans (State.rd_wr_self _ _ _),
    ((State.commit_changes _ _).rd (by simp)).trans (State.rd_wr_self _ _ _)⟩

theorem State.newPack_power : s.newPack.power = { s.power with binBase := s.power.binBase - (s.rd (ob 0x1070 0x01) : Int) } := by
  rw [s.newPack_eq]
  exact (State.wrKeep_changes _ _).same (p := .power) (by simp)

end

theorem exec_energyHourlyUpdate {s : State} {vb vl : Nat} (hdue : s.isDue .hourly = true) :
    exec (.energyHourlyUpdate vb vl) s = .next ((s.energyAdded vb vl).binned.packWrite).settle := if_neg (by simp [hdue])

theorem exec_energyReport {s : State} {d : Nat} (hd : s.dueAt .energyReport = some d) (hle : d ≤ s.now) (hn : 0 < s.rd (ob 0x1070 0x0F)) :
    exec .energyReport s = .next ((s.arm .energyReport (d + s.rd (ob 0x1070 0x0F) * 1000000)).raise 1253 [0] []).settle := by
  have hdue := State.isDue_of_le hd hle
  change execEnergyReport s = _
  unfold execEnergyReport
  rw [if_pos ⟨hdue, hn.ne'⟩, hd]
  rfl

/-! ### The statement -/

/-- Settles O17: samples and shedding, the minute's minimum, the hourly update, the report and a new pack. -/
theorem batteryAndEnergy : Obligations.BatteryAndEnergy := by
  unfold Obligations.BatteryAndEnergy
  refine ⟨?sample, ?shedEnd, ?minute, ?hourly, ?report, ?pack⟩
  case sample =>
    intro s mv hmv hdue
    have hmoved := (s.sampleTaken mv).shedMoved_changes mv
    have htimed := ((s.sampleTaken mv).shedMoved mv).shedTimed_changes mv
    have htaken := s.sampleTaken_changes mv
    have hpow : ((s.sampleTaken mv).shedSample mv).power = ((s.sampleTaken mv).shedMoved mv).power := htimed.same (p := .power) (by simp)
    have hmin : ((s.sampleTaken mv).shedMoved mv).power.minuteMin = (s.sampleTaken mv).power.minuteMin := by
      unfold State.shedMoved
      split <;> rfl
    have hb : Dict.bits (ob 0x1060 0x08) = 32 := by decide
    refine ⟨_, ends_vbatSample hmv hdue, ((htaken.trans hmoved).trans htimed).mono (by simp) (by simp), ?_, ?_, ?_, fun hs => ?_, fun hs => ?_,
      fun hs => ?_⟩
    · exact (htimed.rd (by simp)).trans ((hmoved.rd (by simp)).trans (s.rd_sampleTaken mv))
    · rw [hpow, hmin]
      exact (s.sampleTaken_power mv).1
    · refine (State.shedTimed_dueAt _ mv).trans ((State.dueAt_congr (hmoved.same (p := .timers) (by simp)) _).trans ?_)
      exact s.sampleTaken_dueAt mv
    · have hstart := State.shedMoved_of_start (State.shedStarts_iff.2 hs)
      refine ⟨by rw [hpow, hstart]; rfl, fun hn => (htimed.rd (by simp)).trans ?_⟩
      have hcount : (s.sampleTaken mv).rd (ob 0x1060 0x08) = s.rd (ob 0x1060 0x08) := htaken.rd (by simp)
      rw [hstart, ← hcount]
      refine State.rd_inc_self _ _ ?_
      rwa [hb, hcount]
    · have hnot := State.shedMoved_of_not (Bool.eq_false_iff.2 fun e => hs (State.shedStarts_iff.1 e))
      refine ⟨by rw [hpow, hnot]; rfl, (htimed.rd (by simp)).trans ?_⟩
      rw [hnot]
      exact htaken.rd (by simp)
    · have hmv : ((s.sampleTaken mv).shedMoved mv).shedMv = s.rd (ob 0x1061 0x02) := (hmoved.rd (by simp)).trans (htaken.rd (by simp))
      rw [hpow] at hs
      exact (State.shedTimed_isArmed _ mv hs).trans (by rw [hmv])
  case shedEnd =>
    intro s mv hs hdue hmv
    have hshed : s.shedMv + 100 ≤ mv := hmv
    exact ⟨{ s.cancel .shed with power := { s.power with shedding := false } }, if_pos (by simp [hs, hdue, hshed]),
      ((s.cancel_changes _).trans (State.withPower_changes _ _)).mono (by simp) (fun _ h => h), rfl, s.cancel_isArmed _⟩
  case minute =>
    intro s m d hd hle hm
    have hlow : (s.minuteEnded m d).rd (ob 0x1061 0x01) = s.rd (ob 0x1061 0x01) := (s.minuteEnded_changes m d).rd (by simp)
    have hexec := exec_vbatMinuteEnd hd hle hm
    unfold State.minuteJudged at hexec
    rw [hlow] at hexec
    exact ⟨_, s.minuteEnded_changes m d, State.rd_wr_self _ _ _, rfl, s.minuteEnded_dueAt m d, hexec⟩
  case hourly =>
    intro s vb vl hdue hb hl
    obtain ⟨h1, h2⟩ := s.rd_energyAdded vb vl hb hl
    have hadd := s.energyAdded_changes vb vl
    have hbin := (s.energyAdded vb vl).binned_changes
    have hpow : (s.energyAdded vb vl).power = s.power := hadd.same (p := .power) (by simp)
    have htotal : (s.energyAdded vb vl).energyTotal = s.rd (ob 0x1070 0x01) + vb + (s.rd (ob 0x1070 0x02) + vl) := by
      rw [State.energyTotal, h1, h2]
    have hbins := (s.energyAdded vb vl).rd_binned
    have hpower := (s.energyAdded vb vl).binned_power
    rw [State.newBins, hpow, htotal] at hbins hpower
    exact ⟨_, exec_energyHourlyUpdate hdue, s.hourly_changes vb vl, (hbin.rd (by simp)).trans h1, (hbin.rd (by simp)).trans h2, hpower,
      (State.dueAt_congr (hbin.same (p := .timers) (by simp)) _).trans (s.energyAdded_dueAt vb vl), hbins.1, hbins.2⟩
  case report =>
    exact fun s d hd hle hn => ⟨_, exec_energyReport hd hle hn, s.arm_changes _ _, State.arm_dueAt _ _ _⟩
  case pack =>
    intro s t j hj
    refine ⟨_, Serves.of_command hj (c := .newPack t) (o := .newPack) rfl rfl (by decide) rfl, s.newPack_changes, s.rd_newPack.1, s.rd_newPack.2,
      s.newPack_power, ?_⟩
    rw [s.newPack_eq]
    exact State.mem_order_commit_own _ _

end Sys2Proof.Machine
end

section
/-! PROOFS. Power-up, brown-out and supply loss (chapter 21), and the statement `PowerUpBrownoutAndLoss`. -/

namespace Sys2Proof.Machine

set_option Elab.async false -- as tasks, the proofs would each hold memory of their own until the end of the text

/-! ### An asserted reset (R514, R530) -/

theorem State.driveReset_asserted (s : State) (r : Reach) (c : Nat) :
    (s.driveReset r c).rst.asserted = s.rst.asserted ∧ (s.driveReset r c).rst.reach = s.rst.reach := by
  unfold State.driveReset
  dsimp only
  split <;> exact ⟨rfl, rfl⟩

/-- The reach of resets that assert together with what is asserted. -/
def State.reachWith (s : State) (l : List Pending) : Reach :=
  (l.foldl (fun r p => r.union p.reach) (if s.rst.asserted then s.rst.reach else Reach.none)).smallest

theorem State.assertResets_asserted (s : State) (l : List Pending) (hard : Bool) : (s.assertResets l hard).rst.asserted = true :=
  (State.driveReset_asserted _ _ _).1.trans rfl

theorem State.assertResets_reach (s : State) (l : List Pending) (hard : Bool) : (s.assertResets l hard).rst.reach = s.reachWith l :=
  (State.driveReset_asserted _ _ _).2.trans rfl

theorem Reach.smallest_union_all (r : Reach) : (r.union Reach.all).smallest = Reach.all := by
  simp [Reach.union, Reach.all, Reach.smallest]

theorem State.assertNow_all (s : State) (cause detail : Nat) (hard : Bool) : (s.assertNow Reach.all cause detail hard).rst.asserted = true ∧
    (s.assertNow Reach.all cause detail hard).rst.reach = Reach.all :=
  ⟨s.assertResets_asserted _ _, (s.assertResets_reach _ _).trans (Reach.smallest_union_all _)⟩

/-! ### Power-on (R586) -/

section
variable (s : State)

theorem State.epochsOne_rst : s.epochsOne.rst = s.rst := by simp [State.epochsOne, Die.all, State.setLink]

theorem State.rd_epochsOne : s.epochsOne.rd (ob 0x7500 0x01) = 1 := State.rd_wr_self _ _ _

theorem die_link_inj {d e : Die} (h : d.link.val = e.link.val) : d = e := by
  cases d <;> cases e <;> simp_all [Die.link]

/-- The epoch 1 given to a die at both ends. -/
def State.epochOne (d : Die) : State := (s.wr (ob d.index 0x02) 1).setLink d (fun l => { l with epoch := 1 })

theorem State.epochOne_self (d : Die) : (s.epochOne d).rd (ob d.index 0x02) = 1 ∧ ((s.epochOne d).links[d.link]'d.link.isLt).epoch = 1 :=
  ⟨State.rd_wr_self _ _ _, congrArg Link.epoch (State.setLink_links _ _ _)⟩

/-- Two dies have two objects and two links. -/
theorem die_apart {d e : Die} (h : d ≠ e) : d.index ≠ e.index ∧ e.link.val ≠ d.link.val := by
  cases d <;> cases e <;> simp [Die.index, Die.link, Die.code] at h ⊢

/-- Another die's epoch is left, once given. -/
theorem State.epochOne_kept {d e : Die} (h : s.rd (ob d.index 0x02) = 1 ∧ (s.links[d.link]'d.link.isLt).epoch = 1) :
    (s.epochOne e).rd (ob d.index 0x02) = 1 ∧ ((s.epochOne e).links[d.link]'d.link.isLt).epoch = 1 := by
  by_cases hde : d = e
  · subst hde
    exact s.epochOne_self d
  · obtain ⟨hidx, hlink⟩ := die_apart hde
    refine ⟨(State.rd_wr_other _ _ (by simp [hidx])).trans h.1, ?_⟩
    have : (s.epochOne e).links[d.link]'d.link.isLt = s.links[d.link]'d.link.isLt := Vector.getElem_set_ne e.link.isLt d.link.isLt hlink
    rw [this]
    exact h.2

theorem State.epochsOne_eq : s.epochsOne = ((((s.epochOne .field).epochOne .air).epochOne .line).epochOne .pocket).wr (ob 0x7500 0x01) 1 := rfl

theorem State.epochsOne_die (d : Die) : s.epochsOne.rd (ob d.index 0x02) = 1 ∧ (s.epochsOne.links[d.link]'d.link.isLt).epoch = 1 := by
  have hall : (((( s.epochOne .field).epochOne .air).epochOne .line).epochOne .pocket).rd (ob d.index 0x02) = 1 ∧
      ((((( s.epochOne .field).epochOne .air).epochOne .line).epochOne .pocket).links[d.link]'d.link.isLt).epoch = 1 := by
    cases d with
    | field => exact State.epochOne_kept _ (State.epochOne_kept _ (State.epochOne_kept _ (s.epochOne_self .field)))
    | air => exact State.epochOne_kept _ (State.epochOne_kept _ (State.epochOne_self _ .air))
    | line => exact State.epochOne_kept _ (State.epochOne_self _ .line)
    | pocket => exact State.epochOne_self _ .pocket
  exact ⟨(State.rd_wr_other _ _ (by simp [(die_index_ne d).1])).trans hall.1, hall.2⟩

/-- The part powered, with its sources recorded. -/
def State.poweredUp (vbat vline : Nat) : State :=
  ({ s.tearCommit with
      power := { s.tearCommit.power with powered := true, lineHere := decide (7000 ≤ vline), enteredAt := s.tearCommit.now }
      timers := s.tearCommit.timers ++ bootTimers.map (fun p => (p.1, s.tearCommit.now + p.2)) } : State).wrAll
    [(ob 0x1060 0x01, if decide (7000 ≤ vline) then 2 else 1), (ob 0x1060 0x02, vbat), (ob 0x1060 0x04, vline), (ob 0x5400 0x05, 1)]

/-- The CHIP reset of a power-on. -/
def State.powerReset (vbat vline : Nat) : State := ((s.poweredUp vbat vline).assertNow Reach.all 0 0 true).epochsOne

/-- The supply of the release marked as awaited. -/
def State.browned : State := { s with rst := { s.rst with brown := true } }

theorem State.powerReset_rst (vbat vline : Nat) : (s.powerReset vbat vline).browned.rst =
    { ((s.poweredUp vbat vline).assertNow Reach.all 0 0 true).rst with brown := true } := by
  rw [← State.epochsOne_rst]
  rfl

theorem State.browned_kept (a b : Nat) : (∀ k, (s.browned.noteGood a b).rd k = s.rd k) ∧ (s.browned.noteGood a b).links = s.links :=
  ⟨fun _ => rfl, rfl⟩

theorem ends_powerOn {s : State} {vbat vline : Nat} (hb : vbat ≤ 4500) (hl : vline ≤ 40000) (hp : s.power.powered = false)
    (hv : 1800 ≤ vbat ∨ 1800 ≤ vline) : Ends (.powerOn vbat vline) s ((s.powerReset vbat vline).browned.noteGood vbat vline) :=
  (if_neg (by omega)).trans (if_neg (by simp [hp]; omega))

/-! ### Brown-out (R559) -/

/-- The CHIP reset of a brown-out, before its event and its fault. -/
def State.brownReset (vline : Nat) : State :=
  ((({ s with power := { s.power with lineHere := false, goodSince := none } } : State).wrAll
    [(ob 0x1060 0x01, 1), (ob 0x1060 0x04, vline), (ob 0x1110 0x06, 500)]).assertNow Reach.all 1 0 true).browned

theorem exec_brownout {s : State} {vbat vline : Nat} (hb : vbat ≤ 4500) (hl : vline ≤ 40000) (hp : s.power.powered = true)
    (hv : if s.power.lineHere then vline < 5500 ∧ vbat < 2550 else vbat < 2550 ∧ vline < 7000) : exec (.brownout vbat vline) s =
    .next (((s.brownReset vline).raise 1252 [0] []).fault 144 (if s.power.lineHere then 2 else 1)).settle := by
  have hline : (s.power.lineHere && decide (vline < 5500) && decide (vbat < 2550)) = s.power.lineHere := by
    cases hs : s.power.lineHere with
    | false => rfl
    | true => simp [hs] at hv; simp [hv]
  have hon : (s.power.powered && (s.power.lineHere && decide (vline < 5500) && decide (vbat < 2550) ||
      !s.power.lineHere && decide (vbat < 2550) && decide (vline < 7000))) = true := by
    rw [hline, hp]
    cases hs : s.power.lineHere with
    | false => simp [hs] at hv; simp [hv]
    | true => rfl
  refine (if_neg (by omega)).trans ((if_pos hon).trans ?_)
  rw [hline]
  rfl

end

/-! ### Supply loss (R560) -/

/-- With the conductor not up an event is only held. -/
theorem State.raise_of_down {s : State} (h : s.up = false) (e : Nat) (l : List Tenant) (d : Octets) :
    Changes [.router] [] s (s.raise e l d) := by
  unfold State.raise State.raiseAt
  rw [if_neg (by simp [h])]
  refine ⟨rfl, fun p hp => ?_, fun _ _ => rfl⟩
  cases p
  case router => exact absurd (List.mem_singleton_self _) hp
  all_goals rfl

/-- Every object. -/
def anyKey (_ : Nat) : Bool := true

theorem Within.of_any {ps qs : List Part} {ks : List Nat} {s t : State} (h : Changes qs ks s t) (hp : ∀ p ∈ qs, p ∈ ps) :
    Within ps anyKey s t := .of_changes h hp (fun _ _ => rfl)

/-- What several changes leave while the conductor is not up. -/
theorem Within.foldl_down {α : Type} {ps : List Part} {f : State → α → State} (hr : Part.rst ∉ ps)
    (hf : ∀ s a, s.up = false → Within ps anyKey s (f s a)) (l : List α) (s : State) (h : s.up = false) :
    Within ps anyKey s (l.foldl f s) := by
  induction l generalizing s with
  | nil => exact .refl s
  | cons a l ih =>
    have hstep := hf s a h
    refine hstep.trans (ih _ ?_)
    rw [State.up, hstep.same .rst hr]
    exact h

theorem Within.up {ps : List Part} {K : Nat → Bool} {s t : State} (h : Within ps K s t) (hr : Part.rst ∉ ps) : t.up = s.up := by
  rw [State.up, h.same .rst hr]
  rfl

/-- What the pocket die takes with it at a loss. -/
abbrev pocketParts : List Part := [.pocket, .timers, .free, .router, .order, .scores, .metros]

section
variable (s : State)

theorem State.pocketRaise_within (e : Nat) (l : List Tenant) (d : Octets) : Within pocketParts anyKey s (s.pocketRaise e l d) :=
  .ite (.of_event (s.raise_only _ _ _) (by decide) (fun _ _ => rfl)) (.refl s)

theorem State.setPocket_within (f : Pocket → Pocket) : Within pocketParts anyKey s (s.setPocket f) :=
  .of_any (s.setPocket_changes f) (by decide)

theorem State.cancel_within (tm : Timer) : Within pocketParts anyKey s (s.cancel tm) := .of_any (s.cancel_changes tm) (by decide)

theorem State.pocketEnd_within : Within pocketParts anyKey s s.pocketEnd :=
  (s.setPocket_within _).trans (.ite (.refl _) (((Within.of_any (State.sessionTo_changes _ 0) (by decide)).trans
    (State.cancel_within _ _)).trans (State.pocketRaise_within _ _ _ _)))

theorem State.bridgeEnd_within (d : Octets) (w : Nat) : Within pocketParts anyKey s (s.bridgeEnd d w) :=
  .ite (.refl s) (((((s.cancel_within _).trans (State.cancel_within _ _)).trans (State.setPocket_within _ _)).trans
    (State.setPocket_within _ _)).trans (.ite (State.pocketEnd_within _) (.refl _)))

theorem State.tearCommit_within : Within pocketParts anyKey s s.tearCommit := by
  unfold State.tearCommit
  split
  · exact .refl s
  · refine .ite (s.setPocket_within _) ?_
    exact ((Within.of_any (s.withFree_changes _) (by decide)).trans (.of_any (State.withFree_changes _ _) (by decide))).trans
      (State.setPocket_within _ _)

theorem State.pocketLoss_within : Within pocketParts anyKey s s.pocketLoss := by
  have hgone : Within pocketParts anyKey s ((s.bridgeEnd [] 0x9108).wr (ob 0x5400 0x05) 0) :=
    (s.bridgeEnd_within _ _).trans (.of_any (State.wr_changes _ _ _) (by decide))
  exact .ite hgone (((hgone.trans (State.tearCommit_within _)).trans (State.pocketEnd_within _)).trans (State.setPocket_within _ _))

/-- What the counters and the seal take up again after a loss. -/
abbrev resumeParts : List Part := [.router, .air]

variable {s}

theorem State.floorLow_within (h : s.up = false) (t : Tenant) (a b : Nat) : Within resumeParts anyKey s (s.floorLow t a b) :=
  .ite (.of_any (State.raise_of_down h _ _ _) (by decide)) (.refl s)

theorem State.wrAll_within (s : State) (l : List (Nat × Nat)) : Within resumeParts anyKey s (s.wrAll l) := .of_any (s.wrAll_changes l) (by simp)

/-- A tenant's counters taken up again. -/
def State.counterResumed (s : State) (t : Tenant) : State :=
  let f := min 0xFFFFFFFF (s.svc.floorEnd[t]'t.isLt + 4096)
  let s := s.wrAll [(obT 0x1034 0x04 t, f), (obT 0x1034 0x03 t, s.svc.reportEnd[t]'t.isLt)]
  s.floorLow t (s.svc.floorEnd[t]'t.isLt) f

/-- The frame counters taken up again. -/
def State.frameResumed (s : State) : State := s.wrAll [(ob 0x4130 0x01, s.mac.ends.1), (ob 0x4130 0x02, s.mac.ends.2)]

/-- The number of the newest record shown. -/
def State.newestShown (s : State) : State :=
  if s.faults.stored.isEmpty then s else s.wr (ob 0x7000 0x09) ((s.faults.nextNum + 65535) % 65536)

theorem State.resumeCounters_eq (s : State) : s.resumeCounters = (tenants.foldl (fun s t => s.counterResumed t) s.frameResumed).newestShown := by
  unfold State.resumeCounters State.newestShown State.frameResumed State.counterResumed
  dsimp only

theorem State.counterResumed_within (h : s.up = false) (t : Tenant) : Within resumeParts anyKey s (s.counterResumed t) :=
  (s.wrAll_within _).trans (State.floorLow_within (((s.wrAll_within _).up (by decide)).trans h) _ _ _)

theorem State.resumeCounters_within (h : s.up = false) : Within resumeParts anyKey s s.resumeCounters := by
  rw [s.resumeCounters_eq]
  have hframe : Within resumeParts anyKey s s.frameResumed := s.wrAll_within _
  refine (hframe.trans (Within.foldl_down (by decide) (fun s t hs => State.counterResumed_within hs t) tenants _
    ((hframe.up (by decide)).trans h))).trans ?_
  exact .ite (.refl _) (.of_any (State.wr_changes _ _ _) (by simp))

/-- A seal slot torn by the loss is spent. -/
def State.slotTorn (s : State) : Option Nat → State
  | some code => { s with air := { s.air with slots := s.air.slots ++ [(code, false)] } }
  | none => s

theorem State.slotTorn_within (s : State) (o : Option Nat) : Within resumeParts anyKey s (s.slotTorn o) := by
  cases o with
  | none => exact .refl s
  | some code => exact .of_any (s.withAir_changes _) (by decide)

theorem State.lossSeal_within (h : s.up = false) (o : Option Nat) : Within resumeParts anyKey s (s.lossSeal o) := by
  have hwr : Within resumeParts anyKey s ((s.slotTorn o).wr (ob 0x4000 0x04)
      (if (s.slotTorn o).air.slots.any (fun p => p.2) then 1 else if 3 ≤ (s.slotTorn o).air.slots.length then 4
        else if (s.slotTorn o).air.slots.isEmpty then 0 else 3)) :=
    (s.slotTorn_within o).trans (.of_any (State.wr_changes _ _ _) (by simp))
  cases o with
  | none => exact hwr
  | some code => exact hwr.trans (.of_any (State.raise_of_down ((hwr.up (by decide)).trans h) _ _ _) (by decide))

/-- The tunings that tenants had asked for are marked as lost. -/
theorem Within.foldl_wr (k : Tenant → Nat) (v : Nat) (l : List Tenant) (s : State) :
    Within resumeParts anyKey s (l.foldl (fun s t => s.wr (k t) v) s) := by
  induction l generalizing s with
  | nil => exact .refl s
  | cons t l ih => exact (Within.of_any (s.wr_changes _ _) (by simp)).trans (ih _)

end

/-- What a supply loss leaves, before its counters and its seal. -/
def State.lost (s : State) : State := s.pocketLoss.unpowered

theorem exec_supplyLoss {s : State} (h : s.power.powered = true) :
    ∃ u, exec .supplyLoss s = .next u ∧ Within resumeParts anyKey s.lost u := by
  have hdown : s.lost.up = false := rfl
  have hcount := State.resumeCounters_within hdown
  have hseal := hcount.trans (State.lossSeal_within ((hcount.up (by decide)).trans hdown)
    (if s.rd (ob 0x4000 0x04) = 6 then s.air.sealing.map Prod.fst else none))
  have hall := hseal.trans (Within.foldl_wr (fun t => obT 0x6000 0x06 t) 5
    (((s.cal.queue ++ s.cal.running).filter (fun u => !u.auto)).map Tuning.tenant) _)
  refine ⟨_, (if_neg (by simp [h])).trans (congrArg Host.Outcome.next (if_neg ?_)), hall⟩
  exact Bool.eq_false_iff.1 ((hall.up (by decide)).trans hdown)

/-! ### The statement -/

/-- Settles O18: power-on, brown-out and supply loss. -/
theorem powerUpBrownoutAndLoss : Obligations.PowerUpBrownoutAndLoss := by
  unfold Obligations.PowerUpBrownoutAndLoss
  refine ⟨?on, ?brown, ?loss⟩
  case on =>
    intro s vbat vline hb hl hp hv
    have hset := ((s.powerReset vbat vline).browned.noteGood vbat vline).settle_changes
    have hrst : ((s.powerReset vbat vline).browned.noteGood vbat vline).settle.rst = _ :=
      (hset.same (p := .rst) (by simp)).trans (s.powerReset_rst vbat vline)
    obtain ⟨hasserted, hreach⟩ := (s.poweredUp vbat vline).assertNow_all 0 0 true
    have hkept := (s.powerReset vbat vline).browned_kept vbat vline
    refine ⟨_, ends_powerOn hb hl hp hv, ?_, ?_, ?_, ?_, ?_, fun d => ?_⟩
    · rw [hrst]
      exact hasserted
    · rw [hrst]
    · rw [hrst]
      exact hreach
    · rw [show ((s.powerReset vbat vline).browned.noteGood vbat vline).settle.power = _ from hset.same (p := .power) (by simp)]
      simp only [State.noteGood, Bool.or_eq_true, decide_eq_true_eq]
      by_cases hg : 2700 ≤ vbat ∨ 7000 ≤ vline <;> simp [hg]
    · exact (hset.rd (by simp)).trans ((hkept.1 _).trans (State.rd_epochsOne _))
    · obtain ⟨hepoch, hlink⟩ := State.epochsOne_die ((s.poweredUp vbat vline).assertNow Reach.all 0 0 true) d
      refine ⟨(hset.rd (by simp)).trans ((hkept.1 _).trans hepoch), ?_⟩
      rw [show ((s.powerReset vbat vline).browned.noteGood vbat vline).settle.links = _ from
        (hset.same (p := .links) (by simp)).trans hkept.2]
      exact hlink
  case brown =>
    intro s vbat vline hb hl hp hv
    obtain ⟨hasserted, hreach⟩ := State.assertNow_all (({ s with power := { s.power with lineHere := false, goodSince := none } } : State).wrAll
      [(ob 0x1060 0x01, 1), (ob 0x1060 0x04, vline), (ob 0x1110 0x06, 500)]) 1 0 true
    exact ⟨s.brownReset vline, exec_brownout hb hl hp hv, hasserted, rfl, hreach⟩
  case loss =>
    intro s hp
    obtain ⟨u, hexec, h⟩ := exec_supplyLoss hp
    have hpocket := s.pocketLoss_within
    have hstored : s.pocketLoss.faults.stored = s.faults.stored := congrArg Faults.stored (hpocket.same .faults (by decide))
    have haddr : s.pocketLoss.mac.nvaAddresses = s.mac.nvaAddresses := congrArg Mac.nvaAddresses (hpocket.same .mac (by decide))
    have htable : s.pocketLoss.line.nvaTable = s.line.nvaTable := congrArg Line.nvaTable (hpocket.same .line (by decide))
    refine ⟨u, hexec, h.pending.trans hpocket.pending, ?_, ?_, ?_, ?_, ?_, ?_, ?_, ?_, ?_, ?_, ?_, ?_, ?_, ?_, ?_, ?_, ?_, ?_⟩
    · exact congrArg Power.powered (h.same .power (by decide))
    · exact congrArg ResetCtl.conductor (h.same .rst (by decide))
    · exact congrArg ResetCtl.asserted (h.same .rst (by decide))
    · exact (h.same .nvaObjs (by decide)).trans (hpocket.same .nvaObjs (by decide))
    · exact (h.same .charges (by decide)).trans (hpocket.same .charges (by decide))
    · exact (h.same .ckpt (by decide)).trans (hpocket.same .ckpt (by decide))
    · exact (h.same .nvaTags (by decide)).trans (hpocket.same .nvaTags (by decide))
    · exact (h.same .tags (by decide)).trans (hpocket.same .nvaTags (by decide))
    · exact (h.same .keys (by decide)).trans (hpocket.same .keys (by decide))
    · exact (congrArg Faults.ring (h.same .faults (by decide))).trans hstored
    · exact (congrArg Faults.stored (h.same .faults (by decide))).trans hstored
    · exact h.same .order (by decide)
    · exact h.same .dues (by decide)
    · exact congrArg Service.queues (h.same .svc (by decide))
    · exact h.same .voices (by decide)
    · exact (congrArg Mac.addresses (h.same .mac (by decide))).trans haddr
    · exact (congrArg Line.table (h.same .line (by decide))).trans htable
    · exact congrArg TimeBase.lost (h.same .time (by decide))

end Sys2Proof.Machine
end

section
/-! PROOFS. Assertion, quiescing and release of resets (chapter 19), and the statement `ResetAssertionAndRelease`. -/

namespace Sys2Proof.Machine

set_option Elab.async false -- as tasks, the proofs would each hold memory of their own until the end of the text

/-! ### Resets applied (R518, R519, R530) -/

theorem Reach.union_none (r : Reach) : Reach.none.union r = r := by
  obtain ⟨c, f, a, l, p, h⟩ := r
  simp [Reach.union, Reach.none]

/-- A union of satellite dies stays as it is. -/
theorem Reach.smallest_of_dies {r : Reach} (hc : r.conductor = false) (hh : r.chip = false) : r.smallest = r := by
  simp [Reach.smallest, hc, hh]

theorem Reach.kind_ne_of_dies {r : Reach} (hc : r.conductor = false) (hh : r.chip = false) : r.kind ≠ 6 := by
  rw [Reach.kind, hh, hc]
  simp only [Bool.false_eq_true, if_false, Bool.false_and]
  split
  · decide
  · split
    · decide
    · split
      · decide
      · split <;> decide

/-- The one reset that waits taken from the queue, its timer with it. -/
def State.taken (s : State) (p : Pending) : State := ({ s with rst := { s.rst with waiting := [] } } : State).cancel (.resetWait p.id)

theorem State.taken_changes (s : State) (p : Pending) : Changes [.rst, .timers] [] s (s.taken p) :=
  (s.withRst_changes _).trans (State.cancel_changes _ _)

/-- The quiescing reset where it may assert. -/
def State.heldResets (s : State) (between : Bool) : List Pending :=
  if s.rst.quiet && (between || s.order.isEmpty) then s.rst.quiescing.toList else []

/-- What becomes of resets of dies, with those held back by quiescing. -/
def State.applyDevs (s : State) (devs held : List Pending) : State :=
  let l := devs ++ held
  let r := (l.foldl (fun r p => r.union p.reach) Reach.none).smallest
  if l.isEmpty then s
  else if r.kind = 6 ∧ held.isEmpty ∧ s.up = true then
    match s.rst.quiescing, devs with
    | none, p :: rest =>
      ({ s with rst := { s.rst with quiescing := some p, quiet := false, waiting := s.rst.waiting ++ rest } } : State).armIn .quiesce 2000000
    | _, _ => { s with rst := { s.rst with waiting := s.rst.waiting ++ devs } }
  else s.assertResets (if r.conductor then devs ++ s.rst.quiescing.toList else l) false

section
variable {s : State} {p : Pending}

/-- One reset whose reply is out, and that nothing holds up, is taken. -/
theorem State.applyResets_of_one (hw : s.rst.waiting = [p]) (hr : p.reply = none) (hk : p.kind ≠ 1) (hwait : s.resetWaits p false = false) :
    s.applyResets false = (s.taken p).applyDevs [p] ((s.taken p).heldResets false) := by
  have hripe : [p].filter (fun q => s.ripe q && !s.resetWaits q false) = [p] := by simp [State.ripe, hr, hwait]
  have hnone : [p].filter (fun q => !([p].contains q)) = [] := by simp
  have hkind : [p].filter (fun q => q.kind == 1) = [] := by simp [hk]
  have hdevs : [p].filter (fun q => q.kind != 1) = [p] := by simp [hk]
  unfold State.applyResets
  rw [hw, hripe]
  simp only [hnone, hkind, hdevs]
  rfl

theorem State.applyDevs_of_dies (hc : p.reach.conductor = false) (hh : p.reach.chip = false) :
    s.applyDevs [p] [] = s.assertResets [p] false := by
  have hreach : ([p].foldl (fun r p => r.union p.reach) Reach.none).smallest = p.reach := by
    rw [List.foldl_cons, List.foldl_nil, Reach.union_none, Reach.smallest_of_dies hc hh]
  unfold State.applyDevs
  simp only [List.append_nil, hreach, hc]
  exact (if_neg (by simp)).trans (if_neg fun h => Reach.kind_ne_of_dies hc hh h.1)

theorem State.applyDevs_of_conductor (hreach : p.reach = ⟨true, false, false, false, false, false⟩) (hup : s.up = true)
    (hq : s.rst.quiescing = none) (hw : s.rst.waiting = []) : s.applyDevs [p] [] =
      ({ s with rst := { s.rst with quiescing := some p, quiet := false, waiting := [] } } : State).armIn .quiesce 2000000 := by
  have hkind : ([p].foldl (fun r p => r.union p.reach) Reach.none).smallest.kind = 6 := by
    rw [List.foldl_cons, List.foldl_nil, hreach]
    rfl
  unfold State.applyDevs
  simp only [List.append_nil, hq, hw]
  exact (if_neg (by simp)).trans (if_pos ⟨hkind, rfl, hup⟩)

/-- With no reset waiting and none held back, none is applied. -/
theorem State.applyResets_of_none {between : Bool} (hw : s.rst.waiting = []) (hheld : s.heldResets between = []) :
    s.applyResets between = s := by
  have hs : ({ s with rst := { s.rst with waiting := [] } } : State) = s := by rw [← hw]
  unfold State.heldResets at hheld
  unfold State.applyResets
  simp only [hw, List.filter_nil, List.foldl_nil, hs, hheld]
  exact if_pos rfl

end

/-! ### Release (R521) -/

/-- A reset released. -/
def State.resetLetGo (s : State) : State :=
  let s := ((s.cancel .stretch).cancel .startHold).causeEnd 144
  { s with
    pins := { s.pins with resetLow := false }
    rst := { s.rst with asserted := false, drive := false, nLow := false, brown := false } }

theorem State.resetLetGo_changes (s : State) : Changes [.rst, .timers, .pins, .faults] [] s s.resetLetGo := by
  refine ⟨rfl, fun p hp => ?_, fun _ _ => rfl⟩
  cases p
  case rst => exact absurd (by decide) hp
  case timers => exact absurd (by decide) hp
  case pins => exact absurd (by decide) hp
  case faults => exact absurd (by decide) hp
  all_goals rfl

theorem ends_resetRelease {s : State} {n : Nat} (ha : s.rst.asserted = true) (hsince : s.rst.since + 100 ≤ s.now) (hseq : s.sequenced = true)
    (hpin : s.pinFree n = true) (hgood : s.supplyGood = true) (hwait : s.timeoutWait = 0) (hhold : s.isArmed .startHold = false) :
    Ends (.resetRelease n) s s.resetLetGo := by
  have hgo : (s.rst.asserted && decide (s.rst.since + 100 ≤ s.now) && s.sequenced && s.pinFree n && s.supplyGood) = true := by
    simp [ha, hsince, hseq, hpin, hgood]
  refine (if_neg (by simp [hgo])).trans ((if_neg fun h => h.1 hwait).trans (if_neg ?_))
  rw [hhold]
  exact Bool.false_ne_true

/-! ### CHIP resets of RESET_N and of a start (R525, R528) -/

/-- A CHIP reset of the conductor's own. -/
def State.chipPending (s : State) (cause : Nat) : Pending :=
  { id := s.rst.nextId, reach := Reach.all, cause := cause, kind := 8, requester := 0xFF, detail := 0, reply := none }

section
variable {s : State} {cause : Nat}

theorem State.assertOrWait_of_free (h : s.resetWaits (s.chipPending cause) false = false) :
    s.assertOrWait Reach.all cause 0 = s.assertNow Reach.all cause 0 false := if_neg (Bool.eq_false_iff.1 h)

theorem State.assertOrWait_of_busy (h : s.resetWaits (s.chipPending cause) false = true) :
    s.assertOrWait Reach.all cause 0 = s.askReset Reach.all cause 8 0xFF 0 none := if_pos h

theorem settle_asserted {t : State} (ha : t.rst.asserted = true ∧ t.rst.reach = Reach.all) :
    t.settle.rst.asserted = true ∧ t.settle.rst.reach = Reach.all := by
  rw [show t.settle.rst = t.rst from t.settle_changes.same (p := .rst) (by simp)]
  exact ha

/-- RESET_N seen low. -/
def State.seenLow (s : State) : State := { s with rst := { s.rst with nLow := true } }

theorem ends_resetNLow {low : Nat} (hlow : 10 ≤ low) (hd : s.rst.drive = false) (hv : s.rd (ob 0x1060 0x06) ≠ 0)
    (hp : s.power.powered = true) : Ends (.resetNLow low) s (s.seenLow.assertOrWait Reach.all 2 0) := by
  have hon : s.isOn (ob 0x1060 0x06) = true := bne_iff_ne.2 hv
  have hne : low ≠ 0 := by omega
  change execResetNLow low s = _
  unfold execResetNLow
  rw [if_neg (by simp [hd, hon, hp, hne]), if_pos hlow]
  rfl

/-- A start timed out, counted. -/
def State.startFailed (s : State) : State := (s.cancel .startTimeout).inc (ob 0x7210 0x0B)

theorem State.startFailed_changes : Changes [.timers] [ob 0x7210 0x0B] s s.startFailed :=
  (s.cancel_changes _).trans (State.inc_changes _ _)

/-- What holds up a reset is not touched by the count. -/
theorem State.resetWaits_startFailed : s.startFailed.resetWaits (s.startFailed.chipPending 3) false = s.resetWaits (s.chipPending 3) false := by
  have hseal : s.startFailed.rd (ob 0x4000 0x04) = s.rd (ob 0x4000 0x04) := State.startFailed_changes.rd (by simp)
  have hair : s.startFailed.airState = s.airState := State.startFailed_changes.rd (by simp)
  have hpocket : s.startFailed.pocket = s.pocket := State.startFailed_changes.same (p := .pocket) (by simp)
  have horder : s.startFailed.order = s.order := State.startFailed_changes.same (p := .order) (by simp)
  unfold State.resetWaits
  rw [hseal, hair, hpocket, horder]
  rfl

theorem exec_startTimeout (hc : s.rst.conductor = .starting) (hdue : s.isDue .startTimeout = true) : exec .startTimeout s = .next
    (if s.imageSession = 5 ∧ s.keys.trialFrom.map Prod.fst = some 1 then
      ({ (s.cancel .startTimeout).revertTrial with rst := { (s.cancel .startTimeout).revertTrial.rst with imageRestart := some 1 } } :
        State).assertOrWait (kindReach 6) 5 1
     else s.startFailed.assertOrWait Reach.all 3 0).settle := by
  refine (if_pos (by simp [hc, hdue])).trans ?_
  by_cases h : s.imageSession = 5 ∧ s.keys.trialFrom.map Prod.fst = some 1
  · rw [if_pos h]
    exact if_pos h
  · rw [if_neg h]
    exact if_neg h

end

/-! ### The statement -/

/-- Settles O20, clause by clause. -/
theorem resetAssertionAndRelease : Obligations.ResetAssertionAndRelease := by
  unfold Obligations.ResetAssertionAndRelease
  refine ⟨?dies, ?conductor, ?idle, ?release, ?pin, ?timeout, ?quiesced⟩
  case dies =>
    intro s p ha hq hw hr hk hc hh hne hwait
    have hheld : (s.taken p).heldResets false = [] := if_neg (by rw [show (s.taken p).rst.quiet = false from hq]; simp)
    have happ := State.applyResets_of_one hw hr hk hwait
    rw [hheld, State.applyDevs_of_dies hc hh] at happ
    have hexec : exec .resetApply s = .next ((s.taken p).assertResets [p] false).settle := by
      rw [← happ]
      rfl
    have hrst : ((s.taken p).assertResets [p] false).settle.rst = ((s.taken p).assertResets [p] false).rst :=
      (State.settle_changes _).same (p := .rst) (by simp)
    refine ⟨_, hexec, ?_, ?_⟩
    · rw [hrst, State.assertResets_asserted]
    · rw [hrst, State.assertResets_reach, State.reachWith, if_neg (Bool.eq_false_iff.1 (show (s.taken p).rst.asserted = false from ha)),
        List.foldl_cons, List.foldl_nil, Reach.union_none, Reach.smallest_of_dies hc hh]
  case conductor =>
    intro s p hup hq hw hr hk hreach horder
    have hwait : s.resetWaits p false = false := by simp [State.resetWaits, hreach, horder]
    have hheld : (s.taken p).heldResets false = [] := by
      unfold State.heldResets
      rw [show (s.taken p).rst.quiescing = none from hq]
      exact ite_self _
    have happ := State.applyResets_of_one hw hr (by omega) hwait
    rw [hheld, State.applyDevs_of_conductor (s := s.taken p) hreach hup hq rfl] at happ
    refine ⟨_, (congrArg done happ : exec .resetApply s = _), ?_, ?_, rfl⟩
    · exact (((s.taken_changes p).trans (State.withRst_changes _ _)).trans (State.armIn_changes _ _ _)).mono (by simp) (fun _ h => h)
    · exact State.armIn_dueAt (((s.taken_changes p).trans (State.withRst_changes _ _)).now (by simp) (by simp) (by simp)) _ _
  case idle => exact fun s hw hq => congrArg done (State.applyResets_of_none hw (if_neg (by simp [hq])))
  case release =>
    exact fun s n ha hsince hseq hpin hgood hwait hhold => ⟨_, ends_resetRelease ha hsince hseq hpin hgood hwait hhold, s.resetLetGo_changes, rfl, rfl,
      State.cancel_isArmed_of (s.cancel_isArmed _), rfl⟩
  case pin =>
    intro s low hlow hd hv hp
    have hends := ends_resetNLow hlow hd hv hp
    refine ⟨fun hfree => ?_, fun hbusy => ?_⟩
    · rw [State.assertOrWait_of_free (s := s.seenLow) hfree] at hends
      exact ⟨_, hends, settle_asserted (State.assertNow_all _ _ _ _)⟩
    · rw [State.assertOrWait_of_busy (s := s.seenLow) hbusy] at hends
      exact ⟨_, hends, (s.withRst_changes _).trans (State.askReset_changes _ _ _ _ _ _ _) |>.mono (by simp) (fun _ h => h), rfl⟩
  case timeout =>
    intro s hc hdue
    have hexec := exec_startTimeout hc hdue
    by_cases himg : s.imageSession = 5 ∧ s.keys.trialFrom.map Prod.fst = some 1
    · rw [if_pos himg] at hexec
      exact (if_pos himg).mpr hexec
    rw [if_neg himg] at hexec
    refine (if_neg himg).mpr ?_
    cases hwait : s.resetWaits (s.chipPending 3) false with
    | true =>
      rw [State.assertOrWait_of_busy (State.resetWaits_startFailed.trans hwait)] at hexec
      refine (if_pos hwait).mpr ⟨_, hexec, ?_, ?_, ?_⟩
      · exact (State.startFailed_changes.trans (State.askReset_changes _ _ _ _ _ _ _)).mono (by simp) (fun _ h => h)
      · exact (State.isArmed_congr ((State.inc_changes _ _).same (p := .timers) (by simp)) _).trans (s.cancel_isArmed _)
      · unfold State.askReset
        rw [State.startFailed_changes.same (p := .rst) (by simp)]
    | false =>
      rw [State.assertOrWait_of_free (State.resetWaits_startFailed.trans hwait)] at hexec
      exact (if_neg (Bool.eq_false_iff.1 hwait)).mpr ⟨_, hexec, settle_asserted (State.assertNow_all _ _ _ _)⟩
  case quiesced =>
    intro s hq hquiet hgo
    refine (if_neg ?_).trans (if_pos ?_)
    · cases hs : s.rst.quiescing with
      | none => exact absurd hs hq
      | some p => simp [hquiet]
    · simpa using hgo

end Sys2Proof.Machine
end

section
/-! PROOFS. The release of each die and the conductor's start (chapter 19), and the statements `DieReleases` and
`ConductorStartAndCompletion`. -/

namespace Sys2Proof.Machine

set_option Elab.async false -- as tasks, the proofs would each hold memory of their own until the end of the text

/-! ### The release of each die (R526, R542) -/

/-- A die running, its ALIVE awaited, and no longer to be released. -/
def State.dieUp (s : State) (d : Die) : State :=
  let w := (s.setLink d (fun l => { l with up := true })).armIn (.alive d) 10000
  { w with rst := { w.rst with toRelease := w.rst.toRelease.drop d } }

/-- A block reset released, with its event. -/
def State.blockReleased (s : State) (block : Bool) (bits : Nat) : State :=
  if block then (s.resetReleased bits).raise 1204 [t0] [] else s

/-- The release of a die that its own command brings, with the event where the reset was of blocks alone. -/
def State.dieOut (s : State) (d : Die) : State :=
  if s.rst.reach.conductor then s.dieUp d else ((s.dieUp d).resetReleased (2 ^ d.link.val)).raise 1204 [t0] []

section
variable (s : State) (d : Die)

theorem State.dieUp_changes : Changes [.links, .timers, .rst] [] s (s.dieUp d) :=
  ((s.setLink_changes d _).trans (State.armIn_changes _ _ _)).trans (State.withRst_changes _ _)

theorem State.dieUp_links : (s.dieUp d).links[d.link]'d.link.isLt = { s.links[d.link]'d.link.isLt with up := true } :=
  State.setLink_links s d (fun l => { l with up := true })

theorem State.dieUp_dueAt : (s.dieUp d).dueAt (.alive d) = some (s.now + 10000) := State.armIn_dueAt (State.now_congr rfl rfl rfl) _ _

theorem State.dieUp_rst : (s.dieUp d).rst = { s.rst with toRelease := s.rst.toRelease.drop d } := rfl

theorem State.dieReleased_eq : s.dieReleased d = s.dieOut d := by
  change (s.dieUp d).blockReleased (!s.rst.reach.conductor) _ = _
  unfold State.blockReleased State.dieOut
  cases s.rst.reach.conductor <;> rfl

/-- The air die's reload after the image that its restart brings up. -/
def State.airReloaded : State := (s.restPins.imageLoaded 2).reloadDie .air

/-- The wait of a trial of the air die's image (R442). -/
def State.airTrial : State :=
  if s.imageSession = 5 ∧ s.keys.trialFrom.map Prod.fst = some 2 then s.armIn .trialAir 100000 else s

end

section
variable {s : State}

theorem ends_airDieRelease (ha : s.rst.asserted = false) (hc : s.rst.toRelease.conductor = false) (hp : s.rst.toRelease.pocket = false)
    (hd : s.rst.toRelease.air = true) : Ends .airDieRelease s
      (if s.rst.imageRestart = some 2 then (s.dieOut .air).airReloaded.airTrial.airStart else (s.dieOut .air).airReloaded.airTrial) := by
  have hexec : exec .airDieRelease s =
      done (if s.rst.imageRestart == some 2 then (s.dieReleased .air).airReloaded.airTrial.airStart
        else (s.dieReleased .air).airReloaded.airTrial) := if_pos (by simp [ha, hc, hp, hd])
  rw [s.dieReleased_eq] at hexec
  by_cases h : s.rst.imageRestart = some 2
  · rw [if_pos h]
    rw [if_pos (beq_iff_eq.2 h)] at hexec
    exact hexec
  · rw [if_neg h]
    rw [if_neg (fun hb => h (beq_iff_eq.1 hb))] at hexec
    exact hexec

theorem ends_lineDieRelease (ha : s.rst.asserted = false) (hc : s.rst.toRelease.conductor = false) (hp : s.rst.toRelease.pocket = false)
    (hair : s.rst.toRelease.air = false) (hd : s.rst.toRelease.line = true) :
    Ends .lineDieRelease s ((s.dieOut .line).reloadDie .line) := by
  rw [← s.dieReleased_eq]
  exact if_pos (by simp [ha, hc, hp, hair, hd])

theorem ends_fieldDieRelease (ha : s.rst.asserted = false) (hc : s.rst.toRelease.conductor = false) (hp : s.rst.toRelease.pocket = false)
    (hair : s.rst.toRelease.air = false) (hline : s.rst.toRelease.line = false) (hd : s.rst.toRelease.field = true) :
    Ends .fieldDieRelease s ((s.dieOut .field).reloadDie .field) := by
  rw [← s.dieReleased_eq]
  exact if_pos (by simp [ha, hc, hp, hair, hline, hd])

theorem ends_pocketDieRelease (ha : s.rst.asserted = false) (hd : s.rst.toRelease.pocket = true) :
    Ends .pocketDieRelease s (s.pocketStart.dieOut .pocket) := by
  rw [← s.pocketStart.dieReleased_eq]
  exact if_pos (by simp [ha, hd])

/-- While a reset is asserted no die is released. -/
theorem dieReleases_of_asserted (ha : s.rst.asserted = true) : Ends .pocketDieRelease s s ∧ Ends .airDieRelease s s ∧
    Ends .lineDieRelease s s ∧ Ends .fieldDieRelease s s :=
  ⟨if_neg (by simp [ha]), if_neg (by simp [ha]), if_neg (by simp [ha]), if_neg (by simp [ha])⟩

/-- The conductor and the pocket die come before the others. -/
theorem dieReleases_of_waiting (h : s.rst.toRelease.conductor = true ∨ s.rst.toRelease.pocket = true) : Ends .airDieRelease s s ∧
    Ends .lineDieRelease s s ∧ Ends .fieldDieRelease s s := by
  obtain h | h := h <;> exact ⟨if_neg (by simp [h]), if_neg (by simp [h]), if_neg (by simp [h])⟩

/-- Settles O21: each release is `dieOut`, which for the pocket die follows its own start and for the others is followed by their start
work. -/
theorem dieReleases : Obligations.DieReleases := by
  unfold Obligations.DieReleases
  refine ⟨?inOrder, ?pocket, ?asserted, ?waiting⟩
  case inOrder =>
    intro s c d hcd ha hc hp hd hair hline
    refine ⟨s.dieUp d, s.dieOut d, (s.dieOut d).airReloaded, (s.dieOut d).airReloaded.airTrial, s.dieUp_changes d, s.dieUp_links d,
      s.dieUp_dueAt d, rfl, rfl, rfl, rfl, ?_⟩
    simp only [List.mem_cons, Prod.mk.injEq, List.not_mem_nil, or_false] at hcd
    obtain ⟨rfl, rfl⟩ | ⟨rfl, rfl⟩ | ⟨rfl, rfl⟩ := hcd
    · exact ends_airDieRelease ha hc hp hd
    · exact ends_lineDieRelease ha hc hp (hair (by decide)) hd
    · exact ends_fieldDieRelease ha hc hp (hair (by decide)) (hline rfl) hd
  case pocket =>
    exact fun s ha hd => ⟨s.pocketStart.dieUp .pocket, s.pocketStart.dieOut .pocket, s.pocketStart.dieUp_changes _,
      s.pocketStart.dieUp_links _, s.pocketStart.dieUp_dueAt _, rfl, rfl, ends_pocketDieRelease ha hd⟩
  case asserted =>
    intro s c hmem ha
    obtain ⟨hpocket, hair, hline, hfield⟩ := dieReleases_of_asserted ha
    simp only [List.mem_cons, List.not_mem_nil, or_false] at hmem
    obtain rfl | rfl | rfl | rfl := hmem
    exacts [hpocket, hair, hline, hfield]
  case waiting =>
    intro s c hmem h
    obtain ⟨hair, hline, hfield⟩ := dieReleases_of_waiting h
    simp only [List.mem_cons, List.not_mem_nil, or_false] at hmem
    obtain rfl | rfl | rfl := hmem
    exacts [hair, hline, hfield]

/-! ### The conductor's start (R526, R527) -/

/-- The conductor released, at its start work. -/
def State.conductorStarting (s : State) : State :=
  { s with rst := { s.rst with conductor := .starting, toRelease := { s.rst.toRelease with conductor := false } } }

/-- The start over: the conductor runs, and nothing waits for release. -/
def State.startOver (s : State) : State :=
  let w := s.cancel .startTimeout
  { w with
    rst := { w.rst with conductor := .running, toRelease := Reach.none }
    host := { w.host with resetSeen := true } }

/-- The start counted, and consecutive timeouts from 0 again. -/
def State.startTallied (s : State) : State := (s.startOver.add (ob 0x7210 0x0A) 1).wr (ob 0x7210 0x0B) 0

/-- The start counted and entered for the NVA. -/
def State.startCounted (s : State) : State := s.startTallied.commit (.own [(ob 0x7210 0x0A, s.startTallied.rd (ob 0x7210 0x0A))])

/-- The events and faults of the time before, and Running. -/
def State.startOpened (s : State) : State :=
  (((s.raise 1203 tenants (u8 (s.rd (ob 0x7210 0x01)))).releaseHeld).formLatched.setRun 1).openGate

/-- The oscillator's restart awaited. -/
def State.oscAwaited (s : State) : State := if s.time.restart && !s.isArmed .osc27 then s.armIn .osc27 500 else s

theorem State.startOver_changes : Changes [.timers, .rst, .host] [] s s.startOver := by
  refine ⟨rfl, fun p hp => ?_, fun _ _ => rfl⟩
  cases p
  case timers => exact absurd (by decide) hp
  case rst => exact absurd (by decide) hp
  case host => exact absurd (by decide) hp
  all_goals rfl

theorem State.startTallied_changes : Changes [.timers, .rst, .host] [ob 0x7210 0x0A, ob 0x7210 0x0B] s s.startTallied :=
  ((State.startOver_changes.trans (State.add_changes _ _ _)).trans (State.wr_changes _ _ _)).mono (by simp) (by simp)

theorem State.startTallied_parts : Changes [] [ob 0x7210 0x0A, ob 0x7210 0x0B] s.startOver s.startTallied :=
  (State.add_changes _ _ _).trans (State.wr_changes _ _ _)

theorem State.startTallied_count (h : s.rd (ob 0x7210 0x0A) + 1 < 2 ^ 32) :
    s.startTallied.rd (ob 0x7210 0x0A) = s.rd (ob 0x7210 0x0A) + 1 :=
  (State.rd_wr_other _ _ (by decide)).trans (State.rd_add_self _ _ _ (by rw [show Dict.bits (ob 0x7210 0x0A) = 32 by decide]; exact h))

theorem State.startCounted_changes : Changes [.timers, .rst, .host, .order] [ob 0x7210 0x0A, ob 0x7210 0x0B] s s.startCounted :=
  State.startTallied_changes.trans (State.commit_changes _ _)

theorem State.startCounted_same {p : Part} (hp : p ≠ .order) : p.same s.startOver s.startCounted :=
  (State.startTallied_parts.trans (State.commit_changes _ _)).same (by simpa using hp)

theorem exec_startUpComplete (ha : s.rst.asserted = false) (hc : s.rst.conductor = .starting)
    (hr : s.rst.toRelease = Reach.none ∨ s.rst.toRelease = ⟨false, false, false, false, false, true⟩) (ht : ∀ t : Tenant, s.tenantState t ≠ 3)
    (hi : s.pocket.inbox = false) : exec .startUpComplete s = done s.startCounted.startOpened.oscAwaited.joinNow.drainLine := by
  have hrel : (!s.rst.toRelease.empty && s.rst.toRelease != { Reach.none with chip := true }) = false := by
    obtain hr | hr := hr <;> rw [hr] <;> decide
  have hten : tenants.any (fun t => s.tenantState t == 3) = false :=
    List.any_eq_false.2 fun t _ => by simpa using ht t
  exact if_neg (by simp only [ha, hc, hrel, hten, hi]; decide)

/-- Settles O22: the start work follows the conductor's release, and the completion is the model's own chain of steps. -/
theorem conductorStartAndCompletion : Obligations.ConductorStartAndCompletion := by
  unfold Obligations.ConductorStartAndCompletion
  refine ⟨?start, ?complete, ?before⟩
  case start =>
    exact fun s l ha hc hp hrel => ⟨s.conductorStarting, if_neg (by simp [ha, hc, hp, hrel]), s.withRst_changes _, rfl⟩
  case complete =>
    intro s ha hc hr ht hi hcount
    refine ⟨s.startCounted, s.startCounted.startOpened, State.startCounted_changes, State.startCounted_same (p := .rst) (by decide),
      State.startCounted_same (p := .host) (by decide), ?timer, ?count, ?zero, ?order, ?opened, exec_startUpComplete ha hc hr ht hi⟩
    case timer =>
      exact (State.isArmed_congr (State.startCounted_same (p := .timers) (by decide)) _).trans (s.cancel_isArmed _)
    case count => exact ((State.commit_changes _ _).rd (by simp)).trans (State.startTallied_count hcount)
    case zero => exact ((State.commit_changes _ _).rd (by simp)).trans (State.rd_wr_self _ _ _)
    case order =>
      rw [← State.startTallied_count hcount]
      exact State.mem_order_commit_own _ _
    case opened =>
      unfold State.startOpened
      rw [State.startCounted_changes.rd (by decide)]
  case before => exact fun s h => if_pos (by simp [h])

end

end Sys2Proof.Machine
end

section
/-! PROOFS. The host port's transactions (R386 to R388, R395), and the statement `HostPortTransactions`. -/

namespace Sys2Proof.Machine

set_option Elab.async false -- as tasks, the proofs would each hold memory of their own until the end of the text

/-- The host port as given, all else left. -/
def State.withHost (s : State) (h : HostPort) : State := { s with host := h }

theorem State.withHost_changes (s : State) (h : HostPort) : Changes [.host] [] s (s.withHost h) := by
  refine ⟨rfl, fun p hp => ?_, fun _ _ => rfl⟩
  cases p
  case host => exact absurd (List.mem_singleton_self _) hp
  all_goals rfl

/-- The port selected. -/
def State.hostSelected (s : State) : State := s.withHost { s.host with selected := true }

/-- The status told: RESET_SEEN has been seen. -/
def State.hostTold (s : State) : State := s.withHost { s.host with
  selected := false, resetSeen := false
  sent := u8 s.statusByte ++
    (u8 s.eventBitmap ++ u8 (s.svc.replies.filter (fun r => r.req.transport == .host)).length ++ u8 s.statusByte) }

/-- The port after a transaction. -/
def State.hostSent (s : State) (sent : Octets) : State := s.withHost { s.host with selected := false, sent := sent }

theorem State.hostSent_changes (s : State) (sent : Octets) : Changes [.host] [] s (s.hostSent sent) ∧
    (s.hostSent sent).host = { s.host with selected := false, sent := sent } := ⟨s.withHost_changes _, rfl⟩

section
variable {s : State}

theorem exec_unserved (h : s.hostServed = false) (b : Octets) : Ends (.submit b) s (s.hostSent []) ∧
    ∀ c ∈ [Instr.fetchReply b, .fetchEvent b, .status b], Ends c s (s.hostSent (b.map (fun _ => 0))) := by
  have hno : (!s.hostServed) = true := by rw [h]; rfl
  refine ⟨if_pos hno, fun c hc => ?_⟩
  simp only [List.mem_cons, List.not_mem_nil, or_false] at hc
  obtain rfl | rfl | rfl := hc <;> exact if_pos hno

theorem hostServed_cond (h : s.hostServed = true) : ¬ (!s.hostServed) = true := by simp [h]

/-- A SUBMIT taken note of. -/
def State.submitSeen (s : State) (bad : Bool) : State :=
  s.withHost { s.host with selected := false, sent := u8 s.statusByte ++ [0], lastError := bad }

/-- The unit that a SUBMIT brings. -/
def hostArrival (b : Octets) : Arrival :=
  { transport := .host, peer := 0, tenant := ⟨byteAt b 0 % 8, Nat.mod_lt _ (by decide)⟩, counter := 0, mac := [], unit := slice 3 (u16At b 1) b }

theorem ends_submit_good {b : Octets} (h : s.hostServed = true) (hb : badSubmit b = false) (ho : s.hostOutstanding < 4) :
    Ends (.submit b) s (({ s.submitSeen false with svc := { s.svc with inbound := s.svc.inbound ++ [hostArrival b] } } : State)) := by
  have hgo : ¬ (badSubmit b || decide (4 ≤ s.hostOutstanding)) = true := by simp [hb, ho]
  refine (if_neg (hostServed_cond h)).trans ((if_neg hgo).trans ?_)
  rw [hb]
  rfl

theorem ends_submit_bad {b : Octets} (h : s.hostServed = true) (hb : badSubmit b = true ∨ 4 ≤ s.hostOutstanding) :
    Ends (.submit b) s (s.submitSeen (badSubmit b)) :=
  (if_neg (hostServed_cond h)).trans (if_pos (by simpa using hb))

theorem ends_fetchReply_none {b : Octets} (h : s.hostServed = true) (hr : s.hostReply = none) :
    Ends (.fetchReply b) s (s.clocked (withCrc [0, 0, 0])) := by
  refine (if_neg (hostServed_cond h)).trans ?_
  rw [hr]
  rfl

theorem ends_fetchReply_some {b : Octets} {r : Reply} (h : s.hostServed = true) (hr : s.hostReply = some r) :
    Ends (.fetchReply b) s ((s.clocked (withCrc (u8 r.tenant.val ++ u16 (replyUnit r).length ++ replyUnit r))).handOver r) := by
  refine (if_neg (hostServed_cond h)).trans ?_
  rw [hr]
  rfl

theorem tenant?_val {n : Nat} {t : Tenant} (h : n = t.val) : tenant? n = some t := by
  subst h
  exact dif_pos t.isLt

theorem ends_fetchEvent_nil {b : Octets} {t : Tenant} (h : s.hostServed = true) (ht : byteAt b 0 = t.val) (hq : s.hostEvents t = []) :
    Ends (.fetchEvent b) s (s.clocked (withCrc [0, 0])) := by
  refine (if_neg (hostServed_cond h)).trans ?_
  rw [tenant?_val ht]
  dsimp only
  rw [hq]
  rfl

theorem ends_fetchEvent_cons {b : Octets} {t : Tenant} {q : QEvent} {l : List QEvent} (h : s.hostServed = true) (ht : byteAt b 0 = t.val)
    (hq : s.hostEvents t = q :: l) : Ends (.fetchEvent b) s
      ((s.clocked (withCrc (u16 (reportUnit q 0 q.data.length).length ++ reportUnit q 0 q.data.length))).readEvent t (q.seq.getD 0)) := by
  refine (if_neg (hostServed_cond h)).trans ?_
  rw [tenant?_val ht]
  dsimp only
  rw [hq]
  rfl

/-- Settles O56, transaction by transaction. -/
theorem hostPortTransactions : Obligations.HostPortTransactions := by
  unfold Obligations.HostPortTransactions
  refine ⟨?running, ?select, ?noVio, ?unserved, ?submit, ?reply, ?event, ?status⟩
  case running =>
    intro s hup hp hrun
    refine ⟨s.hostSelected, ?_, s.withHost_changes _, rfl⟩
    exact (if_pos (by simp [hup, hp])).trans (congrArg done (State.wakeBy_of_running (s := s.hostSelected) hrun 4))
  case select =>
    exact fun s hup hp => ⟨s.hostSelected, if_pos (by simp [hup, hp]), s.withHost_changes _, rfl⟩
  case noVio => exact fun s hup => if_neg (by simp [hup])
  case unserved =>
    intro s b h
    obtain ⟨hsubmit, hothers⟩ := exec_unserved h b
    exact ⟨⟨_, hsubmit, s.hostSent_changes _⟩, fun c hc => ⟨_, hothers c hc, s.hostSent_changes _⟩⟩
  case submit =>
    intro s b h
    refine ⟨fun hb ho => ?_, fun hb => ⟨_, ends_submit_bad h hb, s.withHost_changes _, rfl⟩⟩
    have htenant : byteAt b 0 < 8 := by
      simp only [badSubmit, Bool.or_eq_false_iff, decide_eq_false_iff_not, Nat.not_le] at hb
      exact hb.1.1.1.2
    exact ⟨_, hostArrival b, ends_submit_good h hb ho, (s.withHost_changes _).trans (State.withSvc_changes _ _), rfl, rfl, rfl,
      Nat.mod_eq_of_lt htenant, rfl⟩
  case reply =>
    exact fun s b h => ⟨fun hr => ⟨_, ends_fetchReply_none h hr, s.withHost_changes _, rfl⟩,
      fun r hr => ⟨_, ends_fetchReply_some h hr, s.withHost_changes _, rfl⟩⟩
  case event =>
    exact fun s b t h ht => ⟨fun hq => ⟨_, ends_fetchEvent_nil h ht hq, s.withHost_changes _, rfl⟩,
      fun q l hq => ⟨_, ends_fetchEvent_cons h ht hq, s.withHost_changes _, rfl⟩⟩
  case status => exact fun s b h => ⟨s.hostTold, if_neg (hostServed_cond h), s.withHost_changes _, rfl⟩

end

end Sys2Proof.Machine
end

section
/-! PROOFS. The ends of NVA page commits (R374, R376, R407), and the statement `NvaCommits`. -/

namespace Sys2Proof.Machine

set_option Elab.async false -- as tasks, the proofs would each hold memory of their own until the end of the text

section
variable (s : State)

/-! ### The order and its waiting resets -/

/-- The order past its head. -/
def State.pastHead (l : List Commit) : State := { s with order := l, retried := false }

theorem State.pastHead_changes (l : List Commit) : Changes [.order, .retried] [] s (s.pastHead l) := by
  refine ⟨rfl, fun p hp => ?_, fun _ _ => rfl⟩
  cases p
  case order => exact absurd (by decide) hp
  case retried => exact absurd (by decide) hp
  all_goals rfl

/-- The last commit over where no reset waits. -/
theorem State.commitOver_of_idle {s : State} (ho : s.order = []) (hw : s.rst.waiting = []) (hq : s.rst.quiescing = none) :
    s.commitOver = s := by
  unfold State.commitOver
  rw [ho]
  change s.applyResets true = s
  refine State.applyResets_of_none hw ?_
  unfold State.heldResets
  rw [hq]
  exact ite_self _

/-! ### What a commit makes permanent -/

theorem State.keep_changes (l : List (Nat × Nat)) : Changes [.nvaObjs] [] s (s.keep l) := by
  refine ⟨rfl, fun p hp => ?_, fun _ _ => rfl⟩
  cases p
  case nvaObjs => exact absurd (by decide) hp
  all_goals rfl

theorem State.withCkpt_changes (c : Checkpoint) : Changes [.ckpt] [] s { s with ckpt := c } := by
  refine ⟨rfl, fun p hp => ?_, fun _ _ => rfl⟩
  cases p
  case ckpt => exact absurd (by decide) hp
  all_goals rfl

theorem State.charge_changes (t : Tenant) (k v : Nat) : Changes [.charges] [] s (s.charge t k v) := by
  unfold State.charge
  refine Changes.ite ((Changes.refl s).mono (by simp) (by simp)) ⟨rfl, fun p hp => ?_, fun _ _ => rfl⟩
  cases p
  case charges => exact absurd (by decide) hp
  all_goals rfl

theorem State.keepMine_changes (w : List (Nat × Nat)) : Changes [.nvaObjs, .ckpt] [] s (s.keepMine w) :=
  (s.keep_changes w).trans (State.withCkpt_changes _ _)

theorem State.keepMine_nva_self (k v : Nat) : (s.keepMine [(k, v)]).nva k = v := Tab.get_set_self _ _ _ _

theorem State.keepMine_nva_other (k v : Nat) {x : Nat} (h : x ≠ k) : (s.keepMine [(k, v)]).nva x = s.nva x := Tab.get_set_other _ _ _ h

theorem State.keepMine_ckpt (k v : Nat) : (s.keepMine [(k, v)]).ckpt =
    if k ∈ checkpointKeys then { s.ckpt with objs := Tab.set Dict.dflt s.ckpt.objs k v } else s.ckpt := by
  by_cases h : k ∈ checkpointKeys
  · have hmine : [(k, v)].filter (fun p => checkpointKeys.contains p.1) = [(k, v)] := by simp [h]
    rw [if_pos h, State.keepMine, hmine]
    rfl
  · have hmine : [(k, v)].filter (fun p => checkpointKeys.contains p.1) = [] := by simp [h]
    rw [if_neg h, State.keepMine, hmine]
    rfl

/-- A request's one value, counted against its tenant, permanent. -/
def State.oneKept (t : Tenant) (k v : Nat) : State :=
  let w := (s.charge t k v).keepMine [(k, v)]
  { w with svc := { w.svc with floorEnd := w.svc.floorEnd.set t (w.rd (obT 0x1034 0x04 t)) } }

theorem State.oneKept_changes (t : Tenant) (k v : Nat) : Changes [.charges, .nvaObjs, .ckpt, .svc] [] s (s.oneKept t k v) :=
  ((s.charge_changes t k v).trans (State.keepMine_changes _ _)).trans (State.withSvc_changes _ _)

end

section
variable {s : State}

theorem State.charge_nva (t : Tenant) (k v x : Nat) : (s.charge t k v).nva x = s.nva x :=
  congrArg (fun o => Tab.get Dict.dflt o x) ((s.charge_changes t k v).same (p := .nvaObjs) (by decide))

theorem State.dictKept_of_one {t : Tenant} {id k v : Nat} (hv : s.nva k ≠ v) :
    s.dictKept t id [(k, v)] = (s.oneKept t k v).allAnswered t id := by
  have hlist : [(k, v)].filter (fun p => s.nva p.1 != p.2) = [(k, v)] := by simp [hv]
  unfold State.dictKept
  rw [hlist]
  rfl

/-- A request of which nothing is still to come is answered OK. -/
theorem State.allAnswered_of_last {t : Tenant} {id : Nat} {j : Job} {d : Octets} (hj : (s.svc.queues[t]'t.isLt).find? (fun x => x.id == id) = some j)
    (hp : j.phase = .committing d) (hm : s.moreToCome t id = false) : s.allAnswered t id = s.reply t j 0 d := by
  unfold State.allAnswered
  rw [hj]
  dsimp only
  rw [hp]
  dsimp only
  rw [hm]
  rfl

theorem State.moreToCome_of_idle {t : Tenant} {id : Nat} (ho : s.order = []) (hq : s.crypto.queues[t0]'t0.isLt = []) (hr : s.crypto.running = none) :
    s.moreToCome t id = false := by
  unfold State.moreToCome
  rw [ho, hq, hr]
  rfl

/-! ### Commits that end -/

theorem ends_commit_good {n : Nat} {c : Commit} {l : List Commit} (hp : s.power.powered = true) (ho : s.order = c :: l) :
    Ends (.nvaCommitDone true n) s ((s.pastHead l).kept c).commitOver := by
  change execNvaCommitDone true n s = _
  unfold execNvaCommitDone
  rw [ho]
  exact (if_neg (by simp [hp])).trans (if_pos rfl)

theorem ends_commit_retried {n : Nat} {c : Commit} {l : List Commit} (hp : s.power.powered = true) (ho : s.order = c :: l)
    (hr : s.retried = false) : Ends (.nvaCommitDone false n) s { s with retried := true } := by
  change execNvaCommitDone false n s = _
  unfold execNvaCommitDone
  rw [ho]
  exact (if_neg (by simp [hp])).trans ((if_neg Bool.false_ne_true).trans (if_pos (by simp [hr])))

theorem ends_commit_failed {n : Nat} {c : Commit} {l : List Commit} (hp : s.power.powered = true) (ho : s.order = c :: l)
    (hr : s.retried = true) : Ends (.nvaCommitDone false n) s (((s.pastHead l).notKept c).fault 1 n).commitOver := by
  change execNvaCommitDone false n s = _
  unfold execNvaCommitDone
  rw [ho]
  exact (if_neg (by simp [hp])).trans ((if_neg Bool.false_ne_true).trans (if_neg (by simp [hr])))

theorem State.makeAgain_changes (c : Commit) : Changes [.again] [] s (s.makeAgain c) := by
  refine ⟨rfl, fun p hp => ?_, fun _ _ => rfl⟩
  cases p
  case again => exact absurd (by decide) hp
  all_goals rfl

theorem State.mem_makeAgain (c : Commit) : (s.now + 1000000, c) ∈ (s.makeAgain c).again :=
  List.mem_append_right _ (List.mem_singleton_self _)

theorem State.retried_changes (b : Bool) : Changes [.retried] [] s { s with retried := b } := by
  refine ⟨rfl, fun p hp => ?_, fun _ _ => rfl⟩
  cases p
  case retried => exact absurd (by decide) hp
  all_goals rfl

theorem State.notKept_own (w : List (Nat × Nat)) : s.notKept (.own w) = s.makeAgain (.own w) := rfl

/-- The last checkpoint's commit failed. -/
def State.ckptFailed (s : State) : State := { s with ckpt := { s.ckpt with failed := true } }

theorem State.notKept_checkpoint (x : Nat) : s.notKept (.checkpoint x) = s.ckptFailed.makeAgain (.checkpoint x) := rfl

theorem State.notKept_dict (t : Tenant) (id : Nat) (w : List (Nat × Nat)) :
    s.notKept (.dict t id w) = (s.putBack t w).failReply t id 9 := rfl

theorem State.order_commit_of_nil {c : Commit} (h : s.order = []) : (s.commit c).order = [c] := by
  unfold State.commit
  rw [h]

/-- The state after the last commit of the order, where no reset waits. -/
theorem ends_last {u : State} {n : Nat} {c : Commit} (hends : Ends (.nvaCommitDone true n) s ((s.pastHead []).kept c).commitOver)
    (hu : (s.pastHead []).kept c = u) (ho : u.order = []) (hw : u.rst = s.rst) (hwait : s.rst.waiting = []) (hq : s.rst.quiescing = none) :
    Ends (.nvaCommitDone true n) s u := by
  rwa [hu, State.commitOver_of_idle ho (hw ▸ hwait) (hw ▸ hq)] at hends

/-- A commit made again is taken out of those that wait for their instant. -/
theorem ends_nvaCommitRetry {d : Nat} {c : Commit} (ha : s.again = [(d, c)]) (hd : d ≤ s.now) (hl : s.listens = true) :
    Ends .nvaCommitRetry s (({ s with again := [] } : State).commit c) := by
  have hripe : s.again.filter (fun p => decide (p.1 ≤ s.now)) = [(d, c)] := by simp [ha, hd]
  have hlate : s.again.filter (fun p => decide (s.now < p.1)) = [] := by simp [ha, hd]
  change execNvaCommitRetry s = _
  unfold execNvaCommitRetry
  rw [hripe, hlate]
  exact if_neg (by simp [hl])

theorem State.withAgain_changes (l : List (Nat × Commit)) : Changes [.again] [] s { s with again := l } := by
  refine ⟨rfl, fun p hp => ?_, fun _ _ => rfl⟩
  cases p
  case again => exact absurd (by decide) hp
  all_goals rfl

/-- Settles O57, kind of commit by kind of commit. -/
theorem nvaCommits : Obligations.NvaCommits := by
  unfold Obligations.NvaCommits
  refine ⟨?none, ?last, ?any, ?retry, ?early⟩
  case none =>
    intro s ok n ho
    change execNvaCommitDone ok n s = _
    unfold execNvaCommitDone
    rw [ho]
    rfl
  case last =>
    intro s n hp hw hq
    refine ⟨fun ho => ?tags, fun k v ho => ?own, fun t j k v d ho hv hcq hcr hj hph => ?dict⟩
    case tags =>
      refine ⟨_, ends_last (ends_commit_good hp ho) rfl rfl rfl hw hq, ?_, rfl, rfl⟩
      refine ⟨rfl, fun p hpart => ?_, fun _ _ => rfl⟩
      cases p
      case order => exact absurd (by decide) hpart
      case retried => exact absurd (by decide) hpart
      case nvaTags => exact absurd (by decide) hpart
      all_goals rfl
    case own =>
      have hckpt := (s.pastHead []).keepMine_ckpt k v
      refine ⟨(s.pastHead []).keepMine [(k, v)], ends_last (ends_commit_good hp ho) rfl rfl rfl hw hq,
        (s.pastHead_changes []).trans (State.keepMine_changes _ _), State.keepMine_nva_self _ _ _,
        fun x hx => State.keepMine_nva_other _ _ _ hx, rfl, fun hk => hckpt.trans (if_neg hk), fun hk => ?_⟩
      rw [hckpt, if_pos hk]
      exact Tab.get_set_self _ _ _ _
    case dict =>
      have hch := (s.pastHead []).oneKept_changes t k v
      have hnva : ∀ x, ((s.pastHead []).charge t k v).nva x = s.nva x := State.charge_nva t k v
      have hckpt := ((s.pastHead []).charge t k v).keepMine_ckpt k v
      have hcharge := (s.pastHead []).charge_changes t k v
      have hsvc : ((s.pastHead []).charge t k v).svc = s.svc := hcharge.same (p := .svc) (by decide)
      have hcrypto : ((s.pastHead []).oneKept t k v).crypto = s.crypto := hch.same (p := .crypto) (by decide)
      have horder : ((s.pastHead []).oneKept t k v).order = [] := hch.same (p := .order) (by decide)
      refine ⟨(s.pastHead []).oneKept t k v, ?_, ((s.pastHead_changes []).trans hch).mono (by simp) (fun _ h => h),
        State.keepMine_nva_self _ _ _, fun x hx => (State.keepMine_nva_other _ _ _ hx).trans (hnva x), fun hk => ?_, ?_, horder⟩
      · have hends := ends_commit_good hp ho (n := n)
        rwa [State.kept, State.dictKept_of_one (s := s.pastHead []) hv, State.allAnswered_of_last (d := d) _ hph
          (State.moreToCome_of_idle horder (hcrypto ▸ hcq) (hcrypto ▸ hcr))] at hends
        change List.find? _ (((s.pastHead []).charge t k v).svc.queues[t]'t.isLt) = some j
        rw [hsvc]
        exact hj
      · exact (hckpt.trans (if_neg hk)).trans (hcharge.same (p := .ckpt) (by decide))
      · change { ((s.pastHead []).charge t k v).svc with floorEnd := (((s.pastHead []).charge t k v).svc.floorEnd.set t
          (((s.pastHead []).charge t k v).rd (obT 0x1034 0x04 t))) } = _
        rw [hsvc, hcharge.rd (by simp)]
        rfl
  case any =>
    intro s n c l hp ho
    refine ⟨ends_commit_good hp ho, fun hr => ⟨_, ends_commit_retried hp ho hr, State.retried_changes true, rfl⟩, fun hr w hc => ?own,
      fun hr x hc => ?checkpoint, fun hr t id w hc => ?dict⟩
    case own =>
      subst hc
      have hends := ends_commit_failed hp ho hr (n := n)
      rw [State.notKept_own] at hends
      exact ⟨_, hends, (s.pastHead_changes l).trans (State.makeAgain_changes _), rfl, rfl,
        State.mem_makeAgain (s := s.pastHead l) _⟩
    case checkpoint =>
      subst hc
      have hch : Changes [.order, .retried, .again, .ckpt] [] s ((s.pastHead l).ckptFailed.makeAgain (.checkpoint x)) :=
        (((s.pastHead_changes l).trans (State.withCkpt_changes _ _)).trans (State.makeAgain_changes _)).mono (by simp) (fun _ h => h)
      have hends := ends_commit_failed hp ho hr (n := n)
      rw [State.notKept_checkpoint] at hends
      exact ⟨_, hends, hch, rfl, rfl, State.mem_makeAgain (s := (s.pastHead l).ckptFailed) _, rfl⟩
    case dict =>
      subst hc
      have hends := ends_commit_failed hp ho hr (n := n)
      rw [State.notKept_dict] at hends
      exact ⟨_, hends, s.pastHead_changes l, rfl, rfl⟩
  case retry =>
    intro s d c ha hd hl ho
    refine ⟨_, ends_nvaCommitRetry ha hd hl, (State.withAgain_changes []).trans (State.commit_changes _ _), ?_,
      State.order_commit_of_nil (s := { s with again := [] }) ho⟩
    exact (State.commit_changes _ _).same (p := .again) (by decide)
  case early =>
    intro s h
    have hripe : s.again.filter (fun p => decide (p.1 ≤ s.now)) = [] := List.filter_eq_nil_iff.2 fun p hp => by
      simpa using h p hp
    change execNvaCommitRetry s = _
    unfold execNvaCommitRetry
    rw [hripe]
    rfl

end

end Sys2Proof.Machine
end

section
/-! PROOFS. Tenants and their allotments (chapter 14), and the statement `TenantsAndAllotments`. -/

namespace Sys2Proof.Machine

set_option Elab.async false -- as tasks, the proofs would each hold memory of their own until the end of the text

/-! ### Objects forgotten, and objects written together -/

theorem Tab.find_filter (p : Nat → Bool) (t : Tab) (k : Nat) :
    Tab.find (t.filter (fun e => !p e.1)) k = if p k then none else Tab.find t k := by
  induction t with
  | nil => simp [Tab.find]
  | cons e t ih =>
    by_cases he : p e.1 = true
    · rw [List.filter_cons_of_neg (by simp [he]), ih]
      by_cases hk : p k = true
      · rw [if_pos hk, if_pos hk]
      · rw [if_neg hk, if_neg hk]
        exact (if_neg (fun h : e.1 = k => hk (h ▸ he))).symm
    · rw [List.filter_cons_of_pos (by simp [he])]
      by_cases hek : e.1 = k
      · rw [if_neg (hek ▸ he)]
        exact (if_pos hek).trans (if_pos hek).symm
      · have hcons : ∀ u : Tab, Tab.find (e :: u) k = Tab.find u k := fun u => if_neg hek
        rw [hcons, hcons, ih]

section
variable (s : State)

theorem State.rd_forgetKeys (p : Nat → Bool) (k : Nat) : (s.forgetKeys p).rd k = if p k then Dict.dflt k else s.rd k := by
  unfold State.rd State.forgetKeys Tab.get
  rw [Tab.find_filter]
  split <;> rfl

theorem State.forgetKeys_within (p : Nat → Bool) : Within [] p s (s.forgetKeys p) := by
  refine ⟨rfl, fun q _ => ?_, fun k hk => (s.rd_forgetKeys p k).trans (if_neg (by simp [hk]))⟩
  cases q <;> rfl

/-- Of several values written together each is read back. -/
theorem State.rd_wrAll_mem {l : List (Nat × Nat)} (h : (l.map Prod.fst).Nodup) {p : Nat × Nat} (hp : p ∈ l) : (s.wrAll l).rd p.1 = p.2 := by
  induction l generalizing s with
  | nil => simp at hp
  | cons q l ih =>
    rw [List.map_cons, List.nodup_cons] at h
    obtain ⟨hq, hl⟩ := h
    rw [State.wrAll_cons]
    obtain rfl | hp := List.mem_cons.1 hp
    · rw [State.rd_wrAll_other l _ _ fun r hr e => hq (List.mem_map.2 ⟨r, hr, e.symm⟩), State.rd_wr_self]
    · exact ih _ hl hp

end

/-! ### Commands of a tenant, accepted and refused -/

/-- A refused write is answered with its status, from what a refusal still does. -/
theorem Answers.of_refusal {c : Instr} {s : State} {t : Tenant} {j : Job} {i sub off st : Nat} {v : Octets} {o : Own}
    (hexec : exec c s = done (s.serveOwn t o)) (hturn : s.turn t = some j) (hop : j.req.op = .write i sub off v)
    (hown : ownOf i sub v = o) (hst : s.writeStatus t j.req.transport i sub off v = st) (h0 : st ≠ 0) :
    Answers c s (s.refusedEffect t i sub v st) t j st [] := by
  have hserve : s.serveOwn t o = (s.refusedEffect t i sub v st).reply t j st [] := by
    unfold State.serveOwn State.serveWrite
    simp only [hturn, hop, hown, if_true, hst, ne_eq, h0, not_false_iff]
  rw [Answers, hexec, hserve, done_eq]

theorem dict_row_tenantCommand : (Dict.row? 0x9000 0x01).map Row.acc = some .wo := by decide

/-- The keys of a tenant's record are no per-tenant copies, and neither is T0's command status. -/
theorem ownCopy_record {n : Tenant} : ∀ m ∈ [1, 2, 3, 4, 5, 7, 8, 9], ownCopy n (ob (0x9020 + n.val) m) = false ∧ ownCopy n (ob 0x9000 0x03) = false := by
  by_cases h : n = 0
  · subst h
    decide
  · intro m _
    have hn : n.val ≠ 0 := fun e => h (Fin.ext e)
    have hmod : ∀ i k : Nat, (ob i k % 8 == n.val) = false := fun i k => by
      rw [ob, Nat.mul_mod_left]
      exact beq_eq_false_iff_ne.2 hn.symm
    simp only [ownCopy, hmod, Bool.false_and, and_self]

section
variable (s : State) (n : Tenant)

/-- What CREATE writes into the record of the tenant. -/
def madeValues : List (Nat × Nat) :=
  [(ob (0x9020 + n.val) 1, 1), (ob (0x9020 + n.val) 2, s.now)] ++ [3, 4, 5, 7, 8, 9].map (fun m => (ob (0x9020 + n.val) m, 0))

/-- A tenant's airtime at 0. -/
def State.airtimeZero : State := { s with air := { s.air with tenantAir := s.air.tenantAir.filter (fun e => e.1 != n.val) } }

theorem State.rd_airtimeZero (k : Nat) : (s.airtimeZero n).rd k = s.rd k := rfl

/-- A tenant made: its copies at their defaults, its record, and its airtime. -/
def State.tenantFresh : State :=
  ((s.forgetKeys (fun k => ownCopy n k && keyIndex k != 0x1034)).wrAll (madeValues s n)).airtimeZero n

/-- The objects that CREATE may change. -/
def madeKey (k : Nat) : Bool := ownCopy n k || k == ob 0x9000 0x03 || [1, 2, 3, 4, 5, 7, 8, 9].any (fun m => k == ob (0x9020 + n.val) m)

theorem mem_madeValues {p : Nat × Nat} (hp : p ∈ madeValues s n) : ∃ m ∈ [1, 2, 3, 4, 5, 7, 8, 9], p.1 = ob (0x9020 + n.val) m := by
  simp only [madeValues, List.map_cons, List.map_nil, List.cons_append, List.nil_append, List.mem_cons, List.not_mem_nil, or_false] at hp
  obtain rfl | rfl | rfl | rfl | rfl | rfl | rfl | rfl := hp <;> exact ⟨_, by decide, rfl⟩

theorem nodup_madeValues : ((madeValues s n).map Prod.fst).Nodup := by
  simp [madeValues]

/-- The record made: ACTIVE, its date, no reset yet, and its count of discarded results. -/
theorem madeValues_mem : (ob (0x9020 + n.val) 1, 1) ∈ madeValues s n ∧ (ob (0x9020 + n.val) 2, s.now) ∈ madeValues s n ∧
    (ob (0x9020 + n.val) 3, 0) ∈ madeValues s n ∧ (ob (0x9020 + n.val) 9, 0) ∈ madeValues s n := by
  simp [madeValues]

theorem State.airtimeZero_within : Within [.air] (madeKey n) s (s.airtimeZero n) :=
  .of_changes (s.withAir_changes _) (by simp) (by simp)

theorem State.tenantFresh_within : Within [.air] (madeKey n) s (s.tenantFresh n) := by
  have hforget : Within [.air] (madeKey n) s (s.forgetKeys (fun k => ownCopy n k && keyIndex k != 0x1034)) :=
    (s.forgetKeys_within _).mono (by simp) fun k hk => by
      simp only [Bool.and_eq_true] at hk
      simp [madeKey, hk.1]
  have hwrite : Within [.air] (madeKey n) (s.forgetKeys (fun k => ownCopy n k && keyIndex k != 0x1034))
      ((s.forgetKeys (fun k => ownCopy n k && keyIndex k != 0x1034)).wrAll (madeValues s n)) := by
    refine .of_changes (State.wrAll_changes _ _) (by simp) fun k hk => ?_
    obtain ⟨p, hp, rfl⟩ := List.mem_map.1 hk
    obtain ⟨m, hm, hpm⟩ := mem_madeValues s n hp
    rw [madeKey, hpm, Bool.or_eq_true]
    exact .inr (List.any_eq_true.2 ⟨m, hm, beq_self_eq_true _⟩)
  exact (hforget.trans hwrite).trans (State.airtimeZero_within _ n)

theorem State.tenantFresh_record {p : Nat × Nat} (hp : p ∈ madeValues s n) : (s.tenantFresh n).rd p.1 = p.2 := by
  have h := (s.forgetKeys (fun k => ownCopy n k && keyIndex k != 0x1034)).rd_wrAll_mem (nodup_madeValues s n) hp
  exact (State.rd_airtimeZero _ n _).trans h

theorem State.tenantFresh_other {k : Nat} (h : ∀ m ∈ [1, 2, 3, 4, 5, 7, 8, 9], k ≠ ob (0x9020 + n.val) m) :
    (s.tenantFresh n).rd k = if (ownCopy n k && keyIndex k != 0x1034) = true then Dict.dflt k else s.rd k := by
  refine ((State.rd_airtimeZero _ n k).trans (State.rd_wrAll_other _ _ _ fun p hp => ?_)).trans (s.rd_forgetKeys _ k)
  obtain ⟨m, hm, hpm⟩ := mem_madeValues s n hp
  rw [hpm]
  exact h m hm

theorem State.tenantFresh_copy {k : Nat} (hk : ownCopy n k = true) (hi : keyIndex k ≠ 0x1034) : (s.tenantFresh n).rd k = Dict.dflt k := by
  refine (s.tenantFresh_other n fun m hm e => ?_).trans (if_pos (by simp [hk, hi]))
  rw [e, (ownCopy_record m hm).1] at hk
  exact Bool.false_ne_true hk

/-- T0's command status cleared. -/
def State.statusClear : State := s.wr (ob 0x9000 0x03) 0

theorem State.statusClear_changes : Changes [] [ob 0x9000 0x03] s s.statusClear := s.wr_changes _ _

theorem State.statusClear_now : s.statusClear.now = s.now := s.statusClear_changes.now (by simp) (by decide) (by decide)

end

section
variable {s : State} {t : Tenant} {j : Job}

theorem serves_tenantCreate {n : Tenant} (hj : s.Writes t j 0x9000 0x01 [1]) (hn : s.tenantTarget = n) :
    Serves (.tenantCreate t) s ((s.statusClear.tenantFresh n).raise 1210 (withT0 n) (u8 n.val)) t j
      ([(ob (0x9020 + n.val) 1, 1), (ob (0x9020 + n.val) 2, s.now)] ++ [3, 4, 5, 7, 9].map (fun m => (ob (0x9020 + n.val) m, 0))) false := by
  have h := exec_of_writesAt (c := .tenantCreate t) hj rfl rfl
  rw [State.effect_of_command dict_row_tenantCommand] at h
  rw [← s.statusClear_now, ← hn]
  exact h

theorem serves_tenantDelete (hj : s.Writes t j 0x9000 0x01 [2]) :
    Serves (.tenantDelete t) s (s.statusClear.tenantDelete s.tenantTarget) t j [] false :=
  Serves.of_command hj rfl rfl dict_row_tenantCommand rfl

theorem serves_tenantReset (hj : s.Writes t j 0x9000 0x01 [3]) :
    Serves (.tenantReset t) s (s.statusClear.tenantReset s.tenantTarget) t j [] false :=
  Serves.of_command hj rfl rfl dict_row_tenantCommand rfl

theorem answers_tenantCommand_of_refused {c : Instr} {o : Own} {v st : Nat} (hexec : exec c s = done (s.serveOwn t0 o))
    (hown : ownOf 0x9000 0x01 (u8 v) = o) (hturn : s.turn t0 = some j) (hop : j.req.op = .write 0x9000 0x01 0 (u8 v))
    (hst : s.writeStatus t0 j.req.transport 0x9000 0x01 0 (u8 v) = st) (h0 : st ≠ 0) :
    Answers c s (s.wr (ob 0x9000 0x03) st) t0 j st [] := by
  have heff : s.refusedEffect t0 0x9000 0x01 (u8 v) st = s.wr (ob 0x9000 0x03) st :=
    (if_neg (by simp)).trans ((if_neg (by simp)).trans ((if_neg (by simp)).trans (if_pos ⟨rfl, rfl, rfl⟩)))
  rw [← heff]
  exact Answers.of_refusal hexec hturn hop hown hst h0

/-! ### Resets and deletions (R402, R410 to R412) -/

theorem State.dropRequests_changes (s : State) (n : Tenant) : Changes [.svc, .timers] [] s (s.dropRequests n) :=
  (((s.setQueue_changes n _).trans (State.cancel_changes _ _)).trans (State.withSvc_changes _ _)).mono (by simp) (fun _ h => h)

theorem State.dropRequests_queue (s : State) (n : Tenant) : (s.dropRequests n).svc.queues[n]'n.isLt = [] ∧
    ∀ x, x ≠ n → (s.dropRequests n).svc.queues[x]'x.isLt = s.svc.queues[x]'x.isLt :=
  ⟨Vector.getElem_set_self _, fun x hx => Vector.getElem_set_ne n.isLt x.isLt fun e => hx (Fin.ext e.symm)⟩

theorem State.dropRequests_block (s : State) (n : Tenant) : (s.dropRequests n).svc.blocks[n]'n.isLt = none := Vector.getElem_set_self _

theorem State.dropRequests_replies (s : State) (n : Tenant) : ∀ x ∈ (s.dropRequests n).svc.replies, x.tenant ≠ n := fun _ hx =>
  bne_iff_ne.1 (List.mem_filter.1 hx).2

/-- A reset over, its counts not yet entered for the NVA. -/
def State.tenantActive (s : State) (n : Tenant) : State :=
  (s.inc (ob (0x9020 + n.val) 0x03)).wrAll [(ob (0x9020 + n.val) 0x01, 1), (ob (0x9020 + n.val) 0x04, s.now)]

theorem dict_bits_resets : ∀ n : Tenant, Dict.bits (ob (0x9020 + n.val) 0x03) = 32 := by decide

theorem State.tenantActive_changes (s : State) (n : Tenant) : Changes []
    [ob (0x9020 + n.val) 0x01, ob (0x9020 + n.val) 0x03, ob (0x9020 + n.val) 0x04] s (s.tenantActive n) :=
  ((s.inc_changes _).trans (State.wrAll_changes _ _)).mono (by simp) (by simp)

theorem State.tenantActive_record {n : Tenant} (h : s.rd (ob (0x9020 + n.val) 0x03) + 1 < 2 ^ 32) :
    (s.tenantActive n).rd (ob (0x9020 + n.val) 0x01) = 1 ∧
      (s.tenantActive n).rd (ob (0x9020 + n.val) 0x03) = s.rd (ob (0x9020 + n.val) 0x03) + 1 ∧
      (s.tenantActive n).rd (ob (0x9020 + n.val) 0x04) = s.now := by
  have hcount : (s.inc (ob (0x9020 + n.val) 0x03)).rd (ob (0x9020 + n.val) 0x03) = s.rd (ob (0x9020 + n.val) 0x03) + 1 :=
    State.rd_inc_self _ _ (by rw [dict_bits_resets]; exact h)
  exact ⟨State.rd_wrAll_mem _ (p := (ob (0x9020 + n.val) 0x01, 1)) (by simp) List.mem_cons_self,
    (State.rd_wrAll_other _ _ _ (by simp)).trans hcount, State.rd_wrAll_mem _ (p := (ob (0x9020 + n.val) 0x04, _)) (by simp) (List.mem_cons_of_mem _ List.mem_cons_self)⟩

theorem State.tenantBack_eq {n : Tenant} (h : s.rd (ob (0x9020 + n.val) 0x03) + 1 < 2 ^ 32) : s.tenantBack n =
    (s.tenantActive n).commit (.own [(ob (0x9020 + n.val) 0x03, s.rd (ob (0x9020 + n.val) 0x03) + 1), (ob (0x9020 + n.val) 0x04, s.now)]) := by
  obtain ⟨-, h3, h4⟩ := State.tenantActive_record h
  rw [← h3, ← h4]
  unfold State.tenantBack State.tenantActive
  dsimp only

/-! ### Allotments (R414, R466) -/

/-- The fields of an allotment record are persisted numbers of no one tenant. -/
theorem dict_row_allotment : ∀ n : Tenant, ∀ k ∈ [1, 2, 3, 4, 5, 6, 7, 8],
    (Dict.row? (0x9010 + n.val) k).map (fun r => (r.acc, r.ty.isOctets, r.per)) = some (.rwp, false, false) := by decide

theorem State.store_allotment {n : Tenant} {k : Nat} (x : Nat) : s.store t (0x9010 + n.val) k x = s.allotStore n k x := by
  have hn := n.isLt
  have hindex : (⟨(0x9010 + n.val - 0x9010) % 8, Nat.mod_lt _ (by decide)⟩ : Tenant) = n := Fin.ext (by simp)
  unfold State.store
  simp only [hindex]
  repeat rw [if_neg (by omega)]
  rw [if_pos (by omega)]

theorem serves_allotmentWrite {n : Tenant} {k : Nat} {v : Octets} (h1 : 1 ≤ k) (h8 : k ≤ 8) (hj : s.Writes t j (0x9010 + n.val) k v) :
    Serves (.allotmentWrite t) s (s.allotStore n k (leNat v)) t j
      (if s.needsCommit (ob (0x9010 + n.val) k) (leNat v) then (ob (0x9010 + n.val) k, leNat v) :: s.allotKeeps n k (leNat v) else []) false := by
  have hn := n.isLt
  have hk : k ∈ [1, 2, 3, 4, 5, 6, 7, 8] := by simp; omega
  obtain ⟨r, hrow, hr⟩ := Option.map_eq_some_iff.1 (dict_row_allotment n k hk)
  have hacc : r.acc = .rwp := congrArg (fun p => p.1) hr
  have hty : r.ty.isOctets = false := congrArg (fun p => p.2.1) hr
  have hper : r.per = false := congrArg (fun p => p.2.2) hr
  have hkey : keyFor t (0x9010 + n.val) k = ob (0x9010 + n.val) k := by simp [keyFor, hrow, hper]
  have hindex : (⟨(0x9010 + n.val - 0x9010) % 8, Nat.mod_lt _ (by decide)⟩ : Tenant) = n := Fin.ext (by simp)
  have hval : s.spliced t (0x9010 + n.val) k 0 v = leNat v := by simp [State.spliced, hrow, hty]
  have h := exec_of_writesAt (c := .allotmentWrite t) hj rfl (ownOf_allotment k v (by omega))
  have hrange : 0x9010 ≤ 0x9010 + n.val ∧ 0x9010 + n.val ≤ 0x9017 := by omega
  simp only [State.effect, hrow, hacc, hval, hkey, State.store_allotment, hindex, if_pos hrange, reduceCtorEq, if_false, true_and] at h
  exact h

/-- An allotment written with the value that it has. -/
theorem State.allotStore_same {n : Tenant} {k v : Nat} (h : s.rd (ob (0x9010 + n.val) k) = v) : s.allotStore n k v = s := by
  subst h
  unfold State.allotStore
  simp only [Bool.and_not_self, Bool.false_eq_true, if_false, List.foldl_fixed, ite_self, if_true]

/-- An allotment that no resource follows. -/
theorem State.allotStore_plain {n : Tenant} {k v : Nat} (h : s.rd (ob (0x9010 + n.val) k) ≠ v) (h4 : 4 ≤ k) :
    s.allotStore n k v = (s.wr (ob (0x9010 + n.val) k) v).raise 1214 (withT0 n) (u8 n.val) := by
  have hchange : ∀ w : State, w.allotChange n k (s.rd (ob (0x9010 + n.val) k)) v = w := fun w => by
    unfold State.allotChange
    split
    · omega
    · omega
    · omega
    · rfl
  unfold State.allotStore
  simp only [if_neg (show ¬ k = 2 by omega), if_neg h, hchange]

end

/-! ### The statement -/

/-- Settles O58, clause by clause. -/
theorem tenantsAndAllotments : Obligations.TenantsAndAllotments := by
  unfold Obligations.TenantsAndAllotments
  refine ⟨?create, ?commands, ?refused, fun s n h => if_neg h, ?resetting, fun s n => ⟨s.dropRequests_changes n, (s.dropRequests_queue n).1,
    s.dropRequests_block n, (s.dropRequests_queue n).2, s.dropRequests_replies n⟩, ?copies, ?resetDone, ?resetOpen, ?deleted, ?deleting,
    fun s t n j k v h1 h8 hj => serves_allotmentWrite h1 h8 hj,
    fun s n k v => ⟨State.allotStore_same, fun h h4 _ => ⟨_, State.allotStore_plain h h4, s.wr_changes _ _, State.rd_wr_self _ _ _⟩⟩⟩
  case create =>
    intro s t j n hj hn
    have hrecord := fun (p : Nat × Nat) hp => s.statusClear.tenantFresh_record n (p := p) hp
    obtain ⟨hstate, hdate, hresets, hresults⟩ := madeValues_mem s.statusClear n
    have hwithin := s.statusClear.tenantFresh_within n
    refine ⟨s.statusClear.tenantFresh n, serves_tenantCreate hj hn, hwithin.pending, fun p hp => ?_, rfl, fun k hk h3 hm => ?_,
      fun k hk hi => s.statusClear.tenantFresh_copy n hk hi, ?_, hrecord _ hstate, ?_, hrecord _ hresets, hrecord _ hresults⟩
    · exact Part.same_trans (s.statusClear_changes.same (by simp)) (hwithin.same p (by simpa using hp))
    · refine (hwithin.rd k ?_).trans (s.statusClear_changes.rd (by simpa using h3))
      simp only [madeKey, hk, Bool.false_or, Bool.or_eq_false_iff, beq_eq_false_iff_ne, List.any_eq_false, beq_iff_eq]
      exact ⟨h3, hm⟩
    · refine (s.statusClear.tenantFresh_other n fun m hm e => ?_).trans ?_
      · unfold ob at e
        simp only [List.mem_cons, List.not_mem_nil, or_false] at hm
        omega
      · rw [(ownCopy_record 1 (by decide)).2]
        exact State.rd_wr_self _ _ _
    · rw [← s.statusClear_now]
      exact hrecord _ hdate
  case commands =>
    exact fun s t j => ⟨s.statusClear, s.statusClear_changes, State.rd_wr_self _ _ _, serves_tenantDelete, serves_tenantReset⟩
  case refused =>
    intro s j v st hv hturn hop hst h0
    refine ⟨_, s.wr_changes _ _, State.rd_wr_self _ _ _, ?_⟩
    obtain rfl | rfl | rfl := hv <;> exact answers_tenantCommand_of_refused rfl rfl hturn hop hst h0
  case resetting => exact fun s n h => ⟨s.wr (ob (0x9020 + n.val) 0x01) 2, if_pos h, s.wr_changes _ _, State.rd_wr_self _ _ _⟩
  case copies =>
    intro s n k
    refine (s.rd_forgetKeys _ k).trans ?_
    simp only [Bool.and_eq_true, beq_iff_eq]
  case resetDone =>
    intro s n h2 hv hup hc ho
    obtain ⟨h1, h3, h4⟩ := State.tenantActive_record hc
    have horder : (s.tenantActive n).order = [] := ((s.tenantActive_changes n).same (p := .order) (by simp)).trans ho
    have hcommit := fun c : Commit => (s.tenantActive n).commit_changes c
    refine ⟨s.tenantBack n, if_pos ⟨h2, hv, hup⟩, ?_⟩
    rw [State.tenantBack_eq hc]
    exact ⟨(s.tenantActive_changes n).trans (hcommit _), ((hcommit _).rd (by simp)).trans h1, ((hcommit _).rd (by simp)).trans h3,
      ((hcommit _).rd (by simp)).trans h4, State.order_commit_of_nil horder⟩
  case resetOpen => exact fun s n h => if_neg fun ⟨h2, hv, _⟩ => h.elim (fun e => e h2) (fun e => Bool.false_ne_true (hv.symm.trans e))
  case deleted =>
    intro s n h3 hd hl
    refine ⟨s.wrKeep [(ob (0x9020 + n.val) 0x01, 0)], if_pos ⟨h3, hd, hl⟩, (s.wr_changes _ _).trans (State.commit_changes _ _), ?_⟩
    exact ((State.commit_changes _ _).rd (by simp)).trans (State.rd_wr_self _ _ _)
  case deleting => exact fun s n h => if_neg fun ⟨h3, hd, _⟩ => h.elim (fun e => e h3) (fun e => Bool.false_ne_true (e.symm.trans hd))

end Sys2Proof.Machine
end
